-- ==== Sys2Proof/Word.lean ====
section
/-! DEFINITION. The word types of the Frexia and their plainest arithmetic: the 32-bit register word (R5), the byte,
and the little-endian joining of bytes (R4). -/

namespace Sys2Proof

/-- A register word: every register is 32 bits wide (R5). -/
abbrev Word := BitVec 32

/-- One byte of a memory, of NOR flash or of a datagram. -/
abbrev Byte := BitVec 8

/-- The bits `hi:lo` of a word, as a number. -/
def Word.bits (v : Word) (hi lo : Nat) : Nat :=
  v.toNat / 2 ^ lo % 2 ^ (hi + 1 - lo)

/-- A word of ones in bits `hi:lo`. -/
def Word.mask (hi lo : Nat) : Word :=
  BitVec.ofNat 32 ((2 ^ (hi + 1 - lo) - 1) * 2 ^ lo)

/-- The word with bits `hi:lo` replaced by `n` (its low bits). -/
def Word.withBits (v : Word) (hi lo n : Nat) : Word :=
  (v &&& ~~~ Word.mask hi lo) ||| BitVec.ofNat 32 (n % 2 ^ (hi + 1 - lo) * 2 ^ lo)

/-- The number that a list of bytes spells, least significant byte first (R4). -/
def leNat : List Byte → Nat
  | [] => 0
  | b :: r => b.toNat + 256 * leNat r

/-- The low `k` bytes of a number, least significant first (R4). -/
def toLe : Nat → Nat → List Byte
  | 0, _ => []
  | k + 1, n => BitVec.ofNat 8 (n % 256) :: toLe k (n / 256)

/-- The number that a list of bytes spells, most significant byte first (network order, R80). -/
def beNat (l : List Byte) : Nat := leNat l.reverse

/-- The low `k` bytes of a number, most significant first. -/
def toBe (k n : Nat) : List Byte := (toLe k n).reverse

/-- A number of `w` bits read as two's complement. -/
def sext (w n : Nat) : Int :=
  if n % 2 ^ w < 2 ^ (w - 1) then (n % 2 ^ w : Nat) else ((n % 2 ^ w : Nat) : Int) - (2 ^ w : Nat)

/-- An integer as a number of `w` bits, in two's complement. -/
def twos (w : Nat) (i : Int) : Nat := (i % (2 ^ w : Nat)).toNat

/-- An integer clamped to a range. -/
def clampInt (lo hi i : Int) : Int := if i < lo then lo else if hi < i then hi else i

/-- The quotient rounded to the nearest integer, ties to even. -/
def rneDiv (n : Int) (d : Nat) : Int :=
  let q := n / (d : Int)
  let r := n % (d : Int)
  if 2 * r < (d : Int) then q else if (d : Int) < 2 * r then q + 1 else if q % 2 = 0 then q else q + 1

/-- The quotient rounded up. -/
def ceilDiv (n d : Nat) : Nat := if d = 0 then 0 else (n + d - 1) / d

end Sys2Proof
end

