-- ==== Sys2Proof/Machine/Types.lean ====
section
/-! DEFINITION. The types of the commands' operands and of what leaves the Frexia. -/

namespace Sys2Proof.Machine

/-- Kinds of initiator, in the order of the access log's codes (R693, LATE_ERROR INIT). -/
inductive InitKind where
  | bed | barrow | decode | pruner | appCore | harvest | intake | gardener | shed | host
  deriving DecidableEq, Repr

/-- The initiator code that the logs record. -/
def InitKind.code : InitKind → Nat
  | .bed => 0 | .barrow => 1 | .decode => 2 | .pruner => 3 | .appCore => 4
  | .harvest => 5 | .intake => 6 | .gardener => 7 | .shed => 8 | .host => 9

/-- Who issues an access: the kind of initiator and the plot it acts for (0: plot 0 firmware; the host acts for none). -/
structure Who where
  kind : InitKind
  plot : Fin 9
  deriving DecidableEq, Repr

/-- What the environment answers during boot steps 1 to 9: SFDP offers 8D-8D-8D and 4 KiB erase (R108), the random number
generator's draws pass their health test (R140), the eye check of the training cache passes, and full DRAM training ends well
(R476). -/
structure BootEnv where
  sfdpOk : Bool
  rngOk : Bool
  eyeOk : Bool
  trainOk : Bool
  deriving DecidableEq, Repr

/-- An active NVMe namespace, as Identify answers: its number, LBA size and length, and whether its format carries metadata. -/
structure Namespace where
  nsid : Nat
  lbaSize : Nat
  lbas : Nat
  metadata : Bool
  deriving DecidableEq, Repr

/-- A valid Cellar slot as the recovery search reads it: MAGIC, PLOT, VERSION and DEVICE_ID match (R506). -/
structure CellarSlot where
  plot : Nat
  slot : Nat
  bootSeq : Nat
  crateSeq : Nat
  deriving DecidableEq, Repr

/-- What the SSD answers at boot step 10. `energy` is the newest KIND 1 METER record of plot 0's Cellar whose crate verifies:
the four accumulators in mWh, mWh, mvarh and mVAh (R567). -/
structure SsdAnswer where
  up : Bool
  speed : Nat
  width : Nat
  namespaces : List Namespace
  slots : List CellarSlot
  energy : Option (List Nat)
  deriving DecidableEq, Repr

/-- State of an IEEE 1588 port. -/
inductive PtpState where
  | initializing | listening | master | passive | uncalibrated | slave
  deriving DecidableEq, Repr

/-- A TAP operation (R684 to R686): a TAP reset, an update of the instruction, both in one TCK cycle, or a data scan. -/
inductive TapOp where
  | reset | update (ir : Nat) | resetWithUpdate (ir : Nat) | scan
  deriving DecidableEq, Repr

/-- Outcome of a CSI-2 header's ECC (R167, R200). -/
inductive Ecc where
  | good | corrected | bad
  deriving DecidableEq, Repr

/-- What leaves the Frexia, or answers an access, in the order it leaves. -/
inductive Out where
  /-- The value a register read returns. -/
  | readData (w : Who) (v : Word)
  /-- A bus error (R35). -/
  | busError (w : Who)
  /-- An access fault (R35). -/
  | accessFault (w : Who)
  /-- The endpoint completes a read with Completer Abort (R34). -/
  | completerAbort
  /-- An MSI on a vector (R497). -/
  | msi (vector : Nat)
  /-- A posted write to host memory (R497). -/
  | hostWrite (addr : Nat) (data : List Byte)
  /-- A UDP datagram (R502). -/
  | datagram (port srcIp dstIp sport dport : Nat) (data : List Byte)
  /-- An NVMe command (R503): opcode, slot, generation, namespace, LBA, blocks, data of a Write. -/
  | nvme (op slot gen nsid lba blocks : Nat) (data : List Byte)
  /-- The NVMe controller is reset (R622). -/
  | nvmeReset
  /-- A Trellis flit leaves a port (R522), as bytes. -/
  | flit (port : Nat) (data : List Byte)
  /-- A whole Ethernet frame leaves a port. -/
  | ethFrame (port : Nat) (data : List Byte)
  /-- A non-maskable interrupt on Shed management core 0 (R630). -/
  | nmi
  /-- A system call returns `a0`, `a1` to a Runner's activation. -/
  | syscall (runner : Nat) (a0 a1 : Nat)
  /-- JTAG data out. -/
  | tdo (v : Nat)
  deriving DecidableEq, Repr

/-- What a read of a unit meets: clean, a corrected data word of its group, or one still uncorrectable at the retry. -/
inductive EccOutcome where
  | clean
  | corrected (word : Nat)
  | uncorrectable (word : Nat)
  deriving DecidableEq, Repr

/-- The writer of a posted write: its kind, plot, picture stream (decode and the Pruner), generation (R619), job ID and command
sequence number (0 where it serves none), and whether it writes a stream's reference store. -/
structure Writer where
  kind : InitKind
  plot : Fin 9
  stream : Nat
  gen : Nat
  job : Option Nat
  cmdSeq : Nat
  refStore : Bool
  deriving DecidableEq, Repr

/-- Who asks, for what plot, through which real-time port. -/
structure Reader where
  kind : InitKind
  plot : Fin 9
  port : Option Nat
  deriving DecidableEq, Repr

/-- What the bitstream says of a NAL unit that its header does not: its active parameter sets lie inside the support table
(R201, R202); it is an SEI with a recovery point; an omission notice stands for a slice. -/
structure NalFacts where
  supported : Bool
  recoverySei : Bool
  lostSlice : Bool
  deriving DecidableEq, Repr

/-- What the bitstream says of the slice that a core takes: its luma samples inside the conformance window (R205), whether its
picture is or follows a random access picture's recovery point (R223), predicts from a concealed or generated region, or names
an absent reference (R222). -/
structure SliceFacts where
  samples : Nat
  recovered : Bool
  predicts : Bool
  absentRef : Bool
  deriving DecidableEq, Repr

/-- How a slice ends: decoded, or the cause of R218 that its data gives (1 SYNTAX, 2 MISSING, 5 DRAM). -/
inductive SliceEnd where
  | decoded | syntaxError | missing | dram
  deriving DecidableEq, Repr

/-- What decoding a slice gives: its end, the row r of R213, whether it ends its picture, whether its PPS does not filter across
slices, whether deblocking is off in it, and the samples of the band to emit: luma rows, then chroma rows, as stored. -/
structure SliceResult where
  ends : SliceEnd
  row : Nat
  last : Bool
  noCross : Bool
  deblockOff : Bool
  luma : List Byte
  chroma : List Byte
  deriving DecidableEq, Repr

end Sys2Proof.Machine
end

