-- ==== Sys2Proof/Syntax.lean ====
section
/-! DEFINITION. The commands of the block: one constructor for each row of the opcode table, with what its sender chooses and what
the surroundings answer as its operands. -/

namespace Sys2Proof

open Sys2Proof.Machine

/-- The commands, in the order of the opcode table. Each names the row and the rule that governs it. -/
inductive Instr where
  /-- PORST_N_ASSERT (R607). -/
  | porstNAssert
  /-- PORST_N_RELEASE (R105). -/
  | porstNRelease (env : BootEnv)
  /-- RESET_N_ASSERT (R607). -/
  | resetNAssert
  /-- RESET_N_RELEASE (R657). -/
  | resetNRelease (env : BootEnv)
  /-- PCIE_EP_LINK_TRAINED (R105). -/
  | pcieEpLinkTrained (speed : Nat) (width : Nat) (msi : Nat)
  /-- NVME_BRING_UP (R503). -/
  | nvmeBringUp (ssd : SsdAnswer)
  /-- BOOT_ADMISSION (R398). -/
  | bootAdmission
  /-- REPLANT_JOB_DRAIN_END (R121). -/
  | replantJobDrainEnd
  /-- REPLANT_FLUSH_END (R121). -/
  | replantFlushEnd (env : BootEnv)
  /-- STAGE_BEGIN (R116). -/
  | stageBegin (tag : Nat) (a0 : Word) (a1 : Word)
  /-- STAGE_WRITE (R116). -/
  | stageWrite (tag : Nat) (a0 : Word) (a1 : Word)
  /-- STAGE_END (R116). -/
  | stageEnd (tag : Nat) (a0 : Word)
  /-- REPLANT (R120). -/
  | replant (tag : Nat)
  /-- ROLLBACK (R128). -/
  | rollback (tag : Nat)
  /-- ACCEPT (R123). -/
  | accept (tag : Nat) (a0 : Word)
  /-- SET_TIME (R689). -/
  | setTime (tag : Nat) (a0 : Word) (a1 : Word)
  /-- LEDGER_READ (R116). -/
  | ledgerRead (tag : Nat) (a0 : Word)
  /-- STAGING_SESSION_TIMEOUT (R118). -/
  | stagingSessionTimeout
  /-- MANAGEMENT_TICK (R61). -/
  | managementTick (watts : Nat) (checkins : Nat)
  /-- HARDENING_WINDOW_END (R124). -/
  | hardeningWindowEnd
  /-- SECOND_BOUNDARY (R61). -/
  | secondBoundary (hottest : Int) (tcxo : Int)
  /-- PPS_FALL (R690). -/
  | ppsFall
  /-- HOLDOVER_RATE_UPDATE (R59). -/
  | holdoverRateUpdate (temp : Int)
  /-- HOUR_BOUNDARY (R567). -/
  | hourBoundary
  /-- TEN_SECOND_BOUNDARY (R557). -/
  | tenSecondBoundary
  /-- SUNDIAL_STEP (R65). -/
  | sundialStep (w : Who) (hi : Word)
  /-- SDL_RATE_WRITE (R53). -/
  | sdlRateWrite (w : Who) (v : Word)
  /-- SDL_NOW_LO_READ (R54). -/
  | sdlNowLoRead (w : Who)
  /-- SDL_TMR_CMP_LO_WRITE (R66). -/
  | sdlTmrCmpLoWrite (w : Who) (n : Nat) (v : Word)
  /-- SDL_TMR_CMP_HI_WRITE (R66). -/
  | sdlTmrCmpHiWrite (w : Who) (n : Nat) (v : Word)
  /-- SDL_TMR_CTRL_WRITE (R64). -/
  | sdlTmrCtrlWrite (w : Who) (n : Nat) (v : Word)
  /-- SDL_TMR_MISSED_READ (R67). -/
  | sdlTmrMissedRead (w : Who) (n : Nat)
  /-- TIMER_FIRE (R63). -/
  | timerFire (n : Nat)
  /-- GPIO_EDGE_CAPTURE (R55). -/
  | gpioEdgeCapture (g : Nat) (rising : Bool)
  /-- SDL_CAP_INFO_READ (R54). -/
  | sdlCapInfoRead (w : Who)
  /-- REFCLK_LOSS (R43). -/
  | refclkLoss
  /-- REFCLK_RETURN (R43). -/
  | refclkReturn
  /-- PTP_MESSAGE_RX (R57). -/
  | ptpMessageRx (n : Nat) (st : PtpState) (est : Option (Int × Int × Int))
  /-- SERVO_LOCK_GAINED (R58). -/
  | servoLockGained
  /-- SERVO_LOCK_LOST (R58). -/
  | servoLockLost
  /-- SLEW_END (R689). -/
  | slewEnd
  /-- PLT_CTRL_FALLOW (R153). -/
  | pltCtrlFallow (w : Who)
  /-- FALLOW_DRAIN_END (R158). -/
  | fallowDrainEnd (k : Nat) (rngOk : Bool)
  /-- FALLOW_ZERO_DONE (R154). -/
  | fallowZeroDone (k : Nat)
  /-- CSI2_FRAME_START (R186). -/
  | csi2FrameStart (port : Nat) (vc : Nat) (number : Nat) (ecc : Ecc) (sot : Bool)
  /-- CSI2_LONG_PACKET (R169). -/
  | csi2LongPacket (port : Nat) (vc : Nat) (dt : Nat) (data : List Byte) (crcOk : Bool) (overflow : Bool) (ecc : Ecc) (sot : Bool)
  /-- CSI2_FRAME_END (R195). -/
  | csi2FrameEnd (port : Nat) (vc : Nat) (number : Nat) (ecc : Ecc) (sot : Bool)
  /-- ETH_FRAME_RX (R173). -/
  | ethFrameRx (port : Nat) (frame : List Byte) (fcsOk : Bool) (full : Bool)
  /-- ACCESS_UNIT_TIMEOUT (R176). -/
  | accessUnitTimeout (stream : Nat)
  /-- ENTRY_COMMIT (R182). -/
  | entryCommit (stream : Nat)
  /-- CONTEXT_STALL (R177). -/
  | contextStall (stream : Nat)
  /-- ITK_CTX_COMMIT (R185). -/
  | itkCtxCommit (w : Who) (stream : Nat)
  /-- ITK_CTX_RELOCK (R174). -/
  | itkCtxRelock (w : Who) (stream : Nat)
  /-- ITK_CTX_EN_WRITE (R177). -/
  | itkCtxEnWrite (w : Who) (stream : Nat) (on : Bool)
  /-- RTSP_SESSION_SETUP (R173). -/
  | rtspSessionSetup (stream : Nat) (port : Nat) (udp : Nat) (ip : Nat) (pt : Nat)
  /-- PAIR_CHOICE_FINAL (R192). -/
  | pairChoiceFinal (k : Nat)
  /-- NAL_UNIT_HANDOFF (R211). -/
  | nalUnitHandoff (stream : Nat) (facts : NalFacts)
  /-- SLICE_START (R206). -/
  | sliceStart (c : Nat) (facts : SliceFacts)
  /-- SLICE_END (R213). -/
  | sliceEnd (c : Nat) (result : SliceResult)
  /-- PRN_PIPE_COMMIT (R237). -/
  | prnPipeCommit (w : Who) (k : Nat)
  /-- STEER_COPY_DONE (R237). -/
  | steerCopyDone (k : Nat)
  /-- PRUNER_LATCH (R238). -/
  | prunerLatch (k : Nat)
  /-- CROP_START (R256). -/
  | cropStart (e : Nat)
  /-- CROP_END (R249). -/
  | cropEnd (e : Nat)
  /-- DRILL_WAIT_EXPIRY (R249). -/
  | drillWaitExpiry (plot : Nat) (group : Nat)
  /-- DRILL_READY_NOTICE (R252). -/
  | drillReadyNotice (plot : Nat) (group : Nat)
  /-- DRILL_SLOT_FREE (R253). -/
  | drillSlotFree (plot : Nat) (group : Nat)
  /-- BED_COMMAND_START (R263). -/
  | bedCommandStart (b : Nat)
  /-- BED_COMMAND_END (R265). -/
  | bedCommandEnd (b : Nat)
  /-- RV32_INSTRUCTION (R268). -/
  | rv32Instruction (b : Nat) (th : Nat) (word : Word)
  /-- BED_LOAD_RETURN (R266). -/
  | bedLoadReturn (b : Nat) (th : Nat) (poisoned : Bool)
  /-- BED_FENCE (R286). -/
  | bedFence (b : Nat) (th : Nat)
  /-- TCFG (R280). -/
  | tcfg (b : Nat) (th : Nat) (rd : Fin 32) (rs1 : Fin 32)
  /-- TZERO (R280). -/
  | tzero (b : Nat) (th : Nat) (a : Fin 32)
  /-- TMMA (R273). -/
  | tmma (b : Nat) (th : Nat) (a : Fin 32) (rs1 : Fin 32) (rs2 : Fin 32)
  /-- TLDACC (R280). -/
  | tldacc (b : Nat) (th : Nat) (a : Fin 32) (rs1 : Fin 32)
  /-- TSTACC (R280). -/
  | tstacc (b : Nat) (th : Nat) (a : Fin 32) (rs1 : Fin 32)
  /-- TRQ (R282). -/
  | trq (b : Nat) (th : Nat) (a : Fin 32) (rs1 : Fin 32) (rs2 : Fin 32)
  /-- TWAIT (R280). -/
  | twait (b : Nat) (th : Nat) (rd : Fin 32) (n : Fin 32)
  /-- TFENCE (R287). -/
  | tfence (b : Nat) (th : Nat) (m : Fin 32)
  /-- TBAR (R289). -/
  | tbar (b : Nat) (th : Nat) (rs1 : Fin 32)
  /-- TEXIT (R265). -/
  | texit (b : Nat) (th : Nat)
  /-- TBOLT (R280). -/
  | tbolt (b : Nat) (th : Nat) (rd : Fin 32) (rs1 : Fin 32)
  /-- TPUT (R283). -/
  | tput (b : Nat) (th : Nat) (rd : Fin 32) (rs1 : Fin 32)
  /-- TVLD (R280). -/
  | tvld (b : Nat) (th : Nat) (vd : Fin 32) (rs1 : Fin 32)
  /-- TVST (R280). -/
  | tvst (b : Nat) (th : Nat) (vs3 : Fin 32) (rs1 : Fin 32)
  /-- ENGINE_OP_DONE (R271). -/
  | engineOpDone (b : Nat)
  /-- TPUT_COMPLETE (R283). -/
  | tputComplete (b : Nat) (j : Nat)
  /-- BED_CTRL_RESET (R295). -/
  | bedCtrlReset (w : Who) (b : Nat)
  /-- BED_RESET_DONE (R295). -/
  | bedResetDone (b : Nat)
  /-- DSP_Q_HEAD_WRITE (R391). -/
  | dspQHeadWrite (w : Who) (plot : Nat) (q : Nat) (off : Word)
  /-- COMMAND_DISPATCH (R392). -/
  | commandDispatch (kind : Nat) (n : Nat)
  /-- STRIPE_START (R349). -/
  | stripeStart (b : Nat)
  /-- COMMAND_TIME_LIMIT (R395). -/
  | commandTimeLimit (kind : Nat) (n : Nat)
  /-- JOB_TEARDOWN (R406). -/
  | jobTeardown
  /-- STK_TAKE (R401). -/
  | stkTake (w : Who) (ctx : Nat) (stake : Nat)
  /-- STK_REL (R402). -/
  | stkRel (w : Who) (ctx : Nat) (stake : Nat)
  /-- LAYER_READ_DONE (R363). -/
  | layerReadDone (k : Nat) (ok : Bool) (data : List Byte)
  /-- PINNED_PLACEMENT_SETTLED (R368). -/
  | pinnedPlacementSettled (m : Nat)
  /-- WEIGHT_FETCH_SETTLED (R370). -/
  | weightFetchSettled (h : Nat)
  /-- GRAFT_STAGING_SETTLED (R376). -/
  | graftStagingSettled (m : Nat)
  /-- GRAFT_LAYER_SWAP (R377). -/
  | graftLayerSwap (m : Nat)
  /-- BRW_CH_EN_WRITE (R438). -/
  | brwChEnWrite (w : Who) (c : Nat) (on : Bool)
  /-- BRW_CH_PAUSE (R435). -/
  | brwChPause (w : Who) (c : Nat) (on : Bool)
  /-- BRW_CH_DOORBELL (R422). -/
  | brwChDoorbell (w : Who) (c : Nat)
  /-- BRW_CTRL_PAUSE (R435). -/
  | brwCtrlPause (w : Who) (on : Bool)
  /-- BRW_CH_LEVEL_ADD (R431). -/
  | brwChLevelAdd (w : Who) (c : Nat) (v : Word)
  /-- BRW_CH_TRIG_WRITE (R433). -/
  | brwChTrigWrite (w : Who) (c : Nat) (v : Word)
  /-- START_EVENT (R432). -/
  | startEvent (c : Nat)
  /-- OWN_REREAD_RETURN (R428). -/
  | ownRereadReturn (c : Nat)
  /-- BARROW_READ_RETURN (R416). -/
  | barrowReadReturn (c : Nat) (poisoned : Bool)
  /-- DESCRIPTOR_COMPLETE (R423). -/
  | descriptorComplete (c : Nat)
  /-- STATUS_WRITE_PERFORMED (R423). -/
  | statusWritePerformed (c : Nat)
  /-- OWN_WRITE_PERFORMED (R423). -/
  | ownWritePerformed (c : Nat)
  /-- DESCRIPTOR_SETTLED (R424). -/
  | descriptorSettled (c : Nat)
  /-- CHANNEL_PAUSED (R435). -/
  | channelPaused (c : Nat)
  /-- DRAM_WRITE_ACCEPT (R453). -/
  | dramWriteAccept (writer : Writer) (port : Option Nat) (addr : Nat) (data : List Byte) (merge : EccOutcome)
  /-- DRAM_READ_RETURN (R458). -/
  | dramReadReturn (reader : Reader) (addr : Nat) (outcome : EccOutcome) (ahead : Bool) (served : Bool)
  /-- REFRESH_DUE (R467). -/
  | refreshDue (ch : Nat) (rank : Nat) (wilt : Bool)
  /-- ZQ_LATCH (R468). -/
  | zqLatch
  /-- DQS_OSC_UPDATE (R468). -/
  | dqsOscUpdate (drift : Nat)
  /-- WEEDER_READ (R473). -/
  | weederRead (outcome : EccOutcome)
  /-- WILT_RAISE (R463). -/
  | wiltRaise (r : Nat) (plot : Nat) (level : Nat)
  /-- WILT_DROP (R463). -/
  | wiltDrop (r : Nat) (level : Nat)
  /-- DMC_NBR_K_WRITE (R472). -/
  | dmcNbrKWrite (w : Who) (k : Nat)
  /-- SUBMIT (R486). -/
  | submit (c : Nat) (addr : Nat) (n : Nat)
  /-- CRATE_WAIT_EXPIRY (R494). -/
  | crateWaitExpiry (plot : Nat)
  /-- HVS_P_WAIT_WRITE (R494). -/
  | hvsPWaitWrite (w : Who) (plot : Nat) (us : Word)
  /-- CRATE_SEALED (R495). -/
  | crateSealed (plot : Nat)
  /-- MSI_HOLDOFF_EXPIRY (R498). -/
  | msiHoldoffExpiry (ring : Nat)
  /-- HR_CTRL_EN (R498). -/
  | hrCtrlEn (ring : Nat) (en : Bool) (irq : Bool)
  /-- HR_CONS_WRITE (R499). -/
  | hrConsWrite (ring : Nat) (v : Word)
  /-- CELLAR_WRITE_ISSUE (R505). -/
  | cellarWriteIssue (plot : Nat)
  /-- CELLAR_WRITE_COMPLETE (R505). -/
  | cellarWriteComplete (plot : Nat)
  /-- REPLAY_GO (R508). -/
  | replayGo (w : Who) (plot : Nat) (udp : Bool)
  /-- REPLAY_CRATE_READ (R508). -/
  | replayCrateRead (plot : Nat) (udp : Bool) (crate : List Byte)
  /-- TRL_P_EN_WRITE (R515). -/
  | trlPEnWrite (w : Who) (k : Nat) (on : Bool)
  /-- TRL_P_RETRAIN (R515). -/
  | trlPRetrain (w : Who) (k : Nat)
  /-- TRAINING_COMPLETE (R516). -/
  | trainingComplete (k : Nat) (node : Nat) (ring : Nat) (port : Nat) (order : Nat)
  /-- TRAINING_TIMEOUT (R515). -/
  | trainingTimeout (k : Nat)
  /-- DOWN_HOLDOFF_EXPIRY (R515). -/
  | downHoldoffExpiry (k : Nat)
  /-- FLIT_RX (R522). -/
  | flitRx (k : Nat) (flit : List Byte)
  /-- RESEND_TIMER_EXPIRY (R524). -/
  | resendTimerExpiry (k : Nat)
  /-- CREDIT_TIMEOUT (R528). -/
  | creditTimeout (k : Nat) (vc : Nat)
  /-- CRED_RESYNC_RESEND (R542). -/
  | credResyncResend (k : Nat)
  /-- DECIMATOR_SAMPLE (R547). -/
  | decimatorSample (codes : List Int) (filtered : List Nat)
  /-- HOLD_MIN_EXPIRY (R565). -/
  | holdMinExpiry (o : Nat)
  /-- ACTIVATION_START (R582). -/
  | activationStart (c : Nat)
  /-- EXIT (R583). -/
  | exit (c : Nat) (status : Nat)
  /-- WAIT (R585). -/
  | wait (c : Nat) (mask : Nat)
  /-- JOB_INPUT (R390). -/
  | jobInput (c : Nat) (buf : Nat)
  /-- STEER (R237). -/
  | steer (c : Nat) (pipe : Nat) (addr : Nat) (count : Nat)
  /-- STEER_SEQ (R584). -/
  | steerSeq (c : Nat) (pipe : Nat)
  /-- MODEL_LOAD (R363). -/
  | modelLoad (c : Nat) (m : Nat)
  /-- MODEL_UNLOAD (R367). -/
  | modelUnload (c : Nat) (m : Nat)
  /-- MODEL_GRAFT (R381). -/
  | modelGraft (c : Nat) (m : Nat)
  /-- MODEL_STATE (R364). -/
  | modelState (c : Nat) (m : Nat)
  /-- TRL_RESERVE (R529). -/
  | trlReserve (c : Nat) (port : Nat) (credits : Nat)
  /-- TRL_RELEASE (R529). -/
  | trlRelease (c : Nat) (port : Nat)
  /-- FWD_SET (R536). -/
  | fwdSet (c : Nat) (e : Nat) (stream : Nat) (v : Nat)
  /-- CFWD_SET (R538). -/
  | cfwdSet (c : Nat) (on : Nat) (node : Nat)
  /-- TIME (R584). -/
  | time (c : Nat)
  /-- RUNNER_TRAP (R583). -/
  | runnerTrap (c : Nat) (sub : Nat)
  /-- TRACKER_RUN (R589). -/
  | trackerRun (onBed : Bool) (n : Nat)
  /-- PWR_REQ_DORMANCY (R600). -/
  | pwrReqDormancy (w : Who)
  /-- DORMANCY_GATED (R600). -/
  | dormancyGated
  /-- PWR_REQ_RUN (R600). -/
  | pwrReqRun (w : Who)
  /-- DORMANCY_EXIT_POWERED (R600). -/
  | dormancyExitPowered
  /-- PWR_REQ_FROST (R601). -/
  | pwrReqFrost (w : Who)
  /-- FROST_DRAIN_DONE (R601). -/
  | frostDrainDone
  /-- WAKE_SOURCE_FIRE (R604). -/
  | wakeSourceFire (src : Nat) (rising : Bool)
  /-- FROST_EXIT_READY (R604). -/
  | frostExitReady
  /-- NVME_COMPLETION (R624). -/
  | nvmeCompletion (completion : Bool) (slot : Nat) (gen : Nat)
  /-- NVME_COMMAND_TIMEOUT (R622). -/
  | nvmeCommandTimeout (slot : Nat) (ok : Bool)
  /-- MODEL_LOAD_TIMEOUT (R622). -/
  | modelLoadTimeout (k : Nat)
  /-- WATCHDOG_EXPIRY (R630). -/
  | watchdogExpiry (served : Bool)
  /-- WATCHDOG_STAGE2 (R631). -/
  | watchdogStage2 (env : BootEnv)
  /-- SHED_EXCEPTION (R632). -/
  | shedException (served : Bool)
  /-- THERMTRIP (R633). -/
  | thermtrip
  /-- TEMP_HI_CHANGE (R633). -/
  | tempHiChange (hot : Bool)
  /-- BAR0_TLP_REFUSED (R34). -/
  | bar0TlpRefused (read : Bool)
  /-- PCIE_LINK_RESET (R609). -/
  | pcieLinkReset
  /-- ETH_LINK_CHANGE (R607). -/
  | ethLinkChange (n : Nat) (up : Bool) (blockLock : Bool) (anDone : Bool)
  /-- REGISTER_WRITE (R6). -/
  | registerWrite (w : Who) (ctx : Nat) (addr : Nat) (bytes : Nat) (v : Word)
  /-- TRELLIS_BLOCK_LOCK_LOSS (R515). -/
  | trellisBlockLockLoss (k : Nat) (lane : Nat)
  /-- FLIT_TX (R526). -/
  | flitTx (k : Nat)
  /-- ETH_EGRESS_TIMESTAMP (R55). -/
  | ethEgressTimestamp (n : Nat) (seq : Nat)
  /-- AON_OSCILLATOR_RUNNING (R654). -/
  | aonOscillatorRunning
  /-- ROOT_PORT_RECOVERY (R622). -/
  | rootPortRecovery
  /-- JTAG_TAP_UPDATE (R685). -/
  | jtagTapUpdate (op : TapOp)
  /-- REGISTER_READ (R6). -/
  | registerRead (w : Who) (addr : Nat) (bytes : Nat)
  /-- FENCE_NVME_RETIRE (R637). -/
  | fenceNvmeRetire (k : Nat)
  deriving DecidableEq, Repr

end Sys2Proof
end

