-- ==== Sys2Proof/Machine/Crypto.lean ====
section
/-! DEFINITION. The cryptographic standards the spec relies on (00_scope, Standards relied on): SHA-256 and SHA-512 (FIPS
180-4), HMAC and HKDF (RFC 5869), AES-256 (FIPS 197), GCM (SP 800-38D), XTS (IEEE 1619), Ed25519 verification (RFC 8032),
and the two CRCs. PRESUMED: the bodies follow the standards the spec names and does not repeat (assumption 3). -/

namespace Sys2Proof.Machine.Crypto

/-- The integer `k`-th root, bit by bit. -/
def iroot (k n : Nat) : Nat → Nat → Nat
  | 0, acc => acc
  | b + 1, acc => iroot k n b (if (acc + 2 ^ b) ^ k ≤ n then acc + 2 ^ b else acc)

/-- Whether no number from 2 below `d` divides `n`. -/
def noDivisor (n : Nat) : Nat → Bool
  | 0 => true
  | 1 => true
  | 2 => true
  | d + 1 => n % d != 0 && noDivisor n d

/-- The first primes, all below 410: the 80 that the SHA-2 constants use. -/
def primes : List Nat := (List.range 410).filter (fun n => decide (2 ≤ n) && noDivisor n n)

/-- SHA-2 round constants: the fractional bits of the primes' cube roots. -/
def shaK (w rounds : Nat) : List Nat :=
  (primes.take rounds).map (fun p => iroot 3 (p * 2 ^ (3 * w)) (w + 4) 0 % 2 ^ w)

/-- SHA-2 initial hash: the fractional bits of the first eight primes' square roots. -/
def shaH (w : Nat) : List Nat :=
  (primes.take 8).map (fun p => iroot 2 (p * 2 ^ (2 * w)) (w + 4) 0 % 2 ^ w)

/-- Rotation right of a `w`-bit number. -/
def ror (w n x : Nat) : Nat := x / 2 ^ n + x % 2 ^ n * 2 ^ (w - n)

/-- The shift and rotation amounts that tell SHA-256 from SHA-512. -/
structure ShaParams where
  w : Nat
  rounds : Nat
  big0 : Nat × Nat × Nat
  big1 : Nat × Nat × Nat
  small0 : Nat × Nat × Nat
  small1 : Nat × Nat × Nat
  deriving DecidableEq, Repr

def sha256Params : ShaParams :=
  { w := 32, rounds := 64, big0 := (2, 13, 22), big1 := (6, 11, 25), small0 := (7, 18, 3), small1 := (17, 19, 10) }

def sha512Params : ShaParams :=
  { w := 64, rounds := 80, big0 := (28, 34, 39), big1 := (14, 18, 41), small0 := (1, 8, 7), small1 := (19, 61, 6) }

def shaBig (w : Nat) (r : Nat × Nat × Nat) (x : Nat) : Nat := ror w r.1 x ^^^ ror w r.2.1 x ^^^ ror w r.2.2 x
def shaSmall (w : Nat) (r : Nat × Nat × Nat) (x : Nat) : Nat := ror w r.1 x ^^^ ror w r.2.1 x ^^^ x / 2 ^ r.2.2

/-- The message schedule, newest word first. -/
def shaSchedule (p : ShaParams) : Nat → List Nat → List Nat
  | 0, ws => ws
  | n + 1, ws =>
    let x := (shaSmall p.w p.small1 (ws.getD 1 0) + ws.getD 6 0 + shaSmall p.w p.small0 (ws.getD 14 0) + ws.getD 15 0)
      % 2 ^ p.w
    shaSchedule p n (x :: ws)

/-- One SHA-2 round. -/
def shaRound (p : ShaParams) (st : List Nat) (kw : Nat × Nat) : List Nat :=
  match st with
  | [a, b, c, d, e, f, g, h] =>
    let m := 2 ^ p.w
    let t1 := h + shaBig p.w p.big1 e + ((e &&& f) ^^^ ((m - 1 - e) &&& g)) + kw.1 + kw.2
    let t2 := shaBig p.w p.big0 a + ((a &&& b) ^^^ (a &&& c) ^^^ (b &&& c))
    [(t1 + t2) % m, a, b, c, (d + t1) % m, e, f, g]
  | other => other

/-- One block of SHA-2. -/
def shaBlock (p : ShaParams) (k : List Nat) (h : List Nat) (block : List Byte) : List Nat :=
  let wb := p.w / 8
  let w0 := (List.range 16).map (fun i => beNat ((block.drop (i * wb)).take wb))
  let ws := (shaSchedule p (p.rounds - 16) w0.reverse).reverse
  let st := (k.zip ws).foldl (shaRound p) h
  (h.zip st).map (fun x => (x.1 + x.2) % 2 ^ p.w)

/-- Fold over the message's blocks. -/
def shaBlocks (p : ShaParams) (k : List Nat) : Nat → List Nat → List Byte → List Nat
  | 0, h, _ => h
  | n + 1, h, m => shaBlocks p k n (shaBlock p k h (m.take (p.w * 2))) (m.drop (p.w * 2))

/-- SHA-2 of a message, as bytes. -/
def sha2 (p : ShaParams) (m : List Byte) : List Byte :=
  let bl := p.w * 2
  let len := m.length
  let z := (2 * bl - 1 - p.w / 4 - len % bl) % bl
  let pad := (0x80 : Byte) :: List.replicate z 0 ++ toBe (p.w / 4) (8 * len)
  let full := m ++ pad
  ((shaBlocks p (shaK p.w p.rounds) (full.length / bl) (shaH p.w) full).map (toBe (p.w / 8))).flatten

/-- SHA-256 (FIPS 180-4): 32 bytes. -/
def sha256 (m : List Byte) : List Byte := sha2 sha256Params m

/-- SHA-512 (FIPS 180-4): 64 bytes. -/
def sha512 (m : List Byte) : List Byte := sha2 sha512Params m

/-- HMAC-SHA-256. -/
def hmac (key m : List Byte) : List Byte :=
  let k0 := if 64 < key.length then sha256 key else key
  let k := k0 ++ List.replicate (64 - k0.length) 0
  sha256 (k.map (· ^^^ 0x5c) ++ sha256 (k.map (· ^^^ 0x36) ++ m))

/-- The expand step of HKDF, block after block. -/
def hkdfExpand (prk info : List Byte) : Nat → Nat → List Byte → List Byte
  | 0, _, _ => []
  | n + 1, i, t =>
    let b := hmac prk (t ++ info ++ [BitVec.ofNat 8 i])
    b ++ hkdfExpand prk info n (i + 1) b

/-- HKDF with SHA-256 (RFC 5869). -/
def hkdf (ikm salt info : List Byte) (len : Nat) : List Byte :=
  (hkdfExpand (hmac salt ikm) info ((len + 31) / 32) 1 []).take len

/-- Multiplication by x in GF(2^8). -/
def xtime (x : Nat) : Nat := if x < 128 then 2 * x else (2 * x) % 256 ^^^ 0x1b

/-- Multiplication in GF(2^8), over the bits of the second factor. -/
def gmul8 : Nat → Nat → Nat → Nat
  | 0, _, _ => 0
  | n + 1, a, b => (if b % 2 = 1 then a else 0) ^^^ gmul8 n (xtime a) (b / 2)

def gmul (a b : Nat) : Nat := gmul8 8 a b

/-- The inverse in GF(2^8): the 254th power (0 of 0). -/
def ginv (a : Nat) : Nat :=
  let a2 := gmul a a
  let a4 := gmul a2 a2
  let a8 := gmul a4 a4
  let a16 := gmul a8 a8
  let a32 := gmul a16 a16
  let a64 := gmul a32 a32
  let a128 := gmul a64 a64
  gmul a2 (gmul a4 (gmul a8 (gmul a16 (gmul a32 (gmul a64 a128)))))

def rotl8 (n x : Nat) : Nat := (x * 2 ^ n) % 256 + x / 2 ^ (8 - n)

/-- The AES S-box as a table. -/
def sboxTable : List Nat :=
  (List.range 256).map (fun x =>
    let b := ginv x
    b ^^^ rotl8 1 b ^^^ rotl8 2 b ^^^ rotl8 3 b ^^^ rotl8 4 b ^^^ 0x63)

def sbox (x : Nat) : Nat := sboxTable.getD x 0

/-- The AES-256 key schedule: words of four bytes, newest first. -/
def aesExpand : Nat → Nat → Nat → List (List Nat) → List (List Nat)
  | 0, _, _, ws => ws
  | n + 1, i, rcon, ws =>
    let prev := ws.getD 0 []
    let t := if i % 8 = 0 then
        match prev with
        | [a, b, c, d] => [sbox b ^^^ rcon, sbox c, sbox d, sbox a]
        | o => o
      else if i % 8 = 4 then prev.map sbox else prev
    let w := (ws.getD 7 []).zipWith (· ^^^ ·) t
    aesExpand n (i + 1) (if i % 8 = 0 then xtime rcon else rcon) (w :: ws)

/-- The 15 round keys of AES-256, 16 bytes each. -/
def aesKeys (key : List Byte) : List (List Nat) :=
  let k := key.map BitVec.toNat
  let w0 := (List.range 8).map (fun i => (k.drop (4 * i)).take 4)
  let ws := (aesExpand 52 8 1 w0.reverse).reverse
  (List.range 15).map (fun r => ((ws.drop (4 * r)).take 4).flatten)

def shiftRows (s : List Nat) : List Nat := (List.range 16).map (fun i => s.getD ((i + 4 * (i % 4)) % 16) 0)

def mixColumn (c : List Nat) : List Nat :=
  match c with
  | [a, b, c, d] => [gmul a 2 ^^^ gmul b 3 ^^^ c ^^^ d, a ^^^ gmul b 2 ^^^ gmul c 3 ^^^ d,
      a ^^^ b ^^^ gmul c 2 ^^^ gmul d 3, gmul a 3 ^^^ b ^^^ c ^^^ gmul d 2]
  | o => o

def mixColumns (s : List Nat) : List Nat := ((List.range 4).map (fun i => mixColumn ((s.drop (4 * i)).take 4))).flatten

/-- One block of AES-256 (FIPS 197), encryption. -/
def aes (key block : List Byte) : List Byte :=
  let ks := aesKeys key
  let s0 := (block.map BitVec.toNat).zipWith (· ^^^ ·) (ks.getD 0 [])
  let s13 := ((ks.drop 1).take 13).foldl (fun s k => (mixColumns (shiftRows (s.map sbox))).zipWith (· ^^^ ·) k) s0
  ((shiftRows (s13.map sbox)).zipWith (· ^^^ ·) (ks.getD 14 [])).map (BitVec.ofNat 8)

/-- Multiplication in GCM's GF(2^128), on big-endian numbers; bit `n` counts down. -/
def ghashMul : Nat → Nat → Nat → Nat → Nat
  | 0, _, _, z => z
  | n + 1, x, v, z =>
    ghashMul n x (if v % 2 = 1 then v / 2 ^^^ 0xe1 * 2 ^ 120 else v / 2) (if x.testBit n then z ^^^ v else z)

/-- Pad to whole blocks of 16 bytes. -/
def pad16 (l : List Byte) : List Byte := l ++ List.replicate ((16 - l.length % 16) % 16) 0

/-- GHASH over whole blocks. -/
def ghash (h : Nat) : Nat → Nat → List Byte → Nat
  | 0, y, _ => y
  | n + 1, y, d => ghash h n (ghashMul 128 (y ^^^ beNat (d.take 16)) h 0) (d.drop 16)

/-- Counter mode from counter `c` on. -/
def ctr (key iv : List Byte) : Nat → Nat → List Byte → List Byte
  | 0, _, _ => []
  | n + 1, c, d => (d.take 16).zipWith (· ^^^ ·) (aes key (iv ++ toBe 4 c)) ++ ctr key iv n (c + 1) (d.drop 16)

/-- The GCM tag of additional data and ciphertext. -/
def gcmTag (key iv aad ct : List Byte) : List Byte :=
  let h := beNat (aes key (List.replicate 16 0))
  let d := pad16 aad ++ pad16 ct ++ toBe 8 (8 * aad.length) ++ toBe 8 (8 * ct.length)
  (toBe 16 (ghash h (d.length / 16) 0 d)).zipWith (· ^^^ ·) (aes key (iv ++ toBe 4 1))

/-- AES-256-GCM sealing (SP 800-38D, 96-bit nonce): ciphertext and tag. -/
def gcmSeal (key iv aad pt : List Byte) : List Byte × List Byte :=
  let ct := ctr key iv ((pt.length + 15) / 16) 2 pt
  (ct, gcmTag key iv aad ct)

/-- AES-256-GCM opening: none when the tag does not match. -/
def gcmOpen (key iv aad ct tag : List Byte) : Option (List Byte) :=
  if gcmTag key iv aad ct = tag then some (ctr key iv ((ct.length + 15) / 16) 2 ct) else none

/-- XTS over whole blocks with tweak `t` (little-endian number). -/
def xtsBlocks (key : List Byte) : Nat → Nat → List Byte → List Byte
  | 0, _, _ => []
  | n + 1, t, d =>
    let tb := toLe 16 t
    (aes key ((d.take 16).zipWith (· ^^^ ·) tb)).zipWith (· ^^^ ·) tb ++
      xtsBlocks key n (if 2 ^ 127 ≤ t then (2 * t) % 2 ^ 128 ^^^ 0x87 else 2 * t) (d.drop 16)

/-- AES-256-XTS encryption of one 64-byte data unit (IEEE 1619): 64 key bytes, data key first (R139, R145). -/
def xtsEncrypt (key64 : List Byte) (unit : Nat) (d : List Byte) : List Byte :=
  xtsBlocks (key64.take 32) 4 (leNat (aes (key64.drop 32) (toLe 16 unit))) d

/-- The Ed25519 field prime. -/
def edP : Nat := 2 ^ 255 - 19
/-- The Ed25519 group order. -/
def edL : Nat := 2 ^ 252 + 27742317777372353535851937790883648493

/-- Modular power over `n` exponent bits. -/
def powMod (m : Nat) : Nat → Nat → Nat → Nat
  | 0, _, _ => 1
  | n + 1, a, e => (if e % 2 = 1 then a else 1) * powMod m n (a * a % m) (e / 2) % m

def fpow (a e : Nat) : Nat := powMod edP 256 a e
def finv (a : Nat) : Nat := fpow a (edP - 2)
def fsub (a b : Nat) : Nat := (a + edP - b) % edP
/-- The Edwards curve constant d = -121665/121666. -/
def edD : Nat := fsub 0 121665 * finv 121666 % edP

/-- The x coordinate with parity `odd` over `y`, if the point exists (RFC 8032 5.1.3). -/
def edRecover (y : Nat) (odd : Nat) : Option Nat :=
  let u := fsub (y * y % edP) 1
  let v := (edD * (y * y % edP) + 1) % edP
  let x2 := u * finv v % edP
  let x0 := fpow x2 ((edP + 3) / 8)
  let x := if x0 * x0 % edP = x2 then x0 else x0 * fpow 2 ((edP - 1) / 4) % edP
  if x * x % edP ≠ x2 then none
  else if x = 0 ∧ odd = 1 then none
  else some (if x % 2 = odd then x else edP - x)

/-- Point addition in affine coordinates (complete). -/
def edAdd (a b : Nat × Nat) : Nat × Nat :=
  let k := edD * (a.1 * b.1 % edP) % edP * (a.2 * b.2 % edP) % edP
  ((a.1 * b.2 + a.2 * b.1) % edP * finv ((1 + k) % edP) % edP,
   (a.2 * b.2 + a.1 * b.1) % edP * finv (fsub 1 k) % edP)

/-- Scalar multiplication over `n` scalar bits. -/
def edMul : Nat → Nat → Nat × Nat → Nat × Nat
  | 0, _, _ => (0, 1)
  | n + 1, k, q => let r := edMul n (k / 2) (edAdd q q); if k % 2 = 1 then edAdd q r else r

/-- A point from its 32-byte encoding. -/
def edDecode (b : List Byte) : Option (Nat × Nat) :=
  let n := leNat b
  let y := n % 2 ^ 255
  if edP ≤ y then none else (edRecover y (n / 2 ^ 255 % 2)).map (fun x => (x, y))

/-- The base point. -/
def edBase : Nat × Nat :=
  let y := 4 * finv 5 % edP
  ((edRecover y 0).getD 0, y)

/-- Ed25519 signature verification, PureEdDSA (R78, R96). -/
def ed25519Verify (pk msg sig : List Byte) : Bool :=
  let s := leNat (sig.drop 32)
  match edDecode pk, edDecode (sig.take 32) with
  | some a, some r =>
    let k := leNat (sha512 (sig.take 32 ++ pk ++ msg)) % edL
    decide (s < edL) && decide (edMul 256 s edBase = edAdd r (edMul 256 k a))
  | _, _ => false

/-- One byte of a reflected CRC. -/
def crcStep (poly : Nat) : Nat → Nat → Nat
  | 0, c => c
  | n + 1, c => crcStep poly n (if c % 2 = 1 then c / 2 ^^^ poly else c / 2)

/-- A reflected 32-bit CRC, all ones in and out. -/
def crc (poly : Nat) (m : List Byte) : Nat :=
  m.foldl (fun c b => crcStep poly 8 (c ^^^ b.toNat)) 0xFFFFFFFF ^^^ 0xFFFFFFFF

/-- CRC-32 of IEEE 802.3 (R99). -/
def crc32 (m : List Byte) : Nat := crc 0xEDB88320 m

/-- CRC-32C (Castagnoli). -/
def crc32c (m : List Byte) : Nat := crc 0x82F63B78 m

/-- ASCII bytes of a string. -/
def ascii (s : String) : List Byte := s.toList.map (fun c => BitVec.ofNat 8 c.toNat)

end Sys2Proof.Machine.Crypto
end

