-- ==== Sys2Proof/Machine/Basop.lean ====
section
/-! DEFINITION. Reading a Basop image (04_basop_image): its header, its section table and its records, as functions of a byte
reader. The running image is read through the Seed Bank copy (R113); STAGE_END and slot selection read NOR. -/

namespace Sys2Proof.Machine

/-- A byte reader: the value of the byte at an image offset. -/
abbrev Rd := Nat → Nat

namespace Rd

def u8 (r : Rd) (o : Nat) : Nat := r o
def u16 (r : Rd) (o : Nat) : Nat := r o + 256 * r (o + 1)
def u32 (r : Rd) (o : Nat) : Nat := r.u16 o + 0x10000 * r.u16 (o + 2)
def u64 (r : Rd) (o : Nat) : Nat := r.u32 o + 0x100000000 * r.u32 (o + 4)
def i32 (r : Rd) (o : Nat) : Int := sext 32 (r.u32 o)
/-- `n` bytes from offset `o`. -/
def bytes (r : Rd) (o n : Nat) : List Byte := (List.range n).map (fun i => BitVec.ofNat 8 (r (o + i)))
/-- A big-endian number of `n` bytes (R80). -/
def be (r : Rd) (o n : Nat) : Nat := beNat (r.bytes o n)
/-- Whether `n` bytes from `o` are all 0. -/
def zero (r : Rd) (o n : Nat) : Bool := (List.range n).all (fun i => r (o + i) == 0)
/-- The lowest nonzero byte among `n` from `o`. -/
def nonzeroAt (r : Rd) (o n : Nat) : Option Nat := ((List.range n).map (o + ·)).find? (fun a => r a != 0)

/-! The header (R74). -/
def imageLen (r : Rd) : Nat := r.u32 0x08
def sectionCount (r : Rd) : Nat := r.u16 0x0C
def imageSeq (r : Rd) : Nat := r.u32 0x10
def custVersion (r : Rd) : Nat := r.u32 0x14
def minRev (r : Rd) : Nat := r.u8 0x18
def maxRev (r : Rd) : Nat := r.u8 0x19
def minRom (r : Rd) : Nat := r.u32 0x1C

/-! The section table (R75). Entry `i` is at 0x40 + 16 i. -/
def entry (i : Nat) : Nat := 0x40 + 16 * i
def secType (r : Rd) (i : Nat) : Nat := r.u16 (entry i)
def secVersion (r : Rd) (i : Nat) : Nat := r.u16 (entry i + 2)
def secOffset (r : Rd) (i : Nat) : Nat := r.u32 (entry i + 4)
def secLength (r : Rd) (i : Nat) : Nat := r.u32 (entry i + 8)
def secCount (r : Rd) (i : Nat) : Nat := r.u32 (entry i + 12)
/-- The table's entry numbers. -/
def entries (r : Rd) : List Nat := List.range (min r.sectionCount 13)
/-- The entry of a section type, if the image has it. -/
def sec (r : Rd) (ty : Nat) : Option Nat := r.entries.find? (fun i => r.secType i == ty)
/-- Where a section starts. -/
def base (r : Rd) (ty : Nat) : Option Nat := (r.sec ty).map r.secOffset
/-- How many records a section counts; 0 when absent. -/
def count (r : Rd) (ty : Nat) : Nat := ((r.sec ty).map r.secCount).getD 0
/-- The record size of a section with fixed-size records (R76). -/
def recSize : Nat → Nat
  | 1 => 128 | 2 => 144 | 3 => 128 | 4 => 64 | 5 => 16 | 8 => 64 | 9 => 32 | 10 => 32 | 11 => 32 | 12 => 16 | 13 => 96
  | _ => 0
/-- Offsets of variable-size records, each as long as `len` says. -/
def walk (len : Nat → Nat) : Nat → Nat → List Nat
  | 0, _ => []
  | n + 1, o => o :: walk len n (o + len o)
/-- Bytes of a pipeline record (R87). -/
def pipeLen (r : Rd) (o : Nat) : Nat := r.u16 o
/-- Bytes of a model record (R88). -/
def modelLen (r : Rd) (o : Nat) : Nat := 64 + 64 * r.u16 (o + 4)
/-- The image offsets of a section's records (a HARDENING section's are its criteria, after the head, R95). -/
def recs (r : Rd) (ty : Nat) : List Nat :=
  match r.sec ty with
  | none => []
  | some i =>
    let o := r.secOffset i
    let n := min (r.secCount i) 1024
    if ty = 6 then walk r.pipeLen n o
    else if ty = 7 then walk r.modelLen n o
    else if ty = 12 then (List.range n).map (fun k => o + 16 + 16 * k)
    else (List.range n).map (fun k => o + recSize ty * k)

/-! PLATFORM (R81). -/
def plat (r : Rd) : Nat := (r.base 1).getD 0
def stepNs (r : Rd) : Nat := if r.u32 r.plat = 0 then 1000000 else r.u32 r.plat
def wdogMs (r : Rd) : Nat := if r.u16 (r.plat + 4) = 0 then 1000 else r.u16 (r.plat + 4)
def nvmeOn (r : Rd) : Bool := r.u8 (r.plat + 6) % 2 == 1
def pcieEpOn (r : Rd) : Bool := r.u8 (r.plat + 7) % 2 == 1
def gpioDir (r : Rd) : Nat := r.u8 (r.plat + 8)
def gpioInit (r : Rd) : Nat := r.u8 (r.plat + 9)
def capRise (r : Rd) : Nat := r.u8 (r.plat + 10)
def capFall (r : Rd) : Nat := r.u8 (r.plat + 11)
def ppsCfg (r : Rd) : Nat := r.u8 (r.plat + 12)
def trlPorts (r : Rd) : Nat := r.u8 (r.plat + 13)
def trlNode (r : Rd) : Nat := r.u8 (r.plat + 14)
def trlRing (r : Rd) : Nat := r.u8 (r.plat + 15)
def ptpProfile (r : Rd) : Nat := r.u8 (r.plat + 16)
def ptpTransport (r : Rd) : Nat := r.u8 (r.plat + 17)
def ptpDomain (r : Rd) : Nat := r.u8 (r.plat + 18)
/-- The block of Ethernet port 0 or 1. -/
def port (r : Rd) (n : Nat) : Nat := r.plat + 0x20 + 48 * n
def portMode (r : Rd) (n : Nat) : Nat := r.u8 (r.port n)
def ptpRole (r : Rd) (n : Nat) : Nat := r.u8 (r.port n + 1)
def portVlan (r : Rd) (n : Nat) : Nat := r.u16 (r.port n + 2)
def portMac (r : Rd) (n : Nat) : Nat := r.be (r.port n + 4) 6
def portIp (r : Rd) (n : Nat) : Nat := r.be (r.port n + 0x0C) 4
def portMask (r : Rd) (n : Nat) : Nat := r.be (r.port n + 0x10) 4
def portGateway (r : Rd) (n : Nat) : Nat := r.be (r.port n + 0x14) 4

/-! DRAM (R82). -/
def dram (r : Rd) : Nat := (r.base 2).getD 0
def installedGib (r : Rd) : Nat := r.u16 r.dram
def ranks (r : Rd) : Nat := r.u8 (r.dram + 2)
def density (r : Rd) : Nat := r.u8 (r.dram + 3)
def dramRate (r : Rd) : Nat := r.u16 (r.dram + 4)
def nbrK (r : Rd) : Nat := if r.u8 (r.dram + 6) = 0 then 11 else r.u8 (r.dram + 6)
def trainFull (r : Rd) : Bool := r.u8 (r.dram + 7) == 1
def weedHours (r : Rd) : Nat := if r.u16 (r.dram + 8) = 0 then 24 else r.u16 (r.dram + 8)
def rfmAlways (r : Rd) : Bool := r.u8 (r.dram + 10) == 1
def timing (r : Rd) (i : Nat) : Nat := r.u32 (r.dram + 0x10 + 4 * i)
/-- Usable capacity in bytes: seven-eighths of the installed capacity (R22). -/
def usable (r : Rd) : Nat := r.installedGib * 2 ^ 30 / 8 * 7

/-! PLOTS (R83). -/
/-- The record of plot `p`. -/
def plotRec (r : Rd) (p : Nat) : Option Nat := (r.recs 3).find? (fun o => r.u8 o == p)
/-- A value of plot `p`'s record; `d` when the plot does not exist. -/
def plotVal (r : Rd) (p : Nat) (d : Nat) (f : Nat → Nat) : Nat := ((r.plotRec p).map f).getD d
def sinks (r : Rd) (p : Nat) : Nat := r.plotVal p 0 (fun o => r.u8 (o + 1))
def cores (r : Rd) (p : Nat) : Nat := r.plotVal p 0 (fun o => r.u8 (o + 2))
def stakeFirst (r : Rd) (p : Nat) : Nat := r.plotVal p 0 (fun o => r.u8 (o + 3))
def stakeCount (r : Rd) (p : Nat) : Nat := r.plotVal p 0 (fun o => r.u8 (o + 4))
def queues (r : Rd) (p : Nat) : Nat := r.plotVal p 0 (fun o => r.u8 (o + 5))
def window (r : Rd) (p : Nat) : Nat := r.plotVal p 0 (fun o => r.u32 (o + 8) * 2 ^ 21)
def epoch (r : Rd) (p : Nat) : Nat := if p = 0 then 0 else r.plotVal p 0 (fun o => r.u32 (o + 0x0C))
def beds (r : Rd) (p : Nat) : Nat := r.plotVal p 0 (fun o => r.u64 (o + 0x10))
def channels (r : Rd) (p : Nat) : Nat := r.plotVal p 0 (fun o => r.u64 (o + 0x28))
def timers (r : Rd) (p : Nat) : Nat := r.plotVal p 0 (fun o => r.u64 (o + 0x30))
def cellarLba (r : Rd) (p : Nat) : Nat := r.plotVal p 0 (fun o => r.u64 (o + 0x38))
def cellarLen (r : Rd) (p : Nat) : Nat := r.plotVal p 0 (fun o => r.u64 (o + 0x40))
def cellarNsid (r : Rd) (p : Nat) : Nat := r.plotVal p 0 (fun o => r.u32 (o + 0x48))
def udpDst (r : Rd) (p : Nat) : Nat := r.plotVal p 0 (fun o => r.be (o + 0x4C) 4)
def udpDport (r : Rd) (p : Nat) : Nat := r.plotVal p 0 (fun o => r.be (o + 0x50) 2)
def udpSport (r : Rd) (p : Nat) : Nat := r.plotVal p 0 (fun o => r.be (o + 0x52) 2)
def udpPort (r : Rd) (p : Nat) : Nat := r.plotVal p 0 (fun o => r.u8 (o + 0x54))
/-- The banks of bed `b` that plot record `o` grants, one bit a bank (R29). -/
def banksOf (r : Rd) (o b : Nat) : Nat :=
  if (r.u64 (o + 0x10)).testBit b then 2 ^ 48 - 1
  else (List.range 4).foldl (fun acc k =>
    let e := o + 0x18 + 4 * k
    if r.u8 e = b then acc ||| (2 ^ (r.u8 (e + 2) + 1) - 2 ^ r.u8 (e + 1)) else acc) 0
/-- The beds on which plot `p` owns a bank, one bit a bed (R29). -/
def bedSet (r : Rd) (p : Nat) : Nat :=
  match r.plotRec p with
  | none => 0
  | some o => (List.range 64).foldl (fun acc b => if r.banksOf o b = 0 then acc else acc ||| 2 ^ b) 0
/-- Whether plot `p` owns bank `k` of bed `b` (R29); plot 0 reaches every bank (R37). -/
def ownsBank (r : Rd) (p b k : Nat) : Bool :=
  if p = 0 then true else ((r.plotRec p).map (fun o => (r.banksOf o b).testBit k)).getD false
/-- The plot that owns a Barrow channel; 0 when no record claims it. -/
def channelOwner (r : Rd) (c : Nat) : Nat := ((List.range 9).find? (fun p => (r.channels p).testBit c)).getD 0
/-- The plot that owns a Sundial timer; 0 when no record claims it (R62). -/
def timerOwner (r : Rd) (t : Nat) : Nat := ((List.range 9).find? (fun p => (r.timers p).testBit t)).getD 0
/-- The plot that owns a stake; 0 when no record claims it. -/
def stakeOwner (r : Rd) (k : Nat) : Nat :=
  ((List.range 9).find? (fun p => decide (r.stakeFirst p ≤ k ∧ k < r.stakeFirst p + r.stakeCount p))).getD 0

/-! STREAMS (R85). -/
def streamRec (r : Rd) (s : Nat) : Option Nat := (r.recs 4).find? (fun o => r.u8 o == s)
def streamVal (r : Rd) (s : Nat) (d : Nat) (f : Nat → Nat) : Nat := ((r.streamRec s).map f).getD d
def streamPlot (r : Rd) (s : Nat) : Nat := r.streamVal s 0 (fun o => r.u8 (o + 1))
def streamSource (r : Rd) (s : Nat) : Nat := r.streamVal s 0 (fun o => r.u8 (o + 2))
def streamCodec (r : Rd) (s : Nat) : Nat := r.streamVal s 0 (fun o => r.u8 (o + 3))
def streamCsiPort (r : Rd) (s : Nat) : Nat := r.streamVal s 0 (fun o => r.u8 (o + 4))
def streamVc (r : Rd) (s : Nat) : Nat := r.streamVal s 0 (fun o => r.u8 (o + 5))
def streamPixfmt (r : Rd) (s : Nat) : Nat := r.streamVal s 0 (fun o => r.u8 (o + 6))
def streamEthPort (r : Rd) (s : Nat) : Nat := r.streamVal s 0 (fun o => r.u8 (o + 7))
def streamWidth (r : Rd) (s : Nat) : Nat := r.streamVal s 0 (fun o => r.u16 (o + 8))
def streamHeight (r : Rd) (s : Nat) : Nat := r.streamVal s 0 (fun o => r.u16 (o + 10))
def streamFps (r : Rd) (s : Nat) : Nat := r.streamVal s 0 (fun o => r.u32 (o + 0x0C))
def streamKbps (r : Rd) (s : Nat) : Nat := r.streamVal s 0 (fun o => r.u32 (o + 0x10))
def streamRing (r : Rd) (s : Nat) : Nat := r.streamVal s 0 (fun o => r.u32 (o + 0x14))
def streamIp (r : Rd) (s : Nat) : Nat := r.streamVal s 0 (fun o => r.be (o + 0x18) 4)
def streamRtpPort (r : Rd) (s : Nat) : Nat := r.streamVal s 0 (fun o => r.be (o + 0x1C) 2)
def streamPt (r : Rd) (s : Nat) : Nat := r.streamVal s 0 (fun o => r.u8 (o + 0x1E))
/-- The streams the image declares. -/
def streams (r : Rd) : List Nat := (r.recs 4).map (fun o => r.u8 o)
/-- The nominal frame period in nanoseconds (FPS_MILLI is the rate x 1000). -/
def framePeriod (r : Rd) (s : Nat) : Nat := if r.streamFps s = 0 then 0 else 1000000000000 / r.streamFps s

/-! ALIGN (R86). -/
def setRec (r : Rd) (k : Nat) : Option Nat := (r.recs 5).find? (fun o => r.u8 o == k)
def setVal (r : Rd) (k d : Nat) (f : Nat → Nat) : Nat := ((r.setRec k).map f).getD d
def setPlot (r : Rd) (k : Nat) : Nat := r.setVal k 0 (fun o => r.u8 (o + 1))
def setMembers (r : Rd) (k : Nat) : Nat := r.setVal k 0 (fun o => r.u8 (o + 2))
def setRef (r : Rd) (k : Nat) : Nat := r.setVal k 0 (fun o => r.u8 (o + 3))
def setStream (r : Rd) (k i : Nat) : Nat := r.setVal k 0xFF (fun o => r.u8 (o + 4 + i))
def setWindow (r : Rd) (k : Nat) : Nat := r.setVal k 0 (fun o => r.u32 (o + 8))
def setUnpaired (r : Rd) (k : Nat) : Nat := r.setVal k 0 (fun o => r.u8 (o + 0x0C))

/-! PIPELINES (R87). -/
def pipeRec (r : Rd) (k : Nat) : Option Nat := (r.recs 6).find? (fun o => r.u8 (o + 2) == k)
def pipeVal (r : Rd) (k d : Nat) (f : Nat → Nat) : Nat := ((r.pipeRec k).map f).getD d
def pipePlot (r : Rd) (k : Nat) : Nat := r.pipeVal k 0 (fun o => r.u8 (o + 3))
def pipeClass (r : Rd) (k : Nat) : Nat := r.pipeVal k 0 (fun o => r.u8 (o + 4))
def pipeInputKind (r : Rd) (k : Nat) : Nat := r.pipeVal k 0 (fun o => r.u8 (o + 5))
def pipeInput (r : Rd) (k : Nat) : Nat := r.pipeVal k 0 (fun o => r.u8 (o + 6))
def pipeStages (r : Rd) (k : Nat) : Nat := r.pipeVal k 0 (fun o => r.u8 (o + 7))
def pipeDeadline (r : Rd) (k : Nat) : Nat := r.pipeVal k 0 (fun o => r.u32 (o + 8))
def pipeReplay (r : Rd) (k : Nat) : Nat := r.pipeVal k 0 (fun o => r.u8 (o + 0x0C))
def pipeDiv (r : Rd) (k : Nat) : Nat := r.pipeVal k 1 (fun o => r.u8 (o + 0x0D))
def pipeSteer (r : Rd) (k : Nat) : Nat := r.pipeVal k 0 (fun o => r.u8 (o + 0x0E))
def pipePriority (r : Rd) (k : Nat) : Nat := r.pipeVal k 0 (fun o => r.u8 (o + 0x0F))
def pipeBeds (r : Rd) (k : Nat) : Nat := r.pipeVal k 0 (fun o => r.u64 (o + 0x10))
def pipeCropMax (r : Rd) (k : Nat) : Nat := r.pipeVal k 0 (fun o => r.u16 (o + 0x18))
/-- Image offset of stage `i` of pipeline `k`. -/
def stageAt (r : Rd) (k i : Nat) : Nat := r.pipeVal k 0 (fun o => o + 64 + 16 * i)
def stageKind (r : Rd) (k i : Nat) : Nat := r.u8 (r.stageAt k i)
def stageRef (r : Rd) (k i : Nat) : Nat := r.u16 (r.stageAt k i + 2)
def stageP0 (r : Rd) (k i : Nat) : Nat := r.u32 (r.stageAt k i + 4)
def stageP1 (r : Rd) (k i : Nat) : Nat := r.u32 (r.stageAt k i + 8)
def stageP2 (r : Rd) (k i : Nat) : Nat := r.u32 (r.stageAt k i + 12)
/-- Image offset of a stage's parameter block (P1 is measured from the section's start, R76). -/
def stageBlock (r : Rd) (k i : Nat) : Nat := (r.base 6).getD 0 + r.stageP1 k i
/-- The pipelines the image declares. -/
def pipes (r : Rd) : List Nat := (r.recs 6).map (fun o => r.u8 (o + 2))

/-! MODELS (R88). -/
def modelRec (r : Rd) (m : Nat) : Option Nat := (r.recs 7).find? (fun o => r.u16 o == m)
def modelVal (r : Rd) (m d : Nat) (f : Nat → Nat) : Nat := ((r.modelRec m).map f).getD d
def modelPlot (r : Rd) (m : Nat) : Nat := r.modelVal m 0 (fun o => r.u8 (o + 2))
def modelResidency (r : Rd) (m : Nat) : Nat := r.modelVal m 0 (fun o => r.u8 (o + 3))
def modelLayers (r : Rd) (m : Nat) : Nat := r.modelVal m 0 (fun o => r.u16 (o + 4))
def modelMaxWide (r : Rd) (m : Nat) : Nat := r.modelVal m 0 (fun o => r.u8 (o + 6))
def modelLoad (r : Rd) (m : Nat) : Nat := r.modelVal m 1 (fun o => r.u8 (o + 7))
def modelNsid (r : Rd) (m : Nat) : Nat := r.modelVal m 0 (fun o => r.u32 (o + 8))
def modelVersion (r : Rd) (m : Nat) : Nat := r.modelVal m 0 (fun o => r.u32 (o + 0x0C))
def modelBeds (r : Rd) (m : Nat) : Nat := r.modelVal m 0 (fun o => r.u64 (o + 0x10))
def shadowFirst (r : Rd) (m : Nat) : Nat := r.modelVal m 0 (fun o => r.u8 (o + 0x18))
def shadowCount (r : Rd) (m : Nat) : Nat := r.modelVal m 0 (fun o => r.u8 (o + 0x19))
def graftOf (r : Rd) (m : Nat) : Nat := r.modelVal m 0xFFFF (fun o => r.u16 (o + 0x1A))
/-- Image offset of layer `i` of model `m`. -/
def layerAt (r : Rd) (m i : Nat) : Nat := r.modelVal m 0 (fun o => o + 64 + 64 * i)
def layerLba (r : Rd) (m i : Nat) : Nat := r.u64 (r.layerAt m i)
def layerLength (r : Rd) (m i : Nat) : Nat := r.u32 (r.layerAt m i + 8)
def layerCycles (r : Rd) (m i : Nat) : Nat := r.u32 (r.layerAt m i + 0x0C)
def layerWideCycles (r : Rd) (m i : Nat) : Nat := r.u32 (r.layerAt m i + 0x10)
def layerBoltLimit (r : Rd) (m i : Nat) : Nat := r.u32 (r.layerAt m i + 0x14)
def layerWfmt (r : Rd) (m i : Nat) : Nat := r.u8 (r.layerAt m i + 0x18)
def layerAfmt (r : Rd) (m i : Nat) : Nat := r.u8 (r.layerAt m i + 0x19)
def layerSpan (r : Rd) (m i : Nat) : Nat := r.u8 (r.layerAt m i + 0x1A)
def layerFlags (r : Rd) (m i : Nat) : Nat := r.u8 (r.layerAt m i + 0x1B)
def layerStoreBytes (r : Rd) (m i : Nat) : Nat := r.u32 (r.layerAt m i + 0x1C)
def layerSha (r : Rd) (m i : Nat) : List Byte := r.bytes (r.layerAt m i + 0x20) 32
/-- The models the image declares. -/
def models (r : Rd) : List Nat := (r.recs 7).map (fun o => r.u16 o)

/-! KERNELS (R90) and RUNNERS (R91). -/
def kernelRec (r : Rd) (k : Nat) : Option Nat := (r.recs 8).find? (fun o => r.u16 o == k)
def kernelVal (r : Rd) (k d : Nat) (f : Nat → Nat) : Nat := ((r.kernelRec k).map f).getD d
def kernelPlot (r : Rd) (k : Nat) : Nat := r.kernelVal k 0 (fun o => r.u8 (o + 2))
def kernelThreads (r : Rd) (k : Nat) : Nat := r.kernelVal k 1 (fun o => r.u8 (o + 0x1C))
def kernelEntry (r : Rd) (k : Nat) : Nat := r.kernelVal k 0 (fun o => r.u32 (o + 0x0C))
def runnerRec (r : Rd) (k : Nat) : Option Nat := (r.recs 9).find? (fun o => r.u8 o == k)
def runnerVal (r : Rd) (k d : Nat) (f : Nat → Nat) : Nat := ((r.runnerRec k).map f).getD d
def runnerPlot (r : Rd) (k : Nat) : Nat := r.runnerVal k 0 (fun o => r.u8 (o + 1))
def runnerCores (r : Rd) (k : Nat) : Nat := r.runnerVal k 0 (fun o => r.u8 (o + 2))
def runnerRestart (r : Rd) (k : Nat) : Bool := r.runnerVal k 0 (fun o => r.u8 (o + 3)) % 2 == 1
def runnerBudget (r : Rd) (k : Nat) : Nat := r.runnerVal k 0 (fun o => r.u32 (o + 0x10))
/-- The Runners the image declares. -/
def runners (r : Rd) : List Nat := (r.recs 9).map (fun o => r.u8 o)

/-! RULES (R92), QOS (R94) and HARDENING (R95). -/
def ruleId (r : Rd) (o : Nat) : Nat := r.u16 o
def rulePlot (r : Rd) (o : Nat) : Nat := r.u8 (o + 2)
def ruleTrigger (r : Rd) (o : Nat) : Nat := r.u8 (o + 3)
def ruleParam (r : Rd) (o : Nat) : Nat := r.u32 (o + 4)
def ruleThresh (r : Rd) (o : Nat) : Int := r.i32 (o + 8)
def ruleHyst (r : Rd) (o : Nat) : Nat := r.u32 (o + 12)
def ruleDwell (r : Rd) (o : Nat) : Nat := r.u32 (o + 16)
def ruleAction (r : Rd) (o : Nat) : Nat := r.u8 (o + 20)
def ruleArg (r : Rd) (o : Nat) : Nat := r.u32 (o + 24)
/-- Rules that the metering unit takes (R93). -/
def ruleIsMetering (r : Rd) (o : Nat) : Bool := decide (r.ruleTrigger o ≤ 2) && decide (r.ruleAction o ≤ 3)
/-- The rules of the metering unit, in image order. -/
def meterRules (r : Rd) : List Nat := (r.recs 10).filter r.ruleIsMetering
/-- The rules of the Shed, in image order. -/
def shedRules (r : Rd) : List Nat := (r.recs 10).filter (fun o => !r.ruleIsMetering o)
/-- A QOS quantity of a plot; 0 when the plot has no record. -/
def qos (r : Rd) (p field : Nat) : Nat :=
  (((r.recs 11).find? (fun o => r.u8 o == p)).map (fun o => r.u32 (o + field))).getD 0
def hard (r : Rd) : Nat := (r.base 12).getD 0
def windowS (r : Rd) : Nat := if r.u32 r.hard = 0 then 600 else r.u32 r.hard
def critCount (r : Rd) : Nat := r.u8 (r.hard + 4)
def acceptRequired (r : Rd) : Bool := r.u8 (r.hard + 5) % 2 == 1
/-- Image offset of criterion `i`. -/
def crit (r : Rd) (i : Nat) : Nat := r.hard + 16 + 16 * i
def critMetric (r : Rd) (i : Nat) : Nat := r.u16 (r.crit i)
def critPlot (r : Rd) (i : Nat) : Nat := r.u8 (r.crit i + 2)
def critCmp (r : Rd) (i : Nat) : Nat := r.u8 (r.crit i + 3)
def critLimit (r : Rd) (i : Nat) : Nat := r.u32 (r.crit i + 4)

end Rd
end Sys2Proof.Machine
end

