-- ==== Sys2Proof/Machine/FMap.lean ====
section
/-! DEFINITION. A sparse table by number, in one canonical form: keys strictly rising, and no entry equal to what an
unlisted key reads as. Registers, memory, NOR flash and every numbered set of channels, contexts or threads are held so. -/

namespace Sys2Proof.Machine

/-- A sparse table from numbers to `α`. -/
abbrev FMap (α : Type) := List (Nat × α)

/-- The entry at key `k`; `d k` where none is listed. -/
def FMap.get {α : Type} (d : Nat → α) : FMap α → Nat → α
  | [], k => d k
  | (k', v) :: r, k => if k = k' then v else FMap.get d r k

/-- The table without key `k`. -/
def FMap.erase {α : Type} : FMap α → Nat → FMap α
  | [], _ => []
  | (k', v) :: r, k => if k = k' then FMap.erase r k else (k', v) :: FMap.erase r k

/-- Put an entry before the first larger key. -/
def FMap.ins {α : Type} : FMap α → Nat → α → FMap α
  | [], k, v => [(k, v)]
  | (k', v') :: r, k, v => if k < k' then (k, v) :: (k', v') :: r else (k', v') :: FMap.ins r k v

/-- Set the entry at key `k`; setting what an unlisted key reads as removes the entry. -/
def FMap.put {α : Type} [DecidableEq α] (d : Nat → α) (m : FMap α) (k : Nat) (v : α) : FMap α :=
  if v = d k then FMap.erase m k else FMap.ins (FMap.erase m k) k v

/-- Remove every entry whose key `keep` rejects: those keys read as unlisted ones do. -/
def FMap.only {α : Type} (keep : Nat → Bool) (m : FMap α) : FMap α := m.filter (fun e => keep e.1)

/-- Keys strictly rising from above `lo`. -/
def FMap.rising {α : Type} : Option Nat → FMap α → Bool
  | _, [] => true
  | none, (k, _) :: r => FMap.rising (some k) r
  | some l, (k, _) :: r => decide (l < k) && FMap.rising (some k) r

/-- The canonical form: keys strictly rising and no entry equal to the default. -/
def FMap.wf {α : Type} [DecidableEq α] (d : Nat → α) (m : FMap α) : Bool :=
  FMap.rising none m && m.all (fun e => decide (e.2 ≠ d e.1))

/-- Insert before the first entry that `a` may stand before. -/
def insertBy {α : Type} (le : α → α → Bool) (a : α) : List α → List α
  | [] => [a]
  | b :: r => if le a b then a :: b :: r else b :: insertBy le a r
/-- A list in order; entries that tie keep their order. -/
def sortBy {α : Type} (le : α → α → Bool) : List α → List α
  | [] => []
  | a :: r => insertBy le a (sortBy le r)

end Sys2Proof.Machine
end

