-- ==== Sys2Proof/Machine/Units.lean ====
section
/-! DEFINITION. The state of each unit that the registers do not show: plain data, one structure a unit. -/

namespace Sys2Proof.Machine

/-- Pins and board-level conditions. -/
structure Pins where
  /-- PORST_N is high. -/
  porst : Bool
  /-- RESET_N is high. -/
  resetN : Bool
  /-- Levels driven by the board on GPIO0 to GPIO7. -/
  gpioIn : Nat
  /-- GPIO direction (1 = out), from PLATFORM.GPIO_DIR. -/
  gpioDir : Nat
  /-- GPIO output levels, from PLATFORM.GPIO_INIT and rule actions 4 and 5. -/
  gpioOut : Nat
  /-- The PPS level (R690). -/
  pps : Bool
  /-- REFCLK runs. -/
  refclk : Bool
  /-- REFCLK has stopped and RESET_N has not followed (R43). -/
  refLost : Bool
  /-- The AON oscillator runs (R654). -/
  aonRunning : Bool
  /-- THERMTRIP_N is asserted (R633). -/
  thermtrip : Bool
  /-- JTAG instruction register (R685). -/
  jtagIr : Nat
  /-- EXTEST, CLAMP or HIGHZ has been current since the last POR (R685). -/
  jtagUndefined : Bool
  deriving DecidableEq, Repr

/-- One entry of the GPIO capture queue. -/
structure Capture where
  gpio : Nat
  rising : Bool
  stamp : Nat
  deriving DecidableEq, Repr

/-- The Sundial's state beside its count. -/
structure SdlUnit where
  /-- Read shadows of SDL_NOW_HI, by initiator (R54). -/
  shadows : FMap Word
  /-- CMP_LO writes held until CMP_HI is written, by timer (R66). -/
  held : FMap (Option Word)
  /-- SDL_STEP_LO as last written. -/
  stepLo : Word
  /-- A forward step to apply on this command's edge, in ns (R65). -/
  step : Nat
  /-- The GPIO capture queue, oldest first. -/
  caps : List Capture
  /-- floor(Sundial / 1 000 000) at the last tick (R61). -/
  lastTick : Nat
  /-- The last whole second taken. -/
  lastSec : Nat
  /-- The last whole 10 seconds taken. -/
  lastTen : Nat
  /-- The last whole hour taken. -/
  lastHour : Nat
  /-- The base rate, in 2^-32 (R689). -/
  baseRate : Int
  /-- The slew correction, in 2^-32 (R689). -/
  slew : Int
  /-- A SET_TIME slew is in progress. -/
  slewSet : Bool
  /-- Offset a SET_TIME slew still has to remove, in ns x 2^32: positive when the Sundial is behind. -/
  slewLeft : Int
  /-- Sundial value at which slewLeft was last brought up to date. -/
  slewAt : Nat
  /-- Base rate at loss of lock (R59), in 2^-32. -/
  rLock : Int
  /-- Temperature at loss of lock, in 0.01 degrees C. -/
  tLock : Int
  /-- The servo has locked since POR (R59). -/
  lockedSincePor : Bool
  /-- Sundial value when LOCKED last rose. -/
  lockedAt : Nat
  /-- Sundial value when lock was last lost. -/
  lostAt : Nat
  /-- Sundial value since which the offset estimate stays within 100 ns; none while it does not (R58). -/
  withinSince : Option Nat
  /-- Sensor temperature of the last holdover updates, newest first, in 0.01 degrees C with their seconds (R60). -/
  temps : List (Nat × Int)
  /-- The holdover so far meets R60. -/
  boundedSoFar : Bool
  /-- PTP state of each Ethernet port. -/
  ptp : List PtpState
  /-- The TCXO curve points of the calibration record: m°C and 2^-32 units; empty while not valid. -/
  curve : List (Int × Int)
  deriving DecidableEq, Repr

/-- Where a boot stands. -/
inductive Phase where
  /-- PORST_N is low. -/
  | porHeld
  /-- RESET_N is low. -/
  | resetHeld
  /-- Boot steps 1 to 9 have run; step 10 waits for the SSD. -/
  | nvme
  /-- Step 11: models and kernels load; step 12 follows. -/
  | loads
  /-- Step 13 is past: plots run. -/
  | running
  /-- The bare state (R111). -/
  | bare
  deriving DecidableEq, Repr

/-- A staging session (R116, R118). -/
structure Session where
  /-- ARG0 of STAGE_BEGIN: 0 slot, 1 calibration record. -/
  target : Nat
  /-- ARG1 of STAGE_BEGIN. -/
  size : Nat
  /-- Sundial value of the session's last command. -/
  lastAt : Nat
  deriving DecidableEq, Repr

/-- Causes of a Replant order, in R129's order of preference: watchdog, return, rollback, host, rule. -/
structure Order where
  rank : Nat
  /-- The BOOT code of R100. -/
  code : Nat
  deriving DecidableEq, Repr

/-- Boot, staging and hardening-off. -/
structure BootUnit where
  phase : Phase
  session : Option Session
  /-- A session closed by timeout: the next command answers RESULT 6 (R118). -/
  timedOut : Bool
  /-- Replant orders taken since the last tick, the preferred one. -/
  order : Option Order
  /-- The order being carried out: its BOOT code. -/
  replantCode : Nat
  /-- Sundial value at Replant quiesce step 1 (R121). -/
  quiesceAt : Nat
  /-- Replant quiesce step 2 has ended (R121). -/
  drained : Bool
  /-- A return is in progress: RETURNED is due after SLOT_CHOSEN (R125): slot left and IMAGE_SEQ left. -/
  leaving : Option (Nat × Nat)
  /-- The window is open. -/
  windowOpen : Bool
  /-- Ticks left in the window (R122). -/
  windowTicks : Nat
  /-- An ACCEPT naming the running image has arrived in the window. -/
  accepted : Bool
  /-- Hardening metrics since step 12: key metric x 16 + plot, with plot 0 the whole Frexia (R95). -/
  metrics : FMap Nat
  /-- BOOT_SEQ: SEQ of this boot's BOOT record (R143). -/
  bootSeq : Nat
  /-- The running image was already PASSED when it was chosen. -/
  wasPassed : Bool
  /-- This boot runs in the last-resort state. -/
  lastResort : Bool
  /-- FLT_STATUS bits this boot has itself set (R618). -/
  faultSet : Nat
  /-- Training failed, or a key could not be derived, at this boot. -/
  failed : Bool
  /-- SFDP did not show what R108 asks: every slot counts as holding no image. -/
  noImages : Bool
  deriving DecidableEq, Repr

/-- A plot's progress that PLT_STATE does not show. -/
structure PlotUnit where
  /-- An order of Fallow waiting for the tick: its cause (R153), 0 none. -/
  ordered : Nat
  /-- The Fallow's fence has fallen (step 2): Sundial value; none outside. -/
  fencedAt : Option Nat
  /-- Fallow step 8 has begun (reloading): tick of the start. -/
  reloading : Bool
  /-- Loads of step 8 still outstanding. -/
  loadsLeft : Nat
  /-- Running totals of the eight performance counters, in ns (R148). -/
  totals : List Nat
  /-- The XTS key pair: data key and tweak key, 64 bytes (R139); empty when none is loaded. -/
  memKey : List Byte
  /-- Counts for HEARTBEAT: jobs, faults, skips, records since the last one. -/
  hbJobs : Nat
  hbFaults : Nat
  hbSkips : Nat
  hbRecords : Nat
  deriving DecidableEq, Repr

/-- The plot's open crate: records in order, and the Sundial value of the first. -/
structure OpenCrate where
  recs : List (List Byte)
  firstAt : Nat
  deriving DecidableEq, Repr

/-- A closed crate that waits for sealing. -/
structure ClosedCrate where
  recs : List (List Byte)
  close : Nat
  firstSeq : Nat
  /-- The plot's sealing job when it closed (R509). -/
  job : Nat
  deriving DecidableEq, Repr

/-- A sealed crate in the staging buffer (R495). -/
structure Staged where
  seq : Nat
  sealedAt : Nat
  bytes : List Byte
  deriving DecidableEq, Repr

/-- A Cellar replay (R508). -/
structure Replay where
  /-- Next Cellar slot to read, and the head at the order. -/
  slot : Nat
  stop : Nat
  deriving DecidableEq, Repr

/-- What a CULL has to know of a record formed (R487). -/
structure RecKey where
  seq : Nat
  pipe : Nat
  job : Nat
  stream : Nat
  gen : Nat
  set : Nat
  deriving DecidableEq, Repr

/-- Harvest's state of one plot. -/
structure HvsPlot where
  /-- The records formed since boot, newest first. -/
  hist : List RecKey
  opened : Option OpenCrate
  closed : List ClosedCrate
  staged : List Staged
  /-- The next CRATE_SEQ each sink has to take: host, UDP, Cellar, forwarding (R495, R538). -/
  curHost : Nat
  curUdp : Nat
  curCellar : Nat
  curFwd : Nat
  /-- The Cellar Write outstanding: first CRATE_SEQ, crates, first slot. -/
  cellarOut : Option (Nat × Nat × Nat)
  /-- Slots of the Cellar ring; 0 while the sink is disabled. -/
  ringSlots : Nat
  /-- (BOOT_SEQ, CRATE_SEQ) of each Cellar slot written or recovered, for replay. -/
  cellarKeys : FMap (Option (Nat × Nat))
  hostReplay : Option Replay
  udpReplay : Option Replay
  /-- Sundial value before which no further MSI of the ring is sent (R498), and whether one is owed. -/
  msiAfter : Nat
  msiOwed : Bool
  deriving DecidableEq, Repr

/-- One outstanding NVMe command of a root-port slot (R624). -/
structure NvmeCmd where
  /-- 1 Read of a layer, 2 Cellar Write, 3 Cellar replay Read, 4 Abort. -/
  op : Nat
  plot : Nat
  /-- Model and layer of a Read; first CRATE_SEQ and count of a Write. -/
  a : Nat
  b : Nat
  nsid : Nat
  lba : Nat
  blocks : Nat
  /-- Level-2 timeouts since the sequence began (R622, R694). -/
  tries : Nat
  /-- Sundial value of the last progress. -/
  progressAt : Nat
  deriving DecidableEq, Repr

/-- The NVMe root port. -/
structure NvmeUnit where
  /-- The generation of each slot (R624). -/
  gens : FMap Nat
  /-- The command outstanding in each slot. -/
  cmds : FMap (Option NvmeCmd)
  namespaces : List Namespace
  deriving DecidableEq, Repr

/-- The watchdog (R628 to R632). -/
structure WdogUnit where
  armed : Bool
  paused : Bool
  /-- Ticks since stage 1 began, while it is in progress. -/
  stage1 : Option Nat
  /-- The always-on cause flag of stage 2 (R631). -/
  causeFlag : Bool
  /-- HARDENING_FAILED 0xFE was due and not written: slot, IMAGE_SEQ and CUST_VERSION of the image (R631). -/
  failDue : Option (Nat × Nat × Nat)
  deriving DecidableEq, Repr

/-- Power states (R598 to R616). -/
structure PwrUnit where
  /-- Orders waiting for the tick: 0 none, 1 Dormancy, 2 Frost, 3 Run. -/
  ordered : Nat
  /-- Dormancy entry: the beds and cores to gate or stop (R599). -/
  beds : Nat
  cores : Nat
  /-- Dormancy entry step 3, or exit step 2, has been done. -/
  stepDone : Bool
  /-- A wake source latched during Frost entry (R605). -/
  latchedWake : Nat
  /-- Frost entry step 6 is done: the units are off. -/
  frozen : Bool
  /-- Frost exit step 5a is done: NVMe is up and the Cellar heads are recovered. -/
  nvDone : Bool
  /-- Frost exit steps 5a and 5b are done. -/
  ready : Bool
  /-- Sundial value when STATE last changed. -/
  since : Nat
  deriving DecidableEq, Repr

/-- The hidden state of the Shed's rules, by the rule's place in the image. -/
structure RuleState where
  /-- Ticks since the condition became true; none while it is false. -/
  held : Option Nat
  /-- It has fired and its condition has not been false since. -/
  fired : Bool
  /-- Events (GPIO edges, EVENT records) seen since the last tick. -/
  seen : Bool
  deriving DecidableEq, Repr

/-- The KEY unit: link keys held, most recently used first, each named by its plot, job and epoch (R144). -/
structure KeyUnit where
  links : List (Nat × Nat × Nat)
  deriving DecidableEq, Repr

/-- The Ethernet ports and the Shed runtime's network state. -/
structure EthUnit where
  /-- The ARP table: IPv4 address and station address, newest first (R502). -/
  arp : List (Nat × Nat)
  /-- Frames passed to the software queue, newest first: port and bytes. -/
  software : List (Nat × List Byte)
  deriving DecidableEq, Repr

/-- A shadow group of a stream context: ring base and size, and the capture window (R185). -/
structure ItkGroup where
  base : Nat
  size : Nat
  x0 : Nat
  y0 : Nat
  w : Nat
  h : Nat
  deriving DecidableEq, Repr

/-- A CSI-2 frame in progress. -/
structure CsiFrame where
  number : Nat
  seq : Nat
  ts : Nat
  /-- Ring offset of the entry. -/
  start : Nat
  lines : Nat
  dropped : Bool
  deriving DecidableEq, Repr

/-- An RTP packet held for reordering (R175). -/
structure RtpPkt where
  ts : Nat
  marker : Bool
  payload : List Byte
  deriving DecidableEq, Repr

/-- An access unit in progress (R176, R181). -/
structure AccessUnit where
  rtpTs : Nat
  /-- The group that was active when it latched (R186). -/
  group : ItkGroup
  seq : Nat
  ts : Nat
  start : Nat
  payload : List Byte
  nals : Nat
  lost : Nat
  firstSeq : Nat
  damaged : Bool
  /-- The fragmented NAL unit being reassembled. -/
  frag : Option (List Byte)
  abandoned : Bool
  deriving DecidableEq, Repr

/-- What Intake passes to decode, in order (R211): a NAL unit at an address, an omission, an abandoned unit, or the unit's end. -/
inductive NalNotice where
  | nal (frameSeq ts addr len : Nat) (data : List Byte)
  | omitted (frameSeq ts : Nat)
  | abandoned (frameSeq ts : Nat)
  | auEnd (frameSeq ts : Nat) (damaged gap : Bool)
  deriving DecidableEq, Repr

/-- An entry complete in the ring that waits for its commit (R182). -/
structure RingEntry where
  /-- Base and size of the ring it lies in. -/
  base : Nat
  size : Nat
  start : Nat
  stop : Nat
  seq : Nat
  ts : Nat
  kind : Nat
  /-- Stored window: origin, width and height (KIND 1). -/
  win : Nat × Nat × Nat × Nat
  deriving DecidableEq, Repr

/-- A stream context's state that its registers do not show. -/
structure ItkCtx where
  active : ItkGroup
  pending : Option ItkGroup
  /-- The next latch event gives FRAME_SEQ 0 (R178). -/
  fresh : Bool
  latchedAt : Nat
  /-- Sundial value of the last packet accepted. -/
  packetAt : Nat
  /-- Ring offset where the next entry starts, in the ring of base and size `ring`. -/
  tail : Nat
  ring : Nat × Nat
  /-- Entries dropped since the previous committed entry. -/
  dropped : Nat
  frame : Option CsiFrame
  /-- Extended RTP sequence numbers: the newest seen, and the next to process; 0 while none has been seen. -/
  newest : Nat
  next : Nat
  held : FMap (Option RtpPkt)
  /-- RTP timestamps recognised and not yet ended: timestamp, FRAME_SEQ, capture timestamp, and the group that latched. -/
  seen : List (Nat × Nat × Nat × ItkGroup)
  /-- RTP timestamp of the access unit that ended last: no longer a new one (R176). -/
  ended : Option Nat
  au : Option AccessUnit
  entries : List RingEntry
  /-- Committed frames of KIND 1, newest first, at most 64. -/
  committed : List RingEntry
  notices : List NalNotice
  /-- FRAME_SEQs that came over Trellis from a sender without valid time (R537), newest first. -/
  noTime : List Nat
  deriving DecidableEq, Repr

/-- A committed frame of a set's member (R190): member, FRAME_SEQ, capture timestamp, and whether a pair has used it. -/
structure Candidate where
  member : Nat
  seq : Nat
  ts : Nat
  used : Bool
  deriving DecidableEq, Repr

/-- An alignment set: the last eight candidates of each member, newest first, and the reference frames still to decide. -/
structure ItkSet where
  cands : List Candidate
  refs : List (Nat × Nat)
  deriving DecidableEq, Repr

end Sys2Proof.Machine
end

