-- ==== Sys2Proof/Machine/LinkUnits.lean ====
section
/-! DEFINITION. The state of Barrow, the DRAM controller, Trellis and the metering unit that the registers do not show
(chapters 15, 16, 18 and 19). Plain data, one structure a unit, with its initial value. -/

namespace Sys2Proof.Machine

/-! Barrow. -/

/-- The contents of a descriptor (R418). -/
structure Desc where
  /-- Ring index it was fetched from. -/
  index : Nat
  ticket : Nat
  ctrl : Nat
  src : Nat
  dst : Nat
  len : Nat
  rows : Nat
  srcStride : Int
  dstStride : Int
  fill : Nat
  job : Nat
  /-- A reserved bit is set. -/
  reserved : Bool
  deriving DecidableEq, Repr

/-- The descriptor a channel holds: waiting for its re-read, or running with its cursor (R428, R436). -/
structure BrwRun where
  d : Desc
  running : Bool
  /-- Rows done, and bytes done of the current row. -/
  row : Nat
  off : Nat
  /-- It has moved part of its bytes before a pause. -/
  begun : Bool
  /-- Bytes written so far. -/
  bytes : Nat
  /-- Bytes of the current row written to the Trellis transmit queue (SPACE 2). -/
  sent : List Byte
  deriving DecidableEq, Repr

/-- A descriptor whose last data write has left: 1 its STATUS write is issued, 2 its OWN write, 3 done (R423, R424). -/
structure BrwFin where
  d : Desc
  status : Nat
  bytes : Nat
  doneTs : Nat
  phase : Nat
  settled : Bool
  deriving DecidableEq, Repr

structure Chan where
  run : Option BrwRun
  fins : List BrwFin
  /-- The index that the channel takes next, once what it holds has gone. -/
  next : Nat
  /-- The state a pause left (R438). -/
  left : Nat
  /-- Start events on their way, oldest first: from a timer (none) or from a channel (R433). -/
  due : List (Option Nat)
  /-- Jobs torn down, by tag and JOB: a Gardener channel drops what its ring still holds of them (R441). -/
  torn : List (Nat × Nat)
  deriving DecidableEq, Repr

def Chan.init (_ : Nat) : Chan := { run := none, fins := [], next := 0, left := 0, due := [], torn := [] }

/-! DRAM controller. -/

/-- A plot's reservation bucket in thousandths of a byte of 64-byte bursts or flits, with the Sundial value it was brought up to
date at (R465, R527). -/
structure Bucket where
  milli : Int
  at_ : Nat
  /-- Below -4 us worth: its ports have lost Wilt. -/
  denied : Bool
  deriving DecidableEq, Repr

structure DmcUnit where
  /-- The training cache in the always-on domain: RATE, DENSITY, RANKS and the SHA-256 of TIMING (R476). -/
  cache : Option (Nat × Nat × Nat × List Byte)
  buckets : FMap Bucket
  /-- Bursts charged to a plot since its DMC_RES_SERVED last advanced. -/
  served : FMap Nat
  /-- The check cache of each channel: groups, newest first, and whether dirty (R459). -/
  check : FMap (List (Nat × Bool))
  /-- Units held by each run-ahead buffer: port, newest first (R455). -/
  ahead : FMap (List Nat)
  /-- Units whose corrected word waits for its rewrite (R458, R478). -/
  rewrites : List Nat
  /-- Rolling activate counts: (channel x 2 + rank) x 16 + bank (R471). -/
  raa : FMap Nat
  /-- The ranks (channel x 2 + rank) that have a ZQ latch or a DQS oscillator update to append (R468). -/
  zqDue : List Nat
  oscDue : List Nat
  /-- Groups read in the current scrub pass, and the Sundial value at its start. -/
  weedAt : Nat
  /-- Groups whose check burst carries the clear marker are those not listed: groups written since the zeroing (R457). -/
  touched : List Nat
  deriving DecidableEq, Repr

def Bucket.init (_ : Nat) : Bucket := { milli := 0, at_ := 0, denied := false }
def DmcUnit.init : DmcUnit :=
  { cache := none, buckets := [], served := [], check := [], ahead := [], rewrites := [], raa := [], zqDue := [],
    oscDue := [], weedAt := 0, touched := [] }

/-! Trellis. -/

/-- A frame to send (R526): its bytes, VC, destination, plot and whether it is in transit. -/
structure TrlFrame where
  bytes : List Byte
  vc : Nat
  dst : Nat
  plot : Nat
  transit : Bool
  /-- Crates come after streams within a plot. -/
  crate : Bool
  deriving DecidableEq, Repr

/-- A data flit kept for replay (R523). -/
structure TrlHeld where
  lseq : Nat
  kind : Nat
  vc : Nat
  payload : List Byte
  deriving DecidableEq, Repr

/-- A frame of which flits have been sent and flits remain. -/
structure TrlSend where
  rest : List (List Byte)
  plot : Nat
  transit : Bool
  deriving DecidableEq, Repr

structure TrlPort where
  nextLseq : Nat
  held : List TrlHeld
  /-- Held flits still to resend, counted from the newest end: the last `resend` of `held`. -/
  resend : Nat
  /-- Resends in a row without ACK progress. -/
  resends : Nat
  expect : Nat
  /-- LSEQ of the last data flit received in order, if any. -/
  lastRx : Option Nat
  nakked : Bool
  control : List (List Byte)
  sending : FMap (Option TrlSend)
  /-- Payload bytes received of the frame in progress, by VC. -/
  partialRx : FMap (Option (List Byte))
  /-- Credits to return, by VC. -/
  owed : FMap Nat
  /-- The peer's credit generation as last received. -/
  peerGen : Nat
  /-- CRED_RESYNC has been sent and RESYNC_ACK awaited. -/
  awaiting : Bool
  failures : Nat
  /-- A credit timeout of this VC fell together with a retrain (R541). -/
  resync : Option Nat
  deriving DecidableEq, Repr

structure TrlUnit where
  ports : FMap TrlPort
  waiting : List TrlFrame
  /-- PORTS byte each node last reported (R530). -/
  nodes : FMap Nat
  /-- Accepted FCTRs: source node, plot, job; highest accepted and those accepted within 64 of it (R534). -/
  accepted : List ((Nat × Nat × Nat) × Nat × List Nat)
  buckets : FMap Bucket
  /-- The plot served last by the round robin of R526. -/
  last : Nat
  deriving DecidableEq, Repr

def TrlPort.init (_ : Nat) : TrlPort :=
  { nextLseq := 0, held := [], resend := 0, resends := 0, expect := 0, lastRx := none, nakked := false, control := [],
    sending := [], partialRx := [], owed := [], peerGen := 0, awaiting := false, failures := 0, resync := none }
def TrlUnit.init : TrlUnit :=
  { ports := [], waiting := [], nodes := [], accepted := [], buckets := [], last := 0 }

/-! Metering. -/

/-- A decimator output sample: its stamp, the calibrated values as binary64 codes, and the channels that clipped (R547). -/
structure Sample where
  stamp : Int
  x : List Nat
  clipped : Nat
  deriving DecidableEq, Repr

/-- A crossing of V1 (R553, R554). -/
structure Cross where
  at_ : Int
  positive : Bool
  synthetic : Bool
  deriving DecidableEq, Repr

/-- An event class in progress (R560, R561). -/
structure MtrEvent where
  start : Int
  mask : Nat
  extreme : Nat
  worst : Nat
  deriving DecidableEq, Repr

/-- An EVENT that waits in the always-on queue (R568). -/
structure QueuedEvent where
  ts : Int
  severity : Nat
  code : Nat
  rule : Nat
  data : List Byte
  deriving DecidableEq, Repr

/-- A rule loaded into the metering unit: the values it was loaded with (R563). -/
structure MtrRule where
  id : Nat
  trigger : Nat
  param : Nat
  thresh : Int
  hyst : Nat
  dwellMs : Nat
  action : Nat
  /-- A wake rule armed at Frost entry (R604). -/
  wake : Bool
  /-- Update instant since which the condition is true. -/
  since : Option Int
  fired : Bool
  deriving DecidableEq, Repr

/-- One hold-up output (R565). -/
structure HoldOut where
  lastAt : Option Nat
  request : Option Bool
  rule : Nat
  trigger : Int
  deriving DecidableEq, Repr

structure MtrUnit where
  /-- Samples of the last two crossings and of the current interval, oldest first. -/
  samples : List Sample
  /-- Crossings of the current window and interval, oldest first. -/
  crosses : List Cross
  armedPos : Bool
  armedNeg : Bool
  /-- The last measured period as a ratio: nanoseconds over cycles. -/
  periodNs : Nat
  periodN : Nat
  synthRun : Nat
  /-- Positive crossing that starts the current interval. -/
  interval : Option Int
  /-- Its stamp, which a step does not move. -/
  intervalTs : Int
  cycles : Nat
  /-- The current interval: a synthetic crossing, a Sundial step, an event, a clipped sample. -/
  synth : Bool
  stepped : Bool
  overlap : Bool
  clipped : Nat
  /-- Crossings since the last 10-second boundary, oldest first (R557). -/
  ten : List Cross
  /-- The four accumulators, in uJ (R558). -/
  energy : List Nat
  /-- Events in progress, by class. -/
  events : FMap (Option MtrEvent)
  queue : List QueuedEvent
  rules : List MtrRule
  holds : FMap HoldOut
  /-- The latest value of each quantity code (R562), as an integer in its unit; none before its first update. -/
  values : FMap (Option Int)
  /-- Intervals since METER_DIV last came due. -/
  divCount : Nat
  deriving DecidableEq, Repr

def HoldOut.init (_ : Nat) : HoldOut := { lastAt := none, request := none, rule := 0xFFFF, trigger := 0 }
def MtrUnit.init : MtrUnit :=
  { samples := [], crosses := [], armedPos := false, armedNeg := false, periodNs := 0, periodN := 0, synthRun := 0,
    interval := none, intervalTs := 0, cycles := 0, synth := false, stepped := false, overlap := false,
    clipped := 0, ten := [], energy := [0, 0, 0, 0], events := [], queue := [], rules := [],
    holds := [], values := [], divCount := 0 }

end Sys2Proof.Machine
end

