-- ==== Sys2Proof/Machine/PlaneUnits.lean ====
section
/-! DEFINITION. The state of the data plane's units that the registers do not show: decode, the Pruner, jobs and commands,
beds, application cores and models (chapters 8 to 14 and 20). Plain data, one structure a unit, with its initial value. -/

namespace Sys2Proof.Machine

/-! Video decode. -/

/-- An item of a stream's decode queue, in bitstream order (R204, R211). -/
inductive DecItem where
  /-- A slice: its access unit's FRAME_SEQ and stamp, NAL bytes, whether it is the first of its picture, whether its picture
  is a random access picture, an RASL picture, a reference picture, whether a recovery point SEI precedes it, and whether its
  parameter sets lie inside the support table (R202). -/
  | slice (frameSeq ts len : Nat) (first rap rasl ref recovery supported : Bool)
  /-- An omission notice, and whether it stands for a slice. -/
  | omitted (frameSeq : Nat) (isSlice : Bool)
  | auEnd (frameSeq : Nat)
  deriving DecidableEq, Repr

/-- A picture of a stream (R212). -/
structure DecPic where
  gen : Nat
  frameSeq : Nat
  ts : Nat
  /-- Luma rows emitted so far (R213). -/
  rows : Nat
  /-- A band has been emitted. -/
  emitted : Bool
  dark : Bool
  tainted : Bool
  voided : Bool
  complete : Bool
  /-- It is a reference picture. -/
  ref : Bool
  /-- Output buffer, 0 to 2. -/
  buf : Nat
  /-- Every slice so far had disable_deblocking_filter_idc 1 or 2 (R213). -/
  allOff : Bool
  /-- A band has been emitted up to r under the second condition of R213. -/
  early : Bool
  deriving DecidableEq, Repr

/-- An output buffer in use: its generation and the pipelines that have not finished with it (R224). -/
structure DecBuf where
  gen : Nat
  users : List Nat
  deriving DecidableEq, Repr

/-- Decode's state of one stream. -/
structure DecStream where
  items : List DecItem
  /-- The pictures started, newest first (at most 256, R220). -/
  pics : List DecPic
  /-- The newest picture is still being decoded. -/
  current : Bool
  genNext : Nat
  bufs : FMap (Option DecBuf)
  /-- A reference of the stream holds a concealed or generated region (R222). -/
  concealed : Bool
  /-- Decoding started at a recovery point SEI and its recovery point has not come (R203). -/
  recovering : Bool
  /-- A recovery point SEI has arrived for the next slice. -/
  seiPending : Bool
  /-- RASL pictures are skipped (R201). -/
  skipRasl : Bool
  deriving DecidableEq, Repr

/-- A reservation credit in thousandths of a pixel-equivalent, with the Sundial value it was brought up to date at (R206). -/
structure Credit where
  milli : Int
  at_ : Nat
  deriving DecidableEq, Repr

/-- Video decode: streams, the stream on each core, and the plots' credits. -/
structure VdcUnit where
  streams : FMap DecStream
  cores : FMap (Option Nat)
  credit : FMap Credit
  deriving DecidableEq, Repr

def DecStream.init (_ : Nat) : DecStream :=
  { items := [], pics := [], current := false, genNext := 0, bufs := [], concealed := false,
    recovering := false, seiPending := false, skipRasl := false }
def Credit.init (_ : Nat) : Credit := { milli := 0, at_ := 0 }
def VdcUnit.init : VdcUnit := { streams := [], cores := [], credit := [] }

/-! Jobs and commands. -/

/-- A crop entry (R235); a steered entry that was dropped keeps its place with width 0 (R260). -/
structure Crop where
  x0 : Nat
  y0 : Nat
  w : Nat
  h : Nat
  tag : Nat
  member : Nat
  deriving DecidableEq, Repr

/-- A member's frame of a job's input (R390). -/
structure Member where
  stream : Nat
  frameSeq : Nat
  gen : Nat
  missing : Bool
  deriving DecidableEq, Repr

/-- What one command does (R387, R388). -/
inductive Task where
  /-- Crop `index` of the active list. -/
  | crop (index : Nat) (c : Crop) (steered : Bool)
  /-- Layer `layer` of inference `infer`. -/
  | layer (infer layer : Nat)
  /-- A kernel: its ID, the thread-view address of its argument block if the entry gives one, and the aperture. -/
  | kernel (k : Nat) (arg : Option Nat) (aper : Nat)
  | runner (r : Nat)
  | tracker
  deriving DecidableEq, Repr

/-- A command: its job, its task, the beds or cores that have not taken it yet, its time limit in ns and its command sequence
number once it has started (R389, R395), with the Sundial value of its first start (before it, 1 for a crop whose wait for a
slot has been counted, R253). -/
structure Cmd where
  job : Option Nat
  plot : Nat
  task : Task
  /-- What runs it: 0 beds, each of `places`; 1 a Pruner engine; 2 one application core of `places`. -/
  unit : Nat
  places : List Nat
  limit : Nat
  seq : Option Nat
  begun : Nat
  deriving DecidableEq, Repr

/-- A job (R387 to R390). -/
structure Job where
  /-- The model's own name for the job while it lives. -/
  handle : Nat
  plot : Nat
  /-- Pipeline; 0xFF for a queue job. -/
  pipe : Nat
  queue : Nat
  rt : Bool
  prio : Nat
  /-- Job ID, taken when its first command starts. -/
  id : Option Nat
  set : Nat
  /-- The member that stands for the job: 0, or the set's REF. -/
  ref : Nat
  ts : Nat
  members : List Member
  tainted : Bool
  bolted : Bool
  reissued : Bool
  /-- The frame came by Trellis from a sender without valid time (R537). -/
  noTime : Bool
  stage : Nat
  /-- Commands of the current stage, or of the current queue entry, not yet ended. -/
  left : Nat
  /-- Drills that hold samples of the job and have not been inferred: group and DRILL_SEQ. -/
  drills : List (Nat × Nat)
  /-- The crops of its Pruner stages: the list that its frame latched, and whether it was steered (R238). -/
  crops : List Crop
  steered : Bool
  /-- Queue job: the IRQ flag of its entries. -/
  irq : Bool
  /-- A record has been formed for the job. -/
  formed : Bool
  /-- Queue job: the stream and generation that its current entry names (R220, R391). -/
  check : Option (Nat × Nat)
  /-- Its generation was voided while some of its crops ran: the others are skipped, and the job ends with them (R220, R408). -/
  cut : Bool
  /-- The model that its last inference ran on (R378). -/
  ran : Option Nat
  deriving DecidableEq, Repr

/-- A segment of a drill (R250) with the job whose sample it is. -/
structure Seg where
  col : Nat
  width : Nat
  stream : Nat
  crop : Nat
  flags : Nat
  pipe : Nat
  gen : Nat
  rowsReady : Nat
  frameSeq : Nat
  tag : Nat
  ts : Nat
  job : Nat
  deriving DecidableEq, Repr

/-- An inference (R312): one pass of a model over one input tensor. -/
structure Infer where
  handle : Nat
  /-- The jobs whose samples it takes; the commands are the first one's. -/
  jobs : List Nat
  plot : Nat
  pipe : Nat
  /-- The model that the stage names, and the version it is bound to at layer 0 (R378). -/
  named : Nat
  model : Nat
  /-- The drill it consumes: group and DRILL_SEQ; none for a predecessor stage's output. -/
  drill : Option (Nat × Nat)
  segs : List Seg
  entered : Bool
  layer : Nat
  /-- Commands of the current layer not yet ended. -/
  left : Nat
  /-- Bolts of the current layer's run (R312). -/
  bolts : Nat
  reruns : Nat
  /-- The current run is a re-run. -/
  rerun : Bool
  /-- The layer before wrote its wide format. -/
  wideIn : Bool
  /-- The span in wide mode (R319). -/
  wideSpan : Option Nat
  /-- Streamed residency: layers below this have their weights fetched (R370). -/
  fetched : Nat
  bolted : Bool
  deriving DecidableEq, Repr

/-- A job that has ended, kept for late errors (R620). -/
structure PastJob where
  plot : Nat
  id : Nat
  pipe : Nat
  set : Nat
  ref : Nat
  ts : Nat
  members : List Member
  formed : Bool
  deriving DecidableEq, Repr

/-- Counts of one model and version for the BOLT record of the second (R325). -/
structure BoltCount where
  plot : Nat
  model : Nat
  version : Nat
  inferences : Nat
  bolts : Nat
  reruns : Nat
  bolted : Nat
  /-- Layer, times it bolted, summed bolt count, largest count of one inference. -/
  layers : List (Nat × Nat × Nat × Nat)
  deriving DecidableEq, Repr

/-- A job fault that has been detected and whose teardown is due (R406): the job's handle (none outside a job), the faulting
command, and the cause (R405). -/
structure JobFault where
  job : Option Nat
  plot : Nat
  cause : Nat
  seq : Nat
  deriving DecidableEq, Repr

/-- Jobs, inferences and commands of the Gardeners and the Shed runtime. -/
structure JobUnit where
  jobs : List Job
  infers : List Infer
  /-- Commands issued and not yet taken by all their places, oldest first. -/
  ready : List Cmd
  next : Nat
  /-- Command counters of the plots (R389). -/
  cmdSeq : FMap Nat
  /-- Ended jobs, newest first. -/
  past : List PastJob
  bolt : List BoltCount
  faults : List JobFault
  /-- The plot served last in each priority's round robin (R392), by kind of unit x 8 + priority. -/
  turn : FMap Nat
  deriving DecidableEq, Repr

def JobUnit.init : JobUnit :=
  { jobs := [], infers := [], ready := [], next := 0, cmdSeq := [], past := [], bolt := [], faults := [], turn := [] }

/-! The Pruner. -/

/-- A frame whose latch event waits for the Pruner (R238). -/
structure PrnLatch where
  stream : Nat
  frameSeq : Nat
  gen : Nat
  ts : Nat
  deriving DecidableEq, Repr

/-- Where a commit's list comes from: entries in the plot's window (address and count), a list the tracker formed, or the static
list again (R237, R590). -/
inductive CopySrc where
  | list (addr count : Nat)
  | formed (l : List Crop)
  | again
  deriving DecidableEq, Repr

/-- The Pruner's state of one pipeline: crop lists with whether they were steered. -/
structure PrnPipe where
  active : List Crop
  steered : Bool
  pending : Option (List Crop × Bool)
  /-- A copy in progress. -/
  copying : Option CopySrc
  /-- Runners whose STEER call returns once COPYING clears (R584). -/
  callers : List Nat
  latches : List PrnLatch
  /-- Lists latched for reference frames of a set whose pair is not delivered yet. -/
  snaps : List (Nat × List Crop × Bool)
  deriving DecidableEq, Repr

/-- A drill (R249, R250). -/
structure Drill where
  seq : Nat
  slot : Nat
  segs : List Seg
  firstAt : Nat
  close : Nat
  closeTs : Nat
  deriving DecidableEq, Repr

/-- A drill group: the open drill, closed drills whose notice is due, and delivered drills with their consumers left. -/
structure PrnGrp where
  opened : Option Drill
  closed : List Drill
  /-- Drills delivered: the drill and the commands that still consume it (R253). -/
  used : List (Drill × Nat)
  nextSeq : Nat
  deriving DecidableEq, Repr

/-- The Pruner: pipelines, groups, the crop on each engine, credits. -/
structure PrnUnit where
  pipes : FMap PrnPipe
  groups : FMap PrnGrp
  engines : FMap (Option Cmd)
  credit : FMap Credit
  deriving DecidableEq, Repr

def PrnPipe.init (_ : Nat) : PrnPipe :=
  { active := [], steered := false, pending := none, copying := none, callers := [], latches := [], snaps := [] }
def PrnGrp.init (_ : Nat) : PrnGrp := { opened := none, closed := [], used := [], nextSeq := 0 }
def PrnUnit.init : PrnUnit := { pipes := [], groups := [], engines := [], credit := [] }

/-! Beds. -/

/-- What a thread waits for (R264). -/
inductive Wait where
  | ready
  /-- Data of a remote, DRAM or register load: the instruction, which completes when the data returns, and the first address
  outside the bed's own store. -/
  | load (word : Word) (addr : Nat)
  /-- A place in the engine queue. -/
  | engine
  | twait (rd n : Nat)
  | tfence (m : Nat)
  | tbar (b : Nat)
  | exited
  deriving DecidableEq, Repr

/-- A bed thread. -/
structure Thread where
  pc : Word
  x : FMap Word
  /-- Vector registers, by byte: register x 128 + byte. -/
  v : FMap Byte
  vl : Nat
  vtype : Nat
  vxrm : Nat
  vxsat : Bool
  tcfg : Word
  instret : Nat
  wait : Wait
  tputs : Nat
  deriving DecidableEq, Repr

/-- An engine operation (R271) with its issuing thread and that thread's TCFG at issue. -/
inductive EngKind where
  | zero
  | mma (a b : Nat)
  | ldacc (a : Nat)
  | stacc (a : Nat)
  | rq (out table : Nat)
  deriving DecidableEq, Repr

structure EngOp where
  thread : Nat
  pc : Word
  tcfg : Word
  acc : Nat
  kind : EngKind
  deriving DecidableEq, Repr

/-- A mesh copy in flight (R283). -/
structure Tput where
  thread : Nat
  src : Nat
  dst : Nat
  len : Nat
  deriving DecidableEq, Repr

/-- A barrier: the count of its first arrival and the threads that have arrived (R289). -/
structure Barrier where
  count : Nat
  arrived : List Nat
  deriving DecidableEq, Repr

/-- The command a bed has taken (R262). -/
structure BedCmd where
  cmd : Cmd
  started : Bool
  startAt : Nat
  aper : Nat
  /-- Stripes run so far (R349). -/
  stripes : Nat
  deriving DecidableEq, Repr

structure Bed where
  cmd : Option BedCmd
  threads : FMap Thread
  /-- Accumulators: ACCa[m][n] at a x 2048 + 64 m + n. -/
  acc : FMap Word
  queue : List EngOp
  bolts : FMap Word
  barriers : FMap Barrier
  tputs : List Tput
  deriving DecidableEq, Repr

def Thread.init (_ : Nat) : Thread :=
  { pc := 0, x := [], v := [], vl := 0, vtype := 0x80000000, vxrm := 0, vxsat := false, tcfg := 0, instret := 0,
    wait := .exited, tputs := 0 }
def Barrier.init (_ : Nat) : Barrier := { count := 0, arrived := [] }
def Bed.init (_ : Nat) : Bed :=
  { cmd := none, threads := [], acc := [], queue := [], bolts := [], barriers := [], tputs := [] }

/-! Application cores. -/

/-- An activation on a core (R582): runner 63 is the tracker. -/
structure Act where
  cmd : Cmd
  runner : Nat
  rt : Bool
  startAt : Nat
  deriving DecidableEq, Repr

/-- A Runner's events (R585). -/
structure RunnerSt where
  /-- Started, and not ended. -/
  live : Bool
  /-- Its next activation is the one that starts it. -/
  fresh : Bool
  /-- It has called WAIT and no activation of it has been issued since. -/
  waiting : Bool
  /-- Mask of its last WAIT. -/
  mask : Nat
  pend : Nat
  /-- Jobs of its JOB queue, oldest first. -/
  jobs : List Nat
  /-- It ended and restarts at the next tick (R583). -/
  restart : Bool
  deriving DecidableEq, Repr

/-- A track (R589): the six state values cx, cy, w, h, vx, vy and the covariance (x, xv, v of the x axis, the same of the y
axis, w, h) as FP32 codes; STATE 0 tentative, 1 confirmed, 2 coasting, 3 ended; runs since it was confirmed. -/
structure Track where
  id : Nat
  state : Nat
  cls : Nat
  score : Nat
  member : Nat
  hits : Nat
  misses : Nat
  age : Nat
  x : List Nat
  cov : List Nat
  deriving DecidableEq, Repr

/-- A pipeline's track set, with the CAPTURE_TS of its last run. -/
structure TrackSet where
  tracks : List Track
  lastTs : Option Nat
  deriving DecidableEq, Repr

/-- Trellis credits held by a command (R529): port, plot, holder (core) and credits. -/
structure Hold where
  port : Nat
  plot : Nat
  core : Nat
  credits : Nat
  deriving DecidableEq, Repr

structure ApcUnit where
  cores : FMap (Option Act)
  runners : FMap RunnerSt
  /-- Latched event words of the plots (R585). -/
  latched : FMap Nat
  tracks : FMap TrackSet
  /-- TRACK_IDs given by each plot. -/
  trackIds : FMap Nat
  holds : List Hold
  deriving DecidableEq, Repr

def RunnerSt.init (_ : Nat) : RunnerSt :=
  { live := false, fresh := false, waiting := false, mask := 0, pend := 0, jobs := [], restart := false }
def TrackSet.init (_ : Nat) : TrackSet := { tracks := [], lastTs := none }
def ApcUnit.init : ApcUnit := { cores := [], runners := [], latched := [], tracks := [], trackIds := [], holds := [] }

/-! Models (chapter 13). -/

/-- A model's state (R364): 0 ABSENT, 1 LOADING, 2 LOADED, 3 STAGING, 4 STAGED, 5 GRAFTING, 6 READY, 7 FAILED. -/
structure ModelSt where
  state : Nat
  /-- 0 none, 1 HASH, 2 READ, 3 FORMAT, 4 MISMATCH (R365). -/
  cause : Nat
  /-- A graft of it has been ordered (R381). -/
  ordered : Bool
  /-- Layers already swapped in its wave (R377). -/
  swapped : Nat
  /-- Every layer is verified in DRAM; its placement or staging on the beds has not settled. -/
  placing : Bool
  deriving DecidableEq, Repr

/-- A load in progress: a model (`kernel` false) or an NVMe kernel, the layer being read, and when a byte last arrived. -/
structure LoadRun where
  kernel : Bool
  item : Nat
  layer : Nat
  progressAt : Nat
  deriving DecidableEq, Repr

/-- A plot's loads (R363): the one running, those queued (kernel or model), and how many queued ones a Runner requested. -/
structure LoadQ where
  cur : Option LoadRun
  queue : List (Bool × Nat)
  deriving DecidableEq, Repr

structure ModelUnit where
  models : FMap ModelSt
  loads : FMap LoadQ
  /-- Kernels whose digest has matched. -/
  kernels : List Nat
  /-- The live member of the family of a named model, where a graft has changed it (R377). -/
  live : FMap Nat
  /-- The Gardeners' own copy of each layer's header and descriptor, bytes 0x00 to 0xBF of its blob, taken once the layer's digest
  has matched (R333); key model × 65536 + layer. -/
  heads : FMap (List Byte)
  deriving DecidableEq, Repr

def ModelSt.init (_ : Nat) : ModelSt := { state := 0, cause := 0, ordered := false, swapped := 0, placing := false }
def LoadQ.init (_ : Nat) : LoadQ := { cur := none, queue := [] }
def ModelUnit.init : ModelUnit := { models := [], loads := [], kernels := [], live := [], heads := [] }

end Sys2Proof.Machine
end

