-- ==== Sys2Proof/Config.lean ====
section
/-! DEFINITION. What one Frexia fixes and the model leaves open: the fused values (R137), and the free values, which are
opaque constants that no proof can evaluate. -/

namespace Sys2Proof.Config

/-- The source of free values: value `n` of the run. Nothing constrains it. -/
opaque freeValue : Nat → BitVec 64

/-- On-die ROM firmware version (SHD_ROM_VER). -/
opaque romVersion : BitVec 32
/-- The device identity (HVS_DEVICE_ID). -/
opaque deviceId : BitVec 64
/-- Customer order number fused with the Fleet Link Key (KEY_ORDER). -/
opaque orderCode : BitVec 32
/-- The Device Root, 256 bits (R136). -/
opaque deviceRoot : BitVec 256
/-- The Fleet Link Key, 256 bits (R136). -/
opaque fleetKey : BitVec 256
/-- The image verification key, an Ed25519 public key (R136). -/
opaque imageKey : BitVec 256
/-- Keatil's firmware key, an Ed25519 public key (R136). -/
opaque firmwareKey : BitVec 256
/-- Which fused keys are programmed and pass their fuse check: bits DEV_ROOT, FLEET, IMG_PK, FW_PK of KEY_FUSES. -/
opaque fuses : BitVec 4
/-- PCI vendor identity of the endpoint. -/
opaque vendorId : BitVec 16

/-- vl that vsetvl gives for an AVL above VLMAX and below 2 x VLMAX, which the V extension leaves to the implementation. -/
opaque vlPick : Nat → Nat → BitVec 64

/-- What a new track starts with (R589), which the spec does not state: values 0 and 1 its velocities, 2 to 9 its covariance,
as binary32 codes. -/
opaque trackInit : Nat → BitVec 32

/-- The 2 MiB granule of system DRAM that holds granule `i` of plot `k`'s window (R28), which the spec leaves to the Shed. -/
opaque granule : Nat → Nat → BitVec 64
/-- Whether the DRAM's mode registers require refresh management (R471). -/
opaque rfmRequired : BitVec 1

/-- The 32 bytes of a fused 256-bit value, byte 0 first. -/
def keyBytes (k : BitVec 256) : List Byte := toLe 32 k.toNat

end Sys2Proof.Config
end

