-- ==== Sys2Proof/Machine/RegMap.lean ====
section
/-! DEFINITION. The register map of the Frexia: every register of the 22 blocks (R25) with its offset, its instances, and
its fields with their access codes (R6) and Reset values (R8), as the Registers sections of the chapters list them. `R` gives
each register's address in register space (block index x 0x10_0000 + offset), `F` each field. -/

namespace Sys2Proof.Machine

/-- The access codes of R6. -/
inductive Acc where
  | rw | ro | wo | w1c | w1s | rc
  deriving DecidableEq, Repr

/-- One field of a register: bits `hi:lo`, its access code and its Reset value. -/
structure FieldSpec where
  hi : Nat
  lo : Nat
  acc : Acc
  reset : Nat
  deriving DecidableEq, Repr

/-- One register of a block: offset, `cnt` instances `str` apart (and `cnt2` instances `str2` apart inside each). -/
structure RegRow where
  off : Nat
  cnt : Nat
  str : Nat
  cnt2 : Nat
  str2 : Nat
  fields : List FieldSpec
  deriving DecidableEq, Repr

/-- A field of one register instance: the register's address in register space and the field's bits. -/
structure Fld where
  reg : Nat
  hi : Nat
  lo : Nat
  deriving DecidableEq, Repr

/-- Four bytes, from byte `i`, of the SHA-256 of a public key (KEY_IMG_FP, KEY_FW_FP). -/
def keyFp (k : BitVec 256) (i : Nat) : Nat := leNat (((Crypto.sha256 (Config.keyBytes k)).drop i).take 4)

/-- The block's base in register space (R25). -/
def blk (i : Nat) : Nat := i * 0x100000

/-- Index of block SHD (R25). -/
def blkSHD : Nat := 0
/-- Index of block SDL (R25). -/
def blkSDL : Nat := 1
/-- Index of block ITK (R25). -/
def blkITK : Nat := 2
/-- Index of block VDC (R25). -/
def blkVDC : Nat := 3
/-- Index of block PRN (R25). -/
def blkPRN : Nat := 4
/-- Index of block BRW (R25). -/
def blkBRW : Nat := 5
/-- Index of block DMC (R25). -/
def blkDMC : Nat := 6
/-- Index of block HVS (R25). -/
def blkHVS : Nat := 7
/-- Index of block TRL (R25). -/
def blkTRL : Nat := 8
/-- Index of block MTR (R25). -/
def blkMTR : Nat := 9
/-- Index of block PLT (R25). -/
def blkPLT : Nat := 10
/-- Index of block STK (R25). -/
def blkSTK : Nat := 11
/-- Index of block KEY (R25). -/
def blkKEY : Nat := 12
/-- Index of block PEP (R25). -/
def blkPEP : Nat := 13
/-- Index of block PRP (R25). -/
def blkPRP : Nat := 14
/-- Index of block ETH (R25). -/
def blkETH : Nat := 15
/-- Index of block XSP (R25). -/
def blkXSP : Nat := 16
/-- Index of block PWR (R25). -/
def blkPWR : Nat := 17
/-- Index of block FLT (R25). -/
def blkFLT : Nat := 18
/-- Index of block BED (R25). -/
def blkBED : Nat := 19
/-- Index of block APC (R25). -/
def blkAPC : Nat := 20
/-- Index of block DSP (R25). -/
def blkDSP : Nat := 21

/-- The registers of block SHD. -/
def regsSHD : List RegRow :=
  [⟨0x0, 1, 0x0, 1, 0x0, [⟨7, 0, .ro, 0xB1⟩]⟩,
   ⟨0x4, 1, 0x0, 1, 0x0, [⟨31, 0, .ro, Config.romVersion.toNat⟩]⟩,
   ⟨0x8, 1, 0x0, 1, 0x0, [⟨2, 0, .ro, 0⟩, ⟨4, 3, .ro, 3⟩, ⟨5, 5, .ro, 0⟩, ⟨6, 6, .ro, 0⟩, ⟨7, 7, .ro, 0⟩, ⟨15, 8, .ro, 0⟩]⟩,
   ⟨0xc, 1, 0x0, 1, 0x0, [⟨31, 0, .ro, 0⟩]⟩,
   ⟨0x10, 1, 0x0, 1, 0x0, [⟨31, 0, .ro, 0⟩]⟩,
   ⟨0x14, 1, 0x0, 1, 0x0, [⟨31, 0, .ro, 0⟩]⟩,
   ⟨0x18, 1, 0x0, 1, 0x0, [⟨1, 0, .ro, 0⟩, ⟨3, 2, .ro, 0⟩]⟩,
   ⟨0x1c, 1, 0x0, 1, 0x0, [⟨31, 0, .ro, 0⟩]⟩,
   ⟨0x20, 1, 0x0, 1, 0x0, [⟨31, 0, .ro, 0⟩]⟩,
   ⟨0x24, 1, 0x0, 1, 0x0, [⟨31, 0, .ro, 0⟩]⟩,
   ⟨0x10000, 1, 0x0, 1, 0x0, [⟨7, 0, .rw, 0⟩, ⟨23, 8, .rw, 0⟩]⟩,
   ⟨0x10004, 3, 0x4, 1, 0x0, [⟨31, 0, .rw, 0⟩]⟩] ++
  [⟨0x10010, 1, 0x0, 1, 0x0, [⟨0, 0, .ro, 0⟩, ⟨6, 4, .ro, 0⟩, ⟨7, 7, .w1c, 0⟩, ⟨23, 8, .ro, 0⟩]⟩,
   ⟨0x10014, 1, 0x0, 1, 0x0, [⟨31, 0, .ro, 0⟩]⟩,
   ⟨0x18000, 8192, 0x4, 1, 0x0, [⟨31, 0, .rw, 0⟩]⟩]

/-- The registers of block SDL. -/
def regsSDL : List RegRow :=
  [⟨0x0, 1, 0x0, 1, 0x0, [⟨31, 0, .ro, 0⟩]⟩,
   ⟨0x4, 1, 0x0, 1, 0x0, [⟨31, 0, .ro, 0⟩]⟩,
   ⟨0x8, 1, 0x0, 1, 0x0, [⟨0, 0, .ro, 0⟩, ⟨1, 1, .ro, 0⟩, ⟨2, 2, .ro, 0⟩, ⟨4, 3, .ro, 0⟩, ⟨5, 5, .ro, 0⟩, ⟨6, 6, .ro, 0⟩, ⟨7, 7, .ro, 0⟩]⟩,
   ⟨0xc, 1, 0x0, 1, 0x0, [⟨0, 0, .w1c, 0⟩, ⟨1, 1, .w1c, 0⟩, ⟨2, 2, .w1c, 0⟩, ⟨3, 3, .w1c, 0⟩, ⟨4, 4, .w1c, 0⟩, ⟨5, 5, .w1c, 0⟩]⟩,
   ⟨0x10, 1, 0x0, 1, 0x0, [⟨31, 0, .rw, 0⟩]⟩,
   ⟨0x14, 1, 0x0, 1, 0x0, [⟨31, 0, .wo, 0⟩]⟩,
   ⟨0x18, 1, 0x0, 1, 0x0, [⟨31, 0, .wo, 0⟩]⟩,
   ⟨0x1c, 1, 0x0, 1, 0x0, [⟨31, 0, .ro, 0⟩]⟩,
   ⟨0x20, 1, 0x0, 1, 0x0, [⟨7, 0, .rw, 0⟩, ⟨15, 8, .rw, 0⟩, ⟨18, 16, .rw, 0⟩, ⟨19, 19, .rw, 0⟩]⟩,
   ⟨0x24, 1, 0x0, 1, 0x0, [⟨2, 0, .rc, 0⟩, ⟨3, 3, .rc, 0⟩, ⟨9, 4, .ro, 0⟩, ⟨31, 31, .rc, 0⟩]⟩,
   ⟨0x28, 1, 0x0, 1, 0x0, [⟨31, 0, .ro, 0⟩]⟩,
   ⟨0x2c, 1, 0x0, 1, 0x0, [⟨31, 0, .ro, 0⟩]⟩] ++
  [⟨0x30, 1, 0x0, 1, 0x0, [⟨31, 0, .ro, 0⟩]⟩,
   ⟨0x1000, 64, 0x20, 1, 0x0, [⟨31, 0, .rw, 0⟩]⟩,
   ⟨0x1004, 64, 0x20, 1, 0x0, [⟨31, 0, .rw, 0⟩]⟩,
   ⟨0x1008, 64, 0x20, 1, 0x0, [⟨31, 0, .rw, 0⟩]⟩,
   ⟨0x100c, 64, 0x20, 1, 0x0, [⟨0, 0, .rw, 0⟩, ⟨2, 1, .rw, 0⟩, ⟨13, 8, .rw, 0⟩]⟩,
   ⟨0x1010, 64, 0x20, 1, 0x0, [⟨0, 0, .w1c, 0⟩]⟩,
   ⟨0x1014, 64, 0x20, 1, 0x0, [⟨15, 0, .rc, 0⟩]⟩,
   ⟨0x1018, 64, 0x20, 1, 0x0, [⟨3, 0, .ro, 0⟩]⟩]

/-- The registers of block ITK. -/
def regsITK : List RegRow :=
  [⟨0x0, 1, 0x0, 1, 0x0, [⟨0, 0, .rw, 0⟩]⟩,
   ⟨0x100, 8, 0x20, 1, 0x0, [⟨0, 0, .rw, 0⟩, ⟨2, 1, .rw, 0⟩, ⟨3, 3, .rw, 0⟩]⟩,
   ⟨0x104, 8, 0x20, 1, 0x0, [⟨0, 0, .ro, 0⟩, ⟨4, 1, .ro, 0⟩]⟩,
   ⟨0x108, 8, 0x20, 1, 0x0, [⟨8, 0, .w1c, 0⟩]⟩,
   ⟨0x10c, 8, 0x20, 1, 0x0, [⟨15, 0, .rc, 0⟩]⟩,
   ⟨0x10000, 128, 0x80, 1, 0x0, [⟨0, 0, .rw, 0⟩, ⟨1, 1, .wo, 0⟩]⟩,
   ⟨0x10004, 128, 0x80, 1, 0x0, [⟨2, 0, .ro, 0⟩, ⟨3, 3, .ro, 0⟩]⟩,
   ⟨0x10008, 128, 0x80, 1, 0x0, [⟨2, 0, .rw, 0⟩, ⟨4, 3, .rw, 0⟩, ⟨5, 5, .rw, 0⟩, ⟨31, 16, .rw, 0⟩]⟩,
   ⟨0x1000c, 128, 0x80, 1, 0x0, [⟨31, 0, .rw, 0⟩]⟩,
   ⟨0x10010, 128, 0x80, 1, 0x0, [⟨6, 0, .rw, 0⟩]⟩,
   ⟨0x10014, 128, 0x80, 1, 0x0, [⟨31, 0, .ro, 0⟩]⟩,
   ⟨0x10018, 128, 0x80, 1, 0x0, [⟨31, 0, .rw, 0⟩]⟩] ++
  [⟨0x1001c, 128, 0x80, 1, 0x0, [⟨15, 0, .rw, 0⟩]⟩,
   ⟨0x10020, 128, 0x80, 1, 0x0, [⟨31, 0, .rw, 0⟩]⟩,
   ⟨0x10024, 128, 0x80, 1, 0x0, [⟨31, 0, .rw, 0⟩]⟩,
   ⟨0x10028, 128, 0x80, 1, 0x0, [⟨31, 0, .rw, 0⟩]⟩,
   ⟨0x1002c, 128, 0x80, 1, 0x0, [⟨0, 0, .wo, 0⟩]⟩,
   ⟨0x10030, 128, 0x80, 1, 0x0, [⟨0, 0, .ro, 0⟩, ⟨1, 1, .w1c, 0⟩, ⟨2, 2, .w1c, 0⟩]⟩,
   ⟨0x10034, 128, 0x80, 1, 0x0, [⟨31, 0, .ro, 0⟩]⟩,
   ⟨0x10038, 128, 0x80, 1, 0x0, [⟨31, 0, .ro, 0⟩]⟩,
   ⟨0x1003c, 128, 0x80, 1, 0x0, [⟨31, 0, .ro, 0⟩]⟩,
   ⟨0x10040, 128, 0x80, 1, 0x0, [⟨31, 0, .rw, 0⟩]⟩,
   ⟨0x10044, 128, 0x80, 1, 0x0, [⟨31, 0, .ro, 0⟩]⟩,
   ⟨0x10048, 128, 0x80, 1, 0x0, [⟨31, 0, .ro, 0⟩]⟩] ++
  [⟨0x1004c, 128, 0x80, 1, 0x0, [⟨15, 0, .rc, 0⟩]⟩,
   ⟨0x10050, 128, 0x80, 1, 0x0, [⟨15, 0, .rc, 0⟩]⟩,
   ⟨0x10054, 128, 0x80, 1, 0x0, [⟨15, 0, .rc, 0⟩]⟩,
   ⟨0x10058, 128, 0x80, 1, 0x0, [⟨15, 0, .rc, 0⟩]⟩,
   ⟨0x20000, 32, 0x20, 1, 0x0, [⟨0, 0, .rw, 0⟩]⟩,
   ⟨0x20004, 32, 0x20, 1, 0x0, [⟨31, 0, .rc, 0⟩]⟩,
   ⟨0x20008, 32, 0x20, 1, 0x0, [⟨31, 0, .rc, 0⟩]⟩,
   ⟨0x2000c, 32, 0x20, 1, 0x0, [⟨31, 0, .rc, 0⟩]⟩,
   ⟨0x20010, 32, 0x20, 1, 0x0, [⟨31, 0, .ro, 0⟩]⟩]

/-- The registers of block VDC. -/
def regsVDC : List RegRow :=
  [⟨0x0, 1, 0x0, 1, 0x0, [⟨0, 0, .rw, 0⟩]⟩,
   ⟨0x4, 1, 0x0, 1, 0x0, [⟨5, 0, .ro, 0⟩]⟩,
   ⟨0x10, 6, 0x4, 1, 0x0, [⟨31, 0, .ro, 0⟩]⟩,
   ⟨0x100, 9, 0x4, 1, 0x0, [⟨12, 0, .rw, 0⟩]⟩,
   ⟨0x10000, 128, 0x40, 1, 0x0, [⟨0, 0, .rw, 0⟩, ⟨2, 1, .rw, 0⟩]⟩,
   ⟨0x10004, 128, 0x40, 1, 0x0, [⟨2, 0, .ro, 0⟩, ⟨3, 3, .ro, 0⟩, ⟨4, 4, .ro, 0⟩]⟩,
   ⟨0x10008, 128, 0x40, 1, 0x0, [⟨31, 0, .rw, 0⟩]⟩,
   ⟨0x1000c, 128, 0x40, 1, 0x0, [⟨15, 0, .rw, 0⟩]⟩,
   ⟨0x10010, 128, 0x40, 1, 0x0, [⟨31, 0, .rw, 0⟩]⟩,
   ⟨0x10014, 128, 0x40, 1, 0x0, [⟨15, 0, .rw, 0⟩]⟩,
   ⟨0x10018, 128, 0x40, 1, 0x0, [⟨15, 0, .ro, 0⟩]⟩,
   ⟨0x1001c, 128, 0x40, 1, 0x0, [⟨31, 0, .ro, 0⟩]⟩] ++
  [⟨0x10020, 128, 0x40, 1, 0x0, [⟨15, 0, .rc, 0⟩]⟩,
   ⟨0x10024, 128, 0x40, 1, 0x0, [⟨15, 0, .ro, 0⟩, ⟨19, 16, .ro, 0⟩]⟩,
   ⟨0x10028, 128, 0x40, 1, 0x0, [⟨15, 0, .rc, 0⟩]⟩,
   ⟨0x1002c, 128, 0x40, 1, 0x0, [⟨15, 0, .rc, 0⟩]⟩,
   ⟨0x10030, 128, 0x40, 1, 0x0, [⟨15, 0, .rc, 0⟩]⟩]

/-- The registers of block PRN. -/
def regsPRN : List RegRow :=
  [⟨0x0, 1, 0x0, 1, 0x0, [⟨0, 0, .rw, 0⟩]⟩,
   ⟨0x4, 1, 0x0, 1, 0x0, [⟨3, 0, .ro, 0⟩]⟩,
   ⟨0x10, 4, 0x4, 1, 0x0, [⟨31, 0, .ro, 0⟩]⟩,
   ⟨0x100, 9, 0x4, 1, 0x0, [⟨12, 0, .rw, 0⟩]⟩,
   ⟨0x10000, 64, 0x40, 1, 0x0, [⟨0, 0, .rw, 0⟩, ⟨1, 1, .rw, 0⟩]⟩,
   ⟨0x10004, 64, 0x40, 1, 0x0, [⟨31, 0, .rw, 0⟩]⟩,
   ⟨0x10008, 64, 0x40, 1, 0x0, [⟨15, 0, .rw, 0⟩]⟩,
   ⟨0x1000c, 64, 0x40, 1, 0x0, [⟨8, 0, .rw, 0⟩]⟩,
   ⟨0x10010, 64, 0x40, 1, 0x0, [⟨0, 0, .wo, 0⟩]⟩,
   ⟨0x10014, 64, 0x40, 1, 0x0, [⟨0, 0, .ro, 0⟩, ⟨1, 1, .ro, 0⟩, ⟨2, 2, .w1c, 0⟩, ⟨3, 3, .w1c, 0⟩]⟩,
   ⟨0x10018, 64, 0x40, 1, 0x0, [⟨31, 0, .ro, 0⟩]⟩,
   ⟨0x1001c, 64, 0x40, 1, 0x0, [⟨8, 0, .ro, 0⟩]⟩] ++
  [⟨0x10020, 64, 0x40, 1, 0x0, [⟨31, 0, .ro, 0⟩]⟩,
   ⟨0x10024, 64, 0x40, 1, 0x0, [⟨15, 0, .rc, 0⟩]⟩,
   ⟨0x10028, 64, 0x40, 1, 0x0, [⟨15, 0, .rc, 0⟩]⟩,
   ⟨0x1002c, 64, 0x40, 1, 0x0, [⟨31, 0, .rc, 0⟩]⟩,
   ⟨0x10030, 64, 0x40, 1, 0x0, [⟨15, 0, .rc, 0⟩]⟩,
   ⟨0x20000, 128, 0x20, 1, 0x0, [⟨31, 0, .ro, 0⟩]⟩,
   ⟨0x20004, 128, 0x20, 1, 0x0, [⟨31, 0, .ro, 0⟩]⟩,
   ⟨0x20008, 128, 0x20, 1, 0x0, [⟨31, 0, .ro, 0⟩]⟩,
   ⟨0x2000c, 128, 0x20, 1, 0x0, [⟨4, 0, .ro, 0⟩]⟩]

/-- The registers of block BRW. -/
def regsBRW : List RegRow :=
  [⟨0x0, 64, 0x100, 1, 0x0, [⟨0, 0, .rw, 0⟩, ⟨1, 1, .rw, 0⟩, ⟨2, 2, .wo, 0⟩, ⟨5, 4, .rw, 0⟩]⟩,
   ⟨0x4, 64, 0x100, 1, 0x0, [⟨2, 0, .ro, 0⟩, ⟨3, 3, .ro, 0⟩, ⟨4, 4, .ro, 0⟩]⟩,
   ⟨0x8, 64, 0x100, 1, 0x0, [⟨31, 0, .rw, 0⟩]⟩,
   ⟨0xc, 64, 0x100, 1, 0x0, [⟨15, 0, .rw, 0⟩]⟩,
   ⟨0x10, 64, 0x100, 1, 0x0, [⟨3, 0, .rw, 0⟩]⟩,
   ⟨0x14, 64, 0x100, 1, 0x0, [⟨11, 0, .rw, 0⟩]⟩,
   ⟨0x18, 64, 0x100, 1, 0x0, [⟨31, 0, .ro, 0⟩]⟩,
   ⟨0x1c, 64, 0x100, 1, 0x0, [⟨31, 0, .wo, 0⟩]⟩,
   ⟨0x20, 64, 0x100, 1, 0x0, [⟨31, 0, .rw, 0⟩]⟩,
   ⟨0x24, 64, 0x100, 1, 0x0, [⟨31, 0, .rw, 0⟩]⟩,
   ⟨0x28, 64, 0x100, 1, 0x0, [⟨1, 0, .rw, 0⟩, ⟨13, 8, .rw, 0⟩, ⟨23, 16, .rw, 0⟩]⟩,
   ⟨0x2c, 64, 0x100, 1, 0x0, [⟨7, 0, .ro, 0⟩]⟩] ++
  [⟨0x30, 64, 0x100, 1, 0x0, [⟨15, 0, .rc, 0⟩]⟩,
   ⟨0x34, 64, 0x100, 1, 0x0, [⟨31, 0, .ro, 0⟩]⟩,
   ⟨0x38, 64, 0x100, 1, 0x0, [⟨31, 0, .ro, 0⟩]⟩,
   ⟨0x3c, 64, 0x100, 1, 0x0, [⟨31, 0, .ro, 0⟩]⟩,
   ⟨0x40, 64, 0x100, 1, 0x0, [⟨31, 0, .ro, 0⟩]⟩,
   ⟨0x44, 64, 0x100, 1, 0x0, [⟨31, 0, .ro, 0⟩]⟩,
   ⟨0x48, 64, 0x100, 1, 0x0, [⟨31, 0, .ro, 0⟩]⟩,
   ⟨0x4c, 64, 0x100, 1, 0x0, [⟨24, 0, .ro, 0⟩]⟩,
   ⟨0x50, 64, 0x100, 1, 0x0, [⟨15, 0, .ro, 0⟩]⟩,
   ⟨0x54, 64, 0x100, 1, 0x0, [⟨0, 0, .w1c, 0⟩, ⟨1, 1, .w1c, 0⟩, ⟨2, 2, .w1c, 0⟩, ⟨3, 3, .w1c, 0⟩]⟩,
   ⟨0x58, 64, 0x100, 1, 0x0, [⟨3, 0, .rw, 0⟩]⟩,
   ⟨0x5c, 64, 0x100, 1, 0x0, [⟨2, 0, .ro, 0⟩]⟩] ++
  [⟨0x60, 64, 0x100, 1, 0x0, [⟨31, 0, .ro, 0⟩]⟩,
   ⟨0x64, 64, 0x100, 1, 0x0, [⟨31, 0, .ro, 0⟩]⟩,
   ⟨0x68, 64, 0x100, 1, 0x0, [⟨3, 0, .ro, 0⟩]⟩,
   ⟨0x8000, 1, 0x0, 1, 0x0, [⟨0, 0, .rw, 0⟩]⟩,
   ⟨0x8004, 1, 0x0, 1, 0x0, [⟨0, 0, .ro, 1⟩]⟩,
   ⟨0x8008, 1, 0x0, 1, 0x0, [⟨31, 0, .ro, 0⟩]⟩,
   ⟨0x800c, 1, 0x0, 1, 0x0, [⟨31, 0, .ro, 0⟩]⟩]

/-- The registers of block DMC. -/
def regsDMC : List RegRow :=
  [⟨0x0, 1, 0x0, 1, 0x0, [⟨0, 0, .rw, 0⟩, ⟨1, 1, .rw, 0⟩, ⟨2, 2, .rw, 0⟩, ⟨7, 4, .rw, 0xB⟩]⟩,
   ⟨0x4, 1, 0x0, 1, 0x0, [⟨1, 0, .rw, 0⟩, ⟨2, 2, .rw, 0⟩, ⟨29, 16, .rw, 0⟩]⟩,
   ⟨0x8, 1, 0x0, 1, 0x0, [⟨0, 0, .ro, 0⟩, ⟨1, 1, .ro, 0⟩, ⟨2, 2, .ro, 0⟩, ⟨3, 3, .ro, 0⟩]⟩,
   ⟨0xc, 1, 0x0, 1, 0x0, [⟨0, 0, .w1c, 0⟩, ⟨1, 1, .w1c, 0⟩, ⟨2, 2, .w1c, 0⟩, ⟨3, 3, .w1c, 0⟩, ⟨4, 4, .w1c, 0⟩]⟩,
   ⟨0x10, 1, 0x0, 1, 0x0, [⟨15, 0, .rc, 0⟩]⟩,
   ⟨0x14, 1, 0x0, 1, 0x0, [⟨15, 0, .rc, 0⟩]⟩,
   ⟨0x18, 1, 0x0, 1, 0x0, [⟨31, 0, .ro, 0⟩]⟩,
   ⟨0x1c, 1, 0x0, 1, 0x0, [⟨7, 0, .ro, 0⟩]⟩,
   ⟨0x20, 1, 0x0, 1, 0x0, [⟨0, 0, .ro, 0⟩, ⟨2, 1, .ro, 0⟩, ⟨11, 8, .ro, 0⟩, ⟨17, 12, .ro, 0⟩]⟩,
   ⟨0x30, 1, 0x0, 1, 0x0, [⟨7, 0, .rw, 24⟩]⟩,
   ⟨0x34, 1, 0x0, 1, 0x0, [⟨31, 0, .ro, 0⟩]⟩,
   ⟨0x38, 1, 0x0, 1, 0x0, [⟨31, 0, .ro, 0⟩]⟩] ++
  [⟨0x40, 4, 0x4, 1, 0x0, [⟨3, 0, .ro, 0⟩, ⟨7, 4, .ro, 0⟩]⟩,
   ⟨0x50, 1, 0x0, 1, 0x0, [⟨31, 0, .ro, 0⟩]⟩,
   ⟨0x54, 1, 0x0, 1, 0x0, [⟨31, 0, .ro, 0⟩]⟩,
   ⟨0x58, 1, 0x0, 1, 0x0, [⟨31, 0, .ro, 0⟩]⟩,
   ⟨0x60, 1, 0x0, 1, 0x0, [⟨0, 0, .ro, 0⟩, ⟨1, 1, .ro, 0⟩]⟩,
   ⟨0x64, 1, 0x0, 1, 0x0, [⟨15, 0, .ro, 0⟩]⟩,
   ⟨0x100, 32, 0x4, 1, 0x0, [⟨31, 0, .rw, 0⟩]⟩,
   ⟨0x200, 9, 0x10, 1, 0x0, [⟨17, 0, .rw, 0⟩]⟩,
   ⟨0x204, 9, 0x10, 1, 0x0, [⟨15, 0, .rw, 2000⟩]⟩,
   ⟨0x208, 9, 0x10, 1, 0x0, [⟨31, 0, .ro, 0⟩]⟩,
   ⟨0x20c, 9, 0x10, 1, 0x0, [⟨15, 0, .rc, 0⟩]⟩,
   ⟨0x400, 19, 0x8, 1, 0x0, [⟨6, 0, .rw, 75⟩, ⟨14, 8, .rw, 50⟩, ⟨16, 16, .ro, 0⟩]⟩] ++
  [⟨0x404, 19, 0x8, 1, 0x0, [⟨31, 0, .ro, 0⟩]⟩]

/-- The registers of block HVS. -/
def regsHVS : List RegRow :=
  [⟨0x0, 9, 0x100, 1, 0x0, [⟨0, 0, .ro, 0⟩, ⟨1, 1, .ro, 0⟩]⟩,
   ⟨0x4, 1, 0, 1, 0, [⟨19, 0, .rw, 1000000⟩]⟩,
   ⟨0x104, 8, 0x100, 1, 0, [⟨19, 0, .rw, 10000⟩]⟩,
   ⟨0x8, 9, 0x100, 1, 0x0, [⟨31, 0, .ro, 0⟩]⟩,
   ⟨0xc, 9, 0x100, 1, 0x0, [⟨31, 0, .ro, 0⟩]⟩,
   ⟨0x10, 9, 0x100, 1, 0x0, [⟨31, 0, .ro, 0⟩]⟩,
   ⟨0x14, 9, 0x100, 1, 0x0, [⟨31, 0, .ro, 0⟩]⟩,
   ⟨0x18, 9, 0x100, 1, 0x0, [⟨31, 0, .ro, 0⟩]⟩,
   ⟨0x1c, 9, 0x100, 1, 0x0, [⟨31, 0, .ro, 0⟩]⟩,
   ⟨0x20, 9, 0x100, 1, 0x0, [⟨31, 0, .ro, 0⟩]⟩,
   ⟨0x24, 9, 0x100, 1, 0x0, [⟨31, 0, .ro, 0⟩]⟩,
   ⟨0x28, 9, 0x100, 1, 0x0, [⟨31, 0, .rw, 0⟩]⟩] ++
  [⟨0x2c, 9, 0x100, 1, 0x0, [⟨31, 0, .rw, 0⟩]⟩,
   ⟨0x30, 9, 0x100, 1, 0x0, [⟨31, 0, .rw, 0⟩]⟩,
   ⟨0x34, 9, 0x100, 1, 0x0, [⟨0, 0, .wo, 0⟩, ⟨1, 1, .ro, 0⟩, ⟨2, 2, .w1c, 0⟩]⟩,
   ⟨0x10000, 9, 0x1000, 1, 0x0, [⟨0, 0, .rw, 0⟩, ⟨1, 1, .rw, 0⟩]⟩,
   ⟨0x10004, 9, 0x1000, 1, 0x0, [⟨0, 0, .ro, 0⟩, ⟨1, 1, .w1c, 0⟩, ⟨2, 2, .w1c, 0⟩]⟩,
   ⟨0x10008, 9, 0x1000, 1, 0x0, [⟨31, 0, .rw, 0⟩]⟩,
   ⟨0x1000c, 9, 0x1000, 1, 0x0, [⟨31, 0, .rw, 0⟩]⟩,
   ⟨0x10010, 9, 0x1000, 1, 0x0, [⟨4, 0, .rw, 0⟩]⟩,
   ⟨0x10014, 9, 0x1000, 1, 0x0, [⟨31, 0, .ro, 0⟩]⟩,
   ⟨0x10018, 9, 0x1000, 1, 0x0, [⟨31, 0, .rw, 0⟩]⟩,
   ⟨0x1001c, 9, 0x1000, 1, 0x0, [⟨31, 0, .ro, 0⟩]⟩,
   ⟨0x10020, 9, 0x1000, 1, 0x0, [⟨15, 0, .rw, 0⟩]⟩] ++
  [⟨0x10024, 9, 0x1000, 1, 0x0, [⟨31, 0, .rw, 0⟩]⟩,
   ⟨0x10028, 9, 0x1000, 1, 0x0, [⟨31, 0, .rw, 0⟩]⟩,
   ⟨0x1002c, 9, 0x1000, 1, 0x0, [⟨31, 0, .rw, 0⟩]⟩,
   ⟨0x10030, 9, 0x1000, 1, 0x0, [⟨0, 0, .wo, 0⟩, ⟨1, 1, .ro, 0⟩, ⟨2, 2, .w1c, 0⟩]⟩,
   ⟨0x20000, 1, 0x0, 1, 0x0, [⟨31, 0, .ro, (Config.deviceId.toNat % 2 ^ 32)⟩]⟩,
   ⟨0x20004, 1, 0x0, 1, 0x0, [⟨31, 0, .ro, (Config.deviceId.toNat / 2 ^ 32)⟩]⟩]

/-- The registers of block TRL. -/
def regsTRL : List RegRow :=
  [⟨0x0, 1, 0x0, 1, 0x0, [⟨1, 0, .rw, 0⟩, ⟨3, 2, .rw, 0⟩, ⟨6, 4, .rw, 0⟩]⟩,
   ⟨0x4, 1, 0x0, 1, 0x0, [⟨7, 0, .ro, 0⟩]⟩,
   ⟨0x8, 1, 0x0, 1, 0x0, [⟨15, 0, .rc, 0⟩]⟩,
   ⟨0xc, 1, 0x0, 1, 0x0, [⟨3, 0, .ro, 0⟩, ⟨5, 4, .ro, 0⟩, ⟨11, 8, .ro, 0⟩]⟩,
   ⟨0x10, 1, 0x0, 1, 0x0, [⟨15, 0, .rc, 0⟩]⟩,
   ⟨0x14, 1, 0x0, 1, 0x0, [⟨15, 0, .rc, 0⟩]⟩,
   ⟨0x18, 1, 0x0, 1, 0x0, [⟨15, 0, .rc, 0⟩]⟩,
   ⟨0x100, 2, 0x80, 1, 0x0, [⟨0, 0, .rw, 0⟩, ⟨1, 1, .wo, 0⟩]⟩,
   ⟨0x104, 2, 0x80, 1, 0x0, [⟨2, 0, .ro, 0⟩, ⟨6, 3, .ro, 0⟩, ⟨7, 7, .ro, 0⟩, ⟨9, 8, .ro, 0⟩, ⟨15, 12, .ro, 0⟩]⟩,
   ⟨0x108, 2, 0x80, 1, 0x0, [⟨0, 0, .w1c, 0⟩, ⟨1, 1, .w1c, 0⟩, ⟨2, 2, .w1c, 0⟩, ⟨3, 3, .w1c, 0⟩]⟩,
   ⟨0x10c, 2, 0x80, 1, 0x0, [⟨15, 0, .rc, 0⟩]⟩,
   ⟨0x110, 2, 0x80, 1, 0x0, [⟨15, 0, .rc, 0⟩]⟩] ++
  [⟨0x114, 2, 0x80, 1, 0x0, [⟨15, 0, .rc, 0⟩]⟩,
   ⟨0x118, 2, 0x80, 1, 0x0, [⟨31, 0, .ro, 0⟩]⟩,
   ⟨0x11c, 2, 0x80, 1, 0x0, [⟨5, 0, .ro, 0⟩, ⟨17, 6, .ro, 0⟩, ⟨28, 18, .ro, 0⟩]⟩,
   ⟨0x120, 2, 0x80, 1, 0x0, [⟨15, 0, .ro, 0⟩]⟩,
   ⟨0x1000, 128, 0x10, 1, 0x0, [⟨15, 0, .rw, 0⟩, ⟨16, 16, .rw, 0⟩]⟩,
   ⟨0x1004, 128, 0x10, 1, 0x0, [⟨31, 0, .rw, 0⟩]⟩,
   ⟨0x1008, 128, 0x10, 1, 0x0, [⟨0, 0, .rw, 0⟩, ⟨1, 1, .rw, 0⟩, ⟨3, 2, .rw, 0⟩, ⟨7, 4, .rw, 0⟩]⟩,
   ⟨0x2000, 9, 0x4, 1, 0x0, [⟨0, 0, .rw, 0⟩, ⟨2, 1, .rw, 0⟩]⟩,
   ⟨0x2100, 9, 0x10, 1, 0x0, [⟨31, 0, .ro, 0⟩]⟩,
   ⟨0x2104, 9, 0x10, 1, 0x0, [⟨31, 0, .ro, 0⟩]⟩,
   ⟨0x2108, 9, 0x10, 1, 0x0, [⟨15, 0, .ro, 0⟩]⟩]

/-- The registers of block MTR. -/
def regsMTR : List RegRow :=
  [⟨0x0, 1, 0x0, 1, 0x0, [⟨0, 0, .rw, 0⟩]⟩,
   ⟨0x4, 1, 0x0, 1, 0x0, [⟨0, 0, .ro, 0⟩, ⟨1, 1, .ro, 0⟩, ⟨2, 2, .ro, 0⟩, ⟨3, 3, .ro, 0⟩, ⟨4, 4, .ro, 0⟩, ⟨5, 5, .ro, 0⟩, ⟨15, 8, .ro, 0⟩]⟩,
   ⟨0x8, 1, 0x0, 1, 0x0, [⟨5, 0, .w1c, 0⟩]⟩,
   ⟨0xc, 1, 0x0, 1, 0x0, [⟨0, 0, .rw, 0⟩, ⟨15, 8, .rw, 0⟩, ⟨31, 16, .rw, 0⟩]⟩,
   ⟨0x10, 1, 0x0, 1, 0x0, [⟨15, 0, .rw, 0⟩, ⟨31, 16, .rw, 0⟩]⟩,
   ⟨0x14, 1, 0x0, 1, 0x0, [⟨15, 0, .rw, 0⟩, ⟨31, 16, .rw, 0⟩]⟩,
   ⟨0x18, 1, 0x0, 1, 0x0, [⟨15, 0, .rw, 0⟩, ⟨23, 16, .rw, 0⟩]⟩,
   ⟨0x1c, 1, 0x0, 1, 0x0, [⟨31, 0, .rw, 0⟩]⟩,
   ⟨0x20, 1, 0x0, 1, 0x0, [⟨15, 0, .ro, 0⟩, ⟨31, 16, .ro, 0⟩]⟩,
   ⟨0x24, 1, 0x0, 1, 0x0, [⟨31, 0, .ro, 0⟩]⟩,
   ⟨0x28, 1, 0x0, 1, 0x0, [⟨31, 0, .ro, 0⟩]⟩,
   ⟨0x2c, 1, 0x0, 1, 0x0, [⟨31, 0, .ro, 0⟩]⟩] ++
  [⟨0x30, 1, 0x0, 1, 0x0, [⟨31, 0, .ro, 0⟩]⟩,
   ⟨0x34, 1, 0x0, 1, 0x0, [⟨31, 0, .ro, 0⟩]⟩,
   ⟨0x38, 1, 0x0, 1, 0x0, [⟨15, 0, .rc, 0⟩]⟩,
   ⟨0x3c, 1, 0x0, 1, 0x0, [⟨31, 0, .ro, 0⟩]⟩,
   ⟨0x40, 4, 0x8, 1, 0x0, [⟨31, 0, .rw, 0⟩]⟩,
   ⟨0x44, 4, 0x8, 1, 0x0, [⟨31, 0, .rw, 0⟩]⟩,
   ⟨0x100, 7, 0x10, 1, 0x0, [⟨31, 0, .rw, 0⟩]⟩,
   ⟨0x104, 7, 0x10, 1, 0x0, [⟨31, 0, .rw, 0⟩]⟩,
   ⟨0x108, 7, 0x10, 1, 0x0, [⟨31, 0, .rw, 0⟩]⟩,
   ⟨0x10c, 7, 0x10, 1, 0x0, [⟨15, 0, .ro, 0⟩, ⟨16, 16, .ro, 0⟩]⟩,
   ⟨0x200, 32, 0x8, 1, 0x0, [⟨15, 0, .rw, 0⟩, ⟨16, 16, .rw, 0⟩, ⟨17, 17, .ro, 0⟩]⟩,
   ⟨0x204, 32, 0x8, 1, 0x0, [⟨15, 0, .rc, 0⟩]⟩]

/-- The registers of block PLT. -/
def regsPLT : List RegRow :=
  [⟨0x0, 9, 0x100, 1, 0x0, [⟨2, 0, .ro, 0⟩, ⟨3, 3, .ro, 0⟩]⟩,
   ⟨0x4, 9, 0x100, 1, 0x0, [⟨0, 0, .wo, 0⟩]⟩,
   ⟨0x8, 9, 0x100, 1, 0x0, [⟨15, 0, .ro, 0⟩]⟩,
   ⟨0xc, 9, 0x100, 1, 0x0, [⟨1, 0, .ro, 0⟩]⟩,
   ⟨0x10, 9, 0x100, 1, 0x0, [⟨7, 0, .ro, 0⟩]⟩,
   ⟨0x14, 9, 0x100, 1, 0x0, [⟨31, 0, .ro, 0⟩]⟩,
   ⟨0x18, 9, 0x100, 1, 0x0, [⟨15, 0, .rc, 0⟩]⟩,
   ⟨0x20, 9, 0x100, 1, 0x0, [⟨31, 0, .ro, 0⟩]⟩,
   ⟨0x24, 9, 0x100, 1, 0x0, [⟨31, 0, .ro, 0⟩]⟩,
   ⟨0x28, 9, 0x100, 1, 0x0, [⟨31, 0, .ro, 0⟩]⟩,
   ⟨0x2c, 9, 0x100, 1, 0x0, [⟨31, 0, .ro, 0⟩]⟩,
   ⟨0x30, 9, 0x100, 1, 0x0, [⟨31, 0, .ro, 0⟩]⟩] ++
  [⟨0x34, 9, 0x100, 1, 0x0, [⟨31, 0, .ro, 0⟩]⟩,
   ⟨0x38, 9, 0x100, 1, 0x0, [⟨31, 0, .ro, 0⟩]⟩,
   ⟨0x3c, 9, 0x100, 1, 0x0, [⟨31, 0, .ro, 0⟩]⟩,
   ⟨0x1000, 9, 0x4, 1, 0x0, [⟨15, 0, .ro, 0⟩]⟩,
   ⟨0x1040, 1, 0x0, 1, 0x0, [⟨8, 0, .ro, 0⟩]⟩]

/-- The registers of block STK. -/
def regsSTK : List RegRow :=
  [⟨0x0, 256, 0x10, 1, 0x0, [⟨0, 0, .w1s, 0⟩]⟩,
   ⟨0x4, 256, 0x10, 1, 0x0, [⟨31, 0, .ro, 0⟩]⟩,
   ⟨0x8, 256, 0x10, 1, 0x0, [⟨0, 0, .ro, 0⟩, ⟨31, 16, .rc, 0⟩]⟩,
   ⟨0xc, 256, 0x10, 1, 0x0, [⟨0, 0, .wo, 0⟩]⟩,
   ⟨0x4000, 64, 0x10, 1, 0x0, [⟨31, 0, .ro, 0⟩]⟩,
   ⟨0x4004, 64, 0x10, 1, 0x0, [⟨1, 0, .ro, 0⟩, ⟨5, 2, .ro, 0⟩]⟩,
   ⟨0x4008, 64, 0x10, 1, 0x0, [⟨15, 0, .rc, 0⟩]⟩,
   ⟨0x400c, 64, 0x10, 1, 0x0, [⟨31, 0, .ro, 0⟩]⟩,
   ⟨0x8000, 9, 0x20, 1, 0x0, [⟨31, 0, .ro, 0⟩]⟩,
   ⟨0x8004, 9, 0x20, 1, 0x0, [⟨15, 0, .rc, 0⟩]⟩,
   ⟨0x8008, 9, 0x20, 1, 0x0, [⟨3, 0, .ro, 0⟩]⟩,
   ⟨0x800c, 9, 0x20, 1, 0x0, [⟨15, 0, .rc, 0⟩]⟩] ++
  [⟨0x8010, 9, 0x20, 1, 0x0, [⟨31, 0, .ro, 0⟩]⟩,
   ⟨0x8014, 9, 0x20, 1, 0x0, [⟨15, 0, .rc, 0⟩]⟩]

/-- The registers of block KEY. -/
def regsKEY : List RegRow :=
  [⟨0x0, 1, 0x0, 1, 0x0, [⟨0, 0, .ro, 0⟩, ⟨1, 1, .ro, 0⟩, ⟨2, 2, .ro, 0⟩, ⟨3, 3, .ro, 0⟩]⟩,
   ⟨0x4, 1, 0x0, 1, 0x0, [⟨31, 0, .ro, Config.orderCode.toNat⟩]⟩,
   ⟨0x8, 1, 0x0, 1, 0x0, [⟨31, 0, .ro, (keyFp Config.imageKey 0)⟩]⟩,
   ⟨0xc, 1, 0x0, 1, 0x0, [⟨31, 0, .ro, (keyFp Config.imageKey 4)⟩]⟩,
   ⟨0x10, 1, 0x0, 1, 0x0, [⟨31, 0, .ro, (keyFp Config.firmwareKey 0)⟩]⟩,
   ⟨0x14, 1, 0x0, 1, 0x0, [⟨31, 0, .ro, (keyFp Config.firmwareKey 4)⟩]⟩,
   ⟨0x40, 1, 0x0, 1, 0x0, [⟨8, 0, .ro, 0⟩]⟩,
   ⟨0x80, 9, 0x4, 1, 0x0, [⟨15, 0, .ro, 0⟩]⟩,
   ⟨0xc0, 1, 0x0, 1, 0x0, [⟨8, 0, .ro, 0⟩]⟩,
   ⟨0xc4, 1, 0x0, 1, 0x0, [⟨0, 0, .w1c, 0⟩]⟩]

/-- The registers of block PEP. -/
def regsPEP : List RegRow :=
  [⟨0x0, 1, 0x0, 1, 0x0, [⟨15, 0, .ro, Config.vendorId.toNat⟩, ⟨31, 16, .ro, 0x9600⟩]⟩,
   ⟨0x4, 1, 0x0, 1, 0x0, [⟨0, 0, .ro, 0⟩, ⟨3, 1, .ro, 0⟩, ⟨7, 4, .ro, 0⟩, ⟨12, 8, .ro, 0⟩]⟩,
   ⟨0x8, 1, 0x0, 1, 0x0, [⟨15, 0, .rc, 0⟩]⟩,
   ⟨0xc, 1, 0x0, 1, 0x0, [⟨15, 0, .rc, 0⟩]⟩]

/-- The registers of block PRP. -/
def regsPRP : List RegRow :=
  [⟨0x0, 1, 0x0, 1, 0x0, [⟨0, 0, .ro, 0⟩, ⟨3, 1, .ro, 0⟩, ⟨7, 4, .ro, 0⟩]⟩,
   ⟨0x4, 1, 0x0, 1, 0x0, [⟨0, 0, .ro, 0⟩, ⟨1, 1, .ro, 0⟩, ⟨2, 2, .ro, 0⟩]⟩,
   ⟨0x8, 1, 0x0, 1, 0x0, [⟨31, 0, .ro, 0⟩]⟩,
   ⟨0xc, 1, 0x0, 1, 0x0, [⟨15, 0, .rc, 0⟩]⟩]

/-- The registers of block ETH. -/
def regsETH : List RegRow :=
  [⟨0x0, 2, 0x1000, 1, 0x0, [⟨1, 0, .rw, 0⟩, ⟨2, 2, .rw, 0⟩]⟩,
   ⟨0x4, 2, 0x1000, 1, 0x0, [⟨0, 0, .ro, 0⟩, ⟨1, 1, .ro, 0⟩, ⟨2, 2, .ro, 0⟩, ⟨3, 3, .w1c, 0⟩]⟩,
   ⟨0x8, 2, 0x1000, 1, 0x0, [⟨31, 0, .rw, 0⟩]⟩,
   ⟨0xc, 2, 0x1000, 1, 0x0, [⟨15, 0, .rw, 0⟩]⟩,
   ⟨0x10, 2, 0x1000, 1, 0x0, [⟨11, 0, .rw, 0⟩, ⟨12, 12, .rw, 0⟩]⟩,
   ⟨0x14, 2, 0x1000, 1, 0x0, [⟨31, 0, .ro, 0⟩]⟩,
   ⟨0x18, 2, 0x1000, 1, 0x0, [⟨15, 0, .rc, 0⟩]⟩,
   ⟨0x1c, 2, 0x1000, 1, 0x0, [⟨15, 0, .rc, 0⟩]⟩,
   ⟨0x20, 2, 0x1000, 1, 0x0, [⟨31, 0, .ro, 0⟩]⟩,
   ⟨0x24, 2, 0x1000, 1, 0x0, [⟨31, 0, .ro, 0⟩]⟩,
   ⟨0x28, 2, 0x1000, 1, 0x0, [⟨15, 0, .ro, 0⟩, ⟨31, 31, .rc, 0⟩]⟩]

/-- The registers of block XSP. -/
def regsXSP : List RegRow :=
  []

/-- The registers of block PWR. -/
def regsPWR : List RegRow :=
  [⟨0x0, 1, 0x0, 1, 0x0, [⟨2, 0, .ro, 0⟩]⟩,
   ⟨0x4, 1, 0x0, 1, 0x0, [⟨1, 0, .wo, 0⟩]⟩,
   ⟨0x8, 1, 0x0, 1, 0x0, [⟨0, 0, .ro, 1⟩, ⟨1, 1, .rw, 0⟩, ⟨9, 2, .rw, 0⟩, ⟨10, 10, .rw, 0⟩]⟩,
   ⟨0xc, 1, 0x0, 1, 0x0, [⟨10, 0, .w1c, 0⟩]⟩,
   ⟨0x10, 1, 0x0, 1, 0x0, [⟨31, 0, .rw, 0⟩]⟩,
   ⟨0x14, 1, 0x0, 1, 0x0, [⟨31, 0, .rw, 0⟩]⟩,
   ⟨0x18, 1, 0x0, 1, 0x0, [⟨15, 0, .ro, 0⟩]⟩,
   ⟨0x1c, 1, 0x0, 1, 0x0, [⟨1, 0, .ro, 0⟩]⟩,
   ⟨0x20, 1, 0x0, 1, 0x0, [⟨31, 0, .ro, 0⟩]⟩,
   ⟨0x24, 1, 0x0, 1, 0x0, [⟨31, 0, .ro, 0⟩]⟩,
   ⟨0x28, 1, 0x0, 1, 0x0, [⟨7, 0, .ro, 0⟩]⟩,
   ⟨0x2c, 1, 0x0, 1, 0x0, [⟨31, 0, .ro, 0⟩]⟩]

/-- The registers of block FLT. -/
def regsFLT : List RegRow :=
  [⟨0x0, 1, 0x0, 1, 0x0, [⟨5, 0, .ro, 0⟩, ⟨6, 6, .ro, 0⟩, ⟨7, 7, .ro, 0⟩]⟩,
   ⟨0x4, 1, 0x0, 1, 0x0, [⟨7, 0, .w1c, 0⟩]⟩,
   ⟨0x8, 1, 0x0, 1, 0x0, [⟨7, 0, .rw, 0⟩]⟩,
   ⟨0x10, 1, 0x0, 1, 0x0, [⟨15, 0, .rw, 1000⟩]⟩,
   ⟨0x14, 1, 0x0, 1, 0x0, [⟨0, 0, .wo, 0⟩]⟩,
   ⟨0x18, 1, 0x0, 1, 0x0, [⟨15, 0, .ro, 0⟩, ⟨21, 16, .ro, 0⟩, ⟨22, 22, .ro, 0⟩]⟩,
   ⟨0x1c, 1, 0x0, 1, 0x0, [⟨15, 0, .ro, 0⟩]⟩,
   ⟨0x20, 1, 0x0, 1, 0x0, [⟨15, 0, .rc, 0⟩]⟩,
   ⟨0x24, 1, 0x0, 1, 0x0, [⟨15, 0, .rc, 0⟩]⟩,
   ⟨0x28, 1, 0x0, 1, 0x0, [⟨15, 0, .rc, 0⟩]⟩,
   ⟨0x2c, 1, 0x0, 1, 0x0, [⟨15, 0, .rc, 0⟩]⟩,
   ⟨0x30, 1, 0x0, 1, 0x0, [⟨15, 0, .rc, 0⟩]⟩] ++
  [⟨0x34, 1, 0x0, 1, 0x0, [⟨15, 0, .rc, 0⟩]⟩,
   ⟨0x38, 1, 0x0, 1, 0x0, [⟨15, 0, .rc, 0⟩]⟩,
   ⟨0x40, 1, 0x0, 1, 0x0, [⟨31, 0, .ro, 0⟩]⟩,
   ⟨0x44, 1, 0x0, 1, 0x0, [⟨31, 0, .ro, 0⟩]⟩,
   ⟨0x48, 1, 0x0, 1, 0x0, [⟨31, 0, .ro, 0⟩]⟩,
   ⟨0x1000, 256, 0x4, 1, 0x0, [⟨31, 0, .ro, 0⟩]⟩,
   ⟨0x2000, 256, 0x4, 1, 0x0, [⟨31, 0, .ro, 0⟩]⟩,
   ⟨0x10000, 2048, 0x4, 1, 0x0, [⟨31, 0, .ro, 0⟩]⟩]

/-- The registers of block BED. -/
def regsBED : List RegRow :=
  [⟨0x0, 64, 0x100, 1, 0x0, [⟨0, 0, .wo, 0⟩]⟩,
   ⟨0x4, 64, 0x100, 1, 0x0, [⟨0, 0, .ro, 0⟩, ⟨1, 1, .ro, 0⟩, ⟨2, 2, .ro, 0⟩, ⟨7, 4, .ro, 0⟩, ⟨14, 8, .ro, 0⟩, ⟨19, 15, .ro, 0⟩]⟩,
   ⟨0x8, 64, 0x100, 1, 0x0, [⟨0, 0, .w1c, 0⟩, ⟨3, 1, .ro, 0⟩, ⟨9, 4, .ro, 0⟩]⟩,
   ⟨0xc, 64, 0x100, 1, 0x0, [⟨31, 0, .ro, 0⟩]⟩,
   ⟨0x10, 64, 0x100, 1, 0x0, [⟨31, 0, .ro, 0⟩]⟩,
   ⟨0x14, 64, 0x100, 1, 0x0, [⟨31, 0, .ro, 0⟩]⟩,
   ⟨0x18, 64, 0x100, 1, 0x0, [⟨31, 0, .ro, 0⟩]⟩,
   ⟨0x40, 64, 0x100, 8, 0x8, [⟨31, 0, .rw, 0⟩]⟩,
   ⟨0x44, 64, 0x100, 8, 0x8, [⟨15, 0, .rw, 0⟩]⟩]

/-- The registers of block APC. -/
def regsAPC : List RegRow :=
  [⟨0x0, 1, 0x0, 1, 0x0, [⟨0, 0, .rw, 0⟩]⟩,
   ⟨0x100, 8, 0x10, 1, 0x0, [⟨3, 0, .ro, 0⟩, ⟨9, 4, .ro, 0⟩, ⟨10, 10, .ro, 0⟩, ⟨11, 11, .ro, 0⟩]⟩,
   ⟨0x104, 8, 0x10, 1, 0x0, [⟨31, 0, .ro, 0⟩]⟩,
   ⟨0x1000, 64, 0x10, 1, 0x0, [⟨1, 0, .ro, 0⟩, ⟨5, 2, .ro, 0⟩, ⟨8, 6, .ro, 0⟩, ⟨11, 9, .ro, 0⟩]⟩,
   ⟨0x1004, 64, 0x10, 1, 0x0, [⟨31, 0, .ro, 0⟩]⟩,
   ⟨0x1008, 64, 0x10, 1, 0x0, [⟨15, 0, .rc, 0⟩]⟩,
   ⟨0x100c, 64, 0x10, 1, 0x0, [⟨31, 0, .ro, 0⟩]⟩]

/-- The registers of block DSP. -/
def regsDSP : List RegRow :=
  [⟨0x1000, 8, 0x1000, 8, 0x20, [⟨0, 0, .rw, 0⟩]⟩,
   ⟨0x1004, 8, 0x1000, 8, 0x20, [⟨31, 0, .rw, 0⟩]⟩,
   ⟨0x1008, 8, 0x1000, 8, 0x20, [⟨15, 0, .rw, 0⟩]⟩,
   ⟨0x100c, 8, 0x1000, 8, 0x20, [⟨31, 0, .rw, 0⟩]⟩,
   ⟨0x1010, 8, 0x1000, 8, 0x20, [⟨31, 0, .rw, 0⟩]⟩,
   ⟨0x1014, 8, 0x1000, 8, 0x20, [⟨31, 0, .ro, 0⟩]⟩,
   ⟨0x1018, 8, 0x1000, 8, 0x20, [⟨0, 0, .w1c, 0⟩]⟩,
   ⟨0x101c, 8, 0x1000, 8, 0x20, [⟨31, 0, .ro, 0⟩]⟩,
   ⟨0x1200, 8, 0x1000, 1, 0x0, [⟨31, 0, .ro, 0⟩]⟩,
   ⟨0x1204, 8, 0x1000, 1, 0x0, [⟨31, 0, .ro, 0⟩]⟩,
   ⟨0x1208, 8, 0x1000, 1, 0x0, [⟨31, 0, .ro, 0⟩]⟩,
   ⟨0x120c, 8, 0x1000, 1, 0x0, [⟨15, 0, .rc, 0⟩]⟩] ++
  [⟨0x20000, 1, 0x0, 1, 0x0, [⟨0, 0, .rw, 0⟩]⟩,
   ⟨0x20010, 4, 0x4, 1, 0x0, [⟨0, 0, .ro, 0⟩, ⟨4, 1, .ro, 0⟩]⟩,
   ⟨0x20020, 4, 0x4, 1, 0x0, [⟨31, 0, .ro, 0⟩]⟩,
   ⟨0x20100, 64, 0x4, 1, 0x0, [⟨26, 0, .ro, 0⟩]⟩]

/-- The registers of a block, by its index (R25); XSP has no register the spec lists. -/
def regsOf : Nat → List RegRow
  | 0 => regsSHD
  | 1 => regsSDL
  | 2 => regsITK
  | 3 => regsVDC
  | 4 => regsPRN
  | 5 => regsBRW
  | 6 => regsDMC
  | 7 => regsHVS
  | 8 => regsTRL
  | 9 => regsMTR
  | 10 => regsPLT
  | 11 => regsSTK
  | 12 => regsKEY
  | 13 => regsPEP
  | 14 => regsPRP
  | 15 => regsETH
  | 16 => regsXSP
  | 17 => regsPWR
  | 18 => regsFLT
  | 19 => regsBED
  | 20 => regsAPC
  | 21 => regsDSP
  | _ => []

/-- The instance of a row that offset `o` names, if any. -/
def RegRow.find (r : RegRow) (o : Nat) : Option (Nat × Nat) :=
  if o < r.off then none else
  let d := o - r.off
  let i := if r.str = 0 then 0 else d / r.str
  let i' := if r.cnt ≤ i then r.cnt - 1 else i
  let e := d - i' * r.str
  let j := if r.str2 = 0 then 0 else e / r.str2
  if i' < r.cnt ∧ j < r.cnt2 ∧ e = j * r.str2 then some (i', j) else none

/-- The row, with its instance numbers, of an offset in a list of rows. -/
def findRow : List RegRow → Nat → Option (RegRow × Nat × Nat)
  | [], _ => none
  | r :: rs, o => match r.find o with
    | some (i, j) => some (r, i, j)
    | none => findRow rs o

/-- The register at address `a` of register space; none at a reserved offset. -/
def regAt (a : Nat) : Option (RegRow × Nat × Nat) := findRow (regsOf (a / 0x100000)) (a % 0x100000)

/-- The Reset value of a list of fields, joined. -/
def resetWord : List FieldSpec → Nat
  | [] => 0
  | f :: r => f.reset * 2 ^ f.lo + resetWord r

/-- What an unlisted register reads as: its Reset value (R8); 0 at a reserved offset (R7). -/
def regReset (a : Nat) : Word :=
  match regAt a with
  | some (r, _, _) => BitVec.ofNat 32 (resetWord r.fields)
  | none => 0

end Sys2Proof.Machine
end

