-- ==== Sys2Proof/Machine/RegNames.lean ====
section
/-! DEFINITION. Names of the registers (`R`) and of their fields (`F`), with the instance numbers as arguments: address in
register space = block index x 0x10_0000 + offset (R25). -/

namespace Sys2Proof.Machine.R

def SHD_REV : Nat := 0x0
def SHD_ROM_VER : Nat := 0x4
def SHD_BOOT_STATE : Nat := 0x8
def SHD_RUN_SEQ : Nat := 0xc
def SHD_RUN_CUST : Nat := 0x10
def SHD_HARD_REMAIN : Nat := 0x14
def SHD_SLOTS : Nat := 0x18
def SHD_SLOT_A_SEQ : Nat := 0x1c
def SHD_SLOT_B_SEQ : Nat := 0x20
def SHD_LEDGER_SEQ : Nat := 0x24
def SHD_MBX_CMD : Nat := 0x10000
def SHD_MBX_ARG (i : Nat) : Nat := 0x10004 + i * 0x4
def SHD_MBX_STATUS : Nat := 0x10010
def SHD_MBX_RET : Nat := 0x10014
def SHD_MBX_BUF (i : Nat) : Nat := 0x18000 + i * 0x4
def SDL_NOW_LO : Nat := 0x100000
def SDL_NOW_HI : Nat := 0x100004
def SDL_STATUS : Nat := 0x100008
def SDL_EVENTS : Nat := 0x10000c
def SDL_RATE : Nat := 0x100010
def SDL_STEP_LO : Nat := 0x100014
def SDL_STEP_HI : Nat := 0x100018
def SDL_TICK : Nat := 0x10001c
def SDL_CAP_CTRL : Nat := 0x100020
def SDL_CAP_INFO : Nat := 0x100024
def SDL_CAP_LO : Nat := 0x100028
def SDL_CAP_HI : Nat := 0x10002c
def SDL_HOLD_AGE : Nat := 0x100030
def SDL_TMR_CMP_LO (i : Nat) : Nat := 0x101000 + i * 0x20
def SDL_TMR_CMP_HI (i : Nat) : Nat := 0x101004 + i * 0x20
def SDL_TMR_PERIOD (i : Nat) : Nat := 0x101008 + i * 0x20
def SDL_TMR_CTRL (i : Nat) : Nat := 0x10100c + i * 0x20
def SDL_TMR_STAT (i : Nat) : Nat := 0x101010 + i * 0x20
def SDL_TMR_MISSED (i : Nat) : Nat := 0x101014 + i * 0x20
def SDL_TMR_OWNER (i : Nat) : Nat := 0x101018 + i * 0x20
def ITK_CTRL : Nat := 0x200000
def ITK_PORT_CFG (i : Nat) : Nat := 0x200100 + i * 0x20
def ITK_PORT_STAT (i : Nat) : Nat := 0x200104 + i * 0x20
def ITK_PORT_ERR (i : Nat) : Nat := 0x200108 + i * 0x20
def ITK_PORT_CRC_CNT (i : Nat) : Nat := 0x20010c + i * 0x20
def ITK_CTX_CTRL (i : Nat) : Nat := 0x210000 + i * 0x80
def ITK_CTX_STATE (i : Nat) : Nat := 0x210004 + i * 0x80
def ITK_CTX_MATCH (i : Nat) : Nat := 0x210008 + i * 0x80
def ITK_CTX_SRC_IP (i : Nat) : Nat := 0x21000c + i * 0x80
def ITK_CTX_RTP (i : Nat) : Nat := 0x210010 + i * 0x80
def ITK_CTX_SSRC (i : Nat) : Nat := 0x210014 + i * 0x80
def ITK_CTX_S_BASE_LO (i : Nat) : Nat := 0x210018 + i * 0x80
def ITK_CTX_S_BASE_HI (i : Nat) : Nat := 0x21001c + i * 0x80
def ITK_CTX_S_SIZE (i : Nat) : Nat := 0x210020 + i * 0x80
def ITK_CTX_S_WIN_XY (i : Nat) : Nat := 0x210024 + i * 0x80
def ITK_CTX_S_WIN_WH (i : Nat) : Nat := 0x210028 + i * 0x80
def ITK_CTX_COMMIT (i : Nat) : Nat := 0x21002c + i * 0x80
def ITK_CTX_COMMIT_STAT (i : Nat) : Nat := 0x210030 + i * 0x80
def ITK_CTX_LATCHED_SEQ (i : Nat) : Nat := 0x210034 + i * 0x80
def ITK_CTX_FRAME_SEQ (i : Nat) : Nat := 0x210038 + i * 0x80
def ITK_CTX_WPTR (i : Nat) : Nat := 0x21003c + i * 0x80
def ITK_CTX_RPTR (i : Nat) : Nat := 0x210040 + i * 0x80
def ITK_CTX_TS_LO (i : Nat) : Nat := 0x210044 + i * 0x80
def ITK_CTX_TS_HI (i : Nat) : Nat := 0x210048 + i * 0x80
def ITK_CTX_DROPS (i : Nat) : Nat := 0x21004c + i * 0x80
def ITK_CTX_LOST (i : Nat) : Nat := 0x210050 + i * 0x80
def ITK_CTX_LATE (i : Nat) : Nat := 0x210054 + i * 0x80
def ITK_CTX_FOREIGN (i : Nat) : Nat := 0x210058 + i * 0x80
def ITK_SET_CTRL (i : Nat) : Nat := 0x220000 + i * 0x20
def ITK_SET_PAIRED (i : Nat) : Nat := 0x220004 + i * 0x20
def ITK_SET_PARTIAL (i : Nat) : Nat := 0x220008 + i * 0x20
def ITK_SET_DROPPED (i : Nat) : Nat := 0x22000c + i * 0x20
def ITK_SET_LAST_SEQ (i : Nat) : Nat := 0x220010 + i * 0x20
def VDC_CTRL : Nat := 0x300000
def VDC_CORE_BUSY : Nat := 0x300004
def VDC_CORE_UTIL (i : Nat) : Nat := 0x300010 + i * 0x4
def VDC_RES (i : Nat) : Nat := 0x300100 + i * 0x4
def VDC_STR_CFG (i : Nat) : Nat := 0x310000 + i * 0x40
def VDC_STR_STATE (i : Nat) : Nat := 0x310004 + i * 0x40
def VDC_STR_REF_LO (i : Nat) : Nat := 0x310008 + i * 0x40
def VDC_STR_REF_HI (i : Nat) : Nat := 0x31000c + i * 0x40
def VDC_STR_OUT_LO (i : Nat) : Nat := 0x310010 + i * 0x40
def VDC_STR_OUT_HI (i : Nat) : Nat := 0x310014 + i * 0x40
def VDC_STR_GEN (i : Nat) : Nat := 0x310018 + i * 0x40
def VDC_STR_PICS (i : Nat) : Nat := 0x31001c + i * 0x40
def VDC_STR_VOIDS (i : Nat) : Nat := 0x310020 + i * 0x40
def VDC_STR_LAST_VOID (i : Nat) : Nat := 0x310024 + i * 0x40
def VDC_STR_TAINTS (i : Nat) : Nat := 0x310028 + i * 0x40
def VDC_STR_DARK (i : Nat) : Nat := 0x31002c + i * 0x40
def VDC_STR_REFUSALS (i : Nat) : Nat := 0x310030 + i * 0x40
def PRN_CTRL : Nat := 0x400000
def PRN_ENG_BUSY : Nat := 0x400004
def PRN_ENG_UTIL (i : Nat) : Nat := 0x400010 + i * 0x4
def PRN_RES (i : Nat) : Nat := 0x400100 + i * 0x4
def PRN_PIPE_CFG (i : Nat) : Nat := 0x410000 + i * 0x40
def PRN_PIPE_S_LIST_LO (i : Nat) : Nat := 0x410004 + i * 0x40
def PRN_PIPE_S_LIST_HI (i : Nat) : Nat := 0x410008 + i * 0x40
def PRN_PIPE_S_COUNT (i : Nat) : Nat := 0x41000c + i * 0x40
def PRN_PIPE_COMMIT (i : Nat) : Nat := 0x410010 + i * 0x40
def PRN_PIPE_COMMIT_STAT (i : Nat) : Nat := 0x410014 + i * 0x40
def PRN_PIPE_LATCHED_SEQ (i : Nat) : Nat := 0x410018 + i * 0x40
def PRN_PIPE_ACTIVE_COUNT (i : Nat) : Nat := 0x41001c + i * 0x40
def PRN_PIPE_CROPS (i : Nat) : Nat := 0x410020 + i * 0x40
def PRN_PIPE_BADCROP (i : Nat) : Nat := 0x410024 + i * 0x40
def PRN_PIPE_SKIPS (i : Nat) : Nat := 0x410028 + i * 0x40
def PRN_PIPE_SAT (i : Nat) : Nat := 0x41002c + i * 0x40
def PRN_PIPE_STALLS (i : Nat) : Nat := 0x410030 + i * 0x40
def PRN_GRP_SEQ (i : Nat) : Nat := 0x420000 + i * 0x20
def PRN_GRP_FULL (i : Nat) : Nat := 0x420004 + i * 0x20
def PRN_GRP_TIMED (i : Nat) : Nat := 0x420008 + i * 0x20
def PRN_GRP_FREE (i : Nat) : Nat := 0x42000c + i * 0x20
def BRW_CH_CTRL (i : Nat) : Nat := 0x500000 + i * 0x100
def BRW_CH_STATE (i : Nat) : Nat := 0x500004 + i * 0x100
def BRW_CH_RING_LO (i : Nat) : Nat := 0x500008 + i * 0x100
def BRW_CH_RING_HI (i : Nat) : Nat := 0x50000c + i * 0x100
def BRW_CH_RING_SIZE (i : Nat) : Nat := 0x500010 + i * 0x100
def BRW_CH_HEAD (i : Nat) : Nat := 0x500014 + i * 0x100
def BRW_CH_LEVEL (i : Nat) : Nat := 0x500018 + i * 0x100
def BRW_CH_LEVEL_ADD (i : Nat) : Nat := 0x50001c + i * 0x100
def BRW_CH_HIGH (i : Nat) : Nat := 0x500020 + i * 0x100
def BRW_CH_LOW (i : Nat) : Nat := 0x500024 + i * 0x100
def BRW_CH_TRIG (i : Nat) : Nat := 0x500028 + i * 0x100
def BRW_CH_CREDIT (i : Nat) : Nat := 0x50002c + i * 0x100
def BRW_CH_EVT_LOST (i : Nat) : Nat := 0x500030 + i * 0x100
def BRW_CH_DONE (i : Nat) : Nat := 0x500034 + i * 0x100
def BRW_CH_SETTLED (i : Nat) : Nat := 0x500038 + i * 0x100
def BRW_CH_CUR_SRC_LO (i : Nat) : Nat := 0x50003c + i * 0x100
def BRW_CH_CUR_SRC_HI (i : Nat) : Nat := 0x500040 + i * 0x100
def BRW_CH_CUR_DST_LO (i : Nat) : Nat := 0x500044 + i * 0x100
def BRW_CH_CUR_DST_HI (i : Nat) : Nat := 0x500048 + i * 0x100
def BRW_CH_CUR_REMAIN (i : Nat) : Nat := 0x50004c + i * 0x100
def BRW_CH_CUR_ROWS (i : Nat) : Nat := 0x500050 + i * 0x100
def BRW_CH_IRQ (i : Nat) : Nat := 0x500054 + i * 0x100
def BRW_CH_IRQ_EN (i : Nat) : Nat := 0x500058 + i * 0x100
def BRW_CH_ERR (i : Nat) : Nat := 0x50005c + i * 0x100
def BRW_CH_ERR_ADDR_LO (i : Nat) : Nat := 0x500060 + i * 0x100
def BRW_CH_ERR_ADDR_HI (i : Nat) : Nat := 0x500064 + i * 0x100
def BRW_CH_OWNER (i : Nat) : Nat := 0x500068 + i * 0x100
def BRW_CTRL : Nat := 0x508000
def BRW_STAT : Nat := 0x508004
def BRW_ACTIVE_LO : Nat := 0x508008
def BRW_ACTIVE_HI : Nat := 0x50800c
def DMC_CTRL : Nat := 0x600000
def DMC_CFG : Nat := 0x600004
def DMC_STATUS : Nat := 0x600008
def DMC_EVENTS : Nat := 0x60000c
def DMC_CE_COUNT : Nat := 0x600010
def DMC_UE_COUNT : Nat := 0x600014
def DMC_ERR_ADDR_LO : Nat := 0x600018
def DMC_ERR_ADDR_HI : Nat := 0x60001c
def DMC_ERR_INFO : Nat := 0x600020
def DMC_WEED_HOURS : Nat := 0x600030
def DMC_WEED_POS : Nat := 0x600034
def DMC_WEED_PASSES : Nat := 0x600038
def DMC_REF_OWED (i : Nat) : Nat := 0x600040 + i * 0x4
def DMC_REF_FORCED : Nat := 0x600050
def DMC_NBR_COUNT : Nat := 0x600054
def DMC_RFM_COUNT : Nat := 0x600058
def DMC_TRAIN_STAT : Nat := 0x600060
def DMC_ETA : Nat := 0x600064
def DMC_TIMING (i : Nat) : Nat := 0x600100 + i * 0x4
def DMC_RES_MBPS (i : Nat) : Nat := 0x600200 + i * 0x10
def DMC_LAT_NS (i : Nat) : Nat := 0x600204 + i * 0x10
def DMC_RES_SERVED (i : Nat) : Nat := 0x600208 + i * 0x10
def DMC_WILT_DENIED (i : Nat) : Nat := 0x60020c + i * 0x10
def DMC_RT_WILT (i : Nat) : Nat := 0x600400 + i * 0x8
def DMC_RT_COUNT (i : Nat) : Nat := 0x600404 + i * 0x8
def HVS_P_STAT (i : Nat) : Nat := 0x700000 + i * 0x100
def HVS_P_WAIT (i : Nat) : Nat := 0x700004 + i * 0x100
def HVS_P_SEQ (i : Nat) : Nat := 0x700008 + i * 0x100
def HVS_P_CRATE_LO (i : Nat) : Nat := 0x70000c + i * 0x100
def HVS_P_CRATE_HI (i : Nat) : Nat := 0x700010 + i * 0x100
def HVS_P_SEAL_JOB (i : Nat) : Nat := 0x700014 + i * 0x100
def HVS_P_HOST_LOST (i : Nat) : Nat := 0x700018 + i * 0x100
def HVS_P_UDP_LOST (i : Nat) : Nat := 0x70001c + i * 0x100
def HVS_P_CELLAR_LOST (i : Nat) : Nat := 0x700020 + i * 0x100
def HVS_P_CELLAR_HEAD (i : Nat) : Nat := 0x700024 + i * 0x100
def HVS_P_REPLAY_BOOT (i : Nat) : Nat := 0x700028 + i * 0x100
def HVS_P_REPLAY_CRATE_LO (i : Nat) : Nat := 0x70002c + i * 0x100
def HVS_P_REPLAY_CRATE_HI (i : Nat) : Nat := 0x700030 + i * 0x100
def HVS_P_REPLAY_CTRL (i : Nat) : Nat := 0x700034 + i * 0x100
def HR_CTRL (i : Nat) : Nat := 0x710000 + i * 0x1000
def HR_STAT (i : Nat) : Nat := 0x710004 + i * 0x1000
def HR_BASE_LO (i : Nat) : Nat := 0x710008 + i * 0x1000
def HR_BASE_HI (i : Nat) : Nat := 0x71000c + i * 0x1000
def HR_SIZE (i : Nat) : Nat := 0x710010 + i * 0x1000
def HR_PROD (i : Nat) : Nat := 0x710014 + i * 0x1000
def HR_CONS (i : Nat) : Nat := 0x710018 + i * 0x1000
def HR_LOST (i : Nat) : Nat := 0x71001c + i * 0x1000
def HR_HOLDOFF (i : Nat) : Nat := 0x710020 + i * 0x1000
def HR_REPLAY_BOOT (i : Nat) : Nat := 0x710024 + i * 0x1000
def HR_REPLAY_CRATE_LO (i : Nat) : Nat := 0x710028 + i * 0x1000
def HR_REPLAY_CRATE_HI (i : Nat) : Nat := 0x71002c + i * 0x1000
def HR_REPLAY_CTRL (i : Nat) : Nat := 0x710030 + i * 0x1000
def HVS_DEVICE_ID_LO : Nat := 0x720000
def HVS_DEVICE_ID_HI : Nat := 0x720004
def TRL_CTRL : Nat := 0x800000
def TRL_ROUTE : Nat := 0x800004
def TRL_RX_DROP : Nat := 0x800008
def TRL_DROP_INFO : Nat := 0x80000c
def TRL_AUTH_FAIL : Nat := 0x800010
def TRL_STALE : Nat := 0x800014
def TRL_LOST : Nat := 0x800018
def TRL_P_CTRL (i : Nat) : Nat := 0x800100 + i * 0x80
def TRL_P_STAT (i : Nat) : Nat := 0x800104 + i * 0x80
def TRL_P_EVENTS (i : Nat) : Nat := 0x800108 + i * 0x80
def TRL_P_CRC_ERR (i : Nat) : Nat := 0x80010c + i * 0x80
def TRL_P_REPLAYS (i : Nat) : Nat := 0x800110 + i * 0x80
def TRL_P_RETRAINS (i : Nat) : Nat := 0x800114 + i * 0x80
def TRL_P_TX_FLITS (i : Nat) : Nat := 0x800118 + i * 0x80
def TRL_P_CREDIT (i : Nat) : Nat := 0x80011c + i * 0x80
def TRL_P_CRED_GEN (i : Nat) : Nat := 0x800120 + i * 0x80
def TRL_FWD_MATCH (i : Nat) : Nat := 0x801000 + i * 0x10
def TRL_FWD_SRC_IP (i : Nat) : Nat := 0x801004 + i * 0x10
def TRL_FWD_CTRL (i : Nat) : Nat := 0x801008 + i * 0x10
def TRL_CFWD (i : Nat) : Nat := 0x802000 + i * 0x4
def TRL_S_JOB (i : Nat) : Nat := 0x802100 + i * 0x10
def TRL_S_FCTR_LO (i : Nat) : Nat := 0x802104 + i * 0x10
def TRL_S_FCTR_HI (i : Nat) : Nat := 0x802108 + i * 0x10
def MTR_CTRL : Nat := 0x900000
def MTR_STATUS : Nat := 0x900004
def MTR_EVENTS : Nat := 0x900008
def MTR_SITE0 : Nat := 0x90000c
def MTR_SITE1 : Nat := 0x900010
def MTR_SITE2 : Nat := 0x900014
def MTR_SITE3 : Nat := 0x900018
def MTR_ISO_DELAY : Nat := 0x90001c
def MTR_FREQ : Nat := 0x900020
def MTR_P : Nat := 0x900024
def MTR_Q : Nat := 0x900028
def MTR_S : Nat := 0x90002c
def MTR_INTERVALS : Nat := 0x900030
def MTR_GAP_INTERVALS : Nat := 0x900034
def MTR_QUEUE_LOST : Nat := 0x900038
def MTR_HOLD_CHANGES : Nat := 0x90003c
def MTR_E_LO (i : Nat) : Nat := 0x900040 + i * 0x8
def MTR_E_HI (i : Nat) : Nat := 0x900044 + i * 0x8
def MTR_CH_GAIN (i : Nat) : Nat := 0x900100 + i * 0x10
def MTR_CH_OFFSET (i : Nat) : Nat := 0x900104 + i * 0x10
def MTR_CH_PHASE (i : Nat) : Nat := 0x900108 + i * 0x10
def MTR_CH_RMS (i : Nat) : Nat := 0x90010c + i * 0x10
def MTR_RULE (i : Nat) : Nat := 0x900200 + i * 0x8
def MTR_RULE_FIRED (i : Nat) : Nat := 0x900204 + i * 0x8
def PLT_STATE (i : Nat) : Nat := 0xa00000 + i * 0x100
def PLT_CTRL (i : Nat) : Nat := 0xa00004 + i * 0x100
def PLT_FALLOWS (i : Nat) : Nat := 0xa00008 + i * 0x100
def PLT_FALLOW_CAUSE (i : Nat) : Nat := 0xa0000c + i * 0x100
def PLT_TEMP (i : Nat) : Nat := 0xa00010 + i * 0x100
def PLT_PUB_TICK (i : Nat) : Nat := 0xa00014 + i * 0x100
def PLT_DRAIN_FAULTS (i : Nat) : Nat := 0xa00018 + i * 0x100
def PLT_CTR_BED (i : Nat) : Nat := 0xa00020 + i * 0x100
def PLT_CTR_DRAM (i : Nat) : Nat := 0xa00024 + i * 0x100
def PLT_CTR_DECODE (i : Nat) : Nat := 0xa00028 + i * 0x100
def PLT_CTR_PRUNER (i : Nat) : Nat := 0xa0002c + i * 0x100
def PLT_CTR_BARROW (i : Nat) : Nat := 0xa00030 + i * 0x100
def PLT_CTR_APC (i : Nat) : Nat := 0xa00034 + i * 0x100
def PLT_CTR_NVME (i : Nat) : Nat := 0xa00038 + i * 0x100
def PLT_CTR_TRL (i : Nat) : Nat := 0xa0003c + i * 0x100
def PLT_TAGS_OUT (i : Nat) : Nat := 0xa01000 + i * 0x4
def PLT_FENCED : Nat := 0xa01040
def STK_TAKE (i : Nat) : Nat := 0xb00000 + i * 0x10
def STK_OWNER (i : Nat) : Nat := 0xb00004 + i * 0x10
def STK_STAT (i : Nat) : Nat := 0xb00008 + i * 0x10
def STK_REL (i : Nat) : Nat := 0xb0000c + i * 0x10
def STK_LDG_BOUND (i : Nat) : Nat := 0xb04000 + i * 0x10
def STK_LDG_STAT (i : Nat) : Nat := 0xb04004 + i * 0x10
def STK_LDG_OVER (i : Nat) : Nat := 0xb04008 + i * 0x10
def STK_LDG_WORST (i : Nat) : Nat := 0xb0400c + i * 0x10
def STK_JOB_NEXT (i : Nat) : Nat := 0xb08000 + i * 0x20
def STK_JOB_FAULTS (i : Nat) : Nat := 0xb08004 + i * 0x20
def STK_JOB_LAST_FAULT (i : Nat) : Nat := 0xb08008 + i * 0x20
def STK_JOB_SKIPS (i : Nat) : Nat := 0xb0800c + i * 0x20
def STK_JOB_PREEMPT (i : Nat) : Nat := 0xb08010 + i * 0x20
def STK_JOB_REISSUED (i : Nat) : Nat := 0xb08014 + i * 0x20
def KEY_FUSES : Nat := 0xc00000
def KEY_ORDER : Nat := 0xc00004
def KEY_IMG_FP0 : Nat := 0xc00008
def KEY_IMG_FP1 : Nat := 0xc0000c
def KEY_FW_FP0 : Nat := 0xc00010
def KEY_FW_FP1 : Nat := 0xc00014
def KEY_MEM_LOADED : Nat := 0xc00040
def KEY_MEM_GEN (i : Nat) : Nat := 0xc00080 + i * 0x4
def KEY_LINK_USED : Nat := 0xc000c0
def KEY_ERR : Nat := 0xc000c4
def PEP_ID : Nat := 0xd00000
def PEP_LINK : Nat := 0xd00004
def PEP_ERR_SHAPE : Nat := 0xd00008
def PEP_ERR_RSVD : Nat := 0xd0000c
def PRP_LINK : Nat := 0xe00000
def PRP_NVME : Nat := 0xe00004
def PRP_CMDS : Nat := 0xe00008
def PRP_TIMEOUTS : Nat := 0xe0000c
def ETH_CFG (i : Nat) : Nat := 0xf00000 + i * 0x1000
def ETH_STAT (i : Nat) : Nat := 0xf00004 + i * 0x1000
def ETH_MAC_LO (i : Nat) : Nat := 0xf00008 + i * 0x1000
def ETH_MAC_HI (i : Nat) : Nat := 0xf0000c + i * 0x1000
def ETH_VLAN (i : Nat) : Nat := 0xf00010 + i * 0x1000
def ETH_RX_FRAMES (i : Nat) : Nat := 0xf00014 + i * 0x1000
def ETH_RX_ERR (i : Nat) : Nat := 0xf00018 + i * 0x1000
def ETH_RX_DROP (i : Nat) : Nat := 0xf0001c + i * 0x1000
def ETH_TX_TS_LO (i : Nat) : Nat := 0xf00020 + i * 0x1000
def ETH_TX_TS_HI (i : Nat) : Nat := 0xf00024 + i * 0x1000
def ETH_TX_TS_ID (i : Nat) : Nat := 0xf00028 + i * 0x1000
def PWR_STATE : Nat := 0x1100000
def PWR_CTRL : Nat := 0x1100004
def PWR_WAKE_EN : Nat := 0x1100008
def PWR_WAKE_CAUSE : Nat := 0x110000c
def PWR_ALARM_LO : Nat := 0x1100010
def PWR_ALARM_HI : Nat := 0x1100014
def PWR_POWER : Nat := 0x1100018
def PWR_RESET_CAUSE : Nat := 0x110001c
def PWR_DORM_BEDS_LO : Nat := 0x1100020
def PWR_DORM_BEDS_HI : Nat := 0x1100024
def PWR_CORES_STOPPED : Nat := 0x1100028
def PWR_FROST_COUNT : Nat := 0x110002c
def FLT_STATUS : Nat := 0x1200000
def FLT_EVENTS : Nat := 0x1200004
def FLT_IRQ_EN : Nat := 0x1200008
def FLT_WDOG_CFG : Nat := 0x1200010
def FLT_WDOG_KICK : Nat := 0x1200014
def FLT_WDOG_STAT : Nat := 0x1200018
def FLT_WDOG_COUNT : Nat := 0x120001c
def FLT_TMO_NVME : Nat := 0x1200020
def FLT_TMO_LOAD : Nat := 0x1200024
def FLT_NVME_RESETS : Nat := 0x1200028
def FLT_STALE_NVME : Nat := 0x120002c
def FLT_PCIE_RECOV : Nat := 0x1200030
def FLT_LATE_UNCULLED : Nat := 0x1200034
def FLT_ORPHAN_OVF : Nat := 0x1200038
def FLT_ACC_HEAD : Nat := 0x1200040
def FLT_JOB_HEAD : Nat := 0x1200044
def FLT_ORPH_HEAD : Nat := 0x1200048
def FLT_ACC_LOG (i : Nat) : Nat := 0x1201000 + i * 0x4
def FLT_JOB_LOG (i : Nat) : Nat := 0x1202000 + i * 0x4
def FLT_ORPH_LOG (i : Nat) : Nat := 0x1210000 + i * 0x4
def BED_CTRL (i : Nat) : Nat := 0x1300000 + i * 0x100
def BED_STATUS (i : Nat) : Nat := 0x1300004 + i * 0x100
def BED_FAULT (i : Nat) : Nat := 0x1300008 + i * 0x100
def BED_FAULT_PC (i : Nat) : Nat := 0x130000c + i * 0x100
def BED_FAULT_ADDR (i : Nat) : Nat := 0x1300010 + i * 0x100
def BED_ENG_UTIL (i : Nat) : Nat := 0x1300014 + i * 0x100
def BED_BANK_WAIT (i : Nat) : Nat := 0x1300018 + i * 0x100
def BED_OWN_LO (i : Nat) (j : Nat) : Nat := 0x1300040 + i * 0x100 + j * 0x8
def BED_OWN_HI (i : Nat) (j : Nat) : Nat := 0x1300044 + i * 0x100 + j * 0x8
def APC_CTRL : Nat := 0x1400000
def APC_CORE_STAT (i : Nat) : Nat := 0x1400100 + i * 0x10
def APC_CORE_UTIL (i : Nat) : Nat := 0x1400104 + i * 0x10
def APC_RUN_STAT (i : Nat) : Nat := 0x1401000 + i * 0x10
def APC_RUN_ACT (i : Nat) : Nat := 0x1401004 + i * 0x10
def APC_RUN_ENDS (i : Nat) : Nat := 0x1401008 + i * 0x10
def APC_RUN_EXIT (i : Nat) : Nat := 0x140100c + i * 0x10
def DSP_Q_CTRL (i : Nat) (j : Nat) : Nat := 0x1501000 + i * 0x1000 + j * 0x20
def DSP_Q_BASE_LO (i : Nat) (j : Nat) : Nat := 0x1501004 + i * 0x1000 + j * 0x20
def DSP_Q_BASE_HI (i : Nat) (j : Nat) : Nat := 0x1501008 + i * 0x1000 + j * 0x20
def DSP_Q_SIZE (i : Nat) (j : Nat) : Nat := 0x150100c + i * 0x1000 + j * 0x20
def DSP_Q_HEAD (i : Nat) (j : Nat) : Nat := 0x1501010 + i * 0x1000 + j * 0x20
def DSP_Q_TAIL (i : Nat) (j : Nat) : Nat := 0x1501014 + i * 0x1000 + j * 0x20
def DSP_Q_STAT (i : Nat) (j : Nat) : Nat := 0x1501018 + i * 0x1000 + j * 0x20
def DSP_Q_DONE (i : Nat) (j : Nat) : Nat := 0x150101c + i * 0x1000 + j * 0x20
def DSP_P_TILES (i : Nat) : Nat := 0x1501200 + i * 0x1000
def DSP_P_STRIPES (i : Nat) : Nat := 0x1501204 + i * 0x1000
def DSP_P_PASSES (i : Nat) : Nat := 0x1501208 + i * 0x1000
def DSP_P_OPFAULT (i : Nat) : Nat := 0x150120c + i * 0x1000
def DSP_CTRL : Nat := 0x1520000
def DSP_GDN_STAT (i : Nat) : Nat := 0x1520010 + i * 0x4
def DSP_GDN_UTIL (i : Nat) : Nat := 0x1520020 + i * 0x4
def DSP_BED_APER (i : Nat) : Nat := 0x1520100 + i * 0x4

end Sys2Proof.Machine.R

namespace Sys2Proof.Machine.F

def SHD_REV_REV : Fld := ⟨R.SHD_REV, 7, 0⟩
def SHD_ROM_VER_ROM : Fld := ⟨R.SHD_ROM_VER, 31, 0⟩
def SHD_BOOT_STATE_MODE : Fld := ⟨R.SHD_BOOT_STATE, 2, 0⟩
def SHD_BOOT_STATE_SLOT : Fld := ⟨R.SHD_BOOT_STATE, 4, 3⟩
def SHD_BOOT_STATE_ACCEPT_DUE : Fld := ⟨R.SHD_BOOT_STATE, 5, 5⟩
def SHD_BOOT_STATE_STAGING : Fld := ⟨R.SHD_BOOT_STATE, 6, 6⟩
def SHD_BOOT_STATE_REPLANT_PENDING : Fld := ⟨R.SHD_BOOT_STATE, 7, 7⟩
def SHD_BOOT_STATE_CAUSE : Fld := ⟨R.SHD_BOOT_STATE, 15, 8⟩
def SHD_RUN_SEQ_IMAGE_SEQ : Fld := ⟨R.SHD_RUN_SEQ, 31, 0⟩
def SHD_RUN_CUST_CUST_VERSION : Fld := ⟨R.SHD_RUN_CUST, 31, 0⟩
def SHD_HARD_REMAIN_SECONDS : Fld := ⟨R.SHD_HARD_REMAIN, 31, 0⟩
def SHD_SLOTS_A_STATE : Fld := ⟨R.SHD_SLOTS, 1, 0⟩
def SHD_SLOTS_B_STATE : Fld := ⟨R.SHD_SLOTS, 3, 2⟩
def SHD_SLOT_A_SEQ_IMAGE_SEQ : Fld := ⟨R.SHD_SLOT_A_SEQ, 31, 0⟩
def SHD_SLOT_B_SEQ_IMAGE_SEQ : Fld := ⟨R.SHD_SLOT_B_SEQ, 31, 0⟩
def SHD_LEDGER_SEQ_SEQ : Fld := ⟨R.SHD_LEDGER_SEQ, 31, 0⟩
def SHD_MBX_CMD_OP : Fld := ⟨R.SHD_MBX_CMD, 7, 0⟩
def SHD_MBX_CMD_TAG : Fld := ⟨R.SHD_MBX_CMD, 23, 8⟩
def SHD_MBX_ARG_ARG (i : Nat) : Fld := ⟨R.SHD_MBX_ARG i, 31, 0⟩
def SHD_MBX_STATUS_BUSY : Fld := ⟨R.SHD_MBX_STATUS, 0, 0⟩
def SHD_MBX_STATUS_RESULT : Fld := ⟨R.SHD_MBX_STATUS, 6, 4⟩
def SHD_MBX_STATUS_OVERRUN : Fld := ⟨R.SHD_MBX_STATUS, 7, 7⟩
def SHD_MBX_STATUS_TAG : Fld := ⟨R.SHD_MBX_STATUS, 23, 8⟩
def SHD_MBX_RET_RET : Fld := ⟨R.SHD_MBX_RET, 31, 0⟩
def SHD_MBX_BUF_DATA (i : Nat) : Fld := ⟨R.SHD_MBX_BUF i, 31, 0⟩
def SDL_NOW_LO_NOW : Fld := ⟨R.SDL_NOW_LO, 31, 0⟩
def SDL_NOW_HI_NOW : Fld := ⟨R.SDL_NOW_HI, 31, 0⟩
def SDL_STATUS_TIME_VALID : Fld := ⟨R.SDL_STATUS, 0, 0⟩
def SDL_STATUS_LOCKED : Fld := ⟨R.SDL_STATUS, 1, 1⟩
def SDL_STATUS_HOLDOVER : Fld := ⟨R.SDL_STATUS, 2, 2⟩
def SDL_STATUS_SRC : Fld := ⟨R.SDL_STATUS, 4, 3⟩
def SDL_STATUS_CURVE_VALID : Fld := ⟨R.SDL_STATUS, 5, 5⟩
def SDL_STATUS_HOLD_BOUNDED : Fld := ⟨R.SDL_STATUS, 6, 6⟩
def SDL_STATUS_SLEWING : Fld := ⟨R.SDL_STATUS, 7, 7⟩
def SDL_EVENTS_STEPPED : Fld := ⟨R.SDL_EVENTS, 0, 0⟩
def SDL_EVENTS_LOCK_LOST : Fld := ⟨R.SDL_EVENTS, 1, 1⟩
def SDL_EVENTS_LOCK_GAINED : Fld := ⟨R.SDL_EVENTS, 2, 2⟩
def SDL_EVENTS_REF_LOST : Fld := ⟨R.SDL_EVENTS, 3, 3⟩
def SDL_EVENTS_REF_RESTORED : Fld := ⟨R.SDL_EVENTS, 4, 4⟩
def SDL_EVENTS_CAP_OVF : Fld := ⟨R.SDL_EVENTS, 5, 5⟩
def SDL_RATE_RATE : Fld := ⟨R.SDL_RATE, 31, 0⟩
def SDL_STEP_LO_AMOUNT_LO : Fld := ⟨R.SDL_STEP_LO, 31, 0⟩
def SDL_STEP_HI_AMOUNT_HI : Fld := ⟨R.SDL_STEP_HI, 31, 0⟩
def SDL_TICK_TICK : Fld := ⟨R.SDL_TICK, 31, 0⟩
def SDL_CAP_CTRL_RISE_EN : Fld := ⟨R.SDL_CAP_CTRL, 7, 0⟩
def SDL_CAP_CTRL_FALL_EN : Fld := ⟨R.SDL_CAP_CTRL, 15, 8⟩
def SDL_CAP_CTRL_PPS_GPIO : Fld := ⟨R.SDL_CAP_CTRL, 18, 16⟩
def SDL_CAP_CTRL_PPS_EN : Fld := ⟨R.SDL_CAP_CTRL, 19, 19⟩
def SDL_CAP_INFO_GPIO : Fld := ⟨R.SDL_CAP_INFO, 2, 0⟩
def SDL_CAP_INFO_EDGE : Fld := ⟨R.SDL_CAP_INFO, 3, 3⟩
def SDL_CAP_INFO_COUNT : Fld := ⟨R.SDL_CAP_INFO, 9, 4⟩
def SDL_CAP_INFO_VALID : Fld := ⟨R.SDL_CAP_INFO, 31, 31⟩
def SDL_CAP_LO_STAMP_LO : Fld := ⟨R.SDL_CAP_LO, 31, 0⟩
def SDL_CAP_HI_STAMP_HI : Fld := ⟨R.SDL_CAP_HI, 31, 0⟩
def SDL_HOLD_AGE_AGE : Fld := ⟨R.SDL_HOLD_AGE, 31, 0⟩
def SDL_TMR_CMP_LO_CMP_LO (i : Nat) : Fld := ⟨R.SDL_TMR_CMP_LO i, 31, 0⟩
def SDL_TMR_CMP_HI_CMP_HI (i : Nat) : Fld := ⟨R.SDL_TMR_CMP_HI i, 31, 0⟩
def SDL_TMR_PERIOD_PERIOD (i : Nat) : Fld := ⟨R.SDL_TMR_PERIOD i, 31, 0⟩
def SDL_TMR_CTRL_EN (i : Nat) : Fld := ⟨R.SDL_TMR_CTRL i, 0, 0⟩
def SDL_TMR_CTRL_TARGET (i : Nat) : Fld := ⟨R.SDL_TMR_CTRL i, 2, 1⟩
def SDL_TMR_CTRL_CHANNEL (i : Nat) : Fld := ⟨R.SDL_TMR_CTRL i, 13, 8⟩
def SDL_TMR_STAT_FIRED (i : Nat) : Fld := ⟨R.SDL_TMR_STAT i, 0, 0⟩
def SDL_TMR_MISSED_MISSED (i : Nat) : Fld := ⟨R.SDL_TMR_MISSED i, 15, 0⟩
def SDL_TMR_OWNER_PLOT (i : Nat) : Fld := ⟨R.SDL_TMR_OWNER i, 3, 0⟩
def ITK_CTRL_EN : Fld := ⟨R.ITK_CTRL, 0, 0⟩
def ITK_PORT_CFG_EN (i : Nat) : Fld := ⟨R.ITK_PORT_CFG i, 0, 0⟩
def ITK_PORT_CFG_LANES (i : Nat) : Fld := ⟨R.ITK_PORT_CFG i, 2, 1⟩
def ITK_PORT_CFG_DESKEW (i : Nat) : Fld := ⟨R.ITK_PORT_CFG i, 3, 3⟩
def ITK_PORT_STAT_HS (i : Nat) : Fld := ⟨R.ITK_PORT_STAT i, 0, 0⟩
def ITK_PORT_STAT_STOP (i : Nat) : Fld := ⟨R.ITK_PORT_STAT i, 4, 1⟩
def ITK_PORT_ERR_ERR (i : Nat) : Fld := ⟨R.ITK_PORT_ERR i, 8, 0⟩
def ITK_PORT_CRC_CNT_COUNT (i : Nat) : Fld := ⟨R.ITK_PORT_CRC_CNT i, 15, 0⟩
def ITK_CTX_CTRL_EN (i : Nat) : Fld := ⟨R.ITK_CTX_CTRL i, 0, 0⟩
def ITK_CTX_CTRL_RELOCK (i : Nat) : Fld := ⟨R.ITK_CTX_CTRL i, 1, 1⟩
def ITK_CTX_STATE_STATE (i : Nat) : Fld := ⟨R.ITK_CTX_STATE i, 2, 0⟩
def ITK_CTX_STATE_SSRC_LOCKED (i : Nat) : Fld := ⟨R.ITK_CTX_STATE i, 3, 3⟩
def ITK_CTX_MATCH_CSI_PORT (i : Nat) : Fld := ⟨R.ITK_CTX_MATCH i, 2, 0⟩
def ITK_CTX_MATCH_VC (i : Nat) : Fld := ⟨R.ITK_CTX_MATCH i, 4, 3⟩
def ITK_CTX_MATCH_ETH_PORT (i : Nat) : Fld := ⟨R.ITK_CTX_MATCH i, 5, 5⟩
def ITK_CTX_MATCH_UDP_PORT (i : Nat) : Fld := ⟨R.ITK_CTX_MATCH i, 31, 16⟩
def ITK_CTX_SRC_IP_IP (i : Nat) : Fld := ⟨R.ITK_CTX_SRC_IP i, 31, 0⟩
def ITK_CTX_RTP_PT (i : Nat) : Fld := ⟨R.ITK_CTX_RTP i, 6, 0⟩
def ITK_CTX_SSRC_SSRC (i : Nat) : Fld := ⟨R.ITK_CTX_SSRC i, 31, 0⟩
def ITK_CTX_S_BASE_LO_BASE (i : Nat) : Fld := ⟨R.ITK_CTX_S_BASE_LO i, 31, 0⟩
def ITK_CTX_S_BASE_HI_BASE (i : Nat) : Fld := ⟨R.ITK_CTX_S_BASE_HI i, 15, 0⟩
def ITK_CTX_S_SIZE_SIZE (i : Nat) : Fld := ⟨R.ITK_CTX_S_SIZE i, 31, 0⟩
def ITK_CTX_S_WIN_XY_XY (i : Nat) : Fld := ⟨R.ITK_CTX_S_WIN_XY i, 31, 0⟩
def ITK_CTX_S_WIN_WH_WH (i : Nat) : Fld := ⟨R.ITK_CTX_S_WIN_WH i, 31, 0⟩
def ITK_CTX_COMMIT_GO (i : Nat) : Fld := ⟨R.ITK_CTX_COMMIT i, 0, 0⟩
def ITK_CTX_COMMIT_STAT_PENDING (i : Nat) : Fld := ⟨R.ITK_CTX_COMMIT_STAT i, 0, 0⟩
def ITK_CTX_COMMIT_STAT_REJECT (i : Nat) : Fld := ⟨R.ITK_CTX_COMMIT_STAT i, 1, 1⟩
def ITK_CTX_COMMIT_STAT_SUPERSEDED (i : Nat) : Fld := ⟨R.ITK_CTX_COMMIT_STAT i, 2, 2⟩
def ITK_CTX_LATCHED_SEQ_SEQ (i : Nat) : Fld := ⟨R.ITK_CTX_LATCHED_SEQ i, 31, 0⟩
def ITK_CTX_FRAME_SEQ_SEQ (i : Nat) : Fld := ⟨R.ITK_CTX_FRAME_SEQ i, 31, 0⟩
def ITK_CTX_WPTR_OFF (i : Nat) : Fld := ⟨R.ITK_CTX_WPTR i, 31, 0⟩
def ITK_CTX_RPTR_OFF (i : Nat) : Fld := ⟨R.ITK_CTX_RPTR i, 31, 0⟩
def ITK_CTX_TS_LO_TS (i : Nat) : Fld := ⟨R.ITK_CTX_TS_LO i, 31, 0⟩
def ITK_CTX_TS_HI_TS (i : Nat) : Fld := ⟨R.ITK_CTX_TS_HI i, 31, 0⟩
def ITK_CTX_DROPS_COUNT (i : Nat) : Fld := ⟨R.ITK_CTX_DROPS i, 15, 0⟩
def ITK_CTX_LOST_COUNT (i : Nat) : Fld := ⟨R.ITK_CTX_LOST i, 15, 0⟩
def ITK_CTX_LATE_COUNT (i : Nat) : Fld := ⟨R.ITK_CTX_LATE i, 15, 0⟩
def ITK_CTX_FOREIGN_COUNT (i : Nat) : Fld := ⟨R.ITK_CTX_FOREIGN i, 15, 0⟩
def ITK_SET_CTRL_EN (i : Nat) : Fld := ⟨R.ITK_SET_CTRL i, 0, 0⟩
def ITK_SET_PAIRED_COUNT (i : Nat) : Fld := ⟨R.ITK_SET_PAIRED i, 31, 0⟩
def ITK_SET_PARTIAL_COUNT (i : Nat) : Fld := ⟨R.ITK_SET_PARTIAL i, 31, 0⟩
def ITK_SET_DROPPED_COUNT (i : Nat) : Fld := ⟨R.ITK_SET_DROPPED i, 31, 0⟩
def ITK_SET_LAST_SEQ_SEQ (i : Nat) : Fld := ⟨R.ITK_SET_LAST_SEQ i, 31, 0⟩
def VDC_CTRL_EN : Fld := ⟨R.VDC_CTRL, 0, 0⟩
def VDC_CORE_BUSY_BUSY : Fld := ⟨R.VDC_CORE_BUSY, 5, 0⟩
def VDC_CORE_UTIL_CYCLES (i : Nat) : Fld := ⟨R.VDC_CORE_UTIL i, 31, 0⟩
def VDC_RES_MPIX (i : Nat) : Fld := ⟨R.VDC_RES i, 12, 0⟩
def VDC_STR_CFG_EN (i : Nat) : Fld := ⟨R.VDC_STR_CFG i, 0, 0⟩
def VDC_STR_CFG_CODEC (i : Nat) : Fld := ⟨R.VDC_STR_CFG i, 2, 1⟩
def VDC_STR_STATE_STATE (i : Nat) : Fld := ⟨R.VDC_STR_STATE i, 2, 0⟩
def VDC_STR_STATE_TAINTED (i : Nat) : Fld := ⟨R.VDC_STR_STATE i, 3, 3⟩
def VDC_STR_STATE_NO_HOLD (i : Nat) : Fld := ⟨R.VDC_STR_STATE i, 4, 4⟩
def VDC_STR_REF_LO_BASE (i : Nat) : Fld := ⟨R.VDC_STR_REF_LO i, 31, 0⟩
def VDC_STR_REF_HI_BASE (i : Nat) : Fld := ⟨R.VDC_STR_REF_HI i, 15, 0⟩
def VDC_STR_OUT_LO_BASE (i : Nat) : Fld := ⟨R.VDC_STR_OUT_LO i, 31, 0⟩
def VDC_STR_OUT_HI_BASE (i : Nat) : Fld := ⟨R.VDC_STR_OUT_HI i, 15, 0⟩
def VDC_STR_GEN_GEN (i : Nat) : Fld := ⟨R.VDC_STR_GEN i, 15, 0⟩
def VDC_STR_PICS_COUNT (i : Nat) : Fld := ⟨R.VDC_STR_PICS i, 31, 0⟩
def VDC_STR_VOIDS_COUNT (i : Nat) : Fld := ⟨R.VDC_STR_VOIDS i, 15, 0⟩
def VDC_STR_LAST_VOID_GEN (i : Nat) : Fld := ⟨R.VDC_STR_LAST_VOID i, 15, 0⟩
def VDC_STR_LAST_VOID_CAUSE (i : Nat) : Fld := ⟨R.VDC_STR_LAST_VOID i, 19, 16⟩
def VDC_STR_TAINTS_COUNT (i : Nat) : Fld := ⟨R.VDC_STR_TAINTS i, 15, 0⟩
def VDC_STR_DARK_COUNT (i : Nat) : Fld := ⟨R.VDC_STR_DARK i, 15, 0⟩
def VDC_STR_REFUSALS_COUNT (i : Nat) : Fld := ⟨R.VDC_STR_REFUSALS i, 15, 0⟩
def PRN_CTRL_EN : Fld := ⟨R.PRN_CTRL, 0, 0⟩
def PRN_ENG_BUSY_BUSY : Fld := ⟨R.PRN_ENG_BUSY, 3, 0⟩
def PRN_ENG_UTIL_CYCLES (i : Nat) : Fld := ⟨R.PRN_ENG_UTIL i, 31, 0⟩
def PRN_RES_MPIX (i : Nat) : Fld := ⟨R.PRN_RES i, 12, 0⟩
def PRN_PIPE_CFG_EN (i : Nat) : Fld := ⟨R.PRN_PIPE_CFG i, 0, 0⟩
def PRN_PIPE_CFG_STEER (i : Nat) : Fld := ⟨R.PRN_PIPE_CFG i, 1, 1⟩
def PRN_PIPE_S_LIST_LO_ADDR (i : Nat) : Fld := ⟨R.PRN_PIPE_S_LIST_LO i, 31, 0⟩
def PRN_PIPE_S_LIST_HI_ADDR (i : Nat) : Fld := ⟨R.PRN_PIPE_S_LIST_HI i, 15, 0⟩
def PRN_PIPE_S_COUNT_COUNT (i : Nat) : Fld := ⟨R.PRN_PIPE_S_COUNT i, 8, 0⟩
def PRN_PIPE_COMMIT_GO (i : Nat) : Fld := ⟨R.PRN_PIPE_COMMIT i, 0, 0⟩
def PRN_PIPE_COMMIT_STAT_COPYING (i : Nat) : Fld := ⟨R.PRN_PIPE_COMMIT_STAT i, 0, 0⟩
def PRN_PIPE_COMMIT_STAT_PENDING (i : Nat) : Fld := ⟨R.PRN_PIPE_COMMIT_STAT i, 1, 1⟩
def PRN_PIPE_COMMIT_STAT_REJECT (i : Nat) : Fld := ⟨R.PRN_PIPE_COMMIT_STAT i, 2, 2⟩
def PRN_PIPE_COMMIT_STAT_SUPERSEDED (i : Nat) : Fld := ⟨R.PRN_PIPE_COMMIT_STAT i, 3, 3⟩
def PRN_PIPE_LATCHED_SEQ_SEQ (i : Nat) : Fld := ⟨R.PRN_PIPE_LATCHED_SEQ i, 31, 0⟩
def PRN_PIPE_ACTIVE_COUNT_COUNT (i : Nat) : Fld := ⟨R.PRN_PIPE_ACTIVE_COUNT i, 8, 0⟩
def PRN_PIPE_CROPS_COUNT (i : Nat) : Fld := ⟨R.PRN_PIPE_CROPS i, 31, 0⟩
def PRN_PIPE_BADCROP_COUNT (i : Nat) : Fld := ⟨R.PRN_PIPE_BADCROP i, 15, 0⟩
def PRN_PIPE_SKIPS_COUNT (i : Nat) : Fld := ⟨R.PRN_PIPE_SKIPS i, 15, 0⟩
def PRN_PIPE_SAT_COUNT (i : Nat) : Fld := ⟨R.PRN_PIPE_SAT i, 31, 0⟩
def PRN_PIPE_STALLS_COUNT (i : Nat) : Fld := ⟨R.PRN_PIPE_STALLS i, 15, 0⟩
def PRN_GRP_SEQ_SEQ (i : Nat) : Fld := ⟨R.PRN_GRP_SEQ i, 31, 0⟩
def PRN_GRP_FULL_COUNT (i : Nat) : Fld := ⟨R.PRN_GRP_FULL i, 31, 0⟩
def PRN_GRP_TIMED_COUNT (i : Nat) : Fld := ⟨R.PRN_GRP_TIMED i, 31, 0⟩
def PRN_GRP_FREE_SLOTS (i : Nat) : Fld := ⟨R.PRN_GRP_FREE i, 4, 0⟩
def BRW_CH_CTRL_EN (i : Nat) : Fld := ⟨R.BRW_CH_CTRL i, 0, 0⟩
def BRW_CH_CTRL_PAUSE (i : Nat) : Fld := ⟨R.BRW_CH_CTRL i, 1, 1⟩
def BRW_CH_CTRL_DOORBELL (i : Nat) : Fld := ⟨R.BRW_CH_CTRL i, 2, 2⟩
def BRW_CH_CTRL_PACE (i : Nat) : Fld := ⟨R.BRW_CH_CTRL i, 5, 4⟩
def BRW_CH_STATE_STATE (i : Nat) : Fld := ⟨R.BRW_CH_STATE i, 2, 0⟩
def BRW_CH_STATE_DB_PEND (i : Nat) : Fld := ⟨R.BRW_CH_STATE i, 3, 3⟩
def BRW_CH_STATE_HYST_ON (i : Nat) : Fld := ⟨R.BRW_CH_STATE i, 4, 4⟩
def BRW_CH_RING_LO_BASE (i : Nat) : Fld := ⟨R.BRW_CH_RING_LO i, 31, 0⟩
def BRW_CH_RING_HI_BASE (i : Nat) : Fld := ⟨R.BRW_CH_RING_HI i, 15, 0⟩
def BRW_CH_RING_SIZE_LOG2 (i : Nat) : Fld := ⟨R.BRW_CH_RING_SIZE i, 3, 0⟩
def BRW_CH_HEAD_INDEX (i : Nat) : Fld := ⟨R.BRW_CH_HEAD i, 11, 0⟩
def BRW_CH_LEVEL_BYTES (i : Nat) : Fld := ⟨R.BRW_CH_LEVEL i, 31, 0⟩
def BRW_CH_LEVEL_ADD_BYTES (i : Nat) : Fld := ⟨R.BRW_CH_LEVEL_ADD i, 31, 0⟩
def BRW_CH_HIGH_BYTES (i : Nat) : Fld := ⟨R.BRW_CH_HIGH i, 31, 0⟩
def BRW_CH_LOW_BYTES (i : Nat) : Fld := ⟨R.BRW_CH_LOW i, 31, 0⟩
def BRW_CH_TRIG_SRC (i : Nat) : Fld := ⟨R.BRW_CH_TRIG i, 1, 0⟩
def BRW_CH_TRIG_CHAN (i : Nat) : Fld := ⟨R.BRW_CH_TRIG i, 13, 8⟩
def BRW_CH_TRIG_RUN (i : Nat) : Fld := ⟨R.BRW_CH_TRIG i, 23, 16⟩
def BRW_CH_CREDIT_CREDIT (i : Nat) : Fld := ⟨R.BRW_CH_CREDIT i, 7, 0⟩
def BRW_CH_EVT_LOST_COUNT (i : Nat) : Fld := ⟨R.BRW_CH_EVT_LOST i, 15, 0⟩
def BRW_CH_DONE_COUNT (i : Nat) : Fld := ⟨R.BRW_CH_DONE i, 31, 0⟩
def BRW_CH_SETTLED_COUNT (i : Nat) : Fld := ⟨R.BRW_CH_SETTLED i, 31, 0⟩
def BRW_CH_CUR_SRC_LO_ADDR (i : Nat) : Fld := ⟨R.BRW_CH_CUR_SRC_LO i, 31, 0⟩
def BRW_CH_CUR_SRC_HI_ADDR (i : Nat) : Fld := ⟨R.BRW_CH_CUR_SRC_HI i, 31, 0⟩
def BRW_CH_CUR_DST_LO_ADDR (i : Nat) : Fld := ⟨R.BRW_CH_CUR_DST_LO i, 31, 0⟩
def BRW_CH_CUR_DST_HI_ADDR (i : Nat) : Fld := ⟨R.BRW_CH_CUR_DST_HI i, 31, 0⟩
def BRW_CH_CUR_REMAIN_BYTES (i : Nat) : Fld := ⟨R.BRW_CH_CUR_REMAIN i, 24, 0⟩
def BRW_CH_CUR_ROWS_ROWS (i : Nat) : Fld := ⟨R.BRW_CH_CUR_ROWS i, 15, 0⟩
def BRW_CH_IRQ_DONE (i : Nat) : Fld := ⟨R.BRW_CH_IRQ i, 0, 0⟩
def BRW_CH_IRQ_ERR (i : Nat) : Fld := ⟨R.BRW_CH_IRQ i, 1, 1⟩
def BRW_CH_IRQ_LEVEL_OVF (i : Nat) : Fld := ⟨R.BRW_CH_IRQ i, 2, 2⟩
def BRW_CH_IRQ_EVT_LOST (i : Nat) : Fld := ⟨R.BRW_CH_IRQ i, 3, 3⟩
def BRW_CH_IRQ_EN_EN (i : Nat) : Fld := ⟨R.BRW_CH_IRQ_EN i, 3, 0⟩
def BRW_CH_ERR_CAUSE (i : Nat) : Fld := ⟨R.BRW_CH_ERR i, 2, 0⟩
def BRW_CH_ERR_ADDR_LO_ADDR (i : Nat) : Fld := ⟨R.BRW_CH_ERR_ADDR_LO i, 31, 0⟩
def BRW_CH_ERR_ADDR_HI_ADDR (i : Nat) : Fld := ⟨R.BRW_CH_ERR_ADDR_HI i, 31, 0⟩
def BRW_CH_OWNER_PLOT (i : Nat) : Fld := ⟨R.BRW_CH_OWNER i, 3, 0⟩
def BRW_CTRL_PAUSE : Fld := ⟨R.BRW_CTRL, 0, 0⟩
def BRW_STAT_QUIET : Fld := ⟨R.BRW_STAT, 0, 0⟩
def BRW_ACTIVE_LO_CH : Fld := ⟨R.BRW_ACTIVE_LO, 31, 0⟩
def BRW_ACTIVE_HI_CH : Fld := ⟨R.BRW_ACTIVE_HI, 31, 0⟩
def DMC_CTRL_EN : Fld := ⟨R.DMC_CTRL, 0, 0⟩
def DMC_CTRL_WEED_EN : Fld := ⟨R.DMC_CTRL, 1, 1⟩
def DMC_CTRL_RFM_ALWAYS : Fld := ⟨R.DMC_CTRL, 2, 2⟩
def DMC_CTRL_NBR_K : Fld := ⟨R.DMC_CTRL, 7, 4⟩
def DMC_CFG_DENSITY : Fld := ⟨R.DMC_CFG, 1, 0⟩
def DMC_CFG_RANKS : Fld := ⟨R.DMC_CFG, 2, 2⟩
def DMC_CFG_RATE : Fld := ⟨R.DMC_CFG, 29, 16⟩
def DMC_STATUS_TRAINED : Fld := ⟨R.DMC_STATUS, 0, 0⟩
def DMC_STATUS_FROM_CACHE : Fld := ⟨R.DMC_STATUS, 1, 1⟩
def DMC_STATUS_SELF_REFRESH : Fld := ⟨R.DMC_STATUS, 2, 2⟩
def DMC_STATUS_WEED_LAG : Fld := ⟨R.DMC_STATUS, 3, 3⟩
def DMC_EVENTS_CE : Fld := ⟨R.DMC_EVENTS, 0, 0⟩
def DMC_EVENTS_UE : Fld := ⟨R.DMC_EVENTS, 1, 1⟩
def DMC_EVENTS_REF_FORCED : Fld := ⟨R.DMC_EVENTS, 2, 2⟩
def DMC_EVENTS_DRIFT : Fld := ⟨R.DMC_EVENTS, 3, 3⟩
def DMC_EVENTS_WILT_DENIED : Fld := ⟨R.DMC_EVENTS, 4, 4⟩
def DMC_CE_COUNT_COUNT : Fld := ⟨R.DMC_CE_COUNT, 15, 0⟩
def DMC_UE_COUNT_COUNT : Fld := ⟨R.DMC_UE_COUNT, 15, 0⟩
def DMC_ERR_ADDR_LO_ADDR : Fld := ⟨R.DMC_ERR_ADDR_LO, 31, 0⟩
def DMC_ERR_ADDR_HI_ADDR : Fld := ⟨R.DMC_ERR_ADDR_HI, 7, 0⟩
def DMC_ERR_INFO_UE : Fld := ⟨R.DMC_ERR_INFO, 0, 0⟩
def DMC_ERR_INFO_SOURCE : Fld := ⟨R.DMC_ERR_INFO, 2, 1⟩
def DMC_ERR_INFO_PLOT : Fld := ⟨R.DMC_ERR_INFO, 11, 8⟩
def DMC_ERR_INFO_WORD : Fld := ⟨R.DMC_ERR_INFO, 17, 12⟩
def DMC_WEED_HOURS_HOURS : Fld := ⟨R.DMC_WEED_HOURS, 7, 0⟩
def DMC_WEED_POS_Q : Fld := ⟨R.DMC_WEED_POS, 31, 0⟩
def DMC_WEED_PASSES_COUNT : Fld := ⟨R.DMC_WEED_PASSES, 31, 0⟩
def DMC_REF_OWED_RANK0 (i : Nat) : Fld := ⟨R.DMC_REF_OWED i, 3, 0⟩
def DMC_REF_OWED_RANK1 (i : Nat) : Fld := ⟨R.DMC_REF_OWED i, 7, 4⟩
def DMC_REF_FORCED_COUNT : Fld := ⟨R.DMC_REF_FORCED, 31, 0⟩
def DMC_NBR_COUNT_COUNT : Fld := ⟨R.DMC_NBR_COUNT, 31, 0⟩
def DMC_RFM_COUNT_COUNT : Fld := ⟨R.DMC_RFM_COUNT, 31, 0⟩
def DMC_TRAIN_STAT_FAIL : Fld := ⟨R.DMC_TRAIN_STAT, 0, 0⟩
def DMC_TRAIN_STAT_CACHE_VALID : Fld := ⟨R.DMC_TRAIN_STAT, 1, 1⟩
def DMC_ETA_ETA : Fld := ⟨R.DMC_ETA, 15, 0⟩
def DMC_TIMING_VALUE (i : Nat) : Fld := ⟨R.DMC_TIMING i, 31, 0⟩
def DMC_RES_MBPS_MBPS (i : Nat) : Fld := ⟨R.DMC_RES_MBPS i, 17, 0⟩
def DMC_LAT_NS_NS (i : Nat) : Fld := ⟨R.DMC_LAT_NS i, 15, 0⟩
def DMC_RES_SERVED_COUNT (i : Nat) : Fld := ⟨R.DMC_RES_SERVED i, 31, 0⟩
def DMC_WILT_DENIED_COUNT (i : Nat) : Fld := ⟨R.DMC_WILT_DENIED i, 15, 0⟩
def DMC_RT_WILT_ON (i : Nat) : Fld := ⟨R.DMC_RT_WILT i, 6, 0⟩
def DMC_RT_WILT_OFF (i : Nat) : Fld := ⟨R.DMC_RT_WILT i, 14, 8⟩
def DMC_RT_WILT_ASSERTED (i : Nat) : Fld := ⟨R.DMC_RT_WILT i, 16, 16⟩
def DMC_RT_COUNT_COUNT (i : Nat) : Fld := ⟨R.DMC_RT_COUNT i, 31, 0⟩
def HVS_P_STAT_CELLAR_BAD (i : Nat) : Fld := ⟨R.HVS_P_STAT i, 0, 0⟩
def HVS_P_STAT_UDP_UNRESOLVED (i : Nat) : Fld := ⟨R.HVS_P_STAT i, 1, 1⟩
def HVS_P_WAIT_US (i : Nat) : Fld := ⟨R.HVS_P_WAIT i, 19, 0⟩
def HVS_P_SEQ_SEQ (i : Nat) : Fld := ⟨R.HVS_P_SEQ i, 31, 0⟩
def HVS_P_CRATE_LO_SEQ (i : Nat) : Fld := ⟨R.HVS_P_CRATE_LO i, 31, 0⟩
def HVS_P_CRATE_HI_SEQ (i : Nat) : Fld := ⟨R.HVS_P_CRATE_HI i, 31, 0⟩
def HVS_P_SEAL_JOB_JOB (i : Nat) : Fld := ⟨R.HVS_P_SEAL_JOB i, 31, 0⟩
def HVS_P_HOST_LOST_COUNT (i : Nat) : Fld := ⟨R.HVS_P_HOST_LOST i, 31, 0⟩
def HVS_P_UDP_LOST_COUNT (i : Nat) : Fld := ⟨R.HVS_P_UDP_LOST i, 31, 0⟩
def HVS_P_CELLAR_LOST_COUNT (i : Nat) : Fld := ⟨R.HVS_P_CELLAR_LOST i, 31, 0⟩
def HVS_P_CELLAR_HEAD_SLOT (i : Nat) : Fld := ⟨R.HVS_P_CELLAR_HEAD i, 31, 0⟩
def HVS_P_REPLAY_BOOT_SEQ (i : Nat) : Fld := ⟨R.HVS_P_REPLAY_BOOT i, 31, 0⟩
def HVS_P_REPLAY_CRATE_LO_SEQ (i : Nat) : Fld := ⟨R.HVS_P_REPLAY_CRATE_LO i, 31, 0⟩
def HVS_P_REPLAY_CRATE_HI_SEQ (i : Nat) : Fld := ⟨R.HVS_P_REPLAY_CRATE_HI i, 31, 0⟩
def HVS_P_REPLAY_CTRL_GO (i : Nat) : Fld := ⟨R.HVS_P_REPLAY_CTRL i, 0, 0⟩
def HVS_P_REPLAY_CTRL_BUSY (i : Nat) : Fld := ⟨R.HVS_P_REPLAY_CTRL i, 1, 1⟩
def HVS_P_REPLAY_CTRL_GAP (i : Nat) : Fld := ⟨R.HVS_P_REPLAY_CTRL i, 2, 2⟩
def HR_CTRL_EN (i : Nat) : Fld := ⟨R.HR_CTRL i, 0, 0⟩
def HR_CTRL_IRQ_EN (i : Nat) : Fld := ⟨R.HR_CTRL i, 1, 1⟩
def HR_STAT_READY (i : Nat) : Fld := ⟨R.HR_STAT i, 0, 0⟩
def HR_STAT_CONS_ERR (i : Nat) : Fld := ⟨R.HR_STAT i, 1, 1⟩
def HR_STAT_CFG_ERR (i : Nat) : Fld := ⟨R.HR_STAT i, 2, 2⟩
def HR_BASE_LO_ADDR (i : Nat) : Fld := ⟨R.HR_BASE_LO i, 31, 0⟩
def HR_BASE_HI_ADDR (i : Nat) : Fld := ⟨R.HR_BASE_HI i, 31, 0⟩
def HR_SIZE_LOG2 (i : Nat) : Fld := ⟨R.HR_SIZE i, 4, 0⟩
def HR_PROD_INDEX (i : Nat) : Fld := ⟨R.HR_PROD i, 31, 0⟩
def HR_CONS_INDEX (i : Nat) : Fld := ⟨R.HR_CONS i, 31, 0⟩
def HR_LOST_COUNT (i : Nat) : Fld := ⟨R.HR_LOST i, 31, 0⟩
def HR_HOLDOFF_US (i : Nat) : Fld := ⟨R.HR_HOLDOFF i, 15, 0⟩
def HR_REPLAY_BOOT_SEQ (i : Nat) : Fld := ⟨R.HR_REPLAY_BOOT i, 31, 0⟩
def HR_REPLAY_CRATE_LO_SEQ (i : Nat) : Fld := ⟨R.HR_REPLAY_CRATE_LO i, 31, 0⟩
def HR_REPLAY_CRATE_HI_SEQ (i : Nat) : Fld := ⟨R.HR_REPLAY_CRATE_HI i, 31, 0⟩
def HR_REPLAY_CTRL_GO (i : Nat) : Fld := ⟨R.HR_REPLAY_CTRL i, 0, 0⟩
def HR_REPLAY_CTRL_BUSY (i : Nat) : Fld := ⟨R.HR_REPLAY_CTRL i, 1, 1⟩
def HR_REPLAY_CTRL_GAP (i : Nat) : Fld := ⟨R.HR_REPLAY_CTRL i, 2, 2⟩
def HVS_DEVICE_ID_LO_ID : Fld := ⟨R.HVS_DEVICE_ID_LO, 31, 0⟩
def HVS_DEVICE_ID_HI_ID : Fld := ⟨R.HVS_DEVICE_ID_HI, 31, 0⟩
def TRL_CTRL_PORT_EN : Fld := ⟨R.TRL_CTRL, 1, 0⟩
def TRL_CTRL_NODE : Fld := ⟨R.TRL_CTRL, 3, 2⟩
def TRL_CTRL_RING : Fld := ⟨R.TRL_CTRL, 6, 4⟩
def TRL_ROUTE_ROUTE : Fld := ⟨R.TRL_ROUTE, 7, 0⟩
def TRL_RX_DROP_COUNT : Fld := ⟨R.TRL_RX_DROP, 15, 0⟩
def TRL_DROP_INFO_CAUSE : Fld := ⟨R.TRL_DROP_INFO, 3, 0⟩
def TRL_DROP_INFO_NODE : Fld := ⟨R.TRL_DROP_INFO, 5, 4⟩
def TRL_DROP_INFO_PLOT : Fld := ⟨R.TRL_DROP_INFO, 11, 8⟩
def TRL_AUTH_FAIL_COUNT : Fld := ⟨R.TRL_AUTH_FAIL, 15, 0⟩
def TRL_STALE_COUNT : Fld := ⟨R.TRL_STALE, 15, 0⟩
def TRL_LOST_COUNT : Fld := ⟨R.TRL_LOST, 15, 0⟩
def TRL_P_CTRL_EN (i : Nat) : Fld := ⟨R.TRL_P_CTRL i, 0, 0⟩
def TRL_P_CTRL_RETRAIN (i : Nat) : Fld := ⟨R.TRL_P_CTRL i, 1, 1⟩
def TRL_P_STAT_STATE (i : Nat) : Fld := ⟨R.TRL_P_STAT i, 2, 0⟩
def TRL_P_STAT_LOCKED (i : Nat) : Fld := ⟨R.TRL_P_STAT i, 6, 3⟩
def TRL_P_STAT_PEER_VALID (i : Nat) : Fld := ⟨R.TRL_P_STAT i, 7, 7⟩
def TRL_P_STAT_PEER_NODE (i : Nat) : Fld := ⟨R.TRL_P_STAT i, 9, 8⟩
def TRL_P_STAT_CAUSE (i : Nat) : Fld := ⟨R.TRL_P_STAT i, 15, 12⟩
def TRL_P_EVENTS_UP (i : Nat) : Fld := ⟨R.TRL_P_EVENTS i, 0, 0⟩
def TRL_P_EVENTS_DOWN (i : Nat) : Fld := ⟨R.TRL_P_EVENTS i, 1, 1⟩
def TRL_P_EVENTS_RETRAINED (i : Nat) : Fld := ⟨R.TRL_P_EVENTS i, 2, 2⟩
def TRL_P_EVENTS_RESYNC (i : Nat) : Fld := ⟨R.TRL_P_EVENTS i, 3, 3⟩
def TRL_P_CRC_ERR_COUNT (i : Nat) : Fld := ⟨R.TRL_P_CRC_ERR i, 15, 0⟩
def TRL_P_REPLAYS_COUNT (i : Nat) : Fld := ⟨R.TRL_P_REPLAYS i, 15, 0⟩
def TRL_P_RETRAINS_COUNT (i : Nat) : Fld := ⟨R.TRL_P_RETRAINS i, 15, 0⟩
def TRL_P_TX_FLITS_COUNT (i : Nat) : Fld := ⟨R.TRL_P_TX_FLITS i, 31, 0⟩
def TRL_P_CREDIT_VC0 (i : Nat) : Fld := ⟨R.TRL_P_CREDIT i, 5, 0⟩
def TRL_P_CREDIT_VC1 (i : Nat) : Fld := ⟨R.TRL_P_CREDIT i, 17, 6⟩
def TRL_P_CREDIT_VC2 (i : Nat) : Fld := ⟨R.TRL_P_CREDIT i, 28, 18⟩
def TRL_P_CRED_GEN_GEN (i : Nat) : Fld := ⟨R.TRL_P_CRED_GEN i, 15, 0⟩
def TRL_FWD_MATCH_UDP_PORT (i : Nat) : Fld := ⟨R.TRL_FWD_MATCH i, 15, 0⟩
def TRL_FWD_MATCH_ETH_PORT (i : Nat) : Fld := ⟨R.TRL_FWD_MATCH i, 16, 16⟩
def TRL_FWD_SRC_IP_IP (i : Nat) : Fld := ⟨R.TRL_FWD_SRC_IP i, 31, 0⟩
def TRL_FWD_CTRL_EN (i : Nat) : Fld := ⟨R.TRL_FWD_CTRL i, 0, 0⟩
def TRL_FWD_CTRL_COPY (i : Nat) : Fld := ⟨R.TRL_FWD_CTRL i, 1, 1⟩
def TRL_FWD_CTRL_DST_NODE (i : Nat) : Fld := ⟨R.TRL_FWD_CTRL i, 3, 2⟩
def TRL_FWD_CTRL_PLOT (i : Nat) : Fld := ⟨R.TRL_FWD_CTRL i, 7, 4⟩
def TRL_CFWD_EN (i : Nat) : Fld := ⟨R.TRL_CFWD i, 0, 0⟩
def TRL_CFWD_DST_NODE (i : Nat) : Fld := ⟨R.TRL_CFWD i, 2, 1⟩
def TRL_S_JOB_JOB (i : Nat) : Fld := ⟨R.TRL_S_JOB i, 31, 0⟩
def TRL_S_FCTR_LO_FCTR (i : Nat) : Fld := ⟨R.TRL_S_FCTR_LO i, 31, 0⟩
def TRL_S_FCTR_HI_FCTR (i : Nat) : Fld := ⟨R.TRL_S_FCTR_HI i, 15, 0⟩
def MTR_CTRL_EN : Fld := ⟨R.MTR_CTRL, 0, 0⟩
def MTR_STATUS_CAL_VALID : Fld := ⟨R.MTR_STATUS, 0, 0⟩
def MTR_STATUS_FOREIGN : Fld := ⟨R.MTR_STATUS, 1, 1⟩
def MTR_STATUS_V1_LOST : Fld := ⟨R.MTR_STATUS, 2, 2⟩
def MTR_STATUS_HOLD_A : Fld := ⟨R.MTR_STATUS, 3, 3⟩
def MTR_STATUS_HOLD_B : Fld := ⟨R.MTR_STATUS, 4, 4⟩
def MTR_STATUS_E_RESTORED : Fld := ⟨R.MTR_STATUS, 5, 5⟩
def MTR_STATUS_CAL_CODE : Fld := ⟨R.MTR_STATUS, 15, 8⟩
def MTR_EVENTS_EVT : Fld := ⟨R.MTR_EVENTS, 5, 0⟩
def MTR_SITE0_WIRING : Fld := ⟨R.MTR_SITE0, 0, 0⟩
def MTR_SITE0_NOMINAL_HZ : Fld := ⟨R.MTR_SITE0, 15, 8⟩
def MTR_SITE0_UDIN : Fld := ⟨R.MTR_SITE0, 31, 16⟩
def MTR_SITE1_DIP_THR : Fld := ⟨R.MTR_SITE1, 15, 0⟩
def MTR_SITE1_SWELL_THR : Fld := ⟨R.MTR_SITE1, 31, 16⟩
def MTR_SITE2_INT_THR : Fld := ⟨R.MTR_SITE2, 15, 0⟩
def MTR_SITE2_HYST : Fld := ⟨R.MTR_SITE2, 31, 16⟩
def MTR_SITE3_HOLD_MIN_MS : Fld := ⟨R.MTR_SITE3, 15, 0⟩
def MTR_SITE3_METER_DIV : Fld := ⟨R.MTR_SITE3, 23, 16⟩
def MTR_ISO_DELAY_NS : Fld := ⟨R.MTR_ISO_DELAY, 31, 0⟩
def MTR_FREQ_INTERVAL : Fld := ⟨R.MTR_FREQ, 15, 0⟩
def MTR_FREQ_TEN_S : Fld := ⟨R.MTR_FREQ, 31, 16⟩
def MTR_P_VALUE : Fld := ⟨R.MTR_P, 31, 0⟩
def MTR_Q_VALUE : Fld := ⟨R.MTR_Q, 31, 0⟩
def MTR_S_VALUE : Fld := ⟨R.MTR_S, 31, 0⟩
def MTR_INTERVALS_COUNT : Fld := ⟨R.MTR_INTERVALS, 31, 0⟩
def MTR_GAP_INTERVALS_COUNT : Fld := ⟨R.MTR_GAP_INTERVALS, 31, 0⟩
def MTR_QUEUE_LOST_COUNT : Fld := ⟨R.MTR_QUEUE_LOST, 15, 0⟩
def MTR_HOLD_CHANGES_COUNT : Fld := ⟨R.MTR_HOLD_CHANGES, 31, 0⟩
def MTR_E_LO_MWH (i : Nat) : Fld := ⟨R.MTR_E_LO i, 31, 0⟩
def MTR_E_HI_MWH (i : Nat) : Fld := ⟨R.MTR_E_HI i, 31, 0⟩
def MTR_CH_GAIN_GAIN (i : Nat) : Fld := ⟨R.MTR_CH_GAIN i, 31, 0⟩
def MTR_CH_OFFSET_OFFSET (i : Nat) : Fld := ⟨R.MTR_CH_OFFSET i, 31, 0⟩
def MTR_CH_PHASE_NS (i : Nat) : Fld := ⟨R.MTR_CH_PHASE i, 31, 0⟩
def MTR_CH_RMS_RMS (i : Nat) : Fld := ⟨R.MTR_CH_RMS i, 15, 0⟩
def MTR_CH_RMS_CLIPPED (i : Nat) : Fld := ⟨R.MTR_CH_RMS i, 16, 16⟩
def MTR_RULE_RULE (i : Nat) : Fld := ⟨R.MTR_RULE i, 15, 0⟩
def MTR_RULE_VALID (i : Nat) : Fld := ⟨R.MTR_RULE i, 16, 16⟩
def MTR_RULE_TRUE (i : Nat) : Fld := ⟨R.MTR_RULE i, 17, 17⟩
def MTR_RULE_FIRED_COUNT (i : Nat) : Fld := ⟨R.MTR_RULE_FIRED i, 15, 0⟩
def PLT_STATE_STATE (i : Nat) : Fld := ⟨R.PLT_STATE i, 2, 0⟩
def PLT_STATE_KEY_FAIL (i : Nat) : Fld := ⟨R.PLT_STATE i, 3, 3⟩
def PLT_CTRL_FALLOW (i : Nat) : Fld := ⟨R.PLT_CTRL i, 0, 0⟩
def PLT_FALLOWS_COUNT (i : Nat) : Fld := ⟨R.PLT_FALLOWS i, 15, 0⟩
def PLT_FALLOW_CAUSE_CAUSE (i : Nat) : Fld := ⟨R.PLT_FALLOW_CAUSE i, 1, 0⟩
def PLT_TEMP_DEG_C (i : Nat) : Fld := ⟨R.PLT_TEMP i, 7, 0⟩
def PLT_PUB_TICK_TICK (i : Nat) : Fld := ⟨R.PLT_PUB_TICK i, 31, 0⟩
def PLT_DRAIN_FAULTS_COUNT (i : Nat) : Fld := ⟨R.PLT_DRAIN_FAULTS i, 15, 0⟩
def PLT_CTR_BED_T (i : Nat) : Fld := ⟨R.PLT_CTR_BED i, 31, 0⟩
def PLT_CTR_DRAM_T (i : Nat) : Fld := ⟨R.PLT_CTR_DRAM i, 31, 0⟩
def PLT_CTR_DECODE_T (i : Nat) : Fld := ⟨R.PLT_CTR_DECODE i, 31, 0⟩
def PLT_CTR_PRUNER_T (i : Nat) : Fld := ⟨R.PLT_CTR_PRUNER i, 31, 0⟩
def PLT_CTR_BARROW_T (i : Nat) : Fld := ⟨R.PLT_CTR_BARROW i, 31, 0⟩
def PLT_CTR_APC_T (i : Nat) : Fld := ⟨R.PLT_CTR_APC i, 31, 0⟩
def PLT_CTR_NVME_T (i : Nat) : Fld := ⟨R.PLT_CTR_NVME i, 31, 0⟩
def PLT_CTR_TRL_T (i : Nat) : Fld := ⟨R.PLT_CTR_TRL i, 31, 0⟩
def PLT_TAGS_OUT_COUNT (i : Nat) : Fld := ⟨R.PLT_TAGS_OUT i, 15, 0⟩
def PLT_FENCED_PLOT : Fld := ⟨R.PLT_FENCED, 8, 0⟩
def STK_TAKE_TAKE (i : Nat) : Fld := ⟨R.STK_TAKE i, 0, 0⟩
def STK_OWNER_CTX (i : Nat) : Fld := ⟨R.STK_OWNER i, 31, 0⟩
def STK_STAT_BLIGHTED (i : Nat) : Fld := ⟨R.STK_STAT i, 0, 0⟩
def STK_STAT_CONTEND (i : Nat) : Fld := ⟨R.STK_STAT i, 31, 16⟩
def STK_REL_REL (i : Nat) : Fld := ⟨R.STK_REL i, 0, 0⟩
def STK_LDG_BOUND_US (i : Nat) : Fld := ⟨R.STK_LDG_BOUND i, 31, 0⟩
def STK_LDG_STAT_RESULT (i : Nat) : Fld := ⟨R.STK_LDG_STAT i, 1, 0⟩
def STK_LDG_STAT_REASON (i : Nat) : Fld := ⟨R.STK_LDG_STAT i, 5, 2⟩
def STK_LDG_OVER_COUNT (i : Nat) : Fld := ⟨R.STK_LDG_OVER i, 15, 0⟩
def STK_LDG_WORST_US (i : Nat) : Fld := ⟨R.STK_LDG_WORST i, 31, 0⟩
def STK_JOB_NEXT_JOB (i : Nat) : Fld := ⟨R.STK_JOB_NEXT i, 31, 0⟩
def STK_JOB_FAULTS_COUNT (i : Nat) : Fld := ⟨R.STK_JOB_FAULTS i, 15, 0⟩
def STK_JOB_LAST_FAULT_CAUSE (i : Nat) : Fld := ⟨R.STK_JOB_LAST_FAULT i, 3, 0⟩
def STK_JOB_SKIPS_COUNT (i : Nat) : Fld := ⟨R.STK_JOB_SKIPS i, 15, 0⟩
def STK_JOB_PREEMPT_COUNT (i : Nat) : Fld := ⟨R.STK_JOB_PREEMPT i, 31, 0⟩
def STK_JOB_REISSUED_COUNT (i : Nat) : Fld := ⟨R.STK_JOB_REISSUED i, 15, 0⟩
def KEY_FUSES_DEV_ROOT : Fld := ⟨R.KEY_FUSES, 0, 0⟩
def KEY_FUSES_FLEET : Fld := ⟨R.KEY_FUSES, 1, 1⟩
def KEY_FUSES_IMG_PK : Fld := ⟨R.KEY_FUSES, 2, 2⟩
def KEY_FUSES_FW_PK : Fld := ⟨R.KEY_FUSES, 3, 3⟩
def KEY_ORDER_ORDER : Fld := ⟨R.KEY_ORDER, 31, 0⟩
def KEY_IMG_FP0_FP : Fld := ⟨R.KEY_IMG_FP0, 31, 0⟩
def KEY_IMG_FP1_FP : Fld := ⟨R.KEY_IMG_FP1, 31, 0⟩
def KEY_FW_FP0_FP : Fld := ⟨R.KEY_FW_FP0, 31, 0⟩
def KEY_FW_FP1_FP : Fld := ⟨R.KEY_FW_FP1, 31, 0⟩
def KEY_MEM_LOADED_PLOT : Fld := ⟨R.KEY_MEM_LOADED, 8, 0⟩
def KEY_MEM_GEN_GEN (i : Nat) : Fld := ⟨R.KEY_MEM_GEN i, 15, 0⟩
def KEY_LINK_USED_COUNT : Fld := ⟨R.KEY_LINK_USED, 8, 0⟩
def KEY_ERR_RNG_FAIL : Fld := ⟨R.KEY_ERR, 0, 0⟩
def PEP_ID_VENDOR : Fld := ⟨R.PEP_ID, 15, 0⟩
def PEP_ID_DEVICE : Fld := ⟨R.PEP_ID, 31, 16⟩
def PEP_LINK_UP : Fld := ⟨R.PEP_LINK, 0, 0⟩
def PEP_LINK_SPEED : Fld := ⟨R.PEP_LINK, 3, 1⟩
def PEP_LINK_WIDTH : Fld := ⟨R.PEP_LINK, 7, 4⟩
def PEP_LINK_MSI : Fld := ⟨R.PEP_LINK, 12, 8⟩
def PEP_ERR_SHAPE_COUNT : Fld := ⟨R.PEP_ERR_SHAPE, 15, 0⟩
def PEP_ERR_RSVD_COUNT : Fld := ⟨R.PEP_ERR_RSVD, 15, 0⟩
def PRP_LINK_UP : Fld := ⟨R.PRP_LINK, 0, 0⟩
def PRP_LINK_SPEED : Fld := ⟨R.PRP_LINK, 3, 1⟩
def PRP_LINK_WIDTH : Fld := ⟨R.PRP_LINK, 7, 4⟩
def PRP_NVME_READY : Fld := ⟨R.PRP_NVME, 0, 0⟩
def PRP_NVME_FATAL : Fld := ⟨R.PRP_NVME, 1, 1⟩
def PRP_NVME_LBA4K : Fld := ⟨R.PRP_NVME, 2, 2⟩
def PRP_CMDS_COUNT : Fld := ⟨R.PRP_CMDS, 31, 0⟩
def PRP_TIMEOUTS_COUNT : Fld := ⟨R.PRP_TIMEOUTS, 15, 0⟩
def ETH_CFG_MODE (i : Nat) : Fld := ⟨R.ETH_CFG i, 1, 0⟩
def ETH_CFG_AN_EN (i : Nat) : Fld := ⟨R.ETH_CFG i, 2, 2⟩
def ETH_STAT_LINK (i : Nat) : Fld := ⟨R.ETH_STAT i, 0, 0⟩
def ETH_STAT_BLOCK_LOCK (i : Nat) : Fld := ⟨R.ETH_STAT i, 1, 1⟩
def ETH_STAT_AN_DONE (i : Nat) : Fld := ⟨R.ETH_STAT i, 2, 2⟩
def ETH_STAT_LINK_CHG (i : Nat) : Fld := ⟨R.ETH_STAT i, 3, 3⟩
def ETH_MAC_LO_MAC (i : Nat) : Fld := ⟨R.ETH_MAC_LO i, 31, 0⟩
def ETH_MAC_HI_MAC (i : Nat) : Fld := ⟨R.ETH_MAC_HI i, 15, 0⟩
def ETH_VLAN_VID (i : Nat) : Fld := ⟨R.ETH_VLAN i, 11, 0⟩
def ETH_VLAN_TAGGED (i : Nat) : Fld := ⟨R.ETH_VLAN i, 12, 12⟩
def ETH_RX_FRAMES_COUNT (i : Nat) : Fld := ⟨R.ETH_RX_FRAMES i, 31, 0⟩
def ETH_RX_ERR_COUNT (i : Nat) : Fld := ⟨R.ETH_RX_ERR i, 15, 0⟩
def ETH_RX_DROP_COUNT (i : Nat) : Fld := ⟨R.ETH_RX_DROP i, 15, 0⟩
def ETH_TX_TS_LO_TS (i : Nat) : Fld := ⟨R.ETH_TX_TS_LO i, 31, 0⟩
def ETH_TX_TS_HI_TS (i : Nat) : Fld := ⟨R.ETH_TX_TS_HI i, 31, 0⟩
def ETH_TX_TS_ID_SEQ_ID (i : Nat) : Fld := ⟨R.ETH_TX_TS_ID i, 15, 0⟩
def ETH_TX_TS_ID_VALID (i : Nat) : Fld := ⟨R.ETH_TX_TS_ID i, 31, 31⟩
def PWR_STATE_STATE : Fld := ⟨R.PWR_STATE, 2, 0⟩
def PWR_CTRL_REQ : Fld := ⟨R.PWR_CTRL, 1, 0⟩
def PWR_WAKE_EN_WAKE_N : Fld := ⟨R.PWR_WAKE_EN, 0, 0⟩
def PWR_WAKE_EN_ALARM : Fld := ⟨R.PWR_WAKE_EN, 1, 1⟩
def PWR_WAKE_EN_GPIO : Fld := ⟨R.PWR_WAKE_EN, 9, 2⟩
def PWR_WAKE_EN_METER : Fld := ⟨R.PWR_WAKE_EN, 10, 10⟩
def PWR_WAKE_CAUSE_CAUSE : Fld := ⟨R.PWR_WAKE_CAUSE, 10, 0⟩
def PWR_ALARM_LO_TS : Fld := ⟨R.PWR_ALARM_LO, 31, 0⟩
def PWR_ALARM_HI_TS : Fld := ⟨R.PWR_ALARM_HI, 31, 0⟩
def PWR_POWER_P : Fld := ⟨R.PWR_POWER, 15, 0⟩
def PWR_RESET_CAUSE_LAST : Fld := ⟨R.PWR_RESET_CAUSE, 1, 0⟩
def PWR_DORM_BEDS_LO_BEDS : Fld := ⟨R.PWR_DORM_BEDS_LO, 31, 0⟩
def PWR_DORM_BEDS_HI_BEDS : Fld := ⟨R.PWR_DORM_BEDS_HI, 31, 0⟩
def PWR_CORES_STOPPED_CORES : Fld := ⟨R.PWR_CORES_STOPPED, 7, 0⟩
def PWR_FROST_COUNT_COUNT : Fld := ⟨R.PWR_FROST_COUNT, 31, 0⟩
def FLT_STATUS_FAULT : Fld := ⟨R.FLT_STATUS, 5, 0⟩
def FLT_STATUS_TEMP_HI : Fld := ⟨R.FLT_STATUS, 6, 6⟩
def FLT_STATUS_FAULT_N : Fld := ⟨R.FLT_STATUS, 7, 7⟩
def FLT_EVENTS_EVT : Fld := ⟨R.FLT_EVENTS, 7, 0⟩
def FLT_IRQ_EN_EN : Fld := ⟨R.FLT_IRQ_EN, 7, 0⟩
def FLT_WDOG_CFG_MS : Fld := ⟨R.FLT_WDOG_CFG, 15, 0⟩
def FLT_WDOG_KICK_KICK : Fld := ⟨R.FLT_WDOG_KICK, 0, 0⟩
def FLT_WDOG_STAT_REMAIN : Fld := ⟨R.FLT_WDOG_STAT, 15, 0⟩
def FLT_WDOG_STAT_LIVE : Fld := ⟨R.FLT_WDOG_STAT, 21, 16⟩
def FLT_WDOG_STAT_STAGE1 : Fld := ⟨R.FLT_WDOG_STAT, 22, 22⟩
def FLT_WDOG_COUNT_COUNT : Fld := ⟨R.FLT_WDOG_COUNT, 15, 0⟩
def FLT_TMO_NVME_COUNT : Fld := ⟨R.FLT_TMO_NVME, 15, 0⟩
def FLT_TMO_LOAD_COUNT : Fld := ⟨R.FLT_TMO_LOAD, 15, 0⟩
def FLT_NVME_RESETS_COUNT : Fld := ⟨R.FLT_NVME_RESETS, 15, 0⟩
def FLT_STALE_NVME_COUNT : Fld := ⟨R.FLT_STALE_NVME, 15, 0⟩
def FLT_PCIE_RECOV_COUNT : Fld := ⟨R.FLT_PCIE_RECOV, 15, 0⟩
def FLT_LATE_UNCULLED_COUNT : Fld := ⟨R.FLT_LATE_UNCULLED, 15, 0⟩
def FLT_ORPHAN_OVF_COUNT : Fld := ⟨R.FLT_ORPHAN_OVF, 15, 0⟩
def FLT_ACC_HEAD_COUNT : Fld := ⟨R.FLT_ACC_HEAD, 31, 0⟩
def FLT_JOB_HEAD_COUNT : Fld := ⟨R.FLT_JOB_HEAD, 31, 0⟩
def FLT_ORPH_HEAD_COUNT : Fld := ⟨R.FLT_ORPH_HEAD, 31, 0⟩
def FLT_ACC_LOG_WORD (i : Nat) : Fld := ⟨R.FLT_ACC_LOG i, 31, 0⟩
def FLT_JOB_LOG_WORD (i : Nat) : Fld := ⟨R.FLT_JOB_LOG i, 31, 0⟩
def FLT_ORPH_LOG_WORD (i : Nat) : Fld := ⟨R.FLT_ORPH_LOG i, 31, 0⟩
def BED_CTRL_RESET (i : Nat) : Fld := ⟨R.BED_CTRL i, 0, 0⟩
def BED_STATUS_BUSY (i : Nat) : Fld := ⟨R.BED_STATUS i, 0, 0⟩
def BED_STATUS_GATED (i : Nat) : Fld := ⟨R.BED_STATUS i, 1, 1⟩
def BED_STATUS_RESETTING (i : Nat) : Fld := ⟨R.BED_STATUS i, 2, 2⟩
def BED_STATUS_PLOT (i : Nat) : Fld := ⟨R.BED_STATUS i, 7, 4⟩
def BED_STATUS_THREADS (i : Nat) : Fld := ⟨R.BED_STATUS i, 14, 8⟩
def BED_STATUS_ENGQ (i : Nat) : Fld := ⟨R.BED_STATUS i, 19, 15⟩
def BED_FAULT_VALID (i : Nat) : Fld := ⟨R.BED_FAULT i, 0, 0⟩
def BED_FAULT_CAUSE (i : Nat) : Fld := ⟨R.BED_FAULT i, 3, 1⟩
def BED_FAULT_THREAD (i : Nat) : Fld := ⟨R.BED_FAULT i, 9, 4⟩
def BED_FAULT_PC_PC (i : Nat) : Fld := ⟨R.BED_FAULT_PC i, 31, 0⟩
def BED_FAULT_ADDR_ADDR (i : Nat) : Fld := ⟨R.BED_FAULT_ADDR i, 31, 0⟩
def BED_ENG_UTIL_CYCLES (i : Nat) : Fld := ⟨R.BED_ENG_UTIL i, 31, 0⟩
def BED_BANK_WAIT_CYCLES (i : Nat) : Fld := ⟨R.BED_BANK_WAIT i, 31, 0⟩
def BED_OWN_LO_BANKS (i : Nat) (j : Nat) : Fld := ⟨R.BED_OWN_LO i j, 31, 0⟩
def BED_OWN_HI_BANKS (i : Nat) (j : Nat) : Fld := ⟨R.BED_OWN_HI i j, 15, 0⟩
def APC_CTRL_EN : Fld := ⟨R.APC_CTRL, 0, 0⟩
def APC_CORE_STAT_PLOT (i : Nat) : Fld := ⟨R.APC_CORE_STAT i, 3, 0⟩
def APC_CORE_STAT_RUNNER (i : Nat) : Fld := ⟨R.APC_CORE_STAT i, 9, 4⟩
def APC_CORE_STAT_RT (i : Nat) : Fld := ⟨R.APC_CORE_STAT i, 10, 10⟩
def APC_CORE_STAT_BUSY (i : Nat) : Fld := ⟨R.APC_CORE_STAT i, 11, 11⟩
def APC_CORE_UTIL_CYCLES (i : Nat) : Fld := ⟨R.APC_CORE_UTIL i, 31, 0⟩
def APC_RUN_STAT_STATE (i : Nat) : Fld := ⟨R.APC_RUN_STAT i, 1, 0⟩
def APC_RUN_STAT_PLOT (i : Nat) : Fld := ⟨R.APC_RUN_STAT i, 5, 2⟩
def APC_RUN_STAT_CORE (i : Nat) : Fld := ⟨R.APC_RUN_STAT i, 8, 6⟩
def APC_RUN_STAT_SUB (i : Nat) : Fld := ⟨R.APC_RUN_STAT i, 11, 9⟩
def APC_RUN_ACT_COUNT (i : Nat) : Fld := ⟨R.APC_RUN_ACT i, 31, 0⟩
def APC_RUN_ENDS_COUNT (i : Nat) : Fld := ⟨R.APC_RUN_ENDS i, 15, 0⟩
def APC_RUN_EXIT_STATUS (i : Nat) : Fld := ⟨R.APC_RUN_EXIT i, 31, 0⟩
def DSP_Q_CTRL_EN (i : Nat) (j : Nat) : Fld := ⟨R.DSP_Q_CTRL i j, 0, 0⟩
def DSP_Q_BASE_LO_BASE (i : Nat) (j : Nat) : Fld := ⟨R.DSP_Q_BASE_LO i j, 31, 0⟩
def DSP_Q_BASE_HI_BASE (i : Nat) (j : Nat) : Fld := ⟨R.DSP_Q_BASE_HI i j, 15, 0⟩
def DSP_Q_SIZE_BYTES (i : Nat) (j : Nat) : Fld := ⟨R.DSP_Q_SIZE i j, 31, 0⟩
def DSP_Q_HEAD_OFF (i : Nat) (j : Nat) : Fld := ⟨R.DSP_Q_HEAD i j, 31, 0⟩
def DSP_Q_TAIL_OFF (i : Nat) (j : Nat) : Fld := ⟨R.DSP_Q_TAIL i j, 31, 0⟩
def DSP_Q_STAT_ERR (i : Nat) (j : Nat) : Fld := ⟨R.DSP_Q_STAT i j, 0, 0⟩
def DSP_Q_DONE_COUNT (i : Nat) (j : Nat) : Fld := ⟨R.DSP_Q_DONE i j, 31, 0⟩
def DSP_P_TILES_COUNT (i : Nat) : Fld := ⟨R.DSP_P_TILES i, 31, 0⟩
def DSP_P_STRIPES_COUNT (i : Nat) : Fld := ⟨R.DSP_P_STRIPES i, 31, 0⟩
def DSP_P_PASSES_COUNT (i : Nat) : Fld := ⟨R.DSP_P_PASSES i, 31, 0⟩
def DSP_P_OPFAULT_COUNT (i : Nat) : Fld := ⟨R.DSP_P_OPFAULT i, 15, 0⟩
def DSP_CTRL_EN : Fld := ⟨R.DSP_CTRL, 0, 0⟩
def DSP_GDN_STAT_BUSY (i : Nat) : Fld := ⟨R.DSP_GDN_STAT i, 0, 0⟩
def DSP_GDN_STAT_PLOT (i : Nat) : Fld := ⟨R.DSP_GDN_STAT i, 4, 1⟩
def DSP_GDN_UTIL_CYCLES (i : Nat) : Fld := ⟨R.DSP_GDN_UTIL i, 31, 0⟩
def DSP_BED_APER_BASE (i : Nat) : Fld := ⟨R.DSP_BED_APER i, 26, 0⟩

end Sys2Proof.Machine.F
end

