-- ==== Sys2Proof/Machine/Part.lean ====
section
/-! DEFINITION. The whole of the Frexia's state but the Sundial's count and the queue of commands: the register file, the
memories, and the state of each unit. Beside it the initial value of each unit. -/

namespace Sys2Proof.Machine

/-- Everything the spec gives the Frexia but the Sundial's count. -/
structure Part where
  /-- The register file, by address in register space (block index x 0x10_0000 + offset); an unlisted register reads its
  Reset value. -/
  regs : FMap Word
  /-- Byte memory: the Seed Bank and the bed stores at their system physical addresses (R21), plot 0's DRAM from 0, and plot
  p's DRAM window from p x 2^48. Unlisted bytes read 0. -/
  mem : List Host.Cell
  /-- NOR flash; unlisted bytes are erased (0xFF). -/
  nor : List Host.Cell
  pins : Pins
  sdl : SdlUnit
  boot : BootUnit
  /-- Plots 0 to 8. -/
  plots : FMap PlotUnit
  hvs : FMap HvsPlot
  nvme : NvmeUnit
  wdog : WdogUnit
  pwr : PwrUnit
  rules : FMap RuleState
  key : KeyUnit
  eth : EthUnit
  itk : FMap ItkCtx
  sets : FMap ItkSet
  vdc : VdcUnit
  prn : PrnUnit
  jobs : JobUnit
  beds : FMap Bed
  apc : ApcUnit
  models : ModelUnit
  brw : FMap Chan
  dmc : DmcUnit
  trl : TrlUnit
  mtr : MtrUnit
  /-- What has left the Frexia, newest first. -/
  out : List Out
  /-- How many free values the run has drawn: the index of the next. -/
  free : Nat
  deriving DecidableEq, Repr

def Pins.init : Pins :=
  { porst := false, resetN := true, gpioIn := 0, gpioDir := 0, gpioOut := 0, pps := false,
    refclk := true, refLost := false, aonRunning := false, thermtrip := false, jtagIr := 1, jtagUndefined := false }

def SdlUnit.init : SdlUnit :=
  { shadows := [], held := [], stepLo := 0, step := 0, caps := [], lastTick := 0, lastSec := 0, lastTen := 0,
    lastHour := 0, baseRate := 0, slew := 0, slewSet := false, slewLeft := 0, slewAt := 0, rLock := 0, tLock := 0,
    lockedSincePor := false, lockedAt := 0, lostAt := 0, withinSince := none, temps := [], boundedSoFar := false,
    ptp := [.initializing, .initializing], curve := [] }

def BootUnit.init : BootUnit :=
  { phase := .porHeld, session := none, timedOut := false, order := none, replantCode := 0, quiesceAt := 0, drained := false,
    leaving := none, windowOpen := false, windowTicks := 0, accepted := false, metrics := [], bootSeq := 0,
    wasPassed := false, lastResort := false, faultSet := 0, failed := false, noImages := false }

def PlotUnit.init (_ : Nat) : PlotUnit :=
  { ordered := 0, fencedAt := none, reloading := false, loadsLeft := 0, totals := [0, 0, 0, 0, 0, 0, 0, 0],
    memKey := [], hbJobs := 0, hbFaults := 0, hbSkips := 0, hbRecords := 0 }

def HvsPlot.init (_ : Nat) : HvsPlot :=
  { hist := [], opened := none, closed := [], staged := [], curHost := 0, curUdp := 0, curCellar := 0, curFwd := 0,
    cellarOut := none, ringSlots := 0, cellarKeys := [], hostReplay := none, udpReplay := none,
    msiAfter := 0, msiOwed := false }

def NvmeUnit.init : NvmeUnit := { gens := [], cmds := [], namespaces := [] }

def WdogUnit.init : WdogUnit :=
  { armed := false, paused := false, stage1 := none, causeFlag := false, failDue := none }

def PwrUnit.init : PwrUnit :=
  { ordered := 0, beds := 0, cores := 0, stepDone := false, latchedWake := 0, frozen := false, nvDone := false, ready := false,
    since := 0 }

def RuleState.init (_ : Nat) : RuleState := { held := none, fired := false, seen := false }

def KeyUnit.init : KeyUnit := { links := [] }

def ItkGroup.init : ItkGroup := { base := 0, size := 0, x0 := 0, y0 := 0, w := 0, h := 0 }

def ItkCtx.init (_ : Nat) : ItkCtx :=
  { active := ItkGroup.init, pending := none, fresh := true, latchedAt := 0, packetAt := 0, tail := 0, ring := (0, 0), dropped := 0,
    frame := none, newest := 0, next := 0, held := [], seen := [], ended := none, au := none, entries := [], committed := [], notices := [],
    noTime := [] }

def ItkSet.init (_ : Nat) : ItkSet := { cands := [], refs := [] }

/-- The part right after power-on reset. -/
def Part.init : Part :=
  { regs := [], mem := [], nor := [], pins := Pins.init, sdl := SdlUnit.init, boot := BootUnit.init, plots := [],
    hvs := [], nvme := NvmeUnit.init, wdog := WdogUnit.init, pwr := PwrUnit.init, rules := [], key := KeyUnit.init,
    eth := { arp := [], software := [] }, itk := [], sets := [],
    vdc := VdcUnit.init, prn := PrnUnit.init, jobs := JobUnit.init, beds := [], apc := ApcUnit.init,
    models := ModelUnit.init, brw := [], dmc := DmcUnit.init, trl := TrlUnit.init, mtr := MtrUnit.init,
    out := [], free := 0 }

end Sys2Proof.Machine
end

