-- ==== Sys2Proof/Machine/Ops.lean ====
section
/-! DEFINITION. The named operations over registers, memory, NOR and the units' tables that every meaning uses, and nothing
else does them. -/

namespace Sys2Proof.Machine

/-! Registers. -/

/-- The stored value of a register. -/
def Part.reg (p : Part) (a : Nat) : Word := FMap.get regReset p.regs a
/-- Store a register's value. -/
def Part.setReg (p : Part) (a : Nat) (v : Word) : Part := { p with regs := FMap.put regReset p.regs a v }
/-- A field's value. -/
def Part.get (p : Part) (f : Fld) : Nat := (p.reg f.reg).bits f.hi f.lo
/-- Set a field to the low bits of a number. -/
def Part.put (p : Part) (f : Fld) (n : Nat) : Part := p.setReg f.reg ((p.reg f.reg).withBits f.hi f.lo n)
/-- A one-bit field is 1. -/
def Part.on (p : Part) (f : Fld) : Bool := p.get f == 1
/-- Set a field to 1. -/
def Part.set (p : Part) (f : Fld) : Part := p.put f 1
/-- Set a field to 0. -/
def Part.clr (p : Part) (f : Fld) : Part := p.put f 0
/-- Add to a counter that wraps. -/
def Part.add (p : Part) (f : Fld) (n : Nat) : Part := p.put f (p.get f + n)
/-- Add to a counter that saturates. -/
def Part.addSat (p : Part) (f : Fld) (n : Nat) : Part := p.put f (min (p.get f + n) (2 ^ (f.hi + 1 - f.lo) - 1))
/-- Set bit `i` of a field. -/
def Part.setBit (p : Part) (f : Fld) (i : Nat) : Part := p.put f (p.get f ||| 2 ^ i)
/-- Clear bit `i` of a field. -/
def Part.clrBit (p : Part) (f : Fld) (i : Nat) : Part := p.put f (if (p.get f).testBit i then p.get f - 2 ^ i else p.get f)
/-- Return every register whose address `sel` picks to its Reset value (R8). -/
def Part.resetRegs (p : Part) (sel : Nat → Bool) : Part := { p with regs := FMap.only (fun a => !sel a) p.regs }
/-- A 64-bit value held in two registers. -/
def Part.get64 (p : Part) (lo hi : Fld) : Nat := p.get lo + 2 ^ 32 * p.get hi
/-- Store a 64-bit value in two registers. -/
def Part.put64 (p : Part) (lo hi : Fld) (n : Nat) : Part := (p.put lo n).put hi (n / 2 ^ 32)

/-! Byte memories. -/

/-- What an unlisted byte of memory reads as: 0 (DESIGN CHOICE, assumption 5). -/
def memDefault (_ : Nat) : Byte := 0
/-- What an unlisted byte of NOR reads as: erased. -/
def norDefault (_ : Nat) : Byte := 0xFF
/-- The canonical form of a byte memory. -/
def Memory.wf (m : List Host.Cell) : Bool := FMap.wf memDefault m
/-- One byte of memory. -/
def Part.byte (p : Part) (a : Nat) : Byte := FMap.get memDefault p.mem a
/-- Store one byte. -/
def Part.setByte (p : Part) (a : Nat) (b : Byte) : Part := { p with mem := FMap.put memDefault p.mem a b }
/-- `n` bytes from address `a`. -/
def Part.load (p : Part) (a n : Nat) : List Byte := (List.range n).map (fun i => p.byte (a + i))
/-- A list of bytes stored from address `a`, by the bytes' places. -/
def storeBytes (m : List Host.Cell) : Nat → List Byte → List Host.Cell
  | _, [] => m
  | a, b :: r => storeBytes (FMap.put memDefault m a b) (a + 1) r
/-- Store bytes from address `a`. -/
def Part.store (p : Part) (a : Nat) (l : List Byte) : Part := { p with mem := storeBytes p.mem a l }
/-- Write zero over addresses `a` to `a + n - 1`. -/
def Part.zero (p : Part) (a n : Nat) : Part :=
  { p with mem := FMap.only (fun k => !(decide (a ≤ k) && decide (k < a + n))) p.mem }
/-- A little-endian word of `n` bytes at `a` (R4). -/
def Part.loadLe (p : Part) (a n : Nat) : Nat := leNat (p.load a n)

/-- One byte of NOR. -/
def Part.norByte (p : Part) (a : Nat) : Byte := FMap.get norDefault p.nor a
/-- Program one byte: programming clears bits and sets none. -/
def norProgram (m : List Host.Cell) : Nat → List Byte → List Host.Cell
  | _, [] => m
  | a, b :: r => norProgram (FMap.put norDefault m a (FMap.get norDefault m a &&& b)) (a + 1) r
/-- Program bytes of NOR. -/
def Part.program (p : Part) (a : Nat) (l : List Byte) : Part := { p with nor := norProgram p.nor a l }
/-- Erase NOR bytes. -/
def Part.eraseNor (p : Part) (a n : Nat) : Part :=
  { p with nor := FMap.only (fun k => !(decide (a ≤ k) && decide (k < a + n))) p.nor }
/-- A reader of NOR from a base. -/
def Part.norRd (p : Part) (base : Nat) : Rd := fun o => (p.norByte (base + o)).toNat

/-- Base of the Seed Bank (R21). -/
def seedBase : Nat := 0x1010000000
/-- The running image: the Seed Bank copy (R113). -/
def Part.img (p : Part) : Rd := fun o => (p.byte (seedBase + o)).toNat
/-- Base of bed `b`'s store (R21). -/
def bedBase (b : Nat) : Nat := 0x1000000000 + b * 0x200000
/-- Base of plot `p`'s DRAM window among the memory's keys; plot 0's memory starts at 0 (assumption 6). -/
def winBase (p : Nat) : Nat := p * 2 ^ 48

/-! The units' tables. -/

def Part.plot (p : Part) (k : Nat) : PlotUnit := FMap.get PlotUnit.init p.plots k
def Part.setPlot (p : Part) (k : Nat) (u : PlotUnit) : Part := { p with plots := FMap.put PlotUnit.init p.plots k u }
def Part.modPlot (p : Part) (k : Nat) (f : PlotUnit → PlotUnit) : Part := p.setPlot k (f (p.plot k))
def Part.hv (p : Part) (k : Nat) : HvsPlot := FMap.get HvsPlot.init p.hvs k
def Part.setHv (p : Part) (k : Nat) (u : HvsPlot) : Part := { p with hvs := FMap.put HvsPlot.init p.hvs k u }
def Part.modHv (p : Part) (k : Nat) (f : HvsPlot → HvsPlot) : Part := p.setHv k (f (p.hv k))
def Part.rule (p : Part) (k : Nat) : RuleState := FMap.get RuleState.init p.rules k
def Part.setRule (p : Part) (k : Nat) (u : RuleState) : Part := { p with rules := FMap.put RuleState.init p.rules k u }
def Part.modSdl (p : Part) (f : SdlUnit → SdlUnit) : Part := { p with sdl := f p.sdl }
def Part.modBoot (p : Part) (f : BootUnit → BootUnit) : Part := { p with boot := f p.boot }
def Part.modPins (p : Part) (f : Pins → Pins) : Part := { p with pins := f p.pins }
def Part.modPwr (p : Part) (f : PwrUnit → PwrUnit) : Part := { p with pwr := f p.pwr }
def Part.modWdog (p : Part) (f : WdogUnit → WdogUnit) : Part := { p with wdog := f p.wdog }

def Part.ctx (p : Part) (k : Nat) : ItkCtx := FMap.get ItkCtx.init p.itk k
def Part.setCtx (p : Part) (k : Nat) (u : ItkCtx) : Part := { p with itk := FMap.put ItkCtx.init p.itk k u }
def Part.modCtx (p : Part) (k : Nat) (f : ItkCtx → ItkCtx) : Part := p.setCtx k (f (p.ctx k))
def Part.aset (p : Part) (k : Nat) : ItkSet := FMap.get ItkSet.init p.sets k
def Part.setAset (p : Part) (k : Nat) (u : ItkSet) : Part := { p with sets := FMap.put ItkSet.init p.sets k u }

def Part.dec (p : Part) (s : Nat) : DecStream := FMap.get DecStream.init p.vdc.streams s
def Part.setDec (p : Part) (s : Nat) (u : DecStream) : Part :=
  { p with vdc := { p.vdc with streams := FMap.put DecStream.init p.vdc.streams s u } }
def Part.modDec (p : Part) (s : Nat) (f : DecStream → DecStream) : Part := p.setDec s (f (p.dec s))
def Part.prnPipe (p : Part) (k : Nat) : PrnPipe := FMap.get PrnPipe.init p.prn.pipes k
def Part.setPrnPipe (p : Part) (k : Nat) (u : PrnPipe) : Part :=
  { p with prn := { p.prn with pipes := FMap.put PrnPipe.init p.prn.pipes k u } }
def Part.modPrnPipe (p : Part) (k : Nat) (f : PrnPipe → PrnPipe) : Part := p.setPrnPipe k (f (p.prnPipe k))
def Part.grp (p : Part) (g : Nat) : PrnGrp := FMap.get PrnGrp.init p.prn.groups g
def Part.setGrp (p : Part) (g : Nat) (u : PrnGrp) : Part :=
  { p with prn := { p.prn with groups := FMap.put PrnGrp.init p.prn.groups g u } }
def Part.modGrp (p : Part) (g : Nat) (f : PrnGrp → PrnGrp) : Part := p.setGrp g (f (p.grp g))
def Part.engine (p : Part) (e : Nat) : Option Cmd := FMap.get (fun _ => none) p.prn.engines e
def Part.setEngine (p : Part) (e : Nat) (c : Option Cmd) : Part :=
  { p with prn := { p.prn with engines := FMap.put (fun _ => none) p.prn.engines e c } }
def Part.modJobs (p : Part) (f : JobUnit → JobUnit) : Part := { p with jobs := f p.jobs }
/-- The job of a handle. -/
def Part.job? (p : Part) (h : Nat) : Option Job := p.jobs.jobs.find? (fun j => j.handle == h)
/-- Change the job of a handle. -/
def Part.modJob (p : Part) (h : Nat) (f : Job → Job) : Part :=
  p.modJobs (fun u => { u with jobs := u.jobs.map (fun j => if j.handle = h then f j else j) })
/-- The inference of a handle. -/
def Part.infer? (p : Part) (h : Nat) : Option Infer := p.jobs.infers.find? (fun j => j.handle == h)
/-- Change the inference of a handle. -/
def Part.modInfer (p : Part) (h : Nat) (f : Infer → Infer) : Part :=
  p.modJobs (fun u => { u with infers := u.infers.map (fun j => if j.handle = h then f j else j) })
def Part.bed (p : Part) (b : Nat) : Bed := FMap.get Bed.init p.beds b
def Part.setBed (p : Part) (b : Nat) (u : Bed) : Part := { p with beds := FMap.put Bed.init p.beds b u }
def Part.modBed (p : Part) (b : Nat) (f : Bed → Bed) : Part := p.setBed b (f (p.bed b))
def Part.thread (p : Part) (b t : Nat) : Thread := FMap.get Thread.init (p.bed b).threads t
def Part.setThread (p : Part) (b t : Nat) (u : Thread) : Part :=
  p.modBed b (fun d => { d with threads := FMap.put Thread.init d.threads t u })
def Part.modThread (p : Part) (b t : Nat) (f : Thread → Thread) : Part := p.setThread b t (f (p.thread b t))
def Part.core (p : Part) (c : Nat) : Option Act := FMap.get (fun _ => none) p.apc.cores c
def Part.setCore (p : Part) (c : Nat) (a : Option Act) : Part :=
  { p with apc := { p.apc with cores := FMap.put (fun _ => none) p.apc.cores c a } }
def Part.runner (p : Part) (r : Nat) : RunnerSt := FMap.get RunnerSt.init p.apc.runners r
def Part.setRunner (p : Part) (r : Nat) (u : RunnerSt) : Part :=
  { p with apc := { p.apc with runners := FMap.put RunnerSt.init p.apc.runners r u } }
def Part.modRunner (p : Part) (r : Nat) (f : RunnerSt → RunnerSt) : Part := p.setRunner r (f (p.runner r))
def Part.model (p : Part) (m : Nat) : ModelSt := FMap.get ModelSt.init p.models.models m
def Part.setModel (p : Part) (m : Nat) (u : ModelSt) : Part :=
  { p with models := { p.models with models := FMap.put ModelSt.init p.models.models m u } }
def Part.modModel (p : Part) (m : Nat) (f : ModelSt → ModelSt) : Part := p.setModel m (f (p.model m))
def Part.loadq (p : Part) (k : Nat) : LoadQ := FMap.get LoadQ.init p.models.loads k
def Part.setLoadq (p : Part) (k : Nat) (u : LoadQ) : Part :=
  { p with models := { p.models with loads := FMap.put LoadQ.init p.models.loads k u } }
def Part.modLoadq (p : Part) (k : Nat) (f : LoadQ → LoadQ) : Part := p.setLoadq k (f (p.loadq k))
def Part.chan (p : Part) (c : Nat) : Chan := FMap.get Chan.init p.brw c
def Part.setChan (p : Part) (c : Nat) (u : Chan) : Part := { p with brw := FMap.put Chan.init p.brw c u }
def Part.modChan (p : Part) (c : Nat) (f : Chan → Chan) : Part := p.setChan c (f (p.chan c))
def Part.modDmc (p : Part) (f : DmcUnit → DmcUnit) : Part := { p with dmc := f p.dmc }
def Part.tport (p : Part) (k : Nat) : TrlPort := FMap.get TrlPort.init p.trl.ports k
def Part.setTport (p : Part) (k : Nat) (u : TrlPort) : Part :=
  { p with trl := { p.trl with ports := FMap.put TrlPort.init p.trl.ports k u } }
def Part.modTport (p : Part) (k : Nat) (f : TrlPort → TrlPort) : Part := p.setTport k (f (p.tport k))
def Part.modTrl (p : Part) (f : TrlUnit → TrlUnit) : Part := { p with trl := f p.trl }
def Part.modMtr (p : Part) (f : MtrUnit → MtrUnit) : Part := { p with mtr := f p.mtr }
def Part.modApc (p : Part) (f : ApcUnit → ApcUnit) : Part := { p with apc := f p.apc }

/-- Something leaves the Frexia. -/
def Part.emit (p : Part) (o : Out) : Part := { p with out := o :: p.out }
/-- The next free value. -/
def Part.fresh (p : Part) : BitVec 64 × Part := (Config.freeValue p.free, { p with free := p.free + 1 })
/-- The next free value, below `n`. -/
def Part.freshBelow (p : Part) (n : Nat) : Nat × Part := ((Config.freeValue p.free).toNat % n, { p with free := p.free + 1 })
/-- Apply an operation for each of a list of numbers, in order. -/
def Part.each (p : Part) (l : List Nat) (f : Part → Nat → Part) : Part := l.foldl f p
/-- Apply an operation where a condition holds. -/
def Part.iff (p : Part) (c : Bool) (f : Part → Part) : Part := if c then f p else p

/-- The plots of the running image, and plot 0. -/
def Part.plotIds (p : Part) : List Nat := 0 :: (List.range 9).filter (fun k => k != 0 && (p.img.plotRec k).isSome)
/-- Plots of the running image whose PLT_STATE is 2 (RUNNING). -/
def Part.runningPlots (p : Part) : List Nat := (List.range 9).filter (fun k => k != 0 && p.get (F.PLT_STATE_STATE k) == 2)
/-- A plot is fenced (R154). -/
def Part.fenced (p : Part) (k : Nat) : Bool := (p.get F.PLT_FENCED_PLOT).testBit k
/-- The Frexia is past boot step 13 and its units are powered: the data plane runs. -/
def Part.live (p : Part) : Bool := p.boot.phase == .running && !p.pwr.frozen
/-- The Shed management cores run: a boot has started, and the Frexia is not in Frost, or leaves it. -/
def Part.shedUp (p : Part) : Bool :=
  p.boot.phase != .porHeld && p.boot.phase != .resetHeld && (!p.pwr.frozen || p.get F.PWR_STATE_STATE == 5)
/-- A real change of power state, reset or boot is under way: nothing new is admitted. -/
def Part.admits (p : Part) : Bool :=
  p.live && !p.on F.SHD_BOOT_STATE_REPLANT_PENDING && decide (p.get F.PWR_STATE_STATE < 4)

end Sys2Proof.Machine
end

