-- ==== Sys2Proof/Machine/Faults.lean ====
section
/-! DEFINITION. Faults (22_faults): FAULT_N, the FLT events and their MSI, the three logs, the hardening metrics, and the
outcome of an access that a map refuses. -/

namespace Sys2Proof.Machine

/-- Send an MSI: vector `v` goes out as `v` mod the number granted (R497); none without a link or a grant. -/
def Part.msi (p : Part) (v : Nat) : Part :=
  let n := p.get F.PEP_LINK_MSI
  if p.on F.PEP_LINK_UP && n != 0 then p.emit (.msi (v % n)) else p

/-- An FLT event bit is raised; a rise of an enabled bit sends vector 10 (R695). -/
def Part.fltEvent (p : Part) (i : Nat) : Part :=
  if (p.get F.FLT_EVENTS_EVT).testBit i then p
  else
    let q := p.setBit F.FLT_EVENTS_EVT i
    if (q.get F.FLT_IRQ_EN_EN).testBit i then q.msi 10 else q

/-- FAULT_N follows FLT_STATUS bits 5:0 (R618). -/
def Part.faultN (p : Part) : Part := p.put F.FLT_STATUS_FAULT_N (if p.get F.FLT_STATUS_FAULT = 0 then 0 else 1)

/-- Set an FLT_STATUS condition (R618). -/
def Part.setFault (p : Part) (i : Nat) : Part := (p.setBit F.FLT_STATUS_FAULT i).faultN

/-- Set an FLT_STATUS condition that this boot raises, so that this boot does not clear it (R618). -/
def Part.bootFault (p : Part) (i : Nat) : Part :=
  (p.setFault i).modBoot (fun b => { b with faultSet := b.faultSet ||| 2 ^ i })

/-- A boot reaches step 13, or the bare state: the conditions of earlier boots clear (R618). BARE clears at step 13 only. -/
def Part.clearBootFaults (p : Part) (bare : Bool) : Part :=
  (p.put F.FLT_STATUS_FAULT (p.get F.FLT_STATUS_FAULT &&&
    (p.boot.faultSet ||| (if bare then 1 else 0)))).faultN

/-- Count a hardening metric for a plot and for the whole Frexia (R95). -/
def Part.metric (p : Part) (code plot n : Nat) : Part :=
  let one := fun (m : FMap Nat) (k : Nat) => FMap.put (fun _ => 0) m k (FMap.get (fun _ => 0) m k + n)
  p.modBoot (fun b =>
    let m := one b.metrics (code * 16)
    { b with metrics := if plot = 0 then m else one m (code * 16 + plot) })

/-- A fault of a fenced plot is only counted (R165, R636). -/
def Part.drainFault (p : Part) (plot : Nat) : Part := p.addSat (F.PLT_DRAIN_FAULTS_COUNT plot) 1

/-- Write one entry of words into a log from register `base` on. -/
def Part.logWords (p : Part) (reg : Nat → Nat) (base : Nat) : List Nat → Part
  | [] => p
  | w :: r => Part.logWords (p.setReg (reg base) (BitVec.ofNat 32 w)) reg (base + 1) r

/-- An access-log entry (R35, R693): outcome 0 bus error, 1 access fault, 2 power-gated, 3 refused write. -/
def Part.accLog (p : Part) (t : Nat) (w : Who) (write : Bool) (outcome addr : Nat) : Part :=
  if w.plot.val ≠ 0 && p.fenced w.plot then p.drainFault w.plot
  else
    let head := p.get F.FLT_ACC_HEAD_COUNT
    let info := w.plot.val + 16 * w.kind.code + (if write then 256 else 0) + 512 * outcome
    let q := p.logWords R.FLT_ACC_LOG (head % 32 * 8)
      [info, addr, addr / 2 ^ 32 % 2 ^ 16, 0, t, t / 2 ^ 32, 0, 0]
    let q := q.add F.FLT_ACC_HEAD_COUNT 1
    (q.iff (decide (32 ≤ head)) (·.fltEvent 7)).fltEvent 0

/-- A job-fault log entry, with the plot's counts (R406 step 6). -/
def Part.jobLog (p : Part) (t plot cause job cmdSeq : Nat) : Part :=
  if plot ≠ 0 && p.fenced plot then p.drainFault plot
  else
    let head := p.get F.FLT_JOB_HEAD_COUNT
    let q := p.logWords R.FLT_JOB_LOG (head % 32 * 8)
      [plot + 16 * cause, job, 0, 0, cmdSeq, cmdSeq / 2 ^ 32, t, t / 2 ^ 32]
    let q := q.add F.FLT_JOB_HEAD_COUNT 1
    let q := (q.iff (decide (32 ≤ head)) (·.fltEvent 7)).fltEvent 1
    let q := (q.addSat (F.STK_JOB_FAULTS_COUNT plot) 1).put (F.STK_JOB_LAST_FAULT_CAUSE plot) cause
    let q := q.modPlot plot (fun u => { u with hbFaults := u.hbFaults + 1 })
    q.metric 3 plot 1

/-- What an orphan entry names (R619). -/
structure Orphan where
  kind : Nat
  init : Nat
  plot : Nat
  gen : Nat
  addr : Nat
  job : Nat
  cmdSeq : Nat
  deriving DecidableEq, Repr

/-- An orphan log entry (R619, R638); it counts toward metric 5 (R620). -/
def Part.orphanLog (p : Part) (t : Nat) (o : Orphan) : Part :=
  let head := p.get F.FLT_ORPH_HEAD_COUNT
  let q := p.logWords R.FLT_ORPH_LOG (head % 256 * 8)
    [o.kind + 16 * o.init + 256 * o.plot + 65536 * (o.gen % 65536), o.addr, o.addr / 2 ^ 32 % 2 ^ 16, o.job,
     o.cmdSeq, o.cmdSeq / 2 ^ 32, t, t / 2 ^ 32]
  let q := q.add F.FLT_ORPH_HEAD_COUNT 1
  let q := q.iff (decide (256 ≤ head)) (fun r => (r.addSat F.FLT_ORPHAN_OVF_COUNT 1).fltEvent 6)
  (q.fltEvent 2).metric 5 o.plot 1

/-- The outcome of an access outside the initiator's map (R35): logged, and a read answers a bus error (plot 0 firmware) or
an access fault (a plot). -/
def Part.denied (p : Part) (t : Nat) (w : Who) (write : Bool) (addr : Nat) : Part :=
  let q := p.accLog t w write (if w.plot.val = 0 then 0 else 1) addr
  if write then q else q.emit (if w.plot.val = 0 then .busError w else .accessFault w)

/-- The answer of a register read. -/
def Part.answer (p : Part) (w : Who) (v : Word) : Part := p.emit (.readData w v)

end Sys2Proof.Machine
end

