-- ==== Sys2Proof/Machine/Harvest.lean ====
section
/-! DEFINITION. Harvest's shared operations (17_harvest): forming records, closing, sealing and staging crates, the host
ring, UDP, and the records the Frexia itself forms. -/

namespace Sys2Proof.Machine

/-- The context a record takes its job area from (R484). -/
structure JobCtx where
  stream : Nat
  gen : Nat
  job : Nat
  frameSeq : Nat
  pipe : Nat
  set : Nat
  ts : Nat
  /-- FLAGS bits 0 TAINTED, 1 BOLTED, 2 REISSUED, 6 PARTIAL of the job (R485). -/
  flags : Nat
  deriving DecidableEq, Repr

/-- The context of a record formed outside any job (R484). -/
def JobCtx.none (t : Nat) : JobCtx :=
  { stream := 0xFFFF, gen := 0, job := 0, frameSeq := 0, pipe := 0xFF, set := 0xFF, ts := t, flags := 0 }

/-- Bytes 0x00 to 0x1D of a record (R483, R484). -/
def recHead (ty plot seq flags : Nat) (c : JobCtx) : List Byte :=
  toLe 1 ty ++ toLe 1 plot ++ toLe 2 c.stream ++ toLe 4 seq ++ toLe 8 c.ts ++ toLe 2 flags ++
    toLe 2 c.gen ++ toLe 4 c.job ++ toLe 4 c.frameSeq ++ toLe 1 c.pipe ++ toLe 1 c.set

/-- Bytes 0x00 to 0x11 of a record of types 4, 7, 8 and 9 (R484). -/
def recShort (ty plot seq flags ts : Nat) : List Byte :=
  toLe 1 ty ++ toLe 1 plot ++ toLe 2 0xFFFF ++ toLe 4 seq ++ toLe 8 ts ++ toLe 2 flags

/-- A record filled with zeros to 64 bytes. -/
def fill64 (l : List Byte) : List Byte := (l ++ List.replicate 64 0).take 64

/-- A plot withered by the ledger forms no record (R511); nor does anything in the bare state (R111). -/
def Part.canForm (p : Part) (plot : Nat) : Bool :=
  p.boot.phase != .bare && (plot == 0 || p.get (F.PLT_STATE_STATE plot) != 3)

/-- NO_TIME, FLAGS bit 5 (R485). -/
def Part.noTime (p : Part) : Nat := if p.on F.SDL_STATUS_TIME_VALID then 0 else 32

/-- Close a plot's open crate for a cause (R494). -/
def Part.closeCrate (p : Part) (plot cause : Nat) : Part :=
  match (p.hv plot).opened with
  | none => p
  | some o =>
    let first := (p.get (F.HVS_P_SEQ_SEQ plot) + 2 ^ 32 - o.recs.length) % 2 ^ 32
    p.modHv plot (fun u => { u with
      opened := none, closed := u.closed ++ [{ recs := o.recs, close := cause, firstSeq := first, job := p.get (F.HVS_P_SEAL_JOB_JOB plot) }] })

/-- Form a record: it takes the plot's next SEQ and its place in the open crate, which closes at its 63rd (R488, R494). -/
def Part.form (p : Part) (t plot : Nat) (c : JobCtx) (mk : Nat → List Byte) : Part :=
  if p.canForm plot then
    let seq := p.get (F.HVS_P_SEQ_SEQ plot)
    let bytes := fill64 (mk seq)
    let q := p.add (F.HVS_P_SEQ_SEQ plot) 1
    let q := q.modHv plot (fun u =>
      let o := u.opened.getD { recs := [], firstAt := t }
      { u with opened := some { o with recs := o.recs ++ [bytes] },
               hist := { seq := seq, pipe := c.pipe, job := c.job, stream := c.stream, gen := c.gen, set := c.set } :: u.hist })
    let q := q.modPlot plot (fun u => { u with hbRecords := u.hbRecords + 1 })
    match (q.hv plot).opened with
    | some o => if 63 ≤ o.recs.length then q.closeCrate plot 0 else q
    | none => q
  else p

/-- Mark the Shed rules with trigger 4 that an EVENT record of their plot with their code triggers (R92). -/
def Part.noteEvent (p : Part) (plot code : Nat) : Part :=
  let r := p.img
  p.each (List.range r.shedRules.length) (fun q i =>
    let o := r.shedRules.getD i 0
    if r.ruleTrigger o = 4 ∧ r.rulePlot o = plot ∧ r.ruleParam o = code then
      q.setRule i { q.rule i with seen := true } else q)

/-- An EVENT record of the Frexia itself: SOURCE, CODE, RULE and DATA (R486). -/
def Part.event (p : Part) (t plot ts source code rule : Nat) (data : List Byte) : Part :=
  let c := { JobCtx.none ts with stream := 0xFFFF }
  (p.form t plot c (fun seq => recHead 3 plot seq p.noTime c ++ toLe 1 source ++ toLe 1 0 ++ toLe 4 code ++
    toLe 2 rule ++ toLe 2 0 ++ toLe 4 0 ++ data)).noteEvent plot code

/-- A system EVENT of plot 0: SOURCE 4. -/
def Part.systemEvent (p : Part) (t code : Nat) (data : List Byte) : Part := p.event t 0 t 4 code 0xFFFF data

/-- A CONFIG record (R486): KIND, CODE, MODEL, MODEL_VERSION and the four details. -/
def Part.config (p : Part) (t plot kind code model version d0 d1 : Nat) : Part :=
  p.form t plot (JobCtx.none t) (fun seq => recShort 9 plot seq p.noTime t ++ toLe 1 kind ++ toLe 1 code ++
    toLe 2 model ++ toLe 2 0 ++ toLe 4 version ++ toLe 4 (p.get F.SHD_RUN_SEQ_IMAGE_SEQ) ++
    toLe 4 (p.get F.SHD_RUN_CUST_CUST_VERSION) ++ toLe 4 (p.img.epoch plot) ++ toLe 4 p.boot.bootSeq ++
    toLe 4 (p.get (F.HVS_P_SEAL_JOB_JOB plot)) ++ toLe 4 d0 ++ toLe 4 d1)

/-- CONFIG TIME in every RUNNING plot and plot 0: code 0 TIME_VALID rises, 1 a step of `step` ns (kind 8). -/
def Part.configTime (p : Part) (t code step : Nat) : Part :=
  p.each (0 :: p.runningPlots) (fun q k => q.config t k 8 code 0xFFFF 0 (step % 2 ^ 32) (step / 2 ^ 32))

/-- A HEARTBEAT record of a plot at the boundary `ts` (R486). Its counts run since the previous one, which is the first record that
the next one counts (assumption 60). -/
def Part.heartbeat (p : Part) (t ts plot : Nat) : Part :=
  let u := p.plot plot
  let status := (p.reg R.SDL_STATUS).toNat % 256
  let sdl := if plot = 0 then status else status % 8
  let st := if plot = 0 then p.get F.SHD_BOOT_STATE_MODE else p.get (F.PLT_STATE_STATE plot)
  let temp := twos 16 (sext 8 (p.get (F.PLT_TEMP_DEG_C plot)))
  let v := p.modPlot plot (fun v => { v with hbJobs := 0, hbFaults := 0, hbSkips := 0, hbRecords := 0 })
  let q := v.form t plot (JobCtx.none ts) (fun seq => recShort 8 plot seq p.noTime ts ++ toLe 1 sdl ++ toLe 1 st ++
    toLe 2 temp ++ toLe 2 0 ++ toLe 4 (p.get F.SHD_RUN_SEQ_IMAGE_SEQ) ++ toLe 4 u.hbJobs ++ toLe 4 u.hbFaults ++
    toLe 4 u.hbSkips ++ toLe 4 u.hbRecords ++ toLe 4 (p.get (F.HVS_P_HOST_LOST_COUNT plot)) ++
    toLe 4 (p.get (F.HVS_P_UDP_LOST_COUNT plot)) ++ toLe 4 (p.get (F.HVS_P_CELLAR_LOST_COUNT plot)) ++
    toLe 4 p.boot.bootSeq)
  q.metric 7 plot 1

/-- Whether a record is one that a CULL of a picture withdraws (R487). -/
def hitPicture (stream gen : Nat) (pairs : List (Nat × Nat × Nat)) (r : RecKey) : Bool :=
  (r.stream == stream && r.gen == gen) ||
    pairs.any (fun e => r.set == e.1 && r.stream == e.2.1 && r.gen == e.2.2)

/-- FIRST_SEQ, LAST_SEQ and COUNT of a CULL with SEQ `own` over the records it withdraws (R487). -/
def cullRange (own : Nat) (hits : List RecKey) : Nat × Nat × Nat :=
  match hits with
  | [] => (own, own, 0)
  | h :: _ => ((hits.getLastD h).seq, h.seq, hits.length)

/-- A CULL record (R487): cause 1 to 8 names a voided picture, cause 9 a late error's job. -/
def Part.cull (p : Part) (t plot cause : Nat) (c : JobCtx) (pairs : List (Nat × Nat × Nat)) : Part :=
  let hits := (p.hv plot).hist.filter (fun r =>
    if cause = 9 then r.pipe == c.pipe && r.job == c.job else hitPicture c.stream c.gen pairs r)
  p.form t plot (JobCtx.none t) (fun seq =>
    let g := cullRange seq hits
    recHead 5 plot seq (p.noTime) c ++ toLe 1 cause ++ toLe 1 (min pairs.length 4) ++ toLe 4 g.1 ++ toLe 4 g.2.1 ++
      toLe 4 g.2.2 ++ ((pairs.take 4).map (fun e => toLe 1 e.1 ++ toLe 1 e.2.1 ++ toLe 2 e.2.2)).flatten)

/-- A LATE_ERROR record (R620): the orphan entry, its log index and the SEQ of the CULL that follows. -/
def Part.lateError (p : Part) (t : Nat) (o : Orphan) (index cullSeq : Nat) (c : JobCtx) : Part :=
  p.form t o.plot (JobCtx.none t) (fun seq => recHead 6 o.plot seq p.noTime c ++ toLe 1 o.kind ++ toLe 1 o.init ++ toLe 2 o.gen ++
    toLe 2 0 ++ toLe 4 index ++ toLe 8 o.addr ++ toLe 8 o.cmdSeq ++ toLe 4 cullSeq)

/-! Keys. -/

/-- Use the link key of a plot, job and epoch: it becomes the most recently used of at most 256 (R144). -/
def Part.useLink (p : Part) (plot job epoch : Nat) : Part :=
  let k := (plot, job, epoch)
  let l := (k :: p.key.links.filter (· != k)).take 256
  { p with key := { links := l } }.put F.KEY_LINK_USED_COUNT l.length

/-- The info bytes of a link key (R141). -/
def linkInfo (plot job epoch : Nat) : List Byte :=
  Crypto.ascii "frexia link v1" ++ toLe 1 plot ++ toLe 4 job ++ toLe 4 epoch

/-- The link key of a plot, job and epoch (R141). -/
def linkKey (plot job epoch : Nat) : List Byte :=
  Crypto.hkdf (Config.keyBytes Config.fleetKey) (List.replicate 32 0) (linkInfo plot job epoch) 32

/-- The info bytes of a memory key (R139). -/
def memInfo (plot : Nat) : List Byte := Crypto.ascii "frexia mem v1" ++ toLe 1 plot

/-- Derive a plot's memory key afresh, with a random salt of four free values (R139). -/
def Part.deriveMemKey (p : Part) (plot : Nat) : Part :=
  let a := p.fresh
  let b := a.2.fresh
  let c := b.2.fresh
  let d := c.2.fresh
  let salt := toLe 8 a.1.toNat ++ toLe 8 b.1.toNat ++ toLe 8 c.1.toNat ++ toLe 8 d.1.toNat
  let q := d.2.modPlot plot (fun u => { u with
    memKey := Crypto.hkdf (Config.keyBytes Config.deviceRoot) salt (memInfo plot) 64 })
  (q.setBit F.KEY_MEM_LOADED_PLOT plot).add (F.KEY_MEM_GEN_GEN plot) 1

/-- Take the next job ID of a plot (R389, R491). -/
def Part.takeJob (p : Part) (plot : Nat) : Nat × Part :=
  (p.get (F.STK_JOB_NEXT_JOB plot), p.add (F.STK_JOB_NEXT_JOB plot) 1)

/-- Take the plot's next sealing job (R491). -/
def Part.newSealJob (p : Part) (plot : Nat) : Part :=
  (p.takeJob plot).2.put (F.HVS_P_SEAL_JOB_JOB plot) (p.takeJob plot).1

/-! Sealing and staging. -/

/-- Header bytes 0x00 to 0x2F of a crate (R490). -/
def crateHead (plot count close bootSeq job epoch first seq sealTs : Nat) : List Byte :=
  [0x48, 0x56, 0x43, 0x52, 1] ++ toLe 1 plot ++ toLe 1 count ++ toLe 1 close ++ toLe 4 bootSeq ++ toLe 4 job ++
    toLe 4 epoch ++ toLe 4 first ++ toLe 8 seq ++ toLe 8 sealTs ++ toLe 8 Config.deviceId.toNat

/-- The IV of a crate (R492). -/
def crateIv (bootSeq seq : Nat) : List Byte := toLe 4 bootSeq ++ toLe 7 seq ++ [0]

/-- A sealed crate: 4 096 bytes (R490, R492). -/
def sealCrate (plot bootSeq epoch seq sealTs : Nat) (c : ClosedCrate) : List Byte :=
  let head := crateHead plot c.recs.length c.close bootSeq c.job epoch c.firstSeq seq sealTs
  let plain := (c.recs.flatten ++ List.replicate 4032 0).take 4032
  let r := Crypto.gcmSeal (linkKey plot c.job epoch) (crateIv bootSeq seq) head plain
  head ++ r.2 ++ r.1

/-- The next CRATE_SEQ of a plot. -/
def Part.crateSeq (p : Part) (plot : Nat) : Nat := p.get64 (F.HVS_P_CRATE_LO_SEQ plot) (F.HVS_P_CRATE_HI_SEQ plot)

/-- A crate is lost to the host-ring sink (R498, R510). -/
def Part.hostLost (p : Part) (plot n : Nat) : Part := (p.add (F.HVS_P_HOST_LOST_COUNT plot) n).add (F.HR_LOST_COUNT plot) n

/-- Whether a plot has a sink: 0 host ring, 1 UDP, 2 Cellar; plot 0 has host ring 0 and its Cellar ring (R496). -/
def Part.hasSink (p : Part) (plot k : Nat) : Bool := if plot = 0 then k != 1 else (p.img.sinks plot).testBit k

/-- The status line of a ring (R498). -/
def Part.statusLine (p : Part) (ring : Nat) : Part :=
  let base := p.get64 (F.HR_BASE_LO_ADDR ring) (F.HR_BASE_HI_ADDR ring)
  let size := 2 ^ p.get (F.HR_SIZE_LOG2 ring)
  p.emit (.hostWrite (base + size * 4096)
    (toLe 4 (p.get (F.HR_PROD_INDEX ring)) ++ toLe 4 (p.get (F.HR_LOST_COUNT ring)) ++ toLe 4 p.boot.bootSeq ++
      List.replicate 52 0))

/-- PROD has advanced: an MSI now, or one owed when the hold-off expires (R498). -/
def Part.ringMsi (p : Part) (t ring : Nat) : Part :=
  if p.on (F.HR_CTRL_IRQ_EN ring) then
    if (p.hv ring).msiAfter ≤ t then
      (p.msi ring).modHv ring (fun u => { u with msiAfter := t + p.get (F.HR_HOLDOFF_US ring) * 1000, msiOwed := false })
    else p.modHv ring (fun u => { u with msiOwed := true })
  else p

/-- Whether the ring takes crates: READY, EN and a host link (R498, R500). -/
def Part.ringOpen (p : Part) (ring : Nat) : Bool :=
  p.on (F.HR_STAT_READY ring) && p.on (F.HR_CTRL_EN ring) && p.on F.PEP_LINK_UP

/-- Write one crate to a ring, or drop it and count it when the ring is full or closed (R498, R500). -/
def Part.ringWrite (p : Part) (t ring : Nat) (crate : List Byte) : Part :=
  let prod := p.get (F.HR_PROD_INDEX ring)
  let size := 2 ^ p.get (F.HR_SIZE_LOG2 ring)
  let used := (prod + 2 ^ 32 - p.get (F.HR_CONS_INDEX ring)) % 2 ^ 32
  if p.ringOpen ring then
    if used = size then p.hostLost ring 1
    else
      let base := p.get64 (F.HR_BASE_LO_ADDR ring) (F.HR_BASE_HI_ADDR ring)
      (((p.emit (.hostWrite (base + prod % size * 4096) crate)).add (F.HR_PROD_INDEX ring) 1).statusLine ring).ringMsi t ring
  else p.hostLost ring 1

/-! UDP (R502). -/

/-- The Internet checksum of bytes: the one's complement of the one's-complement sum. -/
def inetSum (l : List Byte) : Nat :=
  let rec go : List Byte → Nat
    | [] => 0
    | [a] => a.toNat * 256
    | a :: b :: r => a.toNat * 256 + b.toNat + go r
  let s := go l
  let s := s % 65536 + s / 65536
  let s := s % 65536 + s / 65536
  0xFFFF - s % 65536 - (s / 65536)

/-- An IPv4 UDP datagram with DF, TTL 64 and DSCP 0 (R502); `ident` is the IPv4 identification. -/
def ipUdp (src dst sport dport ident : Nat) (data : List Byte) : List Byte :=
  let ulen := 8 + data.length
  let pseudo := toBe 4 src ++ toBe 4 dst ++ [0, 17] ++ toBe 2 ulen
  let uh := toBe 2 sport ++ toBe 2 dport ++ toBe 2 ulen
  let cs := inetSum (pseudo ++ uh ++ [0, 0] ++ data)
  let udp := uh ++ toBe 2 (if cs = 0 then 0xFFFF else cs) ++ data
  let ih0 := [0x45, 0] ++ toBe 2 (20 + ulen) ++ toBe 2 ident ++ [0x40, 0, 64, 17]
  let ih1 := toBe 4 src ++ toBe 4 dst
  ih0 ++ toBe 2 (inetSum (ih0 ++ ih1)) ++ ih1 ++ udp

/-- The station address of an Ethernet port; the first byte on the wire is in bits 7:0 (ETH_MAC). -/
def Part.mac (p : Part) (port : Nat) : Nat := p.get64 (F.ETH_MAC_LO_MAC port) (F.ETH_MAC_HI_MAC port)

/-- An Ethernet frame of a port: addresses, VLAN tag when the port has one, type and payload. -/
def Part.frame (p : Part) (port dst type : Nat) (data : List Byte) : List Byte :=
  toBe 6 dst ++ toLe 6 (p.mac port) ++
    (if p.on (F.ETH_VLAN_TAGGED port) then [0x81, 0x00] ++ toBe 2 (p.get (F.ETH_VLAN_VID port)) else []) ++
    toBe 2 type ++ data

/-- The next hop towards an address from a port: the address itself on the port's own subnet, else the gateway. -/
def nextHop (r : Rd) (port dst : Nat) : Nat :=
  if (dst &&& r.portMask port) = (r.portIp port &&& r.portMask port) then dst else r.portGateway port

/-- The 16-byte header of part `k` of a crate datagram (R502). -/
def udpPartHead (k plot bootSeq seq : Nat) : List Byte :=
  [1] ++ toLe 1 k ++ toLe 1 plot ++ [0] ++ toLe 4 bootSeq ++ toLe 8 seq

/-- Send a crate as four datagrams, or lose it while the port is off, its link is down or its next hop is unresolved (R502). -/
def Part.udpSend (p : Part) (plot bootSeq seq : Nat) (crate : List Byte) : Part :=
  let r := p.img
  let port := r.udpPort plot
  let lose := fun (q : Part) => q.add (F.HVS_P_UDP_LOST_COUNT plot) 1
  if p.get (F.ETH_CFG_MODE port) = 0 || !p.on (F.ETH_STAT_LINK port) then lose p
  else
    match p.eth.arp.find? (fun e => e.1 == nextHop r port (r.udpDst plot)) with
    | none => (lose p).set (F.HVS_P_STAT_UDP_UNRESOLVED plot)
    | some e =>
      (p.clr (F.HVS_P_STAT_UDP_UNRESOLVED plot)).each [0, 1, 2, 3] (fun q k =>
        let id := q.freshBelow 65536
        id.2.emit (.ethFrame port (id.2.frame port e.2 0x0800 (ipUdp (r.portIp port) (r.udpDst plot) (r.udpSport plot)
          (r.udpDport plot) id.1 (udpPartHead k plot bootSeq seq ++ (crate.drop (k * 1024)).take 1024)))))

/-! Staging (R495). -/

/-- Crates of an outstanding Cellar Write hold their slots. -/
def HvsPlot.holds (u : HvsPlot) (seq : Nat) : Bool :=
  match u.cellarOut with
  | some (first, n, _) => decide (first ≤ seq) && decide (seq < first + n)
  | none => false

/-- A crate is lost to every sink of its plot (R495). -/
def Part.lostToAll (p : Part) (plot : Nat) : Part :=
  ((p.iff (p.hasSink plot 0) (·.hostLost plot 1)).iff (p.hasSink plot 1) (·.add (F.HVS_P_UDP_LOST_COUNT plot) 1)).iff
    (p.hasSink plot 2) (·.add (F.HVS_P_CELLAR_LOST_COUNT plot) 1)

/-- Stage a sealed crate: it overwrites the crate 256 before it, which a sink that has not taken it loses (R495). -/
def Part.stage (p : Part) (t plot seq : Nat) (crate : List Byte) : Part :=
  let u := p.hv plot
  if 256 ≤ seq && u.holds (seq - 256) then p.lostToAll plot
  else
    let old := seq - 256
    let q := if p.hasSink plot 2 && u.ringSlots != 0 && decide (256 ≤ seq) && decide (u.curCellar ≤ old) then
        (p.add (F.HVS_P_CELLAR_LOST_COUNT plot) 1).modHv plot (fun v => { v with curCellar := old + 1 }) else p
    q.modHv plot (fun v => { v with
      staged := (v.staged.filter (fun s => decide (seq < s.seq + 256))) ++ [{ seq := seq, sealedAt := t, bytes := crate }] })

end Sys2Proof.Machine
end

