-- ==== Sys2Proof/Machine/Access.lean ====
section
/-! DEFINITION. Address maps (02_address_map): system physical, plot-virtual and bed-thread addresses, the plot pages, and
the whole-access rule R36. -/

namespace Sys2Proof.Machine

/-- Whether plot `k` (1 to 8) owns bank `j` of bed `b` (R29); the ownership masks stand in BED_OWN_LO and BED_OWN_HI. -/
def Part.ownsBank (p : Part) (k b j : Nat) : Bool :=
  (p.get64 (F.BED_OWN_LO_BANKS b (k - 1)) (F.BED_OWN_HI_BANKS b (k - 1))).testBit j

/-- The bed is power-gated: every access to its banks is refused (R298). -/
def Part.gated (p : Part) (b : Nat) : Bool := p.on (F.BED_STATUS_GATED b)

/-- Bed and bank of an offset into the bed region; none outside every bed store (R21, R23). -/
def bankOf (o : Nat) : Option (Nat × Nat) :=
  if o / 0x200000 < 64 ∧ o % 0x200000 < 0x180000 then some (o / 0x200000, o % 0x200000 / 0x8000) else none

/-- The memory key of a byte of the system physical map; none outside the map's memory (R21 to R24). The Seed Bank is read
only. -/
def Part.physKey (p : Part) (a : Nat) (write : Bool) : Option Nat :=
  if a < p.img.usable then some a
  else if 0x1000000000 ≤ a ∧ a < 0x1008000000 then
    match bankOf (a - 0x1000000000) with
    | some (b, _) => if p.gated b then none else some a
    | none => none
  else if seedBase ≤ a ∧ a < seedBase + 0x1000000 ∧ !write then some a else none

/-- The memory key of a byte at plot-virtual address `a` of plot `k` (R27 to R29); none outside its map. -/
def Part.virtKey (p : Part) (k a : Nat) : Option Nat :=
  if a < p.img.window k then some (winBase k + a)
  else if 0x800000000000 ≤ a then
    match bankOf (a - 0x800000000000) with
    | some (b, j) => if p.ownsBank k b j && !p.gated b then some (0x1000000000 + (a - 0x800000000000)) else none
    | none => none
  else none

/-- The memory key of a byte that an initiator of plot `k` reaches: system physical for plot 0, plot-virtual for a plot (R37). -/
def Part.memKey (p : Part) (k a : Nat) (write : Bool) : Option Nat :=
  if k = 0 then p.physKey a write else p.virtKey k a

/-- The plot-virtual address of a bed thread's address, under the aperture at `aper` (R32); none outside the view. -/
def threadAddr (aper a : Nat) : Option Nat :=
  if a < 0x80000000 then some (aper + a)
  else if a < 0x88000000 then some (0x800000000000 + (a - 0x80000000))
  else if 0x90000000 ≤ a ∧ a < 0x90160000 then some (0x900000000000 + (a - 0x90000000)) else none

/-- The keys of an access of `n` bytes; none where any byte lies outside the map, so that it faults as a whole (R36). -/
def Part.memKeys (p : Part) (k a n : Nat) (write : Bool) : Option (List Nat) :=
  (List.range n).mapM (fun i => p.memKey k (a + i) write)

/-- The keys of an access of a bed thread (R32, R36). -/
def Part.threadKeys (p : Part) (k aper a n : Nat) : Option (List Nat) :=
  (List.range n).mapM (fun i => (threadAddr aper (a + i)).bind (p.virtKey k))

/-- The bytes at a list of keys. -/
def Part.loadKeys (p : Part) (ks : List Nat) : List Byte := ks.map p.byte

/-- Store bytes at a list of keys. -/
def storeKeys : List Host.Cell → List Nat → List Byte → List Host.Cell
  | m, k :: ks, b :: bs => storeKeys (FMap.put memDefault m k b) ks bs
  | m, _, _ => m

/-- Store bytes at a list of keys. -/
def Part.storeAt (p : Part) (ks : List Nat) (l : List Byte) : Part := { p with mem := storeKeys p.mem ks l }

/-! Plot pages. -/

/-- What an offset of a plot page is: a register, a reserved offset, or outside the plot's map (R30). -/
inductive PageHit where
  | reg (a : Nat)
  | reserved
  | outside
  deriving DecidableEq, Repr

/-- A slot of a block's page: its registers where the plot owns it, reserved between them, else outside. -/
def slotHit (owned : Bool) (a : Nat) : PageHit :=
  if !owned then .outside else if (regAt a).isSome then .reg a else .reserved

/-- The page of block `blk` at offset `o`, for plot `k` (R30 and the Registers sections of SDL, BRW, HVS, PLT, STK, DSP). -/
def Part.pageAt (p : Part) (k blk o : Nat) : PageHit :=
  let a := blk * 0x100000 + o
  if blk = 1 then
    if o < 0x0C then slotHit true a
    else if 0x1000 ≤ o ∧ o < 0x1800 then slotHit (p.get (F.SDL_TMR_OWNER_PLOT ((o - 0x1000) / 0x20)) == k) a
    else .reserved
  else if blk = 5 then
    if o < 0x4000 then slotHit (p.get (F.BRW_CH_OWNER_PLOT (o / 0x100)) == k) a
    else if (regAt a).isSome then .outside else .reserved
  else if blk = 7 ∨ blk = 10 then
    if o < 0x900 then slotHit (o / 0x100 == k) a else .reserved
  else if blk = 11 then
    if o < 0x1000 then slotHit (p.img.stakeOwner (o / 0x10) == k) a
    else if 0x4000 ≤ o ∧ o < 0x4400 then
      slotHit ((p.img.pipeRec ((o - 0x4000) / 0x10)).isSome && p.img.pipePlot ((o - 0x4000) / 0x10) == k) a
    else if 0x8000 ≤ o ∧ o < 0x8120 then slotHit ((o - 0x8000) / 0x20 == k) a
    else .reserved
  else if blk = 21 then
    if 0x1000 ≤ o ∧ o < 0x9000 then
      if o % 0x1000 < 0x100 then slotHit (o / 0x1000 == k && decide (o % 0x1000 / 0x20 < p.img.queues k)) a
      else slotHit (o / 0x1000 == k) a
    else .reserved
  else .outside

/-- A plot-virtual register address: the block and offset of its page (R27); none outside the pages' range. -/
def pageAddr (a : Nat) : Option (Nat × Nat) :=
  if 0x900000000000 ≤ a ∧ a < 0x900000000000 + 22 * 0x10000 then
    some ((a - 0x900000000000) / 0x10000, (a - 0x900000000000) % 0x10000)
  else none

/-- The BAR0 offset of a register (R33); a reserved offset for one that BAR0 does not hold. -/
def barOf (a : Nat) : Nat :=
  if 0x10000 ≤ a ∧ a < 0x20000 then a - 0x10000
  else if 0x710000 ≤ a ∧ a < 0x719000 then a - 0x610000
  else if a / 0x100000 = blkFLT then 0x200000 + a % 0x100000
  else if a / 0x100000 = blkSDL then 0x300000 + a % 0x100000
  else 0x3FFFFFC

/-- The address of a register as its initiator issues it (R693): a BAR0 offset, a plot's page, or the system physical register
space. -/
def Who.addrOf (w : Who) (a : Nat) : Nat :=
  if w.kind = .host then barOf a
  else if w.plot.val = 0 then 0x1020000000 + a else 0x900000000000 + a / 0x100000 * 0x10000 + a % 0x100000

/-- A write that the Frexia refuses as a whole under R64 or R433 (R693). -/
def Part.refused (p : Part) (t : Nat) (w : Who) (a : Nat) : Part := p.accLog t w true 3 (w.addrOf a)

end Sys2Proof.Machine
end

