-- ==== Sys2Proof/Machine/Float.lean ====
section
/-! DEFINITION. Binary floating point (R302, R304, R305): decoding a code to an exact value, rounding an exact value to
nearest even, and the arithmetic of FP32 and binary64, each operation rounded once. -/

namespace Sys2Proof.Machine

/-- A floating-point format: exponent bits, mantissa bits, and whether it is FP8-E4M3, which has no infinity. -/
structure FpFmt where
  ebits : Nat
  mbits : Nat
  e4m3 : Bool
  deriving DecidableEq, Repr

def fp8e4m3 : FpFmt := ⟨4, 3, true⟩
def fp8e5m2 : FpFmt := ⟨5, 2, false⟩
def fp16 : FpFmt := ⟨5, 10, false⟩
def bf16 : FpFmt := ⟨8, 7, false⟩
def fp32 : FpFmt := ⟨8, 23, false⟩
/-- binary64, which metering computes in (R547). -/
def fp64 : FpFmt := ⟨11, 52, false⟩

/-- An exact value: NaN, an infinity, or a sign with `m` x 2^`e`. -/
inductive Fp where
  | nan
  | inf (neg : Bool)
  | fin (neg : Bool) (m : Nat) (e : Int)
  deriving DecidableEq, Repr

namespace FpFmt

def bias (f : FpFmt) : Nat := 2 ^ (f.ebits - 1) - 1
/-- Bits of a code. -/
def width (f : FpFmt) : Nat := 1 + f.ebits + f.mbits
/-- The exponent of the least significant bit of a subnormal. -/
def eLow (f : FpFmt) : Int := 1 - (f.bias : Int) - (f.mbits : Int)
/-- The sign bit of a code. -/
def signBit (f : FpFmt) (neg : Bool) : Nat := if neg then 2 ^ (f.ebits + f.mbits) else 0
/-- The canonical NaN (R305). -/
def nan (f : FpFmt) : Nat :=
  if f.e4m3 then 0x7F else if f.ebits = 5 ∧ f.mbits = 2 then 0x7F else (2 ^ f.ebits - 1) * 2 ^ f.mbits + 2 ^ (f.mbits - 1)
/-- The code of the largest finite value, sign aside. -/
def maxCode (f : FpFmt) : Nat :=
  if f.e4m3 then 0x7E else (2 ^ f.ebits - 1) * 2 ^ f.mbits - 1
/-- The code of infinity. -/
def infCode (f : FpFmt) (neg : Bool) : Nat := f.signBit neg + (2 ^ f.ebits - 1) * 2 ^ f.mbits

/-- The exact value of a code (R302, R304). -/
def decode (f : FpFmt) (c : Nat) : Fp :=
  let neg := c / 2 ^ (f.ebits + f.mbits) % 2 == 1
  let ex := c / 2 ^ f.mbits % 2 ^ f.ebits
  let m := c % 2 ^ f.mbits
  if f.e4m3 then
    if ex = 15 ∧ m = 7 then .nan
    else if ex = 0 then .fin neg m f.eLow else .fin neg (m + 2 ^ f.mbits) (f.eLow + ex - 1)
  else if ex = 2 ^ f.ebits - 1 then (if m = 0 then .inf neg else .nan)
  else if ex = 0 then .fin neg m f.eLow else .fin neg (m + 2 ^ f.mbits) (f.eLow + ex - 1)

/-- `m` x 2^`e` as a multiple of 2^`q`, rounded to nearest with ties to even. -/
def quantise (m : Nat) (e q : Int) : Nat :=
  if q ≤ e then m * 2 ^ (e - q).toNat else (rneDiv m (2 ^ (q - e).toNat)).toNat

/-- Round a positive value to the format as if the exponent were unbounded above (R306): the code without its sign, and
whether it lies beyond the largest finite value. -/
def round (f : FpFmt) (m : Nat) (e : Int) : Nat × Bool :=
  if m = 0 then (0, false)
  else
    let top := e + (Nat.log2 m : Int)
    let q := max (top - (f.mbits : Int)) f.eLow
    let r := quantise m e q
    -- a value of r x 2^q whose code grows monotonically: subnormals and normals share one formula
    let code := if r < 2 ^ f.mbits then r else r + (q - f.eLow).toNat * 2 ^ f.mbits
    if f.maxCode < code then (f.maxCode, true) else (code, false)

/-- Round a value to the format as IEEE 754 does: overflow becomes infinity, or NaN where the format has none. -/
def encode (f : FpFmt) : Fp → Nat
  | .nan => f.nan
  | .inf neg => if f.e4m3 then f.nan else f.infCode neg
  | .fin neg m e =>
    let r := f.round m e
    if r.2 then (if f.e4m3 then f.nan else f.infCode neg) else f.signBit neg + r.1

/-- Round a value in the saturating mode of R306: the code, and whether it saturated (R307). -/
def saturate (f : FpFmt) : Fp → Nat × Bool
  | .nan => (f.nan, true)
  | .inf neg => (f.signBit neg + f.maxCode, true)
  | .fin neg m e =>
    let r := f.round m e
    (f.signBit neg + r.1, r.2)

end FpFmt

namespace Fp

def neg : Fp → Fp
  | .nan => .nan
  | .inf s => .inf (!s)
  | .fin s m e => .fin (!s) m e

/-- An integer as an exact value. -/
def ofInt (i : Int) : Fp := .fin (decide (i < 0)) i.natAbs 0

def isNan : Fp → Bool
  | .nan => true
  | _ => false

/-- The exact sum; a zero sum is positive unless both terms are negative zeros. -/
def add : Fp → Fp → Fp
  | .nan, _ => .nan
  | _, .nan => .nan
  | .inf a, .inf b => if a = b then .inf a else .nan
  | .inf a, .fin _ _ _ => .inf a
  | .fin _ _ _, .inf b => .inf b
  | .fin a m e, .fin b n f =>
    let q := min e f
    let x : Int := (m * 2 ^ (e - q).toNat : Nat)
    let y : Int := (n * 2 ^ (f - q).toNat : Nat)
    let s := (if a then -x else x) + (if b then -y else y)
    if s = 0 then .fin (a && b) 0 0 else .fin (decide (s < 0)) s.natAbs q

def sub (x y : Fp) : Fp := x.add y.neg

/-- The exact product. -/
def mul : Fp → Fp → Fp
  | .nan, _ => .nan
  | _, .nan => .nan
  | .inf a, .inf b => .inf (a != b)
  | .inf a, .fin b n _ => if n = 0 then .nan else .inf (a != b)
  | .fin a m _, .inf b => if m = 0 then .nan else .inf (a != b)
  | .fin a m e, .fin b n f => .fin (a != b) (m * n) (e + f)

/-- The quotient to 128 bits with a sticky bit, which rounds to any format here as the exact one does. -/
def div : Fp → Fp → Fp
  | .nan, _ => .nan
  | _, .nan => .nan
  | .inf _, .inf _ => .nan
  | .inf a, .fin b _ _ => .inf (a != b)
  | .fin a _ _, .inf b => .fin (a != b) 0 0
  | .fin a m e, .fin b n f =>
    if n = 0 then (if m = 0 then .nan else .inf (a != b))
    else
      let k := 128 + Nat.log2 n
      let x := m * 2 ^ k
      .fin (a != b) (x / n * 2 + (if x % n = 0 then 0 else 1)) (e - f - (k : Int) - 1)

/-- The integer square root, by bits from 2^`k` down. -/
def isqrtStep (n : Nat) : Nat → Nat → Nat
  | 0, r => if (r + 1) * (r + 1) ≤ n then r + 1 else r
  | k + 1, r =>
    let s := r + 2 ^ (k + 1)
    isqrtStep n k (if s * s ≤ n then s else r)

/-- The largest integer whose square is at most `n`. -/
def isqrt (n : Nat) : Nat := isqrtStep n (Nat.log2 n / 2) 0

/-- The square root to more than 64 bits with a sticky bit. -/
def sqrt : Fp → Fp
  | .nan => .nan
  | .inf false => .inf false
  | .inf true => .nan
  | .fin s m e =>
    if m = 0 then .fin s 0 0
    else if s then .nan
    else
      let k : Nat := if (e - 140) % 2 = 0 then 140 else 141
      let x := m * 2 ^ k
      let r := isqrt x
      .fin false (r * 2 + (if r * r = x then 0 else 1)) ((e - (k : Int)) / 2 - 1)

/-- Comparison as a number: none for NaN. Negative, zero or positive as `x` is below, at or above `y`. -/
def cmp (x y : Fp) : Option Int :=
  match x, y with
  | .nan, _ => none
  | _, .nan => none
  | .inf a, .inf b => some (if a = b then 0 else if a then -1 else 1)
  | .inf a, _ => some (if a then -1 else 1)
  | _, .inf b => some (if b then 1 else -1)
  | .fin a m e, .fin b n f => match (Fp.fin a m e).add (Fp.fin (!b) n f) with
    | .fin s k _ => some (if k = 0 then 0 else if s then -1 else 1)
    | _ => some 0

/-- `x < y`; false for NaN. -/
def lt (x y : Fp) : Bool := match x.cmp y with | some c => decide (c < 0) | none => false
/-- `x ≤ y`; false for NaN. -/
def le (x y : Fp) : Bool := match x.cmp y with | some c => decide (c ≤ 0) | none => false

/-- Round to the nearest integer, ties to even; 0 for what is not finite. -/
def rne : Fp → Int
  | .fin s m e =>
    let r : Int := if 0 ≤ e then (m * 2 ^ e.toNat : Nat) else rneDiv m (2 ^ (-e).toNat)
    if s then -r else r
  | _ => 0

/-- The largest integer at most the value; 0 for what is not finite. -/
def floor : Fp → Int
  | .fin s m e =>
    let n : Int := if s then -(m : Int) else m
    if 0 ≤ e then n * 2 ^ e.toNat else n / (2 ^ (-e).toNat : Nat)
  | _ => 0

/-- The least integer at least the value. -/
def ceil (x : Fp) : Int := -(x.neg.floor)

end Fp

/-! FP32 arithmetic on codes: one rounding each. -/

def f32 (c : Nat) : Fp := fp32.decode c
def f32Add (a b : Nat) : Nat := fp32.encode ((f32 a).add (f32 b))
def f32Sub (a b : Nat) : Nat := fp32.encode ((f32 a).sub (f32 b))
def f32Mul (a b : Nat) : Nat := fp32.encode ((f32 a).mul (f32 b))
def f32Div (a b : Nat) : Nat := fp32.encode ((f32 a).div (f32 b))
/-- An integer rounded to FP32. -/
def f32OfInt (i : Int) : Nat := fp32.encode (Fp.ofInt i)
/-- A ratio of integers rounded to FP32. -/
def f32Ratio (n d : Int) : Nat := fp32.encode ((Fp.ofInt n).div (Fp.ofInt d))
/-- The lesser and the greater of two FP32 codes by value; the first where they do not compare. -/
def f32Min (a b : Nat) : Nat := if (f32 b).lt (f32 a) then b else a
def f32Max (a b : Nat) : Nat := if (f32 a).lt (f32 b) then b else a
/-- The code of 1.0. -/
def f32One : Nat := 0x3F800000
/-- A code that is a finite number. -/
def f32Finite (c : Nat) : Bool := match f32 c with | .fin _ _ _ => true | _ => false

/-! binary64 arithmetic on codes. -/

def f64 (c : Nat) : Fp := fp64.decode c
def f64Of (x : Fp) : Nat := fp64.encode x
def f64Add (a b : Nat) : Nat := f64Of ((f64 a).add (f64 b))
def f64Sub (a b : Nat) : Nat := f64Of ((f64 a).sub (f64 b))
def f64Mul (a b : Nat) : Nat := f64Of ((f64 a).mul (f64 b))
def f64Div (a b : Nat) : Nat := f64Of ((f64 a).div (f64 b))
def f64Sqrt (a : Nat) : Nat := f64Of (f64 a).sqrt
def f64OfInt (i : Int) : Nat := f64Of (Fp.ofInt i)
def f64Lt (a b : Nat) : Bool := (f64 a).lt (f64 b)
def f64Le (a b : Nat) : Bool := (f64 a).le (f64 b)

end Sys2Proof.Machine
end

