-- ==== Sys2Proof/Machine/Formats.lean ====
section
/-! DEFINITION. Number formats, conversion to a stored format, accumulation and requantisation (11_number_formats), and the
operand pairs of the matrix engine (R272). Format codes are those of R79. -/

namespace Sys2Proof.Machine

/-- Bits of an element of a format (R302); 0 for a code that is no format. -/
def fmtBits : Nat → Nat
  | 0 => 4 | 1 => 8 | 2 => 8 | 3 => 8 | 4 => 8 | 5 => 16 | 6 => 16 | 7 => 16 | 8 => 32 | 9 => 32 | _ => 0

/-- Integer formats: INT4, INT8, UINT8, INT16, INT32. -/
def fmtIsInt (f : Nat) : Bool := f == 0 || f == 1 || f == 2 || f == 5 || f == 9

/-- The floating-point format of a code. -/
def fmtFp : Nat → FpFmt
  | 3 => fp8e4m3 | 4 => fp8e5m2 | 6 => fp16 | 7 => bf16 | _ => fp32

/-- Least and greatest value of an integer format (R302). -/
def fmtRange : Nat → Int × Int
  | 0 => (-8, 7) | 1 => (-128, 127) | 2 => (0, 255) | 5 => (-32768, 32767) | _ => (-2147483648, 2147483647)

/-- The integer that a stored element of an integer format holds. -/
def fmtInt (f c : Nat) : Int := if f = 2 then ((c % 256 : Nat) : Int) else sext (fmtBits f) c

/-- The exact value of a stored element. -/
def fmtFpVal (f c : Nat) : Fp := if fmtIsInt f then Fp.ofInt (fmtInt f c) else (fmtFp f).decode c

/-- Convert an FP32 code to a stored format with zero point `zp` (R306): the element's code, and whether it saturated (R307). -/
def convert (u f : Nat) (zp : Int) : Nat × Bool :=
  if fmtIsInt f then
    let r := fmtRange f
    let put := fun (i : Int) => twos (fmtBits f) (clampInt r.1 r.2 i)
    match f32 u with
    | .nan => (put zp, true)
    | .inf neg => (put (if neg then r.1 else r.2), true)
    | .fin s m e =>
      let q := (Fp.fin s m e).rne + zp
      (put q, decide (q < r.1) || decide (r.2 < q))
  else if f = 8 then
    match f32 u with
    | .nan => (fp32.nan, true)
    | _ => (u % 2 ^ 32, false)
  else (fmtFp f).saturate (f32 u)

/-- The accumulator of an operand pair (R272): `some true` INT32, `some false` FP32; none for any other pair. -/
def pairAcc (a b : Nat) : Option Bool :=
  if (a = 1 ∨ a = 2) ∧ b = 1 then some true
  else if a = 0 ∧ b = 0 then some true
  else if a = 1 ∧ b = 0 then some true
  else if (a = 3 ∨ a = 4) ∧ (b = 3 ∨ b = 4) then some false
  else if a = 5 ∧ (b = 1 ∨ b = 5) then some true
  else if (a = 6 ∨ a = 7) ∧ (b = 3 ∨ b = 4 ∨ b = a) then some false
  else none

/-- One K step into an accumulator element (R308, R309). -/
def macStep (int : Bool) (fa fb : Nat) (acc a b : Nat) : Nat :=
  if int then twos 32 ((acc : Int) + fmtInt fa a * fmtInt fb b)
  else fp32.encode ((f32 acc).add ((fmtFpVal fa a).mul (fmtFpVal fb b)))

/-- A scale entry: BIAS bits, MULT bits and ZP (R282). -/
structure Scale where
  bias : Nat
  mult : Nat
  zp : Int
  deriving DecidableEq, Repr

/-- Requantise one accumulator element (R311): the stored code, and whether it saturated. -/
def requant (int : Bool) (acc ofmt : Nat) (act : Bool) (e : Scale) : Nat × Bool :=
  let tf := if int then f32OfInt (sext 32 acc + sext 32 e.bias) else f32Add acc e.bias
  let u := f32Mul tf e.mult
  let r := convert u ofmt e.zp
  if fmtIsInt ofmt then
    let lim := fmtRange ofmt
    let z := clampInt lim.1 lim.2 e.zp
    (if act && decide (fmtInt ofmt r.1 < z) then twos (fmtBits ofmt) z else r.1, r.2)
  else
    let v := (fmtFp ofmt).decode r.1
    let neg := match v with
      | .nan => false
      | .inf s => s
      | .fin s _ _ => s
    (if act && neg then 0 else r.1, r.2)

/-- The wide format of a narrow activation format (R315). -/
def wideFmt : Nat → Option Nat
  | 0 => some 1 | 1 => some 5 | 2 => some 5 | 3 => some 7 | 4 => some 7 | _ => none

end Sys2Proof.Machine
end

