-- ==== Sys2Proof/Machine/ModelStore.lean ====
section
/-! DEFINITION. Where a plot's stores lie in its window (R179, R207, R361), the layer blobs (R359, R360), the operator
descriptor (R331, R332), and the shadow lock (R375). -/

namespace Sys2Proof.Machine

namespace Rd

/-- A value rounded up to a multiple. -/
def up (n m : Nat) : Nat := ceilDiv n m * m

/-- Streams of a plot in ascending ID. -/
def plotStreams (r : Rd) (k : Nat) : List Nat :=
  (List.range 128).filter (fun s => (r.streamRec s).isSome && r.streamPlot s == k)
/-- Bytes of a plot's capture rings (R179). -/
def ringsBytes (r : Rd) (k : Nat) : Nat := ((r.plotStreams k).map r.streamRing).sum
/-- Plot-virtual base of a stream's ring: the rings stand at the window's top in ascending ID (R179). -/
def ringBase (r : Rd) (s : Nat) : Nat :=
  let k := r.streamPlot s
  r.window k - r.ringsBytes k + (((r.plotStreams k).filter (fun x => decide (x < s))).map r.streamRing).sum

/-- Decoded streams: CODEC 1 or 2. -/
def decoded (r : Rd) (s : Nat) : Bool := r.streamCodec s == 1 || r.streamCodec s == 2
/-- W and H aligned for decode (R207). -/
def decWa (r : Rd) (s : Nat) : Nat := up (r.streamWidth s) 64
def decHa (r : Rd) (s : Nat) : Nat := up (r.streamHeight s) 16
/-- Bit depth B: 10 for HEVC, 8 for AVC (R207). -/
def decDepth (r : Rd) (s : Nat) : Nat := if r.streamCodec s = 2 then 10 else 8
/-- Bytes of one reference picture, worst case: 3 x B / 16 + 3 / 32 bytes a sample (R207). -/
def refPicture (r : Rd) (s : Nat) : Nat :=
  up (4096 + ceilDiv (r.decWa s * r.decHa s * (6 * r.decDepth s + 3)) 32) 4096
/-- Reference pictures (R207). -/
def dpb (r : Rd) (s : Nat) : Nat :=
  if r.streamCodec s = 2 then
    let n := r.streamWidth s * r.streamHeight s
    if n ≤ 2228224 then 16 else if n ≤ 4456448 then 12 else if n ≤ 6684672 then 8 else 6
  else min (184320 / ((r.decWa s / 16) * (r.decHa s / 16))) 16
def refStore (r : Rd) (s : Nat) : Nat := (r.dpb s + 1) * r.refPicture s
/-- Bytes of one output picture (R207). -/
def outPicture (r : Rd) (s : Nat) : Nat := up (r.decWa s * r.decHa s * 3 / 2 * (if r.decDepth s = 8 then 1 else 2)) 4096
def outStore (r : Rd) (s : Nat) : Nat := 3 * r.outPicture s
/-- Bytes of a stream's two stores. -/
def decStores (r : Rd) (s : Nat) : Nat := if r.decoded s then r.refStore s + r.outStore s else 0
def plotDecBytes (r : Rd) (k : Nat) : Nat := ((r.plotStreams k).map r.decStores).sum
/-- Plot-virtual base of a stream's reference store; its output store follows it. -/
def refBase (r : Rd) (s : Nat) : Nat :=
  let k := r.streamPlot s
  r.window k - r.ringsBytes k - r.plotDecBytes k + (((r.plotStreams k).filter (fun x => decide (x < s))).map r.decStores).sum
def outBase (r : Rd) (s : Nat) : Nat := r.refBase s + r.refStore s

/-- Models of a plot in ascending ID. -/
def plotModels (r : Rd) (k : Nat) : List Nat :=
  sortBy (fun a b => decide (a ≤ b)) (r.models.filter (fun m => r.modelPlot m == k))
/-- Bytes before layer `i` of a model in its store. -/
def layerOff (r : Rd) (m i : Nat) : Nat := ((List.range i).map (fun j => up (r.layerLength m j) 4096)).sum
def modelBytes (r : Rd) (m : Nat) : Nat := r.layerOff m (r.modelLayers m)
def plotModelBytes (r : Rd) (k : Nat) : Nat := ((r.plotModels k).map r.modelBytes).sum
/-- Plot-virtual base of a model's store (R361). -/
def modelBase (r : Rd) (m : Nat) : Nat :=
  let k := r.modelPlot m
  r.window k - r.ringsBytes k - r.plotDecBytes k - r.plotModelBytes k +
    (((r.plotModels k).filter (fun x => decide (x < m))).map r.modelBytes).sum
/-- The beds of a streamed model: those of the lowest pipeline that names it (R370). -/
def streamedBeds (r : Rd) (m : Nat) : Nat :=
  (((List.range 64).find? (fun k => (r.pipeRec k).isSome &&
    (List.range (r.pipeStages k)).any (fun i => r.stageKind k i == 1 && r.stageRef k i == m))).map r.pipeBeds).getD 0
/-- Plot-virtual base of a layer's blob. -/
def blobBase (r : Rd) (m i : Nat) : Nat := r.modelBase m + r.layerOff m i

end Rd

/-- A reader of a layer's blob in its model store. -/
def Part.blob (p : Part) (m i : Nat) : Rd :=
  let b := winBase (p.img.modelPlot m) + p.img.blobBase m i
  fun o => (p.byte (b + o)).toNat

/-- A reader of the Gardeners' own copy of a layer's header and descriptor (R333, assumption 77). A layer that has not been
loaded reads zero. -/
def Part.head (p : Part) (m i : Nat) : Rd :=
  let l := FMap.get (fun _ => []) p.models.heads (m * 65536 + i)
  fun o => (l.getD o 0).toNat

/-- The Gardeners copy a layer's header and descriptor from the bytes whose digest has matched (R333). -/
def Part.copyHead (p : Part) (m i : Nat) (data : List Byte) : Part :=
  { p with models := { p.models with
    heads := FMap.put (fun _ => []) p.models.heads (m * 65536 + i) (data.take 0xC0) } }

/-- The beds of a bed mask, rising. -/
def bedsOf (mask : Nat) : List Nat := (List.range 64).filter mask.testBit

/-! The operator descriptor. -/

/-- An operator descriptor (R331), read at offset `o` of a blob. -/
structure OpDesc where
  op : Nat
  flags : Nat
  kh : Nat
  kw : Nat
  sh : Nat
  sw : Nat
  dh : Nat
  dw : Nat
  pt : Nat
  pb : Nat
  pl : Nat
  pr : Nat
  cin : Nat
  cout : Nat
  hin : Nat
  win : Nat
  inAddr : Nat
  inPitch : Nat
  inPlane : Nat
  in2Addr : Nat
  outAddr : Nat
  outPitch : Nat
  outPlane : Nat
  wOff : Nat
  scaleOff : Nat
  workOff : Nat
  workBytes : Nat
  m1 : Nat
  m2 : Nat
  z1 : Int
  z2 : Int
  reserved : Bool
  deriving DecidableEq, Repr

/-- Read the descriptor at 0x40 of a blob. -/
def readDesc (r : Rd) : OpDesc :=
  let u8 := fun o => r.u8 (0x40 + o)
  let u16 := fun o => r.u16 (0x40 + o)
  let u32 := fun o => r.u32 (0x40 + o)
  let u64 := fun o => r.u64 (0x40 + o)
  { op := u8 0, flags := u8 1, kh := u8 2, kw := u8 3, sh := u8 4, sw := u8 5, dh := u8 6, dw := u8 7, pt := u16 8,
    pb := u16 0xA, pl := u16 0xC, pr := u16 0xE, cin := u16 0x10, cout := u16 0x12, hin := u16 0x14, win := u16 0x16,
    inAddr := u64 0x18, inPitch := u32 0x20, inPlane := u32 0x24, in2Addr := u64 0x28, outAddr := u64 0x30,
    outPitch := u32 0x38, outPlane := u32 0x3C, wOff := u32 0x40, scaleOff := u32 0x44, workOff := u32 0x48,
    workBytes := u32 0x4C, m1 := u32 0x50, m2 := u32 0x54, z1 := sext 16 (u16 0x58), z2 := sext 16 (u16 0x5A),
    reserved := !r.zero 0x9C 36 }

/-- Channel groups (R334). -/
def OpDesc.groups (d : OpDesc) : Nat := ceilDiv d.cout 64
/-- Output height and width (R332); 0 where below 1. -/
def OpDesc.ho (d : OpDesc) : Nat :=
  let n : Int := (d.hin : Int) + d.pt + d.pb - d.dh * (d.kh - 1 : Nat) - 1
  if n < 0 then 0 else n.toNat / d.sh + 1
def OpDesc.wo (d : OpDesc) : Nat :=
  let n : Int := (d.win : Int) + d.pl + d.pr - d.dw * (d.kw - 1 : Nat) - 1
  if n < 0 then 0 else n.toNat / d.sw + 1

/-- The Gardener's check of a descriptor (R331, R332). -/
def OpDesc.ok (d : OpDesc) : Bool :=
  let rng := fun (x lo hi : Nat) => decide (lo ≤ x ∧ x ≤ hi)
  decide (d.op ≤ 6) && decide (d.flags < 8) && rng d.kh 1 255 && rng d.kw 1 255 && rng d.sh 1 127 && rng d.sw 1 127 &&
    rng d.dh 1 127 && rng d.dw 1 127 && rng d.pt 0 1023 && rng d.pb 0 1023 && rng d.pl 0 1023 && rng d.pr 0 1023 &&
    rng d.cin 1 16384 && rng d.cout 1 16384 && rng d.hin 1 8192 && rng d.win 1 8192 && d.workOff % 64 == 0 && !d.reserved &&
    decide (1 ≤ d.ho) && decide (1 ≤ d.wo) && decide (d.dh * (d.kh - 1) ≤ 8191) && decide (d.dw * (d.kw - 1) ≤ 8191) &&
    (!(decide (3 ≤ d.op)) || d.cout == d.cin)

/-- Bytes of `n` elements of a format. -/
def elemBytes (fmt n : Nat) : Nat := ceilDiv (n * fmtBits fmt) 8

/-- GROUP_BYTES (R359). -/
def OpDesc.groupBytes (d : OpDesc) (wfmt : Nat) : Nat :=
  if d.op = 0 ∨ d.op = 2 then elemBytes wfmt (d.cin * d.kh * d.kw * 64)
  else if d.op = 1 then elemBytes wfmt (d.kh * d.kw * 64) else 0

/-- FLAGS.W_REPL. -/
def OpDesc.wRepl (d : OpDesc) : Bool := d.flags / 4 % 2 == 1

/-- The largest weight bytes that one of `nb` beds receives (R335, R360). -/
def OpDesc.bedShare (d : OpDesc) (wfmt nb : Nat) : Nat :=
  (if d.wRepl then d.groups else ceilDiv d.groups nb) * d.groupBytes wfmt

/-- Header and descriptor fields of a blob against the record (R359, R360). -/
def blobOk (img : Rd) (m i : Nat) (r : Rd) : Bool :=
  let d := readDesc r
  let wf := img.layerWfmt m i
  let pinned := img.modelResidency m == 0
  let woff := Rd.up (0xC0 + 16 * d.cout) 64
  let beds := r.u64 8
  let nb := if pinned then (bedsOf beds).length else (bedsOf (img.streamedBeds m)).length
  r.bytes 0 4 == [0x42, 0x4C, 0x59, 0x52] && r.u16 4 == m && r.u16 6 == i &&
    (if pinned then beds != 0 && (beds &&& img.modelBeds m) == beds else beds == 0) &&
    r.u32 0x10 == woff && r.u32 0x18 == d.groupBytes wf && r.u32 0x14 == d.groups * d.groupBytes wf && r.zero 0x1C 36 &&
    img.layerLength m i == r.u32 0x10 + r.u32 0x14 &&
    img.layerStoreBytes m i == 16 * d.cout + d.bedShare wf nb &&
    r.zero (0xC0 + 16 * d.cout) (woff - (0xC0 + 16 * d.cout))

/-- The beds of layer `i` of a pinned model (R359). -/
def Part.layerBeds (p : Part) (m i : Nat) : List Nat := bedsOf ((p.head m i).u64 8)

/-- The banks of layer `i` of model `m` on bed `b`: those its weights and scale table touch (R368). -/
def Part.layerBanks (p : Part) (m i b : Nat) : List Nat :=
  let d := readDesc (p.head m i)
  let nb := (p.layerBeds m i).length
  let span := fun o n => (List.range 48).filter (fun k => decide (o < (k + 1) * 0x8000) && decide (k * 0x8000 < o + n))
  if (p.layerBeds m i).contains b then
    span d.wOff (d.bedShare (p.img.layerWfmt m i) nb) ++ span d.scaleOff (16 * d.cout)
  else []

/-- A bank is read-locked for its plot (R375): a shadow bank of a model in STAGING or STAGED, or of a layer of a GRAFTING
model that is not yet swapped. -/
def Part.bankLocked (p : Part) (k b j : Nat) : Bool :=
  p.img.models.any (fun m =>
    let u := p.model m
    let inShadow := decide (p.img.shadowFirst m ≤ j ∧ j < p.img.shadowFirst m + p.img.shadowCount m)
    p.img.modelPlot m == k && (p.img.modelBeds m).testBit b && inShadow &&
      (u.state == 3 || u.state == 4 ||
        (u.state == 5 && (List.range (p.img.modelLayers m)).any (fun i =>
          decide (u.swapped ≤ i) && (p.layerBanks m i b).contains j))))

/-- A key of a bed store that is read-locked for plot `k`. -/
def Part.lockedKey (p : Part) (k a : Nat) : Bool :=
  if 0x1000000000 ≤ a ∧ a < 0x1008000000 then
    match bankOf (a - 0x1000000000) with
    | some (b, j) => p.bankLocked k b j
    | none => false
  else false

end Sys2Proof.Machine
end

