-- ==== Sys2Proof/Machine/Rv32.lean ====
section
/-! DEFINITION. The scalar instructions of a bed thread (R268): fields and immediates of RV32I, the expansion of the C
instructions to their 32-bit forms, and the arithmetic of RV32I and M (RISC-V Unprivileged ISA). -/

namespace Sys2Proof.Machine

/-- Bits `hi:lo` of an instruction. -/
def ib (w hi lo : Nat) : Nat := w / 2 ^ lo % 2 ^ (hi + 1 - lo)
def iRd (w : Nat) : Nat := ib w 11 7
def iRs1 (w : Nat) : Nat := ib w 19 15
def iRs2 (w : Nat) : Nat := ib w 24 20
def iF3 (w : Nat) : Nat := ib w 14 12
def iF7 (w : Nat) : Nat := ib w 31 25
def immI (w : Nat) : Int := sext 12 (ib w 31 20)
def immS (w : Nat) : Int := sext 12 (ib w 31 25 * 32 + ib w 11 7)
def immB (w : Nat) : Int := sext 13 (ib w 31 31 * 4096 + ib w 7 7 * 2048 + ib w 30 25 * 32 + ib w 11 8 * 2)
def immU (w : Nat) : Int := sext 32 (ib w 31 12 * 4096)
def immJ (w : Nat) : Int := sext 21 (ib w 31 31 * 2 ^ 20 + ib w 19 12 * 4096 + ib w 20 20 * 2048 + ib w 30 21 * 2)

/-! The formats' words, for the expansion. -/

def mkR (f7 rs2 rs1 f3 rd op : Nat) : Nat :=
  f7 * 2 ^ 25 + rs2 * 2 ^ 20 + rs1 * 2 ^ 15 + f3 * 2 ^ 12 + rd * 2 ^ 7 + op
def mkI (imm : Int) (rs1 f3 rd op : Nat) : Nat := twos 12 imm * 2 ^ 20 + rs1 * 2 ^ 15 + f3 * 2 ^ 12 + rd * 2 ^ 7 + op
def mkS (imm : Int) (rs2 rs1 f3 : Nat) : Nat :=
  let i := twos 12 imm
  mkR (i / 32) rs2 rs1 f3 (i % 32) 0x23
def mkJ (imm : Int) (rd : Nat) : Nat :=
  let i := twos 21 imm
  ib i 20 20 * 2 ^ 31 + ib i 10 1 * 2 ^ 21 + ib i 11 11 * 2 ^ 20 + ib i 19 12 * 2 ^ 12 + rd * 2 ^ 7 + 0x6F
def mkB (imm : Int) (rs2 rs1 f3 : Nat) : Nat :=
  let i := twos 13 imm
  mkR (ib i 12 12 * 64 + ib i 10 5) rs2 rs1 f3 (ib i 4 1 * 2 + ib i 11 11) 0x63

/-- Quadrant 0 of the C instructions. -/
def expandC0 (c : Nat) : Option Nat :=
  let rd := ib c 4 2 + 8
  let rs := ib c 9 7 + 8
  let lw : Int := (ib c 5 5 * 64 + ib c 12 10 * 8 + ib c 6 6 * 4 : Nat)
  match ib c 15 13 with
  | 0 =>
    let imm := ib c 10 7 * 64 + ib c 12 11 * 16 + ib c 5 5 * 8 + ib c 6 6 * 4
    if imm = 0 then none else some (mkI imm 2 0 rd 0x13)
  | 2 => some (mkI lw rs 2 rd 0x03)
  | 6 => some (mkS lw rd rs 2)
  | _ => none

/-- The offset of C.J and C.JAL. -/
def immCJ (c : Nat) : Int :=
  sext 12 (ib c 12 12 * 2048 + ib c 8 8 * 1024 + ib c 10 9 * 256 + ib c 6 6 * 128 + ib c 7 7 * 64 + ib c 2 2 * 32 +
    ib c 11 11 * 16 + ib c 5 3 * 2)
/-- The offset of C.BEQZ and C.BNEZ. -/
def immCB (c : Nat) : Int :=
  sext 9 (ib c 12 12 * 256 + ib c 6 5 * 64 + ib c 2 2 * 32 + ib c 11 10 * 8 + ib c 4 3 * 2)

/-- Quadrant 1. -/
def expandC1 (c : Nat) : Option Nat :=
  let rd := ib c 11 7
  let r := ib c 9 7 + 8
  let r2 := ib c 4 2 + 8
  let imm6 : Int := sext 6 (ib c 12 12 * 32 + ib c 6 2)
  let sh := ib c 6 2
  match ib c 15 13 with
  | 0 => some (mkI imm6 rd 0 rd 0x13)
  | 1 => some (mkJ (immCJ c) 1)
  | 2 => some (mkI imm6 0 0 rd 0x13)
  | 3 =>
    if rd = 2 then
      let imm := sext 10 (ib c 12 12 * 512 + ib c 4 3 * 128 + ib c 5 5 * 64 + ib c 2 2 * 32 + ib c 6 6 * 16)
      if imm = 0 then none else some (mkI imm 2 0 2 0x13)
    else if imm6 = 0 then none else some (twos 20 imm6 * 4096 + rd * 128 + 0x37)
  | 4 => match ib c 11 10 with
    | 0 => if ib c 12 12 = 1 then none else some (mkR 0 sh r 5 r 0x13)
    | 1 => if ib c 12 12 = 1 then none else some (mkR 0x20 sh r 5 r 0x13)
    | 2 => some (mkI imm6 r 7 r 0x13)
    | _ => if ib c 12 12 = 1 then none else match ib c 6 5 with
      | 0 => some (mkR 0x20 r2 r 0 r 0x33)
      | 1 => some (mkR 0 r2 r 4 r 0x33)
      | 2 => some (mkR 0 r2 r 6 r 0x33)
      | _ => some (mkR 0 r2 r 7 r 0x33)
  | 5 => some (mkJ (immCJ c) 0)
  | 6 => some (mkB (immCB c) 0 r 0)
  | _ => some (mkB (immCB c) 0 r 1)

/-- Quadrant 2. -/
def expandC2 (c : Nat) : Option Nat :=
  let rd := ib c 11 7
  let rs2 := ib c 6 2
  match ib c 15 13 with
  | 0 => if ib c 12 12 = 1 then none else some (mkR 0 rs2 rd 1 rd 0x13)
  | 2 =>
    if rd = 0 then none
    else some (mkI (ib c 3 2 * 64 + ib c 12 12 * 32 + ib c 6 4 * 4 : Nat) 2 2 rd 0x03)
  | 4 =>
    if ib c 12 12 = 0 then
      if rs2 = 0 then (if rd = 0 then none else some (mkI 0 rd 0 0 0x67)) else some (mkR 0 rs2 0 0 rd 0x33)
    else if rs2 = 0 then (if rd = 0 then some 0x00100073 else some (mkI 0 rd 0 1 0x67))
    else some (mkR 0 rs2 rd 0 rd 0x33)
  | 6 => some (mkS (ib c 8 7 * 64 + ib c 12 9 * 4 : Nat) rs2 2 2)
  | _ => none

/-- The 32-bit form of a C instruction; none where the C extension with RV32IM defines none. -/
def expandC (c : Nat) : Option Nat :=
  match c % 4 with
  | 0 => expandC0 c
  | 1 => expandC1 c
  | 2 => expandC2 c
  | _ => none

/-- The arithmetic of OP and OP-IMM: `alt` is bit 30 of the forms that have it. -/
def aluOp (f3 : Nat) (alt : Bool) (a b : Word) : Word :=
  let sh := b.toNat % 32
  match f3 with
  | 0 => if alt then a - b else a + b
  | 1 => a <<< sh
  | 2 => if a.toInt < b.toInt then 1 else 0
  | 3 => if a.toNat < b.toNat then 1 else 0
  | 4 => a ^^^ b
  | 5 => if alt then a.sshiftRight sh else a >>> sh
  | 6 => a ||| b
  | _ => a &&& b

/-- Division of the M extension: a quotient by 0 is all ones, a remainder by 0 the dividend; overflow wraps. -/
def divOp (f3 : Nat) (a b : Int) (w : Nat) : Nat :=
  if f3 = 4 ∨ f3 = 5 then (if b = 0 then 2 ^ w - 1 else twos w (Int.tdiv a b))
  else if b = 0 then twos w a else twos w (Int.tmod a b)

/-- The M extension. -/
def mulDiv (f3 : Nat) (a b : Word) : Word :=
  BitVec.ofNat 32 (match f3 with
    | 0 => twos 32 (a.toInt * b.toInt)
    | 1 => twos 32 (a.toInt * b.toInt / 2 ^ 32)
    | 2 => twos 32 (a.toInt * b.toNat / 2 ^ 32)
    | 3 => a.toNat * b.toNat / 2 ^ 32
    | 4 => divOp 4 a.toInt b.toInt 32
    | 5 => divOp 5 a.toNat b.toNat 32
    | 6 => divOp 6 a.toInt b.toInt 32
    | _ => divOp 7 a.toNat b.toNat 32)

/-- Whether a branch is taken; none for a reserved funct3. -/
def branchTaken (f3 : Nat) (a b : Word) : Option Bool :=
  match f3 with
  | 0 => some (a == b)
  | 1 => some (a != b)
  | 4 => some (decide (a.toInt < b.toInt))
  | 5 => some (decide (b.toInt ≤ a.toInt))
  | 6 => some (decide (a.toNat < b.toNat))
  | 7 => some (decide (b.toNat ≤ a.toNat))
  | _ => none

/-- Bytes and sign extension of a load; none for a width RV32 does not have. -/
def loadForm (f3 : Nat) : Option (Nat × Bool) :=
  match f3 with
  | 0 => some (1, true) | 1 => some (2, true) | 2 => some (4, false) | 4 => some (1, false) | 5 => some (2, false)
  | _ => none

/-- The word a load of `n` bytes gives. -/
def loadValue (n : Nat) (signed : Bool) (l : List Byte) : Word :=
  BitVec.ofNat 32 (if signed then twos 32 (sext (8 * n) (leNat l)) else leNat l)

end Sys2Proof.Machine
end

