-- ==== Sys2Proof/Machine/Vector.lean ====
section
/-! DEFINITION. The vector instructions of a bed thread but loads and stores (R268): Zve32x with VLEN 1024 and ELEN 32, as the
RISC-V V extension defines it. A reserved encoding is none. Agnostic elements are each left or written with ones, as a free value says. -/

namespace Sys2Proof.Machine

/-- The vector configuration of one instruction: SEW, LMUL x 8, vl, tail and mask policy, and which agnostic elements take ones. -/
structure VCfg where
  sew : Nat
  l8 : Nat
  vl : Nat
  ta : Bool
  ma : Bool
  vm : Bool
  free : Nat
  deriving DecidableEq, Repr

/-- LMUL x 8 of a vlmul code; 0 for a code not supported (R268: LMUL 1/4 to 8). -/
def lmul8 : Nat → Nat
  | 0 => 8 | 1 => 16 | 2 => 32 | 3 => 64 | 6 => 2 | 7 => 4 | _ => 0

/-- A vtype value that sets no vill: no reserved bit, SEW 8 to 32, LMUL 1/4 to 8, SEW at most LMUL x ELEN when LMUL is below 1. -/
def vtypeOk (v : Nat) : Bool :=
  let l := lmul8 (v % 8)
  let s := v / 8 % 8
  decide (v < 256) && l != 0 && decide (s ≤ 2) && decide (8 * 2 ^ s ≤ l * 4 ∨ 8 ≤ l)

/-- VLMAX of a legal vtype. -/
def vlMaxOf (v : Nat) : Nat := lmul8 (v % 8) * 128 / (8 * 2 ^ (v / 8 % 8))

/-- The configuration of an instruction; none while vill is set. -/
def Thread.cfg (u : Thread) (w : Nat) (free : Nat) : Option VCfg :=
  if vtypeOk u.vtype then
    some { sew := 8 * 2 ^ (u.vtype / 8 % 8), l8 := lmul8 (u.vtype % 8), vl := u.vl, ta := u.vtype / 64 % 2 == 1,
           ma := u.vtype / 128 % 2 == 1, vm := ib w 25 25 == 1, free := free }
  else none

/-- An agnostic element takes ones. -/
def VCfg.ones (c : VCfg) (i : Nat) : Bool := (Config.freeValue (c.free + i)).getLsbD 0

/-! Registers and elements. -/

def vByte (v : FMap Byte) (a : Nat) : Byte := FMap.get (fun _ => 0) v a
def vPut (v : FMap Byte) (a : Nat) (b : Byte) : FMap Byte := FMap.put (fun _ => 0) v a b
/-- Element `i` of width `e` bits of the group at register `r`. -/
def vElem (v : FMap Byte) (r e i : Nat) : Nat :=
  leNat ((List.range (e / 8)).map (fun k => vByte v (r * 128 + i * (e / 8) + k)))
/-- Write an element. -/
def vSet (v : FMap Byte) (r e i x : Nat) : FMap Byte :=
  ((toLe (e / 8) x).zip (List.range (e / 8))).foldl (fun v y => vPut v (r * 128 + i * (e / 8) + y.2) y.1) v
/-- Mask bit `i` of register `r`. -/
def vBit (v : FMap Byte) (r i : Nat) : Bool := (vByte v (r * 128 + i / 8)).toNat.testBit (i % 8)
/-- Write a mask bit. -/
def vSetBit (v : FMap Byte) (r i : Nat) (b : Bool) : FMap Byte :=
  let a := r * 128 + i / 8
  let o := (vByte v a).toNat
  let m := 2 ^ (i % 8)
  vPut v a (BitVec.ofNat 8 (if b then o ||| m else if o.testBit (i % 8) then o - m else o))
/-- Element `i` is active. -/
def VCfg.active (c : VCfg) (v : FMap Byte) (i : Nat) : Bool := c.vm || vBit v 0 i

/-- Registers of a group of EMUL x 8 = `m`. -/
def regsIn (m : Nat) : Nat := max 1 (m / 8)

/-- An operand group: register, EEW (1 for a mask) and EMUL x 8. -/
structure VGrp where
  r : Nat
  e : Nat
  m : Nat
  deriving DecidableEq, Repr

/-- EMUL is 1/8 to 8, the register number is a multiple of it, and EEW is at most 32. -/
def VGrp.ok (g : VGrp) : Bool :=
  decide (1 ≤ g.m ∧ g.m ≤ 64) && g.r % regsIn g.m == 0 && decide (g.e ≤ 32) && decide (g.r + regsIn g.m ≤ 32)
def VGrp.overlaps (a b : VGrp) : Bool := decide (a.r < b.r + regsIn b.m ∧ b.r < a.r + regsIn a.m)
/-- A destination may overlap a source only as the V extension allows. -/
def VGrp.over (d s : VGrp) : Bool :=
  !d.overlaps s || d.e == s.e || (decide (d.e < s.e) && d.r == s.r) ||
    (decide (s.e < d.e) && decide (8 ≤ s.m) && d.r + regsIn d.m == s.r + regsIn s.m)
/-- The sources with the mask register, when the instruction is masked. -/
def VCfg.srcs (c : VCfg) (l : List VGrp) : List VGrp := if c.vm then l else { r := 0, e := 1, m := 8 } :: l
/-- The sources are legal, and no register is read with two EEWs. -/
def VCfg.srcOk (c : VCfg) (l : List VGrp) : Bool :=
  l.all VGrp.ok && (c.srcs l).all (fun a => (c.srcs l).all (fun b => a.e == b.e || !a.overlaps b))
/-- Destination and sources are legal; a masked instruction whose result is no mask does not write v0. -/
def VCfg.opOk (c : VCfg) (d : VGrp) (l : List VGrp) : Bool :=
  d.ok && c.srcOk l && l.all d.over && (c.vm || d.e == 1 || d.r != 0)

/-- The group of the instruction's SEW and LMUL at register `r`, widened by `n` / 8. -/
def VCfg.grp (c : VCfg) (r n : Nat) : VGrp := { r := r, e := c.sew * n / 8, m := c.l8 * n / 8 }
def maskGrp (r : Nat) : VGrp := { r := r, e := 1, m := 8 }

/-- Write a result group: active body elements from `f`, the others by the mask and tail policies. -/
def VCfg.write (c : VCfg) (v : FMap Byte) (d : VGrp) (f : Nat → Nat) : FMap Byte :=
  if c.vl = 0 then v
  else (List.range (regsIn d.m * 1024 / d.e)).foldl (fun o i =>
    if i < c.vl then
      if c.active v i then vSet o d.r d.e i (f i)
      else if c.ma && c.ones i then vSet o d.r d.e i (2 ^ d.e - 1) else o
    else if c.ta && c.ones i then vSet o d.r d.e i (2 ^ d.e - 1) else o) v

/-- Write a mask result: its tail is always agnostic. -/
def VCfg.writeMask (c : VCfg) (v : FMap Byte) (r : Nat) (masked : Bool) (f : Nat → Bool) : FMap Byte :=
  if c.vl = 0 then v
  else (List.range 1024).foldl (fun o i =>
    if i < c.vl then
      if !masked || c.active v i then vSetBit o r i (f i)
      else if c.ma && c.ones i then vSetBit o r i true else o
    else if c.ones i then vSetBit o r i true else o) v

/-- Write element 0 of a register, the rest being tail. -/
def VCfg.writeScalar (c : VCfg) (v : FMap Byte) (r e x : Nat) : FMap Byte :=
  if c.vl = 0 then v
  else (List.range (1024 / e)).foldl (fun o i =>
    if i = 0 then vSet o r e 0 x else if c.ta && c.ones i then vSet o r e i (2 ^ e - 1) else o) v

/-! Element arithmetic. -/

/-- The fixed-point rounding of `v` / 2^`d` under vxrm. -/
def roundOff (vxrm : Nat) (v : Int) (d : Nat) : Int :=
  let q := v / 2 ^ d
  let r := (v % 2 ^ d).toNat
  if d = 0 then v
  else match vxrm with
    | 0 => if 2 ^ (d - 1) ≤ r then q + 1 else q
    | 1 => if 2 ^ (d - 1) < r ∨ (r = 2 ^ (d - 1) ∧ q % 2 = 1) then q + 1 else q
    | 2 => q
    | _ => if r ≠ 0 ∧ q % 2 = 0 then q + 1 else q

/-- Clamp to `w` bits, signed or unsigned: the code and whether it saturated. -/
def satTo (w : Nat) (signed : Bool) (i : Int) : Nat × Bool :=
  let lo : Int := if signed then -(2 ^ (w - 1) : Nat) else 0
  let hi : Int := if signed then (2 ^ (w - 1) : Nat) - 1 else (2 ^ w : Nat) - 1
  (twos w (clampInt lo hi i), decide (i < lo) || decide (hi < i))

/-- A single-width result of OPI (`m` false) or OPM (`m` true): `a` from vs2, `b` from vs1, x or immediate. The flag sets vxsat. -/
def vBin (m : Bool) (f6 vxrm w a b : Nat) : Option (Nat × Bool) :=
  let s := sext w
  let ok := fun (i : Int) => some (twos w i, false)
  let sh := b % w
  match m, f6 with
  | false, 0x00 => ok (a + b)
  | false, 0x02 => ok ((a : Int) - b)
  | false, 0x03 => ok ((b : Int) - a)
  | false, 0x04 => ok (min a b)
  | false, 0x05 => ok (min (s a) (s b))
  | false, 0x06 => ok (max a b)
  | false, 0x07 => ok (max (s a) (s b))
  | false, 0x09 => ok (a &&& b : Nat)
  | false, 0x0A => ok (a ||| b : Nat)
  | false, 0x0B => ok (a ^^^ b : Nat)
  | false, 0x20 => some (satTo w false ((a : Int) + b))
  | false, 0x21 => some (satTo w true (s a + s b))
  | false, 0x22 => some (satTo w false ((a : Int) - b))
  | false, 0x23 => some (satTo w true (s a - s b))
  | false, 0x25 => ok (a * 2 ^ sh : Nat)
  | false, 0x27 => some (satTo w true (roundOff vxrm (s a * s b) (w - 1)))
  | false, 0x28 => ok (a / 2 ^ sh : Nat)
  | false, 0x29 => ok (s a / 2 ^ sh)
  | false, 0x2A => ok (roundOff vxrm a sh)
  | false, 0x2B => ok (roundOff vxrm (s a) sh)
  | true, 0x08 => ok (roundOff vxrm (a + b : Nat) 1)
  | true, 0x09 => ok (roundOff vxrm (s a + s b) 1)
  | true, 0x0A => ok (roundOff vxrm ((a : Int) - b) 1)
  | true, 0x0B => ok (roundOff vxrm (s a - s b) 1)
  | true, 0x20 => ok (divOp 5 a b w)
  | true, 0x21 => ok (divOp 4 (s a) (s b) w)
  | true, 0x22 => ok (divOp 7 a b w)
  | true, 0x23 => ok (divOp 6 (s a) (s b) w)
  | true, 0x24 => ok (a * b / 2 ^ w : Nat)
  | true, 0x25 => ok (a * b : Nat)
  | true, 0x26 => ok (s a * b / 2 ^ w)
  | true, 0x27 => ok (s a * s b / 2 ^ w)
  | _, _ => none

/-- Which operand forms an OPI funct6 has: 1 VV, 2 VX, 4 VI. -/
def opiForms (f6 : Nat) : Nat :=
  if f6 = 0x03 ∨ f6 = 0x1E ∨ f6 = 0x1F then 6
  else if f6 = 0x02 ∨ (0x04 ≤ f6 ∧ f6 ≤ 0x07) ∨ f6 = 0x12 ∨ f6 = 0x13 ∨ f6 = 0x1A ∨ f6 = 0x1B ∨ f6 = 0x22 ∨ f6 = 0x23 ∨
    f6 = 0x27 then 3
  else 7

/-- A compare (0x18 to 0x1F). -/
def vCmp (f6 w a b : Nat) : Bool :=
  let s := sext w
  match f6 with
  | 0x18 => a == b
  | 0x19 => a != b
  | 0x1A => decide (a < b)
  | 0x1B => decide (s a < s b)
  | 0x1C => decide (a ≤ b)
  | 0x1D => decide (s a ≤ s b)
  | 0x1E => decide (b < a)
  | _ => decide (s b < s a)

/-- A widening result of OPM 0x30 to 0x3B: operands of `w` bits (`a` of 2 `w` for the .w forms). -/
def vWide (f6 w a b : Nat) : Option Int :=
  let s := sext w
  match f6 with
  | 0x30 => some ((a + b : Nat) : Int)
  | 0x31 => some (s a + s b)
  | 0x32 => some ((a : Int) - b)
  | 0x33 => some (s a - s b)
  | 0x34 => some ((a + b : Nat) : Int)
  | 0x35 => some ((a : Int) + s b)
  | 0x36 => some ((a : Int) - b)
  | 0x37 => some ((a : Int) - s b)
  | 0x38 => some ((a * b : Nat) : Int)
  | 0x3A => some (s a * b)
  | 0x3B => some (s a * s b)
  | _ => none

/-- The product of a widening multiply-add (0x3C to 0x3F): `b` from vs1 or x, `a` from vs2. -/
def vWideMac (f6 w a b : Nat) : Int :=
  let s := sext w
  match f6 with
  | 0x3C => ((a * b : Nat) : Int)
  | 0x3D => s b * s a
  | 0x3E => (b : Int) * s a
  | _ => s b * a

/-- A reduction step (OPM 0x00 to 0x07). -/
def vRed (f6 w acc x : Nat) : Nat :=
  let s := sext w
  match f6 with
  | 0 => (acc + x) % 2 ^ w
  | 1 => acc &&& x
  | 2 => acc ||| x
  | 3 => acc ^^^ x
  | 4 => min acc x
  | 5 => if s x < s acc then x else acc
  | 6 => max acc x
  | _ => if s acc < s x then x else acc

/-! Instructions. `u` is the thread, `w` the instruction, `x` the value of rs1. -/

/-- The result of a vector instruction: the new register file, vxsat to set, and a value for rd. -/
abbrev VRes := Option (FMap Byte × Bool × Option Nat)

/-- A vector result. -/
def vOut (v : FMap Byte) : VRes := some (v, false, none)

/-- The second operand of element `i`: vs1, x or the immediate, as `e` bits. -/
def vSrc (v : FMap Byte) (w e : Nat) (x : Word) (i : Nat) : Nat :=
  match iF3 w with
  | 0 => vElem v (iRs1 w) e i
  | 2 => vElem v (iRs1 w) e i
  | 3 => twos e (sext 5 (iRs1 w))
  | _ => twos e x.toInt

/-- Whether the second operand is a register group. -/
def vIsVV (w : Nat) : Bool := iF3 w == 0 || iF3 w == 2

/-- Sources vs2 of width 8 x `n2` / 8 SEW, and vs1 when it is a register. -/
def VCfg.two (c : VCfg) (w n2 n1 : Nat) : List VGrp :=
  c.grp (iRs2 w) n2 :: (if vIsVV w then [c.grp (iRs1 w) n1] else [])

/-- The shift amount or scalar of a .vi form that is unsigned: shifts, slides, gathers and clips. -/
def vUimm (w : Nat) (x : Word) : Nat := if iF3 w = 3 then iRs1 w else x.toNat

/-- Single-width arithmetic. -/
def vSingle (c : VCfg) (u : Thread) (w : Nat) (x : Word) (m : Bool) : VRes :=
  let v := u.v
  let d := c.grp (iRd w) 8
  let f6 := ib w 31 26
  let isSh := !m && (f6 == 0x25 || f6 == 0x28 || f6 == 0x29 || f6 == 0x2A || f6 == 0x2B)
  let b := fun i => if isSh && iF3 w == 3 then iRs1 w else vSrc v w c.sew x i
  let r := fun i => vBin m f6 u.vxrm c.sew (vElem v (iRs2 w) c.sew i) (b i)
  if (vBin m f6 u.vxrm c.sew 0 0).isSome && c.opOk d (c.two w 8 8) then
    let sat := (List.range c.vl).any (fun i => c.active v i && ((r i).map (·.2)).getD false)
    some (c.write v d (fun i => ((r i).map (·.1)).getD 0), sat, none)
  else none

/-- vadc, vmadc, vsbc and vmsbc. -/
def vCarry (c : VCfg) (u : Thread) (w : Nat) (x : Word) : VRes :=
  let v := u.v
  let f6 := ib w 31 26
  let sub := f6 == 0x12 || f6 == 0x13
  let cin := fun i => if !c.vm && vBit v 0 i then 1 else 0
  let full := fun i : Nat =>
    let a : Int := vElem v (iRs2 w) c.sew i
    let b : Int := vSrc v w c.sew x i
    if sub then a - b - cin i else a + b + cin i
  let all := { c with vm := true }
  if f6 = 0x10 ∨ f6 = 0x12 then
    if !c.vm && iRd w != 0 && c.opOk (c.grp (iRd w) 8) (c.two w 8 8) then
      vOut (all.write v (c.grp (iRd w) 8) (fun i => twos c.sew (full i)))
    else none
  else if c.opOk (maskGrp (iRd w)) (c.two w 8 8) then
    vOut (all.writeMask v (iRd w) false (fun i => decide (full i < 0) || decide ((2 ^ c.sew : Nat) ≤ full i)))
  else none

/-- vmerge and vmv.v. -/
def vMerge (c : VCfg) (u : Thread) (w : Nat) (x : Word) : VRes :=
  let v := u.v
  let d := c.grp (iRd w) 8
  let all := { c with vm := true }
  if c.vm then
    if iRs2 w == 0 && c.opOk d (if vIsVV w then [c.grp (iRs1 w) 8] else []) then
      vOut (all.write v d (vSrc v w c.sew x))
    else none
  else if c.opOk d (c.two w 8 8) then
    vOut (all.write v d (fun i => if vBit v 0 i then vSrc v w c.sew x i else vElem v (iRs2 w) c.sew i))
  else none

/-- Narrowing shifts and clips (0x2C to 0x2F). -/
def vNarrow (c : VCfg) (u : Thread) (w : Nat) (x : Word) : VRes :=
  let v := u.v
  let f6 := ib w 31 26
  let e := 2 * c.sew
  let sh := fun i => (if iF3 w = 3 then iRs1 w else vSrc v w c.sew x i) % e
  let r : Nat → Nat × Bool := fun i =>
    let a := vElem v (iRs2 w) e i
    match f6 with
    | 0x2C => (a / 2 ^ sh i % 2 ^ c.sew, false)
    | 0x2D => (twos c.sew (sext e a / 2 ^ sh i), false)
    | 0x2E => satTo c.sew false (roundOff u.vxrm a (sh i))
    | _ => satTo c.sew true (roundOff u.vxrm (sext e a) (sh i))
  if c.opOk (c.grp (iRd w) 8) (c.two w 16 8) then
    some (c.write v (c.grp (iRd w) 8) (fun i => (r i).1),
      (List.range c.vl).any (fun i => c.active v i && (r i).2), none)
  else none

/-- Widening add, subtract and multiply (OPM 0x30 to 0x3B). -/
def vWiden (c : VCfg) (u : Thread) (w : Nat) (x : Word) : VRes :=
  let v := u.v
  let f6 := ib w 31 26
  let two := decide (0x34 ≤ f6 ∧ f6 ≤ 0x37)
  let e2 := if two then 2 * c.sew else c.sew
  if (vWide f6 c.sew 0 0).isSome && c.opOk (c.grp (iRd w) 16) (c.two w (if two then 16 else 8) 8) then
    vOut (c.write v (c.grp (iRd w) 16) (fun i =>
      twos (2 * c.sew) ((vWide f6 c.sew (vElem v (iRs2 w) e2 i) (vSrc v w c.sew x i)).getD 0)))
  else none

/-- Multiply-add, single width and widening (OPM 0x29 to 0x2F, 0x3C to 0x3F). -/
def vMac (c : VCfg) (u : Thread) (w : Nat) (x : Word) : VRes :=
  let v := u.v
  let f6 := ib w 31 26
  let wide := decide (0x3C ≤ f6)
  let e := if wide then 2 * c.sew else c.sew
  let d := c.grp (iRd w) (if wide then 16 else 8)
  let f := fun i =>
    let a := vElem v (iRs2 w) c.sew i
    let b := vSrc v w c.sew x i
    let o : Int := vElem v (iRd w) e i
    twos e (match f6 with
      | 0x29 => (b : Int) * o + a
      | 0x2B => (a : Int) - b * o
      | 0x2D => (a : Int) * b + o
      | 0x2F => o - (a : Int) * b
      | _ => vWideMac f6 c.sew a b + o)
  if (f6 != 0x3E || iF3 w == 6) && c.opOk d (d :: c.two w 8 8) then vOut (c.write v d f) else none

/-- Compares. -/
def vCompare (c : VCfg) (u : Thread) (w : Nat) (x : Word) : VRes :=
  let v := u.v
  if c.opOk (maskGrp (iRd w)) (c.two w 8 8) then
    vOut (c.writeMask v (iRd w) true (fun i => vCmp (ib w 31 26) c.sew (vElem v (iRs2 w) c.sew i) (vSrc v w c.sew x i)))
  else none

/-- Reductions, single width and widening. -/
def vReduce (c : VCfg) (u : Thread) (w : Nat) (wide : Bool) : VRes :=
  let v := u.v
  let e := if wide then 2 * c.sew else c.sew
  let f6 := ib w 31 26
  let signed := f6 == 0x31
  let lift := fun a => if wide && signed then twos e (sext c.sew a) else a
  let acc := ((List.range c.vl).filter (c.active v)).foldl
    (fun s i => vRed (if wide then 0 else f6) e s (lift (vElem v (iRs2 w) c.sew i))) (vElem v (iRs1 w) e 0)
  if c.srcOk [c.grp (iRs2 w) 8, { r := iRs1 w, e := e, m := 8 }] && decide (e ≤ 32) then vOut (c.writeScalar v (iRd w) e acc) else none

/-- vslideup, vslidedown and their 1 forms. -/
def vSlide (c : VCfg) (u : Thread) (w : Nat) (x : Word) (up one : Bool) : VRes :=
  let v := u.v
  let off := if one then 1 else vUimm w x
  let vlmax := c.l8 * 128 / c.sew
  let d := c.grp (iRd w) 8
  let s := c.grp (iRs2 w) 8
  let xv := twos c.sew x.toInt
  let f := fun i =>
    if up then
      if i < off then (if one then xv else vElem v (iRd w) c.sew i) else vElem v (iRs2 w) c.sew (i - off)
    else if one && i + 1 == c.vl then xv
    else if i + off < vlmax then vElem v (iRs2 w) c.sew (i + off) else 0
  if c.opOk d [s] && (!up || !d.overlaps s) then
    -- elements below the offset of vslideup are unchanged, whatever the mask
    if up && !one then
      vOut ((List.range (min off c.vl)).foldl (fun o i => vSet o d.r c.sew i (vElem v d.r c.sew i)) (c.write v d f))
    else vOut (c.write v d f)
  else none

/-- vrgather and vrgatherei16. -/
def vGather (c : VCfg) (u : Thread) (w : Nat) (x : Word) (ei16 : Bool) : VRes :=
  let v := u.v
  let vlmax := c.l8 * 128 / c.sew
  let d := c.grp (iRd w) 8
  let s := c.grp (iRs2 w) 8
  let g1 : VGrp := if ei16 then { r := iRs1 w, e := 16, m := c.l8 * 16 / c.sew } else c.grp (iRs1 w) 8
  let idx := fun i => if vIsVV w then vElem v (iRs1 w) g1.e i else vUimm w x
  let srcs := if vIsVV w then [s, g1] else [s]
  if c.opOk d srcs && srcs.all (fun g => !d.overlaps g) then
    vOut (c.write v d (fun i => if idx i < vlmax then vElem v (iRs2 w) c.sew (idx i) else 0))
  else none

/-- Mask-register logic (OPM 0x18 to 0x1F). -/
def vMaskLogic (c : VCfg) (u : Thread) (w : Nat) : VRes :=
  let v := u.v
  let f := fun i =>
    let a := vBit v (iRs2 w) i
    let b := vBit v (iRs1 w) i
    match ib w 31 26 with
    | 0x18 => a && !b
    | 0x19 => a && b
    | 0x1A => a || b
    | 0x1B => a != b
    | 0x1C => a || !b
    | 0x1D => !(a && b)
    | 0x1E => !(a || b)
    | _ => a == b
  if c.vm then vOut (c.writeMask v (iRd w) false f) else none

/-- vmsbf, vmsof and vmsif: whether an active set bit comes before element `i`. -/
def vSetFirst (c : VCfg) (u : Thread) (w : Nat) : VRes :=
  let v := u.v
  let hit := fun i => c.active v i && vBit v (iRs2 w) i
  let before := fun i => (List.range i).any hit
  let f := fun i => match iRs1 w with
    | 1 => !before i && !hit i
    | 2 => !before i && hit i
    | _ => !before i
  if iRd w != iRs2 w && (c.vm || iRd w != 0) then vOut (c.writeMask v (iRd w) true f) else none

/-- viota: the active set bits before element `i`; vid: `i`. -/
def vIota (c : VCfg) (u : Thread) (w : Nat) : VRes :=
  let v := u.v
  let d := c.grp (iRd w) 8
  if iRs1 w = 17 then
    if iRs2 w == 0 && c.opOk d [] then vOut (c.write v d (fun i => i % 2 ^ c.sew)) else none
  else if c.opOk d [] && !d.overlaps (maskGrp (iRs2 w)) then
    vOut (c.write v d (fun i =>
      ((List.range i).filter (fun j => c.active v j && vBit v (iRs2 w) j)).length % 2 ^ c.sew))
  else none

/-- vzext and vsext. -/
def vExtend (c : VCfg) (u : Thread) (w : Nat) : VRes :=
  let v := u.v
  let k := iRs1 w
  let n := if k = 4 ∨ k = 5 then 4 else 2
  let e := c.sew / n
  let s : VGrp := { r := iRs2 w, e := e, m := c.l8 / n }
  if decide (4 ≤ k ∧ k ≤ 7) && decide (8 ≤ e) && c.opOk (c.grp (iRd w) 8) [s] then
    vOut (c.write v (c.grp (iRd w) 8) (fun i =>
      let a := vElem v (iRs2 w) e i
      if k % 2 = 1 then twos c.sew (sext e a) else a))
  else none

/-- vcompress: the elements whose bit of vs1 is set, packed; what follows them is tail. -/
def vCompress (c : VCfg) (u : Thread) (w : Nat) : VRes :=
  let v := u.v
  let d := c.grp (iRd w) 8
  let s := c.grp (iRs2 w) 8
  let l := (List.range c.vl).filter (vBit v (iRs1 w))
  if c.vm && c.opOk d [s] && !d.overlaps s && !d.overlaps (maskGrp (iRs1 w)) && !s.overlaps (maskGrp (iRs1 w)) then
    if c.vl = 0 then vOut v
    else vOut ((List.range (regsIn d.m * 1024 / c.sew)).foldl (fun o i =>
      match l[i]? with
      | some j => vSet o d.r c.sew i (vElem v s.r c.sew j)
      | none => if c.ta && c.ones i then vSet o d.r c.sew i (2 ^ c.sew - 1) else o) v)
  else none

/-- VWXUNARY0: vmv.x.s, vcpop.m and vfirst.m. -/
def vToX (c : VCfg) (u : Thread) (w : Nat) : VRes :=
  let v := u.v
  let hits := (List.range c.vl).filter (fun i => c.active v i && vBit v (iRs2 w) i)
  match iRs1 w with
  | 0 => if c.vm then some (v, false, some (twos 32 (sext c.sew (vElem v (iRs2 w) c.sew 0)))) else none
  | 16 => some (v, false, some hits.length)
  | 17 => some (v, false, some (match hits with | [] => 2 ^ 32 - 1 | i :: _ => i))
  | _ => none

/-- vmv<nr>r.v: whole registers, without regard to vtype. -/
def vMoveRegs (u : Thread) (w : Nat) : VRes :=
  let n := iRs1 w + 1
  if ib w 25 25 == 1 && (n == 1 || n == 2 || n == 4 || n == 8) && iRd w % n == 0 && iRs2 w % n == 0 then
    vOut ((List.range (n * 128)).foldl (fun o k => vPut o (iRd w * 128 + k) (vByte u.v (iRs2 w * 128 + k))) u.v)
  else none

/-- OPIVV, OPIVX and OPIVI. -/
def vOpI (c : VCfg) (u : Thread) (w : Nat) (x : Word) : VRes :=
  let f6 := ib w 31 26
  let form := if iF3 w = 0 then 1 else if iF3 w = 4 then 2 else 4
  if f6 = 0x0C then vGather c u w x false
  else if f6 = 0x0E then (if form = 1 then vGather c u w x true else vSlide c u w x true false)
  else if f6 = 0x0F then (if form = 1 then none else vSlide c u w x false false)
  else if f6 = 0x30 ∨ f6 = 0x31 then (if form = 1 then vReduce c u w true else none)
  else if (opiForms f6 / form) % 2 = 0 then none
  else if 0x10 ≤ f6 ∧ f6 ≤ 0x13 then vCarry c u w x
  else if f6 = 0x17 then vMerge c u w x
  else if 0x18 ≤ f6 ∧ f6 ≤ 0x1F then vCompare c u w x
  else if 0x2C ≤ f6 ∧ f6 ≤ 0x2F then vNarrow c u w x
  else vSingle c u w x false

/-- OPMVV and OPMVX. -/
def vOpM (c : VCfg) (u : Thread) (w : Nat) (x : Word) : VRes :=
  let f6 := ib w 31 26
  let vv := iF3 w == 2
  if f6 ≤ 0x07 then (if vv then vReduce c u w false else none)
  else if f6 = 0x0E then (if vv then none else vSlide c u w x true true)
  else if f6 = 0x0F then (if vv then none else vSlide c u w x false true)
  else if f6 = 0x10 then
    if vv then vToX c u w
    else if c.vm && iRs2 w == 0 then vOut (c.writeScalar u.v (iRd w) c.sew (twos c.sew x.toInt)) else none
  else if f6 = 0x12 then (if vv then vExtend c u w else none)
  else if f6 = 0x14 then
    if !vv then none
    else if 1 ≤ iRs1 w ∧ iRs1 w ≤ 3 then vSetFirst c u w
    else if iRs1 w = 16 ∨ iRs1 w = 17 then vIota c u w else none
  else if f6 = 0x17 then (if vv then vCompress c u w else none)
  else if 0x18 ≤ f6 ∧ f6 ≤ 0x1F then (if vv then vMaskLogic c u w else none)
  else if f6 = 0x29 ∨ f6 = 0x2B ∨ f6 = 0x2D ∨ f6 = 0x2F ∨ 0x3C ≤ f6 then vMac c u w x
  else if 0x30 ≤ f6 then vWiden c u w x
  else vSingle c u w x true

/-- A vector instruction of OP-V but vset; none where it is ILLEGAL. -/
def vArith (u : Thread) (w free : Nat) (x : Word) : VRes :=
  if iF3 w = 3 ∧ ib w 31 26 = 0x27 then (if vtypeOk u.vtype then vMoveRegs u w else none)
  else match u.cfg w free with
    | none => none
    | some c =>
      if iF3 w = 0 ∨ iF3 w = 3 ∨ iF3 w = 4 then vOpI c u w x
      else if iF3 w = 2 ∨ iF3 w = 6 then vOpM c u w x
      else none

/-- vl for an AVL: AVL up to VLMAX, VLMAX from 2 x VLMAX on, and between them the implementation's value within the V
extension's bounds. -/
def vlFor (avl vlmax : Nat) : Nat :=
  if avl ≤ vlmax then avl
  else if 2 * vlmax ≤ avl then vlmax
  else
    let lo := (avl + 1) / 2
    lo + (Config.vlPick avl vlmax).toNat % (vlmax - lo + 1)

/-- vsetvli, vsetivli and vsetvl: the new vl and vtype; none for a reserved encoding. `rs1` and `rs2` are the registers' values. -/
def vSetVl (u : Thread) (w : Nat) (rs1 rs2 : Word) : Option (Nat × Nat) :=
  let ty : Option Nat :=
    if ib w 31 31 = 0 then some (ib w 30 20)
    else if ib w 31 30 = 3 then some (ib w 29 20)
    else if ib w 30 25 = 0 then some rs2.toNat else none
  match ty with
  | none => none
  | some ty =>
    if !vtypeOk ty then some (0, 0x80000000)
    else
      let vlmax := vlMaxOf ty
      if ib w 31 30 = 3 then some (vlFor (iRs1 w) vlmax, ty)
      else if iRs1 w ≠ 0 then some (vlFor rs1.toNat vlmax, ty)
      else if iRd w ≠ 0 then some (vlmax, ty)
      else if vtypeOk u.vtype && vlMaxOf u.vtype == vlmax then some (u.vl, ty) else some (0, 0x80000000)

end Sys2Proof.Machine
end

