-- ==== Sys2Proof/Machine/BedOps.lean ====
section
/-! DEFINITION. The beds' shared operations (10_beds): job faults detected, a bed's fault, reset, start and end, address
generator descriptors, and the matrix engine's operations. -/

namespace Sys2Proof.Machine

/-! Detection of a job fault. -/

/-- A job fault is detected (R406 step 1): no further command of the job starts, and its teardown is due. A job already
faulted keeps its first cause. -/
def Part.raiseFault (p : Part) (job : Option Nat) (plot cause seq : Nat) : Part :=
  if job.isSome && p.jobs.faults.any (fun f => f.job == job) then p
  else p.modJobs (fun u => { u with
    faults := u.faults ++ [{ job := job, plot := plot, cause := cause, seq := seq }],
    ready := u.ready.filter (fun c => job.isNone || c.job != job) })

/-! A bed's status and faults. -/

/-- Threads of a bed that have not exited. -/
def Bed.live (d : Bed) : Nat := ((List.range 64).filter (fun t => (FMap.get Thread.init d.threads t).wait != .exited)).length

/-- BED_STATUS follows the bed's state. -/
def Part.bedStatus (p : Part) (b : Nat) : Part :=
  let d := p.bed b
  let busy := match d.cmd with
    | some c => c.started
    | none => false
  let plot := match d.cmd with
    | some c => if c.started then c.cmd.plot else 0
    | none => 0
  (((p.put (F.BED_STATUS_BUSY b) (if busy then 1 else 0)).put (F.BED_STATUS_PLOT b) plot).put
    (F.BED_STATUS_THREADS b) d.live).put (F.BED_STATUS_ENGQ b) d.queue.length

/-- Stop a bed: no thread issues, and the queued engine operations are dropped (R294). -/
def Part.bedStop (p : Part) (b : Nat) : Part :=
  (p.modBed b (fun d => { d with queue := [], threads := FMap.only (fun _ => false) d.threads })).bedStatus b

/-- The command on a bed. -/
def Part.bedCmd (p : Part) (b : Nat) : Option Cmd := (p.bed b).cmd.map (·.cmd)

/-- An address of a bed thread outside the plot's map is logged (R35). -/
def Part.logOutside (p : Part) (t b k aper addr : Nat) (write : Bool) : Part :=
  let w : Who := { kind := .bed, plot := Fin.ofNat 9 k }
  match threadAddr aper addr with
  | none => p.accLog t w write 1 addr
  | some a =>
    let outside := match pageAddr a with
      | some (blk, o) => p.pageAt k blk o == .outside
      | none => (p.virtKey k a).isNone
    if outside && b < 64 then p.accLog t w write 1 a else p

/-- A fault on a bed (R294): recorded against a thread, with the address for causes 2 to 5, and reported to the Gardeners. A
fault of a fenced plot is only counted (R165, R297). -/
def Part.bedFault (p : Part) (t b thread : Nat) (pc : Word) (cause addr : Nat) (write : Bool) : Part :=
  match (p.bed b).cmd with
  | none => p
  | some bc =>
    let c := bc.cmd
    if p.fenced c.plot then (p.drainFault c.plot).bedStop b
    else
      let q := p.iff (cause == 3) (fun r => r.logOutside t b c.plot bc.aper addr write)
      let q := ((q.set (F.BED_FAULT_VALID b)).put (F.BED_FAULT_CAUSE b) cause).put (F.BED_FAULT_THREAD b) thread
      let q := (q.put (F.BED_FAULT_PC_PC b) pc.toNat).put (F.BED_FAULT_ADDR_ADDR b)
        (if cause = 1 ∨ cause = 6 ∨ cause = 7 then 0 else addr)
      (q.bedStop b).raiseFault c.job c.plot cause (c.seq.getD 0)

/-- What R262 clears at a command's start and at a reset: threads, accumulators, barriers, bolt counters. -/
def Part.bedClear (p : Part) (b : Nat) : Part :=
  p.modBed b (fun d => { d with threads := [], acc := [], bolts := [], barriers := [], queue := [] })

/-- BED_CTRL.RESET (R295): the bed stops without a fault record and is cleared; RESETTING until it is idle. -/
def Part.bedReset (p : Part) (b : Nat) : Part :=
  let q := (p.bedStop b).bedClear b
  let q := q.modBed b (fun d => { d with cmd := none })
  let q := q.resetRegs (fun a => a == R.BED_FAULT b || a == R.BED_FAULT_PC b || a == R.BED_FAULT_ADDR b)
  ((q.bedStatus b).set (F.BED_STATUS_RESETTING b)).put (F.DSP_BED_APER_BASE b) 0

/-! Threads. -/

def xReg (u : Thread) (r : Nat) : Word := if r = 0 then 0 else FMap.get (fun _ => 0) u.x r
def setX (u : Thread) (r : Nat) (v : Word) : Thread := if r = 0 then u else { u with x := FMap.put (fun _ => 0) u.x r v }

/-- Threads a command starts: the kernel's THREADS (R263), 16 for a layer (R336), 16 for the tracker on a bed (R578). -/
def Part.taskThreads (p : Part) (t : Task) : Nat :=
  match t with
  | .kernel k _ _ => p.img.kernelThreads k
  | .layer _ _ => 16
  | .tracker => 16
  | _ => 0

/-- The job input record (R390). -/
def Part.jobInput (p : Part) (j : Job) : List Byte :=
  let m : Nat → Member := fun i => (j.members[i]?).getD { stream := 0xFF, frameSeq := 0, gen := 0, missing := false }
  let pair := p.img.pipeInputKind j.pipe == 1
  let missing := ((List.range 4).map (fun i => if (m i).missing then 2 ^ i else 0)).sum
  toLe 4 (j.id.getD 0) ++ toLe 1 j.pipe ++ toLe 1 (if pair then 1 else 0) ++ toLe 1 missing ++
    toLe 1 ((if j.tainted then 1 else 0) + (if j.reissued then 2 else 0)) ++ toLe 8 j.ts ++
    (List.range 4).flatMap (fun i => toLe 4 (m i).frameSeq) ++ (List.range 4).flatMap (fun i => toLe 2 (m i).gen) ++
    (List.range 4).flatMap (fun i => toLe 1 (m i).stream) ++ List.replicate 20 0

/-- The argument block of a pipeline's kernel: the job input record and the stage's block from the image (R390). -/
def Part.kernelArgs (p : Part) (j : Job) : List Byte :=
  p.jobInput j ++ p.img.bytes (p.img.stageBlock j.pipe j.stage) (p.img.stageP2 j.pipe j.stage)

/-- A pipeline's kernel finds its argument block at `a`, as far as that lies in its plot's map. -/
def Part.putArgs (p : Part) (k aper a : Nat) (l : List Byte) : Part :=
  ((List.range l.length).zip l).foldl (fun (q : Part) e => match (threadAddr aper (a + e.1)).bind (q.virtKey k) with
    | some key => q.setByte key e.2
    | none => q) p

/-- A bed clears its state and starts its command's threads (R262, R263). Code base and, for a pipeline's kernel, the
argument block's address are free values, since the spec gives no placement. -/
def Part.bedStart (p : Part) (t b : Nat) : Part :=
  match (p.bed b).cmd with
  | none => p
  | some c =>
    let n := p.taskThreads c.cmd.task
    let q := p.bedClear b
    let base := q.fresh
    let arg := match c.cmd.task with
      | .kernel _ (some a) _ => (a, base.2)
      | _ =>
        let f := base.2.fresh
        let a := (BitVec.setWidth 32 f.1).toNat
        match c.cmd.task, c.cmd.job.bind p.job? with
        | .kernel _ _ _, some j => (a, f.2.putArgs c.cmd.plot c.aper a (p.kernelArgs j))
        | _, _ => (a, f.2)
    let entry := match c.cmd.task with
      | .kernel k _ _ => BitVec.setWidth 32 base.1 + BitVec.ofNat 32 (p.img.kernelEntry k)
      | _ => BitVec.setWidth 32 base.1
    let mk := fun (th : Nat) =>
      let u := { Thread.init th with pc := entry, wait := .ready }
      setX (setX (setX (setX u 10 (BitVec.ofNat 32 th)) 11 (BitVec.ofNat 32 n)) 12 (BitVec.ofNat 32 arg.1)) 13
        (BitVec.ofNat 32 b)
    let q := arg.2.each (List.range n) (fun r th => r.setThread b th (mk th))
    let q := q.modBed b (fun d => { d with cmd := some { c with started := true, startAt := t } })
    (q.put (F.DSP_BED_APER_BASE b) (c.aper / 2 ^ 21)).bedStatus b

/-! Address generator descriptors (R276 to R278). -/

/-- An address generator descriptor. -/
structure Agd where
  base : Nat
  elem : Nat
  padEn : Bool
  segEn : Bool
  cnt : List Nat
  str : List Int
  x0 : Int
  y0 : Int
  dx : List Int
  dy : List Int
  xw : Nat
  yh : Nat
  padval : Nat
  segtab : Nat
  segn : Nat
  outmask : Nat
  deriving DecidableEq, Repr

/-- Read a descriptor from its 64 bytes; none where it breaks R276. -/
def readAgd (l : List Byte) : Option Agd :=
  let u8 := fun o => (l.getD o 0).toNat
  let le := fun o n => leNat ((l.drop o).take n)
  let zero := fun o n => ((l.drop o).take n).all (· == 0)
  let cnt := (List.range 4).map (fun i => le (0x08 + 2 * i) 2)
  if l.length = 64 ∧ u8 5 < 4 ∧ zero 6 2 ∧ zero 0x3A 6 ∧ cnt.all (· != 0) ∧ u8 4 ≤ 9 ∧ u8 0x38 ≤ 32 then
    some { base := le 0 4, elem := u8 4, padEn := u8 5 % 2 == 1, segEn := u8 5 / 2 == 1, cnt := cnt,
           str := (List.range 4).map (fun i => sext 32 (le (0x10 + 4 * i) 4)), x0 := sext 16 (le 0x20 2),
           y0 := sext 16 (le 0x22 2), dx := (List.range 4).map (fun i => sext 8 (u8 (0x24 + i))),
           dy := (List.range 4).map (fun i => sext 8 (u8 (0x28 + i))), xw := le 0x2C 2, yh := le 0x2E 2,
           padval := le 0x30 4, segtab := le 0x34 4, segn := u8 0x38, outmask := u8 0x39 }
  else none

/-- Elements of a walk. -/
def Agd.count (a : Agd) : Nat := a.cnt.foldl (· * ·) 1

/-- Loop indices of element `j`, level 0 fastest. -/
def Agd.index (a : Agd) (j : Nat) : List Nat :=
  let c := fun i => a.cnt.getD i 1
  [j % c 0, j / c 0 % c 1, j / (c 0 * c 1) % c 2, j / (c 0 * c 1 * c 2)]

/-- Sum over the levels of index times step. -/
def dotIx (ix : List Nat) (st : List Int) : Int := (ix.zip st).foldl (fun s e => s + (e.1 : Int) * e.2) 0

/-- Where element `j` lies: none for padding, else its thread-view address and its nibble (0 low; 0 for other formats). `segs`
holds the segment marks (R277). -/
def Agd.place (a : Agd) (segs : List (Nat × Nat)) (j : Nat) : Option (Nat × Nat) :=
  let ix := a.index j
  let x := a.x0 + dotIx ix a.dx
  let y := a.y0 + dotIx ix a.dy
  let ref := a.x0 + dotIx (ix.mapIdx (fun i n => if a.outmask.testBit i then n else 0)) a.dx
  let inside := decide (0 ≤ x ∧ x < (a.xw : Int) ∧ 0 ≤ y ∧ y < (a.yh : Int))
  let covers := fun (s : Nat × Nat) (v : Int) => decide ((s.1 : Int) ≤ v ∧ v < (s.1 : Int) + s.2)
  let segOk := match segs.find? (fun s => covers s ref) with
    | some s => covers s x
    | none => false
  if (a.padEn && !inside) || (a.segEn && !segOk) then none
  else
    let off := dotIx ix a.str
    if a.elem = 0 then
      let n := (2 * (a.base : Int) + off) % (2 ^ 33 : Int)
      some ((n / 2).toNat, (n % 2).toNat)
    else some ((((a.base : Int) + off) % (2 ^ 32 : Int)).toNat, 0)

/-! Local store access of the engine (R275, R292). -/

/-- Thread-view base of a bed's own store. -/
def ownBase (b : Nat) : Nat := 0x80000000 + b * 0x200000

/-- The key of an address in bed `b`'s own store that plot `k` may access; none where R275 or R292 refuses it. -/
def Part.ownKey (p : Part) (k b a : Nat) (write : Bool) : Option Nat :=
  if ownBase b ≤ a ∧ a < ownBase b + 0x180000 ∧ p.ownsBank k b ((a - ownBase b) / 0x8000) ∧
    (write ∨ !p.bankLocked k b ((a - ownBase b) / 0x8000)) then some (bedBase b + (a - ownBase b)) else none

/-- `n` bytes at an address of the own store; the first address refused, where one is. -/
def Part.ownLoad (p : Part) (k b a n : Nat) : Except Nat (List Byte) :=
  (List.range n).mapM (fun i => match p.ownKey k b (a + i) false with
    | some key => .ok (p.byte key)
    | none => .error (a + i))

/-- A read element of a walk: PADVAL for padding; the refused address, where one is. -/
def Part.walkElem (p : Part) (k b : Nat) (a : Agd) (segs : List (Nat × Nat)) (j : Nat) : Except Nat Nat :=
  match a.place segs j with
  | none => .ok (a.padval % 2 ^ fmtBits a.elem)
  | some (addr, nib) =>
    (p.ownLoad k b addr (max 1 (fmtBits a.elem / 8))).map (fun l =>
      if a.elem = 0 then (if nib = 0 then leNat l % 16 else leNat l / 16) else leNat l)

/-- The value with one nibble replaced. -/
def putNibble (o : Byte) (nib x : Nat) : Byte :=
  BitVec.ofNat 8 (if nib = 0 then o.toNat / 16 * 16 + x % 16 else o.toNat % 16 + 16 * (x % 16))

/-- Write an element of a walk in the own store; the refused address, where one is. Padding is not written. -/
def Part.putElem (p : Part) (k b : Nat) (a : Agd) (segs : List (Nat × Nat)) (j x : Nat) : Except Nat Part :=
  match a.place segs j with
  | none => .ok p
  | some (addr, nib) =>
    match (List.range (max 1 (fmtBits a.elem / 8))).mapM (fun i => p.ownKey k b (addr + i) true) with
    | none => .error addr
    | some keys =>
      .ok (p.storeAt keys (if a.elem = 0 then [putNibble (p.byte (keys.headD 0)) nib x]
        else toLe (fmtBits a.elem / 8) x))

/-- Segment marks: SEGN pairs of COL and WIDTH. -/
def readSegs (l : List Byte) (n : Nat) : List (Nat × Nat) :=
  (List.range n).map (fun i => (leNat ((l.drop (4 * i)).take 2), leNat ((l.drop (4 * i + 2)).take 2)))

/-- Why an engine operation faults: cause, address, and whether the access was a write. -/
abbrev EngFault := Nat × Nat × Bool

/-- A descriptor of an engine operation with its segment marks, from the own store (R275, R276). -/
def Part.engAgd (p : Part) (k b a : Nat) : Except EngFault (Agd × List (Nat × Nat)) :=
  match p.ownLoad k b a 64 with
  | .error e => .error (3, e, false)
  | .ok l =>
    match readAgd l with
    | none => .error (6, 0, false)
    | some g =>
      if a % 64 ≠ 0 then .error (6, 0, false)
      else if !g.segEn then .ok (g, [])
      else match p.ownLoad k b g.segtab (4 * g.segn) with
        | .error e => .error (3, e, false)
        | .ok s => .ok (g, readSegs s g.segn)

/-! Engine operations (R271, R280 to R282). -/

def accAt (a m n : Nat) : Nat := a * 2048 + 64 * m + n
def Bed.accGet (d : Bed) (a m n : Nat) : Nat := (FMap.get (fun _ => (0 : Word)) d.acc (accAt a m n)).toNat
def Bed.accPut (d : Bed) (a m n v : Nat) : Bed :=
  { d with acc := FMap.put (fun _ => (0 : Word)) d.acc (accAt a m n) (BitVec.ofNat 32 v) }

/-- Fields of TCFG (R281). -/
def tcA (c : Word) : Nat := c.bits 3 0
def tcB (c : Word) : Nat := c.bits 7 4
def tcO (c : Word) : Nat := c.bits 11 8
def tcReserved (c : Word) : Bool := c.bits 15 15 != 0 || c.bits 31 20 != 0

/-- TMMA (R280): K steps in order, each over the 32 x 64 elements. A refused address stops it at its step. -/
def Part.runMma (p : Part) (k b acc : Nat) (c : Word) (ra rb : Nat) : Part × Option EngFault :=
  match pairAcc (tcA c) (tcB c), p.engAgd k b ra, p.engAgd k b rb with
  | none, _, _ => (p, some (6, 0, false))
  | _, .error e, _ => (p, some e)
  | _, _, .error e => (p, some e)
  | some int, .ok (ga, sa), .ok (gb, sb) =>
    let steps := ga.count / 32
    if ga.elem ≠ tcA c ∨ gb.elem ≠ tcB c ∨ ga.count % 32 ≠ 0 ∨ gb.count % 64 ≠ 0 ∨ gb.count / 64 ≠ steps ∨
      steps = 0 ∨ 65535 < steps then (p, some (6, 0, false))
    else
      let step := fun (q : Part × Option EngFault) (i : Nat) =>
        if q.2.isSome then q
        else
          match (List.range 32).mapM (fun m => q.1.walkElem k b ga sa (32 * i + m)),
            (List.range 64).mapM (fun n => q.1.walkElem k b gb sb (64 * i + n)) with
          | .ok va, .ok vb =>
            (q.1.modBed b (fun d => (List.range 2048).foldl (fun d j =>
              d.accPut acc (j / 64) (j % 64) (macStep int (tcA c) (tcB c) (d.accGet acc (j / 64) (j % 64))
                (va.getD (j / 64) 0) (vb.getD (j % 64) 0))) d), none)
          | .error e, _ => (q.1, some (3, e, false))
          | _, .error e => (q.1, some (3, e, false))
      (List.range steps).foldl step (p, none)

/-- A scale entry from its 16 bytes (R282). -/
def scaleOf (l : List Byte) : Scale :=
  { bias := leNat (l.take 4), mult := leNat ((l.drop 4).take 4), zp := sext 32 (leNat ((l.drop 8).take 4)) }

/-- TRQ (R282, R311): each non-padding element of the output walk, in order, with bolt counting. -/
def Part.runRq (p : Part) (k b acc : Nat) (c : Word) (out table : Nat) : Part × Option EngFault :=
  match pairAcc (tcA c) (tcB c), p.engAgd k b out with
  | none, _ => (p, some (6, 0, false))
  | _, .error e => (p, some e)
  | some int, .ok (g, segs) =>
    if 8 < tcO c ∨ g.elem ≠ tcO c ∨ g.count = 0 ∨ 2048 < g.count then (p, some (6, 0, false))
    else
      (List.range g.count).foldl (fun (q : Part × Option EngFault) j =>
        if q.2.isSome ∨ (g.place segs j).isNone then q
        else
          let ch := if c.bits 14 14 = 0 then j % 64 else j / 64
          match q.1.ownLoad k b (table + 16 * ch) 16 with
          | .error e => (q.1, some (3, e, false))
          | .ok l =>
            let r := requant int ((q.1.bed b).accGet acc (j / 64) (j % 64)) (tcO c) (c.bits 12 12 == 1) (scaleOf l)
            let q1 := if r.2 && c.bits 13 13 == 1 then q.1.modBed b (fun d => { d with
                bolts := FMap.put (fun _ => 0) d.bolts (c.bits 19 16) (FMap.get (fun _ => 0) d.bolts (c.bits 19 16) + 1) })
              else q.1
            match q1.putElem k b g segs j r.1 with
            | .ok q2 => (q2, none)
            | .error e => (q1, some (3, e, true))) (p, none)

/-- Carry out one engine operation (R280). -/
def Part.runEngine (p : Part) (k b : Nat) (o : EngOp) : Part × Option EngFault :=
  let all := (List.range 2048)
  if tcReserved o.tcfg then (p, some (6, 0, false))
  else match o.kind with
    | .zero => (p.modBed b (fun d => all.foldl (fun d j => d.accPut o.acc (j / 64) (j % 64) 0) d), none)
    | .mma ra rb => p.runMma k b o.acc o.tcfg ra rb
    | .ldacc a =>
      if a % 64 ≠ 0 then (p, some (6, 0, false))
      else match p.ownLoad k b a 8192 with
        | .error e => (p, some (3, e, false))
        | .ok l => (p.modBed b (fun d => all.foldl (fun d j =>
            d.accPut o.acc (j / 64) (j % 64) (leNat ((l.drop (4 * j)).take 4))) d), none)
    | .stacc a =>
      if a % 64 ≠ 0 then (p, some (6, 0, false))
      else all.foldl (fun (q : Part × Option EngFault) j =>
        if q.2.isSome then q
        else match (List.range 4).mapM (fun i => q.1.ownKey k b (a + 4 * j + i) true) with
          | none => (q.1, some (3, a + 4 * j, true))
          | some ks => (q.1.storeAt ks (toLe 4 ((q.1.bed b).accGet o.acc (j / 64) (j % 64))), none)) (p, none)
    | .rq out table => p.runRq k b o.acc o.tcfg out table

/-! Waiting threads (R264, R280, R287, R289). -/

/-- Engine operations of a thread that are queued or running. -/
def Bed.engineOps (d : Bed) (t : Nat) : Nat := (d.queue.filter (fun o => o.thread == t)).length
/-- TPUT copies of a thread in flight. -/
def Bed.copies (d : Bed) (t : Nat) : Nat := (d.tputs.filter (fun o => o.thread == t)).length

/-- A wait of a thread that has come to its end; the result of TWAIT goes to rd. -/
def wake (d : Bed) (t : Nat) (u : Thread) : Thread :=
  match u.wait with
  | .twait rd n => if d.engineOps t ≤ n then { setX u rd (BitVec.ofNat 32 (d.engineOps t)) with wait := .ready } else u
  | .tfence m =>
    if (m % 2 = 1 ∧ d.engineOps t ≠ 0) ∨ (m / 2 % 2 = 1 ∧ d.copies t ≠ 0) then u else { u with wait := .ready }
  | .engine => if d.queue.length < 16 then { u with wait := .ready } else u
  | _ => u

/-- Every thread whose wait has ended goes on. -/
def Part.wakeAll (p : Part) (b : Nat) : Part :=
  (p.each (List.range 64) (fun q t =>
    let u := q.thread b t
    let v := wake (q.bed b) t u
    if u = v then q else q.setThread b t v)).bedStatus b

/-- The engine operation at the queue's front ends (R271, R294). -/
def Part.engineDone (p : Part) (t b : Nat) : Part :=
  match (p.bed b).queue, p.bedCmd b with
  | o :: rest, some c =>
    let r := p.runEngine c.plot b o
    match r.2 with
    | some (cause, addr, write) => r.1.bedFault t b o.thread o.pc cause addr write
    | none => (r.1.modBed b (fun d => { d with queue := rest })).wakeAll b
  | _, _ => p

/-- A mesh copy completes (R283): its bytes reach the destination banks. -/
def Part.tputDone (p : Part) (b i : Nat) : Part :=
  match (p.bed b).tputs[i]? with
  | none => p
  | some c =>
    let q := p.modBed b (fun d => { d with tputs := d.tputs.eraseIdx i })
    let q := q.store c.dst (q.load c.src c.len)
    q.wakeAll b

end Sys2Proof.Machine
end

