-- ==== Sys2Proof/Machine/Layers.lean ====
section
/-! DEFINITION. What one stripe of a model layer computes on one bed (12_operator_mapping): the Gardener's mapping of the
operator descriptor to passes, tiles and stripes, and the elements that TRQ writes. -/

namespace Sys2Proof.Machine

namespace Rd

/-- A field of the Pruner parameter block of stage `i` of pipeline `k` (R234). -/
def prn8 (r : Rd) (k i o : Nat) : Nat := r.u8 (r.stageBlock k i + o)
def prn16 (r : Rd) (k i o : Nat) : Nat := r.u16 (r.stageBlock k i + o)
def prn32 (r : Rd) (k i o : Nat) : Nat := r.u32 (r.stageBlock k i + o)
def prn64 (r : Rd) (k i o : Nat) : Nat := r.u64 (r.stageBlock k i + o)
/-- OUT_FMT of a Pruner stage. -/
def prnFmt (r : Rd) (k i : Nat) : Nat := r.prn8 k i 1
/-- The Pruner stages of a plot's drill group: pipeline and stage. -/
def groupStages (r : Rd) (plot g : Nat) : List (Nat × Nat) :=
  ((List.range 64).filter (fun k => (r.pipeRec k).isSome && r.pipePlot k == plot)).flatMap (fun k =>
    ((List.range (r.pipeStages k)).filter (fun i => r.stageKind k i == 0 && r.prn8 k i 0x0A == g)).map (fun i => (k, i)))
/-- The Pruner stage that stands before a stage naming model `m`, the lowest pipeline first. -/
def prunerBefore (r : Rd) (m : Nat) : Option (Nat × Nat) :=
  (List.range 64).findSome? (fun k =>
    if (r.pipeRec k).isSome then
      ((List.range (r.pipeStages k)).find? (fun i => r.stageKind k i == 1 && r.stageRef k i == m && decide (0 < i) &&
        r.stageKind k (i - 1) == 0)).map (fun i => (k, i - 1))
    else none)
/-- The model whose stage stands before a stage naming model `m`, the lowest pipeline first. -/
def modelBefore (r : Rd) (m : Nat) : Option Nat :=
  (List.range 64).findSome? (fun k =>
    if (r.pipeRec k).isSome then
      ((List.range (r.pipeStages k)).find? (fun i => r.stageKind k i == 1 && r.stageRef k i == m && decide (0 < i) &&
        r.stageKind k (i - 1) == 1)).map (fun i => r.stageRef k (i - 1))
    else none)

end Rd

/-- The group's key among the drill groups: plot x 16 + DRILL_GROUP. -/
def groupKey (plot g : Nat) : Nat := plot * 16 + g

/-- The drill a group delivered with a DRILL_SEQ. -/
def Part.drillOf (p : Part) (d : Nat × Nat) : Option Drill :=
  ((p.grp d.1).used.find? (fun e => e.1.seq == d.2)).map (·.1)

/-- A format with its wide form in effect (R315, R319). -/
def widen (wide : Bool) (f : Nat) : Nat := if wide then (wideFmt f).getD f else f

/-- The narrow input format of layer `i` of an inference (R315, R331). -/
def Part.inFmt (p : Part) (u : Infer) (i : Nat) : Nat :=
  if 0 < i then p.img.layerAfmt u.model (i - 1)
  else
    let viaDrill := match u.drill with
      | some d => (p.img.groupStages (d.1 / 16) (d.1 % 16)).head?
      | none => none
    match viaDrill.or (p.img.prunerBefore u.named) with
    | some (k, j) => p.img.prnFmt k j
    | none => match p.img.modelBefore u.named with
      | some m => p.img.layerAfmt m (p.img.modelLayers m - 1)
      | none => p.img.layerAfmt u.model 0

/-- A layer's beds for an inference: those of its blob when pinned, the pipeline's when streamed (R335, R370). -/
def Part.inferBeds (p : Part) (u : Infer) (i : Nat) : List Nat :=
  if p.img.modelResidency u.model = 0 then p.layerBeds u.model i
  else bedsOf (if u.pipe < 64 then p.img.pipeBeds u.pipe else p.img.streamedBeds u.model)

/-- What one bed needs to run a layer of an inference. -/
structure LayerRun where
  d : OpDesc
  plot : Nat
  bed : Nat
  nb : Nat
  /-- The bed's place among the layer's beds. -/
  ix : Nat
  fin : Nat
  fw : Nat
  fout : Nat
  /-- Plot-virtual input address, and the output's destinations. -/
  inAddr : Nat
  outs : List Nat
  segs : List (Nat × Nat)
  deriving DecidableEq, Repr

/-- Whether a plot-virtual address lies in a bed's own store (R346). -/
def inStore (b a : Nat) : Bool := decide (0x800000000000 + b * 0x200000 ≤ a) && decide (a < 0x800000000000 + b * 0x200000 + 0x180000)
/-- Whether it lies in the bed region. -/
def inBeds (a : Nat) : Bool := decide (0x800000000000 ≤ a) && decide (a < 0x800008000000)

/-- The run of layer `i` of inference `u` on bed `b`. The input of layer 0 on a drill is offset by the drill's slot. -/
def Part.layerRun (p : Part) (u : Infer) (i b : Nat) : LayerRun :=
  let d := readDesc (p.head u.model i)
  let beds := p.inferBeds u i
  let wideOut := u.rerun || u.wideSpan == some (p.img.layerSpan u.model i)
  let drill := u.drill.bind p.drillOf
  let slotOff := match drill, u.drill with
    | some dr, some (g, _) => match (p.img.groupStages (g / 16) (g % 16)).head? with
      | some (k, j) => if i = 0 then dr.slot * p.img.prn32 k j 0x18 else 0
      | none => 0
    | _, _ => 0
  let next := if i + 1 < p.img.modelLayers u.model then p.inferBeds u (i + 1) else []
  let outs := if inStore b d.outAddr ∨ !inBeds d.outAddr ∨ next = [] then [d.outAddr]
    else next.map (fun n => 0x800000000000 + n * 0x200000 + (d.outAddr - 0x800000000000) % 0x200000)
  { d := d, plot := u.plot, bed := b, nb := beds.length, ix := (beds.findIdx? (· == b)).getD 0,
    fin := widen u.wideIn (p.inFmt u i), fw := p.img.layerWfmt u.model i, fout := widen wideOut (p.img.layerAfmt u.model i),
    inAddr := d.inAddr + slotOff, outs := outs, segs := u.segs.map (fun s => (s.col, s.width)) }

/-- Groups that the bed computes (R335). -/
def LayerRun.groups (l : LayerRun) : List Nat :=
  (List.range l.d.groups).filter (fun g => l.d.wRepl || g % l.nb == l.ix)
/-- First output row of the bed's share, and their number (R335). -/
def LayerRun.share (l : LayerRun) : Nat × Nat :=
  if l.d.wRepl then
    let n := ceilDiv l.d.ho l.nb
    (l.ix * n, min n (l.d.ho - l.ix * n))
  else (0, l.d.ho)
/-- Output channels that the bed writes. -/
def LayerRun.channels (l : LayerRun) : List Nat :=
  l.groups.flatMap (fun g => (List.range (min 64 (l.d.cout - 64 * g))).map (64 * g + ·))
/-- The input is held in place, and the output is written in place (R346). -/
def LayerRun.inPlace (l : LayerRun) : Bool := inStore l.bed l.inAddr
def LayerRun.outPlace (l : LayerRun) : Bool := inStore l.bed l.d.outAddr

/-- Bytes of the stripe buffers of `n` output rows (R347). -/
def LayerRun.buffers (l : LayerRun) (n : Nat) : Nat :=
  let rows := (n - 1) * l.d.sh + l.d.dh * (l.d.kh - 1) + 1
  let chIn := if l.d.op = 0 ∨ l.d.op = 2 then l.d.cin else l.channels.length
  let one := chIn * Rd.up (elemBytes l.fin l.d.win) 64 * rows
  let second := if l.d.op = 5 ∨ l.d.op = 6 then (if inStore l.bed l.d.in2Addr then 0 else 1) else 0
  let ins := (if l.inPlace then 0 else 1) + second
  let out := if l.outPlace then 0 else l.channels.length * Rd.up (elemBytes l.fout l.d.wo) 64 * n
  2 * ins * one + 2 * out

/-- The stripe height R (R347). -/
def LayerRun.height (l : LayerRun) : Nat :=
  let all := l.share.2
  ((List.range all).reverse.find? (fun k => decide (0x9000 + l.buffers (k + 1) ≤ l.d.workBytes))).map (· + 1) |>.getD 1

/-- Stripes of the bed's share. -/
def LayerRun.stripes (l : LayerRun) : Nat := ceilDiv l.share.2 l.height
/-- First and last output row of stripe `s`. -/
def LayerRun.rows (l : LayerRun) (s : Nat) : Nat × Nat :=
  let a := l.share.1 + s * l.height
  (a, min (a + l.height) (l.share.1 + l.share.2))
/-- The last input row that stripe `s` reads (R346). -/
def LayerRun.lastIn (l : LayerRun) (s : Nat) : Nat :=
  let y1 := (l.rows s).2 - 1
  min (l.d.hin - 1) (y1 * l.d.sh + l.d.dh * (l.d.kh - 1) - l.d.pt)

/-- A plain matrix product (R340). -/
def OpDesc.plain (d : OpDesc) : Bool :=
  (d.op == 0 || d.op == 2) && d.kh == 1 && d.kw == 1 && d.sh == 1 && d.sw == 1 && d.pt == 0 && d.pb == 0 && d.pl == 0 && d.pr == 0
/-- The layer is tiled by segments (R343). -/
def LayerRun.bySeg (l : LayerRun) : Bool := l.d.flags / 2 % 2 == 1 && !l.d.plain
/-- W' of a segment (R344). -/
def OpDesc.segOut (d : OpDesc) (w : Nat) : Nat :=
  let n : Int := (w : Int) + d.pl + d.pr - d.dw * (d.kw - 1 : Nat) - 1
  if n < 0 then 0 else n.toNat / d.sw + 1
/-- Output segments: first input column and width, first output column and width (R344). -/
def OpDesc.outSegs (d : OpDesc) : Nat → List (Nat × Nat) → List (Nat × Nat × Nat × Nat)
  | _, [] => []
  | c, (col, w) :: r => (col, w, c, d.segOut w) :: OpDesc.outSegs d (c + ceilDiv (d.segOut w) 32 * 32) r
/-- The spans of columns that are tiled: input column base and extent, output column base and width. -/
def LayerRun.spans (l : LayerRun) : List (Nat × Nat × Nat × Nat) :=
  if l.bySeg then (l.d.outSegs 0 l.segs).filter (fun e => e.2.2.2 != 0) else [(0, l.d.win, 0, l.d.wo)]
/-- Tiles of stripe `s` on the bed (R336, R340, R356). -/
def LayerRun.tiles (l : LayerRun) (s : Nat) : Nat :=
  let n := (l.rows s).2 - (l.rows s).1
  let flat := l.d.plain && l.d.inPitch == elemBytes l.fin l.d.win && l.d.hin * l.d.win % 32 == 0 &&
    (if l.outPlace then l.d.outPitch else Rd.up (elemBytes l.fout l.d.wo) 64) == elemBytes l.fout l.d.wo
  l.groups.length * (if flat then ceilDiv (n * l.d.wo) 32 else n * ((l.spans.map (fun e => ceilDiv e.2.2.2 32)).sum))

/-- Sub-filter origins and extents along one axis (R342). -/
def subFilters (n : Nat) : List (Nat × Nat) := (List.range (ceilDiv n 7)).map (fun a => (7 * a, min 7 (n - 7 * a)))
/-- The passes of a tile in order: ky0, KH', kx0, KW', c0, C' (R339, R342). -/
def OpDesc.passes (d : OpDesc) : List (Nat × Nat × Nat × Nat × Nat × Nat) :=
  let big := decide (7 < d.kh) || decide (7 < d.kw)
  let ys := if big then subFilters d.kh else [(0, d.kh)]
  let xs := if big then subFilters d.kw else [(0, d.kw)]
  ys.flatMap (fun y => xs.flatMap (fun x =>
    let c := min d.cin (65535 / (y.2 * x.2))
    (List.range (ceilDiv d.cin c)).map (fun i => (y.1, y.2, x.1, x.2, c * i, min c (d.cin - c * i)))))

/-- A layer's fault: cause and address. Memory that Barrow moves gives CHANNEL, a bed's own store ACCESS (R353). -/
abbrev LayFault := Nat × Nat

/-- The element of a format at element index `n` from a plot-virtual base. -/
def Part.elemAt (p : Part) (l : LayerRun) (base fmt n : Nat) : Except LayFault Nat :=
  let bits := fmtBits fmt
  let a := base + n * bits / 8
  let keys := (List.range (max 1 (bits / 8))).mapM (fun i => p.virtKey l.plot (a + i))
  match keys with
  | none => .error (if inStore l.bed a then 3 else 11, a)
  | some ks =>
    if ks.any (p.lockedKey l.plot) then .error (if inStore l.bed a then 3 else 11, a)
    else
      let v := leNat (p.loadKeys ks)
      .ok (if fmt = 0 then (if n % 2 = 0 then v % 16 else v / 16) else v)

/-- An input element (c, y, x) of a span, or none for padding (R338, R343). -/
def Part.inElem (p : Part) (l : LayerRun) (addr : Nat) (sp : Nat × Nat × Nat × Nat) (c : Nat) (y x : Int) :
    Except LayFault (Option Nat) :=
  if y < 0 ∨ (l.d.hin : Int) ≤ y ∨ x < 0 ∨ (sp.2.1 : Int) ≤ x then .ok none
  else (p.elemAt l (addr + c * l.d.inPlane + y.toNat * l.d.inPitch) l.fin (sp.1 + x.toNat)).map some

/-- A weight (R334, R335): group `g`, element offset `n` from its base on the bed. -/
def Part.weight (p : Part) (l : LayerRun) (g n : Nat) : Except LayFault Nat :=
  let slot := if l.d.wRepl then g else g / l.nb
  let base := 0x800000000000 + l.bed * 0x200000 + l.d.wOff + slot * l.d.groupBytes l.fw
  p.elemAt l base l.fw n

/-- The format is an integer one with INT32 images, or FP32 images (R350). -/
def intImage (f : Nat) : Bool := fmtIsInt f
/-- The code of the zero point as an element (R338). -/
def zCode (f : Nat) (z : Int) : Nat := if fmtIsInt f then twos (fmtBits f) z else 0

/-- The input position of a tap. -/
def OpDesc.tapY (d : OpDesc) (yo ky : Nat) : Int := (yo : Int) * d.sh - d.pt + ky * d.dh
def OpDesc.tapX (d : OpDesc) (xo kx : Nat) : Int := (xo : Int) * d.sw - d.pl + kx * d.dw

/-- The accumulator of a CONV or MATMUL output: passes in order, and in each k order c, ky, kx (R338, R339, R342). -/
def Part.convAcc (p : Part) (l : LayerRun) (sp : Nat × Nat × Nat × Nat) (n yo xo : Nat) (int : Bool) : Except LayFault Nat :=
  let d := l.d
  let taps := d.passes.flatMap (fun q => (List.range q.2.2.2.2.2).flatMap (fun c =>
    (List.range q.2.1).flatMap (fun ky => (List.range q.2.2.2.1).map (fun kx => (q.2.2.2.2.1 + c, q.1 + ky, q.2.2.1 + kx)))))
  taps.foldlM (fun acc e => do
    let a ← p.inElem l l.inAddr sp e.1 (d.tapY yo e.2.1) (d.tapX xo e.2.2)
    let w ← p.weight l (n / 64) (((e.1 * d.kh + e.2.1) * d.kw + e.2.2) * 64 + n % 64)
    pure (macStep int l.fin l.fw acc (a.getD (zCode l.fin d.z1)) w)) 0

/-- The taps of a window in ky then kx order. -/
def OpDesc.window (d : OpDesc) : List (Nat × Nat) := (List.range d.kh).flatMap (fun ky => (List.range d.kw).map (fun kx => (ky, kx)))

/-- The FP32 sum of a list in order. -/
def f32Sum : List Nat → Nat
  | [] => 0
  | x :: r => r.foldl f32Add x
/-- An element as FP32 bits, less its zero point for an integer format. -/
def asF32 (f : Nat) (z : Int) (q : Nat) : Nat := if fmtIsInt f then f32OfInt (fmtInt f q - z) else fp32.encode (fmtFpVal f q)

/-- DWCONV (R350). -/
def Part.dwAcc (p : Part) (l : LayerRun) (sp : Nat × Nat × Nat × Nat) (n yo xo : Nat) : Except LayFault Nat := do
  let d := l.d
  let ts ← d.window.mapM (fun e => do
    let a ← p.inElem l l.inAddr sp n (d.tapY yo e.1) (d.tapX xo e.2)
    let w ← p.weight l (n / 64) ((n % 64 * d.kh + e.1) * d.kw + e.2)
    pure (a.getD (zCode l.fin d.z1), w))
  if intImage l.fin then pure (ts.foldl (fun s e => macStep true l.fin l.fw s e.1 e.2) 0)
  else pure (f32Sum (ts.map (fun e => f32Mul (fp32.encode (fmtFpVal l.fin e.1)) (fp32.encode (fmtFpVal l.fw e.2)))))

/-- MAXPOOL and AVGPOOL (R350). -/
def Part.poolAcc (p : Part) (l : LayerRun) (sp : Nat × Nat × Nat × Nat) (n yo xo : Nat) (isMax : Bool) : Except LayFault Nat := do
  let d := l.d
  let ts ← d.window.mapM (fun e => p.inElem l l.inAddr sp n (d.tapY yo e.1) (d.tapX xo e.2))
  if intImage l.fin then
    let v := fun (o : Option Nat) => match o with
      | some q => fmtInt l.fin q - d.z1
      | none => if isMax then (fmtRange l.fin).1 - d.z1 else 0
    let vs := ts.map v
    pure (twos 32 (if isMax then vs.tail.foldl max (vs.headD 0) else vs.foldl (· + ·) 0))
  else
    let least := fp32.encode (match (fmtFp l.fin).decode ((fmtFp l.fin).maxCode) with
      | .fin _ m e => .fin true m e
      | o => o)
    let vs := ts.map (fun o => match o with
      | some q => fp32.encode (fmtFpVal l.fin q)
      | none => if isMax then least else 0)
    pure (if isMax then vs.tail.foldl f32Max (vs.headD least) else f32Sum vs)

/-- ADD and MUL (R350): FP32 images. -/
def Part.pairAccum (p : Part) (l : LayerRun) (sp : Nat × Nat × Nat × Nat) (n yo xo : Nat) (isAdd : Bool) : Except LayFault Nat := do
  let d := l.d
  let a ← p.inElem l l.inAddr sp n yo xo
  let b ← p.inElem l d.in2Addr sp n yo xo
  let x := asF32 l.fin d.z1 (a.getD 0)
  let y := asF32 l.fin d.z2 (b.getD 0)
  if isAdd then pure (f32Add (f32Mul x d.m1) (f32Mul y d.m2))
  else if intImage l.fin then
    pure (f32OfInt ((fmtInt l.fin (a.getD 0) - d.z1) * (fmtInt l.fin (b.getD 0) - d.z2)))
  else pure (f32Mul x y)

/-- One output element's accumulator and whether it is INT32; none where the operand pair has no accumulator (R272). -/
def Part.outAcc (p : Part) (l : LayerRun) (sp : Nat × Nat × Nat × Nat) (n yo xo : Nat) : Except LayFault (Nat × Bool) :=
  match l.d.op with
  | 1 => (p.dwAcc l sp n yo xo).map (·, intImage l.fin)
  | 3 => (p.poolAcc l sp n yo xo true).map (·, intImage l.fin)
  | 4 => (p.poolAcc l sp n yo xo false).map (·, intImage l.fin)
  | 5 => (p.pairAccum l sp n yo xo true).map (·, false)
  | 6 => (p.pairAccum l sp n yo xo false).map (·, false)
  | _ => match pairAcc l.fin l.fw with
    | none => .error (6, 0)
    | some int => (p.convAcc l sp n yo xo int).map (·, int)

/-- Write one output element to every destination (R346). -/
def Part.outPut (p : Part) (l : LayerRun) (n yo col x : Nat) : Except LayFault Part :=
  let bits := fmtBits l.fout
  l.outs.foldlM (fun q base =>
    let a := base + n * l.d.outPlane + yo * l.d.outPitch + col * bits / 8
    match (List.range (max 1 (bits / 8))).mapM (fun i => q.virtKey l.plot (a + i)) with
    | none => .error (if inStore l.bed a then 3 else 11, a)
    | some ks => .ok (q.storeAt ks (if l.fout = 0 then [putNibble (q.byte (ks.headD 0)) (col % 2) x] else toLe (bits / 8) x))) p

/-- The outputs of stripe `s` in loop order: row, group, column tile, then the tile's elements (R336). -/
def LayerRun.order (l : LayerRun) (s : Nat) : List ((Nat × Nat × Nat × Nat) × Nat × Nat × Nat) :=
  let r := l.rows s
  (List.range (r.2 - r.1)).flatMap (fun y => l.groups.flatMap (fun g => l.spans.flatMap (fun sp =>
    (List.range sp.2.2.2).flatMap (fun xo =>
      (List.range (min 64 (l.d.cout - 64 * g))).map (fun n => (sp, 64 * g + n, r.1 + y, xo))))))

/-- Run one stripe: every output element through TRQ, with saturations counted in BCNT0 of the bed. The first fault ends it,
and what was written stays (R294, R355). -/
def Part.runStripe (p : Part) (l : LayerRun) (s : Nat) : Part × Option LayFault :=
  let scale := 0x800000000000 + l.bed * 0x200000 + l.d.scaleOff
  (l.order s).foldl (fun (q : Part × Option LayFault) e =>
    if q.2.isSome then q
    else
      let one : Except LayFault Part := do
        let acc ← q.1.outAcc l e.1 e.2.1 e.2.2.1 e.2.2.2
        let tab ← (List.range 16).mapM (fun i => q.1.elemAt l (scale + 16 * e.2.1) 1 i)
        let r := requant acc.2 acc.1 l.fout (l.d.flags % 2 == 1) (scaleOf (tab.map (BitVec.ofNat 8)))
        let q1 := if r.2 then q.1.modBed l.bed (fun b => { b with
            bolts := FMap.put (fun _ => 0) b.bolts 0 (FMap.get (fun _ => 0) b.bolts 0 + 1) }) else q.1
        q1.outPut l e.2.1 e.2.2.1 (e.1.2.2.1 + e.2.2.2) r.1
      match one with
      | .ok q1 => (q1, none)
      | .error f => (q.1, some f)) (p, none)

/-- Output columns of a drill layer that lie in no segment (R344). -/
def LayerRun.gaps (l : LayerRun) : List Nat :=
  if l.bySeg then
    (List.range (l.spans.foldl (fun m e => max m (e.2.2.1 + ceilDiv e.2.2.2 32 * 32)) l.d.wo)).filter (fun c =>
      l.spans.all (fun e => decide (c < e.2.2.1 ∨ e.2.2.1 + e.2.2.2 ≤ c)))
  else []

/-- Those columns hold unstated values: each takes a free value, as far as it lies in the plot's map (R344). -/
def Part.fillGaps (p : Part) (l : LayerRun) (s : Nat) : Part :=
  let r := l.rows s
  let cells := (List.range (r.2 - r.1)).flatMap (fun y => l.channels.flatMap (fun n => l.gaps.map (fun c => (n, r.1 + y, c))))
  cells.foldl (fun (q : Part) e =>
    let x := q.fresh
    match x.2.outPut l e.1 e.2.1 e.2.2 (x.1.toNat % 2 ^ fmtBits l.fout) with
    | .ok o => o
    | .error _ => q) p

/-- The counts of one stripe (DSP_P_TILES, DSP_P_STRIPES, DSP_P_PASSES). -/
def Part.countStripe (p : Part) (l : LayerRun) (s : Nat) : Part :=
  let n := l.tiles s
  let extra := if l.d.op = 0 ∨ l.d.op = 2 then l.d.passes.length - 1 else 0
  ((p.add (F.DSP_P_TILES_COUNT (l.plot - 1)) n).add (F.DSP_P_STRIPES_COUNT (l.plot - 1)) 1).add
    (F.DSP_P_PASSES_COUNT (l.plot - 1)) (n * extra)

/-- Segments kept for the next layer (R341, R344). -/
def LayerRun.nextSegs (l : LayerRun) (segs : List Seg) : List Seg :=
  if l.bySeg then
    let outs := l.d.outSegs 0 l.segs
    segs.mapIdx (fun i s => match outs[i]? with
      | some e => { s with col := e.2.2.1, width := e.2.2.2 }
      | none => s)
  else segs

/-- The Gardener's checks of a layer (R332, R358). -/
def LayerRun.ok (l : LayerRun) : Bool :=
  let rec apart : List (Nat × Nat) → Bool
    | [] => true
    | s :: r => r.all (fun o => decide (s.1 + s.2 ≤ o.1 ∨ o.1 + o.2 ≤ s.1)) && apart r
  l.d.ok && (l.d.flags / 2 % 2 == 0 || (decide (l.segs.length ≤ 32) && apart l.segs))

end Sys2Proof.Machine
end

