-- ==== Sys2Proof/Machine/Jobs.lean ====
section
/-! DEFINITION. Jobs and commands (14_scheduling), the inferences of models (R312 to R330, R369 to R378), plot events (R585),
plot queues (R391), stakes (R400 to R404), and the teardown of a job (R406). -/

namespace Sys2Proof.Machine

/-! Events of a plot (R585). -/

/-- The Runners of a plot, rising. -/
def Part.plotRunners (p : Part) (k : Nat) : List Nat :=
  (List.range 64).filter (fun r => (p.img.runnerRec r).isSome && p.img.runnerPlot r == k)

/-- A Runner named by a real-time pipeline is woken by JOB only (R582). -/
def Rd.rtRunner (r : Rd) (n : Nat) : Bool :=
  r.pipes.any (fun k => r.pipeClass k == 0 && (List.range (r.pipeStages k)).any (fun i => r.stageKind k i == 4 && r.stageRef k i == n))

/-- The mask a Runner waits with. -/
def Part.runnerMask (p : Part) (r : Nat) : Nat := if p.img.rtRunner r then (p.runner r).mask &&& 1 else (p.runner r).mask

/-- What a waiting Runner's next activation would return; 0 when nothing in its mask is pending. -/
def Part.runnerEvents (p : Part) (r : Nat) : Nat :=
  let u := p.runner r
  (u.pend ||| (if u.jobs = [] then 0 else 1)) &&& p.runnerMask r

/-- An activation becomes a ready command: a Runner that waits has an event, or starts (R582, R585). -/
def Part.tryActivate (p : Part) (r : Nat) : Part :=
  let u := p.runner r
  if u.live && u.waiting && (u.fresh || p.runnerEvents r != 0) then
    let job := if u.fresh ∨ (p.runnerEvents r) % 2 = 0 then none else u.jobs.head?
    let c : Cmd := { job := job, plot := p.img.runnerPlot r, task := .runner r, unit := 2, places := bedsOf (p.img.runnerCores r),
                     limit := 2 * p.img.runnerBudget r * 1000 + 100000, seq := none, begun := 0 }
    (p.modRunner r (fun v => { v with waiting := false })).modJobs (fun j => { j with ready := j.ready ++ [c] })
  else p

/-- An event of a plot (R585): to the lowest Runner whose last mask has its bit, else to the plot's latched word. -/
def Part.plotEvent (p : Part) (plot bit : Nat) : Part :=
  if plot = 0 ∨ p.fenced plot then p
  else match (p.plotRunners plot).find? (fun r => (p.runner r).live && (p.runnerMask r).testBit bit) with
    | some r => (p.modRunner r (fun u => { u with pend := u.pend ||| 2 ^ bit })).tryActivate r
    | none => p.modApc (fun a => { a with
        latched := FMap.put (fun _ => 0) a.latched plot (FMap.get (fun _ => 0) a.latched plot ||| 2 ^ bit) })

/-- A CONFIG record of kind 3 or 4 is a MODEL event of its plot. -/
def Part.configModel (p : Part) (t kind code m d0 d1 : Nat) : Part :=
  let k := p.img.modelPlot m
  (p.config t k kind code m (p.img.modelVersion m) d0 d1).plotEvent k 4

/-! Generations and buffers. -/

/-- Picture (stream, gen) is voided (R219). -/
def Part.voidedGen (p : Part) (stream gen : Nat) : Bool :=
  match (p.dec stream).pics.find? (fun x => x.gen == gen) with
  | some x => x.voided
  | none => false

/-- A job's generation is voided (R220): any of its members' pictures, or the generation that its queue entry names. -/
def Part.jobVoided (p : Part) (j : Job) : Bool :=
  (match j.check with
    | some g => p.voidedGen g.1 g.2
    | none => false) || j.members.any (fun m => !m.missing && p.img.decoded m.stream && p.voidedGen m.stream m.gen)

/-- A running crop reads picture (stream, gen). -/
def Part.cropOn (p : Part) (stream gen : Nat) : Bool :=
  [0, 1, 2, 3].any (fun e => match p.engine e with
    | some c => match c.job.bind p.job? with
      | some j => j.members.any (fun m => m.stream == stream && m.gen == gen && !m.missing)
      | none => false
    | none => false)

/-- Change the output buffers in use of a stream, one by one. -/
def Part.modBufs (p : Part) (s : Nat) (f : DecBuf → Option DecBuf) : Part :=
  let one : FMap (Option DecBuf) → Nat → FMap (Option DecBuf) := fun m i =>
    match FMap.get (fun _ => none) m i with
    | some b => FMap.put (fun _ => none) m i (f b)
    | none => m
  p.modDec s (fun u => { u with bufs := [0, 1, 2].foldl one u.bufs })

/-- Release the output buffers of a stream that no one needs (R224). -/
def Part.freeBufs (p : Part) (s : Nat) : Part :=
  p.modBufs s (fun b =>
    let idle := if p.voidedGen s b.gen then !p.cropOn s b.gen else b.users.isEmpty
    if idle then none else some b)

/-- A pipeline has finished with a picture, or skipped it (R224). -/
def Part.doneWith (p : Part) (pipe stream gen : Nat) : Part :=
  (p.modBufs stream (fun b => some (if b.gen = gen then { b with users := b.users.filter (· != pipe) } else b))).freeBufs stream

/-- The job's pipeline has finished with every picture of the job. -/
def Part.releaseJob (p : Part) (j : Job) : Part :=
  j.members.foldl (fun (q : Part) m => if m.missing then q else q.doneWith j.pipe m.stream m.gen) p

/-! Drill slots (R253). -/

/-- One consumer of a delivered drill has ended; with none left its slot is free. -/
def Part.consumed (p : Part) (d : Nat × Nat) : Part :=
  p.modGrp d.1 (fun g => { g with used := (g.used.map (fun e => if e.1.seq = d.2 then (e.1, e.2 - 1) else e)) })

/-! The end of a job. -/

/-- The stamp and members a record of a job takes (R484). -/
def Job.ctx (j : Job) (stream gen seq ts : Nat) : JobCtx :=
  { stream := stream, gen := gen, job := j.id.getD 0, frameSeq := seq, pipe := j.pipe, set := j.set, ts := ts,
    flags := (if j.tainted then 1 else 0) + (if j.bolted then 2 else 0) + (if j.reissued then 4 else 0) +
      (if j.set != 0xFF && j.members.any (·.missing) then 64 else 0) }

/-- The KIND of the stage that follows a pipeline's Pruner stage; 1 where there is none. -/
def Rd.afterPruner (r : Rd) (k : Nat) : Nat :=
  (((List.range (r.pipeStages k)).find? (fun i => decide (0 < i) && r.stageKind k (i - 1) == 0)).map (r.stageKind k)).getD 1

/-- A job gives up the drills that a stage other than a model's has consumed (R253). -/
def Part.leaveDrills (p : Part) (j : Job) : Part :=
  if j.pipe < 64 ∧ p.img.afterPruner j.pipe ≠ 1 then
    (j.drills.foldl Part.consumed p).modJob j.handle (fun x => { x with drills := [] })
  else p

/-- The job leaves; it is kept for late errors (R620). -/
def Part.dropJob (p : Part) (j : Job) : Part :=
  let p := p.leaveDrills j
  let past : PastJob := { plot := j.plot, id := j.id.getD 0, pipe := j.pipe, set := j.set, ref := j.ref, ts := j.ts,
                          members := j.members, formed := j.formed }
  p.modJobs (fun u => { u with jobs := u.jobs.filter (fun x => x.handle != j.handle),
                               ready := u.ready.filter (fun c => c.job != some j.handle),
                               past := if j.id.isSome then past :: u.past else u.past })

/-- A skipped job counts (R407, R408). -/
def Part.skipCount (p : Part) (plot : Nat) : Part :=
  (p.addSat (F.STK_JOB_SKIPS_COUNT plot) 1).modPlot plot (fun u => { u with hbSkips := u.hbSkips + 1 })

/-- A real-time job's latency, from its capture timestamp (R409). -/
def Part.ledgerEnd (p : Part) (t : Nat) (j : Job) : Part :=
  if j.rt && decide (j.pipe < 64) then
    let l := t - j.ts
    let q := p.put (F.STK_LDG_WORST_US j.pipe) (max (p.get (F.STK_LDG_WORST_US j.pipe)) (min (l / 1000) (2 ^ 32 - 1)))
    if p.img.pipeDeadline j.pipe < l then q.addSat (F.STK_LDG_OVER_COUNT j.pipe) 1 else q
  else p

/-! Queue entries (R391). -/

/-- Memory key of queue `q`'s entry at offset `off`. -/
def Part.entryKey (p : Part) (plot q off : Nat) : Nat :=
  winBase plot + p.get64 (F.DSP_Q_BASE_LO_BASE (plot - 1) q) (F.DSP_Q_BASE_HI_BASE (plot - 1) q) + off

def Part.qHead (p : Part) (plot q : Nat) : Nat := p.get (F.DSP_Q_HEAD_OFF (plot - 1) q)
def Part.qTail (p : Part) (plot q : Nat) : Nat := p.get (F.DSP_Q_TAIL_OFF (plot - 1) q)
def Part.qSize (p : Part) (plot q : Nat) : Nat := p.get (F.DSP_Q_SIZE_BYTES (plot - 1) q)

/-- An entry ends: its STATUS, JOB and CMD_SEQ are written, then TAIL moves past it. -/
def Part.entryDone (p : Part) (plot q result cause job seq : Nat) : Part :=
  let off := p.qTail plot q
  let r := p.store (p.entryKey plot q off + 0x20) (toLe 4 (1 + 2 * result + 16 * cause) ++ toLe 4 job ++ toLe 8 seq)
  let r := r.put (F.DSP_Q_TAIL_OFF (plot - 1) q) (if off + 64 = p.qSize plot q then 0 else off + 64)
  r.add (F.DSP_Q_DONE_COUNT (plot - 1) q) 1

/-- Entries of the current job from TAIL on are skipped, up to and including LAST; `n` bounds the walk. -/
def Part.skipEntries (plot q job : Nat) : Nat → Part → Part
  | 0, p => p
  | n + 1, p =>
    let off := p.qTail plot q
    if off = p.qHead plot q then p
    else
      let last := (p.byte (p.entryKey plot q off + 1)).toNat % 2 == 1
      let r := p.entryDone plot q 2 0 job 0
      if last then r else Part.skipEntries plot q job n r

/-- Two models are linked through GRAFT_OF. -/
def Rd.linked (r : Rd) (a b : Nat) : Bool := r.graftOf a == b || r.graftOf b == a
/-- The members of a model's family. -/
def Rd.family (r : Rd) (m : Nat) : List Nat :=
  let grow := fun (l : List Nat) => r.models.filter (fun x => l.contains x || l.any (fun y => r.linked x y && x != y))
  (List.range r.models.length).foldl (fun l _ => grow l) [m]
/-! Commands and inferences. -/

/-- A new handle. -/
def Part.handle (p : Part) : Nat × Part := (p.jobs.next, p.modJobs (fun u => { u with next := u.next + 1 }))
def Part.pushCmds (p : Part) (l : List Cmd) : Part := p.modJobs (fun u => { u with ready := u.ready ++ l })
def Part.endInfer (p : Part) (h : Nat) : Part := p.modJobs (fun u => { u with infers := u.infers.filter (fun x => x.handle != h) })

/-- The live member of the family that a stage names (R377). -/
def Part.liveModel (p : Part) (named : Nat) : Nat := FMap.get (fun m => m) p.models.live named
/-- The member of a family in its graft wave that replaces `m`. -/
def Part.waveOf (p : Part) (m : Nat) : Option Nat :=
  p.img.models.find? (fun n => p.img.graftOf n == m && (p.model n).state == 5)
/-- The model that a stage, or a queue entry (pipe 0xFF), asks for: stages follow a graft, an entry names its own model (R377). -/
def Part.standsFor (p : Part) (pipe named : Nat) : Nat := if pipe = 0xFF then named else p.liveModel named
/-- The version an inference is bound to at layer 0 (R377, R378). -/
def Part.boundModel (p : Part) (pipe named : Nat) : Nat :=
  let o := p.standsFor pipe named
  match p.waveOf o with
  | some n => if 1 ≤ (p.model n).swapped then n else o
  | none => o
/-- The graft barrier holds layer-0 commands of the family (R377 step 1). -/
def Part.barrierClosed (p : Part) (pipe named : Nat) : Bool :=
  match p.waveOf (p.standsFor pipe named) with
  | some n => (p.model n).swapped == 0
  | none => false

/-- The stream of a member of a pipeline's input. -/
def Rd.memberStream (r : Rd) (k m : Nat) : Nat :=
  if r.pipeInputKind k = 0 then r.pipeInput k else r.setStream (r.pipeInput k) m
/-- The members of a pipeline's input. -/
def Rd.inputMembers (r : Rd) (k : Nat) : Nat := if r.pipeInputKind k = 0 then 1 else r.setMembers (r.pipeInput k)

/-- T_max of a Pruner stage (R397): over the pipeline's inputs. -/
def Rd.tMax (r : Rd) (k i : Nat) : Nat :=
  let out := (r.stageP0 k i % 65536) * (r.stageP0 k i / 65536)
  ((List.range (r.inputMembers k)).map (r.memberStream k)).foldl (fun a s =>
    max a (64 + max (ceilDiv out 2) (ceilDiv (min (256 * out) (r.streamWidth s * r.streamHeight s)) 16))) 64

/-- Time limit of a layer's command of a pipeline (R395): twice its ledger term, the worst cycles over its family (R379) and the
2 us of a command, for a real-time one; twice its own worst cycles for another; and 100 us. -/
def Rd.layerLimit (r : Rd) (m i : Nat) (rt : Bool) : Nat :=
  let worst := fun x => max (r.layerCycles x i) (r.layerWideCycles x i)
  2 * (if rt then ((r.family m).map worst).foldl max 0 + 2000 else worst m) + 100000

/-- No inference ahead stands in the way of `u` entering layer `i` (R369); a streamed model runs one inference at a time on
its beds. -/
def Part.layerFree (p : Part) (u : Infer) (i : Nat) : Bool :=
  let streamed := p.img.modelResidency u.model == 1
  let ahead := p.jobs.infers.takeWhile (fun x => x.handle != u.handle)
  let same := fun (x : Infer) => (p.img.family u.named).contains x.named && (!streamed || x.pipe == u.pipe)
  !(ahead.any (fun x => same x && (streamed || !x.entered || decide (x.layer ≤ i)))) &&
    !(p.jobs.infers.any (fun x => x.handle != u.handle && same x && x.entered && x.layer == i && x.left != 0))

/-- The weights of layer `i` are at hand (R370), and the wave has swapped the layer for a grafted version (R377). -/
def Part.layerFed (p : Part) (u : Infer) (i : Nat) : Bool :=
  (p.img.modelResidency u.model == 0 || decide (i < u.fetched)) &&
    ((p.model u.model).state != 5 || decide (i < (p.model u.model).swapped))

/-- A bed that a real-time pipeline's stage uses (R395). -/
def Rd.rtBed (r : Rd) (b : Nat) : Bool :=
  r.pipes.any (fun k => r.pipeClass k == 0 && ((r.pipeBeds k).testBit b ||
    (List.range (r.pipeStages k)).any (fun i => r.stageKind k i == 1 && (r.modelBeds (r.stageRef k i)).testBit b)))

/-- The time limit that an entry's LIMIT_US gives a command on these beds, in ns (R391, R395). -/
def Part.entryLimit (p : Part) (plot q : Nat) (beds : List Nat) : Nat :=
  let us := p.loadLe (p.entryKey plot q (p.qTail plot q) + 0x14) 4
  let l := min 1000000 (if us = 0 then 100000 else us)
  1000 * (if beds.any p.img.rtBed then min l 1000 else l)

/-- Issue the commands of an inference's current layer, one for each bed (R335, R387); the Gardener's checks fault it
(R332, R358, R366). -/
def Part.issueLayer (p : Part) (h : Nat) : Part :=
  match p.infer? h with
  | none => p
  | some u =>
    let job := (u.jobs.head?).bind p.job?
    let beds := p.inferBeds u u.layer
    let st := (p.model u.model).state
    let fault := fun (q : Part) (cause : Nat) => q.raiseFault (u.jobs.head?) u.plot cause 0
    let unnamed := u.pipe == 0xFF && u.layer == 0 && (p.model u.named).state != 6
    if (st ≠ 6 ∧ st ≠ 5) ∨ unnamed then fault p 8
    else if !(p.layerRun u u.layer (beds.headD 0)).ok then
      fault (p.addSat (F.DSP_P_OPFAULT_COUNT (u.plot - 1)) 1) 6
    else
      let rt := (job.map (·.rt)).getD false
      let q := p.modInfer h (fun v => { v with entered := true, left := beds.length, bolts := 0 })
      q.pushCmds (beds.map (fun b =>
        { job := u.jobs.head?, plot := u.plot, task := .layer h u.layer, unit := 0, places := [b],
          limit := match job with
            | some j => if j.pipe = 0xFF then p.entryLimit j.plot j.queue [b] else p.img.layerLimit u.model u.layer rt
            | none => p.img.layerLimit u.model u.layer rt,
          seq := none, begun := 0 }))

/-- Start the current layer of an inference that waits for it: at layer 0 it binds to a version, which has to be READY
(R366, R369, R370, R377). -/
def Part.tryInfer (p : Part) (h : Nat) : Part :=
  match p.infer? h with
  | none => p
  | some u =>
    if u.entered && u.left != 0 then p
    else
      let v := if u.layer = 0 ∧ !u.entered then { u with model := p.boundModel u.pipe u.named } else u
      let running := p.jobs.ready.any (fun c => match c.task with | .layer x _ => x == h | _ => false)
      if running || (v.layer == 0 && !v.entered && p.barrierClosed v.pipe v.named) || !p.layerFree v v.layer || !p.layerFed v v.layer then p
      else (p.modInfer h (fun _ => v)).issueLayer h

/-- Every inference that can start its layer does, in order of arrival. -/
def Part.tryInfers (p : Part) : Part := (p.jobs.infers.map (·.handle)).foldl Part.tryInfer p

/-- A new inference of the stage's model (R312). -/
def Part.newInfer (p : Part) (jobs : List Nat) (plot pipe model : Nat) (drill : Option (Nat × Nat)) (segs : List Seg) : Part :=
  let h := p.handle
  let u : Infer := { handle := h.1, jobs := jobs, plot := plot, pipe := pipe, named := model, model := p.boundModel pipe model,
                     drill := drill, segs := segs, entered := false, layer := 0, left := 0, bolts := 0, reruns := 0,
                     rerun := false, wideIn := false, wideSpan := none, fetched := 0, bolted := false }
  (h.2.modJobs (fun v => { v with infers := v.infers ++ [u] })).tryInfer h.1

/-- The tracker's bound in ns (R591). -/
def trackerBound (onBed : Bool) (d n : Nat) : Nat :=
  if onBed then 1000 * ceilDiv (80000 + 5 * d * n + 1500 * (d + n)) 10000
  else 1000 * ceilDiv (10000 + 2 * d * n + 300 * (d + n)) 1000

/-- Where a tracker stage runs (R578): a bed, or an application core. -/
def Rd.trackerPlace (r : Rd) (k i : Nat) : Nat × List Nat :=
  if r.stageP0 k i = 1 then (0, (bedsOf (r.pipeBeds k)).take 1)
  else (2, (((List.range 8).filter (fun c => c != 0 && (r.cores (r.pipePlot k)).testBit c)).take 1))

/-! Stages (R388). -/

/-- Start the crops of a Pruner stage: one command for each entry of the list. -/
def Part.startCrops (p : Part) (h : Nat) (crops : List Crop) (steered : Bool) : Part :=
  match p.job? h with
  | none => p
  | some j =>
    let ok := fun (c : Crop) => match j.members[c.member]? with
      | some m => !m.missing && c.w != 0
      | none => false
    let i := j.stage
    let r := p.img
    let cmds := (crops.mapIdx (fun n c => (n, c))).filter (fun e => ok e.2)
    let lim := ceilDiv (5 * r.tMax j.pipe i) 2 + 100000
    (p.modJob h (fun x => { x with left := cmds.length })).pushCmds (cmds.map (fun e =>
      { job := some h, plot := j.plot, task := .crop e.1 e.2 steered, unit := 1, places := [0, 1, 2, 3], limit := lim,
        seq := none, begun := 0 }))

/-- Queue a JOB event for a Runner (R585, R586): a 17th is skipped. False when the job is skipped. An activation that is ready
for other events, but has not started, is the job's too. -/
def Part.jobEvent (p : Part) (r h : Nat) : Bool × Part :=
  let u := p.runner r
  if !u.live ∨ 16 ≤ u.jobs.length then (false, p)
  else
    let q := p.modRunner r (fun v => { v with jobs := v.jobs ++ [h] })
    let q := if u.fresh ∨ (p.runnerMask r) % 2 = 0 then q
      else q.modJobs (fun v => { v with
        ready := v.ready.map (fun c => if c.task = .runner r ∧ c.job = none then { c with job := some h } else c) })
    (true, q.tryActivate r)

/-- A drill that holds samples of the job has not been delivered yet (R252). -/
def Part.drillsPending (p : Part) (j : Job) : Bool :=
  j.drills.any (fun d => !((p.grp d.1).used.any (fun e => e.1.seq == d.2)))

/-- Start stages of a pipeline job from its current one, until one has commands to wait for; past the last stage the job
ends. `n` bounds the walk over the stages. -/
def Part.runStages (t h : Nat) : Nat → Part → Part
  | 0, p => p
  | n + 1, p =>
    match p.job? h with
    | none => p
    | some j =>
      let r := p.img
      let i := j.stage
      let next := fun (q : Part) => Part.runStages t h n (q.modJob h (fun x => { x with stage := x.stage + 1 }))
      if r.pipeStages j.pipe ≤ i then
        let q := (p.ledgerEnd t j).modPlot j.plot (fun u => { u with hbJobs := u.hbJobs + 1 })
        q.dropJob j
      -- what consumes a drill waits for its ready notice
      else if 0 < i ∧ r.stageKind j.pipe (i - 1) = 0 ∧ r.stageKind j.pipe i ≠ 1 ∧ p.drillsPending j then p
      else match r.stageKind j.pipe i with
        | 0 =>
          let q := p.startCrops h j.crops j.steered
          if ((q.job? h).map (·.left)).getD 0 = 0 then next (q.releaseJob j) else q
        | 1 =>
          let afterPruner := decide (0 < i) && r.stageKind j.pipe (i - 1) == 0
          if afterPruner then (if j.drills = [] then next p else p)
          else (p.modJob h (fun x => { x with left := 1 })).newInfer [h] j.plot j.pipe (r.stageRef j.pipe i) none []
        | 2 =>
          let beds := bedsOf (r.pipeBeds j.pipe)
          let c : Cmd := { job := some h, plot := j.plot, task := .kernel (r.stageRef j.pipe i) none 0, unit := 0,
                           places := beds, limit := 1000000, seq := none, begun := 0 }
          if beds = [] then next p else (p.modJob h (fun x => { x with left := beds.length })).pushCmds [c]
        | 3 =>
          let place := r.trackerPlace j.pipe i
          let d := r.prn16 j.pipe i 2
          let m := r.prn16 j.pipe i 0
          let c : Cmd := { job := some h, plot := j.plot, task := .tracker, unit := place.1, places := place.2,
                           limit := 2 * trackerBound (place.1 == 0) d m + 100000, seq := none, begun := 0 }
          (p.modJob h (fun x => { x with left := 1 })).pushCmds [c]
        | _ =>
          let e := p.jobEvent (r.stageRef j.pipe i) h
          if e.1 then e.2.modJob h (fun x => { x with left := 1 })
          else (p.skipCount j.plot).dropJob j

/-- The current stage of a job has ended; one that was cut short ends the job (R408). -/
def Part.stageDone (p : Part) (t h : Nat) : Part :=
  match p.job? h with
  | none => p
  | some j =>
    if j.cut then (p.skipCount j.plot).dropJob j
    else Part.runStages t h 20 (p.modJob h (fun x => { x with stage := x.stage + 1, left := 0 }))

/-- Issue a pipeline job (R387) with the crops of its first Pruner stage. -/
def Part.issueJob (p : Part) (t : Nat) (j : Job) (crops : List Crop) (steered : Bool) : Part :=
  let h := p.handle
  let j := { j with handle := h.1 }
  let j := { j with crops := crops, steered := steered }
  let q := h.2.modJobs (fun u => { u with jobs := u.jobs ++ [j] })
  if p.img.stageKind j.pipe 0 = 0 then
    let q := q.startCrops h.1 crops steered
    if ((q.job? h.1).map (·.left)).getD 0 = 0 then (q.releaseJob j).stageDone t h.1 else q
  else Part.runStages t h.1 20 q

/-! Plot queues (R391). -/

/-- An entry is valid: reserved bytes 0, KIND and REF known, BEDS within the grant. -/
def Part.entryOk (p : Part) (plot : Nat) (e : Rd) : Bool :=
  let ref := e.u16 2
  let own := fun k => k == plot || k == 0
  let beds := e.u64 8
  e.zero 0x1B 5 && decide (e.u8 1 < 4) &&
    (if e.u8 0 = 0 then (p.img.kernelRec ref).isSome && own (p.img.kernelPlot ref) && (beds &&& p.img.bedSet plot) == beds
     else e.u8 0 == 1 && (p.img.modelRec ref).isSome && p.img.modelPlot ref == plot && beds == 0)

/-- Issue one entry's command for a job. -/
def Part.queueEntry (p : Part) (plot q : Nat) (e : Rd) (h : Nat) : Part :=
  let stream := e.u8 0x1A
  let p := p.modJob h (fun x => { x with
    irq := x.irq || e.u8 1 / 2 == 1, left := 1, check := if stream = 0xFF then none else some (stream, e.u16 0x18) })
  if !p.entryOk plot e then p.raiseFault (some h) plot 6 0
  else if stream ≠ 0xFF ∧ p.voidedGen stream (e.u16 0x18) then
    match p.job? h with
    | some j => ((Part.skipEntries plot q (j.id.getD 0) 1024 p).skipCount plot).dropJob j
    | none => p
  else if e.u8 0 = 0 then
    let beds := bedsOf (e.u64 8)
    let c : Cmd := { job := some h, plot := plot, task := .kernel (e.u16 2) (some (e.u32 4)) (e.u32 0x10 * 2 ^ 21), unit := 0,
                     places := beds, limit := p.entryLimit plot q beds, seq := none, begun := 0 }
    -- a kernel on no bed has nothing to run and ends at once
    if beds = [] then
      match p.job? h with
      | some j =>
        let r := (p.entryDone plot q 0 0 (j.id.getD 0) 0).modJob h (fun x => { x with left := 0 })
        if e.u8 1 % 2 = 1 then (r.dropJob j).iff j.irq (fun x => x.plotEvent plot 2) else r
      | none => p
    else (p.modJob h (fun x => { x with left := beds.length })).pushCmds [c]
  else p.newInfer [h] plot 0xFF (e.u16 2) none []

/-- Take the next entry of a queue that is idle or whose job goes on (R388, R391, R395). -/
def Part.queueNext (p : Part) (plot q : Nat) : Part :=
  let off := p.qTail plot q
  let busy := p.jobs.jobs.find? (fun j => j.plot == plot && j.pipe == 0xFF && j.queue == q)
  let stop := !p.on (F.DSP_Q_CTRL_EN (plot - 1) q) || p.on (F.DSP_Q_STAT_ERR (plot - 1) q) || off == p.qHead plot q ||
    p.get (F.PLT_STATE_STATE plot) != 2
  match busy with
  | some j =>
    if stop || j.left != 0 then p
    else
      let e : Rd := fun o => (p.byte (p.entryKey plot q off + o)).toNat
      p.queueEntry plot q e j.handle
  | none =>
    if stop then p
    else
      let e : Rd := fun o => (p.byte (p.entryKey plot q off + o)).toNat
      let h := p.handle
      let j : Job := { handle := h.1, plot := plot, pipe := 0xFF, queue := q, rt := false, prio := q, id := none, set := 0xFF,
                       ref := 0, ts := 0, members := [], tainted := false, bolted := false, reissued := false, noTime := false,
                       stage := 0, left := 0, drills := [], crops := [], steered := false, irq := false, formed := false,
                       check := none, cut := false, ran := none }
      (h.2.modJobs (fun u => { u with jobs := u.jobs ++ [j] })).queueEntry plot q e h.1

/-- Take entries until one has a command to wait for, or the queue is empty; `n` bounds the walk. -/
def Part.queueRun (plot q : Nat) : Nat → Part → Part
  | 0, p => p
  | n + 1, p =>
    let r := p.queueNext plot q
    if r.qTail plot q = p.qTail plot q then r else Part.queueRun plot q n r

/-- A queue entry's command has ended (R391): after LAST the job ends, else the next entry is taken. -/
def Part.entryEnd (p : Part) (t plot q h seq : Nat) : Part :=
  match p.job? h with
  | none => p
  | some j =>
    let last := (p.byte (p.entryKey plot q (p.qTail plot q) + 1)).toNat % 2 == 1
    let r := (p.entryDone plot q 0 0 (j.id.getD 0) seq).modJob h (fun x => { x with left := 0 })
    if last then
      let r := (r.dropJob j).modPlot plot (fun u => { u with hbJobs := u.hbJobs + 1 })
      (Part.queueRun plot q 4096 (r.iff j.irq (fun x => x.plotEvent plot 2))).ledgerEnd t j
    else Part.queueRun plot q 4096 r

/-! Ends of commands. -/

/-- Add to the counts of the second for the BOLT record (R325). -/
def Part.boltNote (p : Part) (u : Infer) (f : BoltCount → BoltCount) : Part :=
  p.modJobs (fun v =>
    let k := v.bolt.find? (fun b => b.plot == u.plot && b.model == u.model)
    match k with
    | some _ => { v with bolt := v.bolt.map (fun b => if b.plot = u.plot ∧ b.model = u.model then f b else b) }
    | none =>
      { v with bolt := v.bolt ++ [f { plot := u.plot, model := u.model, version := p.img.modelVersion u.model, inferences := 0,
                                       bolts := 0, reruns := 0, bolted := 0, layers := [] }] })

/-- One more bolt of a layer with `n` saturations. -/
def BoltCount.layerBolt (b : BoltCount) (i n : Nat) : BoltCount :=
  let had := b.layers.any (fun e => e.1 == i)
  { b with bolts := b.bolts + 1,
           layers := if had then b.layers.map (fun e => if e.1 = i then (i, e.2.1 + 1, e.2.2.1 + n, max e.2.2.2 n) else e)
             else b.layers ++ [(i, 1, n, n)] }

/-- An inference is over: its jobs go on, and its drill has one consumer fewer (R253, R388). -/
def Part.inferOver (p : Part) (t : Nat) (u : Infer) (done : Bool) : Part :=
  let q := p.endInfer u.handle
  let q := match u.drill with
    | some d => q.consumed d
    | none => q
  let q := u.jobs.foldl (fun (q : Part) h =>
    match q.job? h with
    | none => q
    | some j =>
      let q := q.modJob h (fun x => { x with bolted := x.bolted || u.bolted, ran := if done then some u.model else x.ran,
                                             drills := match u.drill with
                                               | some d => x.drills.filter (· != d)
                                               | none => x.drills })
      let due := match u.drill with
        | some d => (j.drills.filter (· != d)).isEmpty && j.left == 0 && q.img.stageKind j.pipe j.stage == 1
        | none => done
      if !due then q
      else if j.pipe = 0xFF then q.entryEnd t j.plot j.queue h (FMap.get (fun _ => 0) q.jobs.cmdSeq j.plot - 1)
      else q.stageDone t h) q
  q.tryInfers

/-- Every command of an inference's layer has ended: the bolt decision (R312 to R330), then the next layer or the end. -/
def Part.layerDone (p : Part) (t h : Nat) : Part :=
  match p.infer? h with
  | none => p
  | some u =>
    let r := p.img
    let i := u.layer
    let lim := r.layerBoltLimit u.model i
    let bolts := lim != 0xFFFFFFFF && decide (lim < u.bolts)
    let wide := u.rerun || u.wideSpan == some (r.layerSpan u.model i)
    let p := p.iff bolts (fun q => q.boltNote u (fun b => b.layerBolt i u.bolts))
    let may := bolts && decide (u.reruns < r.modelMaxWide u.model) && !wide && (wideFmt (r.layerAfmt u.model i)).isSome
    let voided := u.jobs.all (fun x => match p.job? x with
      | some j => p.jobVoided j
      | none => false)
    if u.jobs.isEmpty then p.inferOver t u true
    else if may && !voided then
      ((p.boltNote u (fun b => { b with reruns := b.reruns + 1 })).modInfer h (fun v => { v with
        rerun := true, reruns := v.reruns + 1, left := 0, fetched := min v.fetched i })).tryInfer h
    else
      let bolted := bolts && !may
      let p := p.iff (bolted && !u.bolted) (fun q => (q.metric 8 u.plot 1).boltNote u (fun b => { b with bolted := b.bolted + 1 }))
      let l := p.layerRun u i ((p.inferBeds u i).headD 0)
      let v := { u with bolted := u.bolted || bolted, rerun := false, wideIn := wide, layer := i + 1, left := 0, bolts := 0,
                        wideSpan := if u.rerun then some (r.layerSpan u.model i) else u.wideSpan,
                        segs := l.nextSegs u.segs }
      if r.modelLayers u.model ≤ i + 1 then
        (p.boltNote u (fun b => { b with inferences := b.inferences + 1 })).inferOver t v true
      else (p.modInfer h (fun _ => v)).tryInfers

/-- One place of a command has ended its work. `bolts` is what a layer's bed counted. -/
def Part.cmdEnd (p : Part) (t : Nat) (c : Cmd) (bolts : Nat) : Part :=
  match c.task with
  | .layer h _ =>
    match p.infer? h with
    | none => p
    | some u =>
      let q := p.modInfer h (fun v => { v with left := v.left - 1, bolts := min (v.bolts + bolts) 0xFFFFFFFF })
      if u.left ≤ 1 then q.layerDone t h else q
  | _ =>
    match c.job.bind p.job? with
    | none => p
    | some j =>
      let q := p.modJob j.handle (fun x => { x with left := x.left - 1 })
      if 1 < j.left then q
      else if j.pipe = 0xFF then q.entryEnd t j.plot j.queue j.handle (c.seq.getD 0)
      else match c.task with
        | .crop _ _ _ => (q.releaseJob j).stageDone t j.handle
        | _ => (q.leaveDrills j).stageDone t j.handle

/-! Dispatch (R392). -/

/-- The job a command belongs to is real-time; a best-effort one's priority: 0 for an activation (R577). -/
def Part.cmdRt (p : Part) (c : Cmd) : Bool := ((c.job.bind p.job?).map (·.rt)).getD false
def Part.cmdPrio (p : Part) (c : Cmd) : Nat :=
  match c.task with
  | .runner _ => 0
  | .tracker => 0
  | _ => ((c.job.bind p.job?).map (·.prio)).getD 0
def Part.cmdTs (p : Part) (c : Cmd) : Nat := ((c.job.bind p.job?).map (·.ts)).getD 0
def Part.cmdPipe (p : Part) (c : Cmd) : Nat := ((c.job.bind p.job?).map (·.pipe)).getD 0xFF

/-- The first of a list that no other precedes. -/
def best (lt : Cmd → Cmd → Bool) : List Cmd → Option Cmd
  | [] => none
  | c :: r => match best lt r with
    | none => some c
    | some d => if lt d c then some d else some c

/-- The next command for a unit (R392): real-time by CAPTURE_TS, then best-effort by priority, plots in turn, oldest job first. -/
def Part.pick (p : Part) (l : List Cmd) (unit : Nat) : Option Cmd :=
  let rt := l.filter p.cmdRt
  let beff := l.filter (fun c => !p.cmdRt c)
  match best (fun a b => decide (p.cmdTs a < p.cmdTs b ∨ (p.cmdTs a = p.cmdTs b ∧ p.cmdPipe a < p.cmdPipe b))) rt with
  | some c => some c
  | none =>
    let top := beff.foldl (fun m c => max m (p.cmdPrio c)) 0
    let same := beff.filter (fun c => p.cmdPrio c == top)
    let last := FMap.get (fun _ => 0) p.jobs.turn (unit * 8 + top)
    let dist := fun (c : Cmd) => (c.plot + 8 - last) % 9
    best (fun a b => decide (dist a < dist b)) same

/-- What stops a best-effort command on a bed or core that Dormancy is to gate (R600). -/
def Part.gatingHolds (p : Part) (c : Cmd) (place : Nat) : Bool :=
  !p.cmdRt c && ((c.unit == 0 && (p.pwr.beds.testBit place || (c.seq.isNone && c.places.any p.pwr.beds.testBit))) ||
    (c.unit == 2 && p.pwr.cores.testBit place))

/-- A ready command that place `n` of a unit may take. -/
def Part.fits (p : Part) (c : Cmd) (unit n : Nat) : Bool :=
  c.unit == unit && c.places.contains n && !p.fenced c.plot && p.get (F.PLT_STATE_STATE c.plot) == 2 && !p.gatingHolds c n

/-- The command a place takes leaves the ready list, or loses that place (a bed's command is taken by each of its beds). -/
def Part.takePlace (p : Part) (c : Cmd) (c' : Cmd) (n : Nat) : Part :=
  let rest := if c.unit = 0 then c.places.filter (· != n) else []
  p.modJobs (fun u =>
    let i := u.ready.findIdx (· == c)
    { u with ready := if rest = [] then u.ready.eraseIdx i else u.ready.set i { c' with places := rest } })

/-- A command starts (R389): its job takes its ID with its first command, and it takes its command sequence number. -/
def Part.startCmd (p : Part) (t : Nat) (c : Cmd) : Cmd × Part :=
  if c.seq.isSome then (c, p)
  else
    let n := FMap.get (fun _ => 0) p.jobs.cmdSeq c.plot
    let q := p.modJobs (fun u => { u with cmdSeq := FMap.put (fun _ => 0) u.cmdSeq c.plot ((n + 1) % 2 ^ 64) })
    let q := match c.job.bind q.job? with
      | none => q
      | some j =>
        if j.id.isSome then q
        else
          let x := q.takeJob j.plot
          (x.2.modJob j.handle (fun v => { v with id := some x.1 })).useLink j.plot x.1 (p.img.epoch j.plot)
    ({ c with seq := some n, begun := t }, q)

/-- The best-effort round robin of a priority has served a plot. -/
def Part.noteTurn (p : Part) (c : Cmd) : Part :=
  if p.cmdRt c then p
  else p.modJobs (fun u => { u with turn := FMap.put (fun _ => 0) u.turn (c.unit * 8 + p.cmdPrio c) c.plot })

/-- A job leaves an inference: others of the same drill go on with it (R257). With no job left, what has not started of its
layer is withdrawn, and it is over once what runs has ended (R220). -/
def Part.leaveInfer (p : Part) (h : Nat) (u : Infer) : Part :=
  let rest := u.jobs.filter (· != h)
  let isMine := fun (c : Cmd) => match c.task with
    | .layer x _ => x == u.handle
    | _ => false
  match rest.head? with
  | some g => (p.modInfer u.handle (fun v => { v with jobs := rest })).modJobs (fun v => { v with
      ready := v.ready.map (fun c => if isMine c && c.job == some h then { c with job := some g } else c) })
  | none =>
    let waiting := (p.jobs.ready.filter isMine).length
    let q := p.modJobs (fun v => { v with ready := v.ready.filter (fun c => !isMine c) })
    if u.left ≤ waiting then
      let r := q.endInfer u.handle
      match u.drill with
      | some d => r.consumed d
      | none => r
    else q.modInfer u.handle (fun v => { v with jobs := [], left := u.left - waiting })

/-- A job whose generation is voided skips its remaining commands (R408); a queue job's entries are skipped up to LAST (R391). -/
def Part.skipVoided (p : Part) (j : Job) : Part :=
  let q := (p.releaseJob j).skipCount j.plot
  let q := (q.jobs.infers.filter (fun u => u.jobs.contains j.handle)).foldl (fun (q : Part) u => q.leaveInfer j.handle u) q
  if j.pipe = 0xFF then
    Part.queueRun j.plot j.queue 4096 ((Part.skipEntries j.plot j.queue (j.id.getD 0) 1024 q).dropJob j)
  else q.dropJob j

/-! Stakes (R400 to R404). -/

/-- Free every stake whose owner `mine` holds, blighted where the command is torn down. -/
def Part.freeStakes (p : Part) (mine : Nat → Bool) (blight : Bool) : Part :=
  p.each (List.range 256) (fun q s =>
    if q.on (F.STK_TAKE_TAKE s) && mine (q.get (F.STK_OWNER_CTX s)) then
      let r := (q.clr (F.STK_TAKE_TAKE s)).put (F.STK_OWNER_CTX s) 0
      if blight then r.set (F.STK_STAT_BLIGHTED s) else r
    else q)

/-- The contexts of a bed command: the bed, any thread, the command's sequence number (R400). -/
def bedCtx (b seq : Nat) (c : Nat) : Bool := c / 2 ^ 30 == 0 && c / 2 ^ 24 % 64 == b && c % 2 ^ 18 == seq % 2 ^ 18
/-- The context of an activation (R400). -/
def actCtx (runner core seq : Nat) : Nat := 2 ^ 30 + runner * 2 ^ 24 + core * 2 ^ 18 + seq % 2 ^ 18
/-- A context of plot `k` owns one of the plot's stakes. -/
def Part.holdsStake (p : Part) (k : Nat) (mine : Nat → Bool) : Bool :=
  (List.range 256).any (fun s => p.img.stakeOwner s == k && p.on (F.STK_TAKE_TAKE s) && mine (p.get (F.STK_OWNER_CTX s)))

/-- STK_TAKE written by a context (R401). -/
def Part.stakeTake (p : Part) (s ctx : Nat) : Part :=
  if p.on (F.STK_TAKE_TAKE s) then p.addSat (F.STK_STAT_CONTEND s) 1
  else (p.set (F.STK_TAKE_TAKE s)).put (F.STK_OWNER_CTX s) ctx
/-- STK_REL written by a context (R402). -/
def Part.stakeRel (p : Part) (s ctx : Nat) : Part :=
  if p.on (F.STK_TAKE_TAKE s) && p.get (F.STK_OWNER_CTX s) == ctx then
    ((p.clr (F.STK_TAKE_TAKE s)).put (F.STK_OWNER_CTX s) 0).clr (F.STK_STAT_BLIGHTED s)
  else p.addSat (F.STK_STAT_CONTEND s) 1

end Sys2Proof.Machine
end

