-- ==== Sys2Proof/Machine/Pruner.lean ====
section
/-! DEFINITION. The Pruner (09_pruner): crop lists and their latch, the scaler, colour and quantisation, and drills. -/

namespace Sys2Proof.Machine

/-! Parameters of a Pruner stage (R234). -/

/-- The Pruner stage of a pipeline: its first stage of KIND 0. -/
def Rd.prnStage (r : Rd) (k : Nat) : Option Nat := (List.range (r.pipeStages k)).find? (fun i => r.stageKind k i == 0)

/-- Parameters of a Pruner stage. -/
structure PrnPar where
  wo : Nat
  ho : Nat
  mono : Bool
  fmt : Nat
  bt709 : Bool
  full : Bool
  replicate : Bool
  custom : Bool
  banded : Bool
  cols : Nat
  group : Nat
  slots : Nat
  waitNs : Nat
  dest : Nat
  stride : Nat
  mean : List Nat
  invStd : List Nat
  scale : List Nat
  zp : List Int
  monoW : List Nat
  /-- Image offset of the custom coefficient tables. -/
  coef : Nat
  deriving DecidableEq, Repr

/-- The parameters of stage `i` of pipeline `k`. -/
def Rd.prnPar (r : Rd) (k i : Nat) : PrnPar :=
  let u8 := r.prn8 k i
  let f3 := fun o => (List.range 3).map (fun c => r.prn32 k i (o + 4 * c))
  { wo := r.stageP0 k i % 65536, ho := r.stageP0 k i / 65536, mono := u8 0 == 1, fmt := u8 1, bt709 := u8 2 == 1,
    full := u8 3 == 1, replicate := u8 4 == 1, custom := u8 5 == 1, banded := u8 6 == 1, cols := r.prn16 k i 8,
    group := u8 0x0A, slots := u8 0x0B, waitNs := r.prn32 k i 0x0C, dest := r.prn64 k i 0x10, stride := r.prn32 k i 0x18,
    mean := f3 0x20, invStd := f3 0x2C, scale := f3 0x38,
    zp := (List.range 3).map (fun c => sext 16 (r.prn16 k i (0x44 + 2 * c))), monoW := f3 0x4C,
    coef := r.stageBlock k i + 0x80 + 16 * r.prn16 k i 0x1C }

/-- Output channels. -/
def PrnPar.chans (q : PrnPar) : Nat := if q.mono then 1 else 3

/-- A crop entry from 16 bytes read at `o` (R235). -/
def cropAt (r : Rd) (o : Nat) : Crop :=
  { x0 := r.u16 o, y0 := r.u16 (o + 2), w := r.u16 (o + 4), h := r.u16 (o + 6), tag := r.u32 (o + 8), member := r.u8 (o + 12) }

/-- The static list of a stage (R234). -/
def Rd.staticList (r : Rd) (k i : Nat) : List Crop :=
  (List.range (r.prn16 k i 0x1C)).map (fun n => cropAt r (r.stageBlock k i + 0x80 + 16 * n))

/-- A crop entry is valid (R236): ratios from 1/8 to 16, and the rectangle overlaps the frame. -/
def Rd.cropOk (r : Rd) (k i : Nat) (c : Crop) : Bool :=
  let wo := r.stageP0 k i % 65536
  let ho := r.stageP0 k i / 65536
  let s := r.memberStream k c.member
  decide (c.w ≤ 16 * wo ∧ wo ≤ 8 * c.w ∧ c.h ≤ 16 * ho ∧ ho ≤ 8 * c.h) && c.w != 0 && c.h != 0 &&
    decide (c.x0 < r.streamWidth s ∧ c.y0 < r.streamHeight s) && decide (c.member < r.inputMembers k)

/-! Steered lists (R237 to R241). -/

/-- A commit is rejected (R237). -/
def Part.commitBad (p : Part) (k addr count : Nat) : Bool :=
  let r := p.img
  r.pipeSteer k == 0 || count == 0 || decide (r.pipeCropMax k < count) || addr % 16 != 0 ||
    decide (r.window (r.pipePlot k) < addr + 16 * count) || p.get (F.PLT_STATE_STATE (r.pipePlot k)) != 2

/-- Start copying a steered list (R237, R240). -/
def Part.prnCopy (p : Part) (k : Nat) (src : CopySrc) : Part :=
  if p.on (F.PRN_PIPE_COMMIT_STAT_COPYING k) then p.set (F.PRN_PIPE_COMMIT_STAT_SUPERSEDED k)
  else (p.set (F.PRN_PIPE_COMMIT_STAT_COPYING k)).modPrnPipe k (fun u => { u with copying := some src })

/-- Write of GO (R237). -/
def Part.prnCommit (p : Part) (k : Nat) : Part :=
  let addr := p.get64 (F.PRN_PIPE_S_LIST_LO_ADDR k) (F.PRN_PIPE_S_LIST_HI_ADDR k)
  let count := p.get (F.PRN_PIPE_S_COUNT_COUNT k)
  if p.on (F.PRN_PIPE_COMMIT_STAT_COPYING k) then p.set (F.PRN_PIPE_COMMIT_STAT_SUPERSEDED k)
  else if p.commitBad k addr count then p.set (F.PRN_PIPE_COMMIT_STAT_REJECT k)
  else p.prnCopy k (.list addr count)

/-- The list copy completes (R236, R237, R240): invalid entries of a steered list are dropped and counted. -/
def Part.prnCopyDone (p : Part) (k : Nat) : Part :=
  let r := p.img
  let i := (r.prnStage k).getD 0
  match (p.prnPipe k).copying with
  | none => p
  | some src =>
    let mem : Rd := fun o => (p.byte (winBase (r.pipePlot k) + o)).toNat
    let raw : List (Crop × Bool) := match src with
      | .list addr n => (List.range n).map (fun e =>
          (cropAt mem (addr + 16 * e), r.cropOk k i (cropAt mem (addr + 16 * e)) && mem.zero (addr + 16 * e + 13) 3))
      | .formed l => l.map (fun c => (c, r.cropOk k i c))
      | .again => (r.staticList k i).map (fun c => (c, true))
    let steered := src != .again
    let bad := (raw.filter (fun e => !e.2)).length
    let crops := raw.map (fun e => if e.2 then e.1 else { e.1 with w := 0 })
    let q := p.iff (p.on (F.PRN_PIPE_COMMIT_STAT_PENDING k)) (·.set (F.PRN_PIPE_COMMIT_STAT_SUPERSEDED k))
    let waiting := (p.prnPipe k).callers.filter (fun n => p.get (F.APC_RUN_STAT_STATE n) == 2)
    let q := (q.addSat (F.PRN_PIPE_BADCROP_COUNT k) bad).modPrnPipe k (fun u => { u with
      copying := none, callers := [], pending := some (crops, steered) })
    let q := q.each waiting (fun q n => q.emit (.syscall n 0 0))
    (q.clr (F.PRN_PIPE_COMMIT_STAT_COPYING k)).set (F.PRN_PIPE_COMMIT_STAT_PENDING k)

/-! The latch (R238). -/

/-- A frame of a stream latches: each pipeline that processes it under FRAME_DIV has a latch due, for its own stream or for
the reference member of its set. -/
def Part.putLatches (p : Part) (s seq gen ts : Nat) : Part :=
  let r := p.img
  p.each (List.range 64) (fun q k =>
    let mine := (r.pipeRec k).isSome && seq % max 1 (r.pipeDiv k) == 0 &&
      (if r.pipeInputKind k = 0 then r.pipeInput k == s else r.setStream (r.pipeInput k) (r.setRef (r.pipeInput k)) == s)
    if mine then q.modPrnPipe k (fun u => { u with
        latches := u.latches ++ [{ stream := s, frameSeq := seq, gen := gen, ts := ts }] }) else q)

/-- Picture (stream, gen) is dark (R225): it produces no command. -/
def Part.darkGen (p : Part) (s gen : Nat) : Bool :=
  match (p.dec s).pics.find? (fun x => x.gen == gen) with
  | some x => x.dark
  | none => false

/-- A picture's taint (R223). -/
def Part.taintGen (p : Part) (s gen : Nat) : Bool :=
  p.img.decoded s && (match (p.dec s).pics.find? (fun x => x.gen == gen) with
    | some x => x.tainted
    | none => false)

/-- A pipeline job over members, at its class and priority (R387, R390). -/
def Part.mkJob (p : Part) (k set ref ts : Nat) (ms : List Member) (reissued : Bool) : Job :=
  { handle := 0, plot := p.img.pipePlot k, pipe := k, queue := 0, rt := p.img.pipeClass k == 0 && !reissued,
    prio := if reissued then 7 else p.img.pipePriority k, id := none, set := set, ref := ref, ts := ts, members := ms,
    tainted := ms.any (fun m => !m.missing && p.taintGen m.stream m.gen), bolted := false, reissued := reissued, noTime := ms.any (fun m => !m.missing && (p.ctx m.stream).noTime.contains m.frameSeq),
    stage := 0, left := 0, drills := [], crops := [], steered := false, irq := false, formed := false, check := none, cut := false,
    ran := none }

/-- In Dormancy a best-effort pipeline issues no job (R600). -/
def Part.dormant (p : Part) (k : Nat) : Bool :=
  p.img.pipeClass k == 1 && p.get F.PWR_STATE_STATE != 0 && decide (p.get F.PWR_STATE_STATE < 4)

/-- The latch event of a pipeline's oldest waiting frame (R238, R241). A stream's job issues at once; a set's list waits for its
pair (R193, R387). -/
def Part.prunerLatch (p : Part) (t k : Nat) : Part :=
  let u := p.prnPipe k
  match u.latches with
  | [] => p
  | e :: rest =>
    let q := p.modPrnPipe k (fun v => match v.pending with
      | some (l, st) => { v with active := l, steered := st, pending := none, latches := rest }
      | none => { v with latches := rest })
    let v := q.prnPipe k
    let q := q.iff (p.img.prnStage k).isSome (fun q =>
      ((q.clr (F.PRN_PIPE_COMMIT_STAT_PENDING k)).put (F.PRN_PIPE_LATCHED_SEQ_SEQ k) e.frameSeq).put
        (F.PRN_PIPE_ACTIVE_COUNT_COUNT k) v.active.length)
    if p.get (F.PLT_STATE_STATE (p.img.pipePlot k)) ≠ 2 ∨ p.fenced (p.img.pipePlot k) then q.doneWith k e.stream e.gen
    else if p.img.pipeInputKind k = 0 then
      if p.img.decoded e.stream && p.darkGen e.stream e.gen then q.doneWith k e.stream e.gen
      else if p.dormant k then (q.skipCount (p.img.pipePlot k)).doneWith k e.stream e.gen
      else q.issueJob t (q.mkJob k 0xFF 0 e.ts [{ stream := e.stream, frameSeq := e.frameSeq, gen := e.gen, missing := false }] false)
        v.active v.steered
    else q.modPrnPipe k (fun x => { x with snaps := x.snaps ++ [(e.frameSeq, v.active, v.steered)] })

/-! Source samples. -/

/-- A source plane of a crop: its samples by position, its size, the code read outside it when BORDER is 0, and the greatest
code. -/
structure Plane where
  at_ : Nat → Nat → Nat
  w : Nat
  h : Nat
  black : Nat
  maxcode : Nat

/-- The sample at a position: the nearest edge, or black, outside the plane (R244). -/
def Plane.sample (q : Plane) (replicate : Bool) (x y : Int) : Nat :=
  let inside := decide (0 ≤ x ∧ x < (q.w : Int) ∧ 0 ≤ y ∧ y < (q.h : Int))
  if inside then q.at_ x.toNat y.toNat
  else if replicate then q.at_ (clampInt 0 (q.w - 1) x).toNat (clampInt 0 (q.h - 1) y).toNat else q.black

/-- Black of a YUV plane: luma, or chroma, for 8 or 10 bits (R244). -/
def blackOf (full chroma : Bool) (ten : Bool) : Nat :=
  if chroma then (if ten then 512 else 128) else if full then 0 else if ten then 64 else 16

/-- The three planes (luma and chroma, or R, G, B, or one) of a decoded picture in its output buffer (R210). -/
def Part.decPlanes (p : Part) (s gen : Nat) (full : Bool) : List Plane :=
  let r := p.img
  let ten := r.decDepth s != 8
  let n := if ten then 2 else 1
  let pitch := r.decWa s * n
  let buf := (((p.dec s).pics.find? (fun x => x.gen == gen)).map (·.buf)).getD 0
  let base := winBase (r.streamPlot s) + r.outBase s + buf * r.outPicture s
  let code := fun a => if ten then p.loadLe a 2 / 64 else (p.byte a).toNat
  let mx := if ten then 1023 else 255
  let cb := base + pitch * r.decHa s
  let w := r.streamWidth s
  let h := r.streamHeight s
  [ { at_ := fun x y => code (base + y * pitch + x * n), w := w, h := h, black := blackOf full false ten, maxcode := mx },
    { at_ := fun x y => code (cb + y * pitch + 2 * x * n), w := (w + 1) / 2, h := (h + 1) / 2, black := blackOf full true ten, maxcode := mx },
    { at_ := fun x y => code (cb + y * pitch + (2 * x + 1) * n), w := (w + 1) / 2, h := (h + 1) / 2, black := blackOf full true ten, maxcode := mx } ]

/-- The committed entry of a CSI-2 frame. -/
def Part.ringEntry (p : Part) (s seq : Nat) : Option RingEntry := (p.ctx s).committed.find? (fun e => e.seq == seq)

/-- Line pitch of a stored width (R169). -/
def pitchOfPix (fmt w : Nat) : Nat := (w * (if fmt = 1 then 3 else 2) + 63) / 64 * 64
/-- Memory key of an entry of a stream's ring (R198: an entry stays where its own ring lies). -/
def Part.ringKey (p : Part) (s : Nat) (e : RingEntry) : Nat := winBase (p.img.streamPlot s) + e.base + e.start

/-- The planes of a captured frame (R169): positions are those of the stored window. -/
def Part.csiPlanes (p : Part) (s : Nat) (e : RingEntry) (full : Bool) : List Plane :=
  let fmt := p.img.streamPixfmt s
  let pitch := pitchOfPix fmt e.win.2.2.1
  let base := p.ringKey s e + 64
  let w := e.win.2.2.1
  let h := e.win.2.2.2
  let b := fun o => (p.byte (base + o)).toNat
  if fmt = 0 then
    [ { at_ := fun x y => b (y * pitch + 2 * x + 1), w := w, h := h, black := blackOf full false false, maxcode := 255 },
      { at_ := fun x y => b (y * pitch + 4 * x), w := w / 2, h := h, black := 128, maxcode := 255 },
      { at_ := fun x y => b (y * pitch + 4 * x + 2), w := w / 2, h := h, black := 128, maxcode := 255 } ]
  else if fmt = 1 then
    (List.range 3).map (fun c => { at_ := fun x y => b (y * pitch + 3 * x + c), w := w, h := h, black := 0, maxcode := 255 })
  else [ { at_ := fun x y => b (y * pitch + 2 * x) + 256 * b (y * pitch + 2 * x + 1), w := w, h := h, black := 0, maxcode := 16383 } ]

/-! Scaling (R242 to R245). -/

/-- One axis of a plane's scaling: the source extent as a ratio `s2` / `den` samples, the integer origin, the fraction of a
sample (in quarters) beyond it, and the output extent. -/
structure Axis where
  s2 : Nat
  den : Nat
  o : Int
  quarter : Nat
  n : Nat
  deriving DecidableEq, Repr

/-- k of R242: 0 to 3. -/
def Axis.k (a : Axis) : Nat :=
  if a.s2 ≤ 2 * a.n * a.den then 0 else if a.s2 ≤ 4 * a.n * a.den then 1 else if a.s2 ≤ 8 * a.n * a.den then 2 else 3
/-- step, 16.16, in decimated samples. -/
def Axis.step (a : Axis) : Nat :=
  let d := a.n * a.den * 2 ^ a.k
  (2 * a.s2 * 65536 + d) / (2 * d)
/-- Centre position of output `i`, 16.16, from the origin in decimated samples. -/
def Axis.pos (a : Axis) (i : Nat) : Int := (i * a.step + a.step / 2 : Nat) - 32768 + (a.quarter * 16384 / 2 ^ a.k : Nat)
def Axis.base (a : Axis) (i : Nat) : Int := a.pos i / 65536
def Axis.phase (a : Axis) (i : Nat) : Nat := (a.pos i / 1024 % 64).toNat
/-- First and last source position that output `i` reads along the axis. -/
def Axis.reads (a : Axis) (i : Nat) : Int × Int :=
  let d : Int := (2 ^ a.k : Nat)
  (a.o + (a.base i - 3) * d, a.o + (a.base i + 4) * d + d - 1)

/-! The default coefficients (R243), in fixed point with 96 fraction bits. -/

def fxOne : Int := (2 ^ 96 : Nat)
/-- pi x 2^96. -/
def fxPi : Int := 248902613312231085230521944622
/-- sin of a fixed-point angle by its series, terms `n` on: the terms alternate. -/
def fxSinTerms (x2 : Int) : Nat → Nat → Int → Int
  | 0, _, _ => 0
  | fuel + 1, n, term => term + fxSinTerms x2 fuel (n + 1) (-(term * x2 / fxOne) / (((2 * n + 2) * (2 * n + 3) : Nat) : Int))
/-- sinc(num / den) = sin(pi x) / (pi x) in fixed point. -/
def fxSinc (num : Int) (den : Nat) : Int :=
  if num = 0 then fxOne
  else
    let x := fxPi * num / den
    fxSinTerms (x * x / fxOne) 40 0 x * fxOne / x

/-- A rational rounded to the nearest integer, ties away from zero. -/
def roundDiv (n d : Int) : Int := if 0 ≤ n then (2 * n + d) / (2 * d) else -((2 * -n + d) / (2 * d))

/-- The eight default coefficients of a phase at stretch `rn` / `rd` (R243). -/
def lanczos (rn rd ph : Nat) : List Int :=
  let ts : List Int := [-3, -2, -1, 0, 1, 2, 3, 4]
  let ws := ts.map (fun t =>
    let num : Int := (64 * t - (ph : Int)) * (rd : Int)
    let den := 64 * rn
    if num.natAbs < 2 * den then fxSinc num den * fxSinc num (2 * den) / fxOne else 0)
  let sum := ws.foldl (· + ·) 0
  let cs := ws.map (fun w => roundDiv (1024 * w) sum)
  let top := cs.foldl (fun m c => max m c.natAbs) 0
  let at_ := (cs.findIdx? (fun c => c.natAbs == top)).getD 0
  cs.mapIdx (fun i c => if i = at_ then c + (1024 - cs.foldl (· + ·) 0) else c)

/-- The coefficients of output `i` of an axis (R243): the stage's custom table, or the default. -/
def Rd.coefs (r : Rd) (q : PrnPar) (a : Axis) (vertical : Bool) (i : Nat) : List Int :=
  let ph := a.phase i
  if q.custom then
    (List.range 8).map (fun t => sext 16 (r.u16 (q.coef + (if vertical then 1024 else 0) + 16 * ph + 2 * t)))
  else
    let d := a.n * a.den * 2 ^ a.k
    if a.s2 ≤ d then lanczos 1 1 ph else lanczos a.s2 d ph

/-- Box average of `2^k` values (R242). -/
def boxAvg (k : Nat) (l : List Nat) : Nat := (l.sum + 2 ^ k / 2) / 2 ^ k

/-- The polyphase sum of eight taps (R242). -/
def polyphase (cs : List Int) (maxcode : Nat) (taps : List Nat) : Nat :=
  (clampInt 0 maxcode (((cs.zip taps).foldl (fun s e => s + e.1 * (e.2 : Int)) 0 + 512) / 1024)).toNat

/-- Output sample (i, j) of a plane: decimated horizontally, then vertically, then filtered horizontally, then vertically. -/
def Rd.scaled (r : Rd) (q : PrnPar) (pl : Plane) (ax ay : Axis) (i j : Nat) : Nat :=
  let dx : Int := (2 ^ ax.k : Nat)
  let dy : Int := (2 ^ ay.k : Nat)
  let hdec := fun (jx : Int) (y : Int) => boxAvg ax.k ((List.range (2 ^ ax.k)).map (fun (m : Nat) =>
    pl.sample q.replicate (ax.o + jx * dx + (m : Int)) y))
  let dec := fun (jx jy : Int) => boxAvg ay.k ((List.range (2 ^ ay.k)).map (fun (m : Nat) => hdec jx (ay.o + jy * dy + (m : Int))))
  let ts : List Int := [-3, -2, -1, 0, 1, 2, 3, 4]
  let hpoly := fun (jy : Int) => polyphase (r.coefs q ax false i) pl.maxcode (ts.map (fun t => dec (ax.base i + t) jy))
  polyphase (r.coefs q ay true j) pl.maxcode (ts.map (fun t => hpoly (ay.base j + t)))

/-- The luma axes of a crop: origin in the plane (less the stored window's origin), extent, output extent. -/
def lumaAxis (o : Int) (s n : Nat) : Axis := { s2 := s, den := 1, o := o, quarter := 0, n := n }
/-- A chroma axis of half the luma's samples: `sited` when its first sample lies on a luma sample (R245). -/
def halfAxis (o : Int) (s n : Nat) (sited : Bool) : Axis :=
  { s2 := s, den := 2, o := o / 2, quarter := (if o % 2 = 0 then 0 else 2) + (if sited then 1 else 0), n := n }

/-! Colour and quantisation (R246, R247). -/

def f32Clamp01 (v : Nat) : Nat := f32Min (f32Max v 0) f32One

/-- Y' and C' of a YUV sample. -/
def lumaOf (full : Bool) (ten : Bool) (y : Nat) : Nat :=
  if full then f32Ratio y (if ten then 1023 else 255) else f32Ratio ((y : Int) - (if ten then 64 else 16)) (if ten then 876 else 219)
def chromaOf (full : Bool) (ten : Bool) (c : Nat) : Nat :=
  if full then f32Ratio ((c : Int) - (if ten then 512 else 128)) (if ten then 1023 else 255)
  else f32Ratio ((c : Int) - (if ten then 512 else 128)) (if ten then 896 else 224)

/-- R', G', B' from Y', Cb', Cr' (R246); Kr and Kb in ten-thousandths. -/
def rgbOf (bt709 : Bool) (y cb cr : Nat) : List Nat :=
  let kr : Int := if bt709 then 2126 else 2990
  let kb : Int := if bt709 then 722 else 1140
  let kg := 10000 - kr - kb
  let r := f32Add y (f32Mul (f32Ratio (2 * (10000 - kr)) 10000) cr)
  let g := f32Sub (f32Sub y (f32Mul (f32Ratio (2 * kb * (10000 - kb)) (kg * 10000)) cb))
    (f32Mul (f32Ratio (2 * kr * (10000 - kr)) (kg * 10000)) cr)
  let b := f32Add y (f32Mul (f32Ratio (2 * (10000 - kb)) 10000) cb)
  [r, g, b]

/-- The components of one output pixel, each clamped to [0, 1], from its scaled samples. `kind` 0 YUV, 1 RGB, 2 RAW14. -/
def components (q : PrnPar) (kind : Nat) (ten : Bool) (v : List Nat) : List Nat :=
  let g := fun i => v.getD i 0
  let raw := if kind = 0 then
      let y := lumaOf q.full ten (g 0)
      if q.mono then [y] else rgbOf q.bt709 y (chromaOf q.full ten (g 1)) (chromaOf q.full ten (g 2))
    else if kind = 1 then
      let c := [f32Ratio (g 0) 255, f32Ratio (g 1) 255, f32Ratio (g 2) 255]
      if q.mono then
        [f32Add (f32Add (f32Mul (q.monoW.getD 0 0) (c.getD 0 0)) (f32Mul (q.monoW.getD 1 0) (c.getD 1 0)))
          (f32Mul (q.monoW.getD 2 0) (c.getD 2 0))]
      else c
    else
      let y := f32Ratio (g 0) 16383
      if q.mono then [y] else [y, y, y]
  raw.map f32Clamp01

/-- The stored value of channel `c` (R247), and whether it saturated. -/
def quantised (q : PrnPar) (c v : Nat) : Nat × Bool :=
  let n := f32Mul (f32Sub v (q.mean.getD c 0)) (q.invStd.getD c 0)
  convert (f32Div n (q.scale.getD c 0)) q.fmt (q.zp.getD c 0)

/-- The source of a crop: planes and their axes, the kind of R246, and whether the codes have ten bits. -/
structure CropSrc where
  planes : List (Plane × Axis × Axis)
  kind : Nat
  ten : Bool

/-- The source of crop `c` of a job member. -/
def Part.cropSrc (p : Part) (q : PrnPar) (m : Member) (c : Crop) : CropSrc :=
  let s := m.stream
  let r := p.img
  let lx := lumaAxis c.x0 c.w q.wo
  let ly := lumaAxis c.y0 c.h q.ho
  if r.decoded s then
    let hx := halfAxis c.x0 c.w q.wo true
    let hy := halfAxis c.y0 c.h q.ho false
    { planes := (p.decPlanes s m.gen q.full).mapIdx (fun i pl => if i = 0 then (pl, lx, ly) else (pl, hx, hy)), kind := 0,
      ten := r.decDepth s != 8 }
  else
    match p.ringEntry s m.frameSeq with
    | none => { planes := [], kind := 2, ten := false }
    | some e =>
      let ox : Int := (c.x0 : Int) - e.win.1
      let oy : Int := (c.y0 : Int) - e.win.2.1
      let wx := lumaAxis ox c.w q.wo
      let wy := lumaAxis oy c.h q.ho
      let fmt := r.streamPixfmt s
      { planes := (p.csiPlanes s e q.full).mapIdx (fun i pl =>
          if fmt = 0 ∧ i ≠ 0 then (pl, halfAxis ox c.w q.wo true, wy) else (pl, wx, wy)),
        kind := fmt, ten := false }

/-- One output pixel of a crop: its channels' stored values with their saturation. -/
def Part.cropPixel (p : Part) (q : PrnPar) (src : CropSrc) (i j : Nat) : List (Nat × Bool) :=
  (components q src.kind src.ten (src.planes.map (fun e => p.img.scaled q e.1 e.2.1 e.2.2 i j))).mapIdx (fun c v => quantised q c v)

/-! Drills (R248 to R254). -/

/-- The group of a pipeline's Pruner stage. -/
def Rd.groupOf (r : Rd) (k i : Nat) : Nat := groupKey (r.pipePlot k) (r.prn8 k i 0x0A)
/-- Parameters of a group: those of its first stage. -/
def Rd.groupPar (r : Rd) (g : Nat) : Option PrnPar := ((r.groupStages (g / 16) (g % 16)).head?).map (fun e => r.prnPar e.1 e.2)

/-- Slots of a group in use. -/
def PrnGrp.slotsUsed (u : PrnGrp) : List Nat :=
  (u.opened.map (·.slot)).toList ++ u.closed.map (·.slot) ++ u.used.map (·.1.slot)
/-- A free slot of a group. -/
def Part.freeSlot (p : Part) (g : Nat) (q : PrnPar) : Option Nat :=
  (List.range q.slots).find? (fun i => !(p.grp g).slotsUsed.contains i)
/-- Free slots. -/
def Part.freeSlots (p : Part) (g : Nat) (q : PrnPar) : Nat :=
  ((List.range q.slots).filter (fun i => !(p.grp g).slotsUsed.contains i)).length

/-- The next column of a drill that is a multiple of 32 (R249). -/
def Drill.nextCol (d : Drill) : Nat := d.segs.foldl (fun m s => max m ((s.col + s.width + 31) / 32 * 32)) 0
/-- A sample fits a drill. -/
def Drill.room (d : Drill) (q : PrnPar) : Bool := decide (d.segs.length < 32) && decide (d.nextCol + q.wo ≤ q.cols)

/-- New drills that `n` samples need beyond an open drill (R249). -/
def drillsNeeded (q : PrnPar) (opened : Option Drill) (n : Nat) : Nat :=
  let per := min 32 (q.cols / ((q.wo + 31) / 32 * 32) + (if q.wo ≤ q.cols % ((q.wo + 31) / 32 * 32) then 1 else 0))
  let room := match opened with
    | some d => if d.room q then
        min (32 - d.segs.length) ((q.cols - d.nextCol) / ((q.wo + 31) / 32 * 32) +
          (if q.wo ≤ (q.cols - d.nextCol) % ((q.wo + 31) / 32 * 32) then 1 else 0)) else 0
    | none => 0
  ceilDiv (n - room) (max 1 per)

/-- Plot-virtual base of a slot. -/
def PrnPar.slotBase (q : PrnPar) (i : Nat) : Nat := q.dest + i * q.stride
/-- Write bytes at a plot-virtual address of plot `k`. -/
def Part.virtStore (p : Part) (k a : Nat) (l : List Byte) : Part :=
  match (List.range l.length).mapM (fun i => p.virtKey k (a + i)) with
  | some ks => p.storeAt ks l
  | none => p

/-- The value of every column outside a segment (R250). -/
def PrnPar.fill (q : PrnPar) (c : Nat) : Byte :=
  if q.fmt = 3 ∨ q.fmt = 4 then 0 else BitVec.ofNat 8 (twos 8 (q.zp.getD c 0))

/-- Open a drill in a slot: its tensor holds the fill value. -/
def Part.openDrill (p : Part) (t g : Nat) (q : PrnPar) (slot : Nat) : Part :=
  let plane := q.ho * q.cols
  let u := p.modGrp g (fun u => { u with
    opened := some { seq := u.nextSeq, slot := slot, segs := [], firstAt := t, close := 0, closeTs := 0 }, nextSeq := u.nextSeq + 1 })
  let u := u.each (List.range q.chans) (fun r c =>
    r.virtStore (g / 16) (q.slotBase slot + 0x440 + c * plane) (List.replicate plane (q.fill c)))
  (u.put (F.PRN_GRP_FREE_SLOTS (g - 16)) (u.freeSlots g q))

/-- Close the open drill for a cause (R249). -/
def Part.closeDrill (p : Part) (t g cause : Nat) : Part :=
  match (p.grp g).opened with
  | none => p
  | some d =>
    let q := p.modGrp g (fun u => { u with opened := none, closed := u.closed ++ [{ d with close := cause, closeTs := t }] })
    let q := q.put (F.PRN_GRP_SEQ_SEQ (g - 16)) d.seq
    if cause = 0 then q.add (F.PRN_GRP_FULL_COUNT (g - 16)) 1
    else if cause = 1 then q.add (F.PRN_GRP_TIMED_COUNT (g - 16)) 1 else q

/-- Write output rows `a` to `b - 1` of a sample at column `col` of a slot; the saturations count (R247, R250). -/
def Part.writeRows (p : Part) (k : Nat) (q : PrnPar) (slot col : Nat) (src : CropSrc) (a b : Nat) : Part × Nat :=
  (List.range (b - a)).foldl (fun (x : Part × Nat) j =>
    let px := (List.range q.wo).map (fun i => p.cropPixel q src i (a + j))
    let sat := (px.map (fun l => (l.filter (·.2)).length)).sum
    ((List.range q.chans).foldl (fun (y : Part) c =>
      y.virtStore k (q.slotBase slot + 0x440 + c * q.ho * q.cols + (a + j) * q.cols + col)
        (px.map (fun l => BitVec.ofNat 8 ((l.getD c (0, false)).1)))) x.1, x.2 + sat)) (p, 0)

/-- The drill header (R250). -/
def drillHead (q : PrnPar) (plot : Nat) (d : Drill) : List Byte :=
  toLe 2 d.segs.length ++ toLe 1 q.chans ++ toLe 1 q.fmt ++ toLe 2 q.ho ++ toLe 2 q.cols ++ toLe 4 d.seq ++ toLe 1 q.group ++
    toLe 1 plot ++ toLe 1 d.close ++ [0] ++ toLe 8 d.closeTs ++ List.replicate 40 0
/-- A segment entry (R250). -/
def segBytes (s : Seg) : List Byte :=
  toLe 2 s.col ++ toLe 2 s.width ++ toLe 1 s.stream ++ toLe 1 s.crop ++ toLe 1 s.flags ++ toLe 1 s.pipe ++ toLe 2 s.gen ++
    toLe 2 s.rowsReady ++ toLe 4 s.frameSeq ++ toLe 4 s.tag ++ toLe 4 0 ++ toLe 8 s.ts
/-- Write a drill's header and segment table. -/
def Part.writeTable (p : Part) (k : Nat) (q : PrnPar) (d : Drill) : Part :=
  p.virtStore k (q.slotBase d.slot) (drillHead q k d ++ (d.segs.map segBytes).flatten)

/-! Crops (R253 to R256). -/

/-- Part of a crop inside the frame (R255). -/
def insideLen (o s n : Nat) : Nat := min (o + s) n - min o n
/-- T of a crop in VCLK cycles (R255). -/
def Rd.cropCycles (r : Rd) (s wo ho : Nat) (c : Crop) : Nat :=
  64 + max (ceilDiv (wo * ho) 2) (ceilDiv (insideLen c.x0 c.w (r.streamWidth s) * insideLen c.y0 c.h (r.streamHeight s)) 16)

/-- The last luma row that output row `j` of a crop reads. -/
def Part.rowNeeded (p : Part) (q : PrnPar) (s : Nat) (c : Crop) (j : Nat) : Nat :=
  let h := p.img.streamHeight s
  let luma := (clampInt 0 (h - 1 : Nat) ((lumaAxis c.y0 c.h q.ho).reads j).2).toNat
  if p.img.decoded s ∧ !q.mono then
    let ch := (clampInt 0 ((h + 1) / 2 - 1 : Nat) ((halfAxis c.y0 c.h q.ho false).reads j).2).toNat
    min (h - 1) (max luma (2 * ch + 1))
  else luma
/-- Luma rows of a member's picture that are emitted, or the frame's height once it is committed (R232). -/
def Part.rowsReady (p : Part) (m : Member) : Nat :=
  if p.img.decoded m.stream then
    match (p.dec m.stream).pics.find? (fun x => x.gen == m.gen) with
    | some x => if x.complete then p.img.streamHeight m.stream else x.rows
    | none => 0
  else if (p.ringEntry m.stream m.frameSeq).isSome then p.img.streamHeight m.stream else 0
/-- Output rows of a crop that are final (R254). -/
def Part.finalRows (p : Part) (q : PrnPar) (m : Member) (c : Crop) : Nat :=
  let ready := p.rowsReady m
  ((List.range q.ho).takeWhile (fun j => decide (p.rowNeeded q m.stream c j < ready))).length

/-- The job, member, stage and entry of a crop command. -/
def Part.cropOf (p : Part) (c : Cmd) : Option (Job × Member × Nat × Crop × Bool) :=
  match c.task with
  | .crop i e steered =>
    match c.job.bind p.job? with
    | some j => (j.members[e.member]?).map (fun m => (j, m, i, e, steered))
    | none => none
  | _ => none

/-- A crop's rows are at hand: all of them, or some for a banded crop (R232, R254); a voided job's crop waits for none (R220). -/
def Part.cropRows (p : Part) (c : Cmd) : Bool :=
  match p.cropOf c with
  | none => false
  | some (j, m, _, e, _) =>
    let q := p.img.prnPar j.pipe j.stage
    if p.jobVoided j then true
    else if q.banded then decide (0 < p.finalRows q m e) && (p.grp (p.img.groupOf j.pipe j.stage)).opened.isNone
    else p.finalRows q m e == q.ho

/-- Crops of a group running on engines. -/
def Part.groupRunning (p : Part) (g : Nat) : Nat :=
  ([0, 1, 2, 3].filter (fun e => match p.engine e with
    | some c => match p.cropOf c with
      | some (j, _, _, _, _) => p.img.groupOf j.pipe j.stage == g
      | none => false
    | none => false)).length
/-- The group has room for one more sample (R253); a voided job needs none. -/
def Part.slotRoom (p : Part) (c : Cmd) : Bool :=
  match p.cropOf c with
  | none => false
  | some (j, _, _, _, _) =>
    let q := p.img.prnPar j.pipe j.stage
    let g := p.img.groupOf j.pipe j.stage
    let opened := if q.banded then none else (p.grp g).opened
    p.jobVoided j || decide (drillsNeeded q opened (p.groupRunning g + 1) ≤ p.freeSlots g q)

/-- Bring a plot's credit up to date: `mpix` Mpixel a second, capped at 2 ms worth (R206, R256). -/
def Credit.gain (c : Credit) (t mpix : Nat) : Credit :=
  { milli := min ((c.milli : Int) + mpix * (t - c.at_ : Nat)) (mpix * 2000000 : Nat), at_ := t }

/-- A plot's credit in the Pruner, up to date. -/
def Part.prnCredit (p : Part) (t k : Nat) : Credit := (FMap.get Credit.init p.prn.credit k).gain t (p.get (F.PRN_RES_MPIX k))

/-- Ready crops: rows at hand, plot not fenced, room for the sample (R253, R256). -/
def Part.readyCrops (p : Part) (e : Nat) : List Cmd := p.jobs.ready.filter (fun c => p.fits c 1 e && p.cropRows c)

/-- A crop that waits for a slot is counted once (R253). -/
def Part.countStall (p : Part) (c : Cmd) : Part :=
  if c.begun = 0 then
    match p.cropOf c with
    | some (j, _, _, _, _) => (p.addSat (F.PRN_PIPE_STALLS_COUNT j.pipe) 1).modJobs (fun u => { u with
        ready := u.ready.map (fun x => if x = c then { x with begun := 1 } else x) })
    | none => p
  else p

/-- Store a plot's credit in the Pruner. -/
def Part.setPrnCredit (p : Part) (k : Nat) (c : Credit) : Part :=
  { p with prn := { p.prn with credit := FMap.put Credit.init p.prn.credit k c } }

/-- The segment of no crop. -/
def Seg.none : Seg :=
  { col := 0, width := 0, stream := 0, crop := 0, flags := 0, pipe := 0, gen := 0, rowsReady := 0, frameSeq := 0, tag := 0,
    ts := 0, job := 0 }
/-- The capture timestamp of a member's frame (R15). -/
def Part.memberTs (p : Part) (m : Member) : Option Nat :=
  if p.img.decoded m.stream then ((p.dec m.stream).pics.find? (fun x => x.gen == m.gen)).map (·.ts)
  else (p.ringEntry m.stream m.frameSeq).map (·.ts)
/-- The segment entry of a crop's sample at a column (R250). -/
def Part.segOf (p : Part) (c : Cmd) (col : Nat) : Seg :=
  match p.cropOf c with
  | some (j, m, i, e, steered) =>
    let q := p.img.prnPar j.pipe j.stage
    let clipped := decide (p.img.streamWidth m.stream < e.x0 + e.w) || decide (p.img.streamHeight m.stream < e.y0 + e.h)
    { col := col, width := q.wo, stream := m.stream, crop := i,
      flags := (if p.taintGen m.stream m.gen then 1 else 0) + (if clipped then 2 else 0) + (if steered then 4 else 0),
      pipe := j.pipe, gen := if p.img.decoded m.stream then m.gen else 0, rowsReady := if q.banded then 0 else q.ho,
      frameSeq := m.frameSeq, tag := e.tag, ts := (p.memberTs m).getD j.ts, job := j.handle }
  | none => Seg.none

/-- The waiting crops of a job with a voided generation are skipped (R220); the job is over once those that run have ended. -/
def Part.cropsSkip (p : Part) (j : Job) : Part :=
  let n := (p.jobs.ready.filter (fun c => c.unit == 1 && c.job == some j.handle)).length
  let q := p.addSat (F.PRN_PIPE_SKIPS_COUNT j.pipe) n
  if j.left ≤ n then q.skipVoided j
  else (q.modJobs (fun u => { u with ready := u.ready.filter (fun c => !(c.unit == 1 && c.job == some j.handle)) })).modJob j.handle
    (fun x => { x with left := j.left - n, cut := true })

/-- A free engine takes the next crop (R256), skips one whose generation is voided (R220), or counts waits for a slot. -/
def Part.cropStart (p : Part) (t e : Nat) : Part :=
  let all := p.readyCrops e
  let p := (all.filter (fun c => !p.slotRoom c)).foldl Part.countStall p
  let l := (p.readyCrops e).filter p.slotRoom
  let rich := l.filter (fun c => decide (0 ≤ (p.prnCredit t c.plot).milli))
  match (p.pick rich 1).or (p.pick l 1) with
  | none => p
  | some c =>
    match p.cropOf c with
    | none => p
    | some (j, m, _, en, _) =>
      if p.jobVoided j then p.cropsSkip j
      else
        let q := p.img.prnPar j.pipe j.stage
        let x := (p.noteTurn c).startCmd t { c with begun := 0 }
        let p := x.2.takePlace c x.1 e
        let cost := 2 * (p.img.cropCycles m.stream q.wo q.ho en - 64)
        let cr := p.prnCredit t c.plot
        let p := p.setPrnCredit c.plot { cr with milli := cr.milli - 1000 * cost }
        let p := (p.setEngine e (some x.1)).setBit F.PRN_ENG_BUSY_BUSY e
        if q.banded then
          let g := p.img.groupOf j.pipe j.stage
          match p.freeSlot g q with
          | some slot =>
            let p := p.openDrill t g q slot
            let d := (p.grp g).opened
            p.modGrp g (fun u => { u with opened := d.map (fun v => { v with segs := [p.segOf x.1 0] }) })
          | none => p
        else p

/-- A crop's engine is free again, and the command has ended. -/
def Part.engineFree (p : Part) (t e : Nat) (c : Cmd) : Part :=
  let q := (p.setEngine e none).clrBit F.PRN_ENG_BUSY_BUSY e
  let q := match p.cropOf c with
    | some (j, m, _, _, _) => (q.add (F.PRN_PIPE_CROPS_COUNT j.pipe) 1).freeBufs m.stream
    | none => q
  q.cmdEnd t c 0

/-- A crop finishes and its sample takes its place (R249): in the open drill, or in a new one when it does not fit. -/
def Part.cropEnd (p : Part) (t e : Nat) : Part :=
  match p.engine e with
  | none => p
  | some c =>
    match p.cropOf c with
    | none => (p.setEngine e none).clrBit F.PRN_ENG_BUSY_BUSY e
    | some (j, m, _, en, _) =>
      let q := p.img.prnPar j.pipe j.stage
      let g := p.img.groupOf j.pipe j.stage
      let src := p.cropSrc q m en
      if q.banded then
        -- a banded crop ends with its last ready notice, or when its picture is voided
        (p.modGrp g (fun u => { u with opened := none })).engineFree t e c
      else
        let p := match (p.grp g).opened with
          | some d => if d.room q then p else p.closeDrill t g 0
          | none => p
        let p := if (p.grp g).opened.isSome then p else match p.freeSlot g q with
          | some slot => p.openDrill t g q slot
          | none => p
        match (p.grp g).opened with
        | none => p
        | some d =>
          let col := d.nextCol
          let w := p.writeRows j.plot q d.slot col src 0 q.ho
          let p := w.1.add (F.PRN_PIPE_SAT_COUNT j.pipe) w.2
          let d := { d with segs := d.segs ++ [p.segOf c col], firstAt := if d.segs = [] then t else d.firstAt }
          let p := (p.modGrp g (fun u => { u with opened := some d })).modJob j.handle (fun x => { x with
            drills := if x.drills.contains (g, d.seq) then x.drills else x.drills ++ [(g, d.seq)] })
          let p := if !d.room q then p.closeDrill t g 0 else if q.waitNs = 0 then p.closeDrill t g 1 else p
          p.engineFree t e c

/-- A running crop is finished: a banded one after its last notice, or once its picture is voided. -/
def Part.cropDone (p : Part) (e : Nat) : Bool :=
  match p.engine e with
  | none => false
  | some c => match p.cropOf c with
    | none => true
    | some (j, m, _, _, _) => !(p.img.prnPar j.pipe j.stage).banded ||
        (p.grp (p.img.groupOf j.pipe j.stage)).opened.isNone || p.voidedGen m.stream m.gen

/-- An open drill has waited DRILL_WAIT_NS since its first sample (R249). -/
def Part.drillWaited (p : Part) (t g : Nat) : Bool :=
  match p.img.groupPar g, (p.grp g).opened with
  | some q, some d => !q.banded && !d.segs.isEmpty && decide (d.firstAt + q.waitNs ≤ t)
  | _, _ => false

/-- A drill is delivered (R252, R253): its consumers are one inference, or the jobs whose next stage is no model. -/
def Part.deliver (p : Part) (t g : Nat) (d : Drill) : Part :=
  match (p.img.groupStages (g / 16) (g % 16)).head? with
  | none => p
  | some (k, i) =>
    let jobs := (d.segs.map (·.job)).eraseDups.filter (fun h => (p.job? h).isSome)
    let kind := if i + 1 < p.img.pipeStages k then p.img.stageKind k (i + 1) else 5
    if kind = 1 then
      let q := p.modGrp g (fun u => { u with used := u.used ++ [(d, if jobs = [] then 0 else 1)] })
      if jobs = [] then q
      else q.newInfer jobs (g / 16) k (p.img.stageRef k (i + 1)) (some (g, d.seq)) d.segs
    else
      let q := p.modGrp g (fun u => { u with used := u.used ++ [(d, jobs.length)] })
      -- jobs whose crops have ended and that wait for the notice go on
      jobs.foldl (fun (q : Part) h => match q.job? h with
        | some j =>
          if 0 < j.stage ∧ j.left = 0 ∧ q.img.stageKind j.pipe (j.stage - 1) = 0 ∧ !q.drillsPending j then Part.runStages t h 20 q
          else q
        | none => q) q

/-- A ready notice (R252, R254): the oldest closed drill of a group, or the next rows of its banded drill. -/
def Part.drillNotice (p : Part) (t g : Nat) : Part :=
  match p.img.groupPar g with
  | none => p
  | some q =>
    if q.banded then
      let run := [0, 1, 2, 3].find? (fun e => match (p.engine e).bind p.cropOf with
        | some (j, _, _, _, _) => p.img.groupOf j.pipe j.stage == g
        | none => false)
      match run.bind (fun e => (p.engine e).bind p.cropOf), (p.grp g).opened with
      | some (j, m, _, en, _), some d =>
        let s := d.segs.headD Seg.none
        let n := p.finalRows q m en
        let w := p.writeRows (g / 16) q d.slot 0 (p.cropSrc q m en) s.rowsReady n
        let p := w.1.add (F.PRN_PIPE_SAT_COUNT j.pipe) w.2
        let first := !((p.job? j.handle).map (fun x => x.drills.contains (g, d.seq))).getD true
        let d := { d with segs := [{ s with rowsReady := n }], close := 3, closeTs := t }
        let p := p.writeTable (g / 16) q d
        let p := (p.modGrp g (fun u => { u with opened := some d })).modJob j.handle (fun x => { x with
          drills := if x.drills.contains (g, d.seq) then x.drills else x.drills ++ [(g, d.seq)] })
        let p := if first then p.deliver t g d else p
        let p := p.modJobs (fun u => { u with infers := u.infers.map (fun x =>
          if x.drill = some (g, d.seq) ∧ x.layer = 0 then { x with segs := d.segs } else x) })
        if n = q.ho then p.modGrp g (fun u => { u with opened := none }) else p
      | _, _ => p
    else
      match (p.grp g).closed with
      | [] => p
      | d :: rest => ((p.modGrp g (fun u => { u with closed := rest })).writeTable (g / 16) q d).deliver t g d

/-- A ready notice is due: a closed drill waits, or a running banded crop has more final rows than its last notice gave. -/
def Part.noticeDue (p : Part) (g : Nat) : Bool :=
  match p.img.groupPar g with
  | none => false
  | some q =>
    if q.banded then
      match (p.grp g).opened with
      | some d => [0, 1, 2, 3].any (fun e => match (p.engine e).bind p.cropOf with
          | some (j, m, _, en, _) => p.img.groupOf j.pipe j.stage == g &&
              decide ((d.segs.headD Seg.none).rowsReady < p.finalRows q m en)
          | none => false)
      | none => false
    else !(p.grp g).closed.isEmpty

/-- A slot's consumers have all ended. -/
def Part.slotIdle (p : Part) (g : Nat) : Bool :=
  (p.grp g).used.any (fun e => e.2 == 0 && ((p.grp g).opened.map (·.seq)) != some e.1.seq)

/-- Free a slot whose consumers have all ended (R253). -/
def Part.slotFree (p : Part) (g : Nat) : Part :=
  let q := p.modGrp g (fun u => { u with used := u.used.filter (fun e => e.2 != 0 || (u.opened.map (·.seq)) == some e.1.seq) })
  match q.img.groupPar g with
  | some par => q.put (F.PRN_GRP_FREE_SLOTS (g - 16)) (q.freeSlots g par)
  | none => q

end Sys2Proof.Machine
end

