-- ==== Sys2Proof/Machine/VideoDecode.lean ====
section
/-! DEFINITION. Video decode (08_video_decode): the decode queues, the choice of slices by credit, pictures and their
generations, bands, voiding, taint and concealment. What the bitstream of a NAL unit says under the ITU-T standards is an
operand of the commands (assumption 40). -/

namespace Sys2Proof.Machine

/-- A stream is decoded: EN of decode and of the stream, its plot not fenced. -/
def Part.decOn (p : Part) (s : Nat) : Bool :=
  p.on F.VDC_CTRL_EN && p.on (F.VDC_STR_CFG_EN s) && !p.fenced (p.img.streamPlot s)
/-- The core a stream is on. -/
def Part.decCore (p : Part) (s : Nat) : Option Nat :=
  [0, 1, 2, 3, 4, 5].find? (fun c => FMap.get (fun _ => none) p.vdc.cores c == some s)
/-- Put a stream on a core, or free it. -/
def Part.setDecCore (p : Part) (c : Nat) (s : Option Nat) : Part :=
  let q := { p with vdc := { p.vdc with cores := FMap.put (fun _ => none) p.vdc.cores c s } }
  if s.isSome then q.setBit F.VDC_CORE_BUSY_BUSY c else q.clrBit F.VDC_CORE_BUSY_BUSY c
/-- The picture being decoded. -/
def DecStream.cur (u : DecStream) : Option DecPic := if u.current then u.pics.head? else none
/-- Change the newest picture. -/
def Part.modPic (p : Part) (s : Nat) (f : DecPic → DecPic) : Part :=
  p.modDec s (fun u => { u with pics := match u.pics with
    | [] => []
    | x :: r => f x :: r })

/-! Voids. -/

/-- The pairs that a picture is a non-reference member of: set, reference stream and generation (R487). -/
def Part.cullPairs (p : Part) (s gen : Nat) : List (Nat × Nat × Nat) :=
  let hit := fun (ms : List Member) (set ref : Nat) =>
    match ms.findIdx? (fun m => !m.missing && m.stream == s && m.gen == gen) with
    | some i => if i = ref then none else (ms[ref]?).map (fun m => (set, m.stream, m.gen))
    | none => none
  (p.jobs.past.filterMap (fun j => hit j.members j.set j.ref) ++
    p.jobs.jobs.filterMap (fun j => hit j.members j.set j.ref)).eraseDups

/-- The CULL of a picture (R219, R487). -/
def Part.cullPicture (p : Part) (t s cause : Nat) (x : DecPic) : Part :=
  p.cull t (p.img.streamPlot s) cause
    { stream := s, gen := x.gen, job := 0, frameSeq := x.frameSeq, pipe := 0xFF, set := 0xFF, ts := x.ts, flags := 0 }
    (p.cullPairs s x.gen)

/-- Void the picture being decoded for a cause of R218: never a complete one (R221). Its CULL is formed where a band was emitted,
but for cause 7, whose CULL Fallow step 4 forms; its reference copy is concealed, but for cause 7 (R222, R228). -/
def Part.voidCurrent (p : Part) (t s cause : Nat) : Part :=
  match (p.dec s).cur with
  | none => p
  | some x =>
    if x.complete || x.voided then p
    else
      let q := (p.modPic s (fun y => { y with voided := true })).modDec s (fun u => { u with
        concealed := u.concealed || (x.ref && cause != 7) })
      let q := ((q.addSat (F.VDC_STR_VOIDS_COUNT s) 1).put (F.VDC_STR_LAST_VOID_GEN s) x.gen).put
        (F.VDC_STR_LAST_VOID_CAUSE s) cause
      let q := q.iff (x.emitted && cause != 7) (fun r => r.cullPicture t s cause x)
      q.freeBufs s

/-! The decode queue. -/

/-- The state that a slice's picture leaves the stream in, and whether the slice is skipped (R201 to R203): a random access
picture whose parameter sets are supported starts decoding; an unsupported one is refused. -/
def Part.admitSlice (p : Part) (s : Nat) (first rap rasl recovery supported : Bool) : Bool × Part :=
  let st := p.get (F.VDC_STR_STATE_STATE s)
  let start := rap || recovery
  if !supported then
    if st = 3 then (false, p)
    else (false, (p.put (F.VDC_STR_STATE_STATE s) 3).addSat (F.VDC_STR_REFUSALS_COUNT s) 1)
  else if st = 2 then
    if rasl && (p.dec s).skipRasl then (false, p)
    else (true, if first && rap then p.modDec s (fun u => { u with skipRasl := false }) else p)
  else if start && first then
    (true, (p.put (F.VDC_STR_STATE_STATE s) 2).modDec s (fun u => { u with skipRasl := rap, recovering := !rap }))
  else (false, p)

/-- Work off what stands at the front of a stream's queue and needs no core: notices, and slices that are skipped. It stops at a
slice to decode; `n` bounds the walk. -/
def Part.decAdvance (t s : Nat) : Nat → Part → Part
  | 0, p => p
  | n + 1, p =>
    if (p.decCore s).isSome then p
    else
      let u := p.dec s
      let drop := fun (q : Part) => q.modDec s (fun v => { v with items := v.items.drop 1 })
      let curOf := fun f => (u.cur.map (·.frameSeq)) == some f
      match u.items with
      | [] => p
      | .omitted f isSlice :: _ =>
        Part.decAdvance t s n (drop (if isSlice && curOf f then p.voidCurrent t s 2 else p))
      | .auEnd f :: _ =>
        let q := if curOf f then (p.voidCurrent t s 3).modDec s (fun v => { v with current := false }) else p
        Part.decAdvance t s n (drop q)
      | .slice f _ _ first rap rasl _ recovery supported :: _ =>
        -- a new picture ends one that is not covered (R218)
        let p := if first && u.current then (p.voidCurrent t s 3).modDec s (fun v => { v with current := false }) else p
        if curOf f && !first then
          if (u.cur.map (·.voided)).getD false then Part.decAdvance t s n (drop p) else p
        else
          let a := p.admitSlice s first rap rasl recovery supported
          if a.1 then a.2 else Part.decAdvance t s n (drop a.2)

/-- Work off a stream's queue as far as it goes. -/
def Part.decRun (p : Part) (t s : Nat) : Part := Part.decAdvance t s ((p.dec s).items.length + 1) p

/-- A NAL unit, an omission notice, an abandon notice or an access unit's end reaches decode (R211). -/
def Part.handoff (p : Part) (t s : Nat) (n : NalNotice) (f : NalFacts) : Part :=
  let hevc := p.img.streamCodec s == 2
  let push := fun (q : Part) (i : DecItem) => q.modDec s (fun u => { u with items := u.items ++ [i] })
  if !p.decOn s then p
  else match n with
    | .nal seq ts _ len d =>
      let b := fun i => (d.getD i 0).toNat
      let ty := if hevc then b 0 / 2 % 64 else b 0 % 32
      let isSlice := if hevc then decide (ty ≤ 9 ∨ (16 ≤ ty ∧ ty ≤ 21)) else ty == 1 || ty == 5
      let first := if hevc then decide (128 ≤ b 2) else decide (128 ≤ b 1)
      let rap := if hevc then decide (16 ≤ ty ∧ ty ≤ 21) else ty == 5
      let rasl := hevc && (ty == 8 || ty == 9)
      let ref := if hevc then decide (16 ≤ ty) || ty % 2 == 1 else b 0 / 32 % 4 != 0
      if isSlice then
        (push (p.modDec s (fun u => { u with seiPending := false }))
          (.slice seq ts len first rap rasl ref (p.dec s).seiPending f.supported)).decRun t s
      else p.modDec s (fun u => { u with seiPending := u.seiPending || (!hevc && ty == 6 && f.recoverySei) })
    | .omitted seq _ => (push p (.omitted seq f.lostSlice)).decRun t s
    | .auEnd seq _ _ _ => (push p (.auEnd seq)).decRun t s
    | .abandoned seq _ =>
      -- the queue loses the unit's items; a picture of it is voided at once (R229)
      let q := p.modDec s (fun u => { u with items := u.items.filter (fun i => match i with
        | .slice x _ _ _ _ _ _ _ _ => x != seq
        | .omitted x _ => x != seq
        | .auEnd x => x != seq) })
      if ((q.dec s).cur.map (·.frameSeq)) = some seq then
        ((q.voidCurrent t s 4).modDec s (fun u => { u with current := (q.decCore s).isSome })).decRun t s
      else q

/-! Slices (R204 to R206). -/

/-- The slice at the front of a stream's queue, when it can start. -/
def Part.readySlice (p : Part) (s : Nat) : Option (Nat × Nat × Nat × Bool × Bool × Bool) :=
  if !p.decOn s || (p.decCore s).isSome || p.get (F.VDC_STR_STATE_STATE s) != 2 then none
  else match (p.dec s).items with
    | .slice f ts len first rap _ ref _ _ :: _ => some (f, ts, len, first, rap, ref)
    | _ => none

/-- A plot's credit in decode, up to date. -/
def Part.vdcCredit (p : Part) (t k : Nat) : Credit := (FMap.get Credit.init p.vdc.credit k).gain t (p.get (F.VDC_RES_MPIX k))
/-- Store a plot's credit in decode. -/
def Part.setVdcCredit (p : Part) (k : Nat) (c : Credit) : Part :=
  { p with vdc := { p.vdc with credit := FMap.put Credit.init p.vdc.credit k c } }

/-- T of R205 in VCLK cycles, without a picture's 800. -/
def sliceCycles (samples bytes : Nat) : Nat := max (ceilDiv (4 * samples) 5) (max (16 * bytes) 1600)

/-- The stream whose slice a free core takes (R206): oldest stamp first, of plots with credit, then of the others; ties to the
lower stream. -/
def Part.pickSlice (p : Part) (t : Nat) : Option Nat :=
  let ready := (List.range 128).filter (fun s => (p.readySlice s).isSome)
  let ts := fun s => ((p.readySlice s).map (fun e => e.2.1)).getD 0
  let oldest := fun (l : List Nat) => l.foldl (fun (b : Option Nat) s => match b with
    | none => some s
    | some x => if ts s < ts x then some s else some x) none
  (oldest (ready.filter (fun s => decide (0 ≤ (p.vdcCredit t (p.img.streamPlot s)).milli)))).or (oldest ready)

/-- A pipeline takes a stream in its Pruner stage. -/
def Rd.takesStream (r : Rd) (k s : Nat) : Bool :=
  (r.prnStage k).isSome && (List.range (r.inputMembers k)).any (fun m => r.memberStream k m == s)

/-- A pipeline will take frame `f` of a stream in its Pruner stage: one that FRAME_DIV processes (R387), of an enabled set where it
takes a set. Any other it skips (R224). -/
def Part.willTake (p : Part) (k s f : Nat) : Bool :=
  let r := p.img
  if r.pipeInputKind k = 0 then f % max 1 (r.pipeDiv k) == 0
  else p.on (F.ITK_SET_CTRL_EN (r.pipeInput k)) &&
    (r.setStream (r.pipeInput k) (r.setRef (r.pipeInput k)) != s || f % max 1 (r.pipeDiv k) == 0)

/-- A picture starts (R212): its generation, its output buffer or darkness (R225), its taint (R223), and the latch (R238). -/
def Part.pictureStart (p : Part) (s f ts : Nat) (rap ref : Bool) (x : SliceFacts) : Part :=
  let u := p.dec s
  let gen := u.genNext
  let clean := rap || x.recovered
  let concealed := (u.concealed && !clean) || x.absentRef
  let recovering := u.recovering && !clean
  let tainted := recovering || (concealed && x.predicts) || x.absentRef
  let users := p.img.pipes.filter (fun k => p.img.takesStream k s && p.willTake k s f)
  let free := [0, 1, 2].find? (fun i => (FMap.get (fun _ => none) u.bufs i).isNone)
  let pic : DecPic := { gen := gen, frameSeq := f, ts := ts, rows := 0, emitted := false, dark := free.isNone, tainted := tainted,
                        voided := false, complete := false, ref := ref, buf := free.getD 0, allOff := true, early := false }
  let q := p.modDec s (fun v => { v with
    pics := (pic :: v.pics).take 256, current := true, genNext := (gen + 1) % 65536, concealed := concealed, recovering := recovering,
    bufs := match free with
      | some i => FMap.put (fun _ => none) v.bufs i (some { gen := gen, users := users })
      | none => v.bufs })
  let q := q.freeBufs s
  let q := (q.put (F.VDC_STR_GEN_GEN s) gen).put (F.VDC_STR_STATE_TAINTED s) (if tainted then 1 else 0)
  let q := q.iff (tainted && free.isSome) (·.addSat (F.VDC_STR_TAINTS_COUNT s) 1)
  let q := q.iff free.isNone (·.addSat (F.VDC_STR_DARK_COUNT s) 1)
  q.putLatches s f gen ts

/-- A free core takes the next ready slice (R206). -/
def Part.sliceStart (p : Part) (t c : Nat) (x : SliceFacts) : Part :=
  match p.pickSlice t with
  | none => p
  | some s =>
    match p.readySlice s with
    | none => p
    | some (f, ts, len, first, rap, ref) =>
      let k := p.img.streamPlot s
      let starts := first || !(p.dec s).current
      let cost := 1250 * sliceCycles x.samples len + (if starts then 1000000 else 0)
      let cr := p.vdcCredit t k
      let q := p.setVdcCredit k { cr with milli := cr.milli - cost }
      let q := q.modDec s (fun u => { u with items := u.items.drop 1 })
      let q := q.iff starts (fun r => r.pictureStart s f ts rap ref x)
      q.setDecCore c (some s)

/-! Bands (R213 to R215). -/

/-- The picture before the newest met the second condition of R213: complete, with deblocking off in every slice. -/
def DecStream.prevOff (u : DecStream) : Bool :=
  match u.pics with
  | _ :: y :: _ => y.complete && y.allOff
  | _ => false

/-- Store a band's rows in the output picture (R210). -/
def Part.storeBand (p : Part) (s buf from_ top : Nat) (x : SliceResult) : Part :=
  let r := p.img
  let pitch := r.decWa s * (if r.decDepth s = 8 then 1 else 2)
  let base := winBase (r.streamPlot s) + r.outBase s + buf * r.outPicture s
  let q := p.store (base + from_ * pitch) (x.luma.take ((top - from_) * pitch))
  q.store (base + pitch * r.decHa s + from_ / 2 * pitch) (x.chroma.take ((ceilDiv top 2 - from_ / 2) * pitch))

/-- The band that ends at row `top` is emitted; an empty one is not, and a dark picture emits none (R213, R225). -/
def Part.emitBand (p : Part) (s top : Nat) (early : Bool) (x : SliceResult) : Part :=
  match (p.dec s).cur with
  | none => p
  | some y =>
    if top ≤ y.rows || y.dark then p
    else (p.storeBand s y.buf y.rows top x).modPic s (fun z => { z with rows := top, emitted := true, early := z.early || early })

/-- The newest picture is complete (R221). -/
def Part.pictureDone (p : Part) (s : Nat) : Part :=
  ((p.modPic s (fun y => { y with complete := true })).modDec s (fun u => { u with current := false })).add
    (F.VDC_STR_PICS_COUNT s) 1

/-- A slice finishes on its core (R213, R214, R218). -/
def Part.sliceEnd (p : Part) (t c : Nat) (x : SliceResult) : Part :=
  match FMap.get (fun _ => none) p.vdc.cores c with
  | none => p
  | some s =>
    let p := p.setDecCore c none
    let avc := p.img.streamCodec s == 1
    match (p.dec s).cur with
    | none => p.decRun t s
    | some y =>
      let q :=
        if y.voided then p
        else match x.ends with
          | .syntaxError => p.voidCurrent t s 1
          | .missing => p.voidCurrent t s 2
          | .dram => p.voidCurrent t s 5
          | .decoded =>
            let off := avc && (p.dec s).prevOff
            let p := p.modPic s (fun z => { z with allOff := z.allOff && x.deblockOff })
            if y.early && !x.deblockOff then p.voidCurrent t s 6
            else
              let free := (!avc && x.noCross) || off
              let p := p.put (F.VDC_STR_STATE_NO_HOLD s) (if free then 1 else 0)
              if x.last then (p.emitBand s (p.img.streamHeight s) (avc && off) x).pictureDone s
              else p.emitBand s (min (if free then x.row else x.row - 8) (p.img.streamHeight s)) (avc && off) x
      q.decRun t s

/-- Decode abandons what it does for a plot at the Fallow fence (R228). -/
def Part.decFence (p : Part) (t k : Nat) : Part :=
  p.each ((List.range 128).filter (fun s => p.img.decoded s && p.img.streamPlot s == k)) (fun q s =>
    let q := (q.voidCurrent t s 7).modDec s (fun u => { u with items := [], current := false })
    let q := match q.decCore s with
      | some c => q.setDecCore c none
      | none => q
    if q.get (F.VDC_STR_STATE_STATE s) = 0 then q else q.put (F.VDC_STR_STATE_STATE s) 4)

end Sys2Proof.Machine
end

