-- ==== Sys2Proof/Machine/Tracker.lean ====
section
/-! DEFINITION. The tracker library (R587 to R591): prediction, association, update, settling, records and the steered list. The
order of the binary32 operations within a step is a reading of R589 (assumption 41). -/

namespace Sys2Proof.Machine

/-- The tracker parameter block (R587). -/
structure TrkPar where
  maxTracks : Nat
  maxDet : Nat
  confirm : Nat
  maxMisses : Nat
  detect : Bool
  tentative : Bool
  steer : Bool
  classAware : Bool
  iouMin : Nat
  qPos : Nat
  qVel : Nat
  rMeas : Nat
  margin : Nat
  steerMax : Nat
  scoreMin : Nat
  detAddr : Nat
  deriving DecidableEq, Repr

/-- The tracker block of stage `i` of pipeline `k`. -/
def Rd.trkPar (r : Rd) (k i : Nat) : TrkPar :=
  let o := r.stageBlock k i
  let fl := r.u8 (o + 6)
  { maxTracks := r.u16 o, maxDet := r.u16 (o + 2), confirm := r.u8 (o + 4), maxMisses := r.u8 (o + 5),
    detect := fl % 2 == 1, tentative := fl / 2 % 2 == 1, steer := fl / 4 % 2 == 1, classAware := fl / 8 % 2 == 1,
    iouMin := r.u32 (o + 8), qPos := r.u32 (o + 0x0C), qVel := r.u32 (o + 0x10), rMeas := r.u32 (o + 0x14),
    margin := r.u32 (o + 0x18), steerMax := r.u16 (o + 0x1C), scoreMin := r.u16 (o + 0x1E), detAddr := r.u64 (o + 0x20) }

/-- A detection (R588). -/
structure Det where
  cls : Nat
  score : Nat
  x0 : Nat
  y0 : Nat
  w : Nat
  h : Nat
  member : Nat
  crop : Nat
  deriving DecidableEq, Repr

/-- The detections that count: at most MAX_DET entries, those at or above SCORE_MIN (R588). -/
def detections (q : TrkPar) (l : List Byte) : List Det :=
  let le := fun o n => leNat ((l.drop o).take n)
  ((List.range (min (le 0 4) q.maxDet)).map (fun i =>
    let o := 16 + 16 * i
    ({ cls := le o 2, score := le (o + 2) 2, x0 := le (o + 4) 2, y0 := le (o + 6) 2, w := le (o + 8) 2, h := le (o + 10) 2,
       member := le (o + 12) 1, crop := le (o + 13) 1 } : Det))).filter (fun d => decide (q.scoreMin ≤ d.score))

/-- Half of a binary32 value. -/
def f32Half (x : Nat) : Nat := f32Mul x 0x3F000000

/-- The measured box of a detection: cx, cy, w, h. -/
def Det.box (d : Det) : List Nat :=
  let w := f32OfInt d.w
  let h := f32OfInt d.h
  [f32Add (f32OfInt d.x0) (f32Half w), f32Add (f32OfInt d.y0) (f32Half h), w, h]

/-- Intersection over union of two boxes (cx, cy, w, h). -/
def iou (a b : List Nat) : Nat :=
  let g := fun (l : List Nat) i => l.getD i 0
  let lap := fun c e =>
    let lo := f32Max (f32Sub (g a c) (f32Half (g a e))) (f32Sub (g b c) (f32Half (g b e)))
    let hi := f32Min (f32Add (g a c) (f32Half (g a e))) (f32Add (g b c) (f32Half (g b e)))
    f32Max (f32Sub hi lo) 0
  let inter := f32Mul (lap 0 2) (lap 1 3)
  f32Div inter (f32Sub (f32Add (f32Mul (g a 2) (g a 3)) (f32Mul (g b 2) (g b 3))) inter)

/-- Step 1: predict over `dt` seconds. -/
def Track.predict (u : Track) (q : TrkPar) (dt : Nat) : Track :=
  let x := fun i => u.x.getD i 0
  let c := fun i => u.cov.getD i 0
  let np := f32Mul q.qPos dt
  let nv := f32Mul q.qVel dt
  let axis := fun i =>
    let cv := f32Add (c (i + 1)) (f32Mul dt (c (i + 2)))
    [f32Add (f32Add (c i) (f32Mul dt (f32Add (c (i + 1)) cv))) np, cv, f32Add (c (i + 2)) nv]
  { u with x := [f32Add (x 0) (f32Mul (x 4) dt), f32Add (x 1) (f32Mul (x 5) dt), x 2, x 3, x 4, x 5],
           cov := axis 0 ++ axis 3 ++ [f32Add (c 6) np, f32Add (c 7) np] }

/-- Step 3: update a track with a matched detection. -/
def Track.update (u : Track) (q : TrkPar) (d : Det) : Track :=
  let x := fun i => u.x.getD i 0
  let c := fun i => u.cov.getD i 0
  let z := fun i => d.box.getD i 0
  let gain := fun i => f32Div (c i) (f32Add (c i) q.rMeas)
  let vgain := fun i => f32Div (c (i + 1)) (f32Add (c i) q.rMeas)
  let rest := fun k v => f32Mul (f32Sub f32One k) v
  let axis := fun i => [rest (gain i) (c i), rest (gain i) (c (i + 1)), f32Sub (c (i + 2)) (f32Mul (vgain i) (c (i + 1)))]
  let move := fun v k zi xi => f32Add v (f32Mul k (f32Sub zi xi))
  { u with
    x := [move (x 0) (gain 0) (z 0) (x 0), move (x 1) (gain 3) (z 1) (x 1), move (x 2) (gain 6) (z 2) (x 2),
          move (x 3) (gain 7) (z 3) (x 3), move (x 4) (vgain 0) (z 0) (x 0), move (x 5) (vgain 3) (z 1) (x 1)],
    cov := axis 0 ++ axis 3 ++ [rest (gain 6) (c 6), rest (gain 7) (c 7)],
    score := d.score, misses := 0, hits := u.hits + 1 }

/-- A tentative track for an unmatched detection; its velocity and covariance are free values. -/
def Det.start (d : Det) (id : Nat) : Track :=
  let f := fun i => (Config.trackInit i).toNat
  { id := id, state := 0, cls := d.cls, score := d.score, member := d.member, hits := 0, misses := 0, age := 0,
    x := d.box ++ [f 0, f 1], cov := (List.range 8).map (fun i => f (2 + i)) }

/-- Step 2: the greedy matching of track indices and detection indices by descending IoU; `pairs` stands in the order that
breaks ties, and `n` bounds the walk. -/
def matchPairs : Nat → List (Nat × Nat × Nat) → List (Nat × Nat)
  | 0, _ => []
  | n + 1, pairs =>
    match pairs with
    | [] => []
    | p :: r =>
      let b := r.foldl (fun b e => if (f32 b.1).lt (f32 e.1) then e else b) p
      (b.2.1, b.2.2) :: matchPairs n (pairs.filter (fun e => e.2.1 != b.2.1 && e.2.2 != b.2.2))

/-- The pairs whose IoU and class allow a match, by track then detection. -/
def allowedPairs (q : TrkPar) (ts : List Track) (ds : List Det) : List (Nat × Nat × Nat) :=
  (List.range ts.length).flatMap (fun i => (List.range ds.length).filterMap (fun j =>
    match ts[i]?, ds[j]? with
    | some u, some d =>
      let v := iou u.x d.box
      if (f32 q.iouMin).le (f32 v) && (!q.classAware || u.cls == d.cls) then some (v, i, j) else none
    | _, _ => none))

/-- Step 4: settle a track that was matched, or missed. -/
def Track.settle (u : Track) (q : TrkPar) (hit : Bool) : Track :=
  let u := if u.state = 0 then u else { u with age := u.age + 1 }
  if hit then
    if u.state = 0 then (if q.confirm ≤ u.hits then { u with state := 1 } else u) else { u with state := 1 }
  else
    let m := u.misses + 1
    if u.state = 0 then { u with misses := m, hits := 0, state := 3 }
    else { u with misses := m, hits := 0, state := if q.maxMisses < m then 3 else 2 }

/-- A run: steps 1 to 4 over the tracks; the next TRACK_ID afterwards. Ended tracks stand in the list with STATE 3. -/
def trackRun (q : TrkPar) (ts : List Track) (ds : List Det) (dt lastId : Nat) : List Track × Nat :=
  let ts := ts.map (fun u => u.predict q dt)
  let ms := matchPairs (ts.length * ds.length + 1) (allowedPairs q ts ds)
  let old := ts.mapIdx (fun i u => match ms.find? (fun e => e.1 == i) with
    | some e => match ds[e.2]? with
      | some d => (u.update q d).settle q true
      | none => u
    | none => u.settle q false)
  let free := ((List.range ds.length).filter (fun j => !ms.any (fun e => e.2 == j))).filterMap (fun j => ds[j]?)
  let order := sortBy (fun a b => decide (b.score ≤ a.score)) free
  let born := (order.take (q.maxTracks - ts.length)).mapIdx (fun i d => d.start (lastId + 1 + i))
  (old ++ born, lastId + born.length)

/-- A box coordinate as a record gives it. -/
def boxCode (x : Nat) : Nat := (clampInt 0 65535 ((f32 x).rne)).toNat

/-- Bytes 0x1E to 0x3F of a TRACK record. -/
def Track.record (u : Track) : List Byte :=
  let x := fun i => u.x.getD i 0
  let vel := fun i => twos 16 (clampInt (-32768) 32767 ((f32 (f32Mul (x i) 0x40800000)).rne))
  toLe 2 u.cls ++ toLe 4 u.id ++ toLe 2 (boxCode (f32Sub (x 0) (f32Half (x 2)))) ++
    toLe 2 (boxCode (f32Sub (x 1) (f32Half (x 3)))) ++ toLe 2 (boxCode (x 2)) ++ toLe 2 (boxCode (x 3)) ++
    toLe 2 (vel 4) ++ toLe 2 (vel 5) ++ toLe 2 (min u.age 65535) ++ toLe 2 (min u.misses 65535) ++ toLe 2 u.score ++
    toLe 1 u.state ++ toLe 1 u.member

/-- Bytes 0x1E to 0x3F of a DETECT record of the tracker. -/
def Det.record (d : Det) (model version tag : Nat) : List Byte :=
  toLe 2 d.cls ++ toLe 2 model ++ toLe 2 d.score ++ toLe 4 version ++ toLe 2 d.x0 ++ toLe 2 d.y0 ++ toLe 2 d.w ++ toLe 2 d.h ++
    toLe 4 tag ++ toLe 1 d.member ++ toLe 1 d.crop

/-- The context of a job's records: the reference member stands for the job (R484). -/
def Part.jobCtx (p : Part) (h t : Nat) : JobCtx :=
  match p.job? h with
  | none => JobCtx.none t
  | some j =>
    match j.members[j.ref]? with
    | some m => j.ctx m.stream m.gen m.frameSeq j.ts
    | none => JobCtx.none t

/-- A job's picture has a CULL: no record is derived from it any more (R219). -/
def Part.jobCulled (p : Part) (h : Nat) : Bool := ((p.job? h).map p.jobVoided).getD false

/-- A record of types 1 to 3 with a job's context: bytes from 0x1E on, and FLAGS bits 3 and 4. -/
def Part.jobRecord (p : Part) (t ty h flags : Nat) (body : List Byte) : Part :=
  if p.jobCulled h then p
  else
    match p.job? h with
    | none => p
    | some j =>
      let c := p.jobCtx h t
      (p.form t j.plot c (fun seq => recHead ty j.plot seq (c.flags + (if j.noTime then 32 else p.noTime) + flags) c ++ body)).modJob h (fun x => { x with
        formed := true })

/-- The steered entry of a track (R590). -/
def Track.crop (u : Track) (q : TrkPar) (wo ho fw fh : Nat) : Crop :=
  let x := fun i => u.x.getD i 0
  let scaled := f32Div (f32Mul (x 3) (f32OfInt wo)) (f32OfInt ho)
  let w := max ((f32 (f32Mul (f32Max (x 2) scaled) q.margin)).ceil.toNat) (ceilDiv wo 8)
  let h := ceilDiv (w * ho) wo
  let org := fun c s n => (clampInt 0 (n - 1 : Nat) ((f32 (f32Sub c (f32Half (f32OfInt s)))).rne)).toNat
  { x0 := org (x 0) w fw, y0 := org (x 1) h fh, w := w, h := h, tag := u.id, member := u.member }

/-- The steered list of a run (R590): confirmed and coasting tracks by descending SCORE. -/
def steerList (q : TrkPar) (ts : List Track) (r : Rd) (k : Nat) : List Crop :=
  let i := (r.prnStage k).getD 0
  let wo := r.stageP0 k i % 65536
  let ho := r.stageP0 k i / 65536
  let l := sortBy (fun a b => decide (b.score ≤ a.score)) (ts.filter (fun u => u.state == 1 || u.state == 2))
  (l.take q.steerMax).map (fun u =>
    let s := r.memberStream k u.member
    u.crop q wo ho (r.streamWidth s) (r.streamHeight s))

/-- One run of the tracker for a job (R589, R590). -/
def Part.trackerRun (p : Part) (t h : Nat) : Part :=
  match p.job? h with
  | none => p
  | some j =>
    let r := p.img
    let k := j.pipe
    let q := r.trkPar k j.stage
    let head := fun n => (List.range n).mapM (fun i => p.virtKey j.plot (q.detAddr + i))
    let count := match head 4 with
      | some ks => min (leNat (p.loadKeys ks)) q.maxDet
      | none => 0
    let ds := match head (16 + 16 * count) with
      | some ks => detections q (p.loadKeys ks)
      | none => []
    let set := FMap.get TrackSet.init p.apc.tracks k
    let dt := f32Ratio ((j.ts : Int) - (set.lastTs.getD j.ts : Nat)) 1000000000
    let last := FMap.get (fun _ => 0) p.apc.trackIds j.plot
    let x := trackRun q set.tracks ds dt last
    let model := j.ran
    let tag := fun (d : Det) => ((j.crops[d.crop]?).map (·.tag)).getD 0
    let p := if q.detect then
        ds.foldl (fun (p : Part) d => p.jobRecord t 1 h 0 (d.record (model.getD 0xFFFF)
          ((model.map r.modelVersion).getD 0) (tag d))) p else p
    let shown := x.1.filter (fun u => u.state == 1 || u.state == 2 || (u.state == 0 && q.tentative))
    let ended := x.1.filter (fun u => u.state == 3)
    let p := (shown ++ ended).foldl (fun (p : Part) u => p.jobRecord t 2 h 0 u.record) p
    let keep := x.1.filter (fun u => u.state != 3)
    let p := p.modApc (fun a => { a with
      tracks := FMap.put TrackSet.init a.tracks k { tracks := keep, lastTs := some j.ts },
      trackIds := FMap.put (fun _ => 0) a.trackIds j.plot x.2 })
    if q.steer then
      let l := steerList q keep r k
      p.prnCopy k (if l = [] then .again else .formed l)
    else p

/-- The detection list of a job's tracker stage lies in the plot's map. -/
def Part.trackerReads (p : Part) (h : Nat) : Bool :=
  match p.job? h with
  | none => false
  | some j =>
    let q := p.img.trkPar j.pipe j.stage
    let keys := fun n => ((List.range n).mapM (fun i => p.virtKey j.plot (q.detAddr + i)))
    match keys 16 with
    | none => false
    | some ks => (keys (16 + 16 * min (leNat (p.loadKeys (ks.take 4))) q.maxDet)).isSome

end Sys2Proof.Machine
end

