-- ==== Sys2Proof/Machine/Apps.lean ====
section
/-! DEFINITION. Application cores (20_app_cores): activations of Runners and of the tracker, WAIT, EXIT, traps and a Runner's
end. -/

namespace Sys2Proof.Machine

/-- A core can take an activation: APC_CTRL.EN, and the core neither busy nor stopped in Dormancy. -/
def Part.coreReady (p : Part) (c : Nat) : Bool :=
  p.live && p.on F.APC_CTRL_EN && (p.core c).isNone && !(p.get F.PWR_CORES_STOPPED_CORES).testBit c

/-- The core's status registers follow what runs on it. -/
def Part.coreStat (p : Part) (c : Nat) : Part :=
  match p.core c with
  | none => ((p.put (F.APC_CORE_STAT_PLOT c) 0).put (F.APC_CORE_STAT_RUNNER c) 0).put (F.APC_CORE_STAT_RT c) 0 |>.clr
      (F.APC_CORE_STAT_BUSY c)
  | some a => (((p.put (F.APC_CORE_STAT_PLOT c) a.cmd.plot).put (F.APC_CORE_STAT_RUNNER c) a.runner).put (F.APC_CORE_STAT_RT c)
      (if a.rt then 1 else 0)).set (F.APC_CORE_STAT_BUSY c)

/-- The context of the activation on a core (R400). -/
def Act.ctx (a : Act) (c : Nat) : Nat := actCtx a.runner c (a.cmd.seq.getD 0)
/-- Release the Trellis credits that a core's activation holds. -/
def Part.dropHolds (p : Part) (c : Nat) : Part :=
  p.modApc (fun a => { a with holds := a.holds.filter (fun h => h.core != c) })
/-- The activation on a core owns a stake or a Trellis reservation (R403). -/
def Part.actHolds (p : Part) (c : Nat) (a : Act) : Bool :=
  p.apc.holds.any (fun h => h.core == c) || p.holdsStake a.cmd.plot (fun x => x == a.ctx c)

/-- A free core takes the next activation (R392, R582); a job whose picture is voided is skipped (R220). -/
def Part.actStart (p : Part) (t c : Nat) : Part :=
  match p.pick (p.jobs.ready.filter (fun x => p.fits x 2 c)) 2 with
  | none => p
  | some cmd =>
    let runner := match cmd.task with
      | .runner r => r
      | _ => 63
    let voided := match cmd.job.bind p.job? with
      | some j => if p.jobVoided j then some j else none
      | none => none
    match voided with
    | some j =>
      let q := p.skipVoided j
      if runner = 63 then q
      else (q.modRunner runner (fun u => { u with jobs := u.jobs.filter (· != j.handle), waiting := true })).tryActivate runner
    | none =>
      let x := (p.noteTurn cmd).startCmd t cmd
      let q := x.2.takePlace cmd x.1 c
      let q := (q.setCore c (some { cmd := x.1, runner := runner, rt := p.cmdRt cmd, startAt := t })).coreStat c
      if runner = 63 then q
      else
        let u := q.runner runner
        let ev := ((u.pend &&& q.runnerMask runner) - (u.pend &&& q.runnerMask runner) % 2) + (if cmd.job.isSome then 1 else 0)
        let v := { u with fresh := false, waiting := false,
                          pend := if u.fresh then u.pend else u.pend - (u.pend &&& ev),
                          jobs := match cmd.job with
                            | some h => u.jobs.filter (· != h)
                            | none => u.jobs }
        let q := q.setRunner runner v
        let q := ((q.put (F.APC_RUN_STAT_STATE runner) 2).put (F.APC_RUN_STAT_PLOT runner) cmd.plot).put
          (F.APC_RUN_STAT_CORE runner) c
        let q := q.add (F.APC_RUN_ACT_COUNT runner) 1
        if u.fresh then q else q.emit (.syscall runner ev 0)

/-- The activation on a core ends and its command with it. -/
def Part.actEnd (p : Part) (t c : Nat) : Part :=
  match p.core c with
  | none => p
  | some a => ((p.setCore c none).coreStat c).cmdEnd t a.cmd 0

/-- A Runner ends (R583, R595): its queued jobs are skipped; it restarts at the next tick, or its plot goes into Fallow. -/
def Part.runnerEnd (p : Part) (r : Nat) : Part :=
  let k := p.img.runnerPlot r
  let jobs := (p.runner r).jobs
  let q := (p.put (F.APC_RUN_STAT_STATE r) 3).addSat (F.APC_RUN_ENDS_COUNT r) 1
  let q := jobs.foldl (fun (q : Part) h => match q.job? h with
    | some j => (q.skipCount k).dropJob j
    | none => q) q
  let again := p.img.runnerRestart r
  let q := q.setRunner r { RunnerSt.init r with restart := again }
  let q := q.modJobs (fun u => { u with ready := u.ready.filter (fun c => c.task != .runner r) })
  if again then q else q.modPlot k (fun u => { u with ordered := if u.ordered = 0 then 3 else u.ordered })

/-- The activation on a core faults (R405): its job's teardown is due, and it stops. -/
def Part.actFault (p : Part) (c cause : Nat) : Part :=
  match p.core c with
  | none => p
  | some a => p.raiseFault a.cmd.job a.cmd.plot cause (a.cmd.seq.getD 0)

/-- WAIT with a mask (R585, R592): the Runner waits; its latched events come to it. -/
def Part.runnerWait (p : Part) (t c mask : Nat) : Part :=
  match p.core c with
  | none => p
  | some a =>
    let r := a.runner
    if mask = 0 then p.emit (.syscall r 0xFFFFFFFFFFFFFFFF 0)
    else if p.actHolds c a then p.actFault c 10
    else
      let latched := FMap.get (fun _ => 0) p.apc.latched a.cmd.plot
      let got := latched &&& (if p.img.rtRunner r then mask &&& 1 else mask)
      let q := p.modApc (fun x => { x with latched := FMap.put (fun _ => 0) x.latched a.cmd.plot (latched - got) })
      let q := (q.actEnd t c).put (F.APC_RUN_STAT_STATE r) 1
      (q.modRunner r (fun u => { u with waiting := true, mask := mask, pend := u.pend ||| got })).tryActivate r

/-- EXIT with a status (R583): a command that holds a stake or a reservation faults with HELD (R403), which ends the Runner too. -/
def Part.runnerExit (p : Part) (t c status : Nat) : Part :=
  match p.core c with
  | none => p
  | some a =>
    let q := p.put (F.APC_RUN_EXIT_STATUS a.runner) status
    if p.actHolds c a then q.actFault c 10
    else (q.actEnd t c).runnerEnd a.runner

/-- A Runner starts (R581): its next activation is a fresh one. -/
def Part.runnerStart (p : Part) (r : Nat) : Part :=
  let q := p.setRunner r { RunnerSt.init r with live := true, fresh := true, waiting := true }
  ((q.put (F.APC_RUN_STAT_STATE r) 1).put (F.APC_RUN_STAT_PLOT r) (p.img.runnerPlot r)).tryActivate r

/-- The tracker runs on a bed or a core (R589); a list it cannot read faults the activation. -/
def Part.trackerStep (p : Part) (t : Nat) (onBed : Bool) (n : Nat) : Part :=
  let cmd := if onBed then p.bedCmd n else (p.core n).map (·.cmd)
  match cmd.bind (·.job) with
  | none => p
  | some h =>
    if !p.trackerReads h then
      if onBed then p.bedFault t n 0 0 3 0 false else p.actFault n 12
    else
      let q := p.trackerRun t h
      if onBed then (q.modBed n (fun d => { d with threads := [] })).bedStatus n else q.actEnd t n

end Sys2Proof.Machine
end

