-- ==== Sys2Proof/Machine/Barrow.lean ====
section
/-! DEFINITION. Barrow (15_barrow_dma): channels, descriptors, pacing, transfers beat by beat, completion and settling, pauses,
errors, and the drops of a fence and of a teardown. -/

namespace Sys2Proof.Machine

/-! Channels. -/

/-- A channel's STATE (R438): 0 DISABLED, 1 IDLE, 2 WAITING, 3 RUNNING, 4 PAUSED, 5 ERROR, 6 FENCED. -/
def Part.chState (p : Part) (c : Nat) : Nat := p.get (F.BRW_CH_STATE_STATE c)
/-- The plot that owns a channel; 0 for a system channel (R414). -/
def Part.chOwner (p : Part) (c : Nat) : Nat := p.get (F.BRW_CH_OWNER_PLOT c)
/-- The channel or all of Barrow is told to pause (R435). -/
def Part.chPaused (p : Part) (c : Nat) : Bool := p.on (F.BRW_CH_CTRL_PAUSE c) || p.on F.BRW_CTRL_PAUSE
/-- Descriptors in a channel's ring (R420). -/
def Part.chSize (p : Part) (c : Nat) : Nat := 2 ^ p.get (F.BRW_CH_RING_SIZE_LOG2 c)
/-- A channel's ring base. -/
def Part.chRing (p : Part) (c : Nat) : Nat := p.get64 (F.BRW_CH_RING_LO_BASE c) (F.BRW_CH_RING_HI_BASE c)
/-- Address of descriptor `i` of a channel's ring. -/
def Part.descAt (p : Part) (c i : Nat) : Nat := p.chRing c + 64 * i

/-- Nothing is in flight on a channel: every descriptor that completed has had its writes performed. -/
def Chan.quiet (u : Chan) : Bool := u.fins.all (fun f => f.phase == 3 && f.settled)

/-- BRW_STAT.QUIET and BRW_ACTIVE follow the channels' states (R435). -/
def Part.brwStat (p : Part) : Part :=
  let still := (List.range 64).all (fun c => [0, 1, 4, 5, 6].contains (p.chState c) && (p.chan c).quiet)
  let act := fun (n : Nat) => ((List.range 32).filter (fun i => p.chState (n + i) == 3)).foldl (fun s i => s + 2 ^ i) 0
  ((p.put F.BRW_STAT_QUIET (if still then 1 else 0)).setReg R.BRW_ACTIVE_LO (BitVec.ofNat 32 (act 0))).setReg R.BRW_ACTIVE_HI
    (BitVec.ofNat 32 (act 32))

/-- A channel changes state. -/
def Part.setChState (p : Part) (c st : Nat) : Part := (p.put (F.BRW_CH_STATE_STATE c) st).brwStat

/-- HEAD: the first descriptor whose OWN write has not been issued, else what the channel holds, else what it takes next (R420). -/
def Part.chHead (p : Part) (c : Nat) : Part :=
  let u := p.chan c
  let i := match u.fins.find? (fun f => f.phase == 1), u.run with
    | some f, _ => f.d.index
    | none, some r => r.d.index
    | none, none => u.next
  p.put (F.BRW_CH_HEAD_INDEX c) i

/-- An interrupt condition of a channel (BRW_CH_IRQ): with its enable, an interrupt to the owner (R585). -/
def Part.chIrq (p : Part) (c bit : Nat) : Part :=
  let q := p.setReg (R.BRW_CH_IRQ c) (p.reg (R.BRW_CH_IRQ c) ||| BitVec.ofNat 32 (2 ^ bit))
  if (p.get (F.BRW_CH_IRQ_EN_EN c)).testBit bit then q.plotEvent (p.chOwner c) 3 else q

/-! Descriptors (R418, R419). -/

/-- CTRL fields. -/
def Desc.kind (d : Desc) : Nat := d.ctrl % 4
def Desc.irq (d : Desc) : Bool := d.ctrl.testBit 2
def Desc.fence (d : Desc) : Bool := d.ctrl.testBit 3
def Desc.event (d : Desc) : Bool := d.ctrl.testBit 4
def Desc.atSettle (d : Desc) : Bool := d.ctrl.testBit 5
def Desc.srcSpace (d : Desc) : Nat := d.ctrl / 64 % 4
def Desc.dstSpace (d : Desc) : Nat := d.ctrl / 256 % 4
def Desc.tag (d : Desc) : Nat := d.ctrl / 65536 % 16

/-- A descriptor read from the 64 bytes at ring index `i`. -/
def readBrw (i : Nat) (l : List Byte) : Desc :=
  let n := fun (o k : Nat) => leNat ((l.drop o).take k)
  { index := i, ticket := n 2 2, ctrl := n 4 4, src := n 8 8, dst := n 16 8, len := n 0x18 4, rows := n 0x1C 2,
    srcStride := sext 32 (n 0x20 4), dstStride := sext 32 (n 0x24 4), fill := n 0x28 4, job := n 0x2C 4,
    reserved := n 0 2 / 2 != 0 || n 4 4 / 1024 % 64 != 0 || n 4 4 / 2 ^ 20 != 0 || n 0x1E 2 != 0 }

/-- The plot whose map a descriptor's addresses translate through; 0 is the system physical map (R415). -/
def Part.chTag (p : Part) (c : Nat) (d : Desc) : Nat := if c < 48 then p.chOwner c else d.tag

/-- No reserved bit, no field out of range, and nothing that a plot channel may not use (R418, R419; DESC of R439). -/
def Desc.ok (d : Desc) (c : Nat) : Bool :=
  let copy := d.kind == 0 || d.kind == 2
  !d.reserved && d.kind != 3 && decide (4 ≤ d.len ∧ d.len ≤ 0x1000000) && d.len % 4 == 0 && d.rows != 0 && d.dst % 4 == 0 &&
    d.dstStride % 4 == 0 && (!copy || (d.src % 4 == 0 && d.srcStride % 4 == 0 && d.srcSpace == 0)) && d.dstSpace != 3 &&
    (if c < 48 then d.dstSpace == 0 && d.tag == 0 && d.job == 0 else decide (d.tag ≤ 8) && (d.tag != 0 || d.job == 0))

/-- The initiator that a channel's accesses are logged under. -/
def brwWho (k : Nat) : Who := { kind := .barrow, plot := Fin.ofNat 9 k }

/-- An access of Barrow that the map refuses is logged (R35). -/
def Part.brwDenied (p : Part) (t k : Nat) (write : Bool) (a : Nat) : Part :=
  p.accLog t (brwWho k) write (if k = 0 then 0 else 1) a

/-- Bytes of a channel's own descriptor, read through its owner's map. -/
def Part.ringBytes (p : Part) (c i o n : Nat) : Option (List Byte) :=
  (p.memKeys (p.chOwner c) (p.descAt c i + o) n false).map p.loadKeys

/-- Write into a channel's own descriptor. -/
def Part.ringPut (p : Part) (c i o : Nat) (l : List Byte) : Part :=
  match p.memKeys (p.chOwner c) (p.descAt c i + o) l.length true with
  | some ks => p.storeAt ks l
  | none => p

/-! Errors (R439). -/

/-- A Gardener channel's error is a job fault with cause CHANNEL. -/
def Part.chJobFault (p : Part) (c : Nat) (d : Option Desc) : Part :=
  match d with
  | some e => if 48 ≤ c ∧ c < 56 ∧ e.tag ≠ 0 then
      match p.jobs.jobs.find? (fun j => j.plot == e.tag && j.id == some e.job) with
      | some j => p.raiseFault (some j.handle) e.tag 11 0
      | none => p
    else p
  | none => p

/-- CAUSE and the faulting address are recorded. -/
def Part.chCause (p : Part) (c cause a : Nat) : Part :=
  (p.put (F.BRW_CH_ERR_CAUSE c) cause).put64 (F.BRW_CH_ERR_ADDR_LO_ADDR c) (F.BRW_CH_ERR_ADDR_HI_ADDR c) a

/-- A channel enters ERROR. -/
def Part.chError (p : Part) (c : Nat) : Part := (p.setChState c 5).chIrq c 1

/-- FETCH: the channel stops without a status; HEAD stays. -/
def Part.chFetchFail (p : Part) (t c a : Nat) : Part :=
  let d := (p.chan c).run.map (·.d)
  let q := (p.brwDenied t (p.chOwner c) false a).modChan c (fun u => { u with run := none })
  ((q.chCause c 1 a).chError c).chJobFault c d

/-- An error of the descriptor that runs: its STATUS write is issued with RESULT 1. -/
def Part.chDescFail (p : Part) (c cause a : Nat) : Part :=
  match (p.chan c).run with
  | none => p
  | some r =>
    -- the spec gives DONE_TS of a completed descriptor only
    let x := p.fresh
    let f : BrwFin := { d := r.d, status := 3 + 16 * cause, bytes := r.bytes, doneTs := x.1.toNat, phase := 1, settled := true }
    let q := (x.2.chCause c cause a).modChan c (fun u => { u with
      run := none, fins := u.fins ++ [f], next := (r.d.index + 1) % p.chSize c })
    q.chJobFault c (some r.d)

/-! Taking descriptors (R420, R422, R428). -/

/-- The channel finds no descriptor to run: it enters IDLE; a remembered doorbell makes it read HEAD once more, which finds the
same. -/
def Part.chIdle (p : Part) (c : Nat) : Part := ((p.clr (F.BRW_CH_STATE_DB_PEND c)).setChState c 1).chHead c

/-- Read the OWN word at the next index and fetch the descriptor there; descriptors of a system channel tagged with a fenced plot,
or of a job torn down, are dropped (R440, R441). -/
def Part.chTake (t c : Nat) : Nat → Part → Part
  | 0, p => p.chIdle c
  | n + 1, p =>
    let i := (p.chan c).next
    if (p.chan c).fins.any (fun f => f.phase != 3 && f.d.index == i) then p.chIdle c
    else match p.ringBytes c i 0 64 with
      | none => p.chFetchFail t c (p.descAt c i)
      | some l =>
        if (l.headD 0).toNat % 2 = 0 then p.chIdle c
        else
          let d := readBrw i l
          if 48 ≤ c ∧ d.tag ≠ 0 ∧ (p.fenced d.tag ∨ (d.tag, d.job) ∈ (p.chan c).torn) then
            Part.chTake t c n (p.modChan c (fun u => { u with next := (i + 1) % p.chSize c }))
          else
            ((p.modChan c (fun u => { u with
              run := some { d := d, running := false, row := 0, off := 0, begun := false, bytes := 0, sent := [] } })).setChState
                c 2).chHead c

/-- The channel looks for its next descriptor, unless it pauses or an error's status is still to be written. -/
def Part.chNext (p : Part) (t c : Nat) : Part :=
  if p.chPaused c || (p.chan c).fins.any (fun f => f.phase != 3 && 2 ≤ f.status % 16) then p else Part.chTake t c 4096 p

/-! Pacing (R430 to R434). -/

/-- LOW as it acts. -/
def Part.chLow (p : Part) (c : Nat) : Nat := min (p.get (F.BRW_CH_LOW_BYTES c)) (p.get (F.BRW_CH_HIGH_BYTES c))

/-- The hysteresis state is judged: ON at HIGH; OFF where a completion leaves LEVEL below LOW (R431). -/
def Part.chHyst (p : Part) (c : Nat) (completion : Bool) : Part :=
  let lv := p.get (F.BRW_CH_LEVEL_BYTES c)
  if completion && decide (lv < p.chLow c) then p.clr (F.BRW_CH_STATE_HYST_ON c)
  else if p.get (F.BRW_CH_HIGH_BYTES c) ≤ lv then p.set (F.BRW_CH_STATE_HYST_ON c) else p

/-- A write of BRW_CH_LEVEL_ADD (R431). -/
def Part.levelAdd (p : Part) (c n : Nat) : Part :=
  let s := p.get (F.BRW_CH_LEVEL_BYTES c) + n
  let q := (p.put (F.BRW_CH_LEVEL_BYTES c) (min s 0xFFFFFFFF)).chHyst c false
  if 0xFFFFFFFF < s then q.chIrq c 2 else q

/-- The gate of a descriptor (R430); the reserved mode 3 never opens. -/
def Part.chGate (p : Part) (c : Nat) (d : Desc) : Bool :=
  let pace := p.get (F.BRW_CH_CTRL_PACE c)
  if pace = 0 then true
  else if pace = 1 then p.on (F.BRW_CH_STATE_HYST_ON c) && decide (d.len * d.rows ≤ p.get (F.BRW_CH_LEVEL_BYTES c))
  else if pace = 2 then decide (1 ≤ p.get (F.BRW_CH_CREDIT_CREDIT c)) else false

/-- A start event is on its way to a channel. -/
def Part.startDue (p : Part) (c : Nat) (src : Option Nat) : Part := p.modChan c (fun u => { u with due := u.due ++ [src] })

/-- TRIG.SRC selects the source of a start event (R433). -/
def Part.trigTakes (p : Part) (c : Nat) (src : Option Nat) : Bool :=
  match src with
  | none => p.get (F.BRW_CH_TRIG_SRC c) == 1
  | some d => p.get (F.BRW_CH_TRIG_SRC c) == 2 && p.get (F.BRW_CH_TRIG_CHAN c) == d

/-- A start event arrives: RUN credits up to 255 (R432); one whose source is not selected, or of a fenced channel, is discarded. -/
def Part.startEvent (p : Part) (c : Nat) : Part :=
  match (p.chan c).due with
  | [] => p
  | src :: rest =>
    let q := p.modChan c (fun u => { u with due := rest })
    if !p.trigTakes c src || p.chState c == 6 || p.get (F.BRW_CH_CTRL_PACE c) != 2 then q
    else
      let s := p.get (F.BRW_CH_CREDIT_CREDIT c) + max 1 (p.get (F.BRW_CH_TRIG_RUN c))
      let q := q.put (F.BRW_CH_CREDIT_CREDIT c) (min s 255)
      if 255 < s then (q.addSat (F.BRW_CH_EVT_LOST_COUNT c) 1).chIrq c 3 else q

/-- A write of BRW_CH_TRIG (R433): one that names a channel with another owner is ignored as a whole. -/
def Part.trigWrite (p : Part) (t : Nat) (w : Who) (c : Nat) (v : Word) : Part :=
  if v.bits 1 0 = 2 ∧ p.chOwner (v.bits 13 8) ≠ p.chOwner c then p.refused t w (R.BRW_CH_TRIG c)
  else ((p.put (F.BRW_CH_TRIG_SRC c) (v.bits 1 0)).put (F.BRW_CH_TRIG_CHAN c) (v.bits 13 8)).put (F.BRW_CH_TRIG_RUN c) (v.bits 23 16)

/-! Starting and moving (R416, R428, R429). -/

/-- The address of the next byte of a row (64 bits). -/
def rowAddr (base : Nat) (stride : Int) (row off : Nat) : Nat := twos 64 ((base : Int) + stride * (row : Int) + (off : Int))

/-- The cursor registers show the next addresses and what is left (R436). -/
def Part.chCursor (p : Part) (c : Nat) (r : BrwRun) : Part :=
  let left := if r.row < r.d.rows then r.d.len - r.off else 0
  (((p.put64 (F.BRW_CH_CUR_SRC_LO_ADDR c) (F.BRW_CH_CUR_SRC_HI_ADDR c) (rowAddr r.d.src r.d.srcStride r.row r.off)).put64
    (F.BRW_CH_CUR_DST_LO_ADDR c) (F.BRW_CH_CUR_DST_HI_ADDR c) (rowAddr r.d.dst r.d.dstStride r.row r.off)).put
    (F.BRW_CH_CUR_REMAIN_BYTES c) left).put (F.BRW_CH_CUR_ROWS_ROWS c) (r.d.rows - r.row)

/-- The channel holds this run. -/
def Part.setRun (p : Part) (c : Nat) (r : BrwRun) : Part := (p.modChan c (fun u => { u with run := some r })).chCursor c r

/-- A descriptor begins: it uses a credit, and a malformed one is an error (R432, R439). -/
def Part.chBegin (p : Part) (c : Nat) (d : Desc) : Part :=
  let q := if p.get (F.BRW_CH_CTRL_PACE c) = 2 then
      p.put (F.BRW_CH_CREDIT_CREDIT c) (p.get (F.BRW_CH_CREDIT_CREDIT c) - 1) else p
  let q := (q.setRun c { d := d, running := true, row := 0, off := 0, begun := true, bytes := 0, sent := [] }).setChState c 3
  if d.ok c then q else q.chDescFail c 5 (p.descAt c d.index)

/-- A descriptor may have its re-read issued: its gate is open, its FENCE allows, and the channel does not pause (R427, R430);
one that a pause interrupted resumes at once (R436). -/
def Part.rereadReady (p : Part) (c : Nat) : Bool :=
  match (p.chan c).run with
  | none => false
  | some r => !r.running && !p.chPaused c && (match p.chState c with
    | 2 => p.chGate c r.d && (!r.d.fence || (p.chan c).fins.all (·.settled))
    | 3 => r.begun
    | _ => false)

/-- The OWN re-read returns (R428). -/
def Part.reread (p : Part) (t c : Nat) : Part :=
  match (p.chan c).run with
  | none => p
  | some r =>
    let i := r.d.index
    match p.ringBytes c i 0 64 with
    | none => p.chFetchFail t c (p.descAt c i)
    | some l =>
      let d := readBrw i l
      if (l.headD 0).toNat % 2 = 0 then (p.modChan c (fun u => { u with run := none, next := i })).chIdle c
      else if d.ticket = r.d.ticket then
        if r.begun then (p.setRun c { r with running := true }) else p.chBegin c r.d
      else if r.begun && !p.chGate c d then
        ((p.modChan c (fun u => { u with
          run := some { d := d, running := false, row := 0, off := 0, begun := false, bytes := 0, sent := [] } })).setChState c 2)
      else p.chBegin c d

/-- A row written to SPACE 2 enters the Trellis transmit queue as one frame (DESIGN CHOICE, assumption 44). -/
def Part.toTrellis (p : Part) (l : List Byte) : Part :=
  let u := fun (o : Nat) => (l.getD o 0).toNat
  p.modTrl (fun x => { x with waiting := x.waiting ++ [{
    bytes := l, vc := if u 0 = 1 then 1 else if u 0 = 2 then 2 else 0, dst := u 2, plot := u 4, transit := false, crate := u 0 == 2 }] })

/-- Write one beat's data to the destination; none where it is refused (R36). -/
def Part.beatWrite (p : Part) (k : Nat) (r : BrwRun) (dst : Nat) (data : List Byte) : Option Part :=
  if r.d.dstSpace = 1 then some (p.emit (.hostWrite dst data))
  else if r.d.dstSpace = 2 then some (if r.off + data.length = r.d.len then p.toTrellis (r.sent ++ data) else p)
  else (p.memKeys k dst data.length true).map (fun ks => p.storeAt ks data)

/-- The cursor past `n` bytes of the row. -/
def BrwRun.past (r : BrwRun) (n : Nat) (data : List Byte) : BrwRun :=
  if r.off + n < r.d.len then { r with off := r.off + n, bytes := r.bytes + n, sent := if r.d.dstSpace = 2 then r.sent ++ data else [] }
  else { r with row := r.row + 1, off := 0, bytes := r.bytes + n, sent := [] }

/-- One beat of up to 64 bytes: its read returns, perhaps poisoned, and its write is issued. -/
def Part.beat (p : Part) (t c : Nat) (poisoned : Bool) : Part :=
  match (p.chan c).run with
  | none => p
  | some r =>
    if !r.running || decide (r.d.rows ≤ r.row) then p
    else
      let k := p.chTag c r.d
      let n := min 64 (r.d.len - r.off)
      let src := rowAddr r.d.src r.d.srcStride r.row r.off
      let dst := rowAddr r.d.dst r.d.dstStride r.row r.off
      let data := if r.d.kind = 1 then some (((List.replicate 16 (toLe 4 r.d.fill)).flatten).take n)
        else (p.memKeys k src n false).map p.loadKeys
      match data with
      | none => (p.brwDenied t k false src).chDescFail c 2 src
      | some l =>
        -- a read-locked bank refuses, inside the map (R375)
        if r.d.kind == 0 && k != 0 && ((p.memKeys k src n false).getD []).any (p.lockedKey k) then p.chDescFail c 2 src
        else if poisoned && r.d.kind == 0 then p.chDescFail c 4 src
        else match p.beatWrite k r dst l with
          | none => (p.brwDenied t k true dst).chDescFail c 3 dst
          | some q => q.setRun c (r.past n l)

/-- The writes of a fill, which reads nothing, until it is done or refused. -/
def Part.fillRun (t c : Nat) : Nat → Part → Part
  | 0, p => p
  | n + 1, p =>
    match (p.chan c).run with
    | some r => if r.running && decide (r.row < r.d.rows) then Part.fillRun t c n (p.beat t c false) else p
    | none => p

/-- A copy has beats left. -/
def Part.beatReady (p : Part) (c : Nat) : Bool :=
  match (p.chan c).run with
  | some r => r.running && r.d.kind == 0 && decide (r.row < r.d.rows)
  | none => false

/-! Completion (R423 to R426). -/

/-- The last data write of the running descriptor can leave. -/
def Part.completeReady (p : Part) (c : Nat) : Bool :=
  match (p.chan c).run with
  | some r => r.running && (r.d.kind != 0 || decide (r.d.rows ≤ r.row))
  | none => false

/-- Step 1 of R423, with the drop of LEVEL (R431). DONE_TS trails the Sundial by 2 to 4 ns. -/
def Part.completeRun (p : Part) (t c : Nat) (r : BrwRun) : Part :=
  let d := p.freshBelow 3
  let f : BrwFin := { d := r.d, status := 1, bytes := r.bytes, doneTs := t - 2 - d.1, phase := 1, settled := false }
  let q := d.2.modChan c (fun u => { u with run := none, fins := u.fins ++ [f], next := (r.d.index + 1) % p.chSize c })
  let q := if p.get (F.BRW_CH_CTRL_PACE c) = 1 then
      (q.put (F.BRW_CH_LEVEL_BYTES c) (p.get (F.BRW_CH_LEVEL_BYTES c) - r.d.len * r.d.rows)).chHyst c true else q
  q.chNext t c

/-- The last data write leaves, and the STATUS write is issued; a fill's writes leave with it. -/
def Part.descComplete (p : Part) (t c : Nat) : Part :=
  let q := match (p.chan c).run with
    | some r => if r.d.kind = 1 then Part.fillRun t c (r.d.rows * (r.d.len / 64 + 1)) p else p
    | none => p
  match (q.chan c).run with
  | some r => (q.completeRun t c r).brwStat
  | none => q.brwStat

/-- Change the first of a channel's finishing descriptors that `pick` takes. -/
def Part.modFin (p : Part) (c : Nat) (pick : BrwFin → Bool) (f : BrwFin → BrwFin) : Part :=
  let rec go : List BrwFin → List BrwFin
    | [] => []
    | x :: r => if pick x then f x :: r else x :: go r
  p.modChan c (fun u => { u with fins := go u.fins })

/-- A descriptor that ended with an error. -/
def BrwFin.bad (f : BrwFin) : Bool := decide (2 ≤ f.status % 16)

/-- The completion event and the interrupt of a descriptor (R423 step 4, R426). -/
def Part.chSignal (p : Part) (c : Nat) (d : Desc) : Part :=
  let q := if d.event then p.each (List.range 64) (fun q x => if q.trigTakes x (some c) then q.startDue x (some c) else q) else p
  if d.irq then q.chIrq c 0 else q

/-- Descriptors done and settled leave. -/
def Part.chFlush (p : Part) (c : Nat) : Part :=
  (p.modChan c (fun u => { u with fins := u.fins.filter (fun f => !(f.phase == 3 && f.settled)) })).brwStat

/-- The STATUS write is performed, and the OWN write is issued: HEAD moves past. -/
def Part.statusDone (p : Part) (c : Nat) : Part :=
  match (p.chan c).fins.find? (fun f => f.phase == 1) with
  | none => p
  | some f =>
    let q := p.ringPut c f.d.index 0x30 (toLe 4 f.status ++ toLe 4 f.bytes ++ toLe 8 f.doneTs)
    (q.modFin c (fun x => x.phase == 1) (fun x => { x with phase := 2 })).chHead c

/-- The OWN write is performed (R423 step 4). A descriptor in error neither counts nor signals: its channel enters ERROR (R439). -/
def Part.ownDone (p : Part) (c : Nat) : Part :=
  match (p.chan c).fins.find? (fun f => f.phase == 2) with
  | none => p
  | some f =>
    let q := p.ringPut c f.d.index 0 ([0, 0] ++ toLe 2 f.d.ticket)
    let q := q.modFin c (fun x => x.phase == 2) (fun x => { x with phase := 3 })
    let q := if f.bad then q.chError c
      else
        let r := q.add (F.BRW_CH_DONE_COUNT c) 1
        if !f.d.atSettle || f.settled then r.chSignal c f.d else r
    q.chFlush c

/-- Every data write of the next descriptor in ring order is performed (R424). -/
def Part.settle (p : Part) (c : Nat) : Part :=
  match (p.chan c).fins.find? (fun f => !f.settled) with
  | none => p
  | some f =>
    let q := (p.modFin c (fun x => !x.settled) (fun x => { x with settled := true })).add (F.BRW_CH_SETTLED_COUNT c) 1
    (if f.d.atSettle && f.phase == 3 then q.chSignal c f.d else q).chFlush c

/-! Control (R435 to R438). -/

/-- Whether the ring is valid: LOG2 1 to 12, base a multiple of 64, in memory that the channel can reach (R420). -/
def Part.ringValid (p : Part) (c : Nat) : Bool :=
  let n := p.get (F.BRW_CH_RING_SIZE_LOG2 c)
  decide (1 ≤ n ∧ n ≤ 12) && p.chRing c % 64 == 0 &&
    (List.range (p.chSize c)).all (fun i => (p.memKey (p.chOwner c) (p.descAt c i) true).isSome)

/-- A write of EN (R438). -/
def Part.chEnable (p : Part) (t c : Nat) (on : Bool) : Part :=
  let st := p.chState c
  if on then
    let q := p.set (F.BRW_CH_CTRL_EN c)
    if st = 0 then
      if p.ringValid c then
        let q := (q.clr (F.BRW_CH_STATE_HYST_ON c)).modChan c (fun u => { u with next := p.get (F.BRW_CH_HEAD_INDEX c) })
        let q := q.setChState c 1
        if p.on (F.BRW_CH_STATE_DB_PEND c) then (q.clr (F.BRW_CH_STATE_DB_PEND c)).chNext t c else q
      else q.put (F.BRW_CH_ERR_CAUSE c) 6
    else q
  else if st = 1 ∨ st = 2 ∨ st = 4 ∨ st = 5 then
    ((p.clr (F.BRW_CH_CTRL_EN c)).modChan c (fun u => { u with run := none })).setChState c 0
  else if st = 0 then p.clr (F.BRW_CH_CTRL_EN c) else p

/-- A doorbell (R422): IDLE reads HEAD again; any other state remembers it. -/
def Part.doorbell (p : Part) (t c : Nat) : Part :=
  if p.chState c = 1 ∧ !p.chPaused c then p.chNext t c else p.set (F.BRW_CH_STATE_DB_PEND c)

/-- A channel whose pause has ended goes on (R436): an interrupted descriptor repeats its re-read, and every other state reads the
ring again. -/
def Part.chResume (p : Part) (t c : Nat) : Part :=
  if p.chState c = 4 ∧ !p.chPaused c then
    match (p.chan c).run with
    | some _ => p.setChState c 3
    | none =>
      let q := p.setChState c 1
      if (p.chan c).left = 1 && !p.on (F.BRW_CH_STATE_DB_PEND c) then q else q.chNext t c
  else if p.chState c = 1 ∧ !p.chPaused c ∧ p.on (F.BRW_CH_STATE_DB_PEND c) then p.chNext t c
  else p

/-- A write of the channel's PAUSE. -/
def Part.chPause (p : Part) (t c : Nat) (on : Bool) : Part :=
  (p.put (F.BRW_CH_CTRL_PAUSE c) (if on then 1 else 0)).chResume t c

/-- A write of the global PAUSE. -/
def Part.brwPause (p : Part) (t : Nat) (on : Bool) : Part :=
  (p.put F.BRW_CTRL_PAUSE (if on then 1 else 0)).each (List.range 64) (fun q c => q.chResume t c)

/-- A pausing channel has nothing left in flight, and no descriptor whose last write has left (R435). -/
def Part.pauseReady (p : Part) (c : Nat) : Bool :=
  p.chPaused c && [1, 2, 3].contains (p.chState c) && (p.chan c).quiet &&
    (match (p.chan c).run with
      | some r => !(r.running && (r.d.kind == 2 || decide (r.d.rows ≤ r.row)))
      | none => true)

/-- It enters PAUSED: the cursor stays exact, and fetched descriptors are discarded (R436). -/
def Part.chPausedNow (p : Part) (c : Nat) : Part :=
  let st := p.chState c
  let q := p.modChan c (fun u => { u with
    left := st,
    run := u.run.bind (fun r => if r.begun then some { r with running := false } else none),
    next := match u.run with
      | some r => r.d.index
      | none => u.next })
  (q.setChState c 4).chHead c

/-- A write of BRW_CH_CTRL: pacing, EN, PAUSE and DOORBELL. -/
def Part.chCtrl (p : Part) (t c : Nat) (v : Word) : Part :=
  let q := p.put (F.BRW_CH_CTRL_PACE c) (v.bits 5 4)
  let q := (q.chEnable t c (v.bits 0 0 == 1)).chPause t c (v.bits 1 1 == 1)
  if v.bits 2 2 = 1 then q.doorbell t c else q

/-! Fence and teardown (R440, R441). -/

/-- System channel `c` drops the descriptors that `sel` picks, without status, and goes on. -/
def Part.chDrop (p : Part) (t c : Nat) (sel : Desc → Bool) : Part :=
  let q := p.modChan c (fun u => { u with fins := u.fins.filter (fun f => !sel f.d) })
  match (q.chan c).run with
  | some r => if sel r.d then
      (q.modChan c (fun u => { u with run := none, next := (r.d.index + 1) % p.chSize c })).chNext t c
    else q.chHead c
  | none => q.chHead c

/-- The fence of plot `k` falls: its channels end FENCED, and system channels drop its descriptors. -/
def Part.brwFence (p : Part) (t k : Nat) : Part :=
  let q := p.each (List.range 48) (fun q c =>
    if q.chOwner c = k then (q.modChan c (fun u => { u with run := none, fins := [] })).setChState c 6 else q)
  q.each ((List.range 16).map (· + 48)) (fun q c => q.chDrop t c (fun d => d.tag == k))

/-- A teardown of a job: the Gardener channels drop its descriptors. -/
def Part.brwTeardown (p : Part) (t k job : Nat) : Part :=
  p.each ((List.range 8).map (· + 48)) (fun q c =>
    (q.modChan c (fun u => { u with torn := (k, job) :: u.torn })).chDrop t c (fun d => d.tag == k && d.job == job))

end Sys2Proof.Machine
end

