-- ==== Sys2Proof/Machine/Gardeners.lean ====
section
/-! DEFINITION. The Gardeners' dispatch to beds, the ends of bed commands, stripes, time limits, and the teardown of a job
(10_beds, 12_operator_mapping, 14_scheduling). -/

namespace Sys2Proof.Machine

/-- A bed can take a command (R262, R295, R298). -/
def Part.bedReady (p : Part) (b : Nat) : Bool :=
  p.live && p.on F.DSP_CTRL_EN && (p.bed b).cmd.isNone && !p.on (F.BED_STATUS_RESETTING b) && !p.gated b

/-- A free bed takes the next ready command (R392); a job whose generation is voided skips the rest of its commands (R220). -/
def Part.bedDispatch (p : Part) (t b : Nat) : Part :=
  match p.pick (p.jobs.ready.filter (fun c => p.fits c 0 b)) 0 with
  | none => p
  | some c =>
    -- the generations of the command's jobs: those of an inference's drill, or its own; a started command goes on
    let hs := match c.task with
      | .layer h _ => match p.infer? h with
        | some u => u.jobs
        | none => []
      | _ => c.job.toList
    let voided := if c.seq.isSome then [] else (hs.filterMap p.job?).filter p.jobVoided
    if voided ≠ [] then (voided.foldl Part.skipVoided p).tryInfers
    else
      let x := (p.noteTurn c).startCmd t c
      let aper := match c.task with
        | .kernel _ _ a => a
        | _ => 0
      (x.2.takePlace c x.1 b).modBed b (fun d => { d with
        cmd := some { cmd := { x.1 with places := [b] }, started := false, startAt := t, aper := aper, stripes := 0 } })

/-- A free place takes the next ready command: kind 0 a bed, 1 a Pruner engine, 2 an application core (R392). -/
def Part.dispatch (p : Part) (t kind n : Nat) : Part :=
  if kind = 0 then p.bedDispatch t n else if kind = 1 then p.cropStart t n else p.actStart t n

/-- Whether that place can take one. -/
def Part.canDispatch (p : Part) (kind n : Nat) : Bool :=
  if kind = 0 then decide (n < 64) && p.bedReady n && (p.pick (p.jobs.ready.filter (fun c => p.fits c 0 n)) 0).isSome
  else if kind = 1 then
    decide (n < 4) && p.live && p.on F.PRN_CTRL_EN && (p.engine n).isNone && !p.on F.SHD_BOOT_STATE_REPLANT_PENDING &&
      p.readyCrops n != []
  else decide (n < 8) && p.coreReady n && (p.pick (p.jobs.ready.filter (fun c => p.fits c 2 n)) 2).isSome

/-! Ends of bed commands (R265). -/

/-- The stripes of a layer's command on its bed. -/
def Part.bedLayer (p : Part) (b : Nat) : Option (Infer × LayerRun) :=
  match p.bedCmd b with
  | none => none
  | some c => match c.task with
    | .layer h i => (p.infer? h).map (fun u => (u, p.layerRun u i b))
    | _ => none

/-- A command has nothing left to do on a bed. -/
def Part.bedIdle (p : Part) (b : Nat) : Bool :=
  let d := p.bed b
  match d.cmd with
  | none => false
  | some bc =>
    bc.started && (match bc.cmd.task with
      | .layer _ _ => match p.bedLayer b with
        | some (_, l) => decide (l.stripes ≤ bc.stripes)
        | none => true
      | _ => d.live == 0 && d.queue.isEmpty && d.tputs.isEmpty)

/-- At a best-effort command's end, its job is pre-empted when it goes on and a better command waits for the bed (R393). -/
def Part.notePreempt (p : Part) (c : Cmd) (b : Nat) : Part :=
  let goesOn := match c.job with
    | some h => (p.job? h).isSome
    | none => false
  let better := p.jobs.ready.any (fun x => p.fits x 0 b && x.job != c.job && (p.cmdRt x || decide (p.cmdPrio c < p.cmdPrio x)))
  if goesOn && !p.cmdRt c && better then p.add (F.STK_JOB_PREEMPT_COUNT c.plot) 1 else p

/-- A command ends on a bed (R265); one whose context owns a stake faults with HELD (R403). -/
def Part.bedCmdEnd (p : Part) (t b : Nat) : Part :=
  match (p.bed b).cmd with
  | none => p
  | some bc =>
    let c := bc.cmd
    let seq := c.seq.getD 0
    if p.holdsStake c.plot (bedCtx b seq) then (p.bedStop b).raiseFault c.job c.plot 10 seq
    else
      let bolts := match c.task with
        | .layer _ _ => (FMap.get (fun _ => (0 : Word)) (p.bed b).bolts 0).toNat
        | _ => 0
      let q := (p.modBed b (fun d => { d with cmd := none, threads := [] })).bedStatus b
      let q := q.put (F.DSP_BED_APER_BASE b) 0
      (q.cmdEnd t c bolts).notePreempt c b

/-! Stripes (R349). -/

/-- The next stripe of the layer on a bed has its input rows: on a banded drill, ROWS_READY has passed them. -/
def Part.stripeReady (p : Part) (b : Nat) : Bool :=
  match (p.bed b).cmd, p.bedLayer b with
  | some bc, some (u, l) =>
    let banded := match u.drill with
      | some d => ((p.img.groupPar d.1).map (·.banded)).getD false
      | none => false
    bc.started && decide (bc.stripes < l.stripes) &&
      (!banded || u.layer != 0 || decide (l.lastIn bc.stripes < (u.segs.headD Seg.none).rowsReady))
  | _, _ => false

/-- Run the next stripe (R346 to R350). A refused access of the bed faults the bed, one of Barrow is a channel error (R353). -/
def Part.stripeStart (p : Part) (t b : Nat) : Part :=
  match (p.bed b).cmd, p.bedLayer b with
  | some bc, some (_, l) =>
    let r := (p.countStripe l bc.stripes).runStripe l bc.stripes
    let q := r.1.modBed b (fun d => { d with cmd := d.cmd.map (fun x => { x with stripes := x.stripes + 1 }) })
    match r.2 with
    | none => q.fillGaps l bc.stripes
    | some (11, _) => (q.bedStop b).raiseFault bc.cmd.job bc.cmd.plot 11 (bc.cmd.seq.getD 0)
    | some (cause, addr) =>
      -- which of the Gardener's 16 threads faulted, and at which pc, the spec does not say
      let x := q.freshBelow 16
      let y := x.2.fresh
      y.2.bedFault t b x.1 (BitVec.setWidth 32 y.1) cause (addr % 2 ^ 32) false
  | _, _ => p

/-! Time limits (R395). -/

/-- The command on a place: kind 0 bed, 1 engine, 2 core. -/
def Part.placeCmd (p : Part) (kind n : Nat) : Option Cmd :=
  if kind = 0 then p.bedCmd n else if kind = 1 then p.engine n else (p.core n).map (·.cmd)

/-- A command has reached its time limit. -/
def Part.overLimit (p : Part) (t kind n : Nat) : Bool :=
  match p.placeCmd kind n with
  | some c => c.seq.isSome && decide (c.begun + c.limit ≤ t) && !p.fenced c.plot
  | none => false

/-- A command past its limit is a job fault with cause LIMIT. -/
def Part.timeLimit (p : Part) (kind n : Nat) : Part :=
  match p.placeCmd kind n with
  | some c => p.raiseFault c.job c.plot 9 (c.seq.getD 0)
  | none => p

/-! Teardown (R406). -/

/-- A command is part of a job fault: of its job, or the faulting activation itself. -/
def JobFault.hits (f : JobFault) (c : Cmd) : Bool :=
  match f.job with
  | some h => c.job == some h
  | none => c.job.isNone && c.plot == f.plot && c.seq == some f.seq

/-- Steps 2, 4 and 5 on the beds: stakes freed and blighted, the beds reset. -/
def Part.tearBeds (p : Part) (f : JobFault) : Part :=
  p.each (List.range 64) (fun q b => match q.bedCmd b with
    | some c => if f.hits c then
        let r := q.freeStakes (bedCtx b (c.seq.getD 0)) true
        (r.bedReset b).clr (F.BED_STATUS_RESETTING b) else q
    | none => q)

/-- Step 2 on the Pruner: the crop is abandoned. -/
def Part.tearEngines (p : Part) (f : JobFault) : Part :=
  p.each [0, 1, 2, 3] (fun q e => match q.engine e with
    | some c => if f.hits c then
        let r := match q.cropOf c with
          | some (j, _, _, _, _) =>
            if (q.img.prnPar j.pipe j.stage).banded then
              q.modGrp (q.img.groupOf j.pipe j.stage) (fun u => { u with opened := none })
            else q
          | none => q
        (r.setEngine e none).clrBit F.PRN_ENG_BUSY_BUSY e else q
    | none => q)

/-- Steps 2 and 4 on the cores: stakes and credits freed; a Runner's activation that faults ends the Runner (R583). -/
def Part.tearCores (p : Part) (f : JobFault) : Part :=
  p.each (List.range 8) (fun q c => match q.core c with
    | some a => if f.hits a.cmd then
        let r := ((q.freeStakes (fun x => x == a.ctx c) true).dropHolds c).setCore c none
        let r := r.coreStat c
        if a.runner = 63 then r else r.runnerEnd a.runner else q
    | none => q)

/-- The inferences whose commands are the job's end; other jobs whose samples they held go on without them. -/
def Part.tearInfers (p : Part) (t h : Nat) : Part :=
  (p.jobs.infers.filter (fun u => u.jobs.head? == some h)).foldl (fun (q : Part) u =>
    q.inferOver t { u with jobs := u.jobs.filter (· != h) } true) p

/-- Inferences that no job waits for and of which nothing runs any more are over. -/
def Part.dropInfers (p : Part) (t : Nat) : Part :=
  let runs := fun (u : Infer) => (List.range 64).any (fun b => match p.bedCmd b with
    | some c => (match c.task with
      | .layer h _ => h == u.handle
      | _ => false)
    | none => false)
  (p.jobs.infers.filter (fun u => u.jobs.isEmpty && !runs u)).foldl (fun (q : Part) u => q.inferOver t u true) p

/-- The faulting entry of a queue job gets RESULT 1, the later ones RESULT 2, and the plot is interrupted. -/
def Part.tearQueue (p : Part) (j : Job) (cause seq : Nat) : Part :=
  let last := (p.byte (p.entryKey j.plot j.queue (p.qTail j.plot j.queue) + 1)).toNat % 2 == 1
  let id := j.id.getD 0
  let q := p.entryDone j.plot j.queue 1 cause id seq
  let q := if last then q else Part.skipEntries j.plot j.queue id 1024 q
  ((q.dropJob j).plotEvent j.plot 2)

/-- A pipeline job after its teardown (R407): skipped, or issued once more. -/
def Part.tearPipe (p : Part) (t : Nat) (j : Job) : Part :=
  let again := p.img.pipeReplay j.pipe == 1 && !j.reissued
  let q := (if again then p else p.releaseJob j).dropJob j
  if again then
    let n := q.mkJob j.pipe j.set j.ref j.ts j.members true
    (q.addSat (F.STK_JOB_REISSUED_COUNT j.plot) 1).issueJob t { n with noTime := j.noTime } j.crops j.steered
  else q.skipCount j.plot

/-- The teardown of the oldest job fault (R406, R407). -/
def Part.teardown (p : Part) (t : Nat) : Part :=
  match p.jobs.faults with
  | [] => p
  | f :: rest =>
    let q := p.modJobs (fun u => { u with faults := rest })
    let q := ((q.tearBeds f).tearEngines f).tearCores f
    let job := f.job.bind q.job?
    let q := match job.bind (·.id) with
      | some id => q.brwTeardown t f.plot id
      | none => q
    let q := q.jobLog t f.plot f.cause ((job.bind (·.id)).getD 0) f.seq
    match job with
    | none => q.dropInfers t
    | some j =>
      let q := q.tearInfers t j.handle
      let q := if j.pipe = 0xFF then
          Part.queueRun j.plot j.queue 4096 (q.tearQueue j f.cause f.seq)
        else q.tearPipe t j
      q.tryInfers

/-- Write of DSP_Q_HEAD (R391): an offset outside SIZE, or not a multiple of 64, sets ERR; else entries are taken. -/
def Part.queueHead (p : Part) (plot q off : Nat) : Part :=
  let p := p.put (F.DSP_Q_HEAD_OFF (plot - 1) q) off
  if p.qSize plot q ≤ off ∨ off % 64 ≠ 0 then p.set (F.DSP_Q_STAT_ERR (plot - 1) q)
  else Part.queueRun plot q 4096 p

/-- Write of DSP_Q_CTRL: EN with BASE or SIZE invalid sets ERR and stops the queue. -/
def Part.queueEnable (p : Part) (plot q : Nat) (on : Bool) : Part :=
  let base := p.get64 (F.DSP_Q_BASE_LO_BASE (plot - 1) q) (F.DSP_Q_BASE_HI_BASE (plot - 1) q)
  let size := p.qSize plot q
  let bad := base % 4096 != 0 || size == 0 || size % 4096 != 0 || decide (p.img.window plot < base + size)
  let r := p.put (F.DSP_Q_CTRL_EN (plot - 1) q) (if on then 1 else 0)
  if on then (if bad then r.set (F.DSP_Q_STAT_ERR (plot - 1) q) else Part.queueRun plot q 4096 r) else r

end Sys2Proof.Machine
end

