-- ==== Sys2Proof/Machine/Nvme.lean ====
section
/-! DEFINITION. The NVMe root port (R503, R622 to R624, R694): command slots with their generations, progress, timeouts and the
controller reset. -/

namespace Sys2Proof.Machine

/-- The generation of a slot. -/
def Part.nvGen (p : Part) (s : Nat) : Nat := FMap.get (fun _ => 0) p.nvme.gens s
/-- The command in a slot. -/
def Part.nvCmd (p : Part) (s : Nat) : Option NvmeCmd := FMap.get (fun _ => none) p.nvme.cmds s
def Part.setNvCmd (p : Part) (s : Nat) (c : Option NvmeCmd) : Part :=
  { p with nvme := { p.nvme with cmds := FMap.put (fun _ => none) p.nvme.cmds s c } }
/-- The slot takes its next generation. -/
def Part.bumpGen (p : Part) (s : Nat) : Part :=
  { p with nvme := { p.nvme with gens := FMap.put (fun _ => 0) p.nvme.gens s ((p.nvGen s + 1) % 65536) } }
/-- The slots in use. -/
def Part.nvSlots (p : Part) : List Nat := (List.range 256).filter (fun s => (p.nvCmd s).isSome)

/-- The NVMe opcode of a command: 1 layer or kernel Read, 2 Cellar Write, 3 replay Read, 4 Abort. -/
def nvOpcode (op : Nat) : Nat := if op = 2 then 0x01 else if op = 4 then 0x08 else 0x02

/-- Issue a command in the lowest free slot (DESIGN CHOICE, assumption 42); nothing when every slot is taken. -/
def Part.nvIssue (p : Part) (t : Nat) (c : NvmeCmd) (data : List Byte) : Part :=
  match (List.range 256).find? (fun s => (p.nvCmd s).isNone) with
  | none => p
  | some s =>
    (p.setNvCmd s (some { c with progressAt := t })).emit
      (.nvme (nvOpcode c.op) s (p.nvGen s) c.nsid c.lba c.blocks data)

/-- Retire a slot's command under a new generation (R622, R637). -/
def Part.nvRetire (p : Part) (s : Nat) : Part := (p.bumpGen s).setNvCmd s none

/-- Retire every command that `mine` picks. -/
def Part.nvRetireAll (p : Part) (mine : NvmeCmd → Bool) : Part :=
  p.each p.nvSlots (fun q s => match q.nvCmd s with
    | some c => if mine c then q.nvRetire s else q
    | none => q)

/-- Commands that have completed leave their slots. -/
def Part.nvFree (p : Part) (mine : NvmeCmd → Bool) : Part :=
  p.each p.nvSlots (fun q s => match q.nvCmd s with
    | some c => if mine c then q.setNvCmd s none else q
    | none => q)

/-- The data of a Cellar Write that is reissued: its crates as staged. -/
def Part.nvData (p : Part) (c : NvmeCmd) : List Byte :=
  if c.op = 2 then (((p.hv c.plot).staged.filter (fun x => decide (c.a ≤ x.seq ∧ x.seq < c.a + c.b))).map (·.bytes)).flatten else []

/-- Reissue a slot's command under a new generation. -/
def Part.nvReissue (p : Part) (t s : Nat) (c : NvmeCmd) : Part :=
  let q := (p.bumpGen s).setNvCmd s (some { c with progressAt := t })
  q.emit (.nvme (nvOpcode c.op) s (q.nvGen s) c.nsid c.lba c.blocks (p.nvData c))

/-- An arrival for a slot under a generation (R624): a stale one is discarded and counted. -/
def Part.nvStale (p : Part) : Part := (p.addSat F.FLT_STALE_NVME_COUNT 1).fltEvent 4

/-- Progress of a command, and of the load it reads for (R622). -/
def Part.nvProgress (p : Part) (t s : Nat) (bytes : Bool) : Part :=
  match p.nvCmd s with
  | none => p
  | some c =>
    let q := p.setNvCmd s (some { c with progressAt := t })
    if c.op = 1 && bytes then q.modLoadq c.plot (fun u => { u with cur := u.cur.map (fun r => { r with progressAt := t }) })
    else q

/-- An arrival from the SSD for a slot (R624): an inbound write, which carries the 16-bit generation, or a completion, which carries
its low 8 bits. A stale one is discarded. A completion is progress for every command of its queue (R622). It ends an Abort, and a
fenced plot's Read, whose data is discarded (R155); what ends with data or with durable crates ends in its own step. -/
def Part.nvArrive (p : Part) (t : Nat) (completion : Bool) (slot gen : Nat) : Part :=
  match p.nvCmd slot with
  | none => p.nvStale
  | some c =>
    if (if completion then gen % 256 == p.nvGen slot % 256 else gen == p.nvGen slot) then
      if completion then
        let q := p.each (p.nvSlots.filter (fun s => s / 64 == slot / 64)) (fun q s => q.nvProgress t s false)
        if c.op = 4 || (c.op == 1 && p.fenced c.plot) then (q.setNvCmd slot none).add F.PRP_CMDS_COUNT 1 else q
      else p.nvProgress t slot true
    else p.nvStale

/-- A slot's command has had no progress for 200 ms. -/
def Part.nvTimedOut (p : Part) (t s : Nat) : Bool :=
  match p.nvCmd s with
  | some c => decide (c.progressAt + 200000000 ≤ t)
  | none => false

/-- The controller does not come up, or fails a reset: it is not ready, and whether it reports a fatal status is a free value. -/
def Part.nvmeDown (p : Part) : Part :=
  let x := p.fresh
  (x.2.clr F.PRP_NVME_READY).put F.PRP_NVME_FATAL x.1.toNat

/-- The controller is reset (R622, R694): every outstanding command is reissued, or, when the reset fails, NVME_FAILED is set
and the crates of Cellar Writes are lost. -/
def Part.nvReset (p : Part) (t : Nat) (ok : Bool) : Part :=
  let q := (p.addSat F.FLT_NVME_RESETS_COUNT 1).emit .nvmeReset
  if ok then
    q.each q.nvSlots (fun r s => match r.nvCmd s with
      | some c => if c.op = 4 then r.nvRetire s else r.nvReissue t s { c with tries := 0 }
      | none => r)
  else
    let q := (q.bootFault 5).nvmeDown
    q.each q.nvSlots (fun r s => match r.nvCmd s with
      | some c =>
        let r := r.nvRetire s
        if c.op = 2 then (r.add (F.HVS_P_CELLAR_LOST_COUNT c.plot) c.b).modHv c.plot (fun u => { u with
            cellarOut := none, curCellar := max u.curCellar (c.a + c.b) })
        else if c.op = 3 then (r.clr (if c.b = 1 then F.HVS_P_REPLAY_CTRL_BUSY c.plot else F.HR_REPLAY_CTRL_BUSY c.plot)).modHv c.plot
          (fun u => if c.b = 1 then { u with udpReplay := none } else { u with hostReplay := none })
        else r
      | none => r)

/-- 200 ms without progress (R622): first Abort and reissue; a second timeout of the command or of its Abort resets the
controller, whose outcome is `ok`. -/
def Part.nvTimeout (p : Part) (t s : Nat) (ok : Bool) : Part :=
  match p.nvCmd s with
  | none => p
  | some c =>
    let q := ((p.addSat F.FLT_TMO_NVME_COUNT 1).addSat F.PRP_TIMEOUTS_COUNT 1).fltEvent 3
    if c.op = 4 || c.tries != 0 then q.nvReset t ok
    else
      let old := q.nvGen s
      let q := q.nvReissue t s { c with tries := 1 }
      -- the Abort names the old command by its slot and generation
      q.nvIssue t { op := 4, plot := c.plot, a := s, b := old, nsid := 0, lba := 0, blocks := 0, tries := 0, progressAt := t } []

/-- Bytes of a namespace's LBA; 512 where the namespace is not active. -/
def Part.lbaSize (p : Part) (nsid : Nat) : Nat :=
  ((p.nvme.namespaces.find? (fun n => n.nsid == nsid)).map (·.lbaSize)).getD 512

end Sys2Proof.Machine
end

