-- ==== Sys2Proof/Machine/Orphans.lean ====
section
/-! DEFINITION. Orphans (R619, R620, R638, R640): a posted write that fails after its initiator has moved on is logged, and
becomes a job fault or a LATE_ERROR and CULL pair. -/

namespace Sys2Proof.Machine

/-- The record context of an ended job. -/
def PastJob.ctx (j : PastJob) : JobCtx :=
  let m := (j.members.getD j.ref { stream := 0xFFFF, frameSeq := 0, gen := 0, missing := false })
  { stream := m.stream, gen := m.gen, job := j.id, frameSeq := m.frameSeq, pipe := j.pipe, set := j.set, ts := j.ts, flags := 0 }

/-- The LATE_ERROR and CULL pair of a job whose records stand (R620). -/
def Part.latePair (p : Part) (t : Nat) (o : Orphan) (index : Nat) (c : JobCtx) : Part :=
  let next := (p.get (F.HVS_P_SEQ_SEQ o.plot) + 1) % 2 ^ 32
  (p.lateError t o index next c).cull t o.plot 9 c []

/-- KIND 2 (R620): one pair for each ended job of the plot, of the 1 024 most recent, that took the picture and formed a record;
older ones are counted. A failed reference store taints the stream's later pictures (R223). -/
def Part.latePicture (p : Part) (t : Nat) (o : Orphan) (index : Nat) (w : Writer) : Part :=
  let took := fun (j : PastJob) => j.plot == o.plot && j.formed &&
    j.members.any (fun m => !m.missing && m.stream == w.stream && m.gen == w.gen)
  let mine := p.jobs.past.filter (fun j => j.plot == o.plot)
  let q := ((mine.take 1024).filter took).reverse.foldl (fun (q : Part) j => q.latePair t o index j.ctx) p
  let q := q.addSat F.FLT_LATE_UNCULLED_COUNT ((mine.drop 1024).filter took).length
  if w.refStore then q.modDec w.stream (fun u => { u with concealed := true }) else q

/-- An orphan (R619, R620): KIND 1 a merge, 2 a write of a complete picture, 3 any other posted write. -/
def Part.orphan (p : Part) (t kind : Nat) (w : Writer) (addr : Nat) : Part :=
  let k := w.plot.val
  if k ≠ 0 && p.fenced k then p.drainFault k
  else
    let o : Orphan := { kind := kind, init := w.kind.code, plot := k, gen := w.gen, addr := addr, job := w.job.getD 0, cmdSeq := w.cmdSeq }
    let index := p.get F.FLT_ORPH_HEAD_COUNT
    let q := p.orphanLog t o
    if kind = 2 then q.latePicture t o index w
    else match w.job with
      | none => q.lateError t o index 0xFFFFFFFF (JobCtx.none t)
      | some id =>
        match q.jobs.jobs.find? (fun j => j.plot == k && j.id == some id) with
        | some j =>
          if q.jobs.faults.any (fun f => f.job == some j.handle) then
            if j.formed then q.latePair t o index (j.ctx 0xFFFF 0 0 j.ts) else q
          else q.raiseFault (some j.handle) k 5 w.cmdSeq
        | none => match (q.jobs.past.filter (fun j => j.plot == k)).find? (fun j => j.id == id) with
          | some j => q.latePair t o index j.ctx
          | none => q.addSat F.FLT_LATE_UNCULLED_COUNT 1

end Sys2Proof.Machine
end

