-- ==== Sys2Proof/Machine/Elf.lean ====
section
/-! DEFINITION. A Runner's ELF file (R579) and the regions of a plot's Runners (R580). -/

namespace Sys2Proof.Machine

/-- A program header's type, flags, file offset, address, file size and memory size, for header `i` of the ELF at `o`. -/
structure ElfSeg where
  ty : Nat
  flags : Nat
  off : Nat
  addr : Nat
  filesz : Nat
  memsz : Nat
  align_ : Nat
  deriving DecidableEq, Repr

/-- Image offset of a Runner's ELF file. -/
def Rd.elfAt (r : Rd) (n : Nat) : Nat := (r.base 9).getD 0 + r.runnerVal n 0 (fun o => r.u32 (o + 4))

/-- The program headers of a Runner's ELF. -/
def Rd.elfSegs (r : Rd) (n : Nat) : List ElfSeg :=
  let e := r.elfAt n
  (List.range (r.u16 (e + 0x38))).map (fun i =>
    let h := e + r.u64 (e + 0x20) + i * r.u16 (e + 0x36)
    { ty := r.u32 h, flags := r.u32 (h + 4), off := r.u64 (h + 8), addr := r.u64 (h + 0x10), filesz := r.u64 (h + 0x20),
      memsz := r.u64 (h + 0x28), align_ := r.u64 (h + 0x30) })

/-- The loaded segments. -/
def Rd.elfLoads (r : Rd) (n : Nat) : List ElfSeg := (r.elfSegs n).filter (fun s => s.ty == 1)
/-- The lowest address of the span, on a 4 KiB boundary, and the bytes of the span. -/
def Rd.elfSpan (r : Rd) (n : Nat) : Nat × Nat :=
  let l := r.elfLoads n
  let lo := (l.foldl (fun m s => min m s.addr) ((l.headD ⟨0, 0, 0, 0, 0, 0, 0⟩).addr)) / 4096 * 4096
  let hi := Rd.up (l.foldl (fun m s => max m (s.addr + s.memsz)) 0) 4096
  (lo, hi - lo)
/-- Entries of the dynamic section: tag and value, up to DT_NULL. -/
def Rd.elfDyn (r : Rd) (n : Nat) : List (Nat × Nat) :=
  match (r.elfSegs n).find? (fun s => s.ty == 2) with
  | none => []
  | some s => ((List.range (s.filesz / 16)).map (fun i =>
      let d := r.elfAt n + s.off + 16 * i
      (r.u64 d, r.u64 (d + 8)))).takeWhile (fun d => d.1 != 0)
/-- The value of a dynamic tag. -/
def Rd.elfTag (r : Rd) (n tag : Nat) : Option Nat := ((r.elfDyn n).find? (fun d => d.1 == tag)).map (·.2)
/-- The image offset of a virtual address of the file. -/
def Rd.elfFileAt (r : Rd) (n v : Nat) : Option Nat :=
  ((r.elfLoads n).find? (fun s => decide (s.addr ≤ v ∧ v < s.addr + s.filesz))).map (fun s => r.elfAt n + s.off + (v - s.addr))
/-- Every relocation of the tables that DT_RELA and DT_JMPREL locate is R_RISCV_RELATIVE; there is no DT_REL table. -/
def Rd.elfRelocs (r : Rd) (n : Nat) : Bool :=
  let ok := fun (tab size : Option Nat) => match tab, size with
    | some v, some len => match r.elfFileAt n v with
      | some o => (List.range (len / 24)).all (fun i => r.u32 (o + 24 * i + 8) == 3)
      | none => len == 0
    | _, _ => true
  (r.elfTag n 17).isNone && ok (r.elfTag n 7) (r.elfTag n 8) && ok (r.elfTag n 23) (r.elfTag n 2)

/-- The file meets every requirement of R579. -/
def Rd.elfOk (r : Rd) (n : Nat) : Bool :=
  let e := r.elfAt n
  let len := r.runnerVal n 0 (fun o => r.u32 (o + 8))
  let flags := r.u32 (e + 0x30)
  let hs := r.elfSegs n
  decide (64 ≤ len) && r.bytes e 4 == [0x7F, 0x45, 0x4C, 0x46] && r.u8 (e + 4) == 2 && r.u8 (e + 5) == 1 &&
    r.u16 (e + 0x12) == 243 && r.u16 (e + 0x10) == 3 && flags % 2 == 1 && flags / 2 % 4 == 2 && flags / 8 % 2 == 0 &&
    r.u16 (e + 0x36) == 56 && decide (r.u64 (e + 0x20) + 56 * r.u16 (e + 0x38) ≤ len) && !(r.elfLoads n).isEmpty &&
    hs.all (fun h =>
      (h.ty == 1 || h.ty == 2 || h.ty == 7 || h.ty == 0x6474E551) && decide (h.off + h.filesz ≤ len) &&
        (h.ty != 1 || (h.align_ != 0 && h.align_ % 4096 == 0 && h.off % 4096 == h.addr % 4096 && h.flags % 4 != 3 &&
          decide (h.filesz ≤ h.memsz))) &&
        (h.ty != 7 || decide (h.align_ ≤ 4096))) &&
    decide ((r.elfSpan n).2 ≤ 64 * 2 ^ 20) && decide ((hs.filter (fun h => h.ty == 7)).length ≤ 1) &&
    (r.elfDyn n).all (fun d => d.1 != 1) && r.elfRelocs n

/-- Bytes of the stack, the TLS block and the heap. -/
def Rd.stackBytes (r : Rd) (n : Nat) : Nat := Rd.up (r.runnerVal n 0 (fun o => r.u16 (o + 0x0C)) * 1024) 4096
def Rd.tlsBytes (r : Rd) (n : Nat) : Nat := Rd.up (((r.elfSegs n).filter (fun s => s.ty == 7)).map (·.memsz)).sum 4096
def Rd.heapBytes (r : Rd) (n : Nat) : Nat := r.runnerVal n 0 (fun o => r.u16 (o + 0x0E)) * 2 ^ 20
/-- Bytes of a Runner's region up to the end of its heap: segments, guard, stack, TLS, guard, heap. -/
def Rd.regionBytes (r : Rd) (n : Nat) : Nat :=
  (r.elfSpan n).2 + 4096 + r.stackBytes n + r.tlsBytes n + 4096 + r.heapBytes n
/-- Runners of a plot in ascending ID. -/
def Rd.runnersOf (r : Rd) (k : Nat) : List Nat := (List.range 64).filter (fun n => (r.runnerRec n).isSome && r.runnerPlot n == k)
/-- Plot-virtual base of a Runner's region. -/
def Rd.regionBase (r : Rd) (n : Nat) : Nat :=
  ((r.runnersOf (r.runnerPlot n)).filter (fun x => decide (x < n))).foldl (fun a x => Rd.up (a + r.regionBytes x) 0x200000) 0x200000
/-- The end of a plot's last region. -/
def Rd.regionsEnd (r : Rd) (k : Nat) : Nat := (r.runnersOf k).foldl (fun a n => max a (r.regionBase n + r.regionBytes n)) 0

end Sys2Proof.Machine
end

