-- ==== Sys2Proof/Machine/Calib.lean ====
section
/-! DEFINITION. The calibration record (R548 to R552) and its TCXO curve (R549). -/

namespace Sys2Proof.Machine

/-- NOR address of the calibration record (R548). -/
def calBase : Nat := 0x2000000

/-- The reserved bytes of the record, and the points beyond POINTS, are 0. -/
def calReservedZero (r : Rd) : Bool :=
  r.zero 0x019 7 && (List.range 7).all (fun c => r.zero (0x02C + 16 * c) 4) && r.zero 0x09F 1 && r.zero 0x0A4 12 &&
    r.zero 0x0C1 15 && r.zero 0x1D0 44 && r.zero (0x0D0 + 8 * min (r.u8 0x0C0) 32) (8 * (32 - min (r.u8 0x0C0) 32))

/-- A channel's GAIN is finite and non-zero, OFFSET and PHASE_NS are in range (R548). -/
def calChannelOk (r : Rd) (c : Nat) : Bool :=
  let g := r.u32 (0x020 + 16 * c)
  let off := r.i32 (0x024 + 16 * c)
  let ph := r.i32 (0x028 + 16 * c)
  g / 2 ^ 23 % 256 != 255 && g % 2 ^ 31 != 0 && decide (-(2 ^ 22 : Int) ≤ off ∧ off ≤ (2 ^ 22 : Int)) &&
    decide (-100000 ≤ ph ∧ ph ≤ 100000)

/-- The site fields are in range and in order (R548). -/
def calSiteOk (r : Rd) : Bool :=
  let dip := r.u16 0x094
  let swell := r.u16 0x096
  let int := r.u16 0x098
  let hyst := r.u16 0x09A
  decide (r.u8 0x090 ≤ 1) && (r.u8 0x091 == 50 || r.u8 0x091 == 60) &&
    decide (1000 ≤ r.u16 0x092 ∧ r.u16 0x092 ≤ 60000) &&
    decide (int < dip ∧ dip < 1000 ∧ 1000 < swell ∧ swell ≤ 2000 ∧ hyst ≤ 100) &&
    decide (r.u16 0x09C ≤ 60000) && r.u8 0x09E != 0 && decide (r.u32 0x0A0 ≤ 1000000)

/-- POINTS is 2 to 32 and the temperatures ascend strictly. -/
def calPointsOk (r : Rd) : Bool :=
  let n := r.u8 0x0C0
  decide (2 ≤ n ∧ n ≤ 32) &&
    (List.range (n - 1)).all (fun i => decide (r.i32 (0x0D0 + 8 * i) < r.i32 (0x0D0 + 8 * (i + 1))))

/-- The first check of the calibration record that fails (R550); 0 when it is valid. -/
def calCheck (r : Rd) : Nat :=
  if r.bytes 0 4 ≠ [0x42, 0x43, 0x41, 0x4C] ∨ r.u16 4 ≠ 1 ∨ r.u16 6 ≠ 0x200 then 0x21
  else if Crypto.crc32 (r.bytes 0 0x1FC) ≠ r.u32 0x1FC then 0x22
  else if !calReservedZero r then 0x23
  else if !(List.range 7).all (calChannelOk r) then 0x24
  else if !calSiteOk r then 0x25
  else if !calPointsOk r then 0x26
  else 0

/-- The TCXO curve points: milli-degrees C and 2^-32 units. -/
def calCurve (r : Rd) : List (Int × Int) :=
  (List.range (r.u8 0x0C0)).map (fun i => (r.i32 (0x0D0 + 8 * i), r.i32 (0x0D4 + 8 * i)))

/-- The TCXO curve at temperature `T` as a fraction (numerator, denominator), in 2^-32; none outside its range (R549). -/
def curveAt : List (Int × Int) → Int → Option (Int × Nat)
  | a :: b :: r, T =>
    if a.1 ≤ T ∧ T ≤ b.1 then some (a.2 * (b.1 - a.1) + (b.2 - a.2) * (T - a.1), (b.1 - a.1).toNat)
    else curveAt (b :: r) T
  | _, _ => none

/-- Load the MTR registers from a valid record (R570); `step` loads the rest of the unit. -/
def Part.loadCalRegs (p : Part) (r : Rd) : Part :=
  let q := (List.range 7).foldl (fun (q : Part) c =>
    ((q.put (F.MTR_CH_GAIN_GAIN c) (r.u32 (0x020 + 16 * c))).put (F.MTR_CH_OFFSET_OFFSET c)
      (r.u32 (0x024 + 16 * c))).put (F.MTR_CH_PHASE_NS c) (r.u32 (0x028 + 16 * c))) p
  let q := ((q.put F.MTR_SITE0_WIRING (r.u8 0x090)).put F.MTR_SITE0_NOMINAL_HZ (r.u8 0x091)).put
    F.MTR_SITE0_UDIN (r.u16 0x092)
  let q := ((q.put F.MTR_SITE1_DIP_THR (r.u16 0x094)).put F.MTR_SITE1_SWELL_THR (r.u16 0x096))
  let q := ((q.put F.MTR_SITE2_INT_THR (r.u16 0x098)).put F.MTR_SITE2_HYST (r.u16 0x09A))
  let q := ((q.put F.MTR_SITE3_HOLD_MIN_MS (r.u16 0x09C)).put F.MTR_SITE3_METER_DIV (r.u8 0x09E))
  q.put F.MTR_ISO_DELAY_NS (r.u32 0x0A0)

end Sys2Proof.Machine
end

