-- ==== Sys2Proof/Machine/SundialOps.lean ====
section
/-! DEFINITION. The Sundial's operations (03_clocks_sundial): its increment, the rate and its two parts, steps, SET_TIME,
event timers and the GPIO capture queue. -/

namespace Sys2Proof.Machine

/-- SDL_RATE's clamp: 200 ppm in 2^-32 (R53). -/
def rateClamp : Int := 858993

/-- SDL_RATE in effect. -/
def Part.rate (p : Part) : Int := sext 32 (p.get F.SDL_RATE_RATE)

/-- The increment of one source edge, in ns x 2^32 (R51): the nominal period times 1 + SDL_RATE x 2^-32, rounded down
(assumption 64). -/
def sdlIncrement (src : Nat) (rate : Int) : Nat :=
  let k := ((2 ^ 32 : Int) + rate).toNat
  if src = 0 then k else if src = 1 then 40 * k else k * 1953125 / 64

/-- Write SDL_RATE with the clamped value (R53). -/
def Part.writeRate (p : Part) (r : Int) : Part := p.put F.SDL_RATE_RATE (twos 32 (clampInt (-rateClamp) rateClamp r))

/-- Set the base rate and the slew correction; SDL_RATE is their sum, and SLEWING shows a correction above 1 ppm (R689). -/
def Part.setRates (p : Part) (base slew : Int) : Part :=
  let q := p.modSdl (fun u => { u with baseRate := base, slew := slew })
  (q.writeRate (base + slew)).put F.SDL_STATUS_SLEWING (if 4294 < slew.natAbs then 1 else 0)

/-- The correction of a SET_TIME slew: what takes SDL_RATE to the clamp in the needed direction; 0 while the base rate
stands there itself (R689). -/
def setTimeSlew (base left : Int) : Int :=
  if 0 < left then max 0 (rateClamp - base) else if left < 0 then min 0 (-rateClamp - base) else 0

/-- What a SET_TIME slew has still to remove at time `t` (R689). -/
def SdlUnit.leftAt (u : SdlUnit) (t : Nat) : Int := u.slewLeft - u.slew * ((t : Int) - (u.slewAt : Int))

/-- Change the base rate; a SET_TIME slew in progress adjusts its correction (R689). -/
def Part.setBase (p : Part) (t : Nat) (base : Int) : Part :=
  if p.sdl.slewSet then
    let left := p.sdl.leftAt t
    (p.modSdl (fun u => { u with slewLeft := left, slewAt := t })).setRates base (setTimeSlew base left)
  else p.setRates base p.sdl.slew

/-- TIME_VALID rises: CONFIG TIME records with code 0 (R486 kind 8). -/
def Part.timeValid (p : Part) (t : Nat) : Part :=
  if p.on F.SDL_STATUS_TIME_VALID then p else (p.set F.SDL_STATUS_TIME_VALID).configTime t 0 0

/-- A step inside an interval: the samples and crossings that metering holds keep their distances, and the interval is marked
(R569, assumption 47). -/
def MtrUnit.onStep (u : MtrUnit) (n : Nat) : MtrUnit :=
  { u with
    samples := u.samples.map (fun s => { s with stamp := s.stamp + n }),
    crosses := u.crosses.map (fun c => { c with at_ := c.at_ + n }),
    interval := u.interval.map (fun z => z + n),
    stepped := u.interval.isSome }

/-- A forward step of `n` ns, applied on this edge (R65); a step of 0 is no step. -/
def Part.stepBy (p : Part) (t n : Nat) : Part :=
  if n = 0 then p
  else (((p.modSdl (fun u => { u with step := n })).modMtr (fun u => u.onStep n)).set F.SDL_EVENTS_STEPPED).configTime (t + n) 1 n

/-- The bound on a captured stamp's error in ns: 4 under SRC 0 (R55), 40 under SRC 1 (R615), a period of 32.768 kHz else. -/
def Part.capError (p : Part) : Nat :=
  if p.get F.SDL_STATUS_SRC = 0 then 4 else if p.get F.SDL_STATUS_SRC = 1 then 40 else 30518

/-- The captured stamp of an event at Sundial value `t`: a free value within the bound (R55). -/
def Part.captured (p : Part) (t : Nat) : Nat × Part :=
  let e := p.capError
  let d := p.freshBelow (2 * e + 1)
  (t + d.1 - e, d.2)

/-- Set the Sundial to `target` under R57 and R689: behind by more than the step threshold, one forward step; otherwise a
slew at the clamp. -/
def Part.setTime (p : Part) (t target : Nat) : Part :=
  let off : Int := (target : Int) - (t : Int)
  let steps := decide ((p.img.stepNs : Int) < off)
  let q := p.timeValid (if steps then t + off.toNat else t)
  if steps then
    (q.modSdl (fun u => { u with slewSet := false, slewLeft := 0 })).setRates p.sdl.baseRate 0 |>.stepBy t off.toNat
  else
    let left := off * 2 ^ 32
    (q.modSdl (fun u => { u with slewSet := off != 0, slewLeft := left, slewAt := t })).setRates p.sdl.baseRate
      (setTimeSlew p.sdl.baseRate left)

/-- The compare in use of a timer. -/
def Part.tmrCmp (p : Part) (i : Nat) : Nat := p.get64 (F.SDL_TMR_CMP_LO_CMP_LO i) (F.SDL_TMR_CMP_HI_CMP_HI i)

/-- The owner of a timer (R62). -/
def Part.tmrOwner (p : Part) (i : Nat) : Nat := p.get (F.SDL_TMR_OWNER_PLOT i)

/-- The period a timer acts on: 1 to 999 act as 1 000 (R63). -/
def tmrPeriod (n : Nat) : Nat := if n = 0 then 0 else if n < 1000 then 1000 else n

/-- Periods by which CMP advances until it is above the Sundial (R63). -/
def tmrAdvance (cmp t period : Nat) : Nat := (t - cmp) / period + 1

/-- Capture a GPIO edge, or lose it when the queue of 32 is full (R55, SDL_EVENTS.CAP_OVF). -/
def Part.capture (p : Part) (c : Capture) : Part :=
  if p.sdl.caps.length < 32 then p.modSdl (fun u => { u with caps := u.caps ++ [c] }) else p.set F.SDL_EVENTS_CAP_OVF

/-- R60's conditions at the loss of lock: four hours of lock before it, and a valid curve. -/
def Part.boundStarts (p : Part) (t : Nat) : Bool :=
  decide (4 * 3600000000000 ≤ t - p.sdl.lockedAt) && p.on F.SDL_STATUS_CURVE_VALID && !p.pins.refLost

/-- No port remains in the SLAVE state: LOCKED clears, and holdover begins (R58, R60). -/
def Part.lockLost (p : Part) (t : Nat) : Part :=
  let was := p.on F.SDL_STATUS_LOCKED
  let ok := p.boundStarts t
  (p.clr F.SDL_STATUS_LOCKED).iff was (fun r =>
    let r := ((r.set F.SDL_STATUS_HOLDOVER).set F.SDL_EVENTS_LOCK_LOST).put F.SDL_STATUS_HOLD_BOUNDED (if ok then 1 else 0)
    r.modSdl (fun u =>
      { u with
        rLock := u.baseRate, lostAt := t, boundedSoFar := ok, withinSince := none,
        tLock := (u.temps.head?.map (fun (x : Nat × Int) => x.2)).getD u.tLock }))

/-- Return to holdover rates after a reset: LOCKED clears, and the slew ends (R608). -/
def Part.sdlAfterReset (p : Part) (t : Nat) : Part :=
  let q := p.lockLost t
  (q.modSdl (fun u => { u with
    slewSet := false, slewLeft := 0, withinSince := none, ptp := [.initializing, .initializing] })).setRates q.sdl.baseRate 0

end Sys2Proof.Machine
end

