-- ==== Sys2Proof/Machine/Ledger.lean ====
section
/-! DEFINITION. The boot ledger (R98 to R101, R692): its two halves, committed records, the next free slot, writing a record,
and the state of a slot's image that the ledger gives (R109). -/

namespace Sys2Proof.Machine

/-- Address of record `i` of half `h`. -/
def ledAddr (h i : Nat) : Nat := 0x2010000 + h * 0x8000 + i * 64

/-- A record is committed: COMMIT is 0 and the CRC matches (R99). -/
def Part.ledCommitted (p : Part) (a : Nat) : Bool :=
  let r := p.norRd a
  r.u32 0x3C == 0 && Crypto.crc32 (r.bytes 0 0x38) == r.u32 0x38

/-- All 64 bytes of a record slot are erased. -/
def Part.ledErased (p : Part) (a : Nat) : Bool := (List.range 64).all (fun i => p.norByte (a + i) == 0xFF)

/-- SEQ of a record. -/
def Part.ledSeq (p : Part) (a : Nat) : Nat := (p.norRd a).u32 0

/-- The committed records of a half. -/
def Part.ledHalf (p : Part) (h : Nat) : List Nat := ((List.range 512).map (ledAddr h)).filter p.ledCommitted

/-- The highest SEQ in a half; 0 when it holds no committed record. -/
def Part.ledTop (p : Part) (h : Nat) : Nat := (p.ledHalf h).foldl (fun m a => max m (p.ledSeq a)) 0

/-- SEQ of the last committed record; 0 when there is none (SHD_LEDGER_SEQ). -/
def Part.ledLast (p : Part) : Nat := max (p.ledTop 0) (p.ledTop 1)

/-- The active half: the one with the highest committed SEQ; half 0 when neither holds one (R98). -/
def Part.ledActive (p : Part) : Nat := if p.ledTop 0 < p.ledTop 1 then 1 else 0

/-- Place of the last committed record of a half, plus one; 0 when it has none. -/
def Part.ledAfter (p : Part) (h : Nat) : Nat :=
  (List.range 512).foldl (fun m i => if p.ledCommitted (ledAddr h i) then i + 1 else m) 0

/-- The first erased slot of a half at or after place `n`. -/
def Part.ledFree (p : Part) (h n : Nat) : Option Nat :=
  (List.range 512).find? (fun i => decide (n ≤ i) && p.ledErased (ledAddr h i))

/-- The first 0x38 bytes of a ledger record (R99). -/
def ledBody (seq kind slot flags code time imageSeq cust : Nat) (detail : List Byte) : List Byte :=
  toLe 4 seq ++ toLe 1 kind ++ toLe 1 slot ++ toLe 1 flags ++ toLe 1 code ++ toLe 8 time ++ toLe 4 imageSeq ++
    toLe 4 cust ++ (detail ++ List.replicate 32 0).take 32

/-- Program a record at a slot, COMMIT last (R99). -/
def Part.ledPut (p : Part) (t a kind slot code imageSeq cust : Nat) (detail : List Byte) : Part :=
  let seq := p.ledLast + 1
  let b := ledBody seq kind slot (if p.on F.SDL_STATUS_TIME_VALID then 1 else 0) code t imageSeq cust detail
  ((p.program a (b ++ toLe 4 (Crypto.crc32 b))).program (a + 0x3C) (toLe 4 0)).put F.SHD_LEDGER_SEQ_SEQ seq

/-- Write a ledger record (R98): into the active half's next slot, or, when it is full, after erasing the other half and
writing LEDGER_HALF there; nothing once SEQ has reached 0xFFFF_FFFF (R692). -/
def Part.ledger (p : Part) (t kind slot code imageSeq cust : Nat) (detail : List Byte) : Part :=
  let h := p.ledActive
  if p.ledLast = 0xFFFFFFFF then p
  else
    match p.ledFree h (p.ledAfter h) with
    | some i => p.ledPut t (ledAddr h i) kind slot code imageSeq cust detail
    | none =>
      if p.ledLast = 0 then
        (p.eraseNor (ledAddr 0 0) 0x8000).ledPut t (ledAddr 0 0) kind slot code imageSeq cust detail
      else
        let o := 1 - h
        let q := (p.eraseNor (ledAddr o 0) 0x8000).ledPut t (ledAddr o 0) 0x0C 0xFF o 0 0 []
        if q.ledLast = 0xFFFFFFFF then q else q.ledPut t (ledAddr o 1) kind slot code imageSeq cust detail

/-- The committed records of the whole ledger in rising SEQ order. -/
def Part.ledAll (p : Part) : List Nat :=
  if p.ledActive = 0 then p.ledHalf 1 ++ p.ledHalf 0 else p.ledHalf 0 ++ p.ledHalf 1

/-- Base of slot 0 (A) or 1 (B). -/
def slotBase (s : Nat) : Nat := s * 0x1000000

/-- The header checks 0x01 and 0x02 (R97): the code and offset of the first that fails. -/
def headerCheck (r : Rd) : Option (Nat × Nat) :=
  if r.bytes 0 4 ≠ [0x42, 0x53, 0x4F, 0x50] then some (0x01, 0)
  else if r.u16 4 ≠ 1 then some (0x01, 4)
  else if r.u16 6 ≠ 0x40 then some (0x01, 6)
  else if r.imageLen % 64 ≠ 0 ∨ r.imageLen < 0x100 ∨ 0x1000000 < r.imageLen then some (0x02, 8)
  else none

/-- The slot holds no image (R109). -/
def Part.slotEmpty (p : Part) (s : Nat) : Bool :=
  let r := p.norRd (slotBase s)
  p.boot.noImages || (headerCheck r).isSome || r.imageSeq == 0 || r.imageSeq == 0xFFFFFFFF

/-- The state that one record gives an image, if it changes it (R109): 2 PASSED, 3 SPURNED. -/
def Part.ledVerdict (p : Part) (a slot seq : Nat) : Option Nat :=
  let r := p.norRd a
  let kind := r.u8 4
  let named := r.u8 5 = slot ∧ r.u32 0x10 = seq
  if kind = 6 ∧ named then some 2
  else if (kind = 7 ∨ kind = 8) ∧ named then some 3
  else if kind = 9 ∧ r.u32 0x18 = seq ∧ r.u8 5 ≠ slot then some 3
  else none

/-- The state of a slot's image: 0 EMPTY, 1 NEW, 2 PASSED, 3 SPURNED (R109). -/
def Part.slotState (p : Part) (s : Nat) : Nat :=
  if p.slotEmpty s then 0
  else
    let seq := (p.norRd (slotBase s)).imageSeq
    p.ledAll.foldl (fun st a => (p.ledVerdict a s seq).getD st) 1

/-- Put the slots' states and sequence numbers into SHD_SLOTS and SHD_SLOT_x_SEQ. -/
def Part.showSlots (p : Part) : Part :=
  let seq := fun s => if p.slotEmpty s then 0 else (p.norRd (slotBase s)).imageSeq
  (((p.put F.SHD_SLOTS_A_STATE (p.slotState 0)).put F.SHD_SLOTS_B_STATE (p.slotState 1)).put
    F.SHD_SLOT_A_SEQ_IMAGE_SEQ (seq 0)).put F.SHD_SLOT_B_SEQ_IMAGE_SEQ (seq 1)

/-- HARDENING_START records of an image that have no outcome record after them (R126). -/
def Part.interrupted (p : Part) (slot seq : Nat) : Nat :=
  p.ledAll.foldl (fun n a =>
    let r := p.norRd a
    if r.u8 4 = 5 ∧ r.u8 5 = slot ∧ r.u32 0x10 = seq then n + 1
    else if (p.ledVerdict a slot seq).isSome then 0 else n) 0

end Sys2Proof.Machine
end

