-- ==== Sys2Proof/Machine/ImageTable.lean ====
section
/-! DEFINITION. The image checks of codes 0x03 to 0x08 (R97): revision and signature, the section table, placement, required
sections and reserved fields. Within one code the checks run in rising order of section, record and field (assumption 57). -/

namespace Sys2Proof.Machine

/-- A check: whether it fails, and the image offset of the item it judges. -/
abbrev Chk := Bool × Nat

/-- The first of a list of checks that fails, with its code. -/
def firstFail (code : Nat) (l : List Chk) : Option (Nat × Nat) := (l.find? (·.1)).map (fun c => (code, c.2))

/-- The revision code of B1 (R11). -/
def revCode : Nat := 0xB1

/-- Checks 0x03 and 0x04 (R12, R74, R78). -/
def signedCheck (r : Rd) : Option (Nat × Nat) :=
  let n := r.imageLen
  if revCode < r.minRev ∨ r.maxRev < revCode then some (0x03, 0x18)
  else if r.minRom ≠ 0 ∧ Config.romVersion.toNat < r.minRom then some (0x03, 0x1C)
  else if !Crypto.ed25519Verify (Config.keyBytes Config.imageKey) (r.bytes 0 (n - 64)) (r.bytes (n - 64) 64) then
    some (0x04, n - 64)
  else none

/-- Checks 0x01 to 0x04, which STAGE_END runs (R116). -/
def headChecks (r : Rd) : Option (Nat × Nat) := (headerCheck r).or (signedCheck r)

namespace Rd

/-- 0x05: SECTION_COUNT, an unknown or repeated TYPE, VERSION (R74 to R76). -/
def tableChecks (r : Rd) : List Chk :=
  let n := r.sectionCount
  (n == 0 || decide (13 < n), 0x0C) :: r.entries.flatMap (fun i =>
    [(r.secType i == 0 || decide (13 < r.secType i), entry i),
     ((List.range i).any (fun j => r.secType j == r.secType i), entry i),
     (r.secVersion i != 1, entry i + 2)])

/-- Bytes that a section's records take (R76, R95). -/
def recBytes (r : Rd) (i : Nat) : Nat :=
  let ty := r.secType i
  if ty = 6 then ((r.recs 6).map r.pipeLen).sum
  else if ty = 7 then ((r.recs 7).map r.modelLen).sum
  else if ty = 12 then 16 + 16 * r.secCount i
  else recSize ty * r.secCount i

/-- Stages of a pipeline record, by offset. -/
def stagesOf (r : Rd) (o : Nat) : List Nat := (List.range (r.u8 (o + 7))).map (fun i => o + 64 + 16 * i)
/-- Layers of a model record, by offset. -/
def layersOf (r : Rd) (o : Nat) : List Nat := (List.range (r.u16 (o + 4))).map (fun i => o + 64 + 64 * i)

/-- What a record locates in its section's data area: the field's offset, the item's offset and length, and the multiple that
the field states (R85, R87, R90, R91, R96, R696). -/
def items (r : Rd) (ty o : Nat) : List (Nat × Nat × Nat × Nat) :=
  if ty = 4 then (if r.u8 (o + 2) = 1 then [(o + 0x20, r.u32 (o + 0x20), r.u16 (o + 0x24) + 1, 1)] else [])
  else if ty = 6 then (r.stagesOf o).flatMap (fun s =>
    let kind := r.u8 s
    let p1 := r.u32 (s + 8)
    let p2 := r.u32 (s + 12)
    if kind = 0 ∨ kind = 3 ∨ (kind = 2 ∧ (p1 ≠ 0 ∨ p2 ≠ 0)) then [(s + 8, p1, p2, 8)] else [])
  else if ty = 8 then (if r.u8 (o + 3) = 0 then [(o + 8, r.u32 (o + 8), r.u32 (o + 4), 4)] else [])
  else if ty = 9 then [(o + 4, r.u32 (o + 4), r.u32 (o + 8), 8)]
  else if ty = 13 then [(o + 0x10, r.u32 (o + 0x10), r.u32 (o + 0x0C), 64)]
  else []

/-- The end of the section table, rounded up to 64 (R75). -/
def tableEnd (r : Rd) : Nat := up (0x40 + 16 * r.sectionCount) 64

/-- Where the bytes before section `i` end: the table or the section before. -/
def before (r : Rd) (i : Nat) : Nat :=
  if i = 0 then 0x40 + 16 * r.sectionCount else r.secOffset (i - 1) + r.secLength (i - 1)

/-- The first byte from `a` on, before `b`, that is not 0. -/
def fillBad (r : Rd) (a b : Nat) : Chk :=
  match r.nonzeroAt a (b - a) with
  | some o => (true, o)
  | none => (false, a)

/-- 0x06: placement (R75, R76, R696, R691). -/
def placeChecks (r : Rd) : List Chk :=
  let last := r.imageLen - 64
  let es := r.entries
  let table := es.flatMap (fun i =>
    [(r.secOffset i % 64 != 0, entry i + 4),
     (i != 0 && decide (r.secOffset i ≤ r.secOffset (i - 1)), entry i + 4),
     (decide (r.secOffset i < (if i = 0 then r.tableEnd else r.before i)), r.secOffset i),
     (decide (last < r.secOffset i + r.secLength i), r.secOffset i)])
  let fill := es.map (fun i => r.fillBad (r.before i) (r.secOffset i)) ++ [r.fillBad (r.before es.length) last]
  let inside := es.flatMap (fun i =>
    let ty := r.secType i
    let b := r.secOffset i
    let walked := if ty = 6 then (r.recs 6).flatMap (fun o =>
        [(decide (r.secLength i < o - b + 64 ∨ r.u16 o < 64 ∨ r.secLength i < o - b + r.u16 o), o)])
      else if ty = 7 then (r.recs 7).flatMap (fun o => [(decide (r.secLength i < o - b + 64 ∨ r.secLength i < o - b + r.modelLen o), o)])
      else []
    let n := r.recBytes i
    walked ++ [(decide (r.secLength i < n), b)] ++ (r.recs ty).flatMap (fun o => (r.items ty o).map (fun x =>
      (decide (x.2.1 < n ∨ r.secLength i < x.2.1 + x.2.2.1) || x.2.1 % x.2.2.2 != 0, x.1))))
  (decide (last < 0x40 + 16 * r.sectionCount), 0x40) :: (table ++ fill ++ inside)

/-- 0x07: PLATFORM, DRAM, PLOTS and HARDENING are there (R76). -/
def requiredChecks (r : Rd) : List Chk := [1, 2, 3, 12].map (fun ty => ((r.sec ty).isNone, 0))

/-! 0x08: reserved fields and bits (R77). A field that the applying meaning gives no use counts as reserved (assumption 58). -/

/-- Bytes `o` to `o + n - 1` are 0. -/
def rz (r : Rd) (o n : Nat) : Chk := r.fillBad o (o + n)
/-- Byte `o` has no bit outside `mask`. -/
def rb (r : Rd) (o mask : Nat) : Chk := ((r.u8 o &&& mask) != r.u8 o, o)
/-- Where a condition holds, bytes `o` to `o + n - 1` are 0. -/
def rzIf (r : Rd) (c : Bool) (o n : Nat) : Chk := if c then r.rz o n else (false, o)

/-- Reserved parts of a Pruner parameter block (R234, R235). -/
def rsvPruner (r : Rd) (o : Nat) : List Chk :=
  let mono := r.u8 o == 1
  [r.rz (o + 0x1E) 2, r.rzIf mono (o + 0x24) 8, r.rzIf mono (o + 0x30) 8, r.rzIf mono (o + 0x3C) 8, r.rzIf mono (o + 0x46) 4,
   r.rz (o + 0x4A) 2, r.rzIf (r.u8 o == 0) (o + 0x4C) 12, r.rz (o + 0x58) 40] ++
    (List.range (r.u16 (o + 0x1C))).map (fun i => r.rz (o + 0x80 + 16 * i + 13) 3)

/-- Reserved parts of a pipeline record (R87, R587). -/
def rsvPipe (r : Rd) (o : Nat) : List Chk :=
  let base := (r.base 6).getD 0
  let be := r.u8 (o + 4) == 1
  let rt := r.u8 (o + 4) == 0
  [r.rzIf be (o + 8) 4, r.rzIf rt (o + 0x0F) 1, r.rz (o + 0x1A) 38] ++ (r.stagesOf o).flatMap (fun s =>
    let k := r.u8 s
    let b := base + r.u32 (s + 8)
    [r.rz (s + 1) 1, r.rzIf (k == 0 || k == 3) (s + 2) 2, r.rzIf (k == 1 || k == 2 || k == 4) (s + 4) 4,
     r.rzIf (k == 1 || k == 4) (s + 8) 8] ++
      (if k = 0 then r.rsvPruner b else if k = 3 then [r.rb (b + 6) 0x0F, r.rz (b + 7) 1, r.rz (b + 0x28) 24] else []))

/-- Reserved parts of a record of a section (R81 to R96). -/
def rsvRec (r : Rd) (ty o : Nat) : List Chk :=
  if ty = 1 then
    [r.rb (o + 6) 1, r.rb (o + 7) 1, r.rb (o + 12) 0x0F, r.rb (o + 13) 3, r.rz (o + 0x13) 13] ++
      [o + 0x20, o + 0x50].flatMap (fun b => [r.rz (b + 0x0A) 2, r.rz (b + 0x29) 7])
  else if ty = 2 then [r.rz (o + 0x0B) 5]
  else if ty = 3 then
    [r.rb (o + 1) 7, r.rz (o + 6) 2, r.rz (o + 0x1B) 1, r.rz (o + 0x1F) 1, r.rz (o + 0x23) 1, r.rz (o + 0x27) 1,
     r.rz (o + 0x55) 3, r.rz (o + 0x68) 24]
  else if ty = 4 then
    let src := r.u8 (o + 2)
    let known := decide (src ≤ 2)
    [r.rzIf (known && src != 0) (o + 4) 3, r.rzIf (src == 0) (o + 7) 1, r.rzIf (src == 0) (o + 0x10) 4,
     r.rzIf (known && src != 2) (o + 0x18) 7, r.rz (o + 0x1F) 1, r.rzIf (known && src != 1) (o + 0x20) 6, r.rz (o + 0x26) 26]
  else if ty = 5 then [r.rz (o + 0x0D) 3]
  else if ty = 6 then r.rsvPipe o
  else if ty = 7 then
    [r.rzIf (r.u8 (o + 3) == 1) (o + 0x10) 8, r.rz (o + 0x1C) 4, r.rz (o + 0x30) 16] ++ (r.layersOf o).map (fun l => r.rb (l + 0x1B) 1)
  else if ty = 8 then
    [r.rzIf (r.u8 (o + 3) == 1) (o + 8) 4, r.rzIf (r.u8 (o + 3) == 0) (o + 0x10) 12, r.rz (o + 0x1D) 3]
  else if ty = 9 then [r.rb (o + 3) 1, r.rz (o + 0x14) 12]
  else if ty = 10 then
    let act := r.ruleAction o
    [(r.ruleTrigger o == 3 && decide (15 < r.ruleParam o), o + 4), r.rz (o + 0x15) 3,
     r.rzIf (decide (act ≤ 3) || act == 8) (o + 0x18) 4, r.rz (o + 0x1C) 4]
  else if ty = 11 then [r.rz (o + 1) 3, r.rz (o + 0x1C) 4]
  else if ty = 12 then [r.rz (o + 8) 8]
  else [r.rz (o + 1) 3, r.rz (o + 0x14) 12]

/-- 0x08: the header's reserved fields, then each section's in its order. -/
def reservedChecks (r : Rd) : List Chk :=
  [r.rz 0x0E 2, r.rz 0x1A 2, r.rz 0x38 8] ++ r.entries.flatMap (fun i =>
    let ty := r.secType i
    (if ty = 12 then [r.rb (r.hard + 5) 1, r.rz (r.hard + 6) 10] else []) ++ (r.recs ty).flatMap (r.rsvRec ty))

end Rd

end Sys2Proof.Machine
end

