-- ==== Sys2Proof/Machine/ImageRanges.lean ====
section
/-! DEFINITION. The image checks of code 0x09 (R97): ranges, repeated IDs, strings without their NUL, and the rules that name
the code. -/

namespace Sys2Proof.Machine

/-- A value outside `lo` to `hi`. -/
def off (v lo hi : Nat) : Bool := decide (v < lo) || decide (hi < v)

/-- A repeated ID: each record's ID and offset, in order (R97). -/
def repeats (l : List (Nat × Nat)) : List Chk :=
  ((List.range l.length).zip l).map (fun e => ((l.take e.1).any (fun x => x.1 == e.2.1), e.2.2))

namespace Rd

/-- The records' IDs of a section, as the byte or, with `wide`, the 16 bits at `at_`. -/
def idsAt (r : Rd) (ty at_ : Nat) (wide : Bool) : List (Nat × Nat) :=
  (r.recs ty).map (fun o => (if wide then r.u16 (o + at_) else r.u8 (o + at_), o + at_))

/-- A NUL-padded field of 16 bytes lacks its NUL (R97). -/
def noNul (r : Rd) (o : Nat) : Chk := ((List.range 16).all (fun i => r (o + i) != 0), o)

/-- COUNT of a section outside its range (R76). -/
def countBad (r : Rd) (i : Nat) : Chk :=
  let b := match r.secType i with
    | 1 => (1, 1) | 2 => (1, 1) | 3 => (1, 8) | 4 => (0, 128) | 5 => (0, 32) | 6 => (0, 64) | 7 => (0, 256) | 8 => (0, 1024)
    | 9 => (0, 64) | 10 => (0, 512) | 11 => (0, 8) | 12 => (0, 32) | _ => (0, 3)
  (off (r.secCount i) b.1 b.2, entry i + 12)

/-- PLATFORM (R81, R518). -/
def rngPlatform (r : Rd) (o : Nat) : List Chk :=
  let ports := r.u8 (o + 13)
  [(r.u16 (o + 4) != 0 && off (r.u16 (o + 4)) 10 60000, o + 4),
   (ports != 0 && r.u8 (o + 15) == 1, o + 13),
   (ports != 0 && decide (r.u8 (o + 15) ≤ r.u8 (o + 14)), o + 14),
   (ports != 0 && off (r.u8 (o + 15)) 1 4, o + 15),
   (decide (1 < r.u8 (o + 0x10)), o + 0x10), (decide (2 < r.u8 (o + 0x11)), o + 0x11)] ++
    [o + 0x20, o + 0x50].flatMap (fun b =>
      [(decide (3 < r.u8 b), b), (decide (2 < r.u8 (b + 1)), b + 1), (decide (4094 < r.u16 (b + 2)), b + 2)])

/-- DRAM (R82, R450). -/
def rngDram (r : Rd) (o : Nat) : List Chk :=
  let gib := r.u16 o
  [(!(gib == 4 || gib == 8 || gib == 16 || gib == 32 || gib == 64), o), (off (r.u8 (o + 2)) 1 2, o + 2),
   (decide (3 < r.u8 (o + 3)), o + 3), (gib != 4 * 2 ^ r.u8 (o + 3) * r.u8 (o + 2), o),
   (!(r.u16 (o + 4) == 6400 || r.u16 (o + 4) == 7500 || r.u16 (o + 4) == 8533), o + 4),
   (r.u8 (o + 6) != 0 && off (r.u8 (o + 6)) 8 14, o + 6), (decide (1 < r.u8 (o + 7)), o + 7),
   (decide (168 < r.u16 (o + 8)), o + 8), (decide (1 < r.u8 (o + 10)), o + 10)]

/-- A plot record (R83, R496). -/
def rngPlot (r : Rd) (o : Nat) : List Chk :=
  [(off (r.u8 o) 1 8, o), (r.u8 (o + 1) / 4 % 2 == 1 && !r.nvmeOn, o + 1),
   (r.u8 (o + 1) / 2 % 2 == 1 && r.portIp (r.u8 (o + 0x54) % 2) == 0, o + 1),
   (decide (256 < r.u8 (o + 3) + r.u8 (o + 4)), o + 3), (decide (64 < r.u8 (o + 4)), o + 4), (off (r.u8 (o + 5)) 1 8, o + 5),
   (r.u32 (o + 8) == 0, o + 8)] ++
    (List.range 4).map (fun i =>
      let e := o + 0x18 + 4 * i
      (r.u8 e != 0xFF && (decide (63 < r.u8 e) || decide (47 < r.u8 (e + 2)) || decide (r.u8 (e + 2) < r.u8 (e + 1))), e)) ++
    [(decide (1 < r.u8 (o + 0x54)), o + 0x54), r.noNul (o + 0x58)]

/-- A stream record (R85). -/
def rngStream (r : Rd) (o : Nat) : List Chk :=
  let src := r.u8 (o + 2)
  let url := (r.base 4).getD 0 + r.u32 (o + 0x20) + r.u16 (o + 0x24)
  [(decide (127 < r.u8 o), o), (off (r.u8 (o + 1)) 1 8, o + 1), (decide (2 < src), o + 2),
   (decide (2 < r.u8 (o + 3)) || (src == 0) != (r.u8 (o + 3) == 0), o + 3), (decide (7 < r.u8 (o + 4)), o + 4),
   (decide (3 < r.u8 (o + 5)), o + 5), (decide (2 < r.u8 (o + 6)), o + 6), (decide (1 < r.u8 (o + 7)), o + 7),
   (decide (4096 < r.u16 (o + 8)), o + 8), (decide (2176 < r.u16 (o + 10)), o + 10), (r.u32 (o + 0x14) % 4096 != 0, o + 0x14),
   (src == 1 && off (r.u16 (o + 0x24)) 1 255, o + 0x24), (src == 1 && r url != 0, o + 0x20)]

/-- An alignment set record (R86, R487). -/
def rngSet (r : Rd) (o : Nat) : List Chk :=
  let n := r.u8 (o + 2)
  let member := fun (x i : Nat) => r.u8 (x + 4 + i)
  let others := fun (x : Nat) => ((List.range (min (r.u8 (x + 2)) 4)).filter (· != r.u8 (x + 3))).map (member x)
  let sets := fun (s : Nat) => ((r.recs 5).filter (fun x => (others x).contains s)).length
  [(decide (31 < r.u8 o), o), (off (r.u8 (o + 1)) 1 8, o + 1), (off n 2 4, o + 2), (decide (n ≤ r.u8 (o + 3)), o + 3)] ++
    (List.range 4).map (fun i => (if i < n then decide (127 < member o i) else member o i != 0xFF, o + 4 + i)) ++
    [((others o).any (fun s => decide (4 < sets s)), o + 4), (off (r.u32 (o + 8)) 1 100000000, o + 8),
     (decide (1 < r.u8 (o + 12)), o + 12)]

/-- Drill bytes of a Pruner block with samples of height `ho` (R250). -/
def drillBytes (r : Rd) (b ho : Nat) : Nat := 0x440 + (if r.u8 b = 1 then 1 else 3) * ho * r.u16 (b + 8)

/-- A Pruner parameter block at `b`, for stage offset `s` of the pipeline record at `o` (R234, R236, R243, R254). -/
def rngPruner (r : Rd) (o s b : Nat) : List Chk :=
  let wo := r.u16 (s + 4)
  let ho := r.u16 (s + 6)
  let k := r.u8 (o + 2)
  let fmt := r.u8 (b + 1)
  let n := r.u16 (b + 0x1C)
  let size := 0x80 + 16 * n + (if r.u8 (b + 5) = 1 then 2048 else 0)
  let used := List.range (if r.u8 b = 1 then 1 else 3)
  let zp := fun c => sext 16 (r.u16 (b + 0x44 + 2 * c))
  let range : Int × Int := if fmt = 1 then (-128, 127) else if fmt = 2 then (0, 255) else (0, 0)
  let coef := b + 0x80 + 16 * n
  let phase := fun (i : Nat) => ((List.range 8).map (fun t => sext 16 (r.u16 (coef + 16 * i + 2 * t)))).sum
  [(wo == 0 || ho == 0, s + 4), (decide (r.u32 (s + 12) < size), s + 12), (decide (1 < r.u8 b), b), (off fmt 1 4, b + 1),
   (decide (1 < r.u8 (b + 2)), b + 2), (decide (1 < r.u8 (b + 3)), b + 3), (decide (1 < r.u8 (b + 4)), b + 4),
   (decide (1 < r.u8 (b + 5)), b + 5), (decide (1 < r.u8 (b + 6)), b + 6), (decide (1 < r.u8 (b + 7)), b + 7),
   (off (r.u16 (b + 8)) 32 4096 || r.u16 (b + 8) % 32 != 0 || decide (r.u16 (b + 8) < up wo 32), b + 8),
   (decide (15 < r.u8 (b + 10)), b + 10), (off (r.u8 (b + 11)) 2 16, b + 11), (decide (10000000 < r.u32 (b + 12)), b + 12),
   (r.u64 (b + 0x10) % 64 != 0, b + 0x10),
   (r.u32 (b + 0x18) % 64 != 0 || decide (r.u32 (b + 0x18) < r.drillBytes b ho), b + 0x18),
   (off n 1 (r.u16 (o + 0x18)) || (r.u8 (b + 6) == 1 && n != 1), b + 0x1C)] ++
    used.flatMap (fun c =>
      [(!f32Finite (r.u32 (b + 0x2C + 4 * c)) || r.u32 (b + 0x2C + 4 * c) % 2 ^ 31 == 0, b + 0x2C + 4 * c),
       (!f32Finite (r.u32 (b + 0x38 + 4 * c)) || r.u32 (b + 0x38 + 4 * c) == 0 || decide (2 ^ 31 ≤ r.u32 (b + 0x38 + 4 * c)),
        b + 0x38 + 4 * c),
       (decide (zp c < range.1) || decide (range.2 < zp c), b + 0x44 + 2 * c)]) ++
    (List.range n).map (fun i =>
      (!r.cropOk k ((s - o - 64) / 16) (cropAt r (b + 0x80 + 16 * i)), b + 0x80 + 16 * i)) ++
    (if r.u8 (b + 5) = 1 then (List.range 128).map (fun i => (phase i != 1024, coef + 16 * i)) else [])

/-- A binary32 value is at most another. -/
def f32Le (a b : Nat) : Bool := (f32 a).le (f32 b)

/-- A tracker parameter block at `b` (R578, R587). -/
def rngTracker (r : Rd) (o s b : Nat) : List Chk :=
  [(decide (1 < r.u32 (s + 4)) || (r.u32 (s + 4) == 1 && r.u64 (o + 0x10) == 0), s + 4), (r.u32 (s + 12) != 64, s + 12),
   (off (r.u16 b) 1 1024, b), (off (r.u16 (b + 2)) 1 1024, b + 2), (off (r.u8 (b + 4)) 1 16, b + 4), (r.u8 (b + 5) == 0, b + 5),
   (r.u8 (b + 6) / 4 % 2 == 1 && r.u8 (o + 0x0E) != 1, b + 6),
   (!(f32Le 0 (r.u32 (b + 8)) && f32Le (r.u32 (b + 8)) f32One), b + 8)] ++
    [b + 0x0C, b + 0x10, b + 0x14].map (fun x => (!(f32 0).lt (f32 (r.u32 x)), x)) ++
    [(!(f32Le f32One (r.u32 (b + 0x18)) && f32Le (r.u32 (b + 0x18)) 0x40800000), b + 0x18),
     (off (r.u16 (b + 0x1C)) 1 (r.u16 (o + 0x18)), b + 0x1C), (r.u64 (b + 0x20) % 16 != 0, b + 0x20)]

/-- Stages of the image's pipelines: record and stage offset. -/
def allStages (r : Rd) : List (Nat × Nat) := (r.recs 6).flatMap (fun o => (r.stagesOf o).map (fun s => (o, s)))

/-- The block of a stage at offset `s`. -/
def blockOf (r : Rd) (s : Nat) : Nat := (r.base 6).getD 0 + r.u32 (s + 8)

/-- Two Pruner stages of a group differ in what R248 wants equal, or one is BANDED, or different models follow them. -/
def groupDiffers (r : Rd) (x y : Nat × Nat) : Bool :=
  let a := r.blockOf x.2
  let b := r.blockOf y.2
  let next := fun (z : Nat × Nat) => if z.2 + 16 < z.1 + 64 + 16 * r.u8 (z.1 + 7) then (r.u8 (z.2 + 16), r.u16 (z.2 + 18)) else (0xFF, 0)
  r.u32 (x.2 + 4) != r.u32 (y.2 + 4) || r.u16 a != r.u16 b || r.u8 (a + 6) != 0 || r.u8 (b + 6) != 0 ||
    r.u8 (a + 7) != r.u8 (b + 7) || r.u16 (a + 8) != r.u16 (b + 8) || r.u8 (a + 11) != r.u8 (b + 11) ||
    r.u32 (a + 12) != r.u32 (b + 12) || r.u64 (a + 0x10) != r.u64 (b + 0x10) || r.u32 (a + 0x18) != r.u32 (b + 0x18) ||
    (next x).1 != 1 || next x != next y

/-- A pipeline record (R87, R248, R691). -/
def rngPipe (r : Rd) (o : Nat) : List Chk :=
  let n := r.u8 (o + 7)
  let cls := r.u8 (o + 4)
  [(r.u16 o != 64 + 16 * n, o), (decide (63 < r.u8 (o + 2)), o + 2), (off (r.u8 (o + 3)) 1 8, o + 3), (decide (1 < cls), o + 4),
   (decide (1 < r.u8 (o + 5)), o + 5), (off n 1 16, o + 7), (decide (1 < r.u8 (o + 0x0C)), o + 0x0C),
   (r.u8 (o + 0x0D) == 0, o + 0x0D), (decide (1 < r.u8 (o + 0x0E)), o + 0x0E), (decide (7 < r.u8 (o + 0x0F)), o + 0x0F),
   (off (r.u16 (o + 0x18)) 1 256, o + 0x18)] ++ (r.stagesOf o).flatMap (fun s =>
    let k := r.u8 s
    let b := r.blockOf s
    (decide (4 < k), s) :: (if k = 0 then
        r.rngPruner o s b ++ [(r.allStages.any (fun y => r.u8 y.2 == 0 && y.2 != s && r.u8 (y.1 + 3) == r.u8 (o + 3) &&
          r.u8 (r.blockOf y.2 + 10) == r.u8 (b + 10) && r.groupDiffers (o, s) y), b + 10)]
      else if k = 3 then r.rngTracker o s b else []))

/-- The formats that layer 0 of model `m` can receive: what the stage right before each stage that names it puts out (R315). -/
def firstFmts (r : Rd) (m : Nat) : List Nat :=
  r.allStages.flatMap (fun x =>
    if r.u8 x.2 = 1 ∧ r.u16 (x.2 + 2) = m ∧ x.1 + 64 < x.2 then
      let s := x.2 - 16
      if r.u8 s = 0 then [r.u8 (r.blockOf s + 1)]
      else if r.u8 s = 1 then [r.layerAfmt (r.u16 (s + 2)) (r.modelLayers (r.u16 (s + 2)) - 1)]
      else []
    else [])

/-- A model record (R88, R318, R320, R373). -/
def rngModel (r : Rd) (o : Nat) : List Chk :=
  let m := r.u16 o
  let ls := r.layersOf o
  let wide := fun (f : Nat) => if r.u8 (o + 6) = 0 then [f] else f :: (wideFmt f).toList
  let fmts := fun (i : Nat) => if i = 0 then r.firstFmts m else wide (r.u8 (o + 64 + 64 * (i - 1) + 0x19))
  let spanOf := fun (i : Nat) => ((List.range i).filter (fun j => r.u8 (o + 64 + 64 * (j + 1) + 0x1B) % 2 == 1)).length
  let of := r.u16 (o + 0x1A)
  let graft := match if of = 0xFFFF then none else r.modelRec of with
    | none => false
    | some x =>
      let kin := (r.recs 7).filter (fun y => y != o && (r.u16 y == of || r.u16 (y + 0x1A) == of || r.u16 (y + 0x1A) == m) &&
        r.u8 (y + 0x19) != 0)
      let banks := (List.range (r.u8 (o + 0x19))).map (r.u8 (o + 0x18) + ·)
      r.u8 (o + 3) == 1 || r.u8 (x + 3) == 1 || r.u8 (o + 2) != r.u8 (x + 2) || r.u64 (o + 0x10) != r.u64 (x + 0x10) ||
        r.u16 (o + 4) != r.u16 (x + 4) || r.u8 (o + 0x19) == 0 ||
        (bedsOf (r.u64 (o + 0x10))).any (fun b => banks.any (fun j => !r.ownsBank (r.u8 (o + 2)) b j)) ||
        kin.any (fun y => decide (r.u8 (o + 0x18) < r.u8 (y + 0x18) + r.u8 (y + 0x19) ∧
          r.u8 (y + 0x18) < r.u8 (o + 0x18) + r.u8 (o + 0x19)))
  [(off (r.u8 (o + 2)) 1 8, o + 2), (decide (1 < r.u8 (o + 3)), o + 3), (off (r.u16 (o + 4)) 1 1024, o + 4),
   (decide (15 < r.u8 (o + 6)), o + 6), (decide (1 < r.u8 (o + 7)), o + 7),
   (decide (48 < r.u8 (o + 0x18) + r.u8 (o + 0x19)), o + 0x18), (graft, o + 0x1A), r.noNul (o + 0x20)] ++
    ((List.range ls.length).zip ls).flatMap (fun e =>
      let l := e.2
      [(decide (9 < r.u8 (l + 0x18)) || (fmts e.1).any (fun f => (pairAcc f (r.u8 (l + 0x18))).isNone), l + 0x18),
       (decide (9 < r.u8 (l + 0x19)), l + 0x19), (r.u8 (l + 0x1A) != spanOf e.1, l + 0x1A)])

/-- A kernel record (R90). -/
def rngKernel (r : Rd) (o : Nat) : List Chk :=
  [(decide (8 < r.u8 (o + 2)), o + 2), (decide (1 < r.u8 (o + 3)), o + 3), (decide (2 ^ 20 < r.u32 (o + 4)), o + 4),
   (decide (r.u32 (o + 4) ≤ r.u32 (o + 12)), o + 12), (off (r.u8 (o + 0x1C)) 1 64, o + 0x1C)]

/-- A Runner record (R91, R579). -/
def rngRunner (r : Rd) (o : Nat) : List Chk :=
  [(decide (63 < r.u8 o), o), (off (r.u8 (o + 1)) 1 8, o + 1), (r.u8 (o + 2) == 0, o + 2), (!r.elfOk (r.u8 o), o + 4)]

/-- A rule record (R92, R93, R120, R562, R598). -/
def rngRule (r : Rd) (o : Nat) : List Chk :=
  let trig := r.ruleTrigger o
  let act := r.ruleAction o
  let tp := r.ruleParam o
  let ap := r.ruleArg o
  let before := (r.meterRules.filter (fun x => decide (x < o))).length
  [(decide (8 < r.rulePlot o), o + 2), (decide (5 < trig) || (r.rulePlot o != 0 && decide (trig ≤ 3)), o + 3),
   ((decide (trig ≤ 1) && off tp 1 17) || (trig == 2 && off tp 1 4) || (trig == 5 && tp == 0), o + 4),
   (decide (9 < act) || (r.rulePlot o != 0 && act != 6), o + 0x14),
   (((act == 4 || act == 5) && decide (7 < ap)) || (act == 7 && decide (1 < ap)) ||
     (act == 9 && decide (8 < ap) && ap != 0x100), o + 0x18),
   (r.ruleIsMetering o && decide (32 ≤ before), o)]

/-- HARDENING (R95). -/
def rngHard (r : Rd) : List Chk :=
  let h := r.hard
  [(r.u32 h != 0 && off (r.u32 h) 60 604800, h), (decide (32 < r.u8 (h + 4)) || r.u8 (h + 4) != r.count 12, h + 4)] ++
    (r.recs 12).flatMap (fun o =>
      [(off (r.u16 o) 1 9, o), (decide (8 < r.u8 (o + 2)) || ((r.u16 o == 1 || r.u16 o == 9) && r.u8 (o + 2) != 0), o + 2),
       (decide (1 < r.u8 (o + 3)), o + 3)])

/-- The ranges of a section's records, with repeated IDs. -/
def rngSec (r : Rd) (ty : Nat) : List Chk :=
  let rs := r.recs ty
  match ty with
  | 1 => rs.flatMap r.rngPlatform
  | 2 => rs.flatMap r.rngDram
  | 3 => repeats (r.idsAt 3 0 false) ++ rs.flatMap r.rngPlot
  | 4 => repeats (r.idsAt 4 0 false) ++ rs.flatMap r.rngStream
  | 5 => repeats (r.idsAt 5 0 false) ++ rs.flatMap r.rngSet
  | 6 => repeats (r.idsAt 6 2 false) ++ rs.flatMap r.rngPipe
  | 7 => repeats (r.idsAt 7 0 true) ++ rs.flatMap r.rngModel
  | 8 => repeats (r.idsAt 8 0 true) ++ rs.flatMap r.rngKernel
  | 9 => repeats (r.idsAt 9 0 false) ++ rs.flatMap r.rngRunner
  | 10 => repeats (r.idsAt 10 0 true) ++ rs.flatMap r.rngRule
  | 11 => repeats (r.idsAt 11 0 false) ++ rs.map (fun o => (off (r.u8 o) 1 8, o))
  | 12 => r.rngHard
  | _ => repeats (r.idsAt 13 0 false) ++ rs.map (fun o => (decide (2 < r.u8 o), o))

/-- The stores at the top of a plot's window do not fit, or its Runner regions run into them (R209, R361, R580). -/
def storesBad (r : Rd) (o : Nat) : List Chk :=
  let k := r.u8 o
  let stores := r.ringsBytes k + r.plotDecBytes k + r.plotModelBytes k
  (decide (r.window k < stores), o + 8) :: (match (r.runnersOf k).getLast?.bind r.runnerRec with
    | some x => [(decide (r.window k < stores + r.regionsEnd k), x)]
    | none => [])

/-- 0x09. -/
def rangeChecks (r : Rd) : List Chk :=
  [(r.imageSeq == 0 || r.imageSeq == 0xFFFFFFFF, 0x10), r.noNul 0x28] ++ r.entries.map r.countBad ++
    r.entries.flatMap (fun i => r.rngSec (r.secType i)) ++ (r.recs 3).flatMap r.storesBad

end Rd

end Sys2Proof.Machine
end

