-- ==== Sys2Proof/Machine/ImageRefs.lean ====
section
/-! DEFINITION. The image checks of codes 0x0A to 0x0E (R97): references, ownership, QOS sums and firmware patches. -/

namespace Sys2Proof.Machine

namespace Rd

/-- A plot has a record. -/
def hasPlot (r : Rd) (k : Nat) : Bool := (r.plotRec k).isSome

/-- Models that graft links join to `m` (R373). -/
def kin (r : Rd) (m : Nat) : List Nat :=
  let grow := fun (l : List Nat) => r.models.filter (fun x => l.any (fun y => x == y || r.graftOf x == y || r.graftOf y == x))
  (List.range r.models.length).foldl (fun l _ => grow l) [m]

/-- References of a pipeline record (R87, R374). -/
def refPipe (r : Rd) (o : Nat) : List Chk :=
  let k := r.u8 (o + 3)
  let input := r.u8 (o + 6)
  let inputOk := if r.u8 (o + 5) = 0 then (r.streamRec input).isSome && r.streamPlot input == k
    else (r.setRec input).isSome && r.setPlot input == k
  [(!r.hasPlot k, o + 3), (!inputOk, o + 6)] ++ (r.stagesOf o).map (fun s =>
    let ref := r.u16 (s + 2)
    let ok := match r.u8 s with
      | 1 => (r.modelRec ref).isSome && r.modelPlot ref == k &&
        r.allStages.all (fun y => r.u8 y.2 != 1 || r.u16 (y.2 + 2) == ref || !(r.kin ref).contains (r.u16 (y.2 + 2)))
      | 2 => (r.kernelRec ref).isSome && (r.kernelPlot ref == k || r.kernelPlot ref == 0)
      | 4 => (r.runnerRec ref).isSome && r.runnerPlot ref == k
      | _ => true
    (!ok, s + 2))

/-- 0x0A: a reference to what is absent or another plot's (R85 to R95, R120, R374). -/
def refSec (r : Rd) (ty : Nat) : List Chk :=
  let rs := r.recs ty
  let plot := fun (at_ : Nat) (shared : Bool) (o : Nat) => (!(shared && r.u8 (o + at_) == 0) && !r.hasPlot (r.u8 (o + at_)), o + at_)
  match ty with
  | 4 => rs.map (plot 1 false)
  | 5 => rs.flatMap (fun o => plot 1 false o :: (List.range (r.u8 (o + 2))).map (fun i =>
      let s := r.u8 (o + 4 + i)
      ((r.streamRec s).isNone || r.streamPlot s != r.u8 (o + 1), o + 4 + i)))
  | 6 => rs.flatMap r.refPipe
  | 7 => rs.flatMap (fun o => [plot 2 false o,
      (r.u16 (o + 0x1A) != 0xFFFF && (r.modelRec (r.u16 (o + 0x1A))).isNone, o + 0x1A)])
  | 8 => rs.map (plot 2 true)
  | 9 => rs.map (plot 1 false)
  | 10 => rs.flatMap (fun o => [plot 2 true o,
      (r.ruleAction o == 9 && decide (1 ≤ r.ruleArg o ∧ r.ruleArg o ≤ 8) && !r.hasPlot (r.ruleArg o), o + 0x18)])
  | 11 => rs.map (plot 0 false)
  | 12 => rs.map (plot 2 true)
  | _ => []

/-- A Pruner stage's drill ring lies in its plot's map: owned banks of one bed store, or the DRAM window (R234). -/
def ringInMap (r : Rd) (k b : Nat) : Bool :=
  let a := r.u64 (b + 0x10)
  let n := r.u8 (b + 11) * r.u32 (b + 0x18)
  if r.u8 (b + 7) = 0 then
    decide (0x800000000000 ≤ a ∧ a + n ≤ 0x800008000000) &&
      (let o := a - 0x800000000000
       decide (o % 0x200000 + n ≤ 0x180000) &&
         (List.range 48).all (fun j => decide (o % 0x200000 + n ≤ j * 0x8000 ∨ (j + 1) * 0x8000 ≤ o % 0x200000) ||
           r.ownsBank k (o / 0x200000) j))
  else decide (a + n ≤ r.window k)

/-- A Runner is named by a real-time pipeline. -/
def rtNamed (r : Rd) (n : Nat) : Bool := r.allStages.any (fun x => r.u8 (x.1 + 4) == 0 && r.u8 x.2 == 4 && r.u16 (x.2 + 2) == n)

/-- The cores that carry a real-time Runner or tracker stage (R577, R578). -/
def rtCores (r : Rd) : List Nat :=
  (List.range 8).filter (fun c =>
    r.allStages.any (fun x =>
      let plot := r.u8 (x.1 + 3)
      r.u8 (x.1 + 4) == 0 && ((r.u8 x.2 == 4 && (r.runnerCores (r.u16 (x.2 + 2))).testBit c) ||
        (r.u8 x.2 == 3 && r.u32 (x.2 + 4) == 0 &&
          ((List.range 8).find? (fun d => d != 0 && (r.cores plot).testBit d)) == some c))))

/-- What plot record `o` claims that record `x`, before it, claims too, with the offsets of the fields (R84). -/
def claims (r : Rd) (o x : Nat) : List Chk :=
  let a := r.u8 o
  let b := r.u8 x
  let overlaps := fun (s1 n1 s2 n2 : Nat) => decide (0 < n1 ∧ 0 < n2 ∧ s1 < s2 + n2 ∧ s2 < s1 + n1)
  let beds := fun (whole : Bool) => (List.range 64).any (fun bed =>
    (r.u64 (o + 0x10)).testBit bed == whole && (r.banksOf o bed &&& r.banksOf x bed) != 0)
  [(overlaps (r.u8 (o + 3)) (r.u8 (o + 4)) (r.u8 (x + 3)) (r.u8 (x + 4)), o + 3), (beds true, o + 0x10), (beds false, o + 0x18),
   ((r.u64 (o + 0x28) &&& r.u64 (x + 0x28)) != 0, o + 0x28), ((r.u64 (o + 0x30) &&& r.u64 (x + 0x30)) != 0, o + 0x30),
   ((r.sinks a).testBit 2 && (r.sinks b).testBit 2 && r.cellarNsid a == r.cellarNsid b &&
      overlaps (r.cellarLba a) (r.cellarLen a) (r.cellarLba b) (r.cellarLen b), o + 0x38)]

/-- A sum over records that passes a limit: judged at each record, `f` giving its part. -/
def sumBad (l : List Nat) (f : Nat → Nat) (limit at_ : Nat) : List Chk :=
  l.map (fun o => (decide (limit < ((l.filter (fun x => decide (x ≤ o))).map f).sum), o + at_))

/-- 0x0B of the plots: ownership, system channels and the windows' sum (R28, R84, R414). -/
def ownPlots (r : Rd) : List Chk :=
  let rs := r.recs 3
  rs.flatMap (fun o => (rs.filter (fun x => decide (x < o))).flatMap (r.claims o) ++ [(decide (2 ^ 48 ≤ r.u64 (o + 0x28)), o + 0x28)]) ++
    sumBad rs (fun o => r.u32 (o + 8) * 2 ^ 21) (r.usable - 2 ^ 30) 8

/-- 0x0B of a section's records (R87, R88, R91, R168, R173, R234, R577). -/
def ownSec (r : Rd) (ty : Nat) : List Chk :=
  let rs := r.recs ty
  let within := fun (m s : Nat) => (m &&& s) == m
  match ty with
  | 3 => r.ownPlots
  | 4 => rs.map (fun o => (rs.any (fun x => decide (x < o) &&
      ((r.u8 (o + 2) == 0 && r.u8 (x + 2) == 0 && r.u8 (o + 4) == r.u8 (x + 4) && r.u8 (o + 5) == r.u8 (x + 5)) ||
       (r.u8 (o + 2) == 2 && r.u8 (x + 2) == 2 && r.u8 (o + 7) == r.u8 (x + 7) && r.u16 (o + 0x1C) == r.u16 (x + 0x1C) &&
         (r.u32 (o + 0x18) == r.u32 (x + 0x18) || r.u32 (o + 0x18) == 0 || r.u32 (x + 0x18) == 0)))), o))
  | 6 => rs.flatMap (fun o => (!within (r.u64 (o + 0x10)) (r.bedSet (r.u8 (o + 3))), o + 0x10) ::
      (r.stagesOf o).flatMap (fun s => if r.u8 s = 0 then [(!r.ringInMap (r.u8 (o + 3)) (r.blockOf s), r.blockOf s + 0x10)] else []))
  | 7 => rs.map (fun o => (!within (r.u64 (o + 0x10)) (r.bedSet (r.u8 (o + 2))), o + 0x10))
  | 9 => rs.map (fun o => (!within (r.u8 (o + 2)) (r.cores (r.u8 (o + 1))) ||
      r.rtCores.any (fun c => (r.u8 (o + 2)).testBit c && (c == 0 || !r.rtNamed (r.u8 o))), o + 2))
  | _ => []

/-- 0x0C: a QOS sum above its limit (R94). -/
def qosChecks (r : Rd) : List Chk :=
  [(4, 136528), (0x0C, 6000), (0x10, 6400), (0x14, 7876), (0x18, 27272)].flatMap (fun q =>
    sumBad (r.recs 11) (fun o => r.u32 (o + q.1)) q.2 q.1)

/-- 0x0D: a patch's signature (R96). -/
def patchSigs (r : Rd) : List Chk :=
  (r.recs 13).map (fun o =>
    let blob := r.bytes ((r.base 13).getD 0 + r.u32 (o + 0x10)) (r.u32 (o + 0x0C))
    (!Crypto.ed25519Verify (Config.keyBytes Config.firmwareKey) (r.bytes o 32 ++ blob) (r.bytes (o + 0x20) 64), o + 0x20))

/-- 0x0E: a patch's BASE_ROM (R96). -/
def patchRoms (r : Rd) : List Chk := (r.recs 13).map (fun o => (r.u32 (o + 8) != Config.romVersion.toNat, o + 8))

/-- 0x0A to 0x0C over the sections in their order. -/
def bySec (r : Rd) (f : Nat → List Chk) : List Chk := r.entries.flatMap (fun i => f (r.secType i))

end Rd

end Sys2Proof.Machine
end

