-- ==== Sys2Proof/Machine/ImageCheck.lean ====
section
/-! DEFINITION. The validity of an image (R97): its checks in the order of their codes. -/

namespace Sys2Proof.Machine

/-- The first check that fails, with its code and the offset of the failing item (R97). -/
def imageCheck (r : Rd) : Option (Nat × Nat) :=
  (headChecks r).or ((firstFail 0x05 r.tableChecks).or ((firstFail 0x06 r.placeChecks).or
    ((firstFail 0x07 r.requiredChecks).or ((firstFail 0x08 r.reservedChecks).or ((firstFail 0x09 r.rangeChecks).or
      ((firstFail 0x0A (r.bySec r.refSec)).or ((firstFail 0x0B (r.bySec r.ownSec)).or ((firstFail 0x0C r.qosChecks).or
        ((firstFail 0x0D r.patchSigs).or (firstFail 0x0E r.patchRoms))))))))))

end Sys2Proof.Machine
end

