-- ==== Sys2Proof/Machine/Metering.lean ====
section
/-! DEFINITION. The metering unit (19_metering): samples, zero crossings, half-cycle RMS, intervals, energy, events, rules and
the hold-up outputs. Sums are exact over binary64 sample values; a square root is taken to the integer below and above. -/

namespace Sys2Proof.Machine

/-- The decimator's group delay D_G in ns (R546). -/
def groupDelay : Int := 515259

/-! Exact arithmetic over sample values. -/

/-- A ratio of integers. -/
structure Ratio where
  num : Int
  den : Nat
  deriving DecidableEq, Repr

/-- A finite value as a ratio; 0 for what is not finite. -/
def Fp.ratio : Fp → Ratio
  | .fin s m e =>
    let n : Int := if s then -(m : Int) else m
    if 0 ≤ e then ⟨n * 2 ^ e.toNat, 1⟩ else ⟨n, 2 ^ (-e).toNat⟩
  | _ => ⟨0, 1⟩

/-- The ratio times `k`, rounded to nearest. -/
def Ratio.round (r : Ratio) (k : Nat) : Int := rneDiv (r.num * k) r.den

/-- The square root of a ratio times `k`: the integers at or below and at or above it. -/
def Ratio.root (r : Ratio) (k : Nat) : Nat × Nat :=
  let n := r.num.toNat * k
  let f := Fp.isqrt (n / r.den)
  (f, if f * f * r.den = n then f else f + 1)

/-- The value of channel `c` in a sample. -/
def Sample.val (s : Sample) (c : Nat) : Fp := f64 (s.x.getD c 0)

/-- The exact sum of a function of samples. -/
def sumFp (l : List Sample) (f : Sample → Fp) : Fp := l.foldl (fun a s => a.add (f s)) (.fin false 0 0)

/-- The mean of a function of samples; 0 over no sample. -/
def meanOf (l : List Sample) (f : Sample → Fp) : Ratio :=
  let r := (sumFp l f).ratio
  ⟨r.num, r.den * max 1 l.length⟩

/-- The mean square of a channel. -/
def meanSq (l : List Sample) (c : Nat) : Ratio := meanOf l (fun s => (s.val c).mul (s.val c))

/-- The RMS of a channel in units of 0.01, rounded to nearest. -/
def rmsUnits (l : List Sample) (c : Nat) : Nat := (((meanSq l c).root (200 ^ 2)).1 + 1) / 2

/-- Samples with stamps from `a` up to `b`. -/
def samplesIn (l : List Sample) (a b : Int) : List Sample := l.filter (fun s => decide (a ≤ s.stamp ∧ s.stamp < b))

/-! The unit's settings. -/

/-- The detection channels (R545). -/
def Part.detect (p : Part) : List Nat := if p.get F.MTR_SITE0_WIRING = 0 then [0] else [0, 1, 2]
/-- The power phases: voltage and current channels (R545). -/
def Part.phases (p : Part) : List (Nat × Nat) := if p.get F.MTR_SITE0_WIRING = 0 then [(0, 3)] else [(0, 3), (1, 4), (2, 5)]
/-- UDIN in 0.01 V. -/
def Part.udin (p : Part) : Nat := p.get F.MTR_SITE0_UDIN
/-- Cycles of an interval (R556). -/
def Part.nCycles (p : Part) : Nat := if p.get F.MTR_SITE0_NOMINAL_HZ = 60 then 12 else 10
/-- The metering unit runs: EN with a valid record (R551). -/
def Part.metering (p : Part) : Bool := p.on F.MTR_CTRL_EN && p.on F.MTR_STATUS_CAL_VALID
/-- Harvest forms plot 0 records (R568). -/
def Part.mtrForms (p : Part) : Bool := p.live && !p.on F.SHD_BOOT_STATE_REPLANT_PENDING
/-- The last measured period as nanoseconds over cycles (R553). -/
def Part.period (p : Part) : Nat × Nat :=
  if p.mtr.periodN = 0 then (1000000000, p.get F.MTR_SITE0_NOMINAL_HZ) else (p.mtr.periodNs, p.mtr.periodN)

/-! Events (R560, R561, R568). -/

/-- Form one EVENT record of metering. -/
def Part.mtrRecord (p : Part) (t : Nat) (e : QueuedEvent) : Part :=
  let c := JobCtx.none (twos 64 e.ts)
  (p.form t 0 c (fun seq => recHead 3 0 seq p.noTime c ++ toLe 1 2 ++ toLe 1 e.severity ++ toLe 4 e.code ++
    toLe 2 e.rule ++ toLe 2 0 ++ toLe 4 0 ++ e.data)).noteEvent 0 e.code

/-- An EVENT of metering: formed at once, or queued while Harvest forms no plot 0 record, or lost when the queue is full. -/
def Part.mtrEvent (p : Part) (t : Nat) (e : QueuedEvent) : Part :=
  if p.mtrForms then p.mtrRecord t e
  else if p.mtr.queue.length < 64 then p.modMtr (fun u => { u with queue := u.queue ++ [e] })
  else (p.addSat F.MTR_QUEUE_LOST_COUNT 1).setBit F.MTR_EVENTS_EVT 5

/-- Harvest runs again: the queued events are formed in order (R568). -/
def Part.mtrFlush (p : Part) (t : Nat) : Part :=
  p.mtr.queue.foldl (fun (q : Part) e => q.mtrRecord t e) (p.modMtr (fun u => { u with queue := [] }))

/-- The event class in progress. -/
def Part.mtrCur (p : Part) (cls : Nat) : Option MtrEvent := FMap.get (fun _ => none) p.mtr.events cls
/-- Set the event class in progress. -/
def Part.setCur (p : Part) (cls : Nat) (e : Option MtrEvent) : Part :=
  p.modMtr (fun u => { u with events := FMap.put (fun _ => none) u.events cls e })
/-- SEVERITY of a class (R561). -/
def eventSeverity (cls : Nat) : Nat := if cls = 1 then 4 else if cls = 2 then 3 else if cls = 3 then 6 else if cls = 4 then 2 else 5

/-- The record of a start or an end of classes 1 to 4 (R561); the duration is rounded to the nearest microsecond (assumption 62). -/
def Part.classRecord (p : Part) (t cls : Nat) (ts : Int) (ends : Bool) (e : MtrEvent) : Part :=
  let dur := if ends then ((ts - e.start + 500) / 1000).toNat else 0
  p.mtrEvent t { ts := ts, severity := eventSeverity cls, rule := 0xFFFF,
                 code := cls + (if ends then 256 else 0) + e.mask * 65536,
                 data := toLe 8 (twos 64 e.start) ++ toLe 4 dur ++ toLe 2 (min e.extreme 0xFFFF) ++ toLe 1 e.worst ++
                   toLe 1 0 ++ toLe 2 p.udin ++ toLe 2 0 }

/-- An event starts. -/
def Part.classStart (p : Part) (t cls : Nat) (e : MtrEvent) : Part :=
  let q := (p.setCur cls (some e)).setBit F.MTR_EVENTS_EVT (cls - 1)
  (q.modMtr (fun u => { u with overlap := true })).classRecord t cls e.start false e

/-- An event ends. -/
def Part.classEnd (p : Part) (t cls : Nat) (ts : Int) : Part :=
  match p.mtrCur cls with
  | none => p
  | some e => (p.setCur cls none).classRecord t cls ts true e

/-- A half-cycle RMS value in 0.00001 V: at or below, and at or above. -/
structure Urms where
  chan : Nat
  lo : Nat
  hi : Nat
  deriving DecidableEq, Repr

/-- In 0.01 V, rounded to nearest. -/
def Urms.units (u : Urms) : Nat := (u.lo + 500) / 1000

/-- The half-cycle RMS of a channel over a window's samples (R555). -/
def urmsOf (l : List Sample) (c : Nat) : Urms :=
  let r := (meanSq l c).root (100000 ^ 2)
  { chan := c, lo := r.1, hi := r.2 }

/-- Fold the extreme of an event over the detection channels' values: the lowest for a dip or an interruption, the highest for
a swell, with its channel; `seen` are the channels involved. -/
def MtrEvent.take (e : MtrEvent) (cls : Nat) (vals : List Urms) (involved : Urms → Bool) : MtrEvent :=
  vals.foldl (fun (a : MtrEvent) v =>
    let better := if cls = 2 then decide (a.extreme < v.units) else decide (v.units < a.extreme)
    { a with mask := if involved v then a.mask ||| 2 ^ v.chan else a.mask,
             extreme := if better then v.units else a.extreme,
             worst := if better then v.chan else a.worst }) e

/-- One class of R560 at an update: whether it starts, whether it ends, and the channels involved. -/
def Part.classUpdate (p : Part) (t : Nat) (z : Int) (cls : Nat) (vals : List Urms) (starts ends : Bool)
    (involved : Urms → Bool) : Part :=
  match p.mtrCur cls with
  | none =>
    if starts then
      let e0 : MtrEvent := { start := z, mask := 0, extreme := if cls = 2 then 0 else 0x10000, worst := 0 }
      p.classStart t cls (e0.take cls vals involved)
    else p
  | some e =>
    let q := p.setCur cls (some (e.take cls vals involved))
    if ends then q.classEnd t cls z else q

/-- Event detection at an update of the half-cycle RMS values (R560). -/
def Part.eventUpdate (p : Part) (t : Nat) (z : Int) (vals : List Urms) : Part :=
  let thr := fun (f : Fld) => p.udin * p.get f
  let dip := thr F.MTR_SITE1_DIP_THR
  let swell := thr F.MTR_SITE1_SWELL_THR
  let int := thr F.MTR_SITE2_INT_THR
  let hyst := thr F.MTR_SITE2_HYST
  let q := p.classUpdate t z 1 vals (vals.any (fun v => decide (v.lo < dip))) (vals.all (fun v => decide (dip + hyst ≤ v.lo)))
    (fun v => decide (v.lo < dip))
  let q := q.classUpdate t z 2 vals (vals.any (fun v => decide (swell < v.hi)))
    (vals.all (fun v => decide (v.hi ≤ swell - hyst))) (fun v => decide (swell < v.hi))
  q.classUpdate t z 3 vals (vals.all (fun v => decide (v.lo < int))) (vals.any (fun v => decide (int + hyst ≤ v.lo)))
    (fun v => decide (v.lo < int))

/-! Hold-up outputs (R564 to R566). -/

/-- The level field of an output: 0 A, 1 B. -/
def holdLevel (o : Nat) : Fld := if o = 0 then F.MTR_STATUS_HOLD_A else F.MTR_STATUS_HOLD_B

/-- The hold state of an output. -/
def Part.holdOut (p : Part) (o : Nat) : HoldOut := FMap.get HoldOut.init p.mtr.holds o
def Part.setHold (p : Part) (o : Nat) (h : HoldOut) : Part :=
  p.modMtr (fun u => { u with holds := FMap.put HoldOut.init u.holds o h })

/-- The output changes at the ball at `at_`: the change is captured and forms its EVENT (R566). -/
def Part.holdChange (p : Part) (t at_ o : Nat) (level : Bool) (rule : Nat) (trigger : Int) : Part :=
  let q := p.put (holdLevel o) (if level then 1 else 0)
  let q := (q.add F.MTR_HOLD_CHANGES_COUNT 1).setBit F.MTR_EVENTS_EVT 4
  let q := q.setHold o { lastAt := some at_, request := none, rule := rule, trigger := trigger }
  q.mtrEvent t { ts := at_, severity := eventSeverity 5, code := 5, rule := rule,
                 data := toLe 1 o ++ toLe 1 (if level then 1 else 0) ++ toLe 8 (twos 64 trigger) ++ List.replicate 10 0 }

/-- HOLD_MIN_MS has passed since the output's previous transition. -/
def Part.holdFree (p : Part) (at_ o : Nat) : Bool :=
  match (p.holdOut o).lastAt with
  | none => true
  | some l => decide (l + p.get F.MTR_SITE3_HOLD_MIN_MS * 1000000 ≤ at_)

/-- A request to an output (R565); none acts without a valid calibration record (R551). -/
def Part.holdRequest (p : Part) (t at_ o : Nat) (level : Bool) (rule : Nat) (trigger : Int) : Part :=
  if !p.metering then p
  else if p.on (holdLevel o) = level then p.setHold o { p.holdOut o with request := none }
  else if p.holdFree at_ o then p.holdChange t at_ o level rule trigger
  else p.setHold o { p.holdOut o with request := some level, rule := rule, trigger := trigger }

/-- HOLD_MIN_MS has expired with a request held pending. -/
def Part.holdDue (p : Part) (t o : Nat) : Bool := p.metering && (p.holdOut o).request.isSome && p.holdFree t o

/-- At expiry a pending request that differs from the current level is applied. -/
def Part.holdExpire (p : Part) (t o : Nat) : Part :=
  let h := p.holdOut o
  match h.request with
  | none => p
  | some l =>
    if p.on (holdLevel o) = l then p.setHold o { h with request := none }
    else p.holdChange t t o l h.rule h.trigger

/-- The requests of rules that fire in one cycle: on each output an assertion wins (R565, R572). -/
def Part.holdAll (p : Part) (t at_ : Nat) (trigger : Int) (fired : List (Nat × Nat)) : Part :=
  p.each [0, 1] (fun q o =>
    match fired.find? (fun e => e.2 == 2 * o) with
    | some e => q.holdRequest t at_ o true e.1 trigger
    | none => match fired.find? (fun e => e.2 == 2 * o + 1) with
      | some e => q.holdRequest t at_ o false e.1 trigger
      | none => q)

/-! Rules of the metering unit (R563). -/

/-- The condition of a rule at an update, from what it was: hysteresis on the latest value, or the event class. -/
def Part.mtrCond (p : Part) (trigger param : Nat) (thresh : Int) (hyst : Nat) (was : Bool) : Bool :=
  if trigger = 2 then (p.mtrCur param).isSome
  else match FMap.get (fun _ => none) p.mtr.values param with
    | none => was
    | some v =>
      if trigger = 0 then (if thresh < v then true else if v < thresh - hyst then false else was)
      else (if v < thresh then true else if thresh + hyst < v then false else was)

/-- A rule at an update at instant `z`: its new state, and whether it fires. -/
def Part.ruleUpdate (p : Part) (z : Int) (r : MtrRule) : MtrRule × Bool :=
  if p.mtrCond r.trigger r.param r.thresh r.hyst r.since.isSome then
    let since := r.since.getD z
    let fires := !r.fired && decide (since + r.dwellMs * 1000000 ≤ z)
    ({ r with since := some since, fired := r.fired || fires }, fires)
  else ({ r with since := none, fired := false }, false)

/-- Evaluate the loaded rules at an update at instant `z`, in ascending RULE order; their hold-up requests reach the balls at
`at_`, and a wake rule raises the metering wake source (R563, R566, R604). -/
def Part.rulesUpdate (p : Part) (t at_ : Nat) (z : Int) : Part :=
  let l := p.mtr.rules.map (fun r => p.ruleUpdate z r)
  let q := p.modMtr (fun u => { u with rules := l.map (·.1) })
  let q := (List.range l.length).foldl (fun (q : Part) i =>
    match l[i]? with
    | some (r, f) =>
      if r.wake then q.iff f (·.modPwr (fun w => { w with latchedWake := w.latchedWake ||| 2 ^ 10 }))
      else (q.put (F.MTR_RULE_TRUE i) (if r.since.isSome then 1 else 0)).iff f (·.addSat (F.MTR_RULE_FIRED_COUNT i) 1)
    | none => q) q
  q.holdAll t at_ z ((l.filter (fun e => e.2 && !e.1.wake)).map (fun e => (e.1.id, e.1.action)))

/-- Set the latest value of a quantity code (R562). -/
def Part.quantity (p : Part) (code : Nat) (v : Int) : Part :=
  p.modMtr (fun u => { u with values := FMap.put (fun _ => none) u.values code (some v) })

/-! Intervals (R556 to R559). -/

/-- v(s - tq), linearly interpolated between the samples around it and rounded to binary64 (R556); the samples are in order. -/
def laggedV (l : List Sample) (c : Nat) (at2 : Int) (scale : Nat) : Fp :=
  let rec go : List Sample → Fp
    | [] => .fin false 0 0
    | [a] => a.val c
    | a :: b :: r =>
      if at2 < b.stamp * scale then
        let f := f64Of ((Fp.ofInt (at2 - a.stamp * scale)).div (Fp.ofInt ((b.stamp - a.stamp) * scale)))
        f64 (f64Of ((a.val c).add (((b.val c).sub (a.val c)).mul (f64 f))))
      else go (b :: r)
  go l

/-- The interval quantities in mW, mvar and mVA: P and Q exact, S to the microvolt-ampere (R556). -/
def Part.powers (p : Part) (l : List Sample) : Ratio × Ratio × Nat :=
  let per := p.period
  let scale := 4 * per.2
  let all := p.mtr.samples
  let n := max 1 l.length
  let ps := sumFp l (fun s => p.phases.foldl (fun a ph => a.add ((s.val ph.1).mul (s.val ph.2))) (.fin false 0 0))
  let qs := sumFp l (fun s => p.phases.foldl (fun a ph =>
    a.add ((laggedV all ph.1 (s.stamp * scale - per.1) scale).mul (s.val ph.2))) (.fin false 0 0))
  let app := p.phases.foldl (fun a ph =>
    let v := meanSq l ph.1
    let i := meanSq l ph.2
    a + (Ratio.root ⟨v.num * i.num, v.den * i.den⟩ (10 ^ 12)).1) 0
  (⟨ps.ratio.num, ps.ratio.den * n⟩, ⟨qs.ratio.num, qs.ratio.den * n⟩, app)

/-- Store the accumulators and show them in mWh (R558, MTR_E_LO and MTR_E_HI). -/
def Part.setEnergy (p : Part) (l : List Nat) : Part :=
  (p.modMtr (fun u => { u with energy := l })).each [0, 1, 2, 3] (fun q i =>
    q.put64 (F.MTR_E_LO_MWH i) (F.MTR_E_HI_MWH i) (l.getD i 0 / 3600000))

/-- A write of MTR_E_LO or MTR_E_HI loads the accumulator (R567). -/
def Part.loadEnergy (p : Part) (i mwh : Nat) : Part := p.setEnergy (p.mtr.energy.set i (mwh * 3600000 % 2 ^ 64))

/-- Add an interval of `dn` ÷ `dd` ns to the accumulators, each rounded to nearest (R558): mW x ms are microjoules. -/
def Part.addEnergy (p : Part) (P Q : Ratio) (app : Nat) (dn : Int) (dd : Nat) : Part :=
  let add := fun (i : Nat) (num : Int) (den : Nat) =>
    (p.mtr.energy.getD i 0 + (rneDiv (num * dn) (den * dd * 1000)).toNat) % 2 ^ 64
  p.setEnergy [add 0 (max P.num 0) P.den, add 1 (max (-P.num) 0) P.den, add 2 Q.num.natAbs Q.den, add 3 app 1000000]

/-- The METER record of KIND 0 (R559). -/
def Part.meterRecord (p : Part) (t : Nat) (ts : Int) (rms : List Nat) (freq : Nat) (P Q : Int) (S : Nat) (flagged : Bool) : Part :=
  let flags := p.noTime + (if flagged then 128 else 0)
  p.form t 0 (JobCtx.none t) (fun seq => recShort 4 0 seq flags (twos 64 ts) ++ List.replicate 12 0 ++ toLe 1 0 ++
    toLe 1 p.nCycles ++ (rms.map (fun v => toLe 2 (min v 0xFFFF))).flatten ++ toLe 2 freq ++
    toLe 4 (twos 32 P) ++ toLe 4 (twos 32 Q) ++ toLe 4 S)

/-- The METER record of KIND 1 at `ts` (R567). -/
def Part.energyRecord (p : Part) (t ts : Nat) : Part :=
  (p.form t 0 (JobCtx.none t) (fun seq => recShort 4 0 seq p.noTime ts ++ List.replicate 12 0 ++ toLe 1 1 ++ toLe 1 0 ++
    ((List.range 4).map (fun i => toLe 8 (p.mtr.energy.getD i 0 / 3600000))).flatten)).closeCrate 0 1

/-- An interval ends at crossing `z` (R556 to R559, R569). -/
def Part.intervalEnd (p : Part) (t : Nat) (start z : Int) : Part :=
  let u := p.mtr
  let n := p.nCycles
  let l := samplesIn u.samples start z
  let delta := z - start
  let rms := (List.range 7).map (fun c => rmsUnits l c)
  let pw := p.powers l
  let P := clampInt (-(2 ^ 31)) (2 ^ 31 - 1) (pw.1.round 1000)
  let Q := clampInt (-(2 ^ 31)) (2 ^ 31 - 1) (pw.2.1.round 1000)
  let S := min ((pw.2.2 + 500) / 1000) (2 ^ 32 - 1)
  let freq := if u.synth || u.stepped then 0 else min (rneDiv (n * 10 ^ 12) delta.toNat).toNat 0xFFFF
  let q := (List.range 7).foldl (fun (q : Part) c =>
    (q.put (F.MTR_CH_RMS_RMS c) (min (rms.getD c 0) 0xFFFF)).put (F.MTR_CH_RMS_CLIPPED c)
      (if u.clipped.testBit c then 1 else 0)) p
  let q := ((q.put F.MTR_FREQ_INTERVAL freq).put F.MTR_P_VALUE (twos 32 P)).put F.MTR_Q_VALUE (twos 32 Q)
  let q := (q.put F.MTR_S_VALUE S).add F.MTR_INTERVALS_COUNT 1
  let q := (List.range 7).foldl (fun (q : Part) c => q.quantity (6 + c) (rms.getD c 0 : Nat)) q
  let q := (((q.quantity 13 (freq : Nat)).quantity 15 P).quantity 16 Q).quantity 17 (S : Nat)
  let q := if u.stepped then q.addEnergy pw.1 pw.2.1 pw.2.2 (n * 1000000000 : Nat) (p.get F.MTR_SITE0_NOMINAL_HZ)
    else q.addEnergy pw.1 pw.2.1 pw.2.2 delta 1
  let flagged := u.overlap || u.synth || u.stepped || u.clipped != 0
  let div := u.divCount + 1
  let due := p.get F.MTR_SITE3_METER_DIV ≤ div
  let q := if due then
      (if p.mtrForms then q.meterRecord t u.intervalTs rms freq P Q S flagged else q.add F.MTR_GAP_INTERVALS_COUNT 1) else q
  let q := if u.clipped = 0 then q.classEnd t 4 z else q
  q.modMtr (fun v => { v with
    divCount := if due then 0 else div,
    periodNs := if u.stepped then v.periodNs else delta.toNat,
    periodN := if u.stepped then v.periodN else n })

/-- A new interval starts at crossing `z`. -/
def Part.intervalStart (p : Part) (c : Cross) : Part :=
  let busy := [1, 2, 3, 4].any (fun k => (p.mtrCur k).isSome)
  p.modMtr (fun u => { u with
    interval := some c.at_, intervalTs := c.at_, cycles := 0, synth := c.synthetic, stepped := false, overlap := busy,
    clipped := 0 })

/-- Samples from before the current window, interval and lag are dropped. -/
def Part.trimSamples (p : Part) : Part :=
  let per := p.period
  p.modMtr (fun u =>
    let lo : Int := match u.crosses.head? with
      | some c => match u.interval with
        | some i => min c.at_ i
        | none => c.at_
      | none => 0
    let cut := lo - per.1 / per.2 / 4 - 1000000
    { u with samples := if u.crosses = [] then u.samples.drop (u.samples.length - 400) else
               u.samples.filter (fun s => decide (cut ≤ s.stamp)) })

/-- Voltages at an accepted crossing whose window has begun: quantities 1 to 5 and the events (R555, R560, R562). -/
def Part.urmsUpdate (p : Part) (t : Nat) (a z : Int) : Part :=
  let l := samplesIn p.mtr.samples a z
  let vals := [0, 1, 2].map (fun c => urmsOf l c)
  let det := vals.filter (fun v => p.detect.contains v.chan)
  let units := det.map (·.units)
  let q := vals.foldl (fun (q : Part) v => q.quantity (1 + v.chan) (v.units : Nat)) p
  let q := (q.quantity 4 ((units.foldl min (units.headD 0) : Nat) : Int)).quantity 5 ((units.foldl max 0 : Nat) : Int)
  q.eventUpdate t z det

/-- A crossing of V1 is accepted or placed (R553 to R556); `at_` is when its rules reach the balls. -/
def Part.crossing (p : Part) (t at_ : Nat) (c : Cross) : Part :=
  let u := p.mtr
  let run := if c.synthetic then u.synthRun + 1 else 0
  let q := p.modMtr (fun v => { v with
    synthRun := run, synth := v.synth || c.synthetic, ten := v.ten ++ [c] })
  let q := if c.synthetic then (if 3 ≤ run then q.set F.MTR_STATUS_V1_LOST else q) else q.clr F.MTR_STATUS_V1_LOST
  let upd := match u.crosses with
    | [a, _] => some a.at_
    | _ => none
  let lap := q.mtr.overlap
  let q := match upd with
    | some a => q.urmsUpdate t a c.at_
    | none => q
  -- an event that starts at the closing crossing itself belongs to the next interval
  let q := match u.interval with
    | some s =>
      if c.positive then
        if u.cycles + 1 = p.nCycles then
          ((q.modMtr (fun v => { v with overlap := lap })).intervalEnd t s c.at_).intervalStart c
        else q.modMtr (fun v => { v with cycles := v.cycles + 1 })
      else q
    | none =>
      -- the first interval waits until a quarter period of samples precedes it
      let first := ((u.samples.head?.map (fun (s : Sample) => s.stamp)).getD c.at_ : Int)
      if c.positive && decide ((p.period.1 / p.period.2 / 4 : Int) < c.at_ - first) then q.intervalStart c else q
  let q := q.modMtr (fun v => { v with
    crosses := match u.crosses with
      | [_, b] => [b, c]
      | l => l ++ [c] })
  let q := if upd.isSome then q.rulesUpdate t at_ c.at_ else q
  q.trimSamples

/-- The instant at which V1 passes zero between two samples, rounded to the nanosecond (R553). -/
def zeroAt (a b : Sample) : Int :=
  let xa := (a.val 0).ratio
  let d := ((b.val 0).sub (a.val 0)).ratio
  if d.num = 0 then a.stamp
  else
    -- (s_b - s_a) (-x_a) / (x_b - x_a), with the signs moved so that the divisor is positive
    let s : Int := if d.num < 0 then -1 else 1
    a.stamp + rneDiv ((b.stamp - a.stamp) * (-xa.num) * d.den * s) (xa.den * d.num.natAbs)

/-- A sample's V1 lies beyond 0.02 x sqrt 2 x UDIN on the side given (R553). -/
def Part.armsAt (p : Part) (s : Sample) (neg : Bool) : Bool :=
  let x := (s.val 0).ratio
  decide (if neg then x.num < 0 else 0 < x.num) && decide (8 * p.udin ^ 2 * x.den ^ 2 < x.num.natAbs ^ 2 * 10 ^ 8)

/-- Nanoseconds `d` against `num` / 100 of the last measured period: negative, zero or positive. -/
def Part.vsPeriod (p : Part) (d : Int) (num : Nat) : Int := d * 100 * p.period.2 - num * p.period.1

/-- A real crossing between the last two samples, if one is taken. -/
def Part.realCross (p : Part) (a b : Sample) : Option Cross :=
  let za := (a.val 0).ratio.num
  let zb := (b.val 0).ratio.num
  if p.mtr.armedPos && decide (za ≤ 0 ∧ 0 < zb) then some { at_ := zeroAt a b, positive := true, synthetic := false }
  else if p.mtr.armedNeg && decide (0 ≤ za ∧ zb < 0) then some { at_ := zeroAt a b, positive := false, synthetic := false }
  else none

/-- Whether a crossing lies where one is accepted (R553). -/
def Part.acceptable (p : Part) (z : Int) : Bool :=
  match p.mtr.crosses.getLast? with
  | none => true
  | some l => decide (0 ≤ p.vsPeriod (z - l.at_) 35) && decide (p.vsPeriod (z - l.at_) 65 ≤ 0)

/-- A sample leaves the decimator at Sundial `t`: codes after the fractional-delay filter as binary64, and the codes themselves
(R547, R553 to R560). -/
def Part.sample (p : Part) (t stampAt : Nat) (codes : List Int) (filtered : List Nat) : Part :=
  let clip := (List.range 7).foldl (fun a c =>
    let k := codes.getD c 0
    if k = 0x7FFFFF ∨ k = -0x7FFFFF ∨ k = -0x800000 then a ||| 2 ^ c else a) 0
  let x := (List.range 7).map (fun c =>
    f64Mul (f64Sub (filtered.getD c 0) (f64OfInt (sext 32 (p.get (F.MTR_CH_OFFSET_OFFSET c)))))
      (f64Of (f32 (p.get (F.MTR_CH_GAIN_GAIN c)))))
  let s : Sample := { stamp := (stampAt : Int) - groupDelay - p.get F.MTR_ISO_DELAY_NS, x := x, clipped := clip }
  let at_ := t + 2930
  let prev := p.mtr.samples.getLast?
  let q := p.modMtr (fun u => { u with samples := u.samples ++ [s], clipped := u.clipped ||| clip })
  let q := if clip != 0 then
      (match q.mtrCur 4 with
      | none => (q.classStart t 4 { start := s.stamp, mask := clip, extreme := 0, worst := Nat.log2 (clip &&& (2 ^ 7 - clip)) }
          ).rulesUpdate t at_ s.stamp
      | some e => q.setCur 4 (some { e with mask := e.mask ||| clip }))
    else q
  let real := prev.bind (fun a => q.realCross a s)
  let ok := match real with
    | some c => q.acceptable c.at_
    | none => false
  let q := q.modMtr (fun u => { u with
    armedPos := (u.armedPos && !(real.map (·.positive) == some true)) || q.armsAt s true,
    armedNeg := (u.armedNeg && !(real.map (·.positive) == some false)) || q.armsAt s false })
  match real, ok with
  | some c, true => q.crossing t at_ c
  | _, _ => match q.mtr.crosses.getLast? with
    | some l =>
      if decide (0 ≤ q.vsPeriod (s.stamp - l.at_) 55) then
        q.crossing t at_ { at_ := l.at_ + rneDiv q.period.1 (2 * q.period.2), positive := !l.positive, synthetic := true }
      else q.trimSamples
    | none => q.trimSamples

/-- The 10-second frequency over the span that ends at boundary `b` (R557): crossings from `b` on stay for the next span. -/
def Part.tenSeconds (p : Part) (t : Nat) (b : Int) : Part :=
  let l := p.mtr.ten.filter (fun c => decide (c.at_ < b))
  let pos := l.filter (·.positive)
  let freq := match pos.head?, pos.getLast? with
    | some a, some z =>
      if l.any (·.synthetic) ∨ z.at_ ≤ a.at_ then 0
      else min (rneDiv ((pos.length - 1 : Nat) * 10 ^ 12) (z.at_ - a.at_).toNat).toNat 0xFFFF
    | _, _ => 0
  let q := (p.put F.MTR_FREQ_TEN_S freq).quantity 14 (freq : Nat)
  let q := q.modMtr (fun u => { u with ten := u.ten.filter (fun c => decide (b ≤ c.at_)) })
  q.rulesUpdate t (t + 2930) b

/-- The stamp of the newest sample has passed a 10-second boundary of the Sundial: the last one passed. -/
def Part.tenDue (p : Part) : Option Nat :=
  match p.mtr.samples.getLast? with
  | some s => let k := (s.stamp / 10000000000).toNat
    if p.metering && decide (p.sdl.lastTen < k) then some k else none
  | none => none

/-- The hourly energy record, and the close of plot 0's crate (R567). -/
def Part.hourRecord (p : Part) (t k : Nat) : Part :=
  let q := p.modSdl (fun u => { u with lastHour := k })
  if p.metering && p.mtrForms then q.energyRecord t (k * 3600000000000) else q

/-! Start and stop (R550, R551, R570). -/

/-- The rules of the running image that the unit takes, in ascending RULE order (R93, R563). -/
def Part.imageRules (p : Part) : List MtrRule :=
  let r := p.img
  let l := r.meterRules.map (fun o => ({ id := r.ruleId o, trigger := r.ruleTrigger o, param := r.ruleParam o,
                                          thresh := r.ruleThresh o, hyst := r.ruleHyst o, dwellMs := r.ruleDwell o,
                                          action := r.ruleAction o, wake := false, since := none, fired := false } : MtrRule))
  (sortBy (fun a b => decide (a.id ≤ b.id)) l).take 32

/-- Show the loaded rules in MTR_RULE. -/
def Part.showRules (p : Part) : Part :=
  (List.range 32).foldl (fun (q : Part) i =>
    let q := (q.setReg (R.MTR_RULE i) 0)
    match p.mtr.rules[i]? with
    | some r => (q.put (F.MTR_RULE_RULE i) r.id).set (F.MTR_RULE_VALID i)
    | none => q) p

/-- Metering stops: EN clears, and the events in progress end (R570). -/
def Part.meterStop (p : Part) (t : Nat) : Part :=
  if p.on F.MTR_CTRL_EN then
    (p.each [1, 2, 3, 4] (fun q k => q.classEnd t k t)).clr F.MTR_CTRL_EN
  else p

/-- Boot step 7: check the calibration record, load it and the image's rules, and start metering (R550, R551, R570). -/
def Part.meterStart (p : Part) (t : Nat) : Part :=
  let q := p.meterStop t
  let r := q.norRd calBase
  let code := calCheck r
  let q := q.put F.MTR_STATUS_CAL_CODE code
  if code ≠ 0 then
    ((q.clr F.MTR_STATUS_CAL_VALID).clr F.SDL_STATUS_CURVE_VALID).modSdl (fun u => { u with curve := [] })
  else
    let q := (q.set F.MTR_STATUS_CAL_VALID).set F.SDL_STATUS_CURVE_VALID
    let q := q.put F.MTR_STATUS_FOREIGN (if r.u64 8 = Config.deviceId.toNat then 0 else 1)
    let q := (q.modSdl (fun u => { u with curve := calCurve r, lastTen := t / 10000000000 })).loadCalRegs r
    let q := q.modMtr (fun u => { MtrUnit.init with
      energy := u.energy, queue := u.queue, holds := u.holds, rules := p.imageRules })
    q.showRules.set F.MTR_CTRL_EN

end Sys2Proof.Machine
end

