-- ==== Sys2Proof/Machine/Start.lean ====
section
/-! DEFINITION. What boot steps 7 to 9 load from the image (the platform, DRAM and the owners of banks, channels and timers), and
what a reset below power-on keeps (R597, R610). -/

namespace Sys2Proof.Machine

/-! Step 7: PLATFORM (R81; the step is assumption 48). -/

/-- An Ethernet port's registers. ETH_MAC holds the first byte on the wire in bits 7:0. -/
def Part.loadPort (p : Part) (n : Nat) : Part :=
  let r := p.img
  let mac := beNat (toLe 6 (r.portMac n))
  let q := (p.put (F.ETH_CFG_MODE n) (r.portMode n)).put64 (F.ETH_MAC_LO_MAC n) (F.ETH_MAC_HI_MAC n) mac
  (q.put (F.ETH_VLAN_VID n) (r.portVlan n)).put (F.ETH_VLAN_TAGGED n) (if r.portVlan n = 0 then 0 else 1)

/-- GPIO, capture, PPS, the Ethernet ports, the watchdog period and Trellis. -/
def Part.loadPlatform (p : Part) : Part :=
  let r := p.img
  let q := p.modPins (fun u => { u with gpioDir := r.gpioDir, gpioOut := r.gpioInit })
  let q := (q.put F.SDL_CAP_CTRL_RISE_EN r.capRise).put F.SDL_CAP_CTRL_FALL_EN r.capFall
  let q := (q.put F.SDL_CAP_CTRL_PPS_GPIO (r.ppsCfg % 8)).put F.SDL_CAP_CTRL_PPS_EN (r.ppsCfg / 8)
  let q := q.put F.FLT_WDOG_CFG_MS r.wdogMs
  let q := q.put F.TRL_CTRL_PORT_EN r.trlPorts
  let q := if r.trlPorts % 4 = 0 then q else (q.put F.TRL_CTRL_NODE r.trlNode).put F.TRL_CTRL_RING r.trlRing
  (q.loadPort 0).loadPort 1

/-! Step 8: DRAM (R82, R469, R476). -/

/-- The share of time outside refresh, ZQ calibration and retraining, in 1 / 65 536, rounded down (R469). -/
def Rd.eta (r : Rd) : Nat :=
  let refi : Int := (r.timing 15 : Nat)
  let num := 800000000 * refi - 1600000000 * (r.timing 16 : Nat) - 25 * (r.timing 20 : Nat) * refi - 8 * (r.timing 28 : Nat) * refi
  (num * 65536 / (800000000 * refi)).toNat

/-- The words of TIMING as bytes. -/
def Rd.timingBytes (r : Rd) : List Byte := r.bytes (r.dram + 0x10) 128

/-- DRAM registers from the image. -/
def Part.loadDram (p : Part) : Part :=
  let r := p.img
  let q := ((p.put F.DMC_CFG_DENSITY r.density).put F.DMC_CFG_RANKS (r.ranks - 1)).put F.DMC_CFG_RATE r.dramRate
  let q := q.each (List.range 32) (fun q i => q.put (F.DMC_TIMING_VALUE i) (r.timing i))
  let q := q.each (List.range 9) (fun q k =>
    let lat := if k = 0 then 1000 else if r.qos k 8 = 0 then 2000 else r.qos k 8
    (q.put (F.DMC_RES_MBPS_MBPS k) (r.qos k 4)).put (F.DMC_LAT_NS_NS k) lat)
  let q := (q.put F.DMC_WEED_HOURS_HOURS r.weedHours).put F.DMC_ETA_ETA r.eta
  let q := (q.put F.DMC_CTRL_NBR_K r.nbrK).put F.DMC_CTRL_RFM_ALWAYS (if r.rfmAlways then 1 else 0)
  (q.set F.DMC_CTRL_EN).set F.DMC_CTRL_WEED_EN

/-- Step 8: train from the cache or fully; false when training fails, and the Frexia enters the bare state. -/
def Part.dramStart (p : Part) (env : BootEnv) : Part × Bool :=
  let r := p.img
  let key := (r.dramRate, r.density, r.ranks, Crypto.sha256 r.timingBytes)
  let q := p.loadDram
  if !r.trainFull && p.dmc.cache == some key && env.eyeOk then
    (((q.set F.DMC_STATUS_TRAINED).set F.DMC_STATUS_FROM_CACHE).set F.DMC_TRAIN_STAT_CACHE_VALID, true)
  else if env.trainOk then
    (((q.modDmc (fun u => { u with cache := some key })).set F.DMC_STATUS_TRAINED).set F.DMC_TRAIN_STAT_CACHE_VALID, true)
  else (q.set F.DMC_TRAIN_STAT_FAIL, false)

/-! Step 9: owners (R29, R62, R416; the step is assumption 48). -/

/-- The bed banks of plot `k`. -/
def Part.loadBanks (p : Part) (k : Nat) : Part :=
  match p.img.plotRec k with
  | none => p
  | some o => p.each (List.range 64) (fun q b => q.put64 (F.BED_OWN_LO_BANKS b (k - 1)) (F.BED_OWN_HI_BANKS b (k - 1)) (q.img.banksOf o b))

/-- Owners of banks, Barrow channels and Sundial timers. -/
def Part.loadOwners (p : Part) : Part :=
  let q := p.each ((List.range 8).map (· + 1)) Part.loadBanks
  let q := q.each (List.range 64) (fun q c => q.put (F.BRW_CH_OWNER_PLOT c) (q.img.channelOwner c))
  q.each (List.range 64) (fun q c => q.put (F.SDL_TMR_OWNER_PLOT c) (q.img.timerOwner c))

/-! Resets below power-on. -/

/-- A register of block `b` of register space. -/
def inBlock (b a : Nat) : Bool := a / 0x100000 == b
/-- The host ring registers. -/
def isHostRing (a : Nat) : Bool := decide (0x710000 ≤ a) && decide (a < 0x719000)

/-- The always-on registers that RESET_N and Replant keep (R596, R610). -/
def keptByReset (a : Nat) : Bool :=
  inBlock 9 a || a == R.SDL_STATUS || a == R.SDL_EVENTS || a == R.SDL_RATE || a == R.SDL_TICK || a == R.SDL_HOLD_AGE ||
    a == R.PWR_WAKE_EN || a == R.PWR_WAKE_CAUSE || a == R.PWR_ALARM_LO || a == R.PWR_ALARM_HI || a == R.PWR_FROST_COUNT ||
    a == R.FLT_STATUS || a == R.FLT_WDOG_COUNT || a == R.KEY_FUSES || (List.range 9).any (fun k => a == R.KEY_MEM_GEN k)

/-- What a Replant keeps besides: the endpoint, the host rings, and the retention registers (R597, R610). -/
def keptByReplant (a : Nat) : Bool :=
  inBlock 13 a || isHostRing a ||
    (List.range 9).any (fun k => a == R.STK_JOB_NEXT k || a == R.HVS_P_SEAL_JOB k || a == R.TRL_S_JOB k || a == R.TRL_S_FCTR_LO k ||
      a == R.TRL_S_FCTR_HI k)

/-- The part after RESET_N or a Replant's reset, before boot step 3. -/
def Part.afterReset (p : Part) (_t : Nat) (replant : Bool) : Part :=
  let keep := fun a => keptByReset a || (replant && keptByReplant a)
  let q : Part := { Part.init with
    regs := FMap.only keep p.regs, mem := p.mem, nor := p.nor, pins := p.pins,
    sdl := { p.sdl with shadows := [], held := [], stepLo := 0, caps := [] },
    boot := p.boot, wdog := { p.wdog with armed := false, paused := false, stage1 := none }, mtr := p.mtr,
    dmc := { DmcUnit.init with cache := p.dmc.cache },
    jobs := { JobUnit.init with cmdSeq := if replant then p.jobs.cmdSeq else [] },
    out := p.out, free := p.free }
  let q := if replant then
      q.each (List.range 9) (fun q k => ((q.put (F.HR_PROD_INDEX k) 0).put (F.HR_CONS_INDEX k) 0).clr (F.HR_STAT_READY k))
    else q
  q.put F.PWR_RESET_CAUSE_LAST (if replant then 2 else 1)

end Sys2Proof.Machine
end

