-- ==== Sys2Proof/Machine/Boot.lean ====
section
/-! DEFINITION. Boot steps 1 to 9, the bare state, Replant orders and the hardening-off window (05_boot_hardening). -/

namespace Sys2Proof.Machine

/-! Orders and outcomes. -/

/-- A Replant order: the preferred of one tick is taken; an order while REPLANT_PENDING is set is discarded (R129). -/
def Part.orderReplant (p : Part) (o : Order) : Part :=
  if p.on F.SHD_BOOT_STATE_REPLANT_PENDING then p
  else p.modBoot (fun b => match b.order with
    | some e => if e.rank ≤ o.rank then b else { b with order := some o }
    | none => { b with order := some o })

/-- The running slot: 0 A, 1 B, 3 none. -/
def Part.slot (p : Part) : Nat := p.get F.SHD_BOOT_STATE_SLOT
/-- IMAGE_SEQ of the running image. -/
def Part.runSeq (p : Part) : Nat := p.get F.SHD_RUN_SEQ_IMAGE_SEQ
/-- CUST_VERSION of the running image. -/
def Part.runCust (p : Part) : Nat := p.get F.SHD_RUN_CUST_CUST_VERSION

/-- Close the window. -/
def Part.windowClose (p : Part) : Part :=
  ((p.modBoot (fun b => { b with windowOpen := false, windowTicks := 0 })).put F.SHD_HARD_REMAIN_SECONDS 0).clr
    F.SHD_BOOT_STATE_ACCEPT_DUE

/-- The window, or a boot in its place, fails: HARDENING_FAILED is written, then a Replant to return is ordered (R125, R131). -/
def Part.hardeningFailed (p : Part) (t code metric count : Nat) : Part :=
  let q := p.ledger t 0x07 p.slot code p.runSeq p.runCust (toLe 2 metric ++ toLe 2 0 ++ toLe 4 count)
  let q := (q.config t 0 6 1 0xFFFF 0 code 0).showSlots
  (q.windowClose.modBoot (fun b => { b with leaving := some (p.slot, p.runSeq) })).orderReplant { rank := 1, code := 5 }

/-- The window passes: HARDENING_PASSED (R124); the image is PASSED from then on. -/
def Part.hardeningPassed (p : Part) (t : Nat) : Part :=
  let q := p.ledger t 0x06 p.slot 0 p.runSeq p.runCust []
  let q := (q.config t 0 6 0 0xFFFF 0 0 0).showSlots
  q.windowClose.put F.SHD_BOOT_STATE_MODE 3

/-- The count of criterion `i` (R95). -/
def Part.critValue (p : Part) (i : Nat) : Nat :=
  FMap.get (fun _ => 0) p.boot.metrics (p.img.critMetric i * 16 + p.img.critPlot i)

/-- The first criterion with CMP 0 whose count exceeds LIMIT (R123). -/
def Part.critExceeded (p : Part) : Option Nat :=
  (List.range p.img.critCount).find? (fun i => p.img.critCmp i == 0 && decide (p.img.critLimit i < p.critValue i))

/-- The first criterion with CMP 1 whose count is below LIMIT on the last tick (R123). -/
def Part.critShort (p : Part) : Option Nat :=
  (List.range p.img.critCount).find? (fun i => p.img.critCmp i == 1 && decide (p.critValue i < p.img.critLimit i))

/-- Criteria with CMP 0 are compared at every tick of the window (R123). -/
def Part.critTick (p : Part) (t : Nat) : Part :=
  if p.boot.windowOpen then
    match p.critExceeded with
    | some i => p.hardeningFailed t i (p.img.critMetric i) (p.critValue i)
    | none => p
  else p

/-- The last tick of the window: CMP 1 criteria, then acceptance (R123, R124). -/
def Part.windowEnd (p : Part) (t : Nat) : Part :=
  match p.critExceeded.or p.critShort with
  | some i => p.hardeningFailed t i (p.img.critMetric i) (p.critValue i)
  | none =>
    if p.img.acceptRequired && !p.boot.accepted then p.hardeningFailed t 0xFD 0 0 else p.hardeningPassed t

/-! Boot steps. -/

/-- Enter the bare state (R111, R618). -/
def Part.enterBare (p : Part) : Part :=
  let q := p.modBoot (fun b => { b with phase := .bare, failed := true })
  let q := ((q.put F.SHD_BOOT_STATE_MODE 1).put F.SHD_BOOT_STATE_SLOT 3).put F.SHD_RUN_SEQ_IMAGE_SEQ 0
  ((q.put F.SHD_RUN_CUST_CUST_VERSION 0).bootFault 0).clearBootFaults true

/-- Step 5: copy a slot's image into the Seed Bank; no byte at or beyond IMAGE_LEN is read (R73, R113). -/
def Part.copyImage (p : Part) (s : Nat) : Part :=
  let r := p.norRd (slotBase s)
  (p.zero seedBase 0x1000000).store seedBase (r.bytes 0 r.imageLen)

/-- Step 7: SLOT_CHOSEN, which holds 0 for another slot that is EMPTY or was refused at this boot (assumption 61), RETURNED, the image's identity, the endpoint and the calibration record (R100, R106, R125, R550). -/
def Part.chosen (p : Part) (t s : Nat) (passed lastResort : Bool) (refused : List Nat) : Part :=
  let r := p.img
  let other := 1 - s
  let otherSeq := if p.slotEmpty other || refused.contains other then 0 else (p.norRd (slotBase other)).imageSeq
  let q := p.ledger t 0x02 s 0 r.imageSeq r.custVersion (toLe 4 otherSeq)
  let q := match p.boot.leaving with
    | some (l, seq) =>
      if l ≠ s then ((q.ledger t 0x09 s 0 r.imageSeq r.custVersion (toLe 4 seq)).bootFault 3) else q
    | none => q
  let q := ((q.put F.SHD_BOOT_STATE_SLOT s).put F.SHD_RUN_SEQ_IMAGE_SEQ r.imageSeq).put
    F.SHD_RUN_CUST_CUST_VERSION r.custVersion
  let q := q.modBoot (fun b => { b with leaving := none, wasPassed := passed, lastResort := lastResort })
  let q := q.iff lastResort (·.bootFault 1)
  let q := q.iff (!r.pcieEpOn) (fun x => x.resetRegs (fun a => a == R.PEP_LINK))
  (q.loadPlatform.meterStart t).showSlots

/-- Steps 5 and 6 over the candidates of R110: the first image that checks is chosen; a refused one is recorded. -/
def Part.tryCandidates (p : Part) (t : Nat) (refused : List Nat) : List (Nat × Bool × Bool) → Option Part × Part
  | [] => (none, p)
  | (s, passed, last) :: rest =>
    let q := p.copyImage s
    match imageCheck q.img with
    | none => (some (q.chosen t s passed last refused), q)
    | some (code, off) =>
      Part.tryCandidates (q.ledger t 0x03 s code q.img.imageSeq q.img.custVersion (toLe 4 off)) t (s :: refused) rest

/-- The candidates of R110 in order: slots neither EMPTY nor SPURNED, then SPURNED ones as a last resort; each with whether
it is PASSED and whether it would run in the last-resort state. -/
def Part.candidates (p : Part) : List (Nat × Bool × Bool) :=
  let seq := fun s => (p.norRd (slotBase s)).imageSeq
  let order := if seq 0 < seq 1 then [1, 0] else [0, 1]
  (order.filter (fun s => p.slotState s == 1 || p.slotState s == 2)).map (fun s => (s, p.slotState s == 2, false)) ++
    (order.filter (fun s => p.slotState s == 3)).map (fun s => (s, false, true))

/-- Step 9: memory keys for plots 0 to 8, then every byte of DRAM and of the bed stores zero under them (R139, R457). -/
def Part.deriveAll (p : Part) : Part :=
  let q := p.each (List.range 9) Part.deriveMemKey
  { q with mem := FMap.only (fun k => decide (seedBase ≤ k) && decide (k < seedBase + 0x1000000)) q.mem }

/-- Steps 3 to 9 of a boot with BOOT code `code` (R105). What ends a boot early enters the bare state. -/
def Part.bootFrom (p : Part) (t code : Nat) (env : BootEnv) : Part :=
  let q := p.modBoot (fun b => { b with noImages := !env.sfdpOk, faultSet := 0, failed := false, order := none, replantCode := 0, drained := false })
  let q := (q.put F.SHD_BOOT_STATE_MODE 0).put F.SHD_BOOT_STATE_CAUSE code
  let q := q.put F.SHD_LEDGER_SEQ_SEQ q.ledLast
  let full := q.ledLast = 0xFFFFFFFF
  let q := match q.wdog.failDue with
    | some (s, seq, cust) =>
      ((q.ledger t 0x07 s 0xFE seq cust (toLe 2 1 ++ toLe 2 0 ++ toLe 4 1)).modWdog
        (fun w => { w with failDue := none })).modBoot (fun b => { b with leaving := some (s, seq) })
    | none => q
  let q := (q.modWdog (fun w => { w with causeFlag := false })).ledger t 0x01 0xFF code 0 0
    (toLe 4 revCode ++ toLe 4 Config.romVersion.toNat)
  let q := (q.modBoot (fun b => { b with bootSeq := q.get F.SHD_LEDGER_SEQ_SEQ })).showSlots
  if full || !env.sfdpOk then q.enterBare
  else
    match q.tryCandidates t [] q.candidates with
    | (none, r) => r.showSlots.enterBare
    | (some r, _) =>
      let d := r.dramStart env
      if !d.2 then d.1.enterBare
      else if !env.rngOk then (d.1.set F.KEY_ERR_RNG_FAIL).enterBare
      else (d.1.deriveAll.loadOwners.each d.1.plotIds (fun q k => q.put (F.PLT_STATE_STATE k) 1)).modBoot (fun b => { b with phase := if d.1.img.nvmeOn then .nvme else .loads })

/-- What a reset below POR interrupts: a window that is open, with its return; the image left is remembered (R126). -/
def Part.resetTo (p : Part) (t : Nat) (replant : Bool) (phase : Phase) : Part :=
  let q := (p.sdlAfterReset t).afterReset t replant
  q.modBoot (fun b => { b with phase := phase, session := none, timedOut := false, windowOpen := false, windowTicks := 0,
                               accepted := false, drained := false })

/-! Mailbox (R116 to R119, R130). -/

/-- The host writes a command: discarded with OVERRUN while BUSY (R130). -/
def Part.mbxWrite (p : Part) (op tag : Nat) (args : List Word) : Part :=
  if p.on F.SHD_MBX_STATUS_BUSY then p.set F.SHD_MBX_STATUS_OVERRUN
  else
    let q := (List.range args.length).foldl (fun (q : Part) i => q.setReg (R.SHD_MBX_ARG i) (args.getD i 0)) p
    ((q.put F.SHD_MBX_CMD_OP op).put F.SHD_MBX_CMD_TAG tag).set F.SHD_MBX_STATUS_BUSY

/-- Complete the command: RESULT, RET and TAG, BUSY clears, and vector 9 is sent (R497). -/
def Part.mbxDone (p : Part) (result ret : Nat) : Part :=
  let q := (p.put F.SHD_MBX_STATUS_RESULT result).put F.SHD_MBX_RET_RET ret
  ((q.put F.SHD_MBX_STATUS_TAG (p.get F.SHD_MBX_CMD_TAG)).clr F.SHD_MBX_STATUS_BUSY).msi 9

/-- The slot that does not hold the running image; slot A in the bare state (R117). -/
def Part.inactive (p : Part) : Nat := if p.slot = 0 then 1 else 0

/-- NOR base and region size of a staging target. -/
def Part.target (p : Part) (k : Nat) : Nat := if k = 0 then slotBase p.inactive else calBase

/-- Round up to 4 KiB. -/
def roundSector (n : Nat) : Nat := (n + 4095) / 4096 * 4096

/-- STAGE_BEGIN (R116, R119). -/
def Part.stageBegin (p : Part) (t a0 a1 : Nat) : Part :=
  if a0 = 0 ∧ p.boot.windowOpen then p.mbxDone 3 0
  else if 1 < a0 ∨ (a0 = 0 ∧ 0x1000000 < a1) ∨ (a0 = 1 ∧ 0x10000 < a1) then p.mbxDone 2 0
  else
    let q := p.eraseNor (p.target a0) (roundSector a1)
    ((q.modBoot (fun b => { b with session := some { target := a0, size := a1, lastAt := t } })).set
      F.SHD_BOOT_STATE_STAGING).mbxDone 0 0

/-- The first `n` bytes of the mailbox buffer. -/
def Part.mbxBytes (p : Part) (n : Nat) : List Byte :=
  ((List.range ((n + 3) / 4)).map (fun i => toLe 4 (p.reg (R.SHD_MBX_BUF i)).toNat)).flatten.take n

/-- STAGE_WRITE: program and read back (R116). -/
def Part.stageWrite (p : Part) (s : Session) (a0 a1 : Nat) : Part :=
  if a0 % 256 ≠ 0 ∨ a1 % 4 ≠ 0 ∨ a1 < 4 ∨ 32768 < a1 ∨ roundSector s.size < a0 + a1 then p.mbxDone 2 0
  else
    let d := p.mbxBytes a1
    let q := p.program (p.target s.target + a0) d
    q.mbxDone (if (List.range a1).map (fun i => q.norByte (q.target s.target + a0 + i)) = d then 0 else 5) 0

/-- Checks of STAGE_END on a slot: 0x01 to 0x04, then IMAGE_SEQ above the running image's as code 0x09 (R116). -/
def Part.stagedCheck (p : Part) (r : Rd) : Option (Nat × Nat) :=
  (headChecks r).or (if r.imageSeq ≤ p.runSeq then some (0x09, 0x10) else none)

/-- STAGE_END (R116). -/
def Part.stageEnd (p : Part) (t : Nat) (s : Session) (a0 : Nat) : Part :=
  if roundSector s.size < a0 then p.mbxDone 2 0
  else
    let q := (p.modBoot (fun b => { b with session := none })).clr F.SHD_BOOT_STATE_STAGING
    if s.target = 0 then
      let sl := p.inactive
      let r := p.norRd (slotBase sl)
      match p.stagedCheck r with
      | none => ((q.ledger t 0x0A sl 0 r.imageSeq r.custVersion (Crypto.sha256 (r.bytes 0 r.imageLen))).showSlots).mbxDone 0 0
      | some (code, off) => ((q.ledger t 0x03 sl code r.imageSeq r.custVersion (toLe 4 off)).showSlots).mbxDone 4 code
    else
      let c := calCheck (p.norRd calBase)
      if c = 0 then (q.ledger t 0x0B 0xFF 0 0 0 []).mbxDone 0 0 else q.mbxDone 4 c

/-- An explicit rollback (R128): by the host (0) or a rule (1); false when it is refused. -/
def Part.rollback (p : Part) (t source : Nat) : Bool × Part :=
  let other := p.inactive
  if p.on F.SHD_BOOT_STATE_REPLANT_PENDING || p.slotState other != 2 || p.slot == 3 then (false, p)
  else
    let q := (p.ledger t 0x08 p.slot source p.runSeq p.runCust []).showSlots
    (true, (q.modBoot (fun b => { b with leaving := some (p.slot, p.runSeq) })).orderReplant { rank := 2, code := 5 })

/-- ACCEPT (R123): only within the window, naming the running IMAGE_SEQ. -/
def Part.accept (p : Part) (a0 : Nat) : Part :=
  if p.boot.windowOpen && a0 == p.runSeq then
    ((p.modBoot (fun b => { b with accepted := true })).clr F.SHD_BOOT_STATE_ACCEPT_DUE).mbxDone 0 0
  else p.mbxDone 3 0

/-- LEDGER_READ: up to 512 committed records with SEQ at or above ARG0, in SEQ order, into the buffer (R116). -/
def Part.ledgerRead (p : Part) (a0 : Nat) : Part :=
  let l := (p.ledAll.filter (fun a => decide (a0 ≤ p.ledSeq a))).take 512
  let ws := (l.map (fun a => (List.range 16).map (fun i => (p.norRd a).u32 (4 * i)))).flatten
  (p.logWords R.SHD_MBX_BUF 0 ws).mbxDone 0 l.length

/-- What the mailbox serves in the current state: none when the state refuses the opcode (R111, R118). -/
def Part.mbxServes (p : Part) (op : Nat) : Bool :=
  if p.boot.session.isSome then op == 2 || op == 3 || op == 8
  else if p.boot.phase == .bare then op == 1 || op == 2 || op == 3 || op == 4 || op == 8
  else true

/-- Carry out one mailbox command (R116). -/
def Part.mbxCommand (p : Part) (t op a0 a1 : Nat) : Part :=
  if !p.mbxServes op then p.mbxDone 3 0
  else match op with
    | 1 => p.stageBegin t a0 a1
    | 2 => match p.boot.session with
      | some s => (p.modBoot (fun b => { b with session := some { s with lastAt := t } })).stageWrite s a0 a1
      | none => p.mbxDone 3 0
    | 3 => match p.boot.session with
      | some s => (p.modBoot (fun b => { b with session := some { s with lastAt := t } })).stageEnd t s a0
      | none => p.mbxDone 3 0
    | 4 => if p.on F.SHD_BOOT_STATE_REPLANT_PENDING then p.mbxDone 3 0
      else (p.orderReplant { rank := 3, code := 2 }).mbxDone 0 0
    | 5 => let r := p.rollback t 0
      r.2.mbxDone (if r.1 then 0 else 3) 0
    | 6 => p.accept a0
    | 7 => if p.on F.SDL_STATUS_LOCKED then p.mbxDone 3 0 else (p.setTime t (a0 + 2 ^ 32 * a1)).mbxDone 0 0
    | 8 => (p.modBoot (fun b => { b with session := b.session.map (fun s => { s with lastAt := t }) })).ledgerRead a0
    | _ => p.mbxDone 1 0

/-- The Shed services the waiting mailbox command at the tick (R116); after a session timeout it answers RESULT 6 (R118). -/
def Part.mbxService (p : Part) (t : Nat) : Part :=
  if p.on F.SHD_MBX_STATUS_BUSY then
    if p.boot.timedOut then (p.modBoot (fun b => { b with timedOut := false })).mbxDone 6 0
    else p.mbxCommand t (p.get F.SHD_MBX_CMD_OP) (p.get (F.SHD_MBX_ARG_ARG 0)) (p.get (F.SHD_MBX_ARG_ARG 1))
  else p

end Sys2Proof.Machine
end

