-- ==== Sys2Proof/Machine/Watchdog.lean ====
section
/-! DEFINITION. The watchdog (R628 to R632, R639) and the thermal detector (R633). -/

namespace Sys2Proof.Machine

/-- The watchdog arms with WDOG_MS (R628). -/
def Part.wdogArm (p : Part) : Part :=
  (p.modWdog (fun w => { w with armed := true })).put F.FLT_WDOG_STAT_REMAIN (p.get F.FLT_WDOG_CFG_MS)

/-- It disarms (R628). -/
def Part.wdogDisarm (p : Part) : Part :=
  ((p.modWdog (fun w => { w with armed := false, stage1 := none })).put F.FLT_WDOG_STAT_REMAIN 0).clr F.FLT_WDOG_STAT_STAGE1

/-- One tick of the counter, and of stage 1 (R628, R631). -/
def Part.wdogTick (p : Part) : Part :=
  let q := p.modWdog (fun w => { w with stage1 := w.stage1.map (· + 1) })
  if p.wdog.armed && !p.wdog.paused && p.wdog.stage1.isNone then
    q.put F.FLT_WDOG_STAT_REMAIN (p.get F.FLT_WDOG_STAT_REMAIN - 1) else q

/-- A kick reloads the counter, unless it has reached 0 (R629, R639). -/
def Part.wdogKick (p : Part) : Part :=
  if p.wdog.armed && p.get F.FLT_WDOG_STAT_REMAIN != 0 then
    (p.put F.FLT_WDOG_STAT_REMAIN (p.get F.FLT_WDOG_CFG_MS)).put F.FLT_WDOG_STAT_LIVE 0 else p

/-- A liveness source checks in; at a tick core 0 kicks once all six have (R629). -/
def Part.checkin (p : Part) (mask : Nat) : Part :=
  let q := p.put F.FLT_WDOG_STAT_LIVE (p.get F.FLT_WDOG_STAT_LIVE ||| mask % 64)
  if q.get F.FLT_WDOG_STAT_LIVE = 63 then q.wdogKick else q

/-- The watchdog counter has reached 0. -/
def Part.wdogDue (p : Part) : Bool :=
  p.wdog.armed && !p.wdog.paused && p.wdog.stage1.isNone && p.get F.FLT_WDOG_STAT_REMAIN == 0

/-- Stage 1 (R630, R632): once; Shed management core 0 serves its interrupt, or is stalled and leaves HARDENING_FAILED 0xFE due. -/
def Part.wdogStage1 (p : Part) (t : Nat) (served : Bool) : Part :=
  if p.wdog.stage1.isSome then p
  else
    let q := (p.modWdog (fun w => { w with stage1 := some 0 })).set F.FLT_WDOG_STAT_STAGE1
    let q := (((q.setFault 2).addSat F.FLT_WDOG_COUNT_COUNT 1).fltEvent 5).metric 1 0 1
    let q := q.emit .nmi
    if served then
      let q := if q.boot.windowOpen then q.hardeningFailed t 0xFE 1 (FMap.get (fun _ => 0) q.boot.metrics 16) else q
      q.orderReplant { rank := 0, code := 4 }
    else if q.boot.windowOpen then
      q.modWdog (fun w => { w with failDue := some (q.slot, q.runSeq, q.runCust) })
    else q

/-- Stage 2 is due: 100 ticks of stage 1 without REPLANT_PENDING (R631). -/
def Part.stage2Due (p : Part) : Bool :=
  (match p.wdog.stage1 with
    | some n => decide (100 ≤ n)
    | none => false) && !p.on F.SHD_BOOT_STATE_REPLANT_PENDING

/-- Stage 2: the reset of quiesce step 4, directly (R631). -/
def Part.wdogStage2 (p : Part) (t : Nat) (env : BootEnv) : Part :=
  let q := p.wdogDisarm.modWdog (fun w => { w with causeFlag := true })
  (q.resetTo t true .resetHeld).bootFrom t 4 env

/-- THERMTRIP_N asserts (R633). -/
def Part.thermtrip (p : Part) : Part := p.modPins (fun u => { u with thermtrip := true })

/-- FLT_STATUS.TEMP_HI (R633). -/
def Part.tempHi (p : Part) (hot : Bool) : Part := p.put F.FLT_STATUS_TEMP_HI (if hot then 1 else 0)

end Sys2Proof.Machine
end

