-- ==== Sys2Proof/Machine/Dram.lean ====
section
/-! DEFINITION. The DRAM controller (16_dram): address mapping, reservation buckets, the check caches, ECC outcomes, refresh,
row-disturbance defence, the Weeder and Wilt. Memory holds plaintext; what a read meets is the command's operand. -/

namespace Sys2Proof.Machine

/-! Address mapping (R28, R461). -/

/-- The system physical address of a byte of plot `k`'s window; plot 0's addresses are system physical (R28). -/
def Part.sysAddr (p : Part) (k a : Nat) : Nat :=
  let n := p.img.usable / 2 ^ 21
  if k = 0 ∨ n = 0 then a else (Config.granule k (a / 2 ^ 21)).toNat % n * 2 ^ 21 + a % 2 ^ 21

/-- Where a usable system physical address lies in the devices. -/
structure DramAt where
  q : Nat
  s : Nat
  ch : Nat
  bank : Nat
  slot : Nat
  rank : Nat
  row : Nat
  col : Nat
  deriving DecidableEq, Repr

/-- The mapping of R461 for a group and burst, with one or two ranks. -/
def dramGroup (ranks q s : Nat) : DramAt :=
  { q := q, s := s, ch := (q % 4) ^^^ (q / 4096 % 4), bank := (q / 4 % 16) ^^^ (q / 16384 % 16), slot := q / 64 % 8,
    rank := if ranks = 2 then q / 512 % 2 else 0, row := q / (if ranks = 2 then 1024 else 512), col := q / 64 % 8 * 8 + s }

/-- The mapping of an address (R461). -/
def dramAt (ranks a : Nat) : DramAt := dramGroup ranks (a / 64 / 7) (a / 64 % 7)

/-- Ranks fitted, as DMC_CFG holds them. -/
def Part.dmcRanks (p : Part) : Nat := if p.on F.DMC_CFG_RANKS then 2 else 1
/-- Rows of a bank (R450). -/
def Part.dmcRows (p : Part) : Nat := 16384 * 2 ^ p.get F.DMC_CFG_DENSITY
/-- Groups of the installed DRAM: 512 bytes each. -/
def Part.dmcGroups (p : Part) : Nat := p.img.installedGib * 2 ^ 21
/-- A DMC_TIMING value. -/
def Part.dmcTime (p : Part) (i : Nat) : Nat := p.get (F.DMC_TIMING_VALUE i)

/-- The controller serves requests: enabled, and not in self-refresh. -/
def Part.dmcOn (p : Part) : Bool := p.on F.DMC_CTRL_EN && !p.on F.DMC_STATUS_SELF_REFRESH

/-- The plot whose window holds a system physical address; 0 for every other granule (R452). -/
def Part.unitOwner (p : Part) (a : Nat) : Nat :=
  ((List.range 9).find? (fun k => k != 0 && (List.range (p.img.window k / 2 ^ 21)).any (fun i =>
    p.sysAddr k (i * 2 ^ 21) / 2 ^ 21 == a / 2 ^ 21))).getD 0

/-! Reservation buckets (R465, R527). -/

/-- A bucket brought up to date: `mbps` thousandths of a byte a nanosecond, capped at 4 us worth. -/
def Bucket.fill (b : Bucket) (t mbps : Nat) : Bucket :=
  let m := min ((4000 * mbps : Nat) : Int) (b.milli + (mbps * (t - b.at_) : Nat))
  { milli := m, at_ := t, denied := b.denied && decide (m ≤ 0) }

/-- Charge `n` bursts or flits of 64 bytes. -/
def Bucket.charge (b : Bucket) (n : Nat) : Bucket := { b with milli := b.milli - (64000 * n : Nat) }

/-- A plot's DRAM bucket, up to date. -/
def Part.dmcBucket (p : Part) (t k : Nat) : Bucket :=
  (FMap.get Bucket.init p.dmc.buckets k).fill t (p.get (F.DMC_RES_MBPS_MBPS k))

/-- A real-time port of the plot loses its Wilt priority. -/
def Part.wiltDenied (p : Part) (k : Nat) : Part := (p.addSat (F.DMC_WILT_DENIED_COUNT k) 1).set F.DMC_EVENTS_WILT_DENIED

/-- Charge bursts to a plot (R460, R465): its bucket, and DMC_RES_SERVED. `wilt` where a real-time port with Wilt asked. -/
def Part.dmcCharge (p : Part) (t k bursts : Nat) (wilt : Bool) : Part :=
  let mbps := p.get (F.DMC_RES_MBPS_MBPS k)
  let b := (p.dmcBucket t k).charge bursts
  let denied := if 0 < b.milli then false else b.denied || decide (b.milli < -((4000 * mbps : Nat) : Int))
  let n := FMap.get (fun _ => 0) p.dmc.served k + bursts
  let q := (p.modDmc (fun u => { u with
    buckets := FMap.put Bucket.init u.buckets k { b with denied := denied },
    served := FMap.put (fun _ => 0) u.served k (n % 1024) })).add (F.DMC_RES_SERVED_COUNT k) (n / 1024)
  if wilt && denied && !b.denied then q.wiltDenied k else q

/-! Row-disturbance defence (R470, R471). -/

/-- Key of a bank among the rolling activate counts. -/
def DramAt.bankKey (d : DramAt) : Nat := (d.ch * 2 + d.rank) * 16 + d.bank

/-- RFM is issued once a bank's count reaches RAAIMT, where it is required (R471). -/
def Part.rfm (p : Part) (d : DramAt) : Part :=
  let n := FMap.get (fun _ => 0) p.dmc.raa d.bankKey
  let im := p.dmcTime 29
  if (p.on F.DMC_CTRL_RFM_ALWAYS || Config.rfmRequired == 1) && im != 0 && decide (im ≤ n) then
    (p.modDmc (fun u => { u with raa := FMap.put (fun _ => 0) u.raa d.bankKey (n - im) })).add F.DMC_RFM_COUNT_COUNT 1
  else p

/-- One activate: it draws, and with probability 2^-k activates the row's neighbours too; every activate counts (R470, R471). -/
def Part.activate (p : Part) (d : DramAt) : Part :=
  let x := p.freshBelow (2 ^ p.get F.DMC_CTRL_NBR_K)
  let near := (if d.row = 0 then 0 else 1) + (if d.row + 1 < p.dmcRows then 1 else 0)
  let n := FMap.get (fun _ => 0) x.2.dmc.raa d.bankKey + 1 + (if x.1 = 0 then near else 0)
  ((x.2.modDmc (fun u => { u with raa := FMap.put (fun _ => 0) u.raa d.bankKey n })).add F.DMC_NBR_COUNT_COUNT 1).rfm d

/-- `n` activates of a row: every column command precharges (R449). -/
def Part.activates (d : DramAt) : Nat → Part → Part
  | 0, p => p
  | n + 1, p => Part.activates d n (p.activate d)

/-! Check caches (R459). -/

/-- The check cache of a channel after an access to group `q`, and the bursts that takes: a miss reads, and a write that misses
allocates, writing a dirty victim back. -/
def checkTouch (l : List (Nat × Bool)) (q : Nat) (write : Bool) : Nat × List (Nat × Bool) :=
  match l.find? (fun e => e.1 == q) with
  | some e => (0, (q, e.2 || write) :: l.filter (fun x => x.1 != q))
  | none =>
    if write then
      let victim := if l.length < 64 then none else l.getLast?
      let wb := match victim with
        | some (_, true) => 1
        | _ => 0
      (1 + wb, (q, true) :: l.take 63)
    else (1, l)

/-- Touch the check cache of a group's channel. -/
def Part.checkCache (p : Part) (d : DramAt) (write : Bool) : Nat × Part :=
  let r := checkTouch (FMap.get (fun _ => []) p.dmc.check d.ch) d.q write
  (r.1, p.modDmc (fun u => { u with check := FMap.put (fun _ => []) u.check d.ch r.2 }))

/-! Corrected-word rewrites (R458, R478, R626). -/

/-- The rewrites that wait are issued ahead of the next request: one burst each, charged to the unit's owner. -/
def Part.issueRewrites (p : Part) (t : Nat) : Part :=
  p.dmc.rewrites.foldl (fun (q : Part) u =>
    (Part.activates (dramAt q.dmcRanks (u * 64)) 1 q).dmcCharge t (q.unitOwner (u * 64)) 1 false)
    (p.modDmc (fun u => { u with rewrites := [] }))

/-! Errors (R458). -/

/-- DMC_ERR names the unit, the source and the word. -/
def Part.dmcErr (p : Part) (a : Nat) (ue : Bool) (source word : Nat) : Part :=
  let q := (p.put F.DMC_ERR_ADDR_LO_ADDR (a / 64 * 64)).put F.DMC_ERR_ADDR_HI_ADDR (a / 2 ^ 32)
  (((q.put F.DMC_ERR_INFO_UE (if ue then 1 else 0)).put F.DMC_ERR_INFO_SOURCE source).put F.DMC_ERR_INFO_PLOT (p.unitOwner a)).put
    F.DMC_ERR_INFO_WORD word

/-- Count and log an outcome; a corrected unit waits for its rewrite. -/
def Part.eccNote (p : Part) (a source : Nat) (o : EccOutcome) : Part :=
  match o with
  | .clean => p
  | .corrected w => (((p.addSat F.DMC_CE_COUNT_COUNT 1).set F.DMC_EVENTS_CE).dmcErr a false source w).modDmc (fun u => { u with
      rewrites := u.rewrites ++ [a / 64] })
  | .uncorrectable w => ((p.addSat F.DMC_UE_COUNT_COUNT 1).set F.DMC_EVENTS_UE).dmcErr a true source w

/-! Writes (R453, R454, R457). -/

/-- The write covers one aligned 64-byte unit or part of one, in DRAM. -/
def unitSpan (a n : Nat) : Bool := decide (0 < n) && decide (a % 64 + n ≤ 64)

/-- An access of a plot, or of plot 0, lies in its DRAM. -/
def Part.inDram (p : Part) (k a n : Nat) : Bool :=
  if k = 0 then decide (a + n ≤ p.img.usable) else decide (a + n ≤ p.img.window k)

/-- A write enters a channel write queue, and is performed (R453). A partial write merges; where its read stays uncorrectable the
unit is left unchanged, and the failure is an orphan (R454, R619), of a complete picture where decode wrote one (R221). -/
def Part.dramWrite (p : Part) (t : Nat) (w : Writer) (port : Option Nat) (a : Nat) (data : List Byte) (merge : EccOutcome) : Part :=
  let k := w.plot.val
  let sys := p.sysAddr k a
  let unit := sys / 64
  let d := dramAt p.dmcRanks sys
  let whole := data.length == 64
  let cleared := !p.dmc.touched.contains d.q
  let q := p.modDmc (fun u => { u with
    rewrites := u.rewrites.filter (· != unit),
    ahead := u.ahead.map (fun e => (e.1, e.2.filter (· != unit))) })
  let q := q.issueRewrites t
  let c := q.checkCache d true
  let bursts := 1 + c.1 + (if cleared then 6 else 0) + (if whole || cleared then 0 else 1)
  let wilt := match port with
    | some r => c.2.on (F.DMC_RT_WILT_ASSERTED r)
    | none => false
  let q := (Part.activates d bursts c.2).dmcCharge t k bursts wilt
  let o := if whole || cleared then EccOutcome.clean else merge
  let q := q.eccNote sys 1 o
  match o with
  | .uncorrectable _ =>
    let done := w.kind == .decode && (p.dec w.stream).pics.any (fun x => x.gen == w.gen && x.complete)
    q.orphan t (if done then 2 else 1) w a
  | _ =>
    let q := q.modDmc (fun u => { u with
      rewrites := u.rewrites.filter (· != unit), touched := if cleared then d.q :: u.touched else u.touched })
    match q.memKeys k a data.length true with
    | some ks => q.storeAt ks data
    | none => q

/-! Reads (R455, R458). -/

/-- A run-ahead read of the next unit into a port's 16-entry buffer (R455). -/
def Part.readAhead (p : Part) (t k port a : Nat) : Part :=
  let sys := p.sysAddr k a
  let d := dramAt p.dmcRanks sys
  let c := p.checkCache d false
  let q := (Part.activates d (1 + c.1) c.2).dmcCharge t k (1 + c.1) false
  q.modDmc (fun u => { u with
    ahead := FMap.put (fun _ => []) u.ahead port (((sys / 64) :: FMap.get (fun _ => []) u.ahead port).take 16) })

/-- A read returns (R458): from a run-ahead buffer, or from DRAM through the check cache; a cleared group reads only its check
burst (R457). Data that stays uncorrectable and that plot 0 firmware consumes starts watchdog stage 1 (R632). -/
def Part.dramRead (p : Part) (t : Nat) (r : Reader) (a : Nat) (o : EccOutcome) (ahead served : Bool) : Part :=
  let k := r.plot.val
  let sys := p.sysAddr k a
  let d := dramAt p.dmcRanks sys
  let hit := match r.port with
    | some x => (FMap.get (fun _ => []) p.dmc.ahead x).contains (sys / 64)
    | none => false
  let q := p.issueRewrites t
  let wilt := match r.port with
    | some x => q.on (F.DMC_RT_WILT_ASSERTED x)
    | none => false
  let q := if hit then
      q.modDmc (fun u => { u with ahead := u.ahead.map (fun e => if some e.1 = r.port then (e.1, e.2.filter (· != sys / 64)) else e) })
    else
      let c := q.checkCache d false
      let n := (if p.dmc.touched.contains d.q then 1 else 0) + c.1
      (Part.activates d n c.2).dmcCharge t k n wilt
  let q := q.eccNote sys (if hit then 3 else 0) o
  let q := match r.port with
    | some x => if ahead && decide (9 ≤ x ∧ x < 19) then q.readAhead t k x (a / 64 * 64 + 64) else q
    | none => q
  match o with
  | .uncorrectable _ => if k = 0 && (r.kind == .shed || r.kind == .gardener || r.kind == .appCore) then q.wdogStage1 t served else q
  | _ => q

/-! Refresh, ZQ and the DQS oscillator (R467, R468). -/

/-- Refreshes owed by a rank. -/
def owedFld (ch rank : Nat) : Fld := if rank = 0 then F.DMC_REF_OWED_RANK0 ch else F.DMC_REF_OWED_RANK1 ch

/-- `n` all-bank refreshes of a rank are issued: its activate counts drop, and what waits for a refresh window is done. -/
def Part.refresh (p : Part) (ch rank n : Nat) : Part :=
  let dec := p.dmcTime 31 * n
  let key := ch * 2 + rank
  p.modDmc (fun u => { u with
    raa := (List.range 16).foldl (fun m b => FMap.put (fun _ => 0) m (key * 16 + b) (FMap.get (fun _ => 0) m (key * 16 + b) - dec)) u.raa,
    zqDue := u.zqDue.filter (· != key), oscDue := u.oscDue.filter (· != key) })

/-- A rank's tREFI elapses: with no Wilt request queued for it every owed refresh is issued; at 8 owed one wins over Wilt. -/
def Part.refreshDue (p : Part) (ch rank : Nat) (wilt : Bool) : Part :=
  let n := p.get (owedFld ch rank) + 1
  if !wilt then (p.put (owedFld ch rank) 0).refresh ch rank n
  else if n < 8 then p.put (owedFld ch rank) n
  else (((p.put (owedFld ch rank) 7).refresh ch rank 1).add F.DMC_REF_FORCED_COUNT 1).set F.DMC_EVENTS_REF_FORCED

/-- The ranks fitted, on every channel. -/
def Part.dmcAllRanks (p : Part) : List (Nat × Nat) :=
  (List.range 4).flatMap (fun c => (List.range p.dmcRanks).map (fun r => (c, r)))

/-- Every owed refresh is issued. -/
def Part.refreshAll (p : Part) : Part :=
  p.dmcAllRanks.foldl (fun (q : Part) x =>
    let n := q.get (owedFld x.1 x.2)
    if n = 0 then q else (q.put (owedFld x.1 x.2) 0).refresh x.1 x.2 n) p

/-- A ZQ latch, or a DQS oscillator update, is appended to each rank's next refresh window (R468). -/
def Part.zqLatch (p : Part) : Part := p.modDmc (fun u => { u with zqDue := p.dmcAllRanks.map (fun x => x.1 * 2 + x.2) })
def Part.oscUpdate (p : Part) (drift : Nat) : Part :=
  let q := p.modDmc (fun u => { u with oscDue := p.dmcAllRanks.map (fun x => x.1 * 2 + x.2) })
  if p.dmcTime 17 < drift then q.set F.DMC_EVENTS_DRIFT else q

/-! Wilt (R463). -/

/-- OFF as it acts. -/
def Part.wiltOff (p : Part) (r : Nat) : Nat := min (p.get (F.DMC_RT_WILT_OFF r)) (p.get (F.DMC_RT_WILT_ON r))

/-- A port raises Wilt; while its plot's bucket denies it, that is a loss (R465). -/
def Part.wiltRaise (p : Part) (t r k : Nat) : Part :=
  let q := (p.set (F.DMC_RT_WILT_ASSERTED r)).add (F.DMC_RT_COUNT_COUNT r) 1
  let b := p.dmcBucket t k
  if b.denied then q.wiltDenied k else q

/-- A port drops Wilt; with none left, owed refreshes are issued back to back (R467). -/
def Part.wiltDrop (p : Part) (r : Nat) : Part :=
  let q := p.clr (F.DMC_RT_WILT_ASSERTED r)
  if (List.range 19).any (fun x => q.on (F.DMC_RT_WILT_ASSERTED x)) then q else q.refreshAll

/-! The Weeder (R473 to R475). -/

/-- Scrub period in ns. -/
def Part.weedNs (p : Part) : Nat := p.get F.DMC_WEED_HOURS_HOURS * 3600000000000

/-- WEED_LAG follows the pass's pace: set more than 1 % of the period behind, cleared when caught up. -/
def Part.weedLag (p : Part) (t : Nat) : Part :=
  let want := if p.weedNs = 0 then 0 else (t - p.dmc.weedAt) * p.dmcGroups / p.weedNs
  let pos := p.get F.DMC_WEED_POS_Q
  if want ≤ pos then p.clr F.DMC_STATUS_WEED_LAG
  else if p.dmcGroups / 100 < want - pos then p.set F.DMC_STATUS_WEED_LAG else p

/-- The Weeder reads its next group. -/
def Part.weed (p : Part) (t : Nat) (o : EccOutcome) : Part :=
  let g := p.get F.DMC_WEED_POS_Q
  let n := if p.dmc.touched.contains g then 8 else 1
  let q := Part.activates (dramGroup p.dmcRanks g 0) n (p.issueRewrites t)
  let word := match o with
    | .clean => 0
    | .corrected w => w
    | .uncorrectable w => w
  let q := q.eccNote ((g * 7 + word / 8) * 64) 2 o
  -- a corrected word that the Weeder finds is rewritten at once, charged to plot 0 (R474, R626)
  let q := match o with
    | .corrected _ => (q.modDmc (fun u => { u with rewrites := u.rewrites.dropLast })).dmcCharge t 0 1 false
    | _ => q
  let q := if g + 1 < p.dmcGroups then q.put F.DMC_WEED_POS_Q (g + 1)
    else ((q.put F.DMC_WEED_POS_Q 0).add F.DMC_WEED_PASSES_COUNT 1).modDmc (fun u => { u with weedAt := t })
  q.weedLag t

/-! Registers (R472, R480). -/

/-- NBR_K is taken from 8 to 14 (R472). -/
def Part.nbrWrite (p : Part) (k : Nat) : Part := if 8 ≤ k ∧ k ≤ 14 then p.put F.DMC_CTRL_NBR_K k else p

/-! Self-refresh (R481). -/

/-- The controller drains, flushes its check caches and enters self-refresh. -/
def Part.dmcSleep (p : Part) (t : Nat) : Part :=
  ((p.issueRewrites t).refreshAll.modDmc (fun u => { u with check := [], ahead := [] })).set F.DMC_STATUS_SELF_REFRESH

/-- It leaves self-refresh: draws and RFM counts restart from zero. -/
def Part.dmcWake (p : Part) : Part :=
  (((p.modDmc (fun u => { u with raa := [] })).clr F.DMC_STATUS_SELF_REFRESH).put F.DMC_NBR_COUNT_COUNT 0).put F.DMC_RFM_COUNT_COUNT 0

/-- Groups wholly inside a plot's window, just zeroed, are cleared again (R457). -/
def Part.dmcZeroed (p : Part) (k : Nat) : Part :=
  p.modDmc (fun u => { u with touched := u.touched.filter (fun q =>
    !((List.range 7).all (fun s => p.unitOwner ((q * 7 + s) * 64) == k))) })

end Sys2Proof.Machine
end

