-- ==== Sys2Proof/Machine/Trellis.lean ====
section
/-! DEFINITION. Trellis (18_trellis): port states, routing, flits with replay and credits, frames and their encryption. Receiving
a frame's stream datagram is in Ethernet.lean. -/

namespace Sys2Proof.Machine

/-! Ring and routes (R518, R519). -/

/-- A port's STATE: 0 DISABLED, 1 TRAINING, 2 UP, 3 RETRAIN, 4 DOWN (R515). -/
def Part.trlState (p : Part) (k : Nat) : Nat := p.get (F.TRL_P_STAT_STATE k)
/-- This Frexia's node, and the ring's size. -/
def Part.trlNode (p : Part) : Nat := p.get F.TRL_CTRL_NODE
def Part.trlRing (p : Part) : Nat := max 1 (p.get F.TRL_CTRL_RING)
/-- PORTS of a ring control frame: bit p is 1 when port p is UP. -/
def Part.trlPorts (p : Part) : Nat := (if p.trlState 0 = 2 then 1 else 0) + (if p.trlState 1 = 2 then 2 else 0)
/-- The ports a node reports UP; a node that has not reported is taken to be whole. -/
def Part.nodePorts (p : Part) (n : Nat) : Nat := if n = p.trlNode then p.trlPorts else FMap.get (fun _ => 3) p.trl.nodes n

/-- The link from port 0 of node n to port 1 of node n + 1 is whole. -/
def Part.linkUp (p : Part) (n : Nat) : Bool :=
  (p.nodePorts n).testBit 0 && (p.nodePorts ((n + 1) % p.trlRing)).testBit 1

/-- The path from here to node `d` by a port is not broken. -/
def Part.pathUp (p : Part) (port d : Nat) : Bool :=
  let r := p.trlRing
  let c := (d + r - p.trlNode) % r
  if port = 0 then (List.range c).all (fun i => p.linkUp ((p.trlNode + i) % r))
  else (List.range (r - c)).all (fun i => p.linkUp ((p.trlNode + r - 1 - i) % r))

/-- The route to a node: 0 or 1 a port, 2 local, 3 unreachable (R519). -/
def Part.routeTo (p : Part) (d : Nat) : Nat :=
  let r := p.trlRing
  let c := (d + r - p.trlNode) % r
  if r ≤ d then 3
  else if c = 0 then 2
  else
    let first := if c ≤ r - c then 0 else 1
    if p.pathUp first d then first else if p.pathUp (1 - first) d then 1 - first else 3

/-- TRL_ROUTE shows the routes. -/
def Part.showRoutes (p : Part) : Part :=
  p.put F.TRL_ROUTE_ROUTE ((List.range 4).foldl (fun s d => s + p.routeTo d * 4 ^ d) 0)

/-- A frame is dropped: counted, with its cause, source node and plot (R534). -/
def Part.trlDrop (p : Part) (cause node plot : Nat) : Part :=
  (((p.addSat F.TRL_RX_DROP_COUNT 1).put F.TRL_DROP_INFO_CAUSE cause).put F.TRL_DROP_INFO_NODE node).put F.TRL_DROP_INFO_PLOT plot

/-! Frames (R530 to R533). -/

/-- A plot's epoch at this Frexia. -/
def Part.trlEpoch (p : Part) (k : Nat) : Nat := p.img.epoch k

/-- The plot takes its next job ID as its Trellis job, and FCTR restarts (R532). -/
def Part.trlSession (p : Part) (k : Nat) : Part :=
  let x := p.takeJob k
  (x.2.put (F.TRL_S_JOB_JOB k) x.1).put64 (F.TRL_S_FCTR_LO_FCTR k) (F.TRL_S_FCTR_HI_FCTR k) 0

/-- A header of a frame. -/
def trlHead (ftype src dst ttl plot flags len job epoch bootSeq fctr : Nat) (device : Nat) : List Byte :=
  toLe 1 ftype ++ toLe 1 src ++ toLe 1 dst ++ toLe 1 ttl ++ toLe 1 plot ++ toLe 1 flags ++ toLe 2 len ++ toLe 4 job ++
    toLe 4 epoch ++ toLe 4 bootSeq ++ toLe 6 fctr ++ [0, 0] ++ List.replicate 4 0 ++ toLe 8 device

/-- The IV of a frame (R533): the domain byte is FTYPE. -/
def trlIv (bootSeq fctr src ftype : Nat) : List Byte := toLe 4 bootSeq ++ toLe 6 fctr ++ toLe 1 src ++ toLe 1 ftype

/-- The additional data of a frame: its header with TTL 0. -/
def trlAad (head : List Byte) : List Byte := head.take 3 ++ [0] ++ head.drop 4

/-- VC of a frame type. -/
def trlVc (ftype : Nat) : Nat := if ftype = 1 then 1 else if ftype = 2 then 2 else 0

/-- A frame of this Frexia enters the transmit queue, sealed; with no path it is dropped (R519, R535). -/
def Part.trlSend (p : Part) (ftype dst plot : Nat) (plain : List Byte) : Part :=
  let node := p.trlNode
  if p.routeTo dst = 3 then p.trlDrop 1 node plot
  else
    let job := p.get (F.TRL_S_JOB_JOB plot)
    let fctr := p.get64 (F.TRL_S_FCTR_LO_FCTR plot) (F.TRL_S_FCTR_HI_FCTR plot)
    let head := trlHead ftype node dst 3 plot (if p.on F.SDL_STATUS_TIME_VALID then 1 else 0) plain.length job (p.trlEpoch plot)
      p.boot.bootSeq fctr Config.deviceId.toNat
    let r := Crypto.gcmSeal (linkKey plot job (p.trlEpoch plot)) (trlIv p.boot.bootSeq fctr node ftype) (trlAad head) plain
    let q := (p.useLink plot job (p.trlEpoch plot)).put64 (F.TRL_S_FCTR_LO_FCTR plot) (F.TRL_S_FCTR_HI_FCTR plot) (fctr + 1)
    q.modTrl (fun u => { u with waiting := u.waiting ++ [{
      bytes := head ++ r.1 ++ r.2, vc := trlVc ftype, dst := dst, plot := plot, transit := false, crate := ftype == 2 }] })

/-- Ring control frames to every other node (R530). -/
def Part.ringFrames (p : Part) : Part :=
  p.each ((List.range p.trlRing).filter (· != p.trlNode)) (fun q d =>
    q.trlSend 3 d 0 (toLe 1 q.trlNode ++ toLe 1 q.trlPorts ++ List.replicate 6 0))

/-- A port changes state: LOCKED, routes and ring control frames follow. -/
def Part.setTrlState (p : Part) (k st : Nat) : Part := ((p.put (F.TRL_P_STAT_STATE k) st).showRoutes).ringFrames

/-! Control flits (R522). -/

/-- Queue a control body. -/
def Part.trlControl (p : Part) (k : Nat) (body : List Byte) : Part :=
  p.modTport k (fun u => { u with control := u.control ++ [body] })

/-- CRED_RESYNC: the generation, the initial credits of R525 and EXPECT. -/
def Part.sendResync (p : Part) (k : Nat) : Part :=
  (p.trlControl k (toLe 1 3 ++ toLe 2 (p.get (F.TRL_P_CRED_GEN_GEN k)) ++ toLe 2 32 ++ toLe 2 2048 ++ toLe 2 1024 ++
    toLe 2 (p.tport k).expect)).modTport k (fun u => { u with awaiting := true })

/-- Credits held for a VC. -/
def creditFld (k vc : Nat) : Fld := if vc = 0 then F.TRL_P_CREDIT_VC0 k else if vc = 1 then F.TRL_P_CREDIT_VC1 k else F.TRL_P_CREDIT_VC2 k
/-- Set the credits of the three VCs; the fields hold what R525's buffers give. -/
def Part.setCredits (p : Part) (k a b c : Nat) : Part := ((p.put (creditFld k 0) a).put (creditFld k 1) b).put (creditFld k 2) c

/-! Going DOWN, and training (R515 to R517, R524, R543). -/

/-- Frames with flits in a replay buffer, or begun and not finished. -/
def TrlPort.lostFrames (u : TrlPort) : Nat :=
  (u.held.filter (fun h => h.kind == 3 || h.kind == 4)).length +
    ([0, 1, 2].filter (fun v => (FMap.get (fun _ => none) u.sending v).isSome)).length

/-- A port loses its link: frames in its replay buffer are lost, and frames received in part are dropped with cause LINK. -/
def Part.linkLost (p : Part) (k : Nat) : Part :=
  let u := p.tport k
  let q := p.addSat F.TRL_LOST_COUNT u.lostFrames
  let q := [0, 1, 2].foldl (fun (q : Part) v => match FMap.get (fun _ => none) u.partialRx v with
    | some l => q.trlDrop 9 (l.getD 1 0).toNat (l.getD 4 0).toNat
    | none => q) q
  let q := (q.put (F.TRL_P_STAT_LOCKED k) 0).clr (F.TRL_P_STAT_PEER_VALID k)
  (q.setTport k { TrlPort.init k with nextLseq := u.nextLseq, expect := u.expect, peerGen := u.peerGen }).setCredits k 0 0 0

/-- The port goes DOWN with a cause. -/
def Part.trlDown (p : Part) (k cause : Nat) : Part :=
  (((p.linkLost k).put (F.TRL_P_STAT_CAUSE k) cause).set (F.TRL_P_EVENTS_DOWN k)).setTrlState k 4

/-- The port retrains. -/
def Part.trlRetrain (p : Part) (k : Nat) : Part :=
  if p.trlState k = 2 then ((p.addSat (F.TRL_P_RETRAINS_COUNT k) 1).modTport k (fun u => { u with resends := 0 })).setTrlState k 3 else p

/-- A write of EN (R515). -/
def Part.trlEnable (p : Part) (k : Nat) (on : Bool) : Part :=
  if on then
    let q := p.set (F.TRL_P_CTRL_EN k)
    if p.trlState k = 0 then q.setTrlState k 1 else q
  else
    let q := p.clr (F.TRL_P_CTRL_EN k)
    if p.trlState k = 0 then q else (q.linkLost k).setTrlState k 0

/-- What a peer's IDENT says (R517). -/
def Part.identCause (p : Part) (k node ring port order : Nat) : Nat :=
  let r := p.trlRing
  let want := if k = 0 then ((p.trlNode + 1) % r, 1) else ((p.trlNode + r - 1) % r, 0)
  if ring ≠ p.get F.TRL_CTRL_RING then 3
  else if order ≠ Config.orderCode.toNat then 4
  else if (node, port) ≠ want then 2 else 0

/-- A credit timeout (R528): a new generation; the VC's waiting frames are dropped, and CRED_RESYNC is sent. -/
def Part.creditTimeout (p : Part) (k vc : Nat) : Part :=
  let mine := fun (f : TrlFrame) => f.vc == vc && p.routeTo f.dst == k
  let gone := p.trl.waiting.filter mine
  let q := gone.foldl (fun (q : Part) f => q.trlDrop 8 (f.bytes.getD 1 0).toNat (f.bytes.getD 4 0).toNat) p
  let q := match FMap.get (fun _ => none) (p.tport k).sending vc with
    | some s => q.trlDrop 8 p.trlNode s.plot
    | none => q
  let q := q.modTrl (fun u => { u with waiting := u.waiting.filter (fun f => !mine f) })
  let q := q.modTport k (fun u => { u with sending := FMap.put (fun _ => none) u.sending vc none })
  ((q.add (F.TRL_P_CRED_GEN_GEN k) 1).set (F.TRL_P_EVENTS_RESYNC k)).sendResync k

/-- Training or retraining ends with the peer's IDENT (R516, R517). A credit timeout that met a retrain is sent in place of the
ordinary CRED_RESYNC (R541). -/
def Part.trainDone (p : Part) (k node ring port order : Nat) : Part :=
  let cause := p.identCause k node ring port order
  if cause ≠ 0 then p.trlDown k cause
  else
    let re := p.trlState k == 3
    let q := ((p.put (F.TRL_P_STAT_LOCKED k) 15).set (F.TRL_P_STAT_PEER_VALID k)).put (F.TRL_P_STAT_PEER_NODE k) node
    let q := q.set (F.TRL_P_EVENTS_UP k)
    let q := if re then q.set (F.TRL_P_EVENTS_RETRAINED k) else q
    let resync := (p.tport k).resync
    let q := q.modTport k (fun u => { u with failures := 0, resync := none, nakked := false, resends := 0 })
    let q := match resync with
      | some vc => q.creditTimeout k vc
      | none => q.sendResync k
    q.setTrlState k 2

/-- Training, or a retrain, has not finished in time (R515). -/
def Part.trainTimeout (p : Part) (k : Nat) : Part :=
  if p.trlState k = 1 then p.trlDown k 1
  else
    let n := (p.tport k).failures + 1
    if 3 ≤ n then p.trlDown k 5
    else (p.modTport k (fun u => { u with failures := n })).addSat (F.TRL_P_RETRAINS_COUNT k) 1

/-! Sending flits (R521, R523, R526, R527). -/

/-- Cut a frame's bytes into payloads of 52 bytes, the last padded; `n` bounds the walk. -/
def cutFlits : Nat → List Byte → List (List Byte)
  | 0, _ => []
  | n + 1, l => if l = [] then [] else (l.take 52 ++ List.replicate (52 - l.length) 0) :: cutFlits n (l.drop 52)

/-- A flit with the port's ACK and one VC's credit return: the lowest VC that owes (DESIGN CHOICE, assumption 46). -/
def Part.flitBytes (p : Part) (k kind vc lseq : Nat) (payload : List Byte) : List Byte × Part :=
  let u := p.tport k
  let ack := match u.lastRx with
    | some n => 32768 + n
    | none => 0
  let own := fun (v : Nat) => FMap.get (fun _ => 0) u.owed v
  let cv := ([0, 1, 2].find? (fun v => own v != 0)).getD 0
  let n := min 255 (own cv)
  let body := toLe 1 kind ++ toLe 1 vc ++ toLe 2 lseq ++ toLe 2 ack ++ toLe 2 (cv + 4 * n + 1024 * (u.peerGen % 64)) ++
    (payload ++ List.replicate 52 0).take 52
  (body ++ toLe 4 (Crypto.crc32c body), p.modTport k (fun u => { u with owed := FMap.put (fun _ => 0) u.owed cv (own cv - n) }))

/-- A flit leaves a port. -/
def Part.flitOut (p : Part) (k kind vc lseq : Nat) (payload : List Byte) : Part :=
  let r := p.flitBytes k kind vc lseq payload
  r.2.emit (.flit k r.1)

/-- Credits of VC 1 that commands of other plots have reserved on a port (R529). -/
def Part.reservedBy (p : Part) (k : Nat) (mine : Nat → Bool) : Nat :=
  ((p.apc.holds.filter (fun h => h.port == k && mine h.plot)).map (·.credits)).sum

/-- A frame of a plot may use a credit of a VC. -/
def Part.creditFor (p : Part) (k vc plot : Nat) : Bool :=
  decide ((if vc = 1 then p.reservedBy k (· != plot) else 0) < p.get (creditFld k vc))

/-- Use one credit; a plot's own reservation is drawn on once no other credit is left. -/
def Part.useCredit (p : Part) (k vc plot : Nat) : Part :=
  let have_ := p.get (creditFld k vc)
  let q := p.put (creditFld k vc) (have_ - 1)
  if vc = 1 && have_ == p.reservedBy k (fun _ => true) then
    let rec go : List Hold → List Hold
      | [] => []
      | h :: r => if h.port = k ∧ h.plot = plot ∧ h.credits ≠ 0 then { h with credits := h.credits - 1 } :: r else h :: go r
    q.modApc (fun a => { a with holds := go a.holds })
  else q

/-- A plot's Trellis bucket, up to date (R527). -/
def Part.trlBucket (p : Part) (t k : Nat) : Bucket := (FMap.get Bucket.init p.trl.buckets k).fill t (p.img.qos k 0x18)

/-- Charge one flit to a plot's bucket. -/
def Part.trlCharge (p : Part) (t k : Nat) : Part :=
  p.modTrl (fun u => { u with buckets := FMap.put Bucket.init u.buckets k ((p.trlBucket t k).charge 1) })

/-- What a port may send next: the frame in progress on a VC, or a waiting frame. -/
structure TrlItem where
  vc : Nat
  plot : Nat
  /-- 3 transit and ring control, 4 plots with bucket, 5 other plots (R526). -/
  rank : Nat
  crate : Bool
  /-- The waiting frame that starts; none to go on with the one in progress. -/
  frame : Option TrlFrame
  deriving DecidableEq, Repr

/-- Rank of a frame. -/
def Part.trlRank (p : Part) (t plot vc : Nat) (transit : Bool) : Nat :=
  if transit || vc == 0 then 3 else if 0 < (p.trlBucket t plot).milli then 4 else 5

/-- The items a port has on a VC. -/
def Part.trlItems (p : Part) (t k vc : Nat) : List TrlItem :=
  match FMap.get (fun _ => none) (p.tport k).sending vc with
  | some s => [{ vc := vc, plot := s.plot, rank := p.trlRank t s.plot vc s.transit, crate := vc == 2, frame := none }]
  | none => (p.trl.waiting.filter (fun f => f.vc == vc && p.routeTo f.dst == k)).map (fun f =>
      { vc := vc, plot := f.plot, rank := p.trlRank t f.plot vc f.transit, crate := f.crate, frame := some f })

/-- The order of R526 within a rank: plots round robin from the one after `last`, streams before crates. -/
def TrlItem.before (last : Nat) (a b : TrlItem) : Bool :=
  let turn := fun (x : TrlItem) => (x.plot + 8 - last) % 9
  if a.rank ≠ b.rank then decide (a.rank < b.rank)
  else if a.rank = 3 then false
  else if a.plot ≠ b.plot then decide (turn a < turn b)
  else !a.crate && b.crate

/-- The first item in order; ties keep the older. -/
def firstItem (last : Nat) : List TrlItem → Option TrlItem
  | [] => none
  | x :: r => match firstItem last r with
    | some y => if TrlItem.before last y x then some y else some x
    | none => some x

/-- Remove the first waiting frame equal to `f`. -/
def dropFirst (f : TrlFrame) : List TrlFrame → List TrlFrame
  | [] => []
  | x :: r => if x = f then r else x :: dropFirst f r

/-- A data flit of an item leaves: it takes the next LSEQ and a credit, is held for replay, and is charged to the plot. -/
def Part.sendItem (p : Part) (t k : Nat) (i : TrlItem) : Part :=
  let cur := FMap.get (fun _ => none) (p.tport k).sending i.vc
  let parts := match i.frame, cur with
    | some f, _ => cutFlits 256 f.bytes
    | none, some s => s.rest
    | none, none => []
  let starts := i.frame.isSome
  let transit := match i.frame, cur with
    | some f, _ => f.transit
    | none, some s => s.transit
    | none, none => false
  match parts with
  | [] => p
  | pay :: rest =>
    let kind := if starts then (if rest = [] then 4 else 1) else (if rest = [] then 3 else 2)
    let lseq := (p.tport k).nextLseq
    let q := match i.frame with
      | some f => p.modTrl (fun u => { u with waiting := dropFirst f u.waiting })
      | none => p
    let q := q.modTport k (fun u => { u with
      nextLseq := (lseq + 1) % 4096,
      held := u.held ++ [{ lseq := lseq, kind := kind, vc := i.vc, payload := pay }],
      sending := FMap.put (fun _ => none) u.sending i.vc (if rest = [] then none else some { rest := rest, plot := i.plot, transit := transit }) })
    let q := (q.useCredit k i.vc i.plot).add (F.TRL_P_TX_FLITS_COUNT k) 1
    let q := if transit || i.vc == 0 then q else (q.trlCharge t i.plot).modTrl (fun u => { u with last := i.plot })
    q.flitOut k kind i.vc lseq pay

/-- One flit slot of a port (R526). -/
def Part.flitTx (p : Part) (t k : Nat) : Part :=
  let u := p.tport k
  match u.control with
  | c :: rest => (p.modTport k (fun u => { u with control := rest })).flitOut k 5 0 0 c
  | [] =>
    let resend := if u.awaiting then none else u.held[u.held.length - u.resend]?
    match (if u.resend = 0 then none else resend) with
    | some h => (p.modTport k (fun u => { u with resend := u.resend - 1 })).flitOut k h.kind h.vc h.lseq h.payload
    | none =>
      let items := if u.awaiting || decide (256 ≤ u.held.length) then []
        else ([0, 1, 2].flatMap (p.trlItems t k)).filter (fun i => p.creditFor k i.vc i.plot)
      match firstItem p.trl.last items with
      | some i => p.sendItem t k i
      | none => p.flitOut k 0 0 0 []

/-- The resend timer expires (R524): resend from the oldest held flit, and at the eighth resend in a row retrain. -/
def Part.resendTimer (p : Part) (k : Nat) : Part :=
  let n := (p.tport k).resends + 1
  if 8 ≤ n then p.trlRetrain k
  else (p.modTport k (fun u => { u with resends := n, resend := u.held.length })).addSat (F.TRL_P_REPLAYS_COUNT k) 1

/-! Receiving flits (R522, R523, R525, R528). -/

/-- A received flit's ACK: held flits up to it leave. -/
def Part.trlAck (p : Part) (k ack : Nat) : Part :=
  let u := p.tport k
  match u.held.findIdx? (fun h => h.lseq == ack % 4096) with
  | some i =>
    let left := u.held.drop (i + 1)
    p.modTport k (fun u => { u with held := left, resend := min u.resend left.length, resends := 0 })
  | none => p

/-- A received flit's credit return: of the current generation, or stale (R528). -/
def Part.trlCred (p : Part) (k cred : Nat) : Part :=
  let n := cred / 4 % 256
  if n = 0 ∨ cred % 4 = 3 then p
  else if cred / 1024 % 64 ≠ p.get (F.TRL_P_CRED_GEN_GEN k) % 64 then p.addSat F.TRL_STALE_COUNT 1
  else p.put (creditFld k (cred % 4)) (p.get (creditFld k (cred % 4)) + n)

/-- A control body (R522, R523, R528). -/
def Part.trlCtl (p : Part) (k : Nat) (b : List Byte) : Part :=
  let n := fun (o : Nat) => leNat ((b.drop o).take 2)
  let from_ := fun (u : TrlPort) (e : Nat) => (u.held.findIdx? (fun h => h.lseq == e % 4096)).map (fun i => u.held.length - i)
  match (b.getD 0 0).toNat with
  | 1 =>
    match from_ (p.tport k) (n 1) with
    | some r => (p.modTport k (fun u => { u with resend := r })).addSat (F.TRL_P_REPLAYS_COUNT k) 1
    | none => p
  | 3 =>
    let u := p.tport k
    let q := if n 1 = u.peerGen then p
      else [0, 1, 2].foldl (fun (q : Part) v => match FMap.get (fun _ => none) u.partialRx v with
        | some l => q.trlDrop 8 (l.getD 1 0).toNat (l.getD 4 0).toNat
        | none => q) p
    let q := q.setCredits k (n 3) (n 5) (n 7)
    let q := q.modTport k (fun u => { u with
      partialRx := if n 1 = u.peerGen then u.partialRx else [], owed := [], peerGen := n 1,
      nextLseq := if u.held = [] then n 9 % 4096 else u.nextLseq,
      resend := (from_ u (n 9)).getD 0,
      held := match from_ u (n 9) with
        | some r => u.held.drop (u.held.length - r)
        | none => u.held })
    q.trlControl k (toLe 1 4 ++ toLe 2 (n 1))
  | 4 => if n 1 = p.get (F.TRL_P_CRED_GEN_GEN k) then
      (p.modTport k (fun u => { u with awaiting := false })).setCredits k 32 2048 1024 else p
  | _ => p

/-- One NAK, once (R523). -/
def Part.trlNak (p : Part) (k : Nat) : Part :=
  if (p.tport k).nakked then p
  else (p.trlControl k (toLe 1 1 ++ toLe 2 (p.tport k).expect)).modTport k (fun u => { u with nakked := true })

/-- A data flit in order: it is passed onward, its credit owed; a frame's last flit gives the frame (R525, R530). -/
def Part.trlData (p : Part) (k kind vc : Nat) (payload : List Byte) : Part × Option (List Byte) :=
  let q := p.modTport k (fun u => { u with
    lastRx := some u.expect, expect := (u.expect + 1) % 4096, nakked := false,
    owed := FMap.put (fun _ => 0) u.owed vc (FMap.get (fun _ => 0) u.owed vc + 1) })
  -- the rest of a frame that was dropped in part belongs to none (R528)
  let l := if kind = 1 ∨ kind = 4 then some payload
    else (FMap.get (fun _ => none) (q.tport k).partialRx vc).map (· ++ payload)
  let ends := kind == 3 || kind == 4
  let q := q.modTport k (fun u => { u with partialRx := FMap.put (fun _ => none) u.partialRx vc (if ends then none else l) })
  (q, if ends then l.map (fun x => x.take (leNat ((x.drop 6).take 2) + 56)) else none)

/-! Receiving frames (R520, R534). -/

/-- A frame for another node goes on by its route (R520). -/
def Part.trlTransit (p : Part) (f : List Byte) : Part :=
  let b := fun (i : Nat) => (f.getD i 0).toNat
  if b 3 = 0 then p.trlDrop 2 (b 1) (b 4)
  else if p.routeTo (b 2) = 3 then p.trlDrop 1 (b 1) (b 4)
  else p.modTrl (fun u => { u with waiting := u.waiting ++ [{
    bytes := f.take 3 ++ toLe 1 (b 3 - 1) ++ f.drop 4, vc := trlVc (b 0), dst := b 2, plot := b 4, transit := true, crate := b 0 == 2 }] })

/-- The replay window of a source, plot and job: FCTR above the highest accepted less 64, and not accepted before. -/
def Part.trlFresh (p : Part) (key : Nat × Nat × Nat) (fctr : Nat) : Bool :=
  match p.trl.accepted.find? (fun e => e.1 == key) with
  | some (_, top, l) => decide (top < fctr + 64) && !l.contains fctr
  | none => true

/-- Remember an accepted FCTR. -/
def Part.trlAccept (p : Part) (key : Nat × Nat × Nat) (fctr : Nat) : Part :=
  p.modTrl (fun u =>
    let old := match u.accepted.find? (fun e => e.1 == key) with
      | some (_, top, l) => (top, l)
      | none => (0, [])
    let top := max old.1 fctr
    { u with accepted := (key, top, (fctr :: old.2).filter (fun x => decide (top < x + 64))) :: u.accepted.filter (fun e => e.1 != key) })

/-- A crate from another node: to this node's host ring and UDP sinks of its plot (R538). -/
def Part.trlCrate (p : Part) (t plot : Nat) (c : List Byte) : Part :=
  let q := if p.hasSink plot 0 then p.ringWrite t plot c else p
  if p.hasSink plot 1 then q.udpSend plot (leNat ((c.drop 8).take 4)) (leNat ((c.drop 24).take 8)) c else q

/-- The first receive check that fails, and the plaintext of a frame that passes EPOCH, PLOT, AUTH and REPLAY (R534). -/
def Part.trlOpen (p : Part) (f : List Byte) : Nat × List Byte :=
  let n := fun (o k : Nat) => leNat ((f.drop o).take k)
  let plot := n 4 1
  let len := n 6 2
  if n 0x0C 4 ≠ p.trlEpoch plot then (3, [])
  else if !(plot == 0 || (decide (plot < 9) && p.get (F.PLT_STATE_STATE plot) == 2 && !p.fenced plot)) then (4, [])
  else
    match Crypto.gcmOpen (linkKey plot (n 8 4) (n 0x0C 4)) (trlIv (n 0x10 4) (n 0x14 6) (n 1 1) (n 0 1)) (trlAad (f.take 40))
        ((f.drop 40).take len) ((f.drop (40 + len)).take 16) with
    | none => (7, [])
    | some plain => if p.trlFresh (n 1 1, plot, n 8 4) (n 0x14 6) then (0, plain) else (6, [])

/-- The Fallow fence of a plot: its frames not yet started are dropped (R539). -/
def Part.trlFence (p : Part) (k : Nat) : Part :=
  p.modTrl (fun u => { u with waiting := u.waiting.filter (fun f => f.transit || f.plot != k) })

/-- Step 7 of a Fallow: the plot's forwarder entries and TRL_CFWD return to their Reset values (R539). -/
def Part.trlClear (p : Part) (k : Nat) : Part :=
  let mine := (List.range 128).filter (fun e => p.on (F.TRL_FWD_CTRL_EN e) && p.get (F.TRL_FWD_CTRL_PLOT e) == k)
  p.resetRegs (fun a => a == R.TRL_CFWD k || mine.any (fun e => a == R.TRL_FWD_MATCH e || a == R.TRL_FWD_SRC_IP e || a == R.TRL_FWD_CTRL e))

/-! Calls (R529, R536, R538). -/

/-- TRL_RESERVE by core `c` of plot `k`: -5 where the port is not UP, -3 until the credits can be held. -/
def Part.trlReserve (p : Part) (k c port credits : Nat) : Int × Part :=
  if 1 < port ∨ credits = 0 ∨ 64 < credits then (-1, p)
  else if p.trlState port ≠ 2 then (-5, p)
  else if p.get (creditFld port 1) < p.reservedBy port (fun _ => true) + credits then (-3, p)
  else (0, p.modApc (fun a => { a with holds := a.holds ++ [{ port := port, plot := k, core := c, credits := credits }] }))

/-- TRL_RELEASE. -/
def Part.trlRelease (p : Part) (c port : Nat) : Int × Part :=
  if 1 < port then (-1, p)
  else (0, p.modApc (fun a => { a with holds := a.holds.filter (fun h => !(h.core == c && h.port == port)) }))

/-- FWD_SET: entry, stream, and DST_NODE, COPY and EN (R536). -/
def Part.fwdSet (p : Part) (k e s v : Nat) : Int × Part :=
  let r := p.img
  if 128 ≤ e ∨ 128 ≤ s then (-1, p)
  else if p.on (F.TRL_FWD_CTRL_EN e) && p.get (F.TRL_FWD_CTRL_PLOT e) != k then (-2, p)
  else if (r.streamRec s).isNone || r.streamPlot s != k then (-2, p)
  else
    let src := r.streamSource s
    if !(src == 2 || (src == 1 && p.on (F.ITK_CTX_CTRL_EN s))) then (-5, p)
    else
      let q := ((p.put (F.TRL_FWD_MATCH_UDP_PORT e) (p.get (F.ITK_CTX_MATCH_UDP_PORT s))).put (F.TRL_FWD_MATCH_ETH_PORT e)
        (p.get (F.ITK_CTX_MATCH_ETH_PORT s))).put (F.TRL_FWD_SRC_IP_IP e) (p.get (F.ITK_CTX_SRC_IP_IP s))
      let q := ((q.put (F.TRL_FWD_CTRL_DST_NODE e) (v % 4)).put (F.TRL_FWD_CTRL_COPY e) (v / 256 % 2)).put (F.TRL_FWD_CTRL_EN e) (v / 512 % 2)
      (0, q.put (F.TRL_FWD_CTRL_PLOT e) k)

/-- CFWD_SET (R538): forwarding starts at the crates sealed from then on. -/
def Part.cfwdSet (p : Part) (k on node : Nat) : Int × Part :=
  if 1 < on ∨ 3 < node then (-1, p)
  else (0, (p.put (F.TRL_CFWD_EN k) on).put (F.TRL_CFWD_DST_NODE k) node)

end Sys2Proof.Machine
end

