-- ==== Sys2Proof/Machine/Egress.lean ====
section
/-! DEFINITION. Crates on their way out (17_harvest): sealing and delivery, the host ring's control, the Cellar and replay. -/

namespace Sys2Proof.Machine

/-! Sealing and delivery (R490 to R495, R538). -/

/-- The plot's open crate has waited out HVS_P_WAIT since its first record (R494). -/
def Part.waitOver (p : Part) (t plot : Nat) : Bool :=
  match (p.hv plot).opened with
  | some o => decide (o.firstAt + p.get (F.HVS_P_WAIT_US plot) * 1000 ≤ t)
  | none => false

/-- A write of HVS_P_WAIT: values outside the plot's range leave the field unchanged. -/
def Part.waitWrite (p : Part) (plot us : Nat) : Part :=
  if 100 ≤ us ∧ us ≤ (if plot = 0 then 1000000 else 100000) then p.put (F.HVS_P_WAIT_US plot) us else p

/-- Deliver a staged crate to the sinks that take it at once, and lose it to a Cellar sink that is disabled (R504). -/
def Part.deliverCrate (p : Part) (t plot seq : Nat) (crate : List Byte) : Part :=
  let q := if p.hasSink plot 0 then p.ringWrite t plot crate else p
  let q := if q.hasSink plot 1 then q.udpSend plot q.boot.bootSeq seq crate else q
  let q := if q.hasSink plot 2 && (q.hv plot).ringSlots == 0 then q.add (F.HVS_P_CELLAR_LOST_COUNT plot) 1 else q
  let q := if q.on (F.TRL_CFWD_EN plot) then q.trlSend 2 (q.get (F.TRL_CFWD_DST_NODE plot)) plot crate else q
  q.modHv plot (fun u => { u with
    curHost := seq + 1, curUdp := seq + 1, curFwd := seq + 1,
    curCellar := if u.ringSlots = 0 then seq + 1 else u.curCellar })

/-- The oldest closed crate is sealed and enters the staging buffer (R492, R495). -/
def Part.sealNext (p : Part) (t plot : Nat) : Part :=
  match (p.hv plot).closed with
  | [] => p
  | c :: rest =>
    let seq := p.crateSeq plot
    let bytes := sealCrate plot p.boot.bootSeq (p.img.epoch plot) seq t c
    let q := (p.useLink plot c.job (p.img.epoch plot)).modHv plot (fun u => { u with closed := rest })
    let q := q.put64 (F.HVS_P_CRATE_LO_SEQ plot) (F.HVS_P_CRATE_HI_SEQ plot) (seq + 1)
    if 256 ≤ seq && (q.hv plot).holds (seq - 256) then q.lostToAll plot
    else (q.stage t plot seq bytes).deliverCrate t plot seq bytes

/-- Seal every closed crate of a plot; `n` bounds them. -/
def Part.sealAll (t plot : Nat) : Nat → Part → Part
  | 0, p => p
  | n + 1, p => if (p.hv plot).closed = [] then p else Part.sealAll t plot n (p.sealNext t plot)

/-! Host ring control (R40, R498 to R500). -/

/-- The hold-off of a ring has expired with an advance unannounced (R498). -/
def Part.holdoffOver (p : Part) (t ring : Nat) : Bool := (p.hv ring).msiOwed && decide ((p.hv ring).msiAfter ≤ t)

/-- One MSI covers the advances made during the hold-off. -/
def Part.holdoffMsi (p : Part) (t ring : Nat) : Part :=
  let q := p.modHv ring (fun u => { u with msiOwed := false })
  if p.on (F.HR_CTRL_IRQ_EN ring) then
    (q.msi ring).modHv ring (fun u => { u with msiAfter := t + p.get (F.HR_HOLDOFF_US ring) * 1000 })
  else q

/-- PROD and CONS restart, and the status line is written. -/
def Part.ringRestart (p : Part) (ring : Nat) : Part :=
  ((p.put (F.HR_PROD_INDEX ring) 0).put (F.HR_CONS_INDEX ring) 0).statusLine ring

/-- The host writes HR_CTRL (R498); every write is discarded while READY is 0 (R40). -/
def Part.ringControl (p : Part) (ring : Nat) (en irq : Bool) : Part :=
  if p.on (F.HR_STAT_READY ring) then
    let q := p.put (F.HR_CTRL_IRQ_EN ring) (if irq then 1 else 0)
    if !en then q.clr (F.HR_CTRL_EN ring)
    else if p.on (F.HR_CTRL_EN ring) then q
    else
      let n := p.get (F.HR_SIZE_LOG2 ring)
      if n < 4 ∨ 16 < n ∨ p.get (F.HR_BASE_LO_ADDR ring) % 4096 ≠ 0 then q.set (F.HR_STAT_CFG_ERR ring)
      else (q.set (F.HR_CTRL_EN ring)).ringRestart ring
  else p

/-- The host writes HR_CONS (R499). -/
def Part.consWrite (p : Part) (ring v : Nat) : Part :=
  if p.on (F.HR_STAT_READY ring) && p.on (F.HR_CTRL_EN ring) then
    if (p.get (F.HR_PROD_INDEX ring) + 2 ^ 32 - v % 2 ^ 32) % 2 ^ 32 ≤ 2 ^ p.get (F.HR_SIZE_LOG2 ring) then p.put (F.HR_CONS_INDEX ring) v
    else p.set (F.HR_STAT_CONS_ERR ring)
  else p

/-- Harvest re-arms a ring at boot step 13 and sets READY (R500). -/
def Part.ringReady (p : Part) (ring : Nat) : Part :=
  let q := if p.on (F.HR_CTRL_EN ring) then p.ringRestart ring
    else (p.put (F.HR_PROD_INDEX ring) 0).put (F.HR_CONS_INDEX ring) 0
  q.set (F.HR_STAT_READY ring)

/-! The Cellar (R504 to R506). -/

/-- Namespace, first LBA and length in LBAs of a plot's Cellar ring; plot 0's is the first 4 GiB of namespace 1. -/
def Part.cellarRing (p : Part) (plot : Nat) : Nat × Nat × Nat :=
  if plot = 0 then (1, 0, 2 ^ 32 / p.lbaSize 1) else (p.img.cellarNsid plot, p.img.cellarLba plot, p.img.cellarLen plot)

/-- Slots of a plot's ring; 0 where R504 disables the sink. -/
def Part.cellarSlots (p : Part) (plot : Nat) : Nat :=
  let r := p.cellarRing plot
  match p.nvme.namespaces.find? (fun n => n.nsid == r.1) with
  | none => 0
  | some n =>
    let size := r.2.2 * n.lbaSize
    let own := 2 ^ 32 / n.lbaSize
    if (n.lbaSize != 512 && n.lbaSize != 4096) || n.metadata || size % 4096 != 0 || decide (size / 4096 < 2) ||
        decide (n.lbas < r.2.1 + r.2.2) || (plot != 0 && r.1 == 1 && decide (r.2.1 < own)) then 0
    else size / 4096

/-- The search of R506 for the newest valid slot: `valid i` gives slot i's key. -/
def headSearch (valid : Nat → Option (Nat × Nat)) (r : Nat × Nat) : Nat → Nat → Nat → Nat
  | 0, lo, _ => lo
  | n + 1, lo, hi =>
    if lo < hi then
      let mid := (lo + hi + 1) / 2
      match ((List.range 33).map (mid + ·)).find? (fun i => decide (i ≤ hi) && (valid i).isSome) with
      | some m =>
        let k := (valid m).getD (0, 0)
        if r.1 < k.1 ∨ (r.1 = k.1 ∧ r.2 ≤ k.2) then headSearch valid r n m hi else headSearch valid r n lo (mid - 1)
      | none => headSearch valid r n lo (mid - 1)
    else lo

/-- The head of a ring of `s` slots (R506). -/
def cellarHead (valid : Nat → Option (Nat × Nat)) (s : Nat) : Nat :=
  match (List.range (min 33 s)).find? (fun i => (valid i).isSome) with
  | none => 0
  | some r => (headSearch valid ((valid r).getD (0, 0)) 64 r (s - 1) + 1) % s

/-- A plot's ring is checked and its head recovered at boot step 10. -/
def Part.cellarStart (p : Part) (plot : Nat) (slots : List CellarSlot) : Part :=
  let s := p.cellarSlots plot
  if s = 0 then (p.set (F.HVS_P_STAT_CELLAR_BAD plot)).modHv plot (fun u => { u with ringSlots := 0 })
  else
    let mine := slots.filter (fun x => x.plot == plot && decide (x.slot < s))
    let keys := mine.foldl (fun (m : FMap (Option (Nat × Nat))) x => FMap.put (fun _ => none) m x.slot (some (x.bootSeq, x.crateSeq))) []
    let head := cellarHead (fun i => FMap.get (fun _ => none) keys i) s
    (p.put (F.HVS_P_CELLAR_HEAD_SLOT plot) head).modHv plot (fun u => { u with ringSlots := s, cellarKeys := keys })

/-- Crates of the next run: consecutive, staged, at most 32 and not past the ring's end (R505). -/
def HvsPlot.run (u : HvsPlot) (head : Nat) : Nat :=
  let rec go : Nat → Nat → Nat
    | 0, n => n
    | k + 1, n => if u.staged.any (fun x => x.seq == u.curCellar + n) then go k (n + 1) else n
  go (min 32 (u.ringSlots - head)) 0

/-- A run can be issued: no Write of the ring is outstanding (R505), and the plot is not withered (R511). -/
def Part.cellarReady (p : Part) (plot : Nat) : Bool :=
  let u := p.hv plot
  u.ringSlots != 0 && u.cellarOut.isNone && p.get (F.PLT_STATE_STATE plot) != 3 && p.on F.PRP_NVME_READY &&
    p.hasSink plot 2 && u.run (p.get (F.HVS_P_CELLAR_HEAD_SLOT plot)) != 0

/-- Bytes of a crate in LBAs of a ring's namespace. -/
def Part.crateLbas (p : Part) (plot : Nat) : Nat := 4096 / p.lbaSize (p.cellarRing plot).1

/-- Write a run of crates with FUA. -/
def Part.cellarWrite (p : Part) (t plot : Nat) : Part :=
  let u := p.hv plot
  let head := p.get (F.HVS_P_CELLAR_HEAD_SLOT plot)
  let n := u.run head
  let r := p.cellarRing plot
  let l := p.crateLbas plot
  let data := ((u.staged.filter (fun x => decide (u.curCellar ≤ x.seq ∧ x.seq < u.curCellar + n))).map (·.bytes)).flatten
  (p.modHv plot (fun v => { v with cellarOut := some (v.curCellar, n, head) })).nvIssue t
    { op := 2, plot := plot, a := u.curCellar, b := n, nsid := r.1, lba := r.2.1 + head * l, blocks := n * l, tries := 0, progressAt := t } data

/-- A Write completes: its crates are durable, and the ring's head moves past them. -/
def Part.cellarDone (p : Part) (plot : Nat) : Part :=
  match (p.hv plot).cellarOut with
  | none => p
  | some (first, n, slot) =>
    let boot := p.boot.bootSeq
    let q := p.modHv plot (fun u => { u with
      cellarOut := none, curCellar := max u.curCellar (first + n),
      cellarKeys := (List.range n).foldl (fun m i => FMap.put (fun _ => none) m (slot + i) (some (boot, first + i))) u.cellarKeys })
    let q := q.put (F.HVS_P_CELLAR_HEAD_SLOT plot) ((slot + n) % (max 1 (p.hv plot).ringSlots))
    ((q.nvFree (fun c => c.op == 2 && c.plot == plot)).add F.PRP_CMDS_COUNT 1).metric 6 plot n

/-- The Cellar Write of a plot is outstanding at the root port. -/
def Part.cellarBusy (p : Part) (plot : Nat) : Bool :=
  (p.hv plot).cellarOut.isSome && p.nvSlots.any (fun s => match p.nvCmd s with
    | some c => c.op == 2 && c.plot == plot
    | none => false)

/-! Replay (R508). -/

/-- The registers of a replay order: of the host ring, or of the plot's page for UDP. -/
structure ReplayRegs where
  boot : Fld
  lo : Fld
  hi : Fld
  busy : Fld
  gap : Fld

def replayRegs (plot : Nat) (udp : Bool) : ReplayRegs :=
  if udp then
    { boot := F.HVS_P_REPLAY_BOOT_SEQ plot, lo := F.HVS_P_REPLAY_CRATE_LO_SEQ plot, hi := F.HVS_P_REPLAY_CRATE_HI_SEQ plot,
      busy := F.HVS_P_REPLAY_CTRL_BUSY plot, gap := F.HVS_P_REPLAY_CTRL_GAP plot }
  else
    { boot := F.HR_REPLAY_BOOT_SEQ plot, lo := F.HR_REPLAY_CRATE_LO_SEQ plot, hi := F.HR_REPLAY_CRATE_HI_SEQ plot,
      busy := F.HR_REPLAY_CTRL_BUSY plot, gap := F.HR_REPLAY_CTRL_GAP plot }

/-- The replay in progress of a sink. -/
def HvsPlot.replay (u : HvsPlot) (udp : Bool) : Option Replay := if udp then u.udpReplay else u.hostReplay
def HvsPlot.setReplay (u : HvsPlot) (udp : Bool) (r : Option Replay) : HvsPlot :=
  if udp then { u with udpReplay := r } else { u with hostReplay := r }

/-- Read the next crate of a replay. -/
def Part.replayRead (p : Part) (t plot slot : Nat) (udp : Bool) : Part :=
  let r := p.cellarRing plot
  let l := p.crateLbas plot
  p.nvIssue t { op := 3, plot := plot, a := slot, b := if udp then 1 else 0, nsid := r.1, lba := r.2.1 + slot * l, blocks := l,
                tries := 0, progressAt := t } []

/-- The crates of a ring from its oldest, as slots with their keys. -/
def Part.cellarOrder (p : Part) (plot : Nat) : List (Nat × (Nat × Nat)) :=
  let u := p.hv plot
  let head := p.get (F.HVS_P_CELLAR_HEAD_SLOT plot)
  let all := u.cellarKeys.filterMap (fun e => e.2.map (fun k => (e.1, k)))
  all.filter (fun e => decide (head ≤ e.1)) ++ all.filter (fun e => decide (e.1 < head))

/-- Pairs are compared BOOT_SEQ first. -/
def pairBelow (a b : Nat × Nat) : Bool := decide (a.1 < b.1) || (a.1 == b.1 && decide (a.2 < b.2))

/-- A write of GO: the replay starts at the first crate above the pair; a pair older than the oldest crate sets GAP. A ring that
holds nothing above the pair has nothing to send. -/
def Part.replayGo (p : Part) (t plot : Nat) (udp : Bool) : Part :=
  let g := replayRegs plot udp
  if p.on g.busy || (p.hv plot).ringSlots == 0 || p.get (F.PLT_STATE_STATE plot) == 3 then p
  else
    let pair := (p.get g.boot, p.get64 g.lo g.hi)
    let l := p.cellarOrder plot
    let q := match l.head? with
      | some e => if pairBelow pair e.2 then p.set g.gap else p
      | none => p
    match l.find? (fun e => pairBelow pair e.2) with
    | none => q
    | some e =>
      let q := q.modHv plot (fun u => u.setReplay udp (some { slot := e.1, stop := p.get (F.HVS_P_CELLAR_HEAD_SLOT plot) }))
      (q.set g.busy).replayRead t plot e.1 udp

/-- A replayed crate has been read: it goes to the sink as stored, and the replay ends at the head of its order. -/
def Part.replayCrate (p : Part) (t plot : Nat) (udp : Bool) (crate : List Byte) : Part :=
  match (p.hv plot).replay udp with
  | none => p
  | some r =>
    let key := (FMap.get (fun _ => none) (p.hv plot).cellarKeys r.slot).getD (0, 0)
    let q := (p.nvFree (fun c => c.op == 3 && c.plot == plot && c.a == r.slot && c.b == (if udp then 1 else 0))).add F.PRP_CMDS_COUNT 1
    let q := if udp then q.udpSend plot key.1 key.2 crate else q.ringWrite t plot crate
    let next := (r.slot + 1) % (max 1 (p.hv plot).ringSlots)
    if next = r.stop then (q.modHv plot (fun u => u.setReplay udp none)).clr (replayRegs plot udp).busy
    else (q.modHv plot (fun u => u.setReplay udp (some { r with slot := next }))).replayRead t plot next udp

end Sys2Proof.Machine
end

