-- ==== Sys2Proof/Machine/Intake.lean ====
section
/-! DEFINITION. Intake's operations (07_intake): the frame-start latch, capture rings, CSI-2 lines, the RTP depacketiser, and
pairing in alignment sets. -/

namespace Sys2Proof.Machine

/-! The latch and the contexts' states. -/

/-- A context takes input: enabled, waiting for sync, running or stalled, its plot not fenced, and frames are admitted. -/
def Part.ctxTakes (p : Part) (s : Nat) : Bool :=
  p.admits && p.on F.ITK_CTRL_EN && p.on (F.ITK_CTX_CTRL_EN s) &&
    (p.get (F.ITK_CTX_STATE_STATE s) == 2 || p.get (F.ITK_CTX_STATE_STATE s) == 3 || p.get (F.ITK_CTX_STATE_STATE s) == 4)

/-- The latch event of a context at time `t` (R178, R186): FRAME_SEQ, the stamp, and the pending group. -/
def Part.latch (p : Part) (s t : Nat) : Part :=
  let u := p.ctx s
  let seq := if u.fresh then 0 else (p.get (F.ITK_CTX_FRAME_SEQ_SEQ s) + 1) % 2 ^ 32
  let q := ((p.put (F.ITK_CTX_FRAME_SEQ_SEQ s) seq).put (F.ITK_CTX_STATE_STATE s) 3).put64 (F.ITK_CTX_TS_LO_TS s)
    (F.ITK_CTX_TS_HI_TS s) t
  match u.pending with
  | some g =>
    ((q.setCtx s { u with fresh := false, latchedAt := t, active := g, pending := none }).clr
      (F.ITK_CTX_COMMIT_STAT_PENDING s)).put (F.ITK_CTX_LATCHED_SEQ_SEQ s) seq
  | none => q.setCtx s { u with fresh := false, latchedAt := t }

/-- Whether a ring moved at the latch starts at its base: WPTR and RPTR then read 0 in the new ring (R198). -/
def Part.latchRing (p : Part) (s : Nat) (old : ItkGroup) : Part :=
  let g := (p.ctx s).active
  if g.base = old.base ∧ g.size = old.size then p
  else (p.put (F.ITK_CTX_WPTR_OFF s) 0).put (F.ITK_CTX_RPTR_OFF s) 0

/-- The staging group of a context. -/
def Part.staging (p : Part) (s : Nat) : ItkGroup :=
  let xy := p.get (F.ITK_CTX_S_WIN_XY_XY s)
  let wh := p.get (F.ITK_CTX_S_WIN_WH_WH s)
  { base := p.get (F.ITK_CTX_S_BASE_LO_BASE s) + 2 ^ 32 * p.get (F.ITK_CTX_S_BASE_HI_BASE s),
    size := p.get (F.ITK_CTX_S_SIZE_SIZE s), x0 := xy % 65536, y0 := xy / 65536, w := wh % 65536, h := wh / 65536 }

/-- A commit is accepted (R185): window within the frame, even width for YUV422, ring aligned and inside the plot's window;
for RTP contexts the window fields are 0. -/
def groupOk (r : Rd) (s : Nat) (g : ItkGroup) : Bool :=
  let ring := g.base % 4096 == 0 && g.size % 4096 == 0 && decide (g.base + g.size ≤ r.window (r.streamPlot s))
  let win := if r.streamSource s = 0 then
      (g.w == 0 && g.h == 0) ||
        (g.w != 0 && g.h != 0 && decide (g.x0 + g.w ≤ r.streamWidth s) && decide (g.y0 + g.h ≤ r.streamHeight s) &&
          (r.streamPixfmt s != 0 || g.w % 2 == 0))
    else g.x0 == 0 && g.y0 == 0 && g.w == 0 && g.h == 0
  ring && win

/-- Write of GO (R185, R188, R197). -/
def Part.itkCommit (p : Part) (s : Nat) : Part :=
  let st := p.get (F.ITK_CTX_STATE_STATE s)
  let g := p.staging s
  if st = 0 ∨ st = 5 then p
  else if !groupOk p.img s g then p.set (F.ITK_CTX_COMMIT_STAT_REJECT s)
  else
    let q := p.iff (p.on (F.ITK_CTX_COMMIT_STAT_PENDING s)) (·.set (F.ITK_CTX_COMMIT_STAT_SUPERSEDED s))
    (q.modCtx s (fun u => { u with pending := some g })).set (F.ITK_CTX_COMMIT_STAT_PENDING s)

/-! Capture rings. -/

/-- Where an entry of `n` bytes goes from write offset `w` with release offset `r` in a ring of `size` bytes: its start and
whether a wrap entry precedes it; none when the ring is full (R183, R184). -/
def ringPlace (w r size n : Nat) : Option (Nat × Bool) :=
  if r ≤ w then
    if w + n < size ∨ (w + n = size ∧ r ≠ 0) then some (w, false)
    else if n < r then some (0, true) else none
  else if w + n < r then some (w, false) else none

/-- Memory address of an offset in a ring at plot-virtual `base`. -/
def Part.ringAddr (p : Part) (s base off : Nat) : Nat := winBase (p.img.streamPlot s) + base + off

/-- Where the next entry starts in a group's ring: a ring that has taken no entry is filled from its base (R198). -/
def ItkCtx.tailIn (u : ItkCtx) (g : ItkGroup) : Nat := if u.ring = (g.base, g.size) then u.tail else 0

/-- The 64-byte entry header (R180); COMMIT_TS is written at the commit. -/
def entryHead (kind flags stream plot len seq width height ts rtpTs pitch lost firstSeq dropped ssrc : Nat) : List Byte :=
  toLe 1 kind ++ toLe 1 flags ++ toLe 1 stream ++ toLe 1 plot ++ toLe 4 len ++ toLe 4 seq ++ toLe 2 width ++
    toLe 2 height ++ toLe 8 ts ++ toLe 8 0 ++ toLe 4 rtpTs ++ toLe 4 pitch ++ toLe 2 lost ++ toLe 2 firstSeq ++
    toLe 4 dropped ++ toLe 4 ssrc ++ List.replicate 12 0

/-- Write a KIND 3 entry from offset `w` to the end of a group's ring (R183). -/
def Part.writeWrap (p : Part) (s : Nat) (g : ItkGroup) (w : Nat) : Part :=
  p.store (p.ringAddr s g.base w) (entryHead 3 0 s (p.img.streamPlot s) (g.size - w) 0 0 0 0 0 0 0 0 0 0)

/-- Bytes of a NAL unit in the ring: length, bytes, and padding to a multiple of 4 (R181). -/
def nalBytes (d : List Byte) : List Byte :=
  toLe 4 d.length ++ d ++ List.replicate ((4 - d.length % 4) % 4) 0

/-- An entry's length rounded up to 64. -/
def round64 (n : Nat) : Nat := (n + 63) / 64 * 64

/-- A frame or an access unit is dropped (R184, R195). -/
def Part.dropEntry (p : Part) (s : Nat) : Part :=
  (p.addSat (F.ITK_CTX_DROPS_COUNT s) 1).modCtx s (fun u => { u with dropped := u.dropped + 1 })

/-! CSI-2. -/

/-- A port error (ITK_PORT_ERR). -/
def Part.portErr (p : Part) (port i : Nat) : Part := p.setBit (F.ITK_PORT_ERR_ERR port) i

/-- The context of a CSI-2 port and virtual channel (R168). -/
def Part.csiCtx (p : Part) (port vc : Nat) : Option Nat :=
  p.img.streams.find? (fun s => p.img.streamSource s == 0 && p.ctxTakes s &&
    p.get (F.ITK_CTX_MATCH_CSI_PORT s) == port && p.get (F.ITK_CTX_MATCH_VC s) == vc)

/-- The stored window of a CSI-2 frame: origin, width and height. -/
def ItkGroup.window (g : ItkGroup) (r : Rd) (s : Nat) : Nat × Nat × Nat × Nat :=
  if g.w = 0 then (0, 0, r.streamWidth s, r.streamHeight s) else (g.x0, g.y0, g.w, g.h)

/-- Bytes per stored pixel: YUV422 2, RGB888 3, RAW14 2 (R169). -/
def pixBytes (fmt : Nat) : Nat := if fmt = 1 then 3 else 2

/-- Line pitch of a stored width (R169). -/
def pitchOf (fmt w : Nat) : Nat := round64 (w * pixBytes fmt)

/-- Bytes of a line on the wire. -/
def wireBytes (fmt w : Nat) : Nat := if fmt = 1 then 3 * w else if fmt = 2 then w * 14 / 8 else 2 * w

/-- The CSI-2 data type of a PIXFMT (R167). -/
def dataType (fmt : Nat) : Nat := if fmt = 0 then 0x1E else if fmt = 1 then 0x24 else 0x2D

/-- Unpack RAW14: seven bytes hold four pixels, high bits first (MIPI CSI-2); each is stored as a u16 (R169). -/
def unpackRaw14 : List Byte → List Byte
  | a :: b :: c :: d :: e :: f :: g :: r =>
    let lows := e.toNat + 256 * f.toNat + 65536 * g.toNat
    toLe 2 (a.toNat * 64 + lows % 64) ++ toLe 2 (b.toNat * 64 + lows / 64 % 64) ++
      toLe 2 (c.toNat * 64 + lows / 4096 % 64) ++ toLe 2 (d.toNat * 64 + lows / 262144 % 64) ++ unpackRaw14 r
  | _ => []

/-- A line in its stored form. -/
def storedLine (fmt : Nat) (d : List Byte) : List Byte := if fmt = 2 then unpackRaw14 d else d

/-- Abandon the frame in progress. -/
def Part.dropFrame (p : Part) (s : Nat) : Part :=
  match (p.ctx s).frame with
  | none => p
  | some f => if f.dropped then p else (p.dropEntry s).modCtx s (fun u => { u with
      frame := some { f with dropped := true } })

/-- Frame Start (R186, R195): a frame without its Frame End is dropped; the new frame latches and takes its place in the ring. -/
def Part.frameStart (p : Part) (t port s number : Nat) : Part :=
  let q := if (p.ctx s).frame.isSome then (p.portErr port 3).dropFrame s else p
  let old := (q.ctx s).active
  let q := (q.latch s t).latchRing s old
  let u := q.ctx s
  let r := q.img
  let w := u.active.window r s
  let len := 64 + w.2.2.2 * pitchOf (r.streamPixfmt s) w.2.2.1
  let f : CsiFrame := { number := number, seq := q.get (F.ITK_CTX_FRAME_SEQ_SEQ s), ts := t, start := 0, lines := 0,
                        dropped := false }
  match ringPlace (u.tailIn u.active) (q.get (F.ITK_CTX_RPTR_OFF s)) u.active.size len with
  | none => (q.dropEntry s).modCtx s (fun v => { v with frame := some { f with dropped := true } })
  | some (start, wrap) =>
    (q.iff wrap (fun x => x.writeWrap s u.active (u.tailIn u.active))).modCtx s (fun v => { v with frame := some { f with start := start } })

/-- One line of the frame in progress (R169, R195). -/
def Part.frameLine (p : Part) (port s : Nat) (f : CsiFrame) (d : List Byte) : Part :=
  let r := p.img
  let fmt := r.streamPixfmt s
  if f.dropped then p
  else if d.length ≠ wireBytes fmt (r.streamWidth s) then (p.portErr port 8).dropFrame s
  else
    let w := (p.ctx s).active.window r s
    let q := p.modCtx s (fun u => { u with frame := some { f with lines := f.lines + 1 } })
    if w.2.1 ≤ f.lines ∧ f.lines < w.2.1 + w.2.2.2 then
      let line := ((storedLine fmt d).drop (w.1 * pixBytes fmt)).take (w.2.2.1 * pixBytes fmt)
      q.store (p.ringAddr s (p.ctx s).active.base (f.start + 64 + (f.lines - w.2.1) * pitchOf fmt w.2.2.1)) line
    else q

/-- Frame End (R195): the frame is complete, or dropped on a line-count or frame-number mismatch. -/
def Part.frameEnd (p : Part) (port s number : Nat) (f : CsiFrame) : Part :=
  let r := p.img
  let close := fun (q : Part) => q.modCtx s (fun u => { u with frame := none })
  if f.dropped then close p
  else if number ≠ f.number then close ((p.portErr port 3).dropFrame s)
  else if f.lines ≠ r.streamHeight s then close ((p.portErr port 8).dropFrame s)
  else
    let u := p.ctx s
    let w := u.active.window r s
    let fmt := r.streamPixfmt s
    let pitch := pitchOf fmt w.2.2.1
    let len := 64 + w.2.2.2 * pitch
    let flags := (if u.dropped = 0 then 0 else 1) +
      (if w.2.2.1 = r.streamWidth s ∧ w.2.2.2 = r.streamHeight s then 0 else 8)
    let q := p.store (p.ringAddr s u.active.base f.start)
      (entryHead 1 flags s (r.streamPlot s) len f.seq w.2.2.1 w.2.2.2 f.ts 0 pitch 0 0 u.dropped 0)
    let stop := if f.start + len = u.active.size then 0 else f.start + len
    q.modCtx s (fun v => { v with
      frame := none, tail := stop, ring := (u.active.base, u.active.size), dropped := 0,
      entries := v.entries ++ [{ base := u.active.base, size := u.active.size, start := f.start, stop := stop, seq := f.seq, ts := f.ts, kind := 1, win := w }] })

/-! RTP (R172 to R176, R181). -/

/-- A parsed RTP packet. -/
structure Rtp where
  pt : Nat
  seq : Nat
  ts : Nat
  ssrc : Nat
  marker : Bool
  payload : List Byte
  deriving DecidableEq, Repr

/-- Parse an RTP packet (RFC 3550): version 2; CSRC list and extension skipped, padding removed. -/
def parseRtp (d : List Byte) : Option Rtp :=
  let b := fun i => (d.getD i 0).toNat
  if d.length < 12 ∨ b 0 / 64 ≠ 2 then none
  else
    let h0 := 12 + 4 * (b 0 % 16)
    let h := if b 0 / 16 % 2 = 1 then h0 + 4 + 4 * beNat ((d.drop (h0 + 2)).take 2) else h0
    let pad := if b 0 / 32 % 2 = 1 then (d.getLastD 0).toNat else 0
    if d.length < h + pad then none
    else some { pt := b 1 % 128, marker := decide (128 ≤ b 1), seq := beNat ((d.drop 2).take 2),
                ts := beNat ((d.drop 4).take 4), ssrc := beNat ((d.drop 8).take 4),
                payload := (d.drop h).take (d.length - h - pad) }

/-- What a packet's payload holds: whole NAL units, a fragment (first, last, bytes with the NAL header rebuilt), or nothing
that is supported. -/
inductive Payload where
  | units (l : List (List Byte))
  | fragment (first last : Bool) (head : List Byte) (data : List Byte)
  | unsupported
  deriving DecidableEq, Repr

/-- The NAL units of an aggregation packet: each after a 16-bit length; `n` bounds the walk. -/
def splitAggregate : Nat → List Byte → List (List Byte)
  | 0, _ => []
  | n + 1, d =>
    if d.length < 2 then []
    else
      let len := beNat (d.take 2)
      (d.drop 2).take len :: splitAggregate n (d.drop (2 + len))

/-- The payload of an AVC packet (RFC 6184, modes 0 and 1). -/
def avcPayload (d : List Byte) : Payload :=
  let b := fun i => (d.getD i 0).toNat
  let ty := b 0 % 32
  if d = [] then .unsupported
  else if 1 ≤ ty ∧ ty ≤ 23 then .units [d]
  else if ty = 24 then .units (splitAggregate d.length (d.drop 1))
  else if ty = 28 then
    .fragment (b 1 / 128 == 1) (b 1 / 64 % 2 == 1) [BitVec.ofNat 8 (b 0 / 32 * 32 + b 1 % 32)] (d.drop 2)
  else .unsupported

/-- The payload of an HEVC packet (RFC 7798 with sprop-max-don-diff 0). -/
def hevcPayload (d : List Byte) : Payload :=
  let b := fun i => (d.getD i 0).toNat
  let ty := b 0 / 2 % 64
  if d.length < 2 then .unsupported
  else if ty = 48 then .units (splitAggregate d.length (d.drop 2))
  else if ty = 49 then
    .fragment (b 2 / 128 == 1) (b 2 / 64 % 2 == 1)
      [BitVec.ofNat 8 (b 0 / 128 * 128 + b 2 % 64 * 2 + b 0 % 2), BitVec.ofNat 8 (b 1)] (d.drop 3)
  else if ty ≤ 47 then .units [d]
  else .unsupported

/-- A notice to decode. -/
def Part.notice (p : Part) (s : Nat) (n : NalNotice) : Part :=
  p.modCtx s (fun u => { u with notices := u.notices ++ [n] })

/-- A NAL unit of the access unit is omitted: DAMAGED (R181). -/
def Part.omitNal (p : Part) (s : Nat) (a : AccessUnit) : Part × AccessUnit :=
  (p.notice s (.omitted a.seq a.ts), { a with damaged := true, frag := none })

/-- Append a NAL unit to the access unit in the ring; the unit is abandoned when it reaches RPTR (R184). -/
def Part.appendNal (p : Part) (s : Nat) (a : AccessUnit) (d : List Byte) : Part × AccessUnit :=
  if a.abandoned then (p, a)
  else
    let payload := a.payload ++ nalBytes d
    let len := round64 (64 + payload.length)
    match ringPlace a.start (p.get (F.ITK_CTX_RPTR_OFF s)) a.group.size len with
    | none => ((p.dropEntry s).notice s (.abandoned a.seq a.ts), { a with abandoned := true })
    | some (start, wrap) =>
      let q := (p.iff (wrap && decide (start ≠ a.start)) (fun x => x.writeWrap s a.group a.start)).store
        (p.ringAddr s a.group.base (start + 64)) payload
      let addr := a.group.base + start + 64 + a.payload.length + 4
      (q.notice s (.nal a.seq a.ts addr d.length d), { a with start := start, payload := payload, nals := a.nals + 1 })

/-- One packet's payload joins the access unit in sequence order (R181). -/
def Part.addPayload (p : Part) (s : Nat) (a : AccessUnit) (pl : Payload) : Part × AccessUnit :=
  match pl with
  | .units l =>
    let start : Part × AccessUnit := if a.frag.isSome then p.omitNal s a else (p, a)
    l.foldl (fun x d => x.1.appendNal s x.2 d) start
  | .fragment first last head data =>
    let x : Part × AccessUnit := if first && a.frag.isSome then p.omitNal s a else (p, a)
    let frag := if first then some (head ++ data) else x.2.frag.map (· ++ data)
    match frag with
    | some f => if last then x.1.appendNal s { x.2 with frag := none } f else (x.1, { x.2 with frag := some f })
    | none => if last then x.1.omitNal s x.2 else (x.1, { x.2 with damaged := true })
  | .unsupported => (p.addSat (F.ITK_CTX_LATE_COUNT s) 1, a)

/-- The access unit ends (R176): its header is written and its entry waits for the commit. -/
def Part.endAu (p : Part) (s : Nat) (timeout : Bool) : Part :=
  match (p.ctx s).au with
  | none => p
  | some a0 =>
    let x : Part × AccessUnit := if a0.frag.isSome then p.omitNal s a0 else (p, a0)
    let a := x.2
    let u := x.1.ctx s
    let q := x.1.modCtx s (fun v => { v with
      au := none, ended := some a.rtpTs, seen := v.seen.filter (fun e => e.1 != a.rtpTs) })
    let bare := a.payload.isEmpty && (ringPlace a.start (q.get (F.ITK_CTX_RPTR_OFF s)) a.group.size 64).isNone
    if a.abandoned then q
    else if bare then (q.dropEntry s).notice s (.abandoned a.seq a.ts)
    else
      let len := round64 (64 + a.payload.length)
      let flags := (if u.dropped = 0 then 0 else 1) + (if a.damaged then 2 else 0) + (if timeout then 4 else 0)
      let head := entryHead 2 flags s (q.img.streamPlot s) len a.seq 0 a.nals a.ts a.rtpTs 0 a.lost a.firstSeq
        u.dropped (q.get (F.ITK_CTX_SSRC_SSRC s))
      let stop := if a.start + len = a.group.size then 0 else a.start + len
      let q := (q.store (q.ringAddr s a.group.base a.start) head).notice s (.auEnd a.seq a.ts a.damaged (u.dropped != 0))
      q.modCtx s (fun v => { v with
        tail := stop, ring := (a.group.base, a.group.size), dropped := 0,
        entries := v.entries ++ [{ base := a.group.base, size := a.group.size, start := a.start, stop := stop, seq := a.seq, ts := a.ts, kind := 2, win := (0, 0, 0, 0) }] })

/-- Begin the access unit of an RTP timestamp, which its first packet seen has already latched, with the group that then applied. -/
def Part.beginAu (p : Part) (s rtpTs firstSeq : Nat) : Part :=
  let u := p.ctx s
  let e := (u.seen.find? (fun e => e.1 == rtpTs)).getD (rtpTs, 0, 0, u.active)
  p.setCtx s { u with au := some { rtpTs := rtpTs, group := e.2.2.2, seq := e.2.1, ts := e.2.2.1,
                                   start := u.tailIn e.2.2.2, payload := [], nals := 0, lost := 0,
                                   firstSeq := firstSeq, damaged := false, frag := none, abandoned := false } }

/-- One sequence number, in order: a packet, or a loss (R175, R176). -/
def Part.takeSeq (p : Part) (s ext : Nat) (pkt : Option RtpPkt) : Part :=
  let q := p.modCtx s (fun u => { u with
    next := ext + 1, held := FMap.put (fun _ => none) u.held ext none })
  match pkt with
  | none =>
    let q := q.addSat (F.ITK_CTX_LOST_COUNT s) 1
    match (q.ctx s).au with
    | some a => let x := q.omitNal s { a with lost := a.lost + 1 }
      x.1.modCtx s (fun u => { u with au := some x.2 })
    | none => q
  | some k =>
    let cur := (q.ctx s).au
    if (q.ctx s).ended = some k.ts ∧ (cur.map (·.rtpTs)) ≠ some k.ts then q
    else
    let q := if (cur.map (·.rtpTs)) = some k.ts then q else (q.endAu s false).beginAu s k.ts (ext % 65536)
    let pl := if q.img.streamCodec s = 2 then hevcPayload k.payload else avcPayload k.payload
    match (q.ctx s).au with
    | none => q
    | some a =>
      let x := q.addPayload s a pl
      let r := x.1.modCtx s (fun u => { u with au := some x.2 })
      if k.marker then r.endAu s false else r

/-- Deliver in order what has arrived, and what lies more than 32 behind the newest as lost; `n` bounds the walk (R175). -/
def Part.drainSeq (s : Nat) : Nat → Part → Part
  | 0, p => p
  | n + 1, p =>
    let u := p.ctx s
    let pkt := FMap.get (fun _ => none) u.held u.next
    if u.newest < u.next then p
    else if pkt.isSome || decide (u.next + 32 < u.newest) then Part.drainSeq s n (p.takeSeq s u.next pkt)
    else p

/-- The extended sequence number nearest to `newest` with low bits `seq`. -/
def extendSeq (newest seq : Nat) : Nat :=
  let d := (seq + 65536 - newest % 65536) % 65536
  if d < 32768 then newest + d else newest + d - 65536

/-- An RTP packet for a context (R174 to R176), at its ingress stamp `t`. -/
def Part.rtpIn (p : Part) (s t : Nat) (k : Rtp) : Part :=
  let locked := p.on (F.ITK_CTX_STATE_SSRC_LOCKED s)
  if locked && p.get (F.ITK_CTX_SSRC_SSRC s) != k.ssrc then p.addSat (F.ITK_CTX_FOREIGN_COUNT s) 1
  else
    let p := if locked then p else ((p.put (F.ITK_CTX_SSRC_SSRC s) k.ssrc).set (F.ITK_CTX_STATE_SSRC_LOCKED s)).modCtx s
      (fun u => { u with newest := 65536 + k.seq, next := 65536 + k.seq, held := [], ended := none })
    let u := p.ctx s
    let ext := extendSeq u.newest k.seq
    if ext + 32 < u.newest then p.addSat (F.ITK_CTX_LATE_COUNT s) 1
    else if ext < u.next then p
    else
      let isNew := !(u.seen.any (fun e => e.1 == k.ts)) && (u.au.map (·.rtpTs)) != some k.ts && u.ended != some k.ts
      let q := if isNew then
          let old := (p.ctx s).active
          let l := (p.latch s t).latchRing s old
          l.modCtx s (fun v => { v with seen := v.seen ++ [(k.ts, l.get (F.ITK_CTX_FRAME_SEQ_SEQ s), t, (l.ctx s).active)] })
        else p
      let q := q.modCtx s (fun v => { v with
        newest := max v.newest ext, packetAt := t,
        held := FMap.put (fun _ => none) v.held ext (some { ts := k.ts, marker := k.marker, payload := k.payload }) })
      Part.drainSeq s ((q.ctx s).newest + 1 - (q.ctx s).next) q

/-! Commit and pairing. -/

/-- A committed frame becomes a candidate of every enabled set its stream belongs to; a reference frame waits for its pair
(R190, R191). -/
def Part.offer (p : Part) (s seq ts : Nat) : Part :=
  p.each (List.range 32) (fun q k =>
    let r := q.img
    let ms := (List.range (r.setMembers k)).filter (fun i => r.setStream k i == s)
    if !q.on (F.ITK_SET_CTRL_EN k) then q
    else ms.foldl (fun (q : Part) i =>
      let u := q.aset k
      let mine := ((({ member := i, seq := seq, ts := ts, used := false } : Candidate) ::
        u.cands.filter (fun c => c.member == i)).take 8)
      q.setAset k { cands := mine ++ u.cands.filter (fun c => c.member != i),
                    refs := if i = r.setRef k then u.refs ++ [(seq, ts)] else u.refs }) q)

/-- Commit the oldest complete entry of a context (R182). WPTR is an offset in the active ring: an entry completed in the ring before
it moves no pointer of the new one (R198, DEDUCED). -/
def Part.commitEntry (p : Part) (s t : Nat) (e : RingEntry) : Part :=
  let g := (p.ctx s).active
  let q := p.store (p.ringAddr s e.base (e.start + 0x18)) (toLe 8 t)
  let q := (q.iff (e.base == g.base && e.size == g.size) (·.put (F.ITK_CTX_WPTR_OFF s) e.stop)).modCtx s (fun u => { u with
    entries := u.entries.drop 1,
    committed := if e.kind = 1 then (e :: u.committed).take 64 else u.committed })
  q.offer s e.seq e.ts

/-- Distance between two timestamps. -/
def distance (a b : Nat) : Nat := if a ≤ b then b - a else a - b

/-- The candidate of a member nearest to `t` within the window, the earlier on a tie, not already used (R191). -/
def choose (u : ItkSet) (member t window : Nat) : Option Candidate :=
  (u.cands.filter (fun c => c.member == member && !c.used && decide (distance c.ts t ≤ window))).foldl
    (fun best c => match best with
      | none => some c
      | some b => if distance c.ts t < distance b.ts t ∨ (distance c.ts t = distance b.ts t ∧ c.ts < b.ts) then some c
        else some b) none

/-- The longest nominal frame period among a set's members. -/
def Rd.longestPeriod (r : Rd) (k : Nat) : Nat :=
  (List.range (r.setMembers k)).foldl (fun m i => max m (r.framePeriod (r.setStream k i))) 0

/-- A member's choice for reference time `t` is final (R192). -/
def Part.choiceFinal (p : Part) (now k member t : Nat) : Bool :=
  (p.aset k).cands.any (fun c => c.member == member && decide (t ≤ c.ts)) ||
    decide (t + p.img.setWindow k + 2 * p.img.longestPeriod k ≤ now)

/-- The pair of the oldest reference frame, by member; none while some choice is not final. -/
def Part.pairReady (p : Part) (now k : Nat) : Option (List (Option Candidate)) :=
  match (p.aset k).refs with
  | [] => none
  | (seq, t) :: _ =>
    let r := p.img
    let members := List.range (r.setMembers k)
    if members.all (fun i => i == r.setRef k || p.choiceFinal now k i t) then
      some (members.map (fun i => if i = r.setRef k then some { member := i, seq := seq, ts := t, used := true }
        else choose (p.aset k) i t (r.setWindow k)))
    else none

end Sys2Proof.Machine
end

