-- ==== Sys2Proof/Machine/Ethernet.lean ====
section
/-! DEFINITION. Ethernet (R171, R173): received frames, the stream forwarder ahead of the match (R536), the software receive queue,
and frames from Trellis handed on (R534, R536, R538). -/

namespace Sys2Proof.Machine

/-- A UDP datagram as the port received it: the source IPv4 address as four bytes (none for IPv6), ports and payload. -/
structure Udp where
  src : Option (List Byte)
  dport : Nat
  payload : List Byte
  deriving DecidableEq, Repr

/-- The EtherType and payload of a frame a port accepts: untagged, or with the port's tag where it is TAGGED. -/
def Part.etherBody (p : Part) (port : Nat) (f : List Byte) : Option (Nat × List Byte) :=
  let ty := beNat ((f.drop 12).take 2)
  let vid := beNat ((f.drop 14).take 2) % 4096
  if p.on (F.ETH_VLAN_TAGGED port) then
    if ty = 0x8100 ∧ vid = p.get (F.ETH_VLAN_VID port) then some (beNat ((f.drop 16).take 2), f.drop 18) else none
  else some (ty, f.drop 14)

/-- A frame is addressed to the port: its station address, broadcast or multicast. -/
def Part.addressed (p : Part) (port : Nat) (f : List Byte) : Bool :=
  let d := leNat (f.take 6)
  d == p.mac port || d % 2 == 1

/-- A frame is sent to a multicast address other than broadcast; no stream accepts it (R171). -/
def multicast (f : List Byte) : Bool :=
  let d := leNat (f.take 6)
  d % 2 == 1 && d != 0xFFFFFFFFFFFF

/-- The UDP datagram of an EtherType and payload, if it is one and not fragmented. -/
def parseUdp (ty : Nat) (b : List Byte) : Option Udp :=
  let u := fun (h : Nat) (src : Option (List Byte)) =>
    let len := beNat ((b.drop (h + 4)).take 2)
    if b.length < h + 8 ∨ len < 8 then none
    else some { src := src, dport := beNat ((b.drop (h + 2)).take 2), payload := (b.drop (h + 8)).take (len - 8) }
  let x := fun (i : Nat) => (b.getD i 0).toNat
  if ty = 0x0800 then
    if x 0 / 16 = 4 ∧ x 9 = 17 ∧ beNat ((b.drop 6).take 2) % 0x4000 = 0 then u (4 * (x 0 % 16)) (some ((b.drop 12).take 4)) else none
  else if ty = 0x86DD then (if x 0 / 16 = 6 ∧ x 6 = 17 then u 40 none else none)
  else none

/-- An IPv4 address as a register holds it: bits 7:0 hold its first byte. -/
def ipReg (l : List Byte) : Nat := leNat l

/-- A source address agrees with a match register: 0 matches any. -/
def srcAgrees (reg : Nat) (src : Option (List Byte)) : Bool :=
  reg == 0 || (match src with
    | some l => ipReg l == reg
    | none => false)

/-- The enabled context of a port that a datagram matches (R173). -/
def Part.udpCtx (p : Part) (port : Nat) (d : Udp) (r : Rtp) : Option Nat :=
  (List.range 128).find? (fun s => p.on (F.ITK_CTX_CTRL_EN s) && (p.img.streamRec s).isSome && p.img.streamSource s != 0 &&
    p.get (F.ITK_CTX_MATCH_ETH_PORT s) == port && p.get (F.ITK_CTX_MATCH_UDP_PORT s) == d.dport &&
    srcAgrees (p.get (F.ITK_CTX_SRC_IP_IP s)) d.src && p.get (F.ITK_CTX_RTP_PT s) == r.pt)

/-- A datagram without a context goes to the Shed runtime's queue, or is dropped when that is full (R173). -/
def Part.toSoftware (p : Part) (port : Nat) (f : List Byte) (full : Bool) : Part :=
  if full then p.addSat (F.ETH_RX_DROP_COUNT port) 1
  else { p with eth := { p.eth with software := (port, f) :: p.eth.software } }

/-- The forwarder entry that a datagram matches (R536); none of a fenced plot. -/
def Part.forwarder (p : Part) (port : Nat) (d : Udp) : Option Nat :=
  (List.range 128).find? (fun e => p.on (F.TRL_FWD_CTRL_EN e) && p.get (F.TRL_FWD_MATCH_UDP_PORT e) == d.dport &&
    p.get (F.TRL_FWD_MATCH_ETH_PORT e) == port && srcAgrees (p.get (F.TRL_FWD_SRC_IP_IP e)) d.src &&
    !p.fenced (p.get (F.TRL_FWD_CTRL_PLOT e)))

/-- The plaintext of a stream frame (R531). -/
def fwdPlain (ts port : Nat) (d : Udp) : List Byte :=
  toLe 8 ts ++ toLe 1 port ++ [0] ++ toBe 2 d.dport ++ d.src.getD [0, 0, 0, 0] ++ d.payload

/-- A datagram goes to its context, or to software (R173). -/
def Part.udpLocal (p : Part) (ts port : Nat) (d : Udp) (f : List Byte) (full : Bool) : Part :=
  match parseRtp d.payload with
  | none => p.toSoftware port f full
  | some r => match p.udpCtx port d r with
    | none => p.toSoftware port f full
    | some s => if p.ctxTakes s then p.rtpIn s ts r else p

/-- The Shed runtime's ARP table learns a sender's addresses (R502). -/
def Part.arpLearn (p : Part) (b : List Byte) : Part :=
  let ip := beNat ((b.drop 14).take 4)
  let mac := beNat ((b.drop 8).take 6)
  { p with eth := { p.eth with arp := (ip, mac) :: p.eth.arp.filter (fun e => e.1 != ip) } }

/-- A frame received by a port, stamped `ts` (R55, R173): the forwarder first, then the streams, then software. A pause frame is
discarded (R171). -/
def Part.ethRx (p : Part) (ts port : Nat) (f : List Byte) (fcsOk full : Bool) : Part :=
  if !fcsOk then p.addSat (F.ETH_RX_ERR_COUNT port) 1
  else
    let q := p.add (F.ETH_RX_FRAMES_COUNT port) 1
    if !q.addressed port f then q
    else match q.etherBody port f with
      | none => q
      | some (ty, b) =>
        if ty = 0x8808 then q
        else match if multicast f then none else parseUdp ty b with
        | none => (if ty = 0x0806 then q.arpLearn b else q).toSoftware port f full
        | some d =>
          match q.forwarder port d with
          | none => q.udpLocal ts port d f full
          | some e =>
            let r := q.trlSend 1 (q.get (F.TRL_FWD_CTRL_DST_NODE e)) (q.get (F.TRL_FWD_CTRL_PLOT e)) (fwdPlain ts port d)
            if q.on (F.TRL_FWD_CTRL_COPY e) then r.udpLocal ts port d f full else r

/-! Stream frames from Trellis (R534, R536, R537). -/

/-- The plaintext of a stream frame goes to a context of the frame's plot with SOURCE 2, or is dropped with cause NOMATCH. -/
def Part.fwdIn (p : Part) (node plot : Nat) (timeValid : Bool) (plain : List Byte) : Part :=
  let ts := leNat (plain.take 8)
  let port := (plain.getD 8 0).toNat
  let d : Udp := { src := some ((plain.drop 12).take 4), dport := beNat ((plain.drop 10).take 2), payload := plain.drop 16 }
  let hit := (parseRtp d.payload).bind (fun r => (p.udpCtx port d r).bind (fun s =>
    if p.img.streamSource s == 2 && p.img.streamPlot s == plot then some (s, r) else none))
  match hit with
  | none => p.trlDrop 5 node plot
  | some (s, r) =>
    if p.ctxTakes s then
      let q := p.rtpIn s ts r
      if timeValid then q
      else
        let u := q.ctx s
        let seq := match u.seen.find? (fun e => e.1 == r.ts), u.au with
          | some e, _ => e.2.1
          | none, some a => a.seq
          | none, none => q.get (F.ITK_CTX_FRAME_SEQ_SEQ s)
        q.modCtx s (fun v => { v with noTime := (seq :: v.noTime.filter (· != seq)).take 256 })
    else p

/-- A whole frame has been received (R520, R534). -/
def Part.trlFrameIn (p : Part) (t : Nat) (f : List Byte) : Part :=
  let n := fun (o k : Nat) => leNat ((f.drop o).take k)
  let node := n 1 1
  let plot := n 4 1
  if n 2 1 ≠ p.trlNode then p.trlTransit f
  else
    let r := p.trlOpen f
    if r.1 ≠ 0 then
      let q := p.trlDrop r.1 node plot
      if r.1 = 7 then q.addSat F.TRL_AUTH_FAIL_COUNT 1 else q
    else
      let q := (p.useLink plot (n 8 4) (n 0x0C 4)).trlAccept (node, plot, n 8 4) (n 0x14 6)
      if n 0 1 = 1 then q.fwdIn node plot (n 5 1 % 2 == 1) r.2
      else if n 0 1 = 2 then q.trlCrate t plot r.2
      else (q.modTrl (fun u => { u with
        nodes := FMap.put (fun _ => 3) u.nodes (r.2.getD 0 0).toNat ((r.2.getD 1 0).toNat % 4) })).showRoutes

/-- A flit received by a port that is UP (R522, R523). -/
def Part.flitRx (p : Part) (t k : Nat) (l : List Byte) : Part :=
  let n := fun (o w : Nat) => leNat ((l.drop o).take w)
  if l.length ≠ 64 ∨ Crypto.crc32c (l.take 60) ≠ n 60 4 then (p.addSat (F.TRL_P_CRC_ERR_COUNT k) 1).trlNak k
  else
    let q := if n 4 2 / 32768 = 1 then p.trlAck k (n 4 2 % 4096) else p
    let q := q.trlCred k (n 6 2)
    let kind := n 0 1
    if kind = 5 then q.trlCtl k ((l.drop 8).take 52)
    else if 1 ≤ kind ∧ kind ≤ 4 then
      if n 2 2 % 4096 = (q.tport k).expect then
        let r := q.trlData k kind (n 1 1 % 4) ((l.drop 8).take 52)
        match r.2 with
        | some f => r.1.trlFrameIn t f
        | none => r.1
      else q.trlNak k
    else q

end Sys2Proof.Machine
end

