-- ==== Sys2Proof/Machine/Models.lean ====
section
/-! DEFINITION. Models (13_models_grafting): loads, the digest and format checks, placement, weight fetches, graft families,
staging and the wave. -/

namespace Sys2Proof.Machine

/-! Families (R373, R374). -/

/-- A stage of a pipeline names the model. -/
def Rd.named (r : Rd) (m : Nat) : Bool :=
  r.pipes.any (fun k => (List.range (r.pipeStages k)).any (fun i => r.stageKind k i == 1 && r.stageRef k i == m))
/-- The live member of a family at boot: the one that stages name; where none is named, the first that grafts on nothing
(assumption 43). -/
def Rd.bootLive (r : Rd) (m : Nat) : Nat :=
  let f := r.family m
  ((f.find? r.named).or (f.find? (fun x => r.graftOf x == 0xFFFF))).getD m
/-- A graft model: a member that is not live at boot. -/
def Rd.graftModel (r : Rd) (m : Nat) : Bool := decide (1 < (r.family m).length) && r.bootLive m != m

/-! States. -/

/-- A model changes state. -/
def Part.setState (p : Part) (m st : Nat) : Part := p.modModel m (fun u => { u with state := st })
/-- A model enters READY, FAILED or STAGED: a CONFIG record and a MODEL event (R364). -/
def Part.enterState (p : Part) (t m st cause layer : Nat) : Part :=
  (p.modModel m (fun u => { u with state := st, cause := cause, placing := false })).configModel t 3 st m cause layer

/-! Loads (R363). -/

/-- Blocks of a layer or of a kernel's code, with its namespace and first LBA. -/
def Part.loadSpan (p : Part) (x : LoadRun) : Nat × Nat × Nat :=
  let r := p.img
  if x.kernel then
    let ns := r.kernelVal x.item 0 (fun o => r.u32 (o + 0x18))
    (ns, r.kernelVal x.item 0 (fun o => r.u64 (o + 0x10)), ceilDiv (r.kernelVal x.item 0 (fun o => r.u32 (o + 4))) (p.lbaSize ns))
  else (r.modelNsid x.item, r.layerLba x.item x.layer, ceilDiv (r.layerLength x.item x.layer) (p.lbaSize (r.modelNsid x.item)))

/-- Issue the Read of a load's current layer. -/
def Part.readLayer (p : Part) (t k : Nat) (x : LoadRun) : Part :=
  let s := p.loadSpan x
  (p.modLoadq k (fun u => { u with cur := some { x with progressAt := t } })).nvIssue t
    { op := 1, plot := k, a := x.item, b := x.layer, nsid := s.1, lba := s.2.1, blocks := s.2.2, tries := 0, progressAt := t } []

/-- Commands that have started on a model still run (R367). -/
def Part.modelBusy (p : Part) (m : Nat) : Bool := p.jobs.infers.any (fun u => u.model == m && u.entered && u.left != 0)

/-- A plot's next queued load starts, when none runs: only of a model that is ABSENT or FAILED (R364), once commands on it have
ended (R367). -/
def Part.nextLoad (p : Part) (t k : Nat) : Part :=
  let u := p.loadq k
  match u.cur, u.queue.dropWhile (fun e => !e.1 && (p.model e.2).state != 0 && (p.model e.2).state != 7) with
  | none, (kernel, item) :: rest =>
    if !kernel && p.modelBusy item then p.setLoadq k { cur := none, queue := (kernel, item) :: rest } else
    let q := p.setLoadq k { cur := none, queue := rest }
    let q := if kernel then q else q.modModel item (fun v => { v with state := 1, cause := 0 })
    q.readLayer t k { kernel := kernel, item := item, layer := 0, progressAt := t }
  | _, _ => p

/-- Loads that waited for the commands of their model start (R367). -/
def Part.nextLoads (p : Part) (t : Nat) : Part := p.each (List.range 9) (fun q k => q.nextLoad t k)

/-- Queue a load. -/
def Part.queueLoad (p : Part) (t k : Nat) (kernel : Bool) (item : Nat) : Part :=
  (p.modLoadq k (fun u => { u with queue := u.queue ++ [(kernel, item)] })).nextLoad t k

/-- The loads of boot step 11 and of Fallow step 8 for a plot (shared kernels with plot 0): kernels in NVMe and LOAD 0 models. -/
def Part.startLoads (p : Part) (t k : Nat) : Part :=
  let r := p.img
  let ks := (r.recs 8).map (fun o => r.u16 o)
  let ks := ks.filter (fun x => r.kernelPlot x == k && r.kernelVal x 0 (fun o => r.u8 (o + 3)) == 1)
  let ms := (r.plotModels k).filter (fun m => r.modelLoad m == 0)
  let q := p.each ks (fun q x => q.modLoadq k (fun u => { u with queue := u.queue ++ [(true, x)] }))
  (q.each ms (fun q m => q.modLoadq k (fun u => { u with queue := u.queue ++ [(false, m)] }))).nextLoad t k

/-- No load of a plot is running or waiting, and none of its models is being placed or staged for the first time. -/
def Part.loadsDone (p : Part) (k : Nat) : Bool :=
  (p.loadq k).cur.isNone && (p.loadq k).queue.isEmpty &&
    !(p.img.plotModels k).any (fun m => (p.model m).state == 1 || ((p.model m).state == 3 && p.img.modelLoad m == 0))

/-- N's shadow banks are written with zero on each of its beds (R380). -/
def Part.zeroShadow (p : Part) (n : Nat) : Part :=
  p.each (bedsOf (p.img.modelBeds n)) (fun q b =>
    q.zero (bedBase b + p.img.shadowFirst n * 0x8000) (p.img.shadowCount n * 0x8000))

/-- A load fails (R365): it reads no further layer, and the next one starts. A graft ordered of the model is abandoned (R380). -/
def Part.loadFail (p : Part) (t k cause : Nat) (x : LoadRun) : Part :=
  let q := p.modLoadq k (fun u => { u with cur := none })
  let q := q.nvRetireAll (fun c => c.op == 1 && c.plot == k && c.a == x.item && c.b == x.layer)
  let q := if x.kernel then q else
    let r := if (q.model x.item).ordered then q.zeroShadow x.item else q
    (r.enterState t x.item 7 cause x.layer).modModel x.item (fun v => { v with ordered := false })
  q.nextLoad t k

/-- Every layer of a model is verified in DRAM: where it goes from LOADING (R364). -/
def Part.modelRead (p : Part) (t m : Nat) : Part :=
  let r := p.img
  if r.graftModel m then
    if r.modelLoad m = 0 ∨ (p.model m).ordered then p.modModel m (fun v => { v with state := 3, placing := true })
    else p.setState m 2
  else if r.modelResidency m = 0 then p.modModel m (fun v => { v with placing := true })
  else p.enterState t m 6 0 0

/-- A layer's read finishes with its bytes, or fails (R115, R333, R360, R363). -/
def Part.layerRead (p : Part) (t k : Nat) (ok : Bool) (data : List Byte) : Part :=
  match (p.loadq k).cur with
  | none => p
  | some x =>
    let r := p.img
    let done := (p.nvFree (fun c => c.op == 1 && c.plot == k && c.a == x.item && c.b == x.layer)).add F.PRP_CMDS_COUNT 1
    if !ok then done.loadFail t k 2 x
    else if x.kernel then
      let want := ((r.kernelRec x.item).map (fun o => r.bytes (o + 0x20) 32)).getD []
      if Crypto.sha256 data = want then
        let q := { done with models := { done.models with kernels := (x.item :: done.models.kernels).eraseDups } }
        (q.modLoadq k (fun u => { u with cur := none })).nextLoad t k
      else done.loadFail t k 1 x
    else
      let q := done.store (winBase k + r.blobBase x.item x.layer) (data.take (r.layerLength x.item x.layer))
      if Crypto.sha256 data ≠ r.layerSha x.item x.layer then q.loadFail t k 1 x
      else
        let q := q.copyHead x.item x.layer data
        if !blobOk r x.item x.layer (q.blob x.item x.layer) then q.loadFail t k 3 x
        else if x.layer + 1 < r.modelLayers x.item then q.readLayer t k { x with layer := x.layer + 1 }
        else (((q.modLoadq k (fun u => { u with cur := none })).modelRead t x.item).nextLoad t k)

/-! Placement (R335, R368). -/

/-- Copy layer `i` of a model to bed `b` of `beds`, from the model store (R362): the scale table, and its groups' weights one after
another, laid out as the Gardeners' copy of the descriptor says (R333). A byte that falls
in a bank the plot does not own is not written (R292). -/
def Part.placeLayer (p : Part) (m i : Nat) (beds : List Nat) (b : Nat) : Part :=
  let k := p.img.modelPlot m
  let r := p.blob m i
  let d := readDesc (p.head m i)
  let base := 0x800000000000 + b * 0x200000
  let gb := d.groupBytes (p.img.layerWfmt m i)
  let woff := Rd.up (0xC0 + 16 * d.cout) 64
  let ix := (beds.findIdx? (· == b)).getD 0
  let gs := (List.range d.groups).filter (fun g => d.wRepl || g % beds.length == ix)
  let put := fun (q : Part) (a : Nat) (l : List Byte) =>
    ((List.range l.length).zip l).foldl (fun (q : Part) e => match q.virtKey k (a + e.1) with
      | some key => q.setByte key e.2
      | none => q) q
  let q := put p (base + d.scaleOff) (r.bytes 0xC0 (16 * d.cout))
  ((List.range gs.length).zip gs).foldl (fun (q : Part) e => put q (base + d.wOff + e.1 * gb) (r.bytes (woff + e.2 * gb) gb)) q

/-- Copy every layer of a pinned model onto its beds. -/
def Part.placeModel (p : Part) (m : Nat) : Part :=
  p.each (List.range (p.img.modelLayers m)) (fun q i =>
    let beds := q.layerBeds m i
    beds.foldl (fun (q : Part) b => q.placeLayer m i beds b) q)

/-- Every copy of a pinned model has settled: READY (R368). -/
def Part.placed (p : Part) (t m : Nat) : Part := ((p.placeModel m).enterState t m 6 0 0).tryInfers

/-! Weight fetches (R370). -/

/-- The next fetch of a streamed inference may settle: layer 0 at once, layer i + 1 once a command of layer i has started. -/
def Part.fetchReady (p : Part) (h : Nat) : Bool :=
  match p.infer? h with
  | none => false
  | some u =>
    p.img.modelResidency u.model == 1 && decide (u.fetched < p.img.modelLayers u.model) &&
      (u.fetched == 0 || decide (u.fetched ≤ u.layer) || (decide (u.fetched = u.layer + 1) && u.entered &&
        decide ((p.jobs.ready.filter (fun c => c.task == .layer h u.layer)).length < (p.inferBeds u u.layer).length)))

/-- A weight fetch settles (R370). -/
def Part.fetchSettled (p : Part) (h : Nat) : Part :=
  match p.infer? h with
  | none => p
  | some u =>
    let beds := p.inferBeds u u.fetched
    let q := beds.foldl (fun (q : Part) b => q.placeLayer u.model u.fetched beds b) p
    (q.modInfer h (fun v => { v with fetched := v.fetched + 1 })).tryInfers

/-! Grafting (R375 to R382). -/

/-- Byte spans of a layer on its beds: weights and scale table. -/
def Part.layerSpans (p : Part) (m i : Nat) : List (Nat × Nat) :=
  let d := readDesc (p.head m i)
  [(d.wOff, d.bedShare (p.img.layerWfmt m i) (p.layerBeds m i).length), (d.scaleOff, 16 * d.cout)]

/-- A layer of N does not match O's (R376). -/
def Part.mismatch (p : Part) (n o i : Nat) : Bool :=
  let dn := readDesc (p.head n i)
  let dO := readDesc (p.head o i)
  let lo := p.img.shadowFirst n * 0x8000
  let hi := lo + p.img.shadowCount n * 0x8000
  p.layerBeds n i != p.layerBeds o i || dn.inAddr != dO.inAddr || dn.in2Addr != dO.in2Addr || dn.outAddr != dO.outAddr ||
    (p.layerSpans n i).any (fun s => decide (s.1 < lo ∨ hi < s.1 + s.2)) ||
    (p.layerSpans n i).any (fun s => (p.layerSpans o i).any (fun e => decide (s.1 < e.1 + e.2 ∧ e.1 < s.1 + s.2)))

/-- The live member that a family's stages run (R377). -/
def Part.familyLive (p : Part) (m : Nat) : Nat := p.liveModel (p.img.bootLive m)
/-- A wave of the family is in progress. -/
def Part.familyWave (p : Part) (m : Nat) : Bool := (p.img.family m).any (fun x => (p.model x).state == 5)

/-- The wave of a STAGED model that has been ordered starts: the barrier closes (R377 step 1). -/
def Part.startWave (p : Part) (n : Nat) : Part :=
  if (p.model n).state = 4 ∧ (p.model n).ordered then
    p.modModel n (fun v => { v with state := 5, swapped := 0, ordered := false })
  else p

/-- Staging of N settles: STAGED, or FAILED with MISMATCH (R376, R380). -/
def Part.stagingSettled (p : Part) (t n : Nat) : Part :=
  let o := p.familyLive n
  match (List.range (p.img.modelLayers n)).find? (p.mismatch n o) with
  | some i => ((p.zeroShadow n).enterState t n 7 4 i).modModel n (fun v => { v with ordered := false })
  | none => ((p.placeModel n).enterState t n 4 0 0).startWave n

/-- Staging can settle: the layers of O that it is compared with are not still to be loaded (R376). -/
def Part.stagingReady (p : Part) (n : Nat) : Bool :=
  let o := p.familyLive n
  !((p.model o).state == 1 && !(p.model o).placing) && !(p.loadq (p.img.modelPlot n)).queue.contains (false, o)

/-- No old inference stands in a layer at or below `i` (R377 step 2). -/
def Part.layerLeft (p : Part) (n i : Nat) : Bool :=
  let o := p.img.graftOf n
  !p.jobs.infers.any (fun u => u.model == o && u.entered && decide (u.layer ≤ i))

/-- The next layer of a wave can be swapped. -/
def Part.swapReady (p : Part) (n : Nat) : Bool :=
  let u := p.model n
  u.state == 5 && decide (u.swapped < p.img.modelLayers n) && p.layerLeft n u.swapped

/-- A layer is swapped (R377 steps 3 and 4). -/
def Part.swapLayer (p : Part) (t n : Nat) : Part :=
  let o := p.img.graftOf n
  let q := p.modModel n (fun v => { v with swapped := v.swapped + 1 })
  if (q.model n).swapped < p.img.modelLayers n then q.tryInfers
  else
    let boot := p.img.bootLive n
    let q := q.setState o 2
    let q := { q with models := { q.models with live := FMap.put (fun m => m) q.models.live boot n } }
    let q := (q.enterState t n 6 0 0).configModel t 4 0 n o (p.img.modelVersion o)
    q.tryInfers

/-! The model calls (R367, R381). -/

/-- MODEL_LOAD: 0, -4 beyond 8 queued, -5 unless ABSENT or FAILED. -/
def Part.callLoad (p : Part) (t k m : Nat) : Int × Part :=
  let st := (p.model m).state
  if st ≠ 0 ∧ st ≠ 7 then (-5, p)
  else if 8 ≤ (p.loadq k).queue.length then (-4, p)
  else (0, p.queueLoad t k false m)

/-- MODEL_UNLOAD (R367): a LOADED model, or a READY streamed one. -/
def Part.callUnload (p : Part) (m : Nat) : Int × Part :=
  let st := (p.model m).state
  if st = 2 ∨ (st = 6 ∧ p.img.modelResidency m = 1) then (0, p.setModel m (ModelSt.init m)) else (-5, p)

/-- MODEL_GRAFT (R381). -/
def Part.callGraft (p : Part) (t n : Nat) : Int × Part :=
  let u := p.model n
  let live := p.familyLive n
  if p.familyWave n ∨ live = n ∨ p.img.graftOf n ≠ live ∨ u.state = 7 then (-5, p)
  else
    let q := p.modModel n (fun v => { v with ordered := true })
    if u.state = 0 then
      if 8 ≤ (q.loadq (q.img.modelPlot n)).queue.length then (-4, p) else (0, q.queueLoad t (q.img.modelPlot n) false n)
    else if u.state = 2 then (0, q.modModel n (fun v => { v with state := 3, placing := true }))
    else if u.state = 4 then (0, q.startWave n)
    else (0, q)

end Sys2Proof.Machine
end

