-- ==== Sys2Proof/Machine/Plots.lean ====
section
/-! DEFINITION. Plots as a whole: their image values (R196, R610), Runner regions (R579 to R581), the start of a plot (R105 step
13), and Fallow (06_plots_security, R153 to R166). -/

namespace Sys2Proof.Machine

/-! Loading Runner regions (R579, R580). -/

/-- Apply the R_RISCV_RELATIVE relocations: `n` entries of 24 bytes at key `at_`, with the load bias `bias` (R579). -/
def Part.relocate (p : Part) (win bias at_ : Nat) : Nat → Part
  | 0 => p
  | n + 1 =>
    let off := p.loadLe at_ 8
    let add := p.loadLe (at_ + 16) 8
    let q := if p.loadLe (at_ + 8) 4 = 3 then p.store (win + (bias + off) % 2 ^ 64) (toLe 8 ((bias + add) % 2 ^ 64)) else p
    Part.relocate q win bias (at_ + 24) n

/-- Load a Runner's region: zero it, place and relocate the segments, and initialise the TLS block (R580). -/
def Part.loadRegion (p : Part) (n : Nat) : Part :=
  let r := p.img
  let win := winBase (r.runnerPlot n)
  let base := r.regionBase n
  let span := r.elfSpan n
  let bias := base + 2 ^ 64 - span.1
  let file := r.elfAt n
  let q := p.zero (win + base) (r.regionBytes n)
  let q := (r.elfLoads n).foldl (fun (q : Part) s => q.store (win + base + (s.addr - span.1)) (r.bytes (file + s.off) s.filesz)) q
  let table := fun (q : Part) (at_ size : Nat) => match r.elfTag n at_, r.elfTag n size with
    | some a, some sz => q.relocate win bias (win + (bias + a) % 2 ^ 64) (sz / 24)
    | _, _ => q
  let q := table (table q 7 8) 23 2
  let tls := base + span.2 + 4096 + r.stackBytes n
  ((r.elfSegs n).filter (fun s => s.ty == 7)).foldl (fun (q : Part) s => q.store (win + tls) (r.bytes (file + s.off) s.filesz)) q

/-- A Runner's region is loaded, and the Runner starts (R581). -/
def Part.runnerLaunch (p : Part) (n : Nat) : Part := (p.loadRegion n).runnerStart n

/-! Image values of a plot (R610: plot settings). -/

/-- An IPv4 address as ITK_CTX_SRC_IP and TRL_FWD_SRC_IP hold it: bits 7:0 its first byte. -/
def ipField (ip : Nat) : Nat := beNat (toLe 4 ip)

/-- Image values of a stream context (R177, R179, ITK_CTX). -/
def Part.loadCtx (p : Part) (s : Nat) : Part :=
  let r := p.img
  let src := r.streamSource s
  let base := r.ringBase s
  let q := p.setCtx s { ItkCtx.init s with active := { base := base, size := r.streamRing s, x0 := 0, y0 := 0, w := 0, h := 0 } }
  let q := (q.put (F.ITK_CTX_MATCH_CSI_PORT s) (r.streamCsiPort s)).put (F.ITK_CTX_MATCH_VC s) (r.streamVc s)
  let q := (q.put (F.ITK_CTX_MATCH_ETH_PORT s) (r.streamEthPort s)).put (F.ITK_CTX_MATCH_UDP_PORT s) (r.streamRtpPort s)
  let q := (q.put (F.ITK_CTX_SRC_IP_IP s) (ipField (r.streamIp s))).put (F.ITK_CTX_RTP_PT s) (r.streamPt s)
  let q := (q.put64 (F.ITK_CTX_S_BASE_LO_BASE s) (F.ITK_CTX_S_BASE_HI_BASE s) base).put (F.ITK_CTX_S_SIZE_SIZE s) (r.streamRing s)
  let q := (q.put (F.ITK_CTX_CTRL_EN s) (if src = 1 then 0 else 1)).put (F.ITK_CTX_STATE_STATE s) (if src = 1 then 1 else 2)
  if src = 0 then q.set (F.ITK_PORT_CFG_EN (r.streamCsiPort s)) else q

/-- Image values of a stream's decode (R207, VDC_STR). -/
def Part.loadDec (p : Part) (s : Nat) : Part :=
  let r := p.img
  let q := p.setDec s (DecStream.init s)
  if r.decoded s then
    let q := ((q.set (F.VDC_STR_CFG_EN s)).put (F.VDC_STR_CFG_CODEC s) (r.streamCodec s)).put (F.VDC_STR_STATE_STATE s) 1
    (q.put64 (F.VDC_STR_REF_LO_BASE s) (F.VDC_STR_REF_HI_BASE s) (r.refBase s)).put64 (F.VDC_STR_OUT_LO_BASE s)
      (F.VDC_STR_OUT_HI_BASE s) (r.outBase s)
  else q

/-- Image values of a pipeline's Pruner stage: its static list is active (R235, PRN_PIPE). -/
def Part.loadPipe (p : Part) (k : Nat) : Part :=
  let r := p.img
  match r.prnStage k with
  | none => p.setPrnPipe k (PrnPipe.init k)
  | some i =>
    let l := r.staticList k i
    let q := p.setPrnPipe k { PrnPipe.init k with active := l }
    ((q.set (F.PRN_PIPE_CFG_EN k)).put (F.PRN_PIPE_CFG_STEER k) (r.pipeSteer k)).put (F.PRN_PIPE_ACTIVE_COUNT_COUNT k) l.length

/-- A plot's drill groups are empty, with every slot free. -/
def Part.loadGroups (p : Part) (k : Nat) : Part :=
  p.each (List.range 16) (fun q i =>
    let g := groupKey k i
    let q := q.setGrp g (PrnGrp.init g)
    match q.img.groupPar g with
    | some x => q.put (F.PRN_GRP_FREE_SLOTS (g - 16)) x.slots
    | none => q)

/-- Pipelines of a plot. -/
def Rd.pipesOf (r : Rd) (k : Nat) : List Nat := (List.range 64).filter (fun n => (r.pipeRec n).isSome && r.pipePlot n == k)
/-- Alignment sets of a plot. -/
def Rd.setsOf (r : Rd) (k : Nat) : List Nat := (List.range 32).filter (fun n => (r.setRec n).isSome && r.setPlot n == k)

/-- Every register and unit of plot `k` takes its image value. -/
def Part.loadPlot (p : Part) (k : Nat) : Part :=
  let r := p.img
  let q := p.each (r.plotStreams k) (fun q s => (q.loadCtx s).loadDec s)
  let q := q.each (r.setsOf k) (fun q n => (q.setAset n (ItkSet.init n)).set (F.ITK_SET_CTRL_EN n))
  let q := (q.each (r.pipesOf k) Part.loadPipe).loadGroups k
  let q := (q.put (F.VDC_RES_MPIX k) (r.qos k 0x0C)).put (F.PRN_RES_MPIX k) (r.qos k 0x10)
  let q := (q.put (F.DMC_RES_MBPS_MBPS k) (r.qos k 4)).put (F.DMC_LAT_NS_NS k) (if r.qos k 8 = 0 then 2000 else r.qos k 8)
  let q := q.loadBanks k
  let q := q.each ((List.range 64).filter (fun c => r.channelOwner c == k)) (fun q c => q.put (F.BRW_CH_OWNER_PLOT c) k)
  q.each ((List.range 64).filter (fun c => r.timerOwner c == k)) (fun q c => q.put (F.SDL_TMR_OWNER_PLOT c) k)

/-- The units' enables are set at boot step 13 and at Frost exit step 4; the CSI-2 ports' LANES and DESKEW, which the spec states
no value for, take free values (assumption 49). -/
def Part.enableUnits (p : Part) : Part :=
  let q := (((p.set F.ITK_CTRL_EN).set F.VDC_CTRL_EN).set F.PRN_CTRL_EN).set F.APC_CTRL_EN
  (q.set F.DSP_CTRL_EN).each (List.range 8) (fun q i =>
    let a := q.freshBelow 3
    let b := a.2.freshBelow 2
    (b.2.put (F.ITK_PORT_CFG_LANES i) a.1).put (F.ITK_PORT_CFG_DESKEW i) b.1)

/-! The start of a plot. -/

/-- An admitted plot starts: its Runners start, it becomes RUNNING, and CONFIG PLOT_START is formed, code 0 at boot and 1 after a
Fallow (R154 step 9, R491, R532). -/
def Part.startPlot (p : Part) (t k code : Nat) : Part :=
  let q := (p.put (F.PLT_STATE_STATE k) 2).newSealJob k
  let q := (q.trlSession k).each (p.img.runnersOf k) Part.runnerLaunch
  (q.config t k 1 code 0xFFFF 0 0 0).tryInfers

/-! Fallow (R153 to R166). -/

/-- An order of Fallow (R153, R160): none for a plot that is absent, withered or in Fallow already. -/
def Part.orderFallow (p : Part) (k cause : Nat) : Part :=
  if p.get (F.PLT_STATE_STATE k) = 2 ∨ p.get (F.PLT_STATE_STATE k) = 1 then
    p.modPlot k (fun u => { u with ordered := if u.ordered = 0 then cause else u.ordered })
  else p

/-- Intake at the fence (R196). -/
def Part.itkFence (p : Part) (k : Nat) : Part :=
  p.each (p.img.plotStreams k) (fun q s =>
    let q := q.modCtx s (fun u => { u with frame := none, au := none, entries := [], held := [], notices := [] })
    if q.get (F.ITK_CTX_STATE_STATE s) = 0 then q else q.put (F.ITK_CTX_STATE_STATE s) 5)

/-- The plot's commands, jobs and Runners stop at the fence, and its pending events are discarded (R594). -/
def Part.runFence (p : Part) (k : Nat) : Part :=
  let q := p.each (List.range 64) (fun q b => match q.bedCmd b with
    | some c => if c.plot = k then
        (((q.modBed b (fun d => { d with cmd := none, threads := [], queue := [], tputs := [], barriers := [] })).bedStatus b)).put
          (F.DSP_BED_APER_BASE b) 0
      else q
    | none => q)
  let q := q.each [0, 1, 2, 3] (fun q e => match q.engine e with
    | some c => if c.plot = k then (q.setEngine e none).clrBit F.PRN_ENG_BUSY_BUSY e else q
    | none => q)
  let q := q.each (List.range 8) (fun q c => match q.core c with
    | some a => if a.cmd.plot = k then ((q.dropHolds c).setCore c none).coreStat c else q
    | none => q)
  let lost := (p.jobs.faults.filter (fun f => f.plot == k)).length
  let q := q.modJobs (fun u => { u with
    jobs := u.jobs.filter (fun j => j.plot != k), infers := u.infers.filter (fun j => j.plot != k),
    ready := u.ready.filter (fun c => c.plot != k), faults := u.faults.filter (fun f => f.plot != k) })
  let q := q.addSat (F.PLT_DRAIN_FAULTS_COUNT k) lost
  let q := q.each (p.img.runnersOf k) (fun q r => q.setRunner r (RunnerSt.init r))
  let q := q.modApc (fun a => { a with latched := FMap.put (fun _ => 0) a.latched k 0 })
  let q := q.each (p.img.pipesOf k) (fun q n => q.setPrnPipe n (PrnPipe.init n))
  q.modLoadq k (fun u => { u with queue := [] })

/-- Steps 1 and 2: FENCING, the cause, and the fence in every unit; DRAINING follows (R154). -/
def Part.fallowFence (p : Part) (t k cause : Nat) : Part :=
  let q := (p.put (F.PLT_FALLOW_CAUSE_CAUSE k) cause).setBit F.PLT_FENCED_PLOT k
  let q := (q.put (F.PLT_STATE_STATE k) 5).modPlot k (fun u => { u with ordered := 0, fencedAt := some t, reloading := false })
  (((((q.itkFence k).decFence t k).runFence k).brwFence t k).trlFence k).metric 4 k 1

/-- The NVMe commands that write into a plot's window. -/
def Part.nvTagged (p : Part) (k : Nat) : Nat :=
  (p.nvSlots.filter (fun s => match p.nvCmd s with
    | some c => c.op == 1 && c.plot == k
    | none => false)).length

/-- The drain of a plot can end: every tagged counter is zero (R158). -/
def Part.drainReady (p : Part) (k : Nat) : Bool := p.get (F.PLT_STATE_STATE k) == 5 && p.nvTagged k == 0

/-- The CULLs of step 4: the pictures of the plot that cause 7 voided after they had emitted a band (R228). -/
def Part.fallowCulls (p : Part) (t k : Nat) : Nat × Part :=
  (p.img.plotStreams k).foldl (fun (a : Nat × Part) s =>
    let q := a.2
    if q.get (F.VDC_STR_LAST_VOID_CAUSE s) = 7 then
      match (q.dec s).pics.find? (fun x => x.voided && x.gen == q.get (F.VDC_STR_LAST_VOID_GEN s)) with
      | some x => if x.emitted then (a.1 + 1, q.cullPicture t s 7 x) else a
      | none => a
    else a) (0, p)

/-- Steps 3 to 5: the drain ends; CULLs and CONFIG are formed, the crate is sealed, and the key is derived afresh, or the Fallow
stops where the random number generator fails (R140, R154). -/
def Part.fallowDrained (p : Part) (t k : Nat) (rngOk : Bool) : Part :=
  let c := p.fallowCulls t k
  let q := (c.2.config t k 2 (p.get (F.PLT_FALLOW_CAUSE_CAUSE k)) 0xFFFF 0 c.1 0).closeCrate k 3
  let q := (Part.sealAll t k 64 q).put (F.PLT_STATE_STATE k) 6
  if rngOk then q.deriveMemKey k else (q.set F.KEY_ERR_RNG_FAIL).set (F.PLT_STATE_KEY_FAIL k)

/-- The register instances of plot `k` (R154 step 7): HVS_P_STAT, the lost counts, the retention registers, the ledger's and the
counts of Fallow itself are kept. -/
def Part.plotRegs (p : Part) (k : Nat) : Nat → Bool :=
  let r := p.img
  let streams := r.plotStreams k
  let sets := r.setsOf k
  let pipes := r.pipesOf k
  let runners := r.runnersOf k
  fun a =>
    let o := a % 0x100000
    let b := a / 0x100000
    if b = 1 then decide (0x1000 ≤ o ∧ o < 0x1800) && r.timerOwner ((o - 0x1000) / 0x20) == k
    else if b = 2 then
      (decide (0x10000 ≤ o ∧ o < 0x14000) && streams.contains ((o - 0x10000) / 0x80)) ||
        (decide (0x20000 ≤ o ∧ o < 0x20400) && sets.contains ((o - 0x20000) / 0x20))
    else if b = 3 then decide (0x10000 ≤ o ∧ o < 0x12000) && streams.contains ((o - 0x10000) / 0x40)
    else if b = 4 then
      (decide (0x10000 ≤ o ∧ o < 0x11000) && pipes.contains ((o - 0x10000) / 0x40)) ||
        (decide (0x20000 ≤ o ∧ o < 0x21000) && (o - 0x20000) / 0x20 / 16 + 1 == k)
    else if b = 5 then decide (o < 0x4000) && r.channelOwner (o / 0x100) == k
    else if b = 6 then a == R.DMC_RES_SERVED k || a == R.DMC_WILT_DENIED k
    else if b = 7 then a == R.HVS_P_WAIT k || a == R.HVS_P_REPLAY_BOOT k || a == R.HVS_P_REPLAY_CRATE_LO k || a == R.HVS_P_REPLAY_CRATE_HI k
    else if b = 10 then decide (k * 0x100 + 0x20 ≤ o ∧ o < k * 0x100 + 0x40)
    else if b = 11 then
      (decide (o < 0x1000) && r.stakeOwner (o / 0x10) == k) ||
        (decide (0x8000 + k * 0x20 < o ∧ o < 0x8020 + k * 0x20))
    else if b = 20 then decide (0x1000 ≤ o ∧ o < 0x1400) && runners.contains ((o - 0x1000) / 0x10)
    else if b = 21 then decide (k * 0x1000 ≤ o ∧ o < k * 0x1000 + 0x1000)
    else false

/-- Model state of a plot returns to what it is at boot. -/
def Part.clearModels (p : Part) (k : Nat) : Part :=
  let r := p.img
  let ms := r.plotModels k
  let q := p.each ms (fun q m => q.setModel m (ModelSt.init m))
  let q := { q with models := { q.models with
    kernels := q.models.kernels.filter (fun x => r.kernelPlot x != k),
    live := FMap.only (fun m => !ms.contains m) q.models.live,
    heads := FMap.only (fun x => !ms.contains (x / 65536)) q.models.heads } }
  q.setLoadq k (LoadQ.init k)

/-- The hidden state of a plot's units returns to its initial value. -/
def Part.clearUnits (p : Part) (k : Nat) : Part :=
  let r := p.img
  let q := p.each ((List.range 64).filter (fun c => r.channelOwner c == k)) (fun q c => q.setChan c (Chan.init c))
  let q := q.each ((List.range 64).filter (fun c => r.timerOwner c == k)) (fun q c =>
    q.modSdl (fun u => { u with held := FMap.put (fun _ => none) u.held c none }))
  let q := q.modApc (fun a => { a with
    tracks := FMap.only (fun n => !(r.pipesOf k).contains n) a.tracks, latched := FMap.put (fun _ => 0) a.latched k 0 })
  q.modPlot k (fun u => { u with totals := [0, 0, 0, 0, 0, 0, 0, 0] })

/-- Steps 6 and 7: the window and the banks are zero under the new key, and the plot's registers stand at their image values; the
fence is lifted (R154, R163, R196). -/
def Part.fallowZeroed (p : Part) (k : Nat) : Part :=
  let q := (p.zero (winBase k) (p.img.window k)).dmcZeroed k
  let q := q.each (List.range 64) (fun q b => q.each ((List.range 48).filter (fun j => q.img.ownsBank k b j)) (fun q j =>
    q.zero (bedBase b + j * 0x8000) 0x8000))
  let q := (q.resetRegs (q.plotRegs k)).trlClear k
  let q := ((q.clearUnits k).clearModels k).loadPlot k
  (q.clrBit F.PLT_FENCED_PLOT k).modPlot k (fun u => { u with fencedAt := none, reloading := true })

/-- The zeroing of a plot can end: it is in step 6 with its key derived. -/
def Part.zeroReady (p : Part) (k : Nat) : Bool :=
  p.get (F.PLT_STATE_STATE k) == 6 && !p.on (F.PLT_STATE_KEY_FAIL k) && !(p.plot k).reloading

/-- Step 9: the plot runs again (R154). -/
def Part.fallowRestart (p : Part) (t k : Nat) : Part :=
  let q := (p.modPlot k (fun u => { u with reloading := false })).startPlot t k 1
  q.addSat (F.PLT_FALLOWS_COUNT k) 1

/-- What a tick does for the Fallow of one plot: it takes an order, starts the reload, and restarts the plot (R153, R154, R613). -/
def Part.fallowTick (p : Part) (t k : Nat) : Part :=
  let st := p.get (F.PLT_STATE_STATE k)
  let u := p.plot k
  if u.ordered ≠ 0 then
    if st ≠ 2 then p.modPlot k (fun v => { v with ordered := 0 })
    else if 4 ≤ p.get F.PWR_STATE_STATE then p
    else p.fallowFence t k u.ordered
  else if st = 6 ∧ u.reloading then (p.put (F.PLT_STATE_STATE k) 7).startLoads t k
  else if st = 7 ∧ p.loadsDone k then p.fallowRestart t k
  else p

end Sys2Proof.Machine
end

