-- ==== Sys2Proof/Machine/Power.lean ====
section
/-! DEFINITION. Power states (21_power_reset): Dormancy, Frost, their entry and exit, the wake sources, and what follows Frost.
The steps of Frost entry 2 to 6, and of Frost exit 1 to 4, are each one command (assumption 50). -/

namespace Sys2Proof.Machine

/-- Enter a power state. -/
def Part.setPower (p : Part) (t st : Nat) : Part :=
  (p.put F.PWR_STATE_STATE st).modPwr (fun u => { u with since := t, stepDone := false })
/-- The power state. -/
def Part.power (p : Part) : Nat := p.get F.PWR_STATE_STATE

/-! Dormancy (R599, R600). -/

/-- Bed `b` lies in no real-time pipeline's BEDS and holds no layer of a pinned model. -/
def Part.dormBed (p : Part) (b : Nat) : Bool :=
  let r := p.img
  !(r.pipes.any (fun k => r.pipeClass k == 0 && (r.pipeBeds k).testBit b)) &&
    !(r.models.any (fun m => r.modelResidency m == 0 &&
      (List.range (r.modelLayers m)).any (fun i => (p.layerBeds m i).contains b)))

/-- Core `c` is not core 0 and carries no real-time Runner or real-time tracker stage (R577, R578). -/
def Part.dormCore (p : Part) (c : Nat) : Bool :=
  let r := p.img
  c != 0 && !((List.range 64).any (fun n => (r.runnerRec n).isSome && r.rtRunner n && (r.runnerCores n).testBit c)) &&
    !(r.pipes.any (fun k => r.pipeClass k == 0 && (List.range (r.pipeStages k)).any (fun i =>
      r.stageKind k i == 3 && r.trackerPlace k i == (2, [c]))))

/-- The mask of the numbers below `n` that a test picks. -/
def maskOf (n : Nat) (f : Nat → Bool) : Nat := ((List.range n).filter f).foldl (fun a i => a + 2 ^ i) 0

/-- Entry step 1: no new best-effort command starts on a bed or core to be gated or stopped. -/
def Part.dormBegin (p : Part) (t : Nat) : Part :=
  (p.setPower t 1).modPwr (fun u => { u with beds := maskOf 64 p.dormBed, cores := maskOf 8 p.dormCore })

/-- Entry step 2 has ended: those beds and cores are idle. -/
def Part.dormIdle (p : Part) : Bool :=
  p.power == 1 && !p.pwr.stepDone &&
    (List.range 64).all (fun b => !p.pwr.beds.testBit b || ((p.bed b).cmd.isNone && !p.on (F.BED_STATUS_RESETTING b))) &&
    (List.range 8).all (fun c => !p.pwr.cores.testBit c || (p.core c).isNone)

/-- Entry step 3: the idle beds are gated and the idle cores stopped. -/
def Part.dormGate (p : Part) : Part :=
  (p.each (bedsOf p.pwr.beds) (fun q b => (q.setBed b (Bed.init b)).set (F.BED_STATUS_GATED b))).modPwr
    (fun u => { u with stepDone := true })

/-- Entry step 4. -/
def Part.dormEntered (p : Part) (t : Nat) : Part :=
  let q := p.setPower t 2
  let q := (q.put64 F.PWR_DORM_BEDS_LO_BEDS F.PWR_DORM_BEDS_HI_BEDS p.pwr.beds).put F.PWR_CORES_STOPPED_CORES p.pwr.cores
  q.systemEvent t 0x00010001 []

/-- Exit step 2: gated beds are powered and zeroed; stopped cores restart. -/
def Part.dormPower (p : Part) : Part :=
  let q := p.each (bedsOf p.pwr.beds) (fun q b => (q.zero (bedBase b) 0x180000).clr (F.BED_STATUS_GATED b))
  let q := (q.put64 F.PWR_DORM_BEDS_LO_BEDS F.PWR_DORM_BEDS_HI_BEDS 0).put F.PWR_CORES_STOPPED_CORES 0
  q.modPwr (fun u => { u with stepDone := true })

/-- Exit step 3: held work resumes. -/
def Part.dormLeft (p : Part) (t : Nat) : Part :=
  (((p.setPower t 0).modPwr (fun u => { u with beds := 0, cores := 0 })).systemEvent t 0x00010002 []).tryInfers

/-! Frost entry (R601, R605). -/

/-- A plot is in Fallow, or an order of Fallow waits (R613). -/
def Part.inFallow (p : Part) : Bool :=
  (List.range 9).any (fun k => (p.plot k).ordered != 0 || decide (4 ≤ p.get (F.PLT_STATE_STATE k) ∧ p.get (F.PLT_STATE_STATE k) ≤ 7 ∧
    !p.on (F.PLT_STATE_KEY_FAIL k)))

/-- Entry step 1: the watchdog and the window pause, and nothing new is admitted. -/
def Part.frostBegin (p : Part) (t : Nat) : Part :=
  ((p.setPower t 4).modPwr (fun u => { u with latchedWake := 0, beds := 0, cores := 0 })).modWdog (fun w => { w with paused := true })

/-- A write of PWR_CTRL.REQ (R598, R611, R613, R614): 1 Dormancy, 2 Frost, 3 Run; what cannot start yet waits. -/
def Part.powerOrder (p : Part) (t req : Nat) : Part :=
  let st := p.power
  let hold := p.modPwr (fun u => { u with ordered := req })
  let done := p.modPwr (fun u => { u with ordered := 0 })
  if p.on F.SHD_BOOT_STATE_REPLANT_PENDING || !p.live then done
  else if req = 1 then (if st = 0 then done.dormBegin t else if st = 3 then hold else done)
  else if req = 2 then
    (if st = 0 ∨ st = 2 then (if p.inFallow then hold else done.frostBegin t) else if st = 1 ∨ st = 3 then hold else done)
  else if req = 3 then (if st = 2 then done.setPower t 3 else if st = 1 then hold else done)
  else done

/-- A graft wave, or the placement of a pinned model, is in progress. -/
def Part.waveRuns (p : Part) : Bool :=
  p.img.models.any (fun m => (p.model m).state == 5 || ((p.model m).state == 1 && (p.model m).placing))

/-- Jobs have run to completion, or 50 ms have passed; waves have completed; Frost entry can go on to its end. Step 6 waits until
the AON oscillator runs (R665). -/
def Part.frostReady (p : Part) (t : Nat) : Bool :=
  p.live && p.power == 4 && p.pins.aonRunning && !p.waveRuns &&
    (p.jobs.jobs.isEmpty || decide (p.pwr.since + 50000000 ≤ t))

/-- Complete a plot's Cellar writes. -/
def Part.drainCellar (t k : Nat) : Nat → Part → Part
  | 0, p => p
  | n + 1, p =>
    if (p.hv k).cellarOut.isSome then Part.drainCellar t k n (p.cellarDone k)
    else if p.cellarReady k then Part.drainCellar t k n ((p.cellarWrite t k).cellarDone k)
    else p

/-- Step 3: the energy record, the EVENT record, and every crate sealed with CLOSE 2 and written to its Cellar. -/
def Part.frostHarvest (p : Part) (t : Nat) : Part :=
  let q := if p.metering then p.energyRecord t t else p
  (q.systemEvent t 0x00010003 []).each q.plotIds (fun q k =>
    let q := Part.sealAll t k 64 (q.closeCrate k 2)
    Part.drainCellar t k (2 * (q.hv k).staged.length + 2) q)

/-- The plot 0 rules with ACTION 8 and a trigger. -/
def Rd.wakeRules (r : Rd) (trigger : Nat) : List Nat :=
  (r.recs 10).filter (fun o => r.rulePlot o == 0 && r.ruleAction o == 8 && r.ruleTrigger o == trigger)

/-- Step 6: the wake sources are armed (R604): triggers 0 to 2 in the metering unit, trigger 3 a GPIO edge, trigger 5 the
earliest next period boundary. -/
def Part.armWake (p : Part) (t : Nat) : Part :=
  let r := p.img
  let meter := ([0, 1, 2].map r.wakeRules).flatten
  let gpio := (r.wakeRules 3).foldl (fun a o => a ||| 2 ^ (r.ruleParam o % 8)) 0
  let due := (r.wakeRules 5).map (fun o => (t / 1000000 / r.ruleParam o + 1) * r.ruleParam o * 1000000)
  let q := p.modMtr (fun u => { u with rules := u.rules ++ meter.map (fun o =>
    { id := r.ruleId o, trigger := r.ruleTrigger o, param := r.ruleParam o, thresh := r.ruleThresh o, hyst := r.ruleHyst o,
      dwellMs := r.ruleDwell o, action := 8, wake := true, since := none, fired := false }) })
  let q := (q.put F.PWR_WAKE_EN_METER (if meter = [] then 0 else 1)).put F.PWR_WAKE_EN_GPIO gpio
  match due with
  | [] => q.clr F.PWR_WAKE_EN_ALARM
  | a :: l => (q.put64 F.PWR_ALARM_LO_TS F.PWR_ALARM_HI_TS (l.foldl min a)).set F.PWR_WAKE_EN_ALARM

/-- A load in progress fails with READ, as the link is down (assumption 51), and STAGING and STAGED return to LOADED (R606);
their CONFIG records are formed at exit step 6. -/
def Part.frostModels (p : Part) : Part :=
  let r := p.img
  p.each r.models (fun q m =>
    let u := q.model m
    let q := q.setLoadq (r.modelPlot m) (LoadQ.init 0)
    if u.state = 1 then q.setModel m { u with state := 7, cause := 2, ordered := false, placing := false }
    else if u.state = 3 ∨ u.state = 4 then q.setModel m { u with ordered := false, placing := false }
    else q)

/-- Steps 2 to 6 of Frost entry: what still runs is discarded, and the units are powered off. -/
def Part.frostEnter (p : Part) (t : Nat) : Part :=
  let q := p.frostHarvest t
  let q := q.brwPause t true
  let q := (q.emit (.nvme 0 0 (q.nvGen 0) 0xFFFFFFFF 0 0 [])).nvRetireAll (fun _ => true)
  let q := (q.resetRegs (fun a => inBlock 14 a || a == R.PEP_LINK)).each [0, 1] (fun q k => q.linkLost k)
  let q := (q.frostModels.dmcSleep t).armWake t
  let q := (q.lockLost t).put F.SDL_STATUS_SRC 1
  q.modPwr (fun u => { u with frozen := true })

/-! Frost exit (R604 to R606). -/

/-- The registers that Frost keeps: the always-on domain, the retention registers, HVS_P_STAT and the lost counts (R610), and the
registers that say what boot and which plots run (assumption 50). -/
def keptByFrost (a : Nat) : Bool :=
  let at_ := fun (f : Nat → Nat) => (List.range 9).any (fun k => a == f k)
  keptByReset a || isHostRing a || inBlock 17 a || decide (a < 0x10000) || a == R.PLT_FENCED || a == R.KEY_MEM_LOADED ||
    a == R.DMC_STATUS || a == R.FLT_WDOG_STAT || a == R.DMC_TRAIN_STAT || a == R.DMC_WEED_POS ||
    at_ R.STK_JOB_NEXT || at_ R.HVS_P_SEAL_JOB || at_ R.HVS_P_SEQ || at_ R.HVS_P_CRATE_LO || at_ R.HVS_P_CRATE_HI ||
    at_ R.TRL_S_JOB || at_ R.TRL_S_FCTR_LO || at_ R.TRL_S_FCTR_HI || at_ R.HVS_P_STAT || at_ R.HVS_P_HOST_LOST ||
    at_ R.HVS_P_UDP_LOST || at_ R.HVS_P_CELLAR_LOST || at_ R.PLT_STATE

/-- Exit steps 1 to 4: the Sundial returns to SRC 0, DRAM leaves self-refresh, and every unit outside the always-on domain starts
from its image values. -/
def Part.frostWake (p : Part) (t src : Nat) : Part :=
  let nbr := p.get F.DMC_CTRL_NBR_K
  let q : Part := { Part.init with
    regs := FMap.only keptByFrost p.regs, mem := p.mem, nor := p.nor, pins := p.pins,
    sdl := { p.sdl with shadows := [], held := [], stepLo := 0, caps := [] },
    boot := { p.boot with session := none, timedOut := false },
    plots := p.plots, hvs := p.hvs, nvme := { NvmeUnit.init with gens := p.nvme.gens }, wdog := p.wdog, pwr := p.pwr,
    rules := p.rules, models := p.models, mtr := p.mtr,
    dmc := { DmcUnit.init with cache := p.dmc.cache, touched := p.dmc.touched, weedAt := t },
    jobs := { JobUnit.init with cmdSeq := p.jobs.cmdSeq, next := p.jobs.next },
    out := p.out, free := p.free }
  let q := (q.put F.PWR_WAKE_CAUSE_CAUSE (2 ^ src)).setPower t 5
  let q := (q.put F.SDL_STATUS_SRC 0).put F.FLT_WDOG_STAT_LIVE 0
  let q := (q.dmcWake.loadPlatform.loadDram.put F.DMC_CTRL_NBR_K nbr).loadOwners
  let q := q.enableUnits.each q.runningPlots Part.loadPlot
  let q := q.each [0, 1] (fun q k => q.iff ((q.get F.TRL_CTRL_PORT_EN).testBit k) (·.trlEnable k true))
  q.modPwr (fun u => { u with nvDone := !q.img.nvmeOn, ready := false })

/-- A rule's GPIO edge is the one that wakes; a bit that firmware armed without a rule wakes on either (R604). -/
def Part.wakeEdge (p : Part) (g : Nat) (rising : Bool) : Bool :=
  let l := (p.img.wakeRules 3).filter (fun o => p.img.ruleParam o % 8 == g)
  l.isEmpty || l.any (fun o => (p.img.ruleParam o).testBit 3 == rising)

/-- Wake source `src` is armed and its condition holds: 0 WAKE_N low, 1 the alarm, 2 + g an edge of GPIO g, 10 metering. -/
def Part.wakeFires (p : Part) (t src : Nat) (rising : Bool) : Bool :=
  (src == 0 || (decide (src ≤ 10) && (p.reg R.PWR_WAKE_EN).toNat.testBit src)) &&
    (if src = 1 then decide (p.get64 F.PWR_ALARM_LO_TS F.PWR_ALARM_HI_TS ≤ t)
     else if src = 10 then p.pwr.latchedWake.testBit 10
     else src == 0 || p.wakeEdge (src - 2) rising)

/-- The board drives a GPIO's level. -/
def Part.setGpio (p : Part) (g : Nat) (high : Bool) : Part :=
  p.modPins (fun u => { u with
    gpioIn := if u.gpioIn.testBit g = high then u.gpioIn else if high then u.gpioIn + 2 ^ g else u.gpioIn - 2 ^ g })

/-- A wake source fires: it ends Dormancy (WAKE_N alone), is latched during Frost entry, or starts Frost exit. -/
def Part.wake (p : Part) (t src : Nat) (rising : Bool) : Part :=
  let p := if 2 ≤ src ∧ src ≤ 9 then
      p.setGpio (src - 2) rising else p
  if p.pwr.frozen then (if p.power = 4 then p.frostWake t src else p)
  else if p.power = 4 then p.modPwr (fun u => { u with latchedWake := u.latchedWake ||| 2 ^ src })
  else if src = 0 ∧ (p.power = 1 ∨ p.power = 2) then p.modPwr (fun u => { u with ordered := 3 })
  else p

/-- Steps 2 to 6 of Frost entry; a source latched during entry starts the exit on the next AONCLK edge (R605). -/
def Part.frostDone (p : Part) (t : Nat) : Part :=
  let q := p.frostEnter t
  match (List.range 11).find? (fun i => p.pwr.latchedWake.testBit i) with
  | some s => q.frostWake t s
  | none => q

/-- Exit steps 5a and 5b can end. -/
def Part.exitReady (p : Part) : Bool := p.pwr.frozen && p.power == 5 && p.pwr.nvDone && !p.pwr.ready

/-- The beds are zeroed, and READY pinned models are placed from their stores (exit step 5b). -/
def Part.exitPlace (p : Part) : Part :=
  let q := p.each (List.range 64) (fun q b => q.zero (bedBase b) 0x180000)
  let q := q.each (q.img.models.filter (fun m => q.img.modelResidency m == 0 && (q.model m).state == 6)) Part.placeModel
  q.modPwr (fun u => { u with ready := true })

/-- Exit step 6: held Fallow orders, then the plots restart (R606, R613), the watchdog and the window resume, and the metering
events of the Frost are formed. The wake rules leave the metering unit; one that fired in Frost does not fire again in Run until
its condition has been false (R616). -/
def Part.frostLeft (p : Part) (t : Nat) : Part :=
  let r := p.img
  let cause := p.get F.PWR_WAKE_CAUSE_CAUSE
  let rules := r.shedRules
  let q := (p.setPower t 0).modPwr (fun u => { u with frozen := false, ready := false, nvDone := false, latchedWake := 0 })
  let q := (q.modWdog (fun w => { w with paused := false })).add F.PWR_FROST_COUNT_COUNT 1
  let fired := p.mtr.rules.filter (fun x => x.wake && x.fired)
  let q := q.each (List.range rules.length) (fun q i => match rules[i]? with
    | some o => if r.rulePlot o == 0 && r.ruleAction o == 8 && fired.any (fun x => x.id == r.ruleId o) then
        q.setRule i { q.rule i with held := some 0, fired := true } else q
    | none => q)
  let q := q.modMtr (fun u => { u with rules := u.rules.filter (fun x => !x.wake) })
  let q := q.each q.plotIds (fun q k => if (q.plot k).ordered = 0 then q else q.fallowTick t k)
  let q := q.each (r.models.filter (fun m => (q.model m).state == 3 || (q.model m).state == 4)) (fun q m =>
    (q.setState m 2).configModel t 3 2 m 0 0)
  let q := q.each (q.runningPlots.flatMap r.runnersOf) Part.runnerLaunch
  let q := q.mtrFlush t
  q.systemEvent t 0x00010004 (toLe 2 cause)

/-- What a tick does for the power states. -/
def Part.powerTick (p : Part) (t : Nat) : Part :=
  if p.power = 1 ∧ p.pwr.stepDone then p.dormEntered t
  else if p.power = 3 ∧ p.pwr.stepDone then p.dormLeft t
  else if p.power = 5 ∧ p.pwr.ready then p.frostLeft t
  else if p.pwr.ordered ≠ 0 then p.powerOrder t p.pwr.ordered
  else p

end Sys2Proof.Machine
end

