-- ==== Sys2Proof/Machine/DeadlineLedger.lean ====
section
/-! DEFINITION. The deadline ledger (R396 to R399): the bound of a real-time pipeline and the nine conditions, exact over
rationals. What the tables leave loose is assumption 52. -/

namespace Sys2Proof.Machine

/-! Exact ratios of naturals: nanoseconds, and amounts per second. -/

def Ratio.nat (n : Nat) : Ratio := ⟨n, 1⟩
/-- `n` over `d`; 0 over 0 is 0. -/
def Ratio.frac (n d : Nat) : Ratio := if d = 0 then ⟨0, 1⟩ else ⟨n, d⟩
def Ratio.add (a b : Ratio) : Ratio := ⟨a.num * b.den + b.num * a.den, a.den * b.den⟩
def Ratio.sub (a b : Ratio) : Ratio := ⟨a.num * b.den - b.num * a.den, a.den * b.den⟩
def Ratio.mul (a b : Ratio) : Ratio := ⟨a.num * b.num, a.den * b.den⟩
/-- The quotient by a positive ratio; 0 otherwise. -/
def Ratio.div (a b : Ratio) : Ratio := if b.num ≤ 0 then ⟨0, 1⟩ else ⟨a.num * b.den, a.den * b.num.toNat⟩
def Ratio.le (a b : Ratio) : Bool := decide (a.num * b.den ≤ b.num * a.den)
def Ratio.max (a b : Ratio) : Ratio := if a.le b then b else a
def Ratio.min (a b : Ratio) : Ratio := if a.le b then a else b
def Ratio.ceil (a : Ratio) : Nat := ceilDiv a.num.toNat a.den
def sumRatio (l : List Ratio) : Ratio := l.foldl Ratio.add (Ratio.nat 0)

/-! The worst inference (R397's pseudocode). -/

/-- One layer before a table of the rest's worst costs, by re-runs left x 4 + wide input x 2 + span already wide. -/
def worstStep (maxWide : Nat) (x : Nat × Nat × Nat) (acc : Option Nat × List Nat) : Option Nat × List Nat :=
  let same := acc.1 == some x.2.2
  let bit := fun (b : Bool) => if b then 1 else 0
  let next := fun (left : Nat) (a b : Bool) => acc.2.getD (left * 4 + 2 * bit a + bit b) 0
  (some x.2.2, ((List.range (maxWide + 1)).flatMap (fun left => [(false, false), (false, true), (true, false), (true, true)].map (fun s =>
    let a := s.1
    let b := s.2
    let run := if a || b then x.2.1 else x.1
    let plain := run + next left b (b && same)
    if 0 < left && !b then max plain (run + x.2.1 + next (left - 1) true same) else plain))))

/-- The worst cost of an inference over every choice of at most `maxWide` re-runs, at most one a span: layers as CYCLES,
WIDE_CYCLES and SPAN. -/
def worstCost (maxWide : Nat) (l : List (Nat × Nat × Nat)) : Nat :=
  (l.foldr (worstStep maxWide) (none, [])).2.getD (maxWide * 4) 0

/-! The pipelines' inputs. -/

namespace Rd

/-- Nominal frame period of a stream, in ns. -/
def period (r : Rd) (s : Nat) : Ratio := Ratio.frac (10 ^ 12) (r.streamFps s)
/-- The input streams of a pipeline: one, or the members of its set. -/
def inputs (r : Rd) (k : Nat) : List Nat := (List.range (r.inputMembers k)).map (r.memberStream k)
/-- The stream whose frames issue the pipeline's jobs. -/
def clockStream (r : Rd) (k : Nat) : Nat :=
  if r.pipeInputKind k = 0 then r.pipeInput k else r.setStream (r.pipeInput k) (r.setRef (r.pipeInput k))
/-- P_k. -/
def pk (r : Rd) (k : Nat) : Ratio := (r.period (r.clockStream k)).mul (Ratio.nat (r.pipeDiv k))
/-- Jobs of a pipeline per second. -/
def jobRate (r : Rd) (k : Nat) : Ratio := (Ratio.nat (10 ^ 9)).div (r.pk k)
/-- Real-time pipelines, rising; those of a plot. -/
def rtPipes (r : Rd) : List Nat := (List.range 64).filter (fun k => (r.pipeRec k).isSome && r.pipeClass k == 0)
def rtPipesOf (r : Rd) (p : Nat) : List Nat := r.rtPipes.filter (fun k => r.pipePlot k == p)
/-- The stages of a pipeline. -/
def stages (r : Rd) (k : Nat) : List Nat := List.range (r.pipeStages k)

/-- The capture term, in ns. -/
def captureTerm (r : Rd) (k : Nat) : Ratio :=
  let pf := r.period (r.clockStream k)
  let w := if r.pipeInputKind k = 0 then pf
    else pf.max ((Ratio.nat (r.setWindow (r.pipeInput k))).add
      ((Ratio.nat 2).mul ((r.inputs k).foldl (fun a s => a.max (r.period s)) (Ratio.nat 0))))
  w.add (Ratio.nat 50000)

/-! Decode and the Pruner. -/

/-- The cycles of one picture of a stream (R205). -/
def pictureCycles (r : Rd) (s : Nat) : Nat :=
  max (max (ceilDiv (4 * r.streamWidth s * r.streamHeight s) 5) (ceilDiv (2 * r.streamKbps s * 10 ^ 6) (r.streamFps s))) 1600 + 800
/-- Pixel-equivalents of one picture, in quarters (R206). -/
def pictureQuarters (r : Rd) (s : Nat) : Nat := 5 * r.pictureCycles s
/-- The decode term. -/
def decodeTerm (r : Rd) (k : Nat) : Ratio :=
  if (r.inputs k).any r.decoded then
    let w := (r.streams.filter r.decoded).foldl (fun a s => max a (r.pictureCycles s)) 0
    let q := (((r.plotStreams (r.pipePlot k)).filter r.decoded).map r.pictureQuarters).sum
    (Ratio.frac (5 * w) 4).add (Ratio.frac (q * 1000) (4 * r.qos (r.pipePlot k) 0x0C))
  else Ratio.nat 0

/-- The Pruner stages of a pipeline. -/
def prnStages (r : Rd) (k : Nat) : List Nat := (r.stages k).filter (fun i => r.stageKind k i == 0)
/-- Pixel-equivalents of one frame's crops. -/
def prnCharge (r : Rd) (k i : Nat) : Nat := r.pipeCropMax k * 2 * (r.tMax k i - 64)
/-- The term of a Pruner stage. -/
def prnTerm (r : Rd) (k i : Nat) : Ratio :=
  let p := r.pipePlot k
  let w := r.pipes.foldl (fun a x => (r.prnStages x).foldl (fun b j => max b (r.tMax x j)) a) 0
  let q := ((r.pipes.filter (fun x => r.pipePlot x == p)).map (fun x => ((r.prnStages x).map (r.prnCharge x)).sum)).sum
  ((Ratio.frac (5 * w) 4).add (Ratio.frac (q * 1000) (r.qos p 0x10))).add (Ratio.nat (r.prnPar k i).waitNs)

/-! Stages on beds and cores. -/

/-- The beds that a stage can use. -/
def stageBeds (r : Rd) (k i : Nat) : Nat :=
  match r.stageKind k i with
  | 1 => if r.modelResidency (r.stageRef k i) = 0 then r.modelBeds (r.stageRef k i) else r.pipeBeds k
  | 2 => r.pipeBeds k
  | 3 => if (r.trackerPlace k i).1 = 0 then maskOf 64 (r.trackerPlace k i).2.contains else 0
  | _ => 0

/-- The tracker bound of a stage, in ns. -/
def trackerTerm (r : Rd) (k i : Nat) : Nat :=
  trackerBound ((r.trackerPlace k i).1 == 0) (r.prn16 k i 2) (r.prn16 k i 0)

/-- Budget and cores of a Runner or tracker stage; no core for a tracker on a bed. -/
def actStage (r : Rd) (k i : Nat) : Option (Nat × Nat) :=
  match r.stageKind k i with
  | 3 => some (r.trackerTerm k i, if (r.trackerPlace k i).1 = 0 then 0 else maskOf 8 (r.trackerPlace k i).2.contains)
  | 4 => some (r.runnerBudget (r.stageRef k i) * 1000, r.runnerCores (r.stageRef k i))
  | _ => none

/-- The term of a Runner or tracker stage: its own budget, 20 us, and one budget of every other real-time Runner and tracker
stage on any of the same cores. -/
def actTerm (r : Rd) (k i : Nat) : Ratio :=
  match r.actStage k i with
  | none => Ratio.nat 0
  | some (own, cores) =>
    let me := if r.stageKind k i = 4 then some (r.stageRef k i) else none
    let runners := (List.range 64).filter (fun n => (r.runnerRec n).isSome && r.rtRunner n && some n != me && (r.runnerCores n &&& cores) != 0)
    let trackers := r.rtPipes.flatMap (fun x => ((r.stages x).filter (fun j =>
      r.stageKind x j == 3 && (x, j) != (k, i) && (((r.actStage x j).getD (0, 0)).2 &&& cores) != 0)).map (fun j => r.trackerTerm x j))
    Ratio.nat (own + 20000 + (runners.map (fun n => r.runnerBudget n * 1000)).sum + trackers.sum)

/-- Whether a best-effort command can run on any of these beds: a best-effort pipeline's stage, or a plot's queue. -/
def bestEffortOn (r : Rd) (beds : Nat) : Bool :=
  r.pipes.any (fun k => r.pipeClass k == 1 && (r.stages k).any (fun i => (r.stageBeds k i &&& beds) != 0)) ||
    (List.range 9).any (fun p => p != 0 && r.queues p != 0 && (r.beds p &&& beds) != 0)

/-- Best-effort models that can run on any of these beds. -/
def bestEffortModels (r : Rd) (beds : Nat) : List Nat :=
  r.models.filter (fun m =>
    r.pipes.any (fun k => r.pipeClass k == 1 && (r.stages k).any (fun i =>
      r.stageKind k i == 1 && r.stageRef k i == m && (r.stageBeds k i &&& beds) != 0)) ||
      (r.queues (r.modelPlot m) != 0 && (r.modelBeds m &&& beds) != 0))

/-- K, in ns. -/
def kTerm (r : Rd) (beds : Nat) : Nat :=
  if r.bestEffortOn beds then
    (r.bestEffortModels beds).foldl (fun a m => (List.range (r.modelLayers m)).foldl (fun b i =>
      max b (max (r.layerCycles m i) (r.layerWideCycles m i))) a) 1000000
  else 0

end Rd

/-- The beds of layer `i` of the model that a stage names: those of its blob when pinned and LOAD 0. -/
def Part.stageLayerBeds (p : Part) (k i j : Nat) : Nat :=
  let r := p.img
  let m := r.stageRef k i
  if r.modelResidency m = 0 && r.modelLoad m == 0 then maskOf 64 (p.layerBeds m j).contains else r.stageBeds k i

/-- The layers of a model stage as CYCLES, WIDE_CYCLES and SPAN, each the worst over its family (R379); a layer on none of the
beds `on_` costs nothing. -/
def Part.stageLayers (p : Part) (k i on_ : Nat) : List (Nat × Nat × Nat) :=
  let r := p.img
  let m := r.stageRef k i
  let f := r.family m
  (List.range (r.modelLayers m)).map (fun j =>
    if (p.stageLayerBeds k i j &&& on_) = 0 then (0, 0, r.layerSpan m j)
    else (f.foldl (fun a x => max a (r.layerCycles x j)) 0, f.foldl (fun a x => max a (r.layerWideCycles x j)) 0, r.layerSpan m j))

/-- One job's worst command time of a pipeline on any of the beds `on_`, in ns. -/
def Part.jobOn (p : Part) (k on_ : Nat) : Nat :=
  let r := p.img
  ((r.stages k).map (fun i =>
    if (r.stageBeds k i &&& on_) = 0 then 0
    else match r.stageKind k i with
      | 1 => worstCost (r.modelMaxWide (r.stageRef k i)) (p.stageLayers k i on_)
      | 2 => 1000000
      | _ => r.trackerTerm k i)).sum

/-- A pipeline uses any of these beds. -/
def Rd.usesBeds (r : Rd) (k beds : Nat) : Bool := (r.stages k).any (fun i => (r.stageBeds k i &&& beds) != 0)

/-- I, in ns: one job of every other real-time pipeline on the same beds. -/
def Part.iTerm (p : Part) (k beds : Nat) : Nat :=
  ((p.img.rtPipes.filter (fun x => x != k && p.img.usesBeds x beds)).map (fun x => p.jobOn x beds)).sum

/-! DRAM traffic (condition 2). -/

/-- Bytes that a stream's capture writes per second: the entry's head and stored lines, or its bit rate. -/
def Rd.captureRate (r : Rd) (s : Nat) : Ratio :=
  if r.decoded s then Ratio.nat (r.streamKbps s * 125)
  else (Ratio.nat (64 + pitchOf (r.streamPixfmt s) (r.streamWidth s) * r.streamHeight s)).mul (Ratio.frac (r.streamFps s) 1000)

/-- o + 3 f per decoded picture (R207). -/
def Rd.decodeRate (r : Rd) (s : Nat) : Ratio :=
  if r.decoded s then
    let f := 4096 + ceilDiv (r.decWa s * r.decHa s * (6 * r.decDepth s + 3)) 32
    (Ratio.nat (r.outPicture s + 3 * f)).mul (Ratio.frac (r.streamFps s) 1000)
  else Ratio.nat 0

/-- Bytes of source samples that a crop reads at most, in halves: 4:2:0 for decoded streams. -/
def Rd.cropHalves (r : Rd) (s pixels : Nat) : Nat :=
  if r.decoded s then pixels * 3 * (if r.decDepth s = 8 then 1 else 2) else pixels * 2 * pixBytes (r.streamPixfmt s)

/-- Pruner reads and drill writes of one job. -/
def Rd.prnBytes (r : Rd) (k i : Nat) : Nat :=
  let q := r.prnPar k i
  let out := q.wo * q.ho
  let src := (r.inputs k).foldl (fun a s => max a (ceilDiv (r.cropHalves s (min (256 * out) (r.streamWidth s * r.streamHeight s))) 2)) 0
  r.pipeCropMax k * (src + q.ho * elemBytes q.fmt q.wo * q.chans)

/-- First input row that stripe `s` reads (R346). -/
def LayerRun.firstIn (l : LayerRun) (s : Nat) : Nat := (l.rows s).1 * l.d.sh - l.d.pt
/-- Input rows that the stripes of a bed read in all. -/
def LayerRun.rowSum (l : LayerRun) : Nat :=
  ((List.range l.stripes).map (fun s => l.lastIn s + 1 - l.firstIn s)).sum

/-- DRAM stripe traffic of one layer of a model at its worst formats (R348). -/
def Part.layerTraffic (p : Part) (k m i nb : Nat) (beds : List Nat) (fin : Nat) : Nat :=
  let r := p.img
  let d := readDesc (p.head m i)
  let fo := r.layerAfmt m i
  let worst := fun (f : Nat) => if fmtBits f < fmtBits (widen true f) then widen true f else f
  let mk : Nat → LayerRun := fun b =>
    { d := d, plot := r.modelPlot m, bed := b, nb := nb, ix := (beds.findIdx? (· == b)).getD 0, fin := worst fin,
      fw := r.layerWfmt m i, fout := worst fo, inAddr := d.inAddr, outs := [], segs := [] }
  let win := r.window (r.pipePlot k)
  let row := d.cin * elemBytes (worst fin) d.win
  let used := beds.filter (fun b => (mk b).groups != [] && 0 < (mk b).share.2)
  let tin := (used.map (fun b => row * (mk b).rowSum)).sum
  (if d.inAddr < win then tin else 0) + (if (d.op = 5 ∨ d.op = 6) ∧ d.in2Addr < win then tin else 0) +
    (if d.outAddr < win then d.cout * d.ho * elemBytes (worst fo) d.wo else 0)

/-- DRAM stripe traffic of one inference of a model stage; none for a model whose descriptors the ledger does not read. -/
def Part.stageTraffic (p : Part) (k i : Nat) : Nat :=
  let r := p.img
  let m := r.stageRef k i
  if r.modelLoad m ≠ 0 then 0
  else ((List.range (r.modelLayers m)).map (fun j =>
    let beds := bedsOf (p.stageLayerBeds k i j)
    let fin := if 0 < j then r.layerAfmt m (j - 1)
      else match r.prunerBefore m with
        | some (a, b) => r.prnFmt a b
        | none => r.layerAfmt m 0
    p.layerTraffic k m j beds.length beds fin)).sum

/-- F_p: the plot's real-time DRAM traffic in bytes per second. -/
def Part.fp (p : Part) (plot : Nat) : Ratio :=
  let r := p.img
  let ks := r.rtPipesOf plot
  let ss := (ks.flatMap r.inputs).eraseDups
  let perJob := fun k => (r.stages k).foldl (fun a i =>
    a + (if r.stageKind k i = 0 then r.prnBytes k i else if r.stageKind k i = 1 then p.stageTraffic k i else 0)) 0
  (sumRatio (ss.map (fun s => (r.captureRate s).add (r.decodeRate s)))).add
    (sumRatio (ks.map (fun k => (r.jobRate k).mul (Ratio.nat (perJob k)))))

/-- eta x DRAM_MBPS x 10^6. -/
def Rd.dramBytes (r : Rd) (plot : Nat) : Ratio := Ratio.frac (r.eta * r.qos plot 4 * 10 ^ 6) 65536

/-! Streamed models (R371, condition 3). -/

/-- A stage names a streamed model. -/
def Rd.streamedStage (r : Rd) (k i : Nat) : Bool := r.stageKind k i == 1 && r.modelResidency (r.stageRef k i) == 1

/-- B_w in bytes per second. -/
def Part.bw (p : Part) (plot : Nat) : Ratio :=
  let r := p.img
  let n := ((r.rtPipesOf plot).filter (fun k => (r.stages k).any (r.streamedStage k))).length
  ((r.dramBytes plot).sub (p.fp plot)).mul (Ratio.frac 1 n)

/-- D_i (R371). -/
def Part.fetchBytes (p : Part) (k i j : Nat) : Nat :=
  let r := p.img
  let m := r.stageRef k i
  let d := readDesc (p.head m j)
  let nb := (bedsOf (r.pipeBeds k)).length
  nb * 16 * d.cout + (if d.wRepl then nb else 1) * (d.groups * d.groupBytes (r.layerWfmt m j))

/-- D_i / B_w in ns. -/
def Part.fetchTime (p : Part) (k i j : Nat) : Ratio :=
  (Ratio.nat (p.fetchBytes k i j * 10 ^ 9)).div (p.bw (p.img.pipePlot k))

/-- The bandwidth condition of a streamed stage. -/
def Part.bandwidthOk (p : Part) (k i : Nat) : Bool :=
  let r := p.img
  let m := r.stageRef k i
  decide (0 < (p.bw (r.pipePlot k)).num) && (List.range (r.modelLayers m - 1)).all (fun j =>
    (p.fetchTime k i (j + 1)).le (Ratio.nat (r.layerCycles m j)))

/-! The bound. -/

/-- The term of a model stage. -/
def Part.modelTerm (p : Part) (k i : Nat) : Ratio :=
  let r := p.img
  let m := r.stageRef k i
  let n := r.modelLayers m
  let beds := r.stageBeds k i
  let cost := worstCost (r.modelMaxWide m) (p.stageLayers k i (2 ^ 64 - 1))
  let g := if 1 < (r.family m).length then n * 1000 else 0
  let f := if r.modelResidency m = 0 then Ratio.nat 0
    else (p.fetchTime k i 0).add ((Ratio.nat (r.modelMaxWide m)).mul
      ((List.range n).foldl (fun a j => a.max (p.fetchTime k i j)) (Ratio.nat 0)))
  (Ratio.nat (cost + 2000 * (n + r.modelMaxWide m) + g + p.iTerm k beds + r.kTerm beds)).add f

/-- The term of a stage. -/
def Part.stageTerm (p : Part) (k i : Nat) : Ratio :=
  let r := p.img
  match r.stageKind k i with
  | 0 => r.prnTerm k i
  | 1 => p.modelTerm k i
  | 2 => Ratio.nat (1000000 + 2000 + p.iTerm k (r.stageBeds k i) + r.kTerm (r.stageBeds k i))
  | _ => r.actTerm k i

/-- L, in ns. -/
def Part.bound (p : Part) (k : Nat) : Ratio :=
  let r := p.img
  (((r.captureTerm k).add (r.decodeTerm k)).add (sumRatio ((r.stages k).map (p.stageTerm k)))).add (Ratio.nat 5000)

/-! The conditions (R398), in the table's order. -/

/-- NO_RES. -/
def Rd.resOk (r : Rd) (k : Nat) : Bool :=
  let p := r.pipePlot k
  (!(r.inputs k).any r.decoded || r.qos p 0x0C != 0) && ((r.prnStages k).isEmpty || r.qos p 0x10 != 0) && r.qos p 4 != 0 &&
    (!(r.stages k).any (r.streamedStage k) || r.qos p 0x14 != 0)

/-- DECODE_LOAD. -/
def Rd.decodeLoadOk (r : Rd) (plot : Nat) : Bool :=
  (sumRatio (((r.plotStreams plot).filter r.decoded).map (fun s => Ratio.frac (r.pictureQuarters s * r.streamFps s) 4000))).le
    (Ratio.nat (r.qos plot 0x0C * 10 ^ 6))

/-- PRUNER_LOAD. -/
def Rd.prunerLoadOk (r : Rd) (plot : Nat) : Bool :=
  (sumRatio ((r.rtPipesOf plot).map (fun k => (r.jobRate k).mul (Ratio.nat ((r.prnStages k).map (r.prnCharge k)).sum)))).le
    (Ratio.nat (r.qos plot 0x10 * 10 ^ 6))

/-- BED_LOAD for the beds that the pipeline uses. -/
def Part.bedLoadOk (p : Part) (k : Nat) : Bool :=
  let r := p.img
  (List.range 64).all (fun b =>
    !r.usesBeds k (2 ^ b) ||
      (let ks := r.rtPipes.filter (fun x => r.usesBeds x (2 ^ b))
       (Ratio.nat ((ks.map (fun x => p.jobOn x (2 ^ b))).sum)).le (ks.foldl (fun a x => a.min (r.pk x)) (r.pk k))))

/-- The sum of budget over period on a core. -/
def Rd.coreLoad (r : Rd) (c : Nat) : Ratio :=
  sumRatio (r.rtPipes.flatMap (fun x => (r.stages x).map (fun j => match r.actStage x j with
    | some (b, cores) => if cores.testBit c then (Ratio.nat b).div (r.pk x) else Ratio.nat 0
    | none => Ratio.nat 0)))

/-- CORE_LOAD for the cores that the pipeline uses. -/
def Rd.coreLoadOk (r : Rd) (k : Nat) : Bool :=
  (List.range 8).all (fun c =>
    !(r.stages k).any (fun i => (((r.actStage k i).getD (0, 0)).2).testBit c) || (r.coreLoad c).le (Ratio.nat 1))

/-- SLOTS: every Pruner stage against the stage that its drills feed. -/
def Part.slotsOk (p : Part) (k : Nat) : Bool :=
  let r := p.img
  (r.prnStages k).all (fun i =>
    let q := r.prnPar k i
    let rate := sumRatio ((r.groupStages (r.pipePlot k) q.group).map (fun e => (r.jobRate e.1).mul (Ratio.nat (r.pipeCropMax e.1))))
    let term := if i + 1 < r.pipeStages k then p.stageTerm k (i + 1) else Ratio.nat 0
    decide ((term.mul rate |>.mul (Ratio.frac 1 (10 ^ 9))).ceil + 1 ≤ q.slots))

/-- The first condition that fails (R398); 0 when the pipeline is admitted. -/
def Part.ledgerReason (p : Part) (k : Nat) : Nat :=
  let r := p.img
  let plot := r.pipePlot k
  if !r.resOk k then 1
  else if !(p.fp plot).le (r.dramBytes plot) then 2
  else if !(r.stages k).all (fun i => !r.streamedStage k i || p.bandwidthOk k i) then 3
  else if !r.decodeLoadOk plot then 4
  else if !r.prunerLoadOk plot then 5
  else if !p.bedLoadOk k then 6
  else if !r.coreLoadOk k then 7
  else if !p.slotsOk k then 8
  else if !(p.bound k).le (Ratio.nat (r.pipeDeadline k)) then 9
  else 0

/-- Check one pipeline and show the result (STK_LDG); the reason. -/
def Part.ledgerPipe (p : Part) (k : Nat) : Nat × Part :=
  let why := p.ledgerReason k
  let us := if why = 0 ∨ why = 9 then ceilDiv (p.bound k).ceil 1000 else 0xFFFFFFFF
  let q := p.put (F.STK_LDG_BOUND_US k) us
  (why, (q.put (F.STK_LDG_STAT_RESULT k) (if why = 0 then 1 else 2)).put (F.STK_LDG_STAT_REASON k) why)

/-- A pipeline fails: PLOT_WITHERED is written, a CONFIG record is formed in plot 0, and its plot is
withered (R399). -/
def Part.wither (p : Part) (t k : Nat) : Part :=
  let r := p.img
  let plot := r.pipePlot k
  let q := p.ledger t 0x04 p.slot plot (p.get F.SHD_RUN_SEQ_IMAGE_SEQ) (p.get F.SHD_RUN_CUST_CUST_VERSION)
    (toLe 4 k ++ toLe 4 (p.get (F.STK_LDG_BOUND_US k)) ++ toLe 4 (r.pipeDeadline k / 1000))
  ((q.config t 0 7 0 0xFFFF 0 plot k).put (F.PLT_STATE_STATE plot) 3).metric 2 plot 1 |>.bootFault 4

/-- The ledger runs (R399): plots 1 to 8, and their pipelines in PIPE order. -/
def Part.ledgerRun (p : Part) (t : Nat) : Part :=
  let r := p.img
  let q := p.each ((List.range 9).filter (· != 0)) (fun q plot => q.each (r.rtPipesOf plot) (fun q k =>
    let x := q.ledgerPipe k
    if x.1 = 0 then x.2 else x.2.wither t k))
  q.each (r.pipes.filter (fun k => r.pipeClass k == 1)) (fun q k => (q.put (F.STK_LDG_STAT_RESULT k) 3).put (F.STK_LDG_BOUND_US k) 0)

end Sys2Proof.Machine
end

