-- ==== Sys2Proof/Machine/Admission.lean ====
section
/-! DEFINITION. Boot steps 10 to 13 (R105): NVMe and the Cellar heads, the boot loads, the deadline ledger, and the start of the
plots with the hardening-off window. -/

namespace Sys2Proof.Machine

/-! Step 10 (R503 to R506, R567). -/

/-- The plots that have a Cellar ring: plot 0, and those whose SINKS bit 2 is set. -/
def Part.cellarPlots (p : Part) : List Nat := p.plotIds.filter (fun k => k == 0 || (p.img.sinks k).testBit 2)

/-- Every Cellar sink is disabled (R504). -/
def Part.cellarNone (p : Part) : Part :=
  p.each p.cellarPlots (fun q k => (q.set (F.HVS_P_STAT_CELLAR_BAD k)).modHv k (fun u => { u with ringSlots := 0 }))

/-- The root port and the controller are up. -/
def Part.nvmeUp (p : Part) (a : SsdAnswer) : Part :=
  let q := ((p.set F.PRP_LINK_UP).put F.PRP_LINK_SPEED a.speed).put F.PRP_LINK_WIDTH a.width
  let lba4k := a.namespaces.any (fun n => n.nsid == 1 && n.lbaSize == 4096)
  let q := (q.set F.PRP_NVME_READY).put F.PRP_NVME_LBA4K (if lba4k then 1 else 0)
  let q : Part := { q with nvme := { q.nvme with namespaces := a.namespaces } }
  q.each q.cellarPlots (fun q k => q.cellarStart k a.slots)

/-- After a POR, the accumulators are loaded from the newest energy record of plot 0's Cellar (R567). -/
def Part.energyRestore (p : Part) (a : SsdAnswer) : Part :=
  match a.energy with
  | some l =>
    if p.get F.PWR_RESET_CAUSE_LAST = 0 && !(p.on (F.HVS_P_STAT_CELLAR_BAD 0)) then
      (p.setEnergy ((List.range 4).map (fun i => l.getD i 0 * 3600000 % 2 ^ 64))).set F.MTR_STATUS_E_RESTORED
    else p
  | none => p

/-- Without NVMe every boot load fails: each LOAD 0 model is FAILED with READ (R365). -/
def Part.loadsFail (p : Part) (t : Nat) : Part :=
  p.each (p.img.models.filter (fun m => p.img.modelLoad m == 0)) (fun q m => q.enterState t m 7 2 0)

/-- Step 11 starts. -/
def Part.loadsStart (p : Part) (t : Nat) (up : Bool) : Part :=
  let q := p.modBoot (fun b => { b with phase := .loads })
  if up then q.each q.plotIds (fun q k => q.startLoads t k) else q.loadsFail t

/-- Step 10 can run: in a boot, or at Frost exit step 5a. -/
def Part.nvmeAwaited (p : Part) : Bool :=
  p.boot.phase == .nvme || (p.pwr.frozen && p.power == 5 && p.img.nvmeOn && !p.pwr.nvDone)

/-- Step 10, or Frost exit step 5a. -/
def Part.nvmeBringUp (p : Part) (t : Nat) (a : SsdAnswer) : Part :=
  let q := if a.up then p.nvmeUp a else p.cellarNone.nvmeDown
  if p.boot.phase == .nvme then
    if a.up then (q.energyRestore a).loadsStart t true else (q.bootFault 5).loadsStart t false
  else (q.iff (!a.up) (·.setFault 5)).modPwr (fun u => { u with nvDone := true })

/-- A boot whose image has NVMe off passes from step 9 to step 11 (R504). -/
def Part.nvmeSkip (p : Part) (t : Nat) : Part :=
  if p.boot.phase == .loads && !p.img.nvmeOn then p.cellarNone.loadsFail t else p

/-! Steps 12 and 13. -/

/-- The boot loads are done. -/
def Part.admissionReady (p : Part) : Bool := p.boot.phase == .loads && p.plotIds.all (fun k => p.loadsDone k)

/-- The hardening-off window of step 13 (R122, R126), with SHD_BOOT_STATE.MODE. -/
def Part.windowStart (p : Part) (t : Nat) : Part :=
  if p.boot.lastResort then p.put F.SHD_BOOT_STATE_MODE 4
  else if p.boot.wasPassed then p.put F.SHD_BOOT_STATE_MODE 3
  else
    let q := p.put F.SHD_BOOT_STATE_MODE 2
    if 2 ≤ p.interrupted p.slot p.runSeq then q.hardeningFailed t 0xFF 0 0
    else
      let q := q.ledger t 0x05 p.slot 0 p.runSeq p.runCust (toLe 4 p.img.windowS)
      let q := (q.showSlots.put F.SHD_HARD_REMAIN_SECONDS p.img.windowS).put F.SHD_BOOT_STATE_ACCEPT_DUE
        (if p.img.acceptRequired then 1 else 0)
      q.modBoot (fun b => { b with windowOpen := true, windowTicks := p.img.windowS * 1000, accepted := false })

/-- Steps 12 and 13: the ledger runs with fresh counts, and the admitted plots start. -/
def Part.admission (p : Part) (t : Nat) : Part :=
  let q := ((p.nvmeSkip t).modBoot (fun b => { b with metrics := [] })).ledgerRun t
  let go := q.plotIds.filter (fun k => k != 0 && q.get (F.PLT_STATE_STATE k) == 1)
  let q := (q.enableUnits.each go Part.loadPlot).modBoot (fun b => { b with phase := .running })
  let q := q.each [0, 1] (fun q k => q.iff ((q.get F.TRL_CTRL_PORT_EN).testBit k) (·.trlEnable k true))
  let q := q.each (List.range 9) Part.ringReady
  let q := ((q.put (F.PLT_STATE_STATE 0) 2).newSealJob 0).trlSession 0
  let q := q.windowStart t
  let q := q.config t 0 5 (q.get F.SHD_BOOT_STATE_CAUSE) 0xFFFF 0 (q.get F.SHD_BOOT_STATE_MODE) 0
  let q := q.each go (fun q k => q.startPlot t k 0)
  (q.wdogArm.mtrFlush t).clearBootFaults false

end Sys2Proof.Machine
end

