-- ==== Sys2Proof/Machine/Tick.lean ====
section
/-! DEFINITION. The management tick (R61): rules of the Shed, counters, the Replant quiesce, and everything else that the Shed does
at a tick; and the time that the performance counters count (R148). -/

namespace Sys2Proof.Machine

/-! Performance counters (R148): what counts is assumption 54. -/

/-- Units busy for plot `k`: bed threads, (DRAM waits are a free value), decode cores, Pruner engines, whether a Barrow channel is
active, application cores, whether an NVMe load is outstanding, and whether a Trellis frame waits. -/
def Part.busyUnits (p : Part) (k : Nat) : List Nat :=
  let mine := fun (c : Option Cmd) => match c with
    | some c => c.plot == k
    | none => false
  let bit := fun (b : Bool) => if b then 1 else 0
  let beds := (List.range 64).map (fun b => match (p.bed b).cmd with
    | some bc => if bc.cmd.plot = k && bc.started then (match bc.cmd.task with
        | .layer _ _ => 16
        | _ => (p.bed b).live) else 0
    | none => 0)
  [beds.sum, 0,
   ((List.range 12).filter (fun c => match FMap.get (fun _ => none) p.vdc.cores c with
      | some s => p.img.streamPlot s == k
      | none => false)).length,
   ([0, 1, 2, 3].filter (fun e => mine (p.engine e))).length,
   bit ((List.range 64).any (fun c => p.chOwner c == k && p.chState c == 2)),
   ((List.range 8).filter (fun c => mine ((p.core c).map (·.cmd)))).length,
   bit (p.loadq k).cur.isSome,
   bit (p.trl.waiting.any (fun f => f.plot == k && !f.transit))]

/-- `ns` nanoseconds pass: each plot's totals take the time that its work was busy. -/
def Part.passTime (p : Part) (ns : Nat) : Part :=
  if ns = 0 || !p.live then p
  else p.each p.plotIds (fun q k => q.modPlot k (fun u => { u with
    totals := (List.range 8).map (fun i => u.totals.getD i 0 + ns * (p.busyUnits k).getD i 0) }))

/-- The counter registers of a plot, in order. -/
def ctrFld (k i : Nat) : Fld :=
  [F.PLT_CTR_BED_T k, F.PLT_CTR_DRAM_T k, F.PLT_CTR_DECODE_T k, F.PLT_CTR_PRUNER_T k, F.PLT_CTR_BARROW_T k, F.PLT_CTR_APC_T k,
   F.PLT_CTR_NVME_T k, F.PLT_CTR_TRL_T k].getD i (F.PLT_CTR_BED_T k)

/-- Publish a plot's counters together. The time its DRAM requests waited, which no command of the model carries, is a free value. -/
def Part.publish (p : Part) (k : Nat) : Part :=
  let u := p.plot k
  let q := p.each (List.range 8) (fun q i => q.put (ctrFld k i) (u.totals.getD i 0 / 4096))
  let x := q.fresh
  (x.2.put (F.PLT_CTR_DRAM_T k) x.1.toNat).put (F.PLT_PUB_TICK_TICK k) (p.get F.SDL_TICK_TICK)

/-! Rules of the Shed (R92, R93, R563). -/

/-- The level or the last edge of a GPIO rule's pin agrees with its edge. -/
def Part.ruleLevel (p : Part) (o : Nat) : Bool :=
  p.pins.gpioIn.testBit (p.img.ruleParam o % 8) == (p.img.ruleParam o).testBit 3

/-- The condition of a rule at this tick, from its state: a quantity with hysteresis, a metering event, a GPIO edge whose level
still holds, an EVENT record since the last tick, or a period boundary passed. An EVENT or a boundary holds until it fires
(assumption 53). -/
def Part.ruleCond (p : Part) (o : Nat) (s : RuleState) (last now : Nat) : Bool :=
  let r := p.img
  let pending := s.held.isSome && !s.fired
  match r.ruleTrigger o with
  | 3 => s.seen || (s.held.isSome && p.ruleLevel o)
  | 4 => s.seen || pending
  | 5 => decide (last / r.ruleParam o < now / r.ruleParam o) || pending
  | tr => p.mtrCond tr (r.ruleParam o) (r.ruleThresh o) (r.ruleHyst o) s.held.isSome

/-- A rule at a tick: its new state, and whether it fires. Dwell counts in ticks. A new edge, EVENT or boundary starts afresh. -/
def Part.ruleTick (p : Part) (o : Nat) (s : RuleState) (last now : Nat) : RuleState × Bool :=
  if p.ruleCond o s last now then
    let anew := s.seen || (p.img.ruleTrigger o == 5 && s.fired)
    let held := if anew && s.fired then 0 else (s.held.map (· + 1)).getD 0
    let was := s.fired && !anew
    let fires := !was && decide (p.img.ruleDwell o ≤ held)
    ({ held := some held, fired := was || fires, seen := false }, fires)
  else ({ held := none, fired := false, seen := false }, false)

/-- A GPIO output level. -/
def Part.driveGpio (p : Part) (g : Nat) (high : Bool) : Part :=
  p.modPins (fun u => { u with
    gpioOut := if u.gpioOut.testBit g = high then u.gpioOut else if high then u.gpioOut + 2 ^ g else u.gpioOut - 2 ^ g })

/-- The action of a fired rule but the hold-up outputs (R92, R120, R598, R611). -/
def Part.ruleAct (p : Part) (t o : Nat) : Part :=
  let r := p.img
  let a := r.ruleArg o
  let pending := p.on F.SHD_BOOT_STATE_REPLANT_PENDING
  match r.ruleAction o with
  | 4 => p.driveGpio (a % 8) true
  | 5 => p.driveGpio (a % 8) false
  | 6 =>
    let gpio := r.ruleTrigger o == 3
    let data := if gpio then toLe 1 (r.ruleParam o % 8) ++ toLe 1 (r.ruleParam o / 8 % 2) else []
    p.event t (r.rulePlot o) t (if gpio then 3 else 1) a (r.ruleId o) (data ++ List.replicate (20 - data.length) 0)
  | 7 => if pending then p else p.modPwr (fun u => { u with ordered := if a = 0 then 1 else 2 })
  | 8 => if pending then p else p.modPwr (fun u => { u with ordered := 3 })
  | 9 =>
    if a = 0 then p.orderReplant { rank := 4, code := 3 }
    else if a = 0x100 then (p.rollback t 1).2
    else p.orderFallow a 1
  | _ => p

/-- The Shed evaluates its rules: those of plot 0, and those of running plots. -/
def Part.shedRules (p : Part) (t last now : Nat) : Part :=
  let r := p.img
  let l := r.shedRules
  let x := (List.range l.length).foldl (fun (a : Part × List Nat) i =>
    let o := l.getD i 0
    if r.rulePlot o = 0 ∨ p.get (F.PLT_STATE_STATE (r.rulePlot o)) = 2 then
      let y := p.ruleTick o (p.rule i) last now
      (a.1.setRule i y.1, if y.2 then a.2 ++ [o] else a.2)
    else a) (p, [])
  let q := x.2.foldl (fun (q : Part) o => q.ruleAct t o) x.1
  q.holdAll t t t ((x.2.filter (fun o => decide (r.ruleAction o ≤ 3))).map (fun o => (r.ruleId o, r.ruleAction o)))

/-! The Replant quiesce (R121). -/

/-- Quiesce step 1: REPLANT_PENDING, the watchdog disarms, and every open drill and crate closes (R259, R494, R628). -/
def Part.quiesce (p : Part) (t : Nat) : Part :=
  match p.boot.order with
  | none => p
  | some o =>
    if p.on F.SHD_BOOT_STATE_REPLANT_PENDING then p
    else
      let q := (p.set F.SHD_BOOT_STATE_REPLANT_PENDING).wdogDisarm
      let q := q.modBoot (fun b => { b with order := none, replantCode := o.code, quiesceAt := t, drained := false })
      let q := q.modPwr (fun u => { u with ordered := 0 })
      let q := q.each (q.prn.groups.map (·.1)) (fun q g => q.closeDrill t g 2)
      q.each q.plotIds (fun q k => q.closeCrate k 2)

/-- Everything that still runs stops and is discarded. -/
def Part.discardJobs (p : Part) : Part :=
  let q := p.each (List.range 64) (fun q b => if (q.bedCmd b).isSome then (q.bedClear b).clr (F.BED_STATUS_RESETTING b) else q)
  let q := q.each [0, 1, 2, 3] (fun q e => (q.setEngine e none).clrBit F.PRN_ENG_BUSY_BUSY e)
  let q := q.each (List.range 8) (fun q c => ((q.dropHolds c).setCore c none).coreStat c)
  q.modJobs (fun u => { u with jobs := [], infers := [], ready := [], faults := [] })

/-- Step 2 ends: no job is left, or 50 ms have passed. -/
def Part.drainEnds (p : Part) (t : Nat) : Bool :=
  p.on F.SHD_BOOT_STATE_REPLANT_PENDING && !p.boot.drained &&
    (p.jobs.jobs.isEmpty || decide (p.boot.quiesceAt + 50000000 ≤ t))

/-- Step 2 ends. -/
def Part.jobsDrained (p : Part) : Part := p.discardJobs.modBoot (fun b => { b with drained := true })

/-- Step 3: every crate is sealed with CLOSE 2 and written to its sinks. -/
def Part.flushCrates (p : Part) (t : Nat) : Part :=
  if p.live then
    p.each p.plotIds (fun q k =>
      let q := Part.sealAll t k 64 (q.closeCrate k 2)
      Part.drainCellar t k (2 * (q.hv k).staged.length + 2) q)
  else p

/-- Steps 3 and 4, and the boot that follows from step 3 of the boot steps. -/
def Part.replant (p : Part) (t : Nat) (env : BootEnv) : Part :=
  let code := p.boot.replantCode
  ((p.flushCrates t).resetTo t true .resetHeld).bootFrom t code env

/-! The tick. -/

/-- The tick is due: the Sundial's count of milliseconds has risen. -/
def Part.tickDue (p : Part) (t : Nat) : Bool := decide (p.sdl.lastTick < t / 1000000)

/-- The window's count: one tick, paused in Frost (R122, R601). -/
def Part.windowTick (p : Part) : Part :=
  if p.boot.windowOpen && decide (p.power < 4) then
    let n := p.boot.windowTicks - 1
    (p.modBoot (fun b => { b with windowTicks := n })).put F.SHD_HARD_REMAIN_SECONDS (n / 1000)
  else p

/-- The tick of the Shed: `watts` is the Frexia's power in 250 mW steps, `checkins` the liveness sources that have checked in. -/
def Part.shedTick (p : Part) (t last now watts checkins : Nat) : Part :=
  let q := (p.quiesce t).mbxService t
  let q := q.put F.PWR_POWER_P watts
  let q := if q.live then
      let q := q.each (q.plotIds.filter (· != 0)) (fun q k => q.fallowTick t k)
      let q := (q.windowTick).iff (decide (q.power < 4)) (fun r => r.critTick t)
      let q := (q.each q.plotIds Part.publish).shedRules t last now
      let q := q.powerTick t
      let q := q.each ((List.range 64).filter (fun n => (q.runner n).restart)) (fun q n =>
        if q.get (F.PLT_STATE_STATE (q.img.runnerPlot n)) = 2 then q.runnerLaunch n else q)
      (q.ringFrames).weedLag t
    else q.powerTick t
  q.checkin checkins

/-- The management tick (R61): the watchdog counts in hardware; the Shed, where it runs, does its work. -/
def Part.managementTick (p : Part) (t watts checkins : Nat) : Part :=
  let now := t / 1000000
  let last := p.sdl.lastTick
  let q := ((p.modSdl (fun u => { u with lastTick := now })).put F.SDL_TICK_TICK now).wdogTick
  if q.shedUp then q.shedTick t last now watts checkins else q

end Sys2Proof.Machine
end

