-- ==== Sys2Proof/Machine/RegAccess.lean ====
section
/-! DEFINITION. Register accesses (00_scope R5 to R9, 02_address_map): what an address meets, what a read returns and does, and
what a write does, for every initiator. A register that has a rule of its own is served by that rule; every other one by its
access codes. -/

namespace Sys2Proof.Machine

/-! Fields by their access codes (R6). -/

/-- A field of the register at `a`. -/
def FieldSpec.fld (f : FieldSpec) (a : Nat) : Fld := ⟨a, f.hi, f.lo⟩

/-- What a read of a register returns: WO and reserved fields read 0 (R6, R7). -/
def readFields (v : Word) : List FieldSpec → Nat
  | [] => 0
  | f :: r => (if f.acc = .wo then 0 else v.bits f.hi f.lo * 2 ^ f.lo) + readFields v r

/-- The RC fields of a register are cleared (R6). -/
def Part.clearRc (p : Part) (a : Nat) (l : List FieldSpec) : Part :=
  l.foldl (fun (q : Part) f => if f.acc = .rc then q.put (f.fld a) 0 else q) p

/-- A write of one field under its access code (R6). -/
def Part.writeField (p : Part) (a : Nat) (v : Word) (f : FieldSpec) : Part :=
  let n := v.bits f.hi f.lo
  let old := p.get (f.fld a)
  match f.acc with
  | .rw => p.put (f.fld a) n
  | .w1c => p.put (f.fld a) (old - (old &&& n))
  | .w1s => p.put (f.fld a) (old ||| n)
  | .ro | .wo | .rc => p

/-- A write of a register under its access codes. -/
def Part.writeFields (p : Part) (a : Nat) (v : Word) (l : List FieldSpec) : Part :=
  l.foldl (fun (q : Part) f => q.writeField a v f) p

/-! Units' own operations that a register write orders. -/

/-- A write of SDL_RATE (R53): the base rate takes what the slew correction leaves (R689, assumption 55). -/
def Part.rateWrite (p : Part) (v : Word) : Part :=
  let r := clampInt (-rateClamp) rateClamp (sext 32 v.toNat)
  (p.modSdl (fun u => { u with baseRate := r - u.slew })).writeRate r

/-- A write of SDL_TMR_CMP_HI commits both halves (R66). -/
def Part.tmrCommit (p : Part) (i : Nat) (v : Word) : Part :=
  let lo := (FMap.get (fun _ => none) p.sdl.held i).getD (p.reg (R.SDL_TMR_CMP_LO i))
  ((p.setReg (R.SDL_TMR_CMP_LO i) lo).setReg (R.SDL_TMR_CMP_HI i) v).modSdl (fun u => { u with held := FMap.put (fun _ => none) u.held i none })

/-- A write of SDL_TMR_CTRL that R64 refuses: TARGET 3, or a channel of another plot. -/
def Part.tmrRefused (p : Part) (i : Nat) (v : Word) : Bool :=
  v.bits 2 1 == 3 || (v.bits 2 1 != 0 && p.chOwner (v.bits 13 8) != p.tmrOwner i)

/-- The PPS level after a write of SDL_CAP_CTRL (R690): the ball that PPS_GPIO names takes the level at once. -/
def Part.ppsAt (p : Part) (t : Nat) : Part :=
  p.modPins (fun u => { u with pps := p.on F.SDL_CAP_CTRL_PPS_EN && decide (t % 1000000000 < 500000000) })

/-- A context's EN is written (R174, R177). -/
def Part.ctxEnable (p : Part) (s : Nat) (on : Bool) : Part :=
  let st := p.get (F.ITK_CTX_STATE_STATE s)
  let was := p.on (F.ITK_CTX_CTRL_EN s)
  let q := p.put (F.ITK_CTX_CTRL_EN s) (if on then 1 else 0)
  if on then
    let q := if was then q else q.clr (F.ITK_CTX_STATE_SSRC_LOCKED s)
    if st = 1 then q.put (F.ITK_CTX_STATE_STATE s) 2 else q
  else if st = 0 ∨ st = 5 then q
  else q.put (F.ITK_CTX_STATE_STATE s) (if p.img.streamSource s = 1 then 1 else 2)

/-- A write of RELOCK releases the SSRC lock (R174). -/
def Part.ctxRelock (p : Part) (s : Nat) : Part := p.clr (F.ITK_CTX_STATE_SSRC_LOCKED s)

/-- An Ethernet link goes up or down (ETH_STAT). -/
def Part.ethLink (p : Part) (n : Nat) (up blockLock anDone : Bool) : Part :=
  let q := (p.put (F.ETH_STAT_BLOCK_LOCK n) (if blockLock then 1 else 0)).put (F.ETH_STAT_AN_DONE n) (if anDone then 1 else 0)
  let q := if p.on (F.ETH_STAT_LINK n) == up then q else q.set (F.ETH_STAT_LINK_CHG n)
  q.put (F.ETH_STAT_LINK n) (if up then 1 else 0)

/-- A slot that holds no rule of the image: it never fires. -/
def MtrRule.empty : MtrRule :=
  { id := 0xFFFF, trigger := 1, param := 0xFFFFFFFF, thresh := 0, hyst := 0, dwellMs := 0, action := 0, wake := false,
    since := none, fired := false }

/-- The rules that the slots of MTR_RULE name. -/
def Part.slotRules (p : Part) : List MtrRule :=
  let l := p.imageRules
  (List.range 32).map (fun i =>
    if p.on (F.MTR_RULE_VALID i) then (l.find? (fun r => r.id == p.get (F.MTR_RULE_RULE i))).getD MtrRule.empty else MtrRule.empty)

/-- A write of MTR_CTRL.EN: metering starts afresh, or stops (R570). -/
def Part.meterEnable (p : Part) (t : Nat) (on : Bool) : Part :=
  if !on then p.meterStop t
  else if p.on F.MTR_CTRL_EN then p
  else
    let q := p.modMtr (fun u => { MtrUnit.init with
      energy := u.energy, queue := u.queue, holds := u.holds, rules := u.rules })
    q.set F.MTR_CTRL_EN

/-- The interrupts that a write of FLT_IRQ_EN owes: bits newly enabled whose event stands (R695). -/
def Part.irqOwed (p : Part) (v : Word) : List Nat :=
  (List.range 8).filter (fun i => v.toNat.testBit i && !(p.get F.FLT_IRQ_EN_EN).testBit i && (p.get F.FLT_EVENTS_EVT).testBit i)

/-! Writes with a rule of their own. Each answers none where the access codes serve the register. -/

/-- The register row of an address: block base and row offset. -/
def rowKey (a : Nat) (r : RegRow) : Nat := a / 0x100000 * 0x100000 + r.off

/-- Writes to SHD, SDL and ITK. -/
def Part.writeFront (p : Part) (t : Nat) (w : Who) (key i : Nat) (v : Word) : Option Part :=
  if key = R.SHD_MBX_CMD then some (p.mbxWrite (v.bits 7 0) (v.bits 23 8) [])
  else if key = R.SDL_RATE then some (p.rateWrite v)
  else if key = R.SDL_STEP_LO then some (p.modSdl (fun u => { u with stepLo := v }))
  else if key = R.SDL_STEP_HI then some (p.stepBy t (v.toNat * 2 ^ 32 + p.sdl.stepLo.toNat))
  else if key = R.SDL_CAP_CTRL then
    let q := ((p.put F.SDL_CAP_CTRL_RISE_EN (v.bits 7 0)).put F.SDL_CAP_CTRL_FALL_EN (v.bits 15 8))
    some (((q.put F.SDL_CAP_CTRL_PPS_GPIO (v.bits 18 16)).put F.SDL_CAP_CTRL_PPS_EN (v.bits 19 19)).ppsAt t)
  else if key = R.SDL_TMR_CMP_LO 0 then
    some (p.modSdl (fun u => { u with held := FMap.put (fun _ => none) u.held i (some v) }))
  else if key = R.SDL_TMR_CMP_HI 0 then some (p.tmrCommit i v)
  else if key = R.SDL_TMR_CTRL 0 then (if p.tmrRefused i v then some (p.refused t w (R.SDL_TMR_CTRL i)) else none)
  else if key = R.ITK_CTX_CTRL 0 then
    let q := p.ctxEnable i (v.bits 0 0 == 1)
    some (if v.bits 1 1 = 1 then q.ctxRelock i else q)
  else if key = R.ITK_CTX_COMMIT 0 then (if v.bits 0 0 = 1 then some (p.itkCommit i) else none)
  else none

/-- Writes to PRN, BRW and DMC. -/
def Part.writeMid (p : Part) (t : Nat) (w : Who) (key i : Nat) (v : Word) : Option Part :=
  if key = R.PRN_PIPE_COMMIT 0 then (if v.bits 0 0 = 1 then some (p.prnCommit i) else none)
  else if key = R.BRW_CH_CTRL 0 then some (p.chCtrl t i v)
  else if key = R.BRW_CH_RING_LO 0 ∨ key = R.BRW_CH_RING_HI 0 ∨ key = R.BRW_CH_RING_SIZE 0 ∨ key = R.BRW_CH_HEAD 0 then
    (if p.chState i = 0 then none else some p)
  else if key = R.BRW_CH_LEVEL_ADD 0 then some (p.levelAdd i v.toNat)
  else if key = R.BRW_CH_TRIG 0 then some (p.trigWrite t w i v)
  else if key = R.BRW_CTRL then some (p.brwPause t (v.bits 0 0 == 1))
  else if key = R.DMC_CTRL then
    let q := ((p.put F.DMC_CTRL_EN (v.bits 0 0)).put F.DMC_CTRL_WEED_EN (v.bits 1 1)).put F.DMC_CTRL_RFM_ALWAYS (v.bits 2 2)
    some (q.nbrWrite (v.bits 7 4))
  else if key = R.DMC_CFG ∨ key = R.DMC_TIMING 0 then (if p.on F.DMC_CTRL_EN then some p else none)
  else none

/-- Writes to HVS and TRL. -/
def Part.writeOut (p : Part) (t : Nat) (key i : Nat) (v : Word) : Option Part :=
  if key = R.HVS_P_WAIT 0 then some (p.waitWrite 0 (v.bits 19 0))
  else if key = R.HVS_P_WAIT 1 then some (p.waitWrite (i + 1) (v.bits 19 0))
  else if key = R.HVS_P_REPLAY_CTRL 0 then
    let q := p.iff (v.bits 2 2 == 1) (·.clr (F.HVS_P_REPLAY_CTRL_GAP i))
    some (if v.bits 0 0 = 1 then q.replayGo t i true else q)
  else if key = R.HR_CTRL 0 then some (p.ringControl i (v.bits 0 0 == 1) (v.bits 1 1 == 1))
  else if key = R.HR_BASE_LO 0 ∨ key = R.HR_BASE_HI 0 ∨ key = R.HR_SIZE 0 then
    (if p.on (F.HR_CTRL_EN i) then some p else none)
  else if key = R.HR_CONS 0 then some (p.consWrite i v.toNat)
  else if key = R.HR_REPLAY_CTRL 0 then
    let q := p.iff (v.bits 2 2 == 1) (·.clr (F.HR_REPLAY_CTRL_GAP i))
    some (if v.bits 0 0 = 1 then q.replayGo t i false else q)
  else if key = R.TRL_CTRL then
    some ((((p.put F.TRL_CTRL_PORT_EN (v.bits 1 0)).put F.TRL_CTRL_NODE (v.bits 3 2)).put F.TRL_CTRL_RING (v.bits 6 4)).showRoutes)
  else if key = R.TRL_P_CTRL 0 then
    let q := p.trlEnable i (v.bits 0 0 == 1)
    some (if v.bits 1 1 = 1 then q.trlRetrain i else q)
  else none

/-- Writes to MTR: an RW field other than EN takes a write only while EN is 0. -/
def Part.writeMtr (p : Part) (t : Nat) (key i a : Nat) (v : Word) (l : List FieldSpec) : Option Part :=
  if key = R.MTR_CTRL then some (p.meterEnable t (v.bits 0 0 == 1))
  else if key = R.MTR_EVENTS then none
  else if p.on F.MTR_CTRL_EN then some p
  else if key = R.MTR_E_LO 0 ∨ key = R.MTR_E_HI 0 then
    let q := p.writeFields a v l
    some (q.loadEnergy i (q.get64 (F.MTR_E_LO_MWH i) (F.MTR_E_HI_MWH i)))
  else if key = R.MTR_RULE 0 then
    let q := p.writeFields a v l
    some (q.modMtr (fun u => { u with rules := q.slotRules }))
  else none

/-- Writes to PLT, STK, ETH, PWR, FLT, BED and DSP; `ctx` is the writer's context ID (R400). -/
def Part.writeBack (p : Part) (t : Nat) (ctx key i j : Nat) (v : Word) : Option Part :=
  if key = R.PLT_CTRL 0 then (if v.bits 0 0 = 1 ∧ i ≠ 0 then some (p.orderFallow i 2) else none)
  else if key = R.STK_TAKE 0 then (if v.bits 0 0 = 1 then some (p.stakeTake i ctx) else none)
  else if key = R.STK_REL 0 then (if v.bits 0 0 = 1 then some (p.stakeRel i ctx) else none)
  else if key = R.ETH_CFG 0 then
    some (((p.put (F.ETH_CFG_MODE i) (v.bits 1 0)).put (F.ETH_CFG_AN_EN i) (v.bits 2 2)).ethLink i false false false)
  else if key = R.PWR_CTRL then (if v.bits 1 0 = 0 then none else some (p.powerOrder t (v.bits 1 0)))
  else if key = R.FLT_IRQ_EN then
    some ((p.put F.FLT_IRQ_EN_EN (v.bits 7 0)).each (p.irqOwed v) (fun q _ => q.msi 10))
  else if key = R.FLT_WDOG_KICK then (if v.bits 0 0 = 1 then some p.wdogKick else none)
  else if key = R.BED_CTRL 0 then (if v.bits 0 0 = 1 then some (p.bedReset i) else none)
  else if key = R.DSP_Q_CTRL 0 0 then some (p.queueEnable (i + 1) j (v.bits 0 0 == 1))
  else if key = R.DSP_Q_BASE_LO 0 0 ∨ key = R.DSP_Q_BASE_HI 0 0 ∨ key = R.DSP_Q_SIZE 0 0 then
    (if p.on (F.DSP_Q_CTRL_EN i j) then some p else none)
  else if key = R.DSP_Q_HEAD 0 0 then some (p.queueHead (i + 1) j v.toNat)
  else none

/-- The ring whose control registers hold `a`, when its READY is 0: reads return 0 and writes are discarded (R40). -/
def Part.ringShut (p : Part) (a : Nat) : Bool :=
  isHostRing a && !p.on (F.HR_STAT_READY ((a - 0x710000) / 0x1000))

/-- A register of a power-gated bed, other than BED_STATUS (R35, R298). -/
def Part.gatedReg (p : Part) (a : Nat) : Bool :=
  a / 0x100000 == blkBED && p.on (F.BED_STATUS_GATED (a % 0x100000 / 0x100)) && a % 0x100 != 4

/-- A write of `v` to the register at `a` of register space. -/
def Part.regStore (p : Part) (t : Nat) (w : Who) (ctx a : Nat) (v : Word) : Part :=
  match regAt a with
  | none => p
  | some (r, i, j) =>
    let key := rowKey a r
    let blk := a / 0x100000
    if p.gatedReg a then p.accLog t w true 2 (w.addrOf a)
    else if p.ringShut a then p
    else
      let own := if blk ≤ 2 then p.writeFront t w key i v
        else if blk ≤ 6 then p.writeMid t w key i v
        else if blk ≤ 8 then p.writeOut t key i v
        else if blk = 9 then p.writeMtr t key i a v r.fields
        else p.writeBack t ctx key i j v
      own.getD (p.writeFields a v r.fields)

/-! Reads. -/

/-- A register's value as a read returns it, without what the read does. -/
def Part.regPlain (p : Part) (a : Nat) : Nat :=
  match regAt a with
  | some (r, _, _) => readFields (p.reg a) r.fields
  | none => 0

/-- Key of an initiator's read shadow (R54): one for each plot page, one for each kind of plot 0 initiator; `k` names the
register pair, 0 SDL_NOW and 1 + s ITK_CTX_TS of context s. -/
def Who.shadow (w : Who) (k : Nat) : Nat := k * 64 + (if w.plot.val = 0 then 16 + w.kind.code else w.plot.val)

/-- The reader's shadow. -/
def Part.shadow (p : Part) (w : Who) (k : Nat) : Word := FMap.get (fun _ => 0) p.sdl.shadows (w.shadow k)
/-- Latch the reader's shadow. -/
def Part.latchShadow (p : Part) (w : Who) (k : Nat) (v : Word) : Part :=
  p.modSdl (fun u => { u with shadows := FMap.put (fun _ => 0) u.shadows (w.shadow k) v })

/-- What SDL_CAP_INFO reads as (SDL_CAP_INFO). -/
def SdlUnit.capInfo (u : SdlUnit) : Nat :=
  match u.caps with
  | [] => 0
  | c :: r => c.gpio + (if c.rising then 8 else 0) + 16 * (r.length + 1) + 2 ^ 31

/-- A read of SDL_CAP_INFO removes the head entry and latches its stamp. -/
def Part.takeCap (p : Part) : Part :=
  match p.sdl.caps with
  | [] => p
  | c :: r => (p.modSdl (fun u => { u with caps := r })).put64 F.SDL_CAP_LO_STAMP_LO F.SDL_CAP_HI_STAMP_HI c.stamp

/-- Whole seconds since HOLDOVER became 1; 0 when not in holdover (SDL_HOLD_AGE). -/
def Part.holdAge (p : Part) (t : Nat) : Nat := if p.on F.SDL_STATUS_HOLDOVER then (t - p.sdl.lostAt) / 1000000000 else 0

/-- The register that a copy in the mailbox stands for (R132). -/
def copyOf (a : Nat) : Nat := if 0x10020 ≤ a ∧ a < 0x10048 then a - 0x10020 else a

/-- A register whose value is a count of cycles, or a state that lasts for part of what is one command here: what it reads is a
free value (assumption 23). -/
def timed (key : Nat) : Bool :=
  [R.ITK_PORT_STAT 0, R.VDC_CORE_UTIL 0, R.PRN_ENG_UTIL 0, R.BED_ENG_UTIL 0, R.BED_BANK_WAIT 0, R.APC_CORE_UTIL 0,
   R.DSP_GDN_STAT 0, R.DSP_GDN_UTIL 0].contains key

/-- A read of the register at `a` of register space: what it returns and what it does. -/
def Part.regLoad (p : Part) (t : Nat) (w : Who) (a : Nat) : Word × Part :=
  let plain := BitVec.ofNat 32 (p.regPlain a)
  match regAt a with
  | none => (0, p)
  | some (r, i, _) =>
    let key := rowKey a r
    if p.gatedReg a then (0, p.accLog t w false 2 (w.addrOf a))
    else if p.ringShut a then (0, p)
    else if key = R.SDL_NOW_LO then (BitVec.ofNat 32 t, p.latchShadow w 0 (BitVec.ofNat 32 (t / 2 ^ 32)))
    else if key = R.SDL_NOW_HI then (p.shadow w 0, p)
    else if key = R.SDL_STATUS ∧ w.plot.val ≠ 0 then (plain &&& 7, p)
    else if key = R.SDL_TICK then (BitVec.ofNat 32 (t / 1000000), p)
    else if key = R.SDL_CAP_INFO then (BitVec.ofNat 32 p.sdl.capInfo, p.takeCap)
    else if key = R.SDL_HOLD_AGE then (BitVec.ofNat 32 (p.holdAge t), p)
    else if key = R.SDL_TMR_CMP_LO 0 then ((FMap.get (fun _ => none) p.sdl.held i).getD plain, p)
    else if key = R.ITK_CTX_TS_LO 0 then (plain, p.latchShadow w (1 + i) (p.reg (R.ITK_CTX_TS_HI i)))
    else if key = R.ITK_CTX_TS_HI 0 then (p.shadow w (1 + i), p)
    else if timed key then (BitVec.ofNat 32 (readFields (p.fresh.1.setWidth 32) r.fields), p.fresh.2)
    else if key = R.PLT_TAGS_OUT 0 then (BitVec.ofNat 32 (p.nvTagged i), p)
    else (plain, p.clearRc a r.fields)

/-- A read through a mirror returns the same value and does nothing but latch the reader's shadow (R33, R54, assumption 56). -/
def Part.mirrorLoad (p : Part) (t : Nat) (w : Who) (a : Nat) : Word × Part :=
  let x := p.regLoad t w a
  (x.1, if a = R.SDL_NOW_LO then x.2 else p)

/-! What an address meets (R33 to R37). -/

/-- What an access meets. -/
inductive Hit where
  /-- A register, or a copy, at this address of register space. -/
  | reg (a : Nat)
  /-- A register seen through a BAR0 mirror. -/
  | mirror (a : Nat)
  /-- A reserved offset: it reads 0, and a write is ignored. -/
  | reserved
  /-- A reserved BAR0 offset: as above, and counted. -/
  | hostReserved
  /-- Register space with another width, or misaligned. -/
  | width
  /-- A BAR0 access of another shape (R34). -/
  | shape
  /-- Outside the initiator's map. -/
  | outside
  /-- Memory, which is no register. -/
  | memory
  deriving DecidableEq, Repr

/-- Whether register space implements `a`. -/
def implemented (a : Nat) : Bool := (regAt (copyOf a)).isSome

/-- A BAR0 offset (R33). -/
def hostHit (a : Nat) : Hit :=
  if a < 0x10000 then (if implemented (0x10000 + a) then .reg (0x10000 + a) else .hostReserved)
  else if 0x100000 ≤ a ∧ a < 0x109000 then
    (if implemented (0x610000 + a) then .reg (0x610000 + a) else .hostReserved)
  else if 0x200000 ≤ a ∧ a < 0x300000 then .mirror (blk blkFLT + (a - 0x200000))
  else if 0x300000 ≤ a ∧ a < 0x400000 then .mirror (blk blkSDL + (a - 0x300000))
  else .hostReserved

/-- What an access of `n` bytes at `a`, as the initiator issues it, meets. -/
def Part.hit (p : Part) (w : Who) (a n : Nat) (write : Bool) : Hit :=
  let word := n == 4 && a % 4 == 0
  if w.kind = .host then (if word then hostHit a else .shape)
  else if w.plot.val = 0 then
    if 0x1020000000 ≤ a ∧ a < 0x1020000000 + 22 * 0x100000 then
      if !word then .width else if implemented (a - 0x1020000000) then .reg (a - 0x1020000000) else .reserved
    else if (p.memKeys 0 a n write).isSome then .memory else .outside
  else
    match pageAddr a with
    | some (b, o) =>
      match p.pageAt w.plot.val b (o / 4 * 4) with
      | .outside => .outside
      | .reserved => if word then .reserved else .width
      | .reg r => if word then .reg r else .width
    | none => if (p.memKeys w.plot.val a n write).isSome then .memory else .outside

/-- The initiator can issue an access: a host with the link up; plot 0 firmware while the Shed runs; a plot that runs (R154). -/
def Part.issues (p : Part) (w : Who) : Bool :=
  if w.kind = .host then p.on F.PEP_LINK_UP
  else if w.plot.val = 0 then p.shedUp
  else p.live && p.get (F.PLT_STATE_STATE w.plot.val) == 2

/-- A register read by an initiator (R35). -/
def Part.registerRead (p : Part) (t : Nat) (w : Who) (a n : Nat) : Part :=
  match p.hit w a n false with
  | .reg r => let x := p.regLoad t w (copyOf r); x.2.answer w x.1
  | .mirror r => let x := p.mirrorLoad t w r; x.2.answer w x.1
  | .reserved => p.answer w 0
  | .hostReserved => (p.addSat F.PEP_ERR_RSVD_COUNT 1).answer w 0
  | .width => (p.accLog t w false 0 a).emit (.busError w)
  | .shape => (p.addSat F.PEP_ERR_SHAPE_COUNT 1).emit .completerAbort
  | .outside => p.denied t w false a
  | .memory => p

/-- A register write by an initiator (R35). -/
def Part.registerWrite (p : Part) (t : Nat) (w : Who) (ctx a n : Nat) (v : Word) : Part :=
  match p.hit w a n true with
  | .reg r => if copyOf r = r then p.regStore t w ctx r v else p
  | .mirror _ => p.addSat F.PEP_ERR_RSVD_COUNT 1
  | .reserved => p
  | .hostReserved => p.addSat F.PEP_ERR_RSVD_COUNT 1
  | .width => p.accLog t w true 0 a
  | .shape => p.addSat F.PEP_ERR_SHAPE_COUNT 1
  | .outside => p.denied t w true a
  | .memory => p

/-- A read of a register by its own address in register space, as its initiator issues it. -/
def Part.readOf (p : Part) (t : Nat) (w : Who) (a : Nat) : Part := p.registerRead t w (w.addrOf a) 4
/-- A write of a register by its own address in register space, as its initiator issues it. -/
def Part.writeOf (p : Part) (t : Nat) (w : Who) (a : Nat) (v : Word) : Part := p.registerWrite t w 0 (w.addrOf a) 4 v

/-- Plot 0 firmware: the Shed. -/
def shed : Who := { kind := .shed, plot := 0 }
/-- The writer of a plot's registers: a Runner of the plot, or for plot 0 the Shed. -/
def ownerWho (k : Nat) : Who := if k % 9 = 0 then shed else { kind := .appCore, plot := Fin.ofNat 9 k }
/-- The host. -/
def hostWho : Who := { kind := .host, plot := 0 }

end Sys2Proof.Machine
end

