-- ==== Sys2Proof/Machine/Events.lean ====
section
/-! DEFINITION. Events of the Sundial, the pins and the links: seconds, PPS, timers, GPIO edges, the PTP servo and holdover, REFCLK,
the endpoint's and the Ethernet links, and JTAG (03_clocks_sundial, 17_harvest, 21_power_reset, 24_package). -/

namespace Sys2Proof.Machine

/-! The whole second (R61, R150, R325, R486, R690). -/

/-- A whole second of the Sundial has passed since the last one taken. -/
def Part.secondDue (p : Part) (t : Nat) : Bool := decide (p.sdl.lastSec < t / 1000000000)

/-- A temperature in 0.01 °C as PLT_TEMP shows it: the nearest multiple of 2 °C, ties up (R150). -/
def publicTemp (centi : Int) : Nat := twos 8 ((centi + 100) / 200 * 2)

/-- The worst layer: it bolted most often; ties go to the larger sum, then to the lower index (R325). -/
def worstLayer : List (Nat × Nat × Nat × Nat) → Nat × Nat × Nat × Nat
  | [] => (0, 0, 0, 0)
  | a :: r =>
    let b := worstLayer r
    if b.2.1 < a.2.1 ∨ (b.2.1 = a.2.1 ∧ (b.2.2.1 < a.2.2.1 ∨ (b.2.2.1 = a.2.2.1 ∧ a.1 ≤ b.1))) then a else b

/-- The BOLT record of a model and version, at the boundary `ts` (R325). -/
def Part.boltRecord (p : Part) (t ts : Nat) (b : BoltCount) : Part :=
  let w := worstLayer b.layers
  p.form t b.plot (JobCtx.none ts) (fun seq => recShort 7 b.plot seq p.noTime ts ++ toLe 2 b.model ++ toLe 4 b.version ++
    toLe 4 b.inferences ++ toLe 4 b.bolts ++ toLe 4 b.reruns ++ toLe 4 b.bolted ++ toLe 2 w.1 ++ toLe 2 0 ++
    toLe 4 w.2.2.1 ++ toLe 4 w.2.2.2 ++ toLe 4 (p.img.layerBoltLimit b.model w.1))

/-- The second's records and publications: PLT_TEMP, HEARTBEAT of plot 0 and every RUNNING plot, and BOLT records. -/
def Part.secondRecords (p : Part) (t ts : Nat) (hottest : Int) : Part :=
  let q := p.each p.plotIds (fun q k => q.put (F.PLT_TEMP_DEG_C k) (publicTemp hottest))
  let q := q.each (0 :: q.runningPlots) (fun q k => q.heartbeat t ts k)
  let q := (q.jobs.bolt.filter (fun b => decide (0 < b.bolts))).foldl (fun (q : Part) b => q.boltRecord t ts b) q
  q.modJobs (fun u => { u with bolt := [] })

/-- A whole second: the PPS ball rises, the sensor beside REFCLK is sampled, and what is due at the boundary is formed. Both
temperatures are in 0.01 °C. -/
def Part.second (p : Part) (t : Nat) (hottest tcxo : Int) : Part :=
  let s := t / 1000000000
  let q := p.modSdl (fun u => { u with lastSec := s, temps := ((s, tcxo) :: u.temps).take 3601 })
  let q := q.iff (p.on F.SDL_CAP_CTRL_PPS_EN) (fun r => r.modPins (fun u => { u with pps := true }))
  if q.live then q.secondRecords t (s * 1000000000) hottest else q

/-- The PPS ball falls half a second later (R690). -/
def Part.ppsFallDue (p : Part) (t : Nat) : Bool := p.pins.pps && decide (500000000 ≤ t % 1000000000)
def Part.ppsFall (p : Part) : Part := p.modPins (fun u => { u with pps := false })

/-- The level that a GPIO ball carries as an output: PPS where PPS_GPIO names it, else its own output level (R690). -/
def Part.ball (p : Part) (g : Nat) : Bool :=
  if p.on F.SDL_CAP_CTRL_PPS_EN && p.get F.SDL_CAP_CTRL_PPS_GPIO == g then p.pins.pps else p.pins.gpioOut.testBit g

/-! Event timers (R62 to R64). -/

/-- A timer's fire is due: enabled, the Sundial at or above CMP, and its plot not fenced (R63, R164). -/
def Part.timerDue (p : Part) (t i : Nat) : Bool :=
  p.live && p.on (F.SDL_TMR_CTRL_EN i) && decide (p.tmrCmp i ≤ t) && !p.fenced (p.tmrOwner i)

/-- A timer fires (R63, R64). -/
def Part.timerFire (p : Part) (t i : Nat) : Part :=
  let target := p.get (F.SDL_TMR_CTRL_TARGET i)
  let period := tmrPeriod (p.get (F.SDL_TMR_PERIOD_PERIOD i))
  let q := p.set (F.SDL_TMR_STAT_FIRED i)
  let q := if period = 0 then q.clr (F.SDL_TMR_CTRL_EN i)
    else
      let n := tmrAdvance (p.tmrCmp i) t period
      (q.put64 (F.SDL_TMR_CMP_LO_CMP_LO i) (F.SDL_TMR_CMP_HI_CMP_HI i) (p.tmrCmp i + n * period)).addSat (F.SDL_TMR_MISSED_MISSED i) (n - 1)
  let q := q.iff (target == 0 || target == 2) (·.plotEvent (p.tmrOwner i) 1)
  q.iff (target == 1 || target == 2) (·.startDue (p.get (F.SDL_TMR_CTRL_CHANNEL i)) none)

/-! GPIO edges (R55, R92 trigger 3). -/

/-- The board's edge on a GPIO changes its level. -/
def Part.edgeIs (p : Part) (g : Nat) (rising : Bool) : Bool := decide (g < 8) && p.pins.gpioIn.testBit g != rising

/-- A GPIO edge: the level changes, an enabled edge is captured, and rules with trigger 3 see it. -/
def Part.gpioEdge (p : Part) (t g : Nat) (rising : Bool) : Part :=
  let q := p.setGpio g rising
  if !q.live then q
  else
    let en := if rising then p.get F.SDL_CAP_CTRL_RISE_EN else p.get F.SDL_CAP_CTRL_FALL_EN
    let q := if en.testBit g then
        let x := q.captured t
        x.2.capture { gpio := g, rising := rising, stamp := x.1 }
      else q
    let rules := q.img.shedRules
    q.each (List.range rules.length) (fun q i => match rules[i]? with
      | some o =>
        if q.img.ruleTrigger o == 3 && q.img.ruleParam o % 8 == g && (q.img.ruleParam o).testBit 3 == rising then
          q.setRule i { q.rule i with seen := true }
        else q
      | none => q)

/-! The PTP servo (R57, R58, R689). -/

/-- Some port is in the SLAVE state. -/
def Part.anySlave (p : Part) : Bool := p.sdl.ptp.any (· == .slave)

/-- PTP runs on a port: the image gives it a role, its link is up, and a slave-only port is never a master. -/
def Part.ptpOn (p : Part) (n : Nat) (st : PtpState) : Bool :=
  p.shedUp && p.img.ptpRole n != 0 && p.on (F.ETH_STAT_LINK n) && !(p.img.ptpRole n == 1 && (st == .master || st == .passive))

/-- The servo takes an offset estimate (master less Sundial, in ns) with its frequency estimate and the slew correction it
chooses, both in 2^-32 (R57, R689): more than the step threshold behind, one forward step; otherwise a slew. -/
def Part.servo (p : Part) (t : Nat) (off freq slew : Int) : Part :=
  let within := decide (off.natAbs ≤ 100)
  let q := p.modSdl (fun u => { u with withinSince := if within then some (u.withinSince.getD t) else none })
  let base := if p.on F.SDL_STATUS_LOCKED then freq else p.sdl.baseRate
  if (p.img.stepNs : Int) < off then
    (((q.modSdl (fun u => { u with slewSet := false, slewLeft := 0, withinSince := none })).setRates base 0)).stepBy t off.toNat
  else if p.sdl.slewSet && !p.on F.SDL_STATUS_LOCKED then q
  else q.setRates base (clampInt (-rateClamp - base) (rateClamp - base) slew)

/-- A PTP message is handled: the port's state, and with an estimate the servo's correction. -/
def Part.ptpMessage (p : Part) (t n : Nat) (st : PtpState) (est : Option (Int × Int × Int)) : Part :=
  let q := p.modSdl (fun u => { u with ptp := u.ptp.set n st })
  match est with
  | some (off, freq, slew) => if st = .slave then q.servo t off freq slew else q
  | none => if q.anySlave then q else q.modSdl (fun u => { u with withinSince := none })

/-- The estimate has stayed within 100 ns for 64 s (R58). -/
def Part.lockDue (p : Part) (t : Nat) : Bool :=
  p.shedUp && !p.on F.SDL_STATUS_LOCKED && p.anySlave &&
    (match p.sdl.withinSince with
      | some a => decide (a + 64000000000 ≤ t)
      | none => false)

/-- LOCKED rises, TIME_VALID with it; the servo takes over a SET_TIME slew (R58, R689). -/
def Part.lockGained (p : Part) (t : Nat) : Part :=
  let q := (((p.set F.SDL_STATUS_LOCKED).set F.SDL_EVENTS_LOCK_GAINED).clr F.SDL_STATUS_HOLDOVER).clr F.SDL_STATUS_HOLD_BOUNDED
  (q.modSdl (fun u => { u with lockedSincePor := true, lockedAt := t, slewSet := false, slewLeft := 0 })).timeValid t |>.metric 9 0 1

/-- A SET_TIME slew has removed its offset (R689). -/
def Part.slewDone (p : Part) (t : Nat) : Bool :=
  p.sdl.slewSet && (if 0 ≤ p.sdl.slewLeft then decide (p.sdl.leftAt t ≤ 0) else decide (0 ≤ p.sdl.leftAt t))
def Part.slewEnd (p : Part) : Part :=
  (p.modSdl (fun u => { u with slewSet := false, slewLeft := 0 })).setRates p.sdl.baseRate 0

/-! Holdover (R59, R60). -/

/-- The holdover rate at temperature `T` (0.01 °C), rounded; none where the curve has no value (R59, R549). -/
def Part.holdRate (p : Part) (T : Int) : Option Int :=
  let u := p.sdl
  match curveAt u.curve (T * 10), curveAt u.curve (u.tLock * 10) with
  | some a, l =>
    if !u.lockedSincePor then some (rneDiv (-a.1) a.2)
    else match l with
      | some b => some (rneDiv (u.rLock * a.2 * b.2 - a.1 * b.2 + b.1 * a.2) (a.2 * b.2))
      | none => none
  | none, _ => none

/-- R60's conditions still hold at temperature `T`: the curve, its range, 10 °C within an hour, and seven days. -/
def Part.stillBounded (p : Part) (t : Nat) (T : Int) : Bool :=
  let now := t / 1000000000
  let lost := p.sdl.lostAt / 1000000000
  p.sdl.boundedSoFar && p.on F.SDL_STATUS_CURVE_VALID && (curveAt p.sdl.curve (T * 10)).isSome && !p.pins.refLost &&
    decide (t - p.sdl.lostAt ≤ 604800000000000) &&
    (p.sdl.temps.filter (fun x => decide (lost ≤ x.1 ∧ now ≤ x.1 + 3600))).all (fun x => decide ((x.2 - T).natAbs ≤ 1000))

/-- The servo's update of a second in holdover (R59). Where the curve has no value the spec states no rate: a free value. -/
def Part.holdover (p : Part) (t : Nat) (T : Int) : Part :=
  let ok := p.stillBounded t T
  let x := match p.holdRate T with
    | some r => (r, p)
    | none => let f := p.fresh; (sext 32 f.1.toNat, f.2)
  let q := x.2.setBase t x.1
  (q.modSdl (fun u => { u with boundedSoFar := ok })).put F.SDL_STATUS_HOLD_BOUNDED (if ok && p.on F.SDL_STATUS_HOLDOVER then 1 else 0)

/-! REFCLK (R43, R52). -/

/-- REFCLK stops: the Sundial counts from AONCLK. -/
def Part.refLoss (p : Part) : Part :=
  let q := p.modPins (fun u => { u with refclk := false, refLost := true })
  (((q.put F.SDL_STATUS_SRC 2).set F.SDL_EVENTS_REF_LOST).clr F.SDL_STATUS_HOLD_BOUNDED).modSdl (fun u => { u with boundedSoFar := false })

/-- REFCLK returns: the Sundial stays on SRC 2 until RESET_N. -/
def Part.refReturn (p : Part) : Part :=
  (p.modPins (fun u => { u with refclk := true })).iff p.pins.refLost (·.set F.SDL_EVENTS_REF_RESTORED)

/-! The host endpoint (R34, R497, R609). -/

/-- The endpoint may train: out of reset, powered, and not disabled by the image. -/
def Part.epTrains (p : Part) : Bool :=
  p.boot.phase != .porHeld && p.boot.phase != .resetHeld && !(p.pwr.frozen && p.power == 4) &&
    (p.slot == 3 || p.img.pcieEpOn)

/-- The endpoint's link is up at a speed and width, with MSI vectors granted. -/
def Part.epUp (p : Part) (speed width msi : Nat) : Part :=
  (((p.set F.PEP_LINK_UP).put F.PEP_LINK_SPEED speed).put F.PEP_LINK_WIDTH width).put F.PEP_LINK_MSI msi

/-- A link reset of the endpoint: the link fields and every ring register but READY return to Reset (R609). -/
def Part.epReset (p : Part) : Part :=
  let ready := (List.range 9).filter (fun k => p.on (F.HR_STAT_READY k))
  let q := p.resetRegs (fun a => a == R.PEP_LINK || isHostRing a)
  let q := q.each ready (fun q k => q.set (F.HR_STAT_READY k))
  q.each (List.range 9) (fun q k =>
    (q.nvFree (fun c => c.op == 3 && c.plot == k && c.b == 0)).modHv k (fun u => { u with hostReplay := none, msiOwed := false, msiAfter := 0 }))

/-- A BAR0 TLP of another shape than one DW with all byte enables (R34). -/
def Part.shapeRefused (p : Part) (read : Bool) : Part :=
  (p.addSat F.PEP_ERR_SHAPE_COUNT 1).iff read (·.emit .completerAbort)

/-- The root port's level 1 recovery is counted (R622). -/
def Part.rootRecovery (p : Part) : Part := p.addSat F.FLT_PCIE_RECOV_COUNT 1

/-! Ethernet (R55, ETH_TX_TS). -/

/-- An outgoing PTP event message crosses the balls. -/
def Part.egressStamp (p : Part) (t n seq : Nat) : Part :=
  let x := p.captured t
  (((x.2.put64 (F.ETH_TX_TS_LO_TS n) (F.ETH_TX_TS_HI_TS n) x.1).put (F.ETH_TX_TS_ID_SEQ_ID n) seq).set (F.ETH_TX_TS_ID_VALID n))

/-! RTSP (R173, R177). -/

/-- The Shed runtime sets up a session: the match fields, then EN. -/
def Part.rtspSetup (p : Part) (s port udp ip pt : Nat) : Part :=
  let q := (p.put (F.ITK_CTX_MATCH_ETH_PORT s) port).put (F.ITK_CTX_MATCH_UDP_PORT s) udp
  ((q.put (F.ITK_CTX_SRC_IP_IP s) ip).put (F.ITK_CTX_RTP_PT s) pt).ctxEnable s true

/-! JTAG (R684 to R687). -/

/-- IDCODE of revision B1. -/
def idcode : Nat := 0x29600967

/-- A TAP operation: an update loads the instruction; a TAP reset, alone or in the same cycle as an update, selects IDCODE (R686);
a data scan returns the selected register. The boundary register's order is not in the spec: a scan of it is a free value. -/
def Part.tap (p : Part) (op : TapOp) : Part :=
  match op with
  | .reset | .resetWithUpdate _ => p.modPins (fun u => { u with jtagIr := 1 })
  | .update ir => p.modPins (fun u => { u with
      jtagIr := ir % 256, jtagUndefined := u.jtagUndefined || [0, 3, 4].contains (ir % 256) })
  | .scan =>
    if p.pins.jtagIr = 1 then p.emit (.tdo idcode)
    else if p.pins.jtagIr = 2 then let x := p.fresh; x.2.emit (.tdo x.1.toNat)
    else p.emit (.tdo 0)

end Sys2Proof.Machine
end

