-- ==== Sys2Proof/Machine/IntakeEvents.lean ====
section
/-! DEFINITION. What arrives at Intake, and what its clocks bring about (07_intake): CSI-2 packets, the ends of access units,
stalls, entry commits, and the pairs of alignment sets. -/

namespace Sys2Proof.Machine

/-! CSI-2 packets (R167, R168, R195). -/

/-- A CSI-2 port receives: it is enabled and its lanes run. -/
def Part.csiOn (p : Part) (port : Nat) : Bool :=
  p.live && decide (port < 8) && p.on F.ITK_CTRL_EN && p.on (F.ITK_PORT_CFG_EN port)

/-- What a packet's start and header leave in ITK_PORT_ERR: ECC_CORR, ECC_UNCORR, SOT. -/
def Part.csiHead (p : Part) (port : Nat) (ecc : Ecc) (sot : Bool) : Part :=
  let q := p.iff sot (·.portErr port 6)
  match ecc with
  | .good => q
  | .corrected => q.portErr port 0
  | .bad => q.portErr port 1

/-- The context whose frame in progress a line or Frame End belongs to; frames already latched run on when nothing new is
admitted. -/
def Part.csiFrameCtx (p : Part) (port vc : Nat) : Option Nat :=
  p.img.streams.find? (fun s => p.img.streamSource s == 0 && p.on (F.ITK_CTX_CTRL_EN s) &&
    (p.get (F.ITK_CTX_STATE_STATE s) == 2 || p.get (F.ITK_CTX_STATE_STATE s) == 3 || p.get (F.ITK_CTX_STATE_STATE s) == 4) &&
    p.get (F.ITK_CTX_MATCH_CSI_PORT s) == port && p.get (F.ITK_CTX_MATCH_VC s) == vc)

/-- A Frame Start packet: its stamp (R55), the latch event (R186), and the Pruner's latch that follows it (R238). -/
def Part.csiFrameStart (p : Part) (t port vc number : Nat) (ecc : Ecc) (sot : Bool) : Part :=
  let q := p.csiHead port ecc sot
  if ecc = .bad then q
  else match q.csiCtx port vc with
    | none => q
    | some s =>
      let x := q.captured t
      let q := x.2.frameStart x.1 port s number
      q.putLatches s (q.get (F.ITK_CTX_FRAME_SEQ_SEQ s)) 0 x.1

/-- A long packet: data type `dt`, its payload, whether its CRC is right, and whether the port's line buffer overflows. -/
def Part.csiLongPacket (p : Part) (port vc dt : Nat) (d : List Byte) (crcOk overflow : Bool) (ecc : Ecc) (sot : Bool) : Part :=
  let q := p.csiHead port ecc sot
  if ecc = .bad then q
  else
    let s? := q.csiFrameCtx port vc
    let frame := s?.bind (fun s => (q.ctx s).frame)
    let drop := fun (r : Part) => match s? with
      | some s => r.dropFrame s
      | none => r
    if overflow then drop (q.portErr port 7)
    else if !crcOk then drop ((q.portErr port 2).addSat (F.ITK_PORT_CRC_CNT_COUNT port) 1)
    else if dt = 0x12 then q
    else match s? with
      | none => if [0x1E, 0x24, 0x2D].contains dt then q else q.portErr port 5
      | some s =>
        if dt ≠ dataType (q.img.streamPixfmt s) then q.portErr port 5
        else match frame with
          | none => q.portErr port 4
          | some f => q.frameLine port s f d

/-- A Frame End packet. -/
def Part.csiFrameEnd (p : Part) (port vc number : Nat) (ecc : Ecc) (sot : Bool) : Part :=
  let q := p.csiHead port ecc sot
  if ecc = .bad then q
  else match q.csiFrameCtx port vc with
    | none => q
    | some s => match (q.ctx s).frame with
      | none => q.portErr port 4
      | some f => q.frameEnd port s number f

/-! Clocked events of a context (R176, R177, R182). -/

/-- Two nominal frame periods have passed since the access unit's last packet (R176). -/
def Part.auTimedOut (p : Part) (t s : Nat) : Bool :=
  p.live && (p.ctx s).au.isSome && decide ((p.ctx s).packetAt + 2 * p.img.framePeriod s ≤ t)

/-- Four nominal frame periods have passed since the context's last latch event (R177). -/
def Part.ctxQuiet (p : Part) (t s : Nat) : Bool :=
  p.live && p.get (F.ITK_CTX_STATE_STATE s) == 3 && decide ((p.ctx s).latchedAt + 4 * p.img.framePeriod s ≤ t)

/-- The context goes STALLED (R177). -/
def Part.ctxStall (p : Part) (s : Nat) : Part := p.put (F.ITK_CTX_STATE_STATE s) 4

/-- Every write of a context's oldest complete entry has been accepted (R182); a fenced context commits nothing (R196). -/
def Part.entryReady (p : Part) (s : Nat) : Bool :=
  p.live && !(p.ctx s).entries.isEmpty && p.get (F.ITK_CTX_STATE_STATE s) != 5

/-- Commit it. -/
def Part.entryCommit (p : Part) (t s : Nat) : Part :=
  match (p.ctx s).entries with
  | [] => p
  | e :: _ => p.commitEntry s t e

/-- A notice waits for decode (R211). -/
def Part.noticeReady (p : Part) (s : Nat) : Bool := p.live && !(p.ctx s).notices.isEmpty

/-- Intake passes decode its oldest notice. -/
def Part.noticePass (p : Part) (t s : Nat) (f : NalFacts) : Part :=
  match (p.ctx s).notices with
  | [] => p
  | n :: rest => (p.modCtx s (fun u => { u with notices := rest })).handoff t s n f

/-- An RTSP stream waits for its session (R177), and the chosen receive port is free: no SOURCE 2 record and no other enabled context
of that Ethernet port uses it (R173). -/
def Part.rtspReady (p : Part) (s port udp : Nat) : Bool :=
  p.live && p.img.streamSource s == 1 && p.get (F.ITK_CTX_STATE_STATE s) == 1 && decide (port < 2) &&
    p.img.streams.all (fun x => x == s ||
      !((p.img.streamSource x == 2 && p.img.streamEthPort x == port && p.img.streamRtpPort x == udp) ||
        (p.img.streamSource x != 0 && p.on (F.ITK_CTX_CTRL_EN x) && p.get (F.ITK_CTX_MATCH_ETH_PORT x) == port &&
          p.get (F.ITK_CTX_MATCH_UDP_PORT x) == udp)))

/-! Pairs (R191 to R194, R387). -/

/-- The picture of a stream's frame, where decode has started it. -/
def Part.picOf (p : Part) (s f : Nat) : Option DecPic := (p.dec s).pics.find? (fun x => x.frameSeq == f)

/-- A chosen member's picture has started, or never will: decode has gone past it or does not run (assumption 59). -/
def Part.memberKnown (p : Part) (s f : Nat) : Bool :=
  !p.img.decoded s || !p.decOn s || (p.dec s).pics.any (fun x => decide (f ≤ x.frameSeq))

/-- The enabled pipelines that take a set. -/
def Rd.setPipes (r : Rd) (k : Nat) : List Nat :=
  r.pipes.filter (fun i => r.pipeInputKind i == 1 && r.pipeInput i == k)

/-- A set's oldest reference frame has every choice final; the reference frame has latched in its pipelines, and each chosen
member's picture is known. -/
def Part.pairDue (p : Part) (t k : Nat) : Bool :=
  p.live && p.on (F.ITK_SET_CTRL_EN k) &&
    (match p.pairReady t k, (p.aset k).refs with
      | some ms, (seq, _) :: _ =>
        ms.all (fun c => match c with
          | some c => p.memberKnown (p.img.setStream k c.member) c.seq
          | none => true) &&
        (p.img.setPipes k).all (fun i => (p.prnPipe i).latches.all (fun e => e.frameSeq != seq))
      | _, _ => false)

/-- A member of a pair as its job carries it; GEN is 0 for CODEC 0 (R390). -/
def Part.pairMember (p : Part) (k i : Nat) (c : Option Candidate) : Member :=
  let s := p.img.setStream k i
  match c with
  | some c => { stream := s, frameSeq := c.seq, gen := ((p.picOf s c.seq).map (·.gen)).getD 0, missing := false }
  | none => { stream := s, frameSeq := 0, gen := 0, missing := true }

/-- A member gives no command: it is missing, its picture is dark (R225), or decode started none for its frame. -/
def Part.memberDark (p : Part) (m : Member) : Bool :=
  m.missing || (p.img.decoded m.stream && (match p.picOf m.stream m.frameSeq with
    | some x => x.dark
    | none => true))

/-- One pipeline receives the pair of reference frame `seq`, with the list that latched for it; it skips a frame that FRAME_DIV leaves
out, and one that latched while its plot did not run. -/
def Part.pairTo (p : Part) (t k seq ts : Nat) (ms : List Member) (i : Nat) : Part :=
  let done := fun (q : Part) => ms.foldl (fun (q : Part) m => if m.missing then q else q.doneWith i m.stream m.gen) q
  match (p.prnPipe i).snaps.find? (fun e => e.1 == seq) with
  | none => done p
  | some e =>
    let q := p.modPrnPipe i (fun u => { u with snaps := u.snaps.filter (fun x => x.1 != seq) })
    let crops := e.2.1.map (fun c => match ms[c.member]? with
      | some m => if p.memberDark m then { c with w := 0 } else c
      | none => c)
    if ms.all p.memberDark then done q
    else if p.dormant i then done (q.skipCount (p.img.pipePlot i))
    else q.issueJob t (q.mkJob i k (p.img.setRef k) ts ms false) crops e.2.2

/-- A live job of the pipeline names a picture. -/
def Part.jobNames (p : Part) (i s gen : Nat) : Bool :=
  p.jobs.jobs.any (fun j => j.pipe == i && j.members.any (fun m => !m.missing && m.stream == s && m.gen == gen))

/-- The set's pipelines skip every member picture that no later reference frame can reach (R191, R224). -/
def Part.pairPast (p : Part) (k ts : Nat) : Part :=
  let r := p.img
  p.each (r.setPipes k) (fun q i =>
    q.each ((List.range (r.setMembers k)).filter (fun m => m != r.setRef k && r.decoded (r.setStream k m))) (fun q m =>
      let s := r.setStream k m
      (q.dec s).pics.foldl (fun (q : Part) x =>
        if decide (x.ts + r.setWindow k < ts) && !q.jobNames i s x.gen then q.doneWith i s x.gen else q) q))

/-- The set decides the pair of its oldest reference frame (R193). -/
def Part.pairDecide (p : Part) (t k : Nat) : Part :=
  match p.pairReady t k, (p.aset k).refs with
  | some ms, (seq, ts) :: rest =>
    let r := p.img
    let partial_ := ms.any (·.isNone)
    let delivered := !partial_ || r.setUnpaired k == 1
    let chosen := fun (c : Candidate) => ms.any (fun x => match x with
      | some y => y.member == c.member && y.seq == c.seq
      | none => false)
    let u := p.aset k
    let q := p.setAset k { cands := u.cands.map (fun c => { c with used := c.used || (delivered && chosen c) }), refs := rest }
    let q := q.put (F.ITK_SET_LAST_SEQ_SEQ k) seq
    let members := ms.mapIdx (fun i c => q.pairMember k i c)
    let q := if delivered then
        (q.add (if partial_ then F.ITK_SET_PARTIAL_COUNT k else F.ITK_SET_PAIRED_COUNT k) 1).each (r.setPipes k)
          (fun q i => q.pairTo t k seq ts members i)
      else
        let refs := members.filter (fun m => !m.missing && m.stream == r.setStream k (r.setRef k))
        (q.add (F.ITK_SET_DROPPED_COUNT k) 1).each (r.setPipes k) (fun q i =>
          let q := q.modPrnPipe i (fun u => { u with snaps := u.snaps.filter (fun x => x.1 != seq) })
          refs.foldl (fun (q : Part) m => q.doneWith i m.stream m.gen) q)
    q.pairPast k ts
  | _, _ => p

end Sys2Proof.Machine
end

