-- ==== Sys2Proof/Machine/ResetPins.lean ====
section
/-! DEFINITION. The reset pins PORST_N and RESET_N (21_power_reset R607, R608, R610, R612; 03_clocks_sundial R43; 05_boot_hardening
R105). -/

namespace Sys2Proof.Machine

/-- What a power-on reset leaves (R607, R610): NOR flash and what is outside the Frexia; every other part returns to its initial
value. What has already left the Frexia stays in the log of its outputs. -/
def Part.porAssert (p : Part) : Part :=
  { Part.init with
    nor := p.nor, out := p.out, free := p.free,
    pins := { Pins.init with
      resetN := p.pins.resetN, gpioIn := p.pins.gpioIn, refclk := p.pins.refclk, aonRunning := p.pins.aonRunning } }

/-- PORST_N can be released: it is low, and REFCLK runs so that the PLLs lock (R105 step 1). -/
def Part.porReleasable (p : Part) : Bool := p.boot.phase == .porHeld && p.pins.refclk

/-- Release of PORST_N: step 1 reads the fuses; with RESET_N high the boot goes on at step 3, with BOOT code 0. -/
def Part.porRelease (p : Part) (t : Nat) (env : BootEnv) : Part :=
  let q := (p.modPins (fun u => { u with porst := true })).setReg R.KEY_FUSES (Config.fuses.setWidth 32)
  if q.pins.resetN then q.bootFrom t 0 env else q.modBoot (fun b => { b with phase := .resetHeld })

/-- RESET_N can be asserted: PORST_N is high and RESET_N is high. -/
def Part.resetAssertable (p : Part) : Bool := p.boot.phase != .porHeld && p.pins.resetN

/-- RESET_N goes low: everything that the survival table does not keep returns to Reset (R607, R610, R612). -/
def Part.resetAssert (p : Part) (t : Nat) : Part :=
  (p.resetTo t false .resetHeld).modPins (fun u => { u with resetN := false })

/-- RESET_N can be released: it is low, PORST_N is high, and REFCLK runs. -/
def Part.resetReleasable (p : Part) : Bool := p.boot.phase == .resetHeld && p.pins.refclk

/-- Release of RESET_N: the PLLs have locked again, the Sundial returns to SRC 0 (R43), and the boot goes on at step 3 with BOOT
code 1. -/
def Part.resetRelease (p : Part) (t : Nat) (env : BootEnv) : Part :=
  let q := (p.modPins (fun u => { u with resetN := true, refLost := false })).put F.SDL_STATUS_SRC 0
  q.bootFrom t (if q.get F.PWR_RESET_CAUSE_LAST = 0 then 0 else 1) env

/-- Quiesce step 3 can end: step 2 has ended (R121). -/
def Part.flushEnds (p : Part) : Bool := p.on F.SHD_BOOT_STATE_REPLANT_PENDING && p.boot.drained

/-- A staging session with no command for 60 s (R118). -/
def Part.sessionOld (p : Part) (t : Nat) : Bool :=
  p.shedUp && (match p.boot.session with
    | some s => decide (s.lastAt + 60000000000 ≤ t)
    | none => false)

/-- The session closes; the next command receives RESULT 6 (R118). -/
def Part.sessionClose (p : Part) : Part :=
  (p.modBoot (fun b => { b with session := none, timedOut := true })).clr F.SHD_BOOT_STATE_STAGING

/-- The host can write the mailbox: the endpoint's link is up (R34, R105 step 2). -/
def Part.hostUp (p : Part) : Bool := p.on F.PEP_LINK_UP

/-- The window's last tick has passed (R124). -/
def Part.windowOver (p : Part) : Bool := p.live && p.boot.windowOpen && p.boot.windowTicks == 0

end Sys2Proof.Machine
end

