-- ==== Sys2Proof/Machine/Syscalls.lean ====
section
/-! DEFINITION. The system calls of a Runner (R584) but EXIT and WAIT, and the trap of a Runner (R583). -/

namespace Sys2Proof.Machine

/-- Core `c` runs a Runner's activation that no detected fault stops: it can make a system call. -/
def Part.calls (p : Part) (c : Nat) : Bool :=
  decide (c < 8) && match p.core c with
    | some a => a.runner != 63 && !p.jobs.faults.any (fun f => f.hits a.cmd)
    | none => false

/-- A call returns `a0` and `a1` to the activation on core `c` (R584): a negative `a0` is an error. -/
def Part.ret (p : Part) (c : Nat) (a0 : Int) (a1 : Nat) : Part :=
  match p.core c with
  | some a => p.emit (.syscall a.runner (twos 64 a0) a1)
  | none => p

/-- The plot that calls from core `c`. -/
def Part.caller (p : Part) (c : Nat) : Nat := ((p.core c).map (·.cmd.plot)).getD 0

/-- A buffer of `n` bytes at `a` lies wholly in the calling plot's window (R584). -/
def Part.inWindow (p : Part) (c a n : Nat) : Bool := decide (a + n ≤ p.img.window (p.caller c))

/-- JOB_INPUT (R390). -/
def Part.callJobInput (p : Part) (c buf : Nat) : Part :=
  match ((p.core c).bind (·.cmd.job)).bind p.job? with
  | none => p.ret c (-5) 0
  | some j =>
    if p.inWindow c buf 64 then (p.store (winBase (p.caller c) + buf) (p.jobInput j)).ret c 0 0 else p.ret c (-2) 0

/-- Harvest accepts a submitted record (R486): DETECT, TRACK, or an EVENT with SOURCE 0, and not of a culled picture (R219). -/
def Part.submitOk (p : Part) (c : Nat) (l : List Byte) : Bool :=
  let ty := (l.getD 0 0).toNat
  let culled := match (p.core c).bind (·.cmd.job) with
    | some h => p.jobCulled h
    | none => false
  (ty == 1 || ty == 2 || (ty == 3 && l.getD 0x1E 0 == 0)) && !culled

/-- One submitted record is formed: bytes 0x00 to 0x1D are Harvest's, but TYPE and FLAGS bits 3 and 4 (R486). -/
def Part.submitOne (p : Part) (t c : Nat) (l : List Byte) : Part :=
  let k := p.caller c
  let ty := (l.getD 0 0).toNat
  let flags := (l.getD 0x10 0).toNat / 8 % 4 * 8
  let body := l.drop 0x1E
  let q := match (p.core c).bind (·.cmd.job) with
    | some h => p.jobRecord t ty h flags body
    | none => p.form t k (JobCtx.none t) (fun seq => recHead ty k seq (p.noTime + flags) (JobCtx.none t) ++ body)
  if ty = 3 then q.noteEvent k (leNat ((l.drop 0x20).take 4)) else q

/-- Submit records in order up to the first that is rejected; the count accepted. -/
def Part.submitAll (t c : Nat) : List (List Byte) → Part → Nat × Part
  | [], p => (0, p)
  | l :: r, p =>
    if p.submitOk c l then
      let x := Part.submitAll t c r (p.submitOne t c l)
      (x.1 + 1, x.2)
    else (0, p)

/-- SUBMIT (R486, R584): where the first record is rejected the call returns the error INVAL. -/
def Part.callSubmit (p : Part) (t c addr n : Nat) : Part :=
  if n = 0 ∨ 63 < n then p.ret c (-1) 0
  else if !p.inWindow c addr (64 * n) then p.ret c (-2) 0
  else
    let recs := (List.range n).map (fun i => p.load (winBase (p.caller c) + addr + 64 * i) 64)
    let x := Part.submitAll t c recs p
    x.2.ret c (if x.1 = 0 then -1 else (x.1 : Int)) 0

/-- STEER (R237, R240): it returns 0 once COPYING clears. -/
def Part.callSteer (p : Part) (c pipe addr count : Nat) : Part :=
  if (p.img.pipeRec pipe).isNone then p.ret c (-1) 0
  else if p.img.pipePlot pipe ≠ p.caller c then p.ret c (-2) 0
  else if p.on (F.PRN_PIPE_COMMIT_STAT_COPYING pipe) then
    (p.set (F.PRN_PIPE_COMMIT_STAT_SUPERSEDED pipe)).modPrnPipe pipe (fun u => { u with
      callers := u.callers ++ [((p.core c).map (·.runner)).getD 63] })
  else if !p.inWindow c addr (16 * count) then p.ret c (-2) 0
  else if p.commitBad pipe addr count then (p.set (F.PRN_PIPE_COMMIT_STAT_REJECT pipe)).ret c (-1) 0
  else
    (p.prnCopy pipe (.list addr count)).modPrnPipe pipe (fun u => { u with
      callers := [((p.core c).map (·.runner)).getD 63] })

/-- STEER_SEQ: LATCHED_SEQ and PENDING. -/
def Part.callSteerSeq (p : Part) (c pipe : Nat) : Part :=
  if (p.img.pipeRec pipe).isNone then p.ret c (-1) 0
  else if p.img.pipePlot pipe ≠ p.caller c then p.ret c (-2) 0
  else p.ret c (p.get (F.PRN_PIPE_LATCHED_SEQ_SEQ pipe)) (p.get (F.PRN_PIPE_COMMIT_STAT_PENDING pipe))

/-- A call about a model: INVAL where the image has none of that ID, PERM where another plot owns it. -/
def Part.modelCall (p : Part) (c m : Nat) (f : Int × Part) : Part :=
  if (p.img.modelRec m).isNone then p.ret c (-1) 0
  else if p.img.modelPlot m ≠ p.caller c then p.ret c (-2) 0
  else f.2.ret c f.1 0

/-- MODEL_STATE (R364). -/
def Part.callModelState (p : Part) (c m : Nat) : Part :=
  if (p.img.modelRec m).isNone then p.ret c (-1) 0
  else if p.img.modelPlot m ≠ p.caller c then p.ret c (-2) 0
  else p.ret c (p.model m).state (p.model m).cause

/-- TIME: the Sundial's nanoseconds and SDL_STATUS bits 2:0. -/
def Part.callTime (p : Part) (t c : Nat) : Part :=
  match p.core c with
  | some a => p.emit (.syscall a.runner t ((p.reg R.SDL_STATUS).toNat % 8))
  | none => p

/-- A trapping instruction ends the Runner with a RUNNER job fault and its sub-cause (R583). -/
def Part.runnerTrap (p : Part) (c sub : Nat) : Part :=
  match p.core c with
  | some a => (p.put (F.APC_RUN_STAT_SUB a.runner) sub).actFault c 12
  | none => p

end Sys2Proof.Machine
end

