-- ==== Sys2Proof/Machine/Threads.lean ====
section
/-! DEFINITION. A bed thread's instructions (R263 to R290, R294): scalar, vector and Tilth, through one issue path. -/

namespace Sys2Proof.Machine

/-- A thread at issue: bed, thread, plot, aperture and command sequence number, the Sundial, and whether the data its
instruction waited for has returned. -/
structure Th where
  b : Nat
  th : Nat
  k : Nat
  aper : Nat
  seq : Nat
  now : Nat
  back : Bool

/-- How an instruction ends: with the thread's next state; waiting for data from an address outside the own store; or in a
fault, with its cause, the address and whether it was a write. -/
inductive Issue where
  | done (p : Part) (u : Thread)
  | data (addr : Nat)
  | fault (p : Part) (cause addr : Nat) (write : Bool)

/-- The initiator that a bed thread is. -/
def Th.who (x : Th) : Who := { kind := .bed, plot := Fin.ofNat 9 x.k }
/-- A thread's context ID (R400). -/
def Th.ctx (x : Th) : Nat := x.b * 2 ^ 24 + x.th * 2 ^ 18 + x.seq % 2 ^ 18
/-- `n` bytes at `a` lie in the thread's own bed store (R266). -/
def Th.own (x : Th) (a n : Nat) : Bool := decide (ownBase x.b ≤ a) && decide (a + n ≤ ownBase x.b + 0x180000)
/-- An address of the register window (R267). -/
def inPages (a : Nat) : Bool := decide (0x90000000 ≤ a) && decide (a < 0x90160000)

/-! Memory accesses. -/

/-- Bytes that a thread reads; a fault's cause and address where it may not (R36, R292, R375). -/
def Part.thRead (p : Part) (x : Th) (a n : Nat) : Except (Nat × Nat) (List Byte) :=
  match p.threadKeys x.k x.aper a n with
  | none => .error (3, a)
  | some ks => if ks.any (p.lockedKey x.k) then .error (3, a) else .ok (p.loadKeys ks)

/-- Store bytes for a thread (R36, R292). -/
def Part.thWrite (p : Part) (x : Th) (a : Nat) (l : List Byte) : Except (Nat × Nat) Part :=
  match p.threadKeys x.k x.aper a l.length with
  | none => .error (3, a)
  | some ks => .ok (p.storeAt ks l)

/-- An aligned element read or written by a thread: misaligned is MISALIGNED, the register window ACCESS (R267, R268). -/
def elemBad (a n : Nat) : Option (Nat × Nat) :=
  if inPages a then some (3, a) else if a % n ≠ 0 then some (2, a) else none

/-- A load of `n` bytes into rd (R266, R267). -/
def Part.thLoad (p : Part) (x : Th) (u : Thread) (rd a n : Nat) (signed : Bool) : Issue :=
  if inPages a then
    if n ≠ 4 ∨ a % 4 ≠ 0 then .fault p 3 a false
    else
      let v := (threadAddr x.aper a).getD 0
      match p.hit x.who v 4 false with
      | .reg r =>
        if x.back then
          let y := p.regLoad x.now x.who (copyOf r)
          .done y.2 (setX u rd y.1)
        else .data a
      | .reserved => if x.back then .done p (setX u rd 0) else .data a
      | _ => .fault p 3 a false
  else match elemBad a n with
    | some e => .fault p e.1 e.2 false
    | none => match p.thRead x a n with
      | .error e => .fault p e.1 e.2 false
      | .ok l => if x.own a n || x.back then .done p (setX u rd (loadValue n signed l)) else .data a

/-- A store of bytes (R266, R267). -/
def Part.thStore (p : Part) (x : Th) (u : Thread) (a : Nat) (l : List Byte) : Issue :=
  if inPages a then
    if l.length ≠ 4 ∨ a % 4 ≠ 0 then .fault p 3 a true
    else
      let v := (threadAddr x.aper a).getD 0
      match p.hit x.who v 4 true with
      | .reg r => .done (if copyOf r = r then p.regStore x.now x.who x.ctx r (BitVec.ofNat 32 (leNat l)) else p) u
      | .reserved => .done p u
      | _ => .fault p 3 a true
  else match elemBad a l.length with
    | some e => .fault p e.1 e.2 true
    | none => match p.thWrite x a l with
      | .error e => .fault p e.1 e.2 true
      | .ok q => .done q u

/-! CSRs (R270). -/

/-- The value of a CSR; none where the access is ILLEGAL. The cycle count is a free value. -/
def Part.csr (p : Part) (x : Th) (u : Thread) (n : Nat) : Option (Word × Part) :=
  let w := fun (v : Nat) => some (BitVec.ofNat 32 v, p)
  match n with
  | 0x008 => w 0
  | 0x009 => w (if u.vxsat then 1 else 0)
  | 0x00A => w u.vxrm
  | 0x00F => w (2 * u.vxrm + if u.vxsat then 1 else 0)
  | 0xC20 => w u.vl
  | 0xC21 => w u.vtype
  | 0xC22 => w 128
  | 0xC00 => some (BitVec.setWidth 32 p.fresh.1, p.fresh.2)
  | 0xC80 => some (BitVec.setWidth 32 p.fresh.1, p.fresh.2)
  | 0xC02 => w u.instret
  | 0xC82 => w (u.instret / 2 ^ 32)
  | 0xCC0 => w x.th
  | 0xCC1 => w x.b
  | 0xCC2 => w x.k
  | 0xCC3 => w x.seq
  | _ => none

/-- A CSR instruction: a write is ILLEGAL. -/
def Part.csrOp (p : Part) (x : Th) (u : Thread) (w : Nat) : Issue :=
  if (iF3 w = 2 ∨ iF3 w = 3 ∨ iF3 w = 6 ∨ iF3 w = 7) ∧ iRs1 w = 0 then
    match p.csr x u (ib w 31 20) with
    | some y => .done y.2 (setX u (iRd w) y.1)
    | none => .fault p 1 0 false
  else .fault p 1 0 false

/-! Scalar instructions. -/

/-- A scalar instruction of RV32IM and Zicsr (R268). The pc of a `done` thread is already the next one. -/
def Part.scalar (p : Part) (x : Th) (u : Thread) (w len : Nat) : Issue :=
  let a := xReg u (iRs1 w)
  let b := xReg u (iRs2 w)
  let after : Word := u.pc + BitVec.ofNat 32 len
  let v := { u with pc := after }
  let rd := iRd w
  let illegal := Issue.fault p 1 0 false
  match w % 128 with
  | 0x37 => .done p (setX v rd (BitVec.ofInt 32 (immU w)))
  | 0x17 => .done p (setX v rd (u.pc + BitVec.ofInt 32 (immU w)))
  | 0x6F => .done p { setX u rd after with pc := u.pc + BitVec.ofInt 32 (immJ w) }
  | 0x67 => if iF3 w = 0 then
      .done p { setX u rd after with pc := (a + BitVec.ofInt 32 (immI w)) &&& 0xFFFFFFFE } else illegal
  | 0x63 => match branchTaken (iF3 w) a b with
    | none => illegal
    | some taken => .done p (if taken then { u with pc := u.pc + BitVec.ofInt 32 (immB w) } else v)
  | 0x13 =>
    let f := iF3 w
    let sh := f = 1 ∨ f = 5
    if sh ∧ iF7 w ≠ 0 ∧ ¬(f = 5 ∧ iF7 w = 0x20) then illegal
    else .done p (setX v rd (aluOp f (f == 5 && iF7 w == 0x20) a (if sh then BitVec.ofNat 32 (iRs2 w)
      else BitVec.ofInt 32 (immI w))))
  | 0x33 =>
    if iF7 w = 1 then .done p (setX v rd (mulDiv (iF3 w) a b))
    else if iF7 w = 0 ∨ (iF7 w = 0x20 ∧ (iF3 w = 0 ∨ iF3 w = 5)) then
      .done p (setX v rd (aluOp (iF3 w) (iF7 w == 0x20) a b))
    else illegal
  | 0x0F => if iF3 w = 0 then .done p v else illegal
  | 0x73 => p.csrOp x v w
  | 0x03 => match loadForm (iF3 w) with
    | none => illegal
    | some f => p.thLoad x v rd (a + BitVec.ofInt 32 (immI w)).toNat f.1 f.2
  | 0x23 => if iF3 w ≤ 2 then p.thStore x v (a + BitVec.ofInt 32 (immS w)).toNat (toLe (2 ^ iF3 w) b.toNat) else illegal
  | _ => illegal

/-! Vector loads and stores. -/

/-- A vector memory instruction: fields, element width, EMUL x 8, the elements' addresses, and its masking and tail. -/
structure VPlan where
  nf : Nat
  e : Nat
  m : Nat
  addrs : List Nat
  masked : Bool
  ta : Bool
  ma : Bool
  fof : Bool

/-- EEW of a width field; none for floating point and for EEW 64 (ELEN 32). -/
def vWidth : Nat → Option Nat
  | 0 => some 8 | 5 => some 16 | 6 => some 32 | _ => none

/-- Whole-register loads and stores, which do not depend on vtype. -/
def vWhole (w e : Nat) (base : Nat) (store : Bool) : Option VPlan :=
  let n := ib w 31 29 + 1
  if ib w 25 25 = 1 ∧ (n = 1 ∨ n = 2 ∨ n = 4 ∨ n = 8) ∧ iRd w % n = 0 ∧ (!store ∨ e = 8) then
    some { nf := 1, e := e, m := 8 * n, addrs := (List.range (n * 1024 / e)).map (fun i => (base + i * (e / 8)) % 2 ^ 32),
           masked := false, ta := false, ma := false, fof := false }
  else none

/-- The register groups of a vector memory instruction are legal: EMUL, NFIELDS, alignment, and v0 while it is the mask. -/
def VPlan.ok (q : VPlan) (vd : Nat) : Bool :=
  decide (1 ≤ q.m ∧ q.m ≤ 64) && decide (q.nf * regsIn q.m ≤ 8) && vd % regsIn q.m == 0 &&
    decide (vd + q.nf * regsIn q.m ≤ 32) && (!q.masked || vd != 0)

/-- The plan of a vector load or store; none where it is ILLEGAL. -/
def vPlan (u : Thread) (w : Nat) (store : Bool) : Option VPlan :=
  match vWidth (iF3 w), ib w 28 28 with
  | some e, 0 =>
    let base := (xReg u (iRs1 w)).toNat
    let nf := ib w 31 29 + 1
    if ib w 27 26 = 0 ∧ iRs2 w = 8 then vWhole w e base store
    else match u.cfg w 0 with
      | none => none
      | some c =>
        let n := e / 8
        let mk : Nat → Nat → List Nat → VPlan := fun e' m l =>
          { nf := nf, e := e', m := m, addrs := l, masked := !c.vm, ta := c.ta, ma := c.ma, fof := false }
        let chk := fun (q : VPlan) => if q.ok (iRd w) then some q else none
        let els := List.range c.vl
        let whole := e * c.l8 % c.sew = 0
        match ib w 27 26 with
        | 0 =>
          let unit := mk e (e * c.l8 / c.sew) (els.map (fun i => (base + i * nf * n) % 2 ^ 32))
          if iRs2 w = 0 then (if whole then chk unit else none)
          else if iRs2 w = 0x0B then
            if e = 8 ∧ nf = 1 ∧ c.vm then
              chk { mk 8 8 ((List.range ((c.vl + 7) / 8)).map (fun i => (base + i) % 2 ^ 32)) with ta := true } else none
          else if iRs2 w = 0x10 ∧ !store then (if whole then chk { unit with fof := true } else none)
          else none
        | 2 =>
          if whole then chk (mk e (e * c.l8 / c.sew) (els.map (fun i => (base + i * (xReg u (iRs2 w)).toNat) % 2 ^ 32))) else none
        | _ =>
          let g : VGrp := { r := iRs2 w, e := e, m := e * c.l8 / c.sew }
          let q := mk c.sew c.l8 (els.map (fun i => (base + vElem u.v (iRs2 w) e i) % 2 ^ 32))
          let fields := (List.range nf).map (fun f => ({ r := iRd w + f * regsIn c.l8, e := c.sew, m := c.l8 } : VGrp))
          let apart := fields.all (fun d => if store then c.srcOk [d, g] else
            c.srcOk [g] && (if nf = 1 then d.over g else !d.overlaps g))
          if whole ∧ g.ok ∧ apart then chk q else none
  | _, _ => none

/-- Active accesses of a plan, element by element: element, field and address. -/
def VPlan.accesses (q : VPlan) (v : FMap Byte) : List (Nat × Nat × Nat) :=
  ((List.range q.addrs.length).zip q.addrs).flatMap (fun y =>
    if q.masked && !vBit v 0 y.1 then []
    else (List.range q.nf).map (fun f => (y.1, f, (y.2 + f * (q.e / 8)) % 2 ^ 32)))

/-- The elements a vector load reads, up to the first that faults: (element, field, value), and that fault with its element. -/
def Part.vRead (p : Part) (x : Th) (n : Nat) : List (Nat × Nat × Nat) → List (Nat × Nat × Nat) × Option (Nat × Nat × Nat)
  | [] => ([], none)
  | (i, f, a) :: r =>
    match elemBad a n with
    | some e => ([], some (e.1, e.2, i))
    | none => match p.thRead x a n with
      | .error e => ([], some (e.1, e.2, i))
      | .ok l =>
        let y := p.vRead x n r
        ((i, f, leNat l) :: y.1, y.2)

/-- The first address of a list of accesses that lies outside the own store. -/
def Th.away (x : Th) (n : Nat) (l : List (Nat × Nat × Nat)) : Option Nat := (l.map (·.2.2)).find? (fun a => !x.own a n)

/-- Write what a vector load read to its register groups, field by field; element `i` of field `f` is `val f i`. -/
def VPlan.write (q : VPlan) (v : FMap Byte) (vd free : Nat) (val : Nat → Nat → Nat) : FMap Byte :=
  (List.range q.nf).foldl (fun o f =>
    let c : VCfg := { sew := q.e, l8 := q.m, vl := q.addrs.length, ta := q.ta, ma := q.ma, vm := true, free := free + 1024 * f }
    let c := { c with vm := !q.masked }
    let d : VGrp := { r := vd + f * regsIn q.m, e := q.e, m := q.m }
    let old := o
    if c.vl = 0 then o
    else (List.range (regsIn d.m * 1024 / d.e)).foldl (fun o i =>
      if i < c.vl then
        if c.vm || vBit v 0 i then vSet o d.r d.e i (val f i)
        else if c.ma && c.ones i then vSet o d.r d.e i (2 ^ d.e - 1) else o
      else if c.ta && c.ones i then vSet o d.r d.e i (2 ^ d.e - 1) else o) old) v

/-- A vector load. Fault-only-first trims vl at a fault past element 0, and may trim it earlier, which the V extension leaves
open: where it trims, and what the elements past it hold, are free values. -/
def Part.vLoad (p : Part) (x : Th) (u : Thread) (w : Nat) : Issue :=
  match vPlan u w false with
  | none => .fault p 1 0 false
  | some q =>
    let n := q.e / 8
    let acc := q.accesses u.v
    let r := p.vRead x n acc
    let look := fun (f i : Nat) => ((r.1.find? (fun y => y.1 == i && y.2.1 == f)).map (·.2.2)).getD 0
    let go := fun (vl : Nat) (val : Nat → Nat → Nat) =>
      Issue.done { p with free := p.free + 16384 } { u with v := q.write u.v (iRd w) p.free val, vl := vl }
    match r.2 with
    | some (cause, addr, i) =>
      if q.fof ∧ 0 < i then
        if (x.away n (acc.takeWhile (fun y => decide (y.1 < i)))).isSome ∧ !x.back then
          .data ((x.away n acc).getD 0)
        else
          let vl := 1 + (Config.freeValue (p.free + 16383)).toNat % i
          go vl (fun f j => if j < vl then look f j else (Config.freeValue (p.free + 8192 + 1024 * f + j)).toNat % 2 ^ q.e)
      else .fault p cause addr false
    | none =>
      match x.away n acc, x.back with
      | some a, false => .data a
      | _, _ =>
        if q.fof ∧ 0 < u.vl then
          let vl := 1 + (Config.freeValue (p.free + 16383)).toNat % u.vl
          go vl (fun f j => if j < vl then look f j else (Config.freeValue (p.free + 8192 + 1024 * f + j)).toNat % 2 ^ q.e)
        else go u.vl look

/-- Store elements in order up to the first that faults; those before it stand (R294). -/
def Part.vWriteAll (x : Th) (n : Nat) (val : Nat → Nat → Nat) : List (Nat × Nat × Nat) → Part → Part × Option (Nat × Nat)
  | [], p => (p, none)
  | (i, f, a) :: r, p =>
    match elemBad a n with
    | some e => (p, some e)
    | none => match p.thWrite x a (toLe n (val f i)) with
      | .error e => (p, some e)
      | .ok q => Part.vWriteAll x n val r q

/-- A vector store. -/
def Part.vStore (p : Part) (x : Th) (u : Thread) (w : Nat) : Issue :=
  match vPlan u w true with
  | none => .fault p 1 0 false
  | some q =>
    let r := Part.vWriteAll x (q.e / 8) (fun f i => vElem u.v (iRd w + f * regsIn q.m) q.e i) (q.accesses u.v) p
    match r.2 with
    | some e => .fault r.1 e.1 e.2 true
    | none => .done r.1 u

/-- An OP-V instruction (R268). -/
def Part.vector (p : Part) (u : Thread) (w : Nat) : Issue :=
  if iF3 w = 7 then
    match vSetVl u w (xReg u (iRs1 w)) (xReg u (iRs2 w)) with
    | none => .fault p 1 0 false
    | some r => .done p (setX { u with vl := r.1, vtype := r.2 } (iRd w) (BitVec.ofNat 32 r.1))
  else match vArith u w p.free (xReg u (iRs1 w)) with
    | none => .fault p 1 0 false
    | some r =>
      let v := { u with v := r.1, vxsat := u.vxsat || r.2.1 }
      .done { p with free := p.free + 1024 } (match r.2.2 with
        | some n => setX v (iRd w) (BitVec.ofNat 32 n)
        | none => v)

/-! Tilth instructions (R279, R280). -/

/-- A descriptor with its segment marks, as a thread reads it (R276). -/
def Part.thAgd (p : Part) (x : Th) (a : Nat) : Except (Nat × Nat) (Agd × List (Nat × Nat)) :=
  match p.thRead x a 64 with
  | .error e => .error e
  | .ok l =>
    match readAgd l with
    | none => .error (6, 0)
    | some g =>
      if a % 64 ≠ 0 then .error (6, 0)
      else if !g.segEn then .ok (g, [])
      else (p.thRead x g.segtab (4 * g.segn)).map (fun s => (g, readSegs s g.segn))

/-- A walk's accesses for elements 0 to `n` - 1: (element, 0, address), padding left out. -/
def Agd.accesses (g : Agd) (segs : List (Nat × Nat)) (n : Nat) : List (Nat × Nat × Nat) :=
  (List.range n).filterMap (fun i => (g.place segs i).map (fun y => (i, 0, y.1)))

/-- TVLD and TVST: the configuration, descriptor and walk; a fault's cause and address otherwise. -/
def Part.walkOf (p : Part) (x : Th) (u : Thread) (w : Nat) : Except (Nat × Nat) (VCfg × Agd × List (Nat × Nat)) :=
  match u.cfg w p.free with
  | none => .error (1, 0)
  | some c =>
    if !(c.grp (iRd w) 8).ok then .error (1, 0)
    else (p.thAgd x (xReg u (iRs1 w)).toNat).bind (fun y =>
      if y.1.elem = 0 ∨ fmtBits y.1.elem ≠ c.sew ∨ y.1.count < u.vl then .error (6, 0)
      else .ok ({ c with vm := true }, y.1, y.2))

/-- TVLD (R280). -/
def Part.tvld (p : Part) (x : Th) (u : Thread) (w : Nat) : Issue :=
  let agd := (xReg u (iRs1 w)).toNat
  match p.walkOf x u w with
  | .error e => .fault p e.1 e.2 false
  | .ok (c, g, segs) =>
    let n := c.sew / 8
    let acc := g.accesses segs u.vl
    let r := p.vRead x n acc
    match r.2 with
    | some (cause, addr, _) => .fault p cause addr false
    | none =>
      let away := if x.own agd 64 ∧ (!g.segEn ∨ x.own g.segtab (4 * g.segn)) then x.away n acc else some agd
      match away, x.back with
      | some a, false => .data a
      | _, _ => .done { p with free := p.free + 1024 } { u with
          v := c.write u.v (c.grp (iRd w) 8) (fun i =>
            ((r.1.find? (fun y => y.1 == i)).map (·.2.2)).getD (g.padval % 2 ^ c.sew)) }

/-- TVST (R280): padding positions are not written. -/
def Part.tvst (p : Part) (x : Th) (u : Thread) (w : Nat) : Issue :=
  let agd := (xReg u (iRs1 w)).toNat
  match p.walkOf x u w with
  | .error e => .fault p e.1 e.2 false
  | .ok (c, g, segs) =>
    if !(x.own agd 64 && (!g.segEn || x.own g.segtab (4 * g.segn))) && !x.back then .data agd
    else
      let r := Part.vWriteAll x (c.sew / 8) (fun _ i => vElem u.v (iRd w) c.sew i) (g.accesses segs u.vl) p
      match r.2 with
      | some e => .fault r.1 e.1 e.2 true
      | none => .done r.1 u

/-- TPUT (R283): the copy goes from the own store to a bed store of the plot. -/
def Part.tput (p : Part) (x : Th) (u : Thread) (w : Nat) : Issue :=
  let a := (xReg u (iRs1 w)).toNat
  match p.thRead x a 16 with
  | .error e => .fault p e.1 e.2 false
  | .ok l =>
    let le := fun o => leNat ((l.drop o).take 4)
    let src := le 0
    let dst := le 4
    let len := le 8
    let inOwn := decide (ownBase x.b ≤ src ∧ src + len ≤ ownBase x.b + 0x180000)
    let inBed := decide (0x80000000 ≤ dst ∧ dst + len ≤ 0x88000000)
    if !x.own a 16 ∨ le 12 ≠ 0 ∨ len % 64 ≠ 0 ∨ 65536 < len ∨ !inOwn ∨ !inBed then .fault p 6 0 false
    else if (p.thRead x src len).toOption.isNone then .fault p 3 src false
    else if (p.threadKeys x.k x.aper dst len).isNone then .fault p 3 dst true
    else
      let c : Tput :=
        { thread := x.th, src := 0x1000000000 + (src - 0x80000000), dst := 0x1000000000 + (dst - 0x80000000), len := len }
      .done (p.modBed x.b (fun d => { d with tputs := d.tputs ++ [c] }))
        (setX { u with tputs := (u.tputs + 1) % 65536 } (iRd w) (BitVec.ofNat 32 u.tputs))

/-- TBAR (R289): the last arrival frees every thread that waits at the barrier. -/
def Part.tbar (p : Part) (x : Th) (u : Thread) (v : Nat) : Issue :=
  let n := v / 256 % 128
  let i := v % 8
  if v ≠ n * 256 + i ∨ n = 0 ∨ 64 < n then .fault p 6 0 false
  else
    let r := FMap.get Barrier.init (p.bed x.b).barriers i
    let put := fun (q : Part) (r : Barrier) => q.modBed x.b (fun d => { d with barriers := FMap.put Barrier.init d.barriers i r })
    if r.arrived ≠ [] ∧ r.count ≠ n then .fault p 7 0 false
    else if n ≤ r.arrived.length + 1 then
      .done ((put p (Barrier.init i)).each r.arrived (fun q t => q.modThread x.b t (fun y => { y with wait := .ready }))) u
    else .done (put p { count := n, arrived := r.arrived ++ [x.th] }) { u with wait := .tbar i }

/-- An engine operation enters the queue; with 16 entries in it the thread waits (R271). -/
def Part.enqueue (p : Part) (x : Th) (u v : Thread) (acc : Nat) (kind : EngKind) : Issue :=
  if 16 ≤ (p.bed x.b).queue.length then .done p { u with wait := .engine }
  else
    let o : EngOp := { thread := x.th, pc := u.pc, tcfg := u.tcfg, acc := acc, kind := kind }
    .done (p.modBed x.b (fun d => { d with queue := d.queue ++ [o] })) v

/-- A Tilth instruction (R279, R280); an undefined encoding is ILLEGAL. -/
def Part.tilth (p : Part) (x : Th) (u : Thread) (w : Nat) : Issue :=
  let v := { u with pc := u.pc + 4 }
  let a := xReg u (iRs1 w)
  let b := xReg u (iRs2 w)
  let illegal := Issue.fault p 1 0 false
  let r2 := iRs2 w == 0
  let r1 := iRs1 w == 0
  let rd := iRd w
  match iF3 w, iF7 w with
  | 0, 0 => if r2 then .done p { setX v rd u.tcfg with tcfg := a } else illegal
  | 0, 1 => if r2 ∧ r1 ∧ rd < 4 then p.enqueue x u v rd .zero else illegal
  | 0, 2 => if rd < 4 then p.enqueue x u v rd (.mma a.toNat b.toNat) else illegal
  | 0, 3 => if r2 ∧ rd < 4 then p.enqueue x u v rd (.ldacc a.toNat) else illegal
  | 0, 4 => if r2 ∧ rd < 4 then p.enqueue x u v rd (.stacc a.toNat) else illegal
  | 0, 5 => if rd < 4 then p.enqueue x u v rd (.rq a.toNat b.toNat) else illegal
  | 1, 0 => if r1 then .done p (Sys2Proof.Machine.wake (p.bed x.b) x.th { v with wait := .twait rd (iRs2 w) }) else illegal
  | 1, 1 => if r1 ∧ rd = 0 ∧ iRs2 w < 8 then .done p (Sys2Proof.Machine.wake (p.bed x.b) x.th { v with wait := .tfence (iRs2 w) }) else illegal
  | 1, 2 => if r2 ∧ rd = 0 then p.tbar x v a.toNat else illegal
  | 1, 3 => if r2 ∧ r1 ∧ rd = 0 then .done p { v with wait := .exited } else illegal
  | 2, 0 =>
    if !r2 then illegal
    else if 32 ≤ a.toNat then .fault p 6 0 false
    else
      let c := FMap.get (fun _ => 0) (p.bed x.b).bolts (a.toNat % 16)
      let q := if a.toNat < 16 then p else p.modBed x.b (fun d => { d with bolts := FMap.put (fun _ => 0) d.bolts (a.toNat % 16) 0 })
      .done q (setX v rd c)
  | 2, 1 => if r2 then p.tput x v w else illegal
  | 2, 2 => if r2 then p.tvld x v w else illegal
  | 2, 3 => if r2 then p.tvst x v w else illegal
  | _, _ => illegal

/-! The issue path. -/

/-- Carry out an instruction word of a thread: 32 bits, or a C instruction in the low 16. -/
def Part.thRun (p : Part) (x : Th) (u : Thread) (word : Nat) : Issue :=
  let v := { u with pc := u.pc + 4 }
  if word % 4 ≠ 3 then
    match expandC (word % 65536) with
    | none => .fault p 1 0 false
    | some w => p.scalar x u w 2
  else match word % 128 with
    | 0x0B => p.tilth x u word
    | 0x07 => p.vLoad x v word
    | 0x27 => p.vStore x v word
    | 0x57 => p.vector v word
    | _ => p.scalar x u word 4

/-- A thread of a bed that runs a command is ready to issue (R264). -/
def Part.threadReady (p : Part) (b th : Nat) : Bool :=
  p.live && decide (b < 64) && decide (th < 64) && !p.gated b && (match (p.bed b).cmd with
    | some c => c.started
    | none => false) && (p.thread b th).wait == .ready

/-- The thread at issue. -/
def Part.thOf (p : Part) (t b th : Nat) (back : Bool) : Th :=
  let c := (p.bed b).cmd
  { b := b, th := th, k := (c.map (·.cmd.plot)).getD 0, aper := (c.map (·.aper)).getD 0,
    seq := (c.bind (·.cmd.seq)).getD 0, now := t, back := back }

/-- How an instruction's end reaches the bed: a thread that retires counts in instret; a fault stops the bed (R294). -/
def Part.thEnd (p : Part) (x : Th) (u : Thread) (word : Nat) (r : Issue) : Part :=
  match r with
  | .done q v => (q.setThread x.b x.th (if v.wait = .engine then v else { v with instret := u.instret + 1 })).bedStatus x.b
  | .data a => p.setThread x.b x.th { u with wait := .load (BitVec.ofNat 32 word) a }
  | .fault q cause addr write => q.bedFault x.now x.b x.th u.pc cause addr write

/-- A bed thread issues an instruction. -/
def Part.issue (p : Part) (t b th word : Nat) : Part :=
  let x := p.thOf t b th false
  let u := p.thread b th
  p.thEnd x u word (p.thRun x u word)

/-- The thread waits for data. -/
def Part.awaitsData (p : Part) (b th : Nat) : Bool :=
  p.live && decide (b < 64) && decide (th < 64) && match (p.thread b th).wait with
    | .load _ _ => true
    | _ => false

/-- Data returns to a waiting thread (R266): poisoned DRAM data faults with DATA (R294, R458). -/
def Part.loadReturn (p : Part) (t b th : Nat) (poisoned : Bool) : Part :=
  let x := p.thOf t b th true
  let u := p.thread b th
  match u.wait with
  | .load word a =>
    if poisoned && decide (a < 0x80000000) then p.bedFault t b th u.pc 5 a false
    else
      let v := { u with wait := .ready }
      p.thEnd x v word.toNat (p.thRun x v word.toNat)
  | _ => p

end Sys2Proof.Machine
end

