-- ==== Sys2Proof/Machine/Commands.lean ====
section
/-! DEFINITION. When a command can occur, where its unit does not already say so, and the commands that put together operations of
several units. -/

namespace Sys2Proof.Machine

/-! The Sundial. -/

/-- Holdover runs: the Shed runs, and no port is in the SLAVE state (R58, R59). -/
def Part.holdoverRuns (p : Part) : Bool := p.shedUp && !p.on F.SDL_STATUS_LOCKED && !p.anySlave

/-- The last SLAVE port has left that state while LOCKED (R58). -/
def Part.lockGone (p : Part) : Bool := p.shedUp && p.on F.SDL_STATUS_LOCKED && !p.anySlave

/-- An edge of a GPIO ball: its capture, and the wake that it is armed for (R55, R604). -/
def Part.gpioChange (p : Part) (t g : Nat) (rising : Bool) : Part :=
  let q := p.gpioEdge t g rising
  if p.wakeFires t (2 + g) rising then q.wake t (2 + g) rising else q

/-- A port sends PTP event messages. -/
def Part.ptpSends (p : Part) (n : Nat) : Bool := p.shedUp && p.img.ptpRole n != 0 && p.on (F.ETH_STAT_LINK n)

/-! Metering. -/

/-- A whole hour has passed since the last one taken (R567); the Shed forms the record. -/
def Part.hourDue (p : Part) (t : Nat) : Bool := p.shedUp && decide (p.sdl.lastHour < t / 3600000000000)

/-- The 10-second boundary that the newest sample has passed (R557). -/
def Part.tenBoundary (p : Part) (t : Nat) : Part :=
  match p.tenDue with
  | none => p
  | some k => (p.modSdl (fun u => { u with lastTen := k })).tenSeconds t ((k : Int) * 10000000000)

/-- An output sample of the decimators is stamped (R55) and taken. -/
def Part.decimatorSample (p : Part) (t : Nat) (codes : List Int) (filtered : List Nat) : Part :=
  let x := p.captured t
  x.2.sample t x.1 codes filtered

/-! Ethernet. -/

/-- A port receives. -/
def Part.ethHears (p : Part) (n : Nat) : Bool := p.live && p.on (F.ETH_STAT_LINK n)

/-- A received frame with its ingress stamp (R55, R173). -/
def Part.ethFrameIn (p : Part) (t port : Nat) (f : List Byte) (fcsOk full : Bool) : Part :=
  let x := p.captured t
  x.2.ethRx x.1 port f fcsOk full

/-- A link can change: the port is powered, and goes up only with a mode. -/
def Part.linkChanges (p : Part) (n : Nat) (up : Bool) : Bool :=
  p.shedUp && (!up || p.get (F.ETH_CFG_MODE n) != 0)

/-! Decode. -/

/-- A core is free, and a slice is ready (R206). -/
def Part.sliceCan (p : Part) (t c : Nat) : Bool :=
  p.live && (FMap.get (fun _ => none) p.vdc.cores c).isNone && (p.pickSlice t).isSome
/-- A core decodes a slice. -/
def Part.sliceRuns (p : Part) (c : Nat) : Bool := p.live && (FMap.get (fun _ => none) p.vdc.cores c).isSome

/-! Beds. -/

/-- A bed has taken a command and not started its threads. -/
def Part.bedAwaits (p : Part) (b : Nat) : Bool :=
  p.live && (match (p.bed b).cmd with
    | some c => !c.started
    | none => false) && !p.on (F.BED_STATUS_RESETTING b) && !p.gated b

/-- The word of a Tilth instruction (R279). -/
def tilthWord (f7 rs2 rs1 f3 rd : Nat) : Nat := mkR f7 rs2 rs1 f3 rd 0x0B

/-- A tracker command runs on a bed or a core (R589). -/
def Part.trackerHere (p : Part) (onBed : Bool) (n : Nat) : Bool :=
  if onBed then match (p.bed n).cmd with
    | some c => c.started && c.cmd.task == .tracker && (p.bed n).live != 0
    | none => false
  else match p.core n with
    | some a => a.cmd.task == .tracker && !p.jobs.faults.any (fun f => f.hits a.cmd)
    | none => false

/-! Models. -/

/-- Layers load and settle: in boot step 11, and while the plots run. -/
def Part.storing (p : Part) : Bool := (p.boot.phase == .loads || p.boot.phase == .running) && !p.pwr.frozen

/-- A plot's load waits for its data. -/
def Part.readAwaited (p : Part) (k : Nat) : Bool := p.storing && (p.loadq k).cur.isSome && !p.fenced k

/-- A model's copies are being placed, in the state that they end. -/
def Part.placing (p : Part) (m st : Nat) : Bool := (p.model m).state == st && (p.model m).placing

/-- 6 000 ms without a byte of a plot's load (R622). -/
def Part.loadTimedOut (p : Part) (t k : Nat) : Bool :=
  p.readAwaited k && (match (p.loadq k).cur with
    | some x => decide (x.progressAt + 6000000000 ≤ t)
    | none => false)
/-- The load fails with READ, and its commands are retired under new generations (R622, R365). -/
def Part.loadTimeout (p : Part) (t k : Nat) : Part :=
  match (p.loadq k).cur with
  | some x => ((p.addSat F.FLT_TMO_LOAD_COUNT 1).fltEvent 3).loadFail t k 2 x
  | none => p

/-- 200 ms have passed since a plot's fence, and commands of it are outstanding (R637). -/
def Part.fenceOld (p : Part) (t k : Nat) : Bool :=
  (match (p.plot k).fencedAt with
    | some a => decide (a + 200000000 ≤ t)
    | none => false) && p.nvTagged k != 0
/-- They are retired under new generations. -/
def Part.fenceRetire (p : Part) (k : Nat) : Part := p.nvRetireAll (fun c => c.op == 1 && c.plot == k)

/-! The DRAM controller. -/

/-- A write lies in one unit of its plot's DRAM, and the controller runs. -/
def Part.writeFits (p : Part) (w : Writer) (port : Option Nat) (a : Nat) (data : List Byte) : Bool :=
  p.dmcOn && unitSpan a data.length && p.inDram w.plot.val a data.length && (port.all (fun r => decide (r < 19)))
/-- A read's unit lies in its plot's DRAM, and the controller runs. -/
def Part.readFits (p : Part) (r : Reader) (a : Nat) : Bool :=
  p.dmcOn && p.inDram r.plot.val (a / 64 * 64) 64 && (r.port.all (fun x => decide (x < 19)))
/-- A rank is fitted, and the controller runs. -/
def Part.rankRuns (p : Part) (_ch rank : Nat) : Bool := p.dmcOn && decide (rank < p.dmcRanks)
/-- The Weeder's pace has reached its next group (R473). -/
def Part.weedDue (p : Part) (t : Nat) : Bool :=
  p.dmcOn && p.on F.DMC_CTRL_WEED_EN &&
    decide (p.dmc.weedAt + p.get F.DMC_WEED_POS_Q * p.weedNs / max 1 p.dmcGroups ≤ t)
/-- A port's need level, in percent of its buffer, reaches ON, or falls to OFF (R463). -/
def Part.wiltRises (p : Part) (r level : Nat) : Bool :=
  p.dmcOn && !p.on (F.DMC_RT_WILT_ASSERTED r) && decide (p.get (F.DMC_RT_WILT_ON r) ≤ level)
def Part.wiltFalls (p : Part) (r level : Nat) : Bool :=
  p.dmcOn && p.on (F.DMC_RT_WILT_ASSERTED r) && decide (level ≤ p.wiltOff r)

/-! Trellis. -/

/-- A VC of a port has a frame to send and no credit, or awaits RESYNC_ACK, or its port retrains (R528, R541). -/
def Part.vcStalled (p : Part) (k vc : Nat) : Bool :=
  (p.trl.waiting.any (fun f => f.vc == vc && p.routeTo f.dst == k) ||
      (FMap.get (fun _ => none) (p.tport k).sending vc).isSome) &&
    (p.trlState k == 3 || (p.trlState k == 2 && (p.get (creditFld k vc) == 0 || (p.tport k).awaiting)))
/-- The VC has stalled for 5 ms: a retrain in progress goes first (R541). -/
def Part.creditStall (p : Part) (k vc : Nat) : Part :=
  if p.trlState k = 3 then p.modTport k (fun u => { u with resync := some vc }) else p.creditTimeout k vc
/-- A lane loses block lock, and the port retrains (R515). -/
def Part.blockLockLost (p : Part) (k lane : Nat) : Part := (p.clrBit (F.TRL_P_STAT_LOCKED k) lane).trlRetrain k

/-! Calls and pins. -/

/-- A call's answer: its value, after its effect. -/
def callRet (c : Nat) (f : Int × Part) : Part := f.2.ret c f.1 0

/-- The AON oscillator runs (R654). -/
def Part.aonStarts (p : Part) : Part := p.modPins (fun u => { u with aonRunning := true })

end Sys2Proof.Machine
end

