-- ==== Sys2Proof/Machine/State.lean ====
section
/-! DEFINITION. The state of the block, its reset, and why a step can stop. -/

namespace Sys2Proof.Machine

/-- Why a step ends in a fault. -/
inductive Fault where
  /-- The Frexia is outside its recommended operating conditions, where R3, R43, R633 and R685 call its behaviour undefined: after
  THERMTRIP_N, after a JTAG instruction that R685 names, or, for what runs from a PLL, while REFCLK is lost. Raised by every
  command that is not exempt there. Safe: the model stops where the spec promises nothing. -/
  | outsideConditions
  deriving DecidableEq, Repr

/-- Why a step has no meaning. -/
inductive Refusal where
  /-- A command that is not modelled; no command is. Safe. -/
  | notModelled (mnemonic : String)
  deriving DecidableEq, Repr

/-- The state: the Sundial's 96-bit value of count and fraction (R50, R51), everything else that the spec gives the block, and the
commands that wait, first in, first out. -/
structure State where
  sun : BitVec 96
  part : Part
  pending : List Instr
  deriving DecidableEq, Repr

/-- Right after reset: PORST_N is low and every part of the Frexia has its Reset value. -/
def State.reset : State := { sun := 0, part := Part.init, pending := [] }

end Sys2Proof.Machine
end

