-- ==== Sys2Proof/WellFormed.lean ====
section
/-! DEFINITION. Which commands are well-formed: each operand that names a unit, a port, a register field or a code lies in the range
that the spec gives it. A command that is not well-formed names nothing the block has, and does nothing. -/

namespace Sys2Proof

/-- Whether every operand of a command lies in its range. -/
def Instr.wf : Instr → Bool
  | .porstNAssert => true
  | .porstNRelease _ => true
  | .resetNAssert => true
  | .resetNRelease _ => true
  | .pcieEpLinkTrained speed width msi => decide (speed < 8) && decide (width < 16) && decide (msi < 32)
  | .nvmeBringUp _ => true
  | .bootAdmission => true
  | .replantJobDrainEnd => true
  | .replantFlushEnd _ => true
  | .stageBegin tag _ _ => decide (tag < 65536)
  | .stageWrite tag _ _ => decide (tag < 65536)
  | .stageEnd tag _ => decide (tag < 65536)
  | .replant tag => decide (tag < 65536)
  | .rollback tag => decide (tag < 65536)
  | .accept tag _ => decide (tag < 65536)
  | .setTime tag _ _ => decide (tag < 65536)
  | .ledgerRead tag _ => decide (tag < 65536)
  | .stagingSessionTimeout => true
  | .managementTick watts checkins => decide (watts < 65536) && decide (checkins < 64)
  | .hardeningWindowEnd => true
  | .secondBoundary _ _ => true
  | .ppsFall => true
  | .holdoverRateUpdate _ => true
  | .hourBoundary => true
  | .tenSecondBoundary => true
  | .sundialStep _ _ => true
  | .sdlRateWrite _ _ => true
  | .sdlNowLoRead _ => true
  | .sdlTmrCmpLoWrite _ n _ => decide (n < 64)
  | .sdlTmrCmpHiWrite _ n _ => decide (n < 64)
  | .sdlTmrCtrlWrite _ n _ => decide (n < 64)
  | .sdlTmrMissedRead _ n => decide (n < 64)
  | .timerFire n => decide (n < 64)
  | .gpioEdgeCapture g _ => decide (g < 8)
  | .sdlCapInfoRead _ => true
  | .refclkLoss => true
  | .refclkReturn => true
  | .ptpMessageRx n _ _ => decide (n < 2)
  | .servoLockGained => true
  | .servoLockLost => true
  | .slewEnd => true
  | .pltCtrlFallow _ => true
  | .fallowDrainEnd k _ => decide (k < 9)
  | .fallowZeroDone k => decide (k < 9)
  | .csi2FrameStart port vc number _ _ => decide (port < 8) && decide (vc < 4) && decide (number < 65536)
  | .csi2LongPacket port vc dt _ _ _ _ _ => decide (port < 8) && decide (vc < 4) && decide (dt < 64)
  | .csi2FrameEnd port vc number _ _ => decide (port < 8) && decide (vc < 4) && decide (number < 65536)
  | .ethFrameRx port _ _ _ => decide (port < 2)
  | .accessUnitTimeout stream => decide (stream < 128)
  | .entryCommit stream => decide (stream < 128)
  | .contextStall stream => decide (stream < 128)
  | .itkCtxCommit _ stream => decide (stream < 128)
  | .itkCtxRelock _ stream => decide (stream < 128)
  | .itkCtxEnWrite _ stream _ => decide (stream < 128)
  | .rtspSessionSetup stream port udp ip pt => decide (stream < 128) && decide (port < 2) && decide (udp < 65536) && decide (ip < 4294967296) && decide (pt < 128)
  | .pairChoiceFinal k => decide (k < 32)
  | .nalUnitHandoff stream _ => decide (stream < 128)
  | .sliceStart c _ => decide (c < 6)
  | .sliceEnd c _ => decide (c < 6)
  | .prnPipeCommit _ k => decide (k < 64)
  | .steerCopyDone k => decide (k < 64)
  | .prunerLatch k => decide (k < 64)
  | .cropStart e => decide (e < 4)
  | .cropEnd e => decide (e < 4)
  | .drillWaitExpiry plot group => decide (plot < 9) && decide (group < 16)
  | .drillReadyNotice plot group => decide (plot < 9) && decide (group < 16)
  | .drillSlotFree plot group => decide (plot < 9) && decide (group < 16)
  | .bedCommandStart b => decide (b < 64)
  | .bedCommandEnd b => decide (b < 64)
  | .rv32Instruction b th _ => decide (b < 64) && decide (th < 64)
  | .bedLoadReturn b th _ => decide (b < 64) && decide (th < 64)
  | .bedFence b th => decide (b < 64) && decide (th < 64)
  | .tcfg b th _ _ => decide (b < 64) && decide (th < 64)
  | .tzero b th _ => decide (b < 64) && decide (th < 64)
  | .tmma b th _ _ _ => decide (b < 64) && decide (th < 64)
  | .tldacc b th _ _ => decide (b < 64) && decide (th < 64)
  | .tstacc b th _ _ => decide (b < 64) && decide (th < 64)
  | .trq b th _ _ _ => decide (b < 64) && decide (th < 64)
  | .twait b th _ _ => decide (b < 64) && decide (th < 64)
  | .tfence b th _ => decide (b < 64) && decide (th < 64)
  | .tbar b th _ => decide (b < 64) && decide (th < 64)
  | .texit b th => decide (b < 64) && decide (th < 64)
  | .tbolt b th _ _ => decide (b < 64) && decide (th < 64)
  | .tput b th _ _ => decide (b < 64) && decide (th < 64)
  | .tvld b th _ _ => decide (b < 64) && decide (th < 64)
  | .tvst b th _ _ => decide (b < 64) && decide (th < 64)
  | .engineOpDone b => decide (b < 64)
  | .tputComplete b _ => decide (b < 64)
  | .bedCtrlReset _ b => decide (b < 64)
  | .bedResetDone b => decide (b < 64)
  | .dspQHeadWrite _ plot q _ => decide (plot < 9) && decide (q < 8)
  | .commandDispatch kind n => decide (kind < 3) && decide (n < 64)
  | .stripeStart b => decide (b < 64)
  | .commandTimeLimit kind n => decide (kind < 3) && decide (n < 64)
  | .jobTeardown => true
  | .stkTake _ ctx stake => decide (ctx < 4294967296) && decide (stake < 256)
  | .stkRel _ ctx stake => decide (ctx < 4294967296) && decide (stake < 256)
  | .layerReadDone k _ _ => decide (k < 9)
  | .pinnedPlacementSettled _ => true
  | .weightFetchSettled _ => true
  | .graftStagingSettled _ => true
  | .graftLayerSwap _ => true
  | .brwChEnWrite _ c _ => decide (c < 64)
  | .brwChPause _ c _ => decide (c < 64)
  | .brwChDoorbell _ c => decide (c < 64)
  | .brwCtrlPause _ _ => true
  | .brwChLevelAdd _ c _ => decide (c < 64)
  | .brwChTrigWrite _ c _ => decide (c < 64)
  | .startEvent c => decide (c < 64)
  | .ownRereadReturn c => decide (c < 64)
  | .barrowReadReturn c _ => decide (c < 64)
  | .descriptorComplete c => decide (c < 64)
  | .statusWritePerformed c => decide (c < 64)
  | .ownWritePerformed c => decide (c < 64)
  | .descriptorSettled c => decide (c < 64)
  | .channelPaused c => decide (c < 64)
  | .dramWriteAccept _ _ _ _ _ => true
  | .dramReadReturn _ _ _ _ _ => true
  | .refreshDue ch rank _ => decide (ch < 4) && decide (rank < 2)
  | .zqLatch => true
  | .dqsOscUpdate _ => true
  | .weederRead _ => true
  | .wiltRaise r plot level => decide (r < 19) && decide (plot < 9) && decide (level < 101)
  | .wiltDrop r level => decide (r < 19) && decide (level < 101)
  | .dmcNbrKWrite _ k => decide (k < 16)
  | .submit c _ _ => decide (c < 8)
  | .crateWaitExpiry plot => decide (plot < 9)
  | .hvsPWaitWrite _ plot _ => decide (plot < 9)
  | .crateSealed plot => decide (plot < 9)
  | .msiHoldoffExpiry ring => decide (ring < 9)
  | .hrCtrlEn ring _ _ => decide (ring < 9)
  | .hrConsWrite ring _ => decide (ring < 9)
  | .cellarWriteIssue plot => decide (plot < 9)
  | .cellarWriteComplete plot => decide (plot < 9)
  | .replayGo _ plot _ => decide (plot < 9)
  | .replayCrateRead plot _ _ => decide (plot < 9)
  | .trlPEnWrite _ k _ => decide (k < 2)
  | .trlPRetrain _ k => decide (k < 2)
  | .trainingComplete k node ring port order => decide (k < 2) && decide (node < 4) && decide (ring < 8) && decide (port < 2) && decide (order < 4294967296)
  | .trainingTimeout k => decide (k < 2)
  | .downHoldoffExpiry k => decide (k < 2)
  | .flitRx k _ => decide (k < 2)
  | .resendTimerExpiry k => decide (k < 2)
  | .creditTimeout k vc => decide (k < 2) && decide (vc < 3)
  | .credResyncResend k => decide (k < 2)
  | .decimatorSample _ _ => true
  | .holdMinExpiry o => decide (o < 2)
  | .activationStart c => decide (c < 8)
  | .exit c status => decide (c < 8) && decide (status < 4294967296)
  | .wait c _ => decide (c < 8)
  | .jobInput c _ => decide (c < 8)
  | .steer c _ _ _ => decide (c < 8)
  | .steerSeq c _ => decide (c < 8)
  | .modelLoad c _ => decide (c < 8)
  | .modelUnload c _ => decide (c < 8)
  | .modelGraft c _ => decide (c < 8)
  | .modelState c _ => decide (c < 8)
  | .trlReserve c _ _ => decide (c < 8)
  | .trlRelease c _ => decide (c < 8)
  | .fwdSet c _ _ _ => decide (c < 8)
  | .cfwdSet c _ _ => decide (c < 8)
  | .time c => decide (c < 8)
  | .runnerTrap c sub => decide (c < 8) && decide (sub < 16)
  | .trackerRun _ n => decide (n < 64)
  | .pwrReqDormancy _ => true
  | .dormancyGated => true
  | .pwrReqRun _ => true
  | .dormancyExitPowered => true
  | .pwrReqFrost _ => true
  | .frostDrainDone => true
  | .wakeSourceFire src _ => decide (src < 11)
  | .frostExitReady => true
  | .nvmeCompletion _ slot gen => decide (slot < 256) && decide (gen < 65536)
  | .nvmeCommandTimeout slot _ => decide (slot < 256)
  | .modelLoadTimeout k => decide (k < 9)
  | .watchdogExpiry _ => true
  | .watchdogStage2 _ => true
  | .shedException _ => true
  | .thermtrip => true
  | .tempHiChange _ => true
  | .bar0TlpRefused _ => true
  | .pcieLinkReset => true
  | .ethLinkChange n _ _ _ => decide (n < 2)
  | .registerWrite _ ctx _ bytes _ => decide (ctx < 4294967296) && decide (bytes < 9)
  | .trellisBlockLockLoss k lane => decide (k < 2) && decide (lane < 4)
  | .flitTx k => decide (k < 2)
  | .ethEgressTimestamp n seq => decide (n < 2) && decide (seq < 65536)
  | .aonOscillatorRunning => true
  | .rootPortRecovery => true
  | .jtagTapUpdate _ => true
  | .registerRead _ _ bytes => decide (bytes < 9)
  | .fenceNvmeRetire k => decide (k < 9)

end Sys2Proof
end

