-- ==== Sys2Proof/Machine/Run.lean ====
section
/-! DEFINITION. How a command runs: what it needs of the operating conditions, whether it can occur, and how a step of the Sundial is
applied. -/

namespace Sys2Proof.Machine

/-- The outcome of a command. -/
abbrev Result := Host.Outcome State Fault Refusal

/-- The Sundial's count of nanoseconds (R50). -/
def State.ns (s : State) : Nat := s.sun.toNat / 2 ^ 32

/-- The Sundial advances by `n` units of 2^-32 ns; the 96-bit value of count and fraction wraps (R51, R69). -/
def State.advance (s : State) (n : Nat) : State := { s with sun := BitVec.ofNat 96 (s.sun.toNat + n) }

/-- The state after a command has left `p`: a forward step that it ordered is applied to the Sundial (R65). -/
def State.settle (s : State) (p : Part) : State :=
  State.advance { s with part := p.modSdl (fun u => { u with step := 0 }) } (p.sdl.step * 2 ^ 32)

/-- Behaviour is undefined for a unit (R3): after THERMTRIP_N (R633), after EXTEST, CLAMP or HIGHZ (R685), and, where the unit runs from
a PLL, once REFCLK has stopped (R43). -/
def Part.outside (p : Part) (pll : Bool) : Bool := p.pins.thermtrip || p.pins.jtagUndefined || (pll && p.pins.refLost)

/-- Run a command whose units leave the conditions under `bad`: where it can occur, it has its effect at the Sundial's count; where
it cannot, nothing happens. -/
def State.runIf (s : State) (bad : Bool) (can : Nat → Part → Bool) (eff : Nat → Part → Part) : Result :=
  if bad then .fault .outsideConditions
  else if can s.ns s.part then .next (s.settle (eff s.ns s.part))
  else .next s

/-- A command of units that run from a PLL. -/
def State.run (s : State) (can : Nat → Part → Bool) (eff : Nat → Part → Part) : Result :=
  s.runIf (s.part.outside true) can eff

/-- A command of the always-on domain, or of the pins that bring REFCLK and the PLLs back. -/
def State.runAon (s : State) (can : Nat → Part → Bool) (eff : Nat → Part → Part) : Result :=
  s.runIf (s.part.outside false) can eff

/-- The thermal detector: THERMTRIP_N works under every JTAG instruction (R685). -/
def State.runTrip (s : State) (can : Nat → Part → Bool) (eff : Nat → Part → Part) : Result := s.runIf false can eff

/-- The TAP: it runs from TCK, and goes on after the instructions of R685. -/
def State.runTap (s : State) (can : Nat → Part → Bool) (eff : Nat → Part → Part) : Result :=
  s.runIf s.part.pins.thermtrip can eff

/-- A power-on reset: the Sundial reads 0 (R50). -/
def State.powerOn (s : State) : State := { s with sun := 0, part := s.part.porAssert }

/-- The Sundial's source runs: out of power-on reset, REFCLK for SRC 0 and 1, the AON oscillator for SRC 2 (R51). -/
def Part.sourceRuns (p : Part) : Bool :=
  p.boot.phase != .porHeld && (if p.get F.SDL_STATUS_SRC = 2 then p.pins.aonRunning else p.pins.refclk)

/-- Nanoseconds pass: the time counters of work that runs count them (R148, assumption 54). -/
def State.pass (s : State) (ns : Nat) : State := { s with part := s.part.passTime ns }

/-- The nanoseconds from one count to a later one, over the wrap of R69 too. -/
def nsBetween (a b : Nat) : Nat := if a ≤ b then b - a else b + 2 ^ 64 - a

/-- One edge of the Sundial's source: its increment is added (R51), and the time counters count the nanoseconds that pass. -/
def State.edge (s : State) : State :=
  if s.part.sourceRuns then
    let q := s.advance (sdlIncrement (s.part.get F.SDL_STATUS_SRC) s.part.rate)
    q.pass (nsBetween s.ns q.ns)
  else s

end Sys2Proof.Machine
end

