-- ==== Sys2Proof/Machine/ExecApps.lean ====
section
/-! DEFINITION. Meanings of the commands of application cores, system calls and the tracker (20_app_cores): when the command can occur, and what it
does. -/

namespace Sys2Proof.Machine

/-- SUBMIT (R486). -/
def execSubmit (c : Nat) (addr : Nat) (n : Nat) (s : State) : Result :=
  s.run (fun _ p => Instr.wf (.submit c addr n) && p.calls c) (fun t p => p.callSubmit t c addr n)

/-- ACTIVATION_START (R582). -/
def execActivationStart (c : Nat) (s : State) : Result :=
  s.run (fun _ p => Instr.wf (.activationStart c) && p.canDispatch 2 c) (fun t p => p.actStart t c)

/-- EXIT (R583). -/
def execExit (c : Nat) (status : Nat) (s : State) : Result :=
  s.run (fun _ p => Instr.wf (.exit c status) && p.calls c) (fun t p => p.runnerExit t c status)

/-- WAIT (R585). -/
def execWait (c : Nat) (mask : Nat) (s : State) : Result :=
  s.run (fun _ p => Instr.wf (.wait c mask) && p.calls c) (fun t p => p.runnerWait t c mask)

/-- JOB_INPUT (R390). -/
def execJobInput (c : Nat) (buf : Nat) (s : State) : Result :=
  s.run (fun _ p => Instr.wf (.jobInput c buf) && p.calls c) (fun _ p => p.callJobInput c buf)

/-- STEER (R237). -/
def execSteer (c : Nat) (pipe : Nat) (addr : Nat) (count : Nat) (s : State) : Result :=
  s.run (fun _ p => Instr.wf (.steer c pipe addr count) && p.calls c) (fun _ p => p.callSteer c pipe addr count)

/-- STEER_SEQ (R584). -/
def execSteerSeq (c : Nat) (pipe : Nat) (s : State) : Result :=
  s.run (fun _ p => Instr.wf (.steerSeq c pipe) && p.calls c) (fun _ p => p.callSteerSeq c pipe)

/-- MODEL_LOAD (R363). -/
def execModelLoad (c : Nat) (m : Nat) (s : State) : Result :=
  s.run (fun _ p => Instr.wf (.modelLoad c m) && p.calls c) (fun t p => p.modelCall c m (p.callLoad t (p.caller c) m))

/-- MODEL_UNLOAD (R367). -/
def execModelUnload (c : Nat) (m : Nat) (s : State) : Result :=
  s.run (fun _ p => Instr.wf (.modelUnload c m) && p.calls c) (fun _ p => p.modelCall c m (p.callUnload m))

/-- MODEL_GRAFT (R381). -/
def execModelGraft (c : Nat) (m : Nat) (s : State) : Result :=
  s.run (fun _ p => Instr.wf (.modelGraft c m) && p.calls c) (fun t p => p.modelCall c m (p.callGraft t m))

/-- MODEL_STATE (R364). -/
def execModelState (c : Nat) (m : Nat) (s : State) : Result :=
  s.run (fun _ p => Instr.wf (.modelState c m) && p.calls c) (fun _ p => p.callModelState c m)

/-- TRL_RESERVE (R529). -/
def execTrlReserve (c : Nat) (port : Nat) (credits : Nat) (s : State) : Result :=
  s.run (fun _ p => Instr.wf (.trlReserve c port credits) && p.calls c)
    (fun _ p => callRet c (p.trlReserve (p.caller c) c port credits))

/-- TRL_RELEASE (R529). -/
def execTrlRelease (c : Nat) (port : Nat) (s : State) : Result :=
  s.run (fun _ p => Instr.wf (.trlRelease c port) && p.calls c) (fun _ p => callRet c (p.trlRelease c port))

/-- FWD_SET (R536). -/
def execFwdSet (c : Nat) (e : Nat) (stream : Nat) (v : Nat) (s : State) : Result :=
  s.run (fun _ p => Instr.wf (.fwdSet c e stream v) && p.calls c) (fun _ p => callRet c (p.fwdSet (p.caller c) e stream v))

/-- CFWD_SET (R538). -/
def execCfwdSet (c : Nat) (on : Nat) (node : Nat) (s : State) : Result :=
  s.run (fun _ p => Instr.wf (.cfwdSet c on node) && p.calls c) (fun _ p => callRet c (p.cfwdSet (p.caller c) on node))

/-- TIME (R584). -/
def execTime (c : Nat) (s : State) : Result :=
  s.run (fun _ p => Instr.wf (.time c) && p.calls c) (fun t p => p.callTime t c)

/-- RUNNER_TRAP (R583). -/
def execRunnerTrap (c : Nat) (sub : Nat) (s : State) : Result :=
  s.run (fun _ p => Instr.wf (.runnerTrap c sub) && p.calls c) (fun _ p => p.runnerTrap c sub)

/-- TRACKER_RUN (R589). -/
def execTrackerRun (onBed : Bool) (n : Nat) (s : State) : Result :=
  s.run (fun _ p => Instr.wf (.trackerRun onBed n) && p.live && p.trackerHere onBed n) (fun t p => p.trackerStep t onBed n)

end Sys2Proof.Machine
end

