-- ==== Sys2Proof/Machine/ExecBarrow.lean ====
section
/-! DEFINITION. Meanings of the commands of Barrow (15_barrow_dma): when the command can occur, and what it
does. -/

namespace Sys2Proof.Machine

/-- BRW_CH_EN_WRITE (R438). -/
def execBrwChEnWrite (w : Who) (c : Nat) (on : Bool) (s : State) : Result :=
  s.run (fun _ p => Instr.wf (.brwChEnWrite w c on) && p.issues w)
    (fun t p => p.writeOf t w (R.BRW_CH_CTRL c) (((p.reg (R.BRW_CH_CTRL c)).withBits 2 2 0).withBits 0 0 on.toNat))

/-- BRW_CH_PAUSE (R435). -/
def execBrwChPause (w : Who) (c : Nat) (on : Bool) (s : State) : Result :=
  s.run (fun _ p => Instr.wf (.brwChPause w c on) && p.issues w)
    (fun t p => p.writeOf t w (R.BRW_CH_CTRL c) (((p.reg (R.BRW_CH_CTRL c)).withBits 2 2 0).withBits 1 1 on.toNat))

/-- BRW_CH_DOORBELL (R422). -/
def execBrwChDoorbell (w : Who) (c : Nat) (s : State) : Result :=
  s.run (fun _ p => Instr.wf (.brwChDoorbell w c) && p.issues w)
    (fun t p => p.writeOf t w (R.BRW_CH_CTRL c) ((p.reg (R.BRW_CH_CTRL c)).withBits 2 2 1))

/-- BRW_CTRL_PAUSE (R435). -/
def execBrwCtrlPause (w : Who) (on : Bool) (s : State) : Result :=
  s.run (fun _ p => p.issues w) (fun t p => p.writeOf t w R.BRW_CTRL (BitVec.ofNat 32 on.toNat))

/-- BRW_CH_LEVEL_ADD (R431). -/
def execBrwChLevelAdd (w : Who) (c : Nat) (v : Word) (s : State) : Result :=
  s.run (fun _ p => Instr.wf (.brwChLevelAdd w c v) && p.issues w) (fun t p => p.writeOf t w (R.BRW_CH_LEVEL_ADD c) (v))

/-- BRW_CH_TRIG_WRITE (R433). -/
def execBrwChTrigWrite (w : Who) (c : Nat) (v : Word) (s : State) : Result :=
  s.run (fun _ p => Instr.wf (.brwChTrigWrite w c v) && p.issues w) (fun t p => p.writeOf t w (R.BRW_CH_TRIG c) (v))

/-- START_EVENT (R432). -/
def execStartEvent (c : Nat) (s : State) : Result :=
  s.run (fun _ p => Instr.wf (.startEvent c) && p.live && !(p.chan c).due.isEmpty) (fun _ p => p.startEvent c)

/-- OWN_REREAD_RETURN (R428). -/
def execOwnRereadReturn (c : Nat) (s : State) : Result :=
  s.run (fun _ p => Instr.wf (.ownRereadReturn c) && p.live && p.rereadReady c) (fun t p => p.reread t c)

/-- BARROW_READ_RETURN (R416). -/
def execBarrowReadReturn (c : Nat) (poisoned : Bool) (s : State) : Result :=
  s.run (fun _ p => Instr.wf (.barrowReadReturn c poisoned) && p.live && p.beatReady c) (fun t p => p.beat t c poisoned)

/-- DESCRIPTOR_COMPLETE (R423). -/
def execDescriptorComplete (c : Nat) (s : State) : Result :=
  s.run (fun _ p => Instr.wf (.descriptorComplete c) && p.live && p.completeReady c) (fun t p => p.descComplete t c)

/-- STATUS_WRITE_PERFORMED (R423). -/
def execStatusWritePerformed (c : Nat) (s : State) : Result :=
  s.run (fun _ p => Instr.wf (.statusWritePerformed c) && p.live && (p.chan c).fins.any (fun f => f.phase == 1))
    (fun _ p => p.statusDone c)

/-- OWN_WRITE_PERFORMED (R423). -/
def execOwnWritePerformed (c : Nat) (s : State) : Result :=
  s.run (fun _ p => Instr.wf (.ownWritePerformed c) && p.live && (p.chan c).fins.any (fun f => f.phase == 2))
    (fun _ p => p.ownDone c)

/-- DESCRIPTOR_SETTLED (R424). -/
def execDescriptorSettled (c : Nat) (s : State) : Result :=
  s.run (fun _ p => Instr.wf (.descriptorSettled c) && p.live && (p.chan c).fins.any (fun f => !f.settled))
    (fun _ p => p.settle c)

/-- CHANNEL_PAUSED (R435). -/
def execChannelPaused (c : Nat) (s : State) : Result :=
  s.run (fun _ p => Instr.wf (.channelPaused c) && p.live && p.pauseReady c) (fun _ p => p.chPausedNow c)

end Sys2Proof.Machine
end

