-- ==== Sys2Proof/Machine/ExecBeds.lean ====
section
/-! DEFINITION. Meanings of the commands of the beds and their instructions (10_beds): when the command can occur, and what it
does. -/

namespace Sys2Proof.Machine

/-- BED_COMMAND_START (R263). -/
def execBedCommandStart (b : Nat) (s : State) : Result :=
  s.run (fun _ p => Instr.wf (.bedCommandStart b) && p.bedAwaits b) (fun t p => p.bedStart t b)

/-- BED_COMMAND_END (R265). -/
def execBedCommandEnd (b : Nat) (s : State) : Result :=
  s.run (fun _ p => Instr.wf (.bedCommandEnd b) && p.live && p.bedIdle b) (fun t p => (p.bedCmdEnd t b).nextLoads t)

/-- RV32_INSTRUCTION (R268). -/
def execRv32Instruction (b : Nat) (th : Nat) (word : Word) (s : State) : Result :=
  s.run (fun _ p => Instr.wf (.rv32Instruction b th word) && p.threadReady b th) (fun t p => p.issue t b th word.toNat)

/-- BED_LOAD_RETURN (R266). -/
def execBedLoadReturn (b : Nat) (th : Nat) (poisoned : Bool) (s : State) : Result :=
  s.run (fun _ p => Instr.wf (.bedLoadReturn b th poisoned) && p.awaitsData b th) (fun t p => p.loadReturn t b th poisoned)

/-- BED_FENCE (R286). -/
def execBedFence (b : Nat) (th : Nat) (s : State) : Result :=
  s.run (fun _ p => Instr.wf (.bedFence b th) && p.threadReady b th) (fun t p => p.issue t b th 0x0FF0000F)

/-- TCFG (R280). -/
def execTcfg (b : Nat) (th : Nat) (rd : Fin 32) (rs1 : Fin 32) (s : State) : Result :=
  s.run (fun _ p => Instr.wf (.tcfg b th rd rs1) && p.threadReady b th) (fun t p => p.issue t b th (tilthWord 0 0 rs1 0 rd))

/-- TZERO (R280). -/
def execTzero (b : Nat) (th : Nat) (a : Fin 32) (s : State) : Result :=
  s.run (fun _ p => Instr.wf (.tzero b th a) && p.threadReady b th) (fun t p => p.issue t b th (tilthWord 1 0 0 0 a))

/-- TMMA (R273). -/
def execTmma (b : Nat) (th : Nat) (a : Fin 32) (rs1 : Fin 32) (rs2 : Fin 32) (s : State) : Result :=
  s.run (fun _ p => Instr.wf (.tmma b th a rs1 rs2) && p.threadReady b th)
    (fun t p => p.issue t b th (tilthWord 2 rs2 rs1 0 a))

/-- TLDACC (R280). -/
def execTldacc (b : Nat) (th : Nat) (a : Fin 32) (rs1 : Fin 32) (s : State) : Result :=
  s.run (fun _ p => Instr.wf (.tldacc b th a rs1) && p.threadReady b th) (fun t p => p.issue t b th (tilthWord 3 0 rs1 0 a))

/-- TSTACC (R280). -/
def execTstacc (b : Nat) (th : Nat) (a : Fin 32) (rs1 : Fin 32) (s : State) : Result :=
  s.run (fun _ p => Instr.wf (.tstacc b th a rs1) && p.threadReady b th) (fun t p => p.issue t b th (tilthWord 4 0 rs1 0 a))

/-- TRQ (R282). -/
def execTrq (b : Nat) (th : Nat) (a : Fin 32) (rs1 : Fin 32) (rs2 : Fin 32) (s : State) : Result :=
  s.run (fun _ p => Instr.wf (.trq b th a rs1 rs2) && p.threadReady b th)
    (fun t p => p.issue t b th (tilthWord 5 rs2 rs1 0 a))

/-- TWAIT (R280). -/
def execTwait (b : Nat) (th : Nat) (rd : Fin 32) (n : Fin 32) (s : State) : Result :=
  s.run (fun _ p => Instr.wf (.twait b th rd n) && p.threadReady b th) (fun t p => p.issue t b th (tilthWord 0 n 0 1 rd))

/-- TFENCE (R287). -/
def execTfence (b : Nat) (th : Nat) (m : Fin 32) (s : State) : Result :=
  s.run (fun _ p => Instr.wf (.tfence b th m) && p.threadReady b th) (fun t p => p.issue t b th (tilthWord 1 m 0 1 0))

/-- TBAR (R289). -/
def execTbar (b : Nat) (th : Nat) (rs1 : Fin 32) (s : State) : Result :=
  s.run (fun _ p => Instr.wf (.tbar b th rs1) && p.threadReady b th) (fun t p => p.issue t b th (tilthWord 2 0 rs1 1 0))

/-- TEXIT (R265). -/
def execTexit (b : Nat) (th : Nat) (s : State) : Result :=
  s.run (fun _ p => Instr.wf (.texit b th) && p.threadReady b th) (fun t p => p.issue t b th (tilthWord 3 0 0 1 0))

/-- TBOLT (R280). -/
def execTbolt (b : Nat) (th : Nat) (rd : Fin 32) (rs1 : Fin 32) (s : State) : Result :=
  s.run (fun _ p => Instr.wf (.tbolt b th rd rs1) && p.threadReady b th) (fun t p => p.issue t b th (tilthWord 0 0 rs1 2 rd))

/-- TPUT (R283). -/
def execTput (b : Nat) (th : Nat) (rd : Fin 32) (rs1 : Fin 32) (s : State) : Result :=
  s.run (fun _ p => Instr.wf (.tput b th rd rs1) && p.threadReady b th) (fun t p => p.issue t b th (tilthWord 1 0 rs1 2 rd))

/-- TVLD (R280). -/
def execTvld (b : Nat) (th : Nat) (vd : Fin 32) (rs1 : Fin 32) (s : State) : Result :=
  s.run (fun _ p => Instr.wf (.tvld b th vd rs1) && p.threadReady b th) (fun t p => p.issue t b th (tilthWord 2 0 rs1 2 vd))

/-- TVST (R280). -/
def execTvst (b : Nat) (th : Nat) (vs3 : Fin 32) (rs1 : Fin 32) (s : State) : Result :=
  s.run (fun _ p => Instr.wf (.tvst b th vs3 rs1) && p.threadReady b th)
    (fun t p => p.issue t b th (tilthWord 3 0 rs1 2 vs3))

/-- ENGINE_OP_DONE (R271). -/
def execEngineOpDone (b : Nat) (s : State) : Result :=
  s.run (fun _ p => Instr.wf (.engineOpDone b) && p.live && !(p.bed b).queue.isEmpty) (fun t p => p.engineDone t b)

/-- TPUT_COMPLETE (R283). -/
def execTputComplete (b : Nat) (j : Nat) (s : State) : Result :=
  s.run (fun _ p => Instr.wf (.tputComplete b j) && p.live && decide (j < (p.bed b).tputs.length))
    (fun _ p => p.tputDone b j)

/-- BED_CTRL_RESET (R295). -/
def execBedCtrlReset (w : Who) (b : Nat) (s : State) : Result :=
  s.run (fun _ p => Instr.wf (.bedCtrlReset w b) && p.issues w) (fun t p => p.writeOf t w (R.BED_CTRL b) 1)

/-- BED_RESET_DONE (R295). -/
def execBedResetDone (b : Nat) (s : State) : Result :=
  s.run (fun _ p => Instr.wf (.bedResetDone b) && p.live && p.on (F.BED_STATUS_RESETTING b))
    (fun _ p => p.clr (F.BED_STATUS_RESETTING b))

end Sys2Proof.Machine
end

