-- ==== Sys2Proof/Machine/ExecBoot.lean ====
section
/-! DEFINITION. Meanings of the commands of the pins of reset, the boot, Replant, the mailbox and the management tick (05_boot_hardening, 21_power_reset): when the command can occur, and what it
does. -/

namespace Sys2Proof.Machine

/-- PORST_N_ASSERT (R607). -/
def execPorstNAssert (s : State) : Result :=
  .next s.powerOn

/-- PORST_N_RELEASE (R105). -/
def execPorstNRelease (env : BootEnv) (s : State) : Result :=
  s.runAon (fun _ p => p.porReleasable) (fun t p => p.porRelease t env)

/-- RESET_N_ASSERT (R607). -/
def execResetNAssert (s : State) : Result :=
  s.runAon (fun _ p => p.resetAssertable) (fun t p => p.resetAssert t)

/-- RESET_N_RELEASE (R657). -/
def execResetNRelease (env : BootEnv) (s : State) : Result :=
  s.runAon (fun _ p => p.resetReleasable) (fun t p => p.resetRelease t env)

/-- PCIE_EP_LINK_TRAINED (R105). -/
def execPcieEpLinkTrained (speed : Nat) (width : Nat) (msi : Nat) (s : State) : Result :=
  s.run (fun _ p => Instr.wf (.pcieEpLinkTrained speed width msi) && p.epTrains) (fun _ p => p.epUp speed width msi)

/-- NVME_BRING_UP (R503). -/
def execNvmeBringUp (ssd : SsdAnswer) (s : State) : Result :=
  s.run (fun _ p => p.nvmeAwaited) (fun t p => p.nvmeBringUp t ssd)

/-- BOOT_ADMISSION (R398). -/
def execBootAdmission (s : State) : Result :=
  s.run (fun _ p => p.admissionReady) (fun t p => p.admission t)

/-- REPLANT_JOB_DRAIN_END (R121). -/
def execReplantJobDrainEnd (s : State) : Result :=
  s.run (fun t p => p.drainEnds t) (fun _ p => p.jobsDrained)

/-- REPLANT_FLUSH_END (R121). -/
def execReplantFlushEnd (env : BootEnv) (s : State) : Result :=
  s.run (fun _ p => p.flushEnds) (fun t p => p.replant t env)

/-- STAGE_BEGIN (R116). -/
def execStageBegin (tag : Nat) (a0 : Word) (a1 : Word) (s : State) : Result :=
  s.run (fun _ p => Instr.wf (.stageBegin tag a0 a1) && p.hostUp) (fun _ p => p.mbxWrite 1 tag [a0, a1])

/-- STAGE_WRITE (R116). -/
def execStageWrite (tag : Nat) (a0 : Word) (a1 : Word) (s : State) : Result :=
  s.run (fun _ p => Instr.wf (.stageWrite tag a0 a1) && p.hostUp) (fun _ p => p.mbxWrite 2 tag [a0, a1])

/-- STAGE_END (R116). -/
def execStageEnd (tag : Nat) (a0 : Word) (s : State) : Result :=
  s.run (fun _ p => Instr.wf (.stageEnd tag a0) && p.hostUp) (fun _ p => p.mbxWrite 3 tag [a0])

/-- REPLANT (R120). -/
def execReplant (tag : Nat) (s : State) : Result :=
  s.run (fun _ p => Instr.wf (.replant tag) && p.hostUp) (fun _ p => p.mbxWrite 4 tag [])

/-- ROLLBACK (R128). -/
def execRollback (tag : Nat) (s : State) : Result :=
  s.run (fun _ p => Instr.wf (.rollback tag) && p.hostUp) (fun _ p => p.mbxWrite 5 tag [])

/-- ACCEPT (R123). -/
def execAccept (tag : Nat) (a0 : Word) (s : State) : Result :=
  s.run (fun _ p => Instr.wf (.accept tag a0) && p.hostUp) (fun _ p => p.mbxWrite 6 tag [a0])

/-- SET_TIME (R689). -/
def execSetTime (tag : Nat) (a0 : Word) (a1 : Word) (s : State) : Result :=
  s.run (fun _ p => Instr.wf (.setTime tag a0 a1) && p.hostUp) (fun _ p => p.mbxWrite 7 tag [a0, a1])

/-- LEDGER_READ (R116). -/
def execLedgerRead (tag : Nat) (a0 : Word) (s : State) : Result :=
  s.run (fun _ p => Instr.wf (.ledgerRead tag a0) && p.hostUp) (fun _ p => p.mbxWrite 8 tag [a0])

/-- STAGING_SESSION_TIMEOUT (R118). -/
def execStagingSessionTimeout (s : State) : Result :=
  s.run (fun t p => p.sessionOld t) (fun _ p => p.sessionClose)

/-- MANAGEMENT_TICK (R61). -/
def execManagementTick (watts : Nat) (checkins : Nat) (s : State) : Result :=
  s.run (fun t p => Instr.wf (.managementTick watts checkins) && p.tickDue t) (fun t p => p.managementTick t watts checkins)

/-- HARDENING_WINDOW_END (R124). -/
def execHardeningWindowEnd (s : State) : Result :=
  s.run (fun _ p => p.windowOver) (fun t p => p.windowEnd t)

end Sys2Proof.Machine
end

