-- ==== Sys2Proof/Machine/ExecDecode.lean ====
section
/-! DEFINITION. Meanings of the commands of video decode (08_video_decode): when the command can occur, and what it
does. -/

namespace Sys2Proof.Machine

/-- NAL_UNIT_HANDOFF (R211). -/
def execNalUnitHandoff (stream : Nat) (facts : NalFacts) (s : State) : Result :=
  s.run (fun _ p => Instr.wf (.nalUnitHandoff stream facts) && p.noticeReady stream) (fun t p => p.noticePass t stream facts)

/-- SLICE_START (R206). -/
def execSliceStart (c : Nat) (facts : SliceFacts) (s : State) : Result :=
  s.run (fun t p => Instr.wf (.sliceStart c facts) && p.sliceCan t c) (fun t p => p.sliceStart t c facts)

/-- SLICE_END (R213). -/
def execSliceEnd (c : Nat) (result : SliceResult) (s : State) : Result :=
  s.run (fun _ p => Instr.wf (.sliceEnd c result) && p.sliceRuns c) (fun t p => p.sliceEnd t c result)

end Sys2Proof.Machine
end

