-- ==== Sys2Proof/Machine/ExecDram.lean ====
section
/-! DEFINITION. Meanings of the commands of the DRAM controller (16_dram): when the command can occur, and what it
does. -/

namespace Sys2Proof.Machine

/-- DRAM_WRITE_ACCEPT (R453). -/
def execDramWriteAccept (writer : Writer) (port : Option Nat) (addr : Nat) (data : List Byte) (merge : EccOutcome)
    (s : State) : Result :=
  s.run (fun _ p => p.writeFits writer port addr data) (fun t p => p.dramWrite t writer port addr data merge)

/-- DRAM_READ_RETURN (R458). -/
def execDramReadReturn (reader : Reader) (addr : Nat) (outcome : EccOutcome) (ahead : Bool) (served : Bool)
    (s : State) : Result :=
  s.run (fun _ p => p.readFits reader addr) (fun t p => p.dramRead t reader addr outcome ahead served)

/-- REFRESH_DUE (R467). -/
def execRefreshDue (ch : Nat) (rank : Nat) (wilt : Bool) (s : State) : Result :=
  s.run (fun _ p => Instr.wf (.refreshDue ch rank wilt) && p.rankRuns ch rank) (fun _ p => p.refreshDue ch rank wilt)

/-- ZQ_LATCH (R468). -/
def execZqLatch (s : State) : Result :=
  s.run (fun _ p => p.dmcOn) (fun _ p => p.zqLatch)

/-- DQS_OSC_UPDATE (R468). -/
def execDqsOscUpdate (drift : Nat) (s : State) : Result :=
  s.run (fun _ p => p.dmcOn) (fun _ p => p.oscUpdate drift)

/-- WEEDER_READ (R473). -/
def execWeederRead (outcome : EccOutcome) (s : State) : Result :=
  s.run (fun t p => p.weedDue t) (fun t p => p.weed t outcome)

/-- WILT_RAISE (R463). -/
def execWiltRaise (r : Nat) (plot : Nat) (level : Nat) (s : State) : Result :=
  s.run (fun _ p => Instr.wf (.wiltRaise r plot level) && p.wiltRises r level) (fun t p => p.wiltRaise t r plot)

/-- WILT_DROP (R463). -/
def execWiltDrop (r : Nat) (level : Nat) (s : State) : Result :=
  s.run (fun _ p => Instr.wf (.wiltDrop r level) && p.wiltFalls r level) (fun _ p => p.wiltDrop r)

/-- DMC_NBR_K_WRITE (R472). -/
def execDmcNbrKWrite (w : Who) (k : Nat) (s : State) : Result :=
  s.run (fun _ p => Instr.wf (.dmcNbrKWrite w k) && p.issues w)
    (fun t p => p.writeOf t w R.DMC_CTRL ((p.reg R.DMC_CTRL).withBits 7 4 k))

end Sys2Proof.Machine
end

