-- ==== Sys2Proof/Machine/ExecFaults.lean ====
section
/-! DEFINITION. Meanings of the commands of NVMe recovery, the watchdog, temperature and JTAG (22_faults): when the command can occur, and what it
does. -/

namespace Sys2Proof.Machine

/-- NVME_COMPLETION (R624). -/
def execNvmeCompletion (completion : Bool) (slot : Nat) (gen : Nat) (s : State) : Result :=
  s.run (fun _ p => Instr.wf (.nvmeCompletion completion slot gen) && p.on F.PRP_LINK_UP)
    (fun t p => p.nvArrive t completion slot gen)

/-- NVME_COMMAND_TIMEOUT (R622). -/
def execNvmeCommandTimeout (slot : Nat) (ok : Bool) (s : State) : Result :=
  s.run (fun t p => Instr.wf (.nvmeCommandTimeout slot ok) && p.nvTimedOut t slot) (fun t p => p.nvTimeout t slot ok)

/-- MODEL_LOAD_TIMEOUT (R622). -/
def execModelLoadTimeout (k : Nat) (s : State) : Result :=
  s.run (fun t p => Instr.wf (.modelLoadTimeout k) && p.loadTimedOut t k) (fun t p => p.loadTimeout t k)

/-- WATCHDOG_EXPIRY (R630). -/
def execWatchdogExpiry (served : Bool) (s : State) : Result :=
  s.run (fun _ p => p.wdogDue) (fun t p => p.wdogStage1 t served)

/-- WATCHDOG_STAGE2 (R631). -/
def execWatchdogStage2 (env : BootEnv) (s : State) : Result :=
  s.run (fun _ p => p.stage2Due) (fun t p => p.wdogStage2 t env)

/-- SHED_EXCEPTION (R632). -/
def execShedException (served : Bool) (s : State) : Result :=
  s.run (fun _ p => p.shedUp) (fun t p => p.wdogStage1 t served)

/-- THERMTRIP (R633). -/
def execThermtrip (s : State) : Result :=
  s.runTrip (fun _ p => !p.pins.thermtrip) (fun _ p => p.thermtrip)

/-- TEMP_HI_CHANGE (R633). -/
def execTempHiChange (hot : Bool) (s : State) : Result :=
  s.run (fun _ p => p.boot.phase != .porHeld) (fun _ p => p.tempHi hot)

/-- ROOT_PORT_RECOVERY (R622). -/
def execRootPortRecovery (s : State) : Result :=
  s.run (fun _ p => p.on F.PRP_LINK_UP) (fun _ p => p.rootRecovery)

/-- JTAG_TAP_UPDATE (R685). -/
def execJtagTapUpdate (op : TapOp) (s : State) : Result :=
  s.runTap (fun _ _ => true) (fun _ p => p.tap op)

end Sys2Proof.Machine
end

