-- ==== Sys2Proof/Machine/ExecHarvest.lean ====
section
/-! DEFINITION. Meanings of the commands of Harvest, the host rings and the Cellar (17_harvest): when the command can occur, and what it
does. -/

namespace Sys2Proof.Machine

/-- CRATE_WAIT_EXPIRY (R494). -/
def execCrateWaitExpiry (plot : Nat) (s : State) : Result :=
  s.run (fun t p => Instr.wf (.crateWaitExpiry plot) && p.live && p.waitOver t plot) (fun _ p => p.closeCrate plot 1)

/-- HVS_P_WAIT_WRITE (R494). -/
def execHvsPWaitWrite (w : Who) (plot : Nat) (us : Word) (s : State) : Result :=
  s.run (fun _ p => Instr.wf (.hvsPWaitWrite w plot us) && p.issues w) (fun t p => p.writeOf t w (R.HVS_P_WAIT plot) us)

/-- CRATE_SEALED (R495). -/
def execCrateSealed (plot : Nat) (s : State) : Result :=
  s.run (fun _ p => Instr.wf (.crateSealed plot) && p.live && !(p.hv plot).closed.isEmpty) (fun t p => p.sealNext t plot)

/-- MSI_HOLDOFF_EXPIRY (R498). -/
def execMsiHoldoffExpiry (ring : Nat) (s : State) : Result :=
  s.run (fun t p => Instr.wf (.msiHoldoffExpiry ring) && p.live && p.holdoffOver t ring) (fun t p => p.holdoffMsi t ring)

/-- HR_CTRL_EN (R498). -/
def execHrCtrlEn (ring : Nat) (en : Bool) (irq : Bool) (s : State) : Result :=
  s.run (fun _ p => Instr.wf (.hrCtrlEn ring en irq) && p.hostUp)
    (fun t p => p.writeOf t hostWho (R.HR_CTRL ring) (BitVec.ofNat 32 (en.toNat + 2 * irq.toNat)))

/-- HR_CONS_WRITE (R499). -/
def execHrConsWrite (ring : Nat) (v : Word) (s : State) : Result :=
  s.run (fun _ p => Instr.wf (.hrConsWrite ring v) && p.hostUp) (fun t p => p.writeOf t hostWho (R.HR_CONS ring) v)

/-- CELLAR_WRITE_ISSUE (R505). -/
def execCellarWriteIssue (plot : Nat) (s : State) : Result :=
  s.run (fun _ p => Instr.wf (.cellarWriteIssue plot) && p.live && p.cellarReady plot) (fun t p => p.cellarWrite t plot)

/-- CELLAR_WRITE_COMPLETE (R505). -/
def execCellarWriteComplete (plot : Nat) (s : State) : Result :=
  s.run (fun _ p => Instr.wf (.cellarWriteComplete plot) && p.live && p.cellarBusy plot) (fun _ p => p.cellarDone plot)

/-- REPLAY_GO (R508). -/
def execReplayGo (w : Who) (plot : Nat) (udp : Bool) (s : State) : Result :=
  s.run (fun _ p => Instr.wf (.replayGo w plot udp) && p.issues w)
    (fun t p => p.writeOf t w (if udp then R.HVS_P_REPLAY_CTRL plot else R.HR_REPLAY_CTRL plot) 1)

/-- REPLAY_CRATE_READ (R508). -/
def execReplayCrateRead (plot : Nat) (udp : Bool) (crate : List Byte) (s : State) : Result :=
  s.run (fun _ p => Instr.wf (.replayCrateRead plot udp crate) && p.live && ((p.hv plot).replay udp).isSome && crate.length == 4096)
    (fun t p => p.replayCrate t plot udp crate)

end Sys2Proof.Machine
end

