-- ==== Sys2Proof/Machine/ExecIntake.lean ====
section
/-! DEFINITION. Meanings of the commands of Intake and the Ethernet links (07_intake): when the command can occur, and what it
does. -/

namespace Sys2Proof.Machine

/-- CSI2_FRAME_START (R186). -/
def execCsi2FrameStart (port : Nat) (vc : Nat) (number : Nat) (ecc : Ecc) (sot : Bool) (s : State) : Result :=
  s.run (fun _ p => Instr.wf (.csi2FrameStart port vc number ecc sot) && p.csiOn port)
    (fun t p => p.csiFrameStart t port vc number ecc sot)

/-- CSI2_LONG_PACKET (R169). -/
def execCsi2LongPacket (port : Nat) (vc : Nat) (dt : Nat) (data : List Byte) (crcOk : Bool) (overflow : Bool) (ecc : Ecc) (sot : Bool)
    (s : State) : Result :=
  s.run (fun _ p => Instr.wf (.csi2LongPacket port vc dt data crcOk overflow ecc sot) && p.csiOn port)
    (fun _ p => p.csiLongPacket port vc dt data crcOk overflow ecc sot)

/-- CSI2_FRAME_END (R195). -/
def execCsi2FrameEnd (port : Nat) (vc : Nat) (number : Nat) (ecc : Ecc) (sot : Bool) (s : State) : Result :=
  s.run (fun _ p => Instr.wf (.csi2FrameEnd port vc number ecc sot) && p.csiOn port)
    (fun _ p => p.csiFrameEnd port vc number ecc sot)

/-- ETH_FRAME_RX (R173). -/
def execEthFrameRx (port : Nat) (frame : List Byte) (fcsOk : Bool) (full : Bool) (s : State) : Result :=
  s.run (fun _ p => Instr.wf (.ethFrameRx port frame fcsOk full) && p.ethHears port)
    (fun t p => p.ethFrameIn t port frame fcsOk full)

/-- ACCESS_UNIT_TIMEOUT (R176). -/
def execAccessUnitTimeout (stream : Nat) (s : State) : Result :=
  s.run (fun t p => Instr.wf (.accessUnitTimeout stream) && p.auTimedOut t stream) (fun _ p => p.endAu stream true)

/-- ENTRY_COMMIT (R182). -/
def execEntryCommit (stream : Nat) (s : State) : Result :=
  s.run (fun _ p => Instr.wf (.entryCommit stream) && p.entryReady stream) (fun t p => p.entryCommit t stream)

/-- CONTEXT_STALL (R177). -/
def execContextStall (stream : Nat) (s : State) : Result :=
  s.run (fun t p => Instr.wf (.contextStall stream) && p.ctxQuiet t stream) (fun _ p => p.ctxStall stream)

/-- ITK_CTX_COMMIT (R185). -/
def execItkCtxCommit (w : Who) (stream : Nat) (s : State) : Result :=
  s.run (fun _ p => Instr.wf (.itkCtxCommit w stream) && p.issues w) (fun t p => p.writeOf t w (R.ITK_CTX_COMMIT stream) 1)

/-- ITK_CTX_RELOCK (R174). -/
def execItkCtxRelock (w : Who) (stream : Nat) (s : State) : Result :=
  s.run (fun _ p => Instr.wf (.itkCtxRelock w stream) && p.issues w)
    (fun t p => p.writeOf t w (R.ITK_CTX_CTRL stream) ((p.reg (R.ITK_CTX_CTRL stream)).withBits 1 1 1))

/-- ITK_CTX_EN_WRITE (R177). -/
def execItkCtxEnWrite (w : Who) (stream : Nat) (on : Bool) (s : State) : Result :=
  s.run (fun _ p => Instr.wf (.itkCtxEnWrite w stream on) && p.issues w)
    (fun t p => p.writeOf t w (R.ITK_CTX_CTRL stream) ((p.reg (R.ITK_CTX_CTRL stream)).withBits 0 0 on.toNat))

/-- RTSP_SESSION_SETUP (R173). -/
def execRtspSessionSetup (stream : Nat) (port : Nat) (udp : Nat) (ip : Nat) (pt : Nat) (s : State) : Result :=
  s.run (fun _ p => Instr.wf (.rtspSessionSetup stream port udp ip pt) && p.rtspReady stream port udp)
    (fun _ p => p.rtspSetup stream port udp ip pt)

/-- PAIR_CHOICE_FINAL (R192). -/
def execPairChoiceFinal (k : Nat) (s : State) : Result :=
  s.run (fun t p => Instr.wf (.pairChoiceFinal k) && p.pairDue t k) (fun t p => p.pairDecide t k)

/-- ETH_LINK_CHANGE (R607). -/
def execEthLinkChange (n : Nat) (up : Bool) (blockLock : Bool) (anDone : Bool) (s : State) : Result :=
  s.run (fun _ p => Instr.wf (.ethLinkChange n up blockLock anDone) && p.linkChanges n up)
    (fun _ p => p.ethLink n up blockLock anDone)

end Sys2Proof.Machine
end

