-- ==== Sys2Proof/Machine/ExecMetering.lean ====
section
/-! DEFINITION. Meanings of the commands of metering and the hold outputs (19_metering): when the command can occur, and what it
does. -/

namespace Sys2Proof.Machine

/-- HOUR_BOUNDARY (R567). -/
def execHourBoundary (s : State) : Result :=
  s.run (fun t p => p.hourDue t) (fun t p => p.hourRecord t (t / 3600000000000))

/-- TEN_SECOND_BOUNDARY (R557). -/
def execTenSecondBoundary (s : State) : Result :=
  s.run (fun _ p => p.tenDue.isSome) (fun t p => p.tenBoundary t)

/-- DECIMATOR_SAMPLE (R547). -/
def execDecimatorSample (codes : List Int) (filtered : List Nat) (s : State) : Result :=
  s.run (fun _ p => p.metering && codes.length == 7 && filtered.length == 7) (fun t p => p.decimatorSample t codes filtered)

/-- HOLD_MIN_EXPIRY (R565). -/
def execHoldMinExpiry (o : Nat) (s : State) : Result :=
  s.run (fun t p => Instr.wf (.holdMinExpiry o) && p.holdDue t o) (fun t p => p.holdExpire t o)

end Sys2Proof.Machine
end

