-- ==== Sys2Proof/Machine/ExecModels.lean ====
section
/-! DEFINITION. Meanings of the commands of model loads and grafts (13_models_grafting): when the command can occur, and what it
does. -/

namespace Sys2Proof.Machine

/-- LAYER_READ_DONE (R363). -/
def execLayerReadDone (k : Nat) (ok : Bool) (data : List Byte) (s : State) : Result :=
  s.run (fun _ p => Instr.wf (.layerReadDone k ok data) && p.readAwaited k) (fun t p => p.layerRead t k ok data)

/-- PINNED_PLACEMENT_SETTLED (R368). -/
def execPinnedPlacementSettled (m : Nat) (s : State) : Result :=
  s.run (fun _ p => p.storing && p.placing m 1) (fun t p => p.placed t m)

/-- WEIGHT_FETCH_SETTLED (R370). -/
def execWeightFetchSettled (h : Nat) (s : State) : Result :=
  s.run (fun _ p => p.live && p.fetchReady h) (fun _ p => p.fetchSettled h)

/-- GRAFT_STAGING_SETTLED (R376). -/
def execGraftStagingSettled (m : Nat) (s : State) : Result :=
  s.run (fun _ p => p.storing && p.placing m 3 && p.stagingReady m) (fun t p => p.stagingSettled t m)

/-- GRAFT_LAYER_SWAP (R377). -/
def execGraftLayerSwap (m : Nat) (s : State) : Result :=
  s.run (fun _ p => p.live && p.swapReady m) (fun t p => p.swapLayer t m)

end Sys2Proof.Machine
end

