-- ==== Sys2Proof/Machine/ExecPlots.lean ====
section
/-! DEFINITION. Meanings of the commands of Fallow (06_plots_security): when the command can occur, and what it
does. -/

namespace Sys2Proof.Machine

/-- PLT_CTRL_FALLOW (R153). -/
def execPltCtrlFallow (w : Who) (s : State) : Result :=
  s.run (fun _ p => p.issues w) (fun t p => p.writeOf t w (R.PLT_CTRL w.plot.val) 1)

/-- FALLOW_DRAIN_END (R158). -/
def execFallowDrainEnd (k : Nat) (rngOk : Bool) (s : State) : Result :=
  s.run (fun _ p => Instr.wf (.fallowDrainEnd k rngOk) && p.shedUp && p.drainReady k) (fun t p => p.fallowDrained t k rngOk)

/-- FALLOW_ZERO_DONE (R154). -/
def execFallowZeroDone (k : Nat) (s : State) : Result :=
  s.run (fun _ p => Instr.wf (.fallowZeroDone k) && p.shedUp && p.zeroReady k) (fun _ p => p.fallowZeroed k)

/-- FENCE_NVME_RETIRE (R637). -/
def execFenceNvmeRetire (k : Nat) (s : State) : Result :=
  s.run (fun t p => Instr.wf (.fenceNvmeRetire k) && p.fenceOld t k) (fun _ p => p.fenceRetire k)

end Sys2Proof.Machine
end

