-- ==== Sys2Proof/Machine/ExecPower.lean ====
section
/-! DEFINITION. Meanings of the commands of power states (21_power_reset): when the command can occur, and what it
does. -/

namespace Sys2Proof.Machine

/-- PWR_REQ_DORMANCY (R600). -/
def execPwrReqDormancy (w : Who) (s : State) : Result :=
  s.run (fun _ p => p.issues w) (fun t p => p.writeOf t w R.PWR_CTRL 1)

/-- DORMANCY_GATED (R600). -/
def execDormancyGated (s : State) : Result :=
  s.run (fun _ p => p.live && p.dormIdle) (fun _ p => p.dormGate)

/-- PWR_REQ_RUN (R600). -/
def execPwrReqRun (w : Who) (s : State) : Result :=
  s.run (fun _ p => p.issues w) (fun t p => p.writeOf t w R.PWR_CTRL 3)

/-- DORMANCY_EXIT_POWERED (R600). -/
def execDormancyExitPowered (s : State) : Result :=
  s.run (fun _ p => p.live && p.power == 3 && !p.pwr.stepDone) (fun _ p => p.dormPower)

/-- PWR_REQ_FROST (R601). -/
def execPwrReqFrost (w : Who) (s : State) : Result :=
  s.run (fun _ p => p.issues w) (fun t p => p.writeOf t w R.PWR_CTRL 2)

/-- FROST_DRAIN_DONE (R601). -/
def execFrostDrainDone (s : State) : Result :=
  s.run (fun t p => p.frostReady t) (fun t p => p.frostDone t)

/-- WAKE_SOURCE_FIRE (R604). -/
def execWakeSourceFire (src : Nat) (rising : Bool) (s : State) : Result :=
  s.runAon (fun t p => Instr.wf (.wakeSourceFire src rising) && p.wakeFires t src rising) (fun t p => p.wake t src rising)

/-- FROST_EXIT_READY (R604). -/
def execFrostExitReady (s : State) : Result :=
  s.run (fun _ p => p.exitReady) (fun _ p => p.exitPlace)

/-- AON_OSCILLATOR_RUNNING (R654). -/
def execAonOscillatorRunning (s : State) : Result :=
  s.runAon (fun _ p => !p.pins.aonRunning) (fun _ p => p.aonStarts)

end Sys2Proof.Machine
end

