-- ==== Sys2Proof/Machine/ExecPruner.lean ====
section
/-! DEFINITION. Meanings of the commands of the Pruner (09_pruner): when the command can occur, and what it
does. -/

namespace Sys2Proof.Machine

/-- PRN_PIPE_COMMIT (R237). -/
def execPrnPipeCommit (w : Who) (k : Nat) (s : State) : Result :=
  s.run (fun _ p => Instr.wf (.prnPipeCommit w k) && p.issues w) (fun t p => p.writeOf t w (R.PRN_PIPE_COMMIT k) 1)

/-- STEER_COPY_DONE (R237). -/
def execSteerCopyDone (k : Nat) (s : State) : Result :=
  s.run (fun _ p => Instr.wf (.steerCopyDone k) && p.live && (p.prnPipe k).copying.isSome) (fun _ p => p.prnCopyDone k)

/-- PRUNER_LATCH (R238). -/
def execPrunerLatch (k : Nat) (s : State) : Result :=
  s.run (fun _ p => Instr.wf (.prunerLatch k) && p.live && !(p.prnPipe k).latches.isEmpty) (fun t p => p.prunerLatch t k)

/-- CROP_START (R256). -/
def execCropStart (e : Nat) (s : State) : Result :=
  s.run (fun _ p => Instr.wf (.cropStart e) && p.canDispatch 1 e) (fun t p => p.cropStart t e)

/-- CROP_END (R249). -/
def execCropEnd (e : Nat) (s : State) : Result :=
  s.run (fun _ p => Instr.wf (.cropEnd e) && p.live && p.cropDone e) (fun t p => p.cropEnd t e)

/-- DRILL_WAIT_EXPIRY (R249). -/
def execDrillWaitExpiry (plot : Nat) (group : Nat) (s : State) : Result :=
  s.run (fun t p => Instr.wf (.drillWaitExpiry plot group) && p.live && p.drillWaited t (groupKey plot group))
    (fun t p => p.closeDrill t (groupKey plot group) 1)

/-- DRILL_READY_NOTICE (R252). -/
def execDrillReadyNotice (plot : Nat) (group : Nat) (s : State) : Result :=
  s.run (fun _ p => Instr.wf (.drillReadyNotice plot group) && p.live && p.noticeDue (groupKey plot group))
    (fun t p => p.drillNotice t (groupKey plot group))

/-- DRILL_SLOT_FREE (R253). -/
def execDrillSlotFree (plot : Nat) (group : Nat) (s : State) : Result :=
  s.run (fun _ p => Instr.wf (.drillSlotFree plot group) && p.live && p.slotIdle (groupKey plot group))
    (fun _ p => p.slotFree (groupKey plot group))

end Sys2Proof.Machine
end

