-- ==== Sys2Proof/Machine/ExecRegs.lean ====
section
/-! DEFINITION. Meanings of the commands of register accesses and the host link (02_address_map): when the command can occur, and what it
does. -/

namespace Sys2Proof.Machine

/-- BAR0_TLP_REFUSED (R34). -/
def execBar0TlpRefused (read : Bool) (s : State) : Result :=
  s.run (fun _ p => p.hostUp) (fun _ p => p.shapeRefused read)

/-- PCIE_LINK_RESET (R609). -/
def execPcieLinkReset (s : State) : Result :=
  s.run (fun _ p => p.hostUp) (fun _ p => p.epReset)

/-- REGISTER_WRITE (R6). -/
def execRegisterWrite (w : Who) (ctx : Nat) (addr : Nat) (bytes : Nat) (v : Word) (s : State) : Result :=
  s.run (fun _ p => Instr.wf (.registerWrite w ctx addr bytes v) && p.issues w)
    (fun t p => p.registerWrite t w ctx addr bytes v)

/-- REGISTER_READ (R6). -/
def execRegisterRead (w : Who) (addr : Nat) (bytes : Nat) (s : State) : Result :=
  s.run (fun _ p => Instr.wf (.registerRead w addr bytes) && p.issues w) (fun t p => p.registerRead t w addr bytes)

end Sys2Proof.Machine
end

