-- ==== Sys2Proof/Machine/ExecSched.lean ====
section
/-! DEFINITION. Meanings of the commands of dispatch, job faults and stakes (14_scheduling): when the command can occur, and what it
does. -/

namespace Sys2Proof.Machine

/-- DSP_Q_HEAD_WRITE (R391). -/
def execDspQHeadWrite (w : Who) (plot : Nat) (q : Nat) (off : Word) (s : State) : Result :=
  s.run (fun _ p => Instr.wf (.dspQHeadWrite w plot q off) && p.issues w && plot != 0)
    (fun t p => p.writeOf t w (R.DSP_Q_HEAD (plot - 1) q) off)

/-- COMMAND_DISPATCH (R392). -/
def execCommandDispatch (kind : Nat) (n : Nat) (s : State) : Result :=
  s.run (fun _ p => Instr.wf (.commandDispatch kind n) && p.canDispatch kind n) (fun t p => p.dispatch t kind n)

/-- STRIPE_START (R349). -/
def execStripeStart (b : Nat) (s : State) : Result :=
  s.run (fun _ p => Instr.wf (.stripeStart b) && p.live && p.stripeReady b) (fun t p => p.stripeStart t b)

/-- COMMAND_TIME_LIMIT (R395). -/
def execCommandTimeLimit (kind : Nat) (n : Nat) (s : State) : Result :=
  s.run (fun t p => Instr.wf (.commandTimeLimit kind n) && p.live && p.overLimit t kind n) (fun _ p => p.timeLimit kind n)

/-- JOB_TEARDOWN (R406). -/
def execJobTeardown (s : State) : Result :=
  s.run (fun _ p => p.live && !p.jobs.faults.isEmpty) (fun t p => (p.teardown t).nextLoads t)

/-- STK_TAKE (R401). -/
def execStkTake (w : Who) (ctx : Nat) (stake : Nat) (s : State) : Result :=
  s.run (fun _ p => Instr.wf (.stkTake w ctx stake) && p.issues w)
    (fun t p => p.registerWrite t w ctx (w.addrOf (R.STK_TAKE stake)) 4 1)

/-- STK_REL (R402). -/
def execStkRel (w : Who) (ctx : Nat) (stake : Nat) (s : State) : Result :=
  s.run (fun _ p => Instr.wf (.stkRel w ctx stake) && p.issues w)
    (fun t p => p.registerWrite t w ctx (w.addrOf (R.STK_REL stake)) 4 1)

end Sys2Proof.Machine
end

