-- ==== Sys2Proof/Machine/ExecSundial.lean ====
section
/-! DEFINITION. Meanings of the commands of the Sundial, its timers, captures and servo (03_clocks_sundial): when the command can occur, and what it
does. -/

namespace Sys2Proof.Machine

/-- SECOND_BOUNDARY (R61). -/
def execSecondBoundary (hottest : Int) (tcxo : Int) (s : State) : Result :=
  s.run (fun t p => p.secondDue t) (fun t p => p.second t hottest tcxo)

/-- PPS_FALL (R690). -/
def execPpsFall (s : State) : Result :=
  s.run (fun t p => p.ppsFallDue t) (fun _ p => p.ppsFall)

/-- HOLDOVER_RATE_UPDATE (R59). -/
def execHoldoverRateUpdate (temp : Int) (s : State) : Result :=
  s.run (fun _ p => p.holdoverRuns) (fun t p => p.holdover t temp)

/-- SUNDIAL_STEP (R65). -/
def execSundialStep (w : Who) (hi : Word) (s : State) : Result :=
  s.run (fun _ p => p.issues w) (fun t p => p.writeOf t w R.SDL_STEP_HI hi)

/-- SDL_RATE_WRITE (R53). -/
def execSdlRateWrite (w : Who) (v : Word) (s : State) : Result :=
  s.run (fun _ p => p.issues w) (fun t p => p.writeOf t w R.SDL_RATE v)

/-- SDL_NOW_LO_READ (R54). -/
def execSdlNowLoRead (w : Who) (s : State) : Result :=
  s.run (fun _ p => p.issues w) (fun t p => p.readOf t w R.SDL_NOW_LO)

/-- SDL_TMR_CMP_LO_WRITE (R66). -/
def execSdlTmrCmpLoWrite (w : Who) (n : Nat) (v : Word) (s : State) : Result :=
  s.run (fun _ p => Instr.wf (.sdlTmrCmpLoWrite w n v) && p.issues w) (fun t p => p.writeOf t w (R.SDL_TMR_CMP_LO n) v)

/-- SDL_TMR_CMP_HI_WRITE (R66). -/
def execSdlTmrCmpHiWrite (w : Who) (n : Nat) (v : Word) (s : State) : Result :=
  s.run (fun _ p => Instr.wf (.sdlTmrCmpHiWrite w n v) && p.issues w) (fun t p => p.writeOf t w (R.SDL_TMR_CMP_HI n) v)

/-- SDL_TMR_CTRL_WRITE (R64). -/
def execSdlTmrCtrlWrite (w : Who) (n : Nat) (v : Word) (s : State) : Result :=
  s.run (fun _ p => Instr.wf (.sdlTmrCtrlWrite w n v) && p.issues w) (fun t p => p.writeOf t w (R.SDL_TMR_CTRL n) v)

/-- SDL_TMR_MISSED_READ (R67). -/
def execSdlTmrMissedRead (w : Who) (n : Nat) (s : State) : Result :=
  s.run (fun _ p => Instr.wf (.sdlTmrMissedRead w n) && p.issues w) (fun t p => p.readOf t w (R.SDL_TMR_MISSED n))

/-- TIMER_FIRE (R63). -/
def execTimerFire (n : Nat) (s : State) : Result :=
  s.run (fun t p => Instr.wf (.timerFire n) && p.timerDue t n) (fun t p => p.timerFire t n)

/-- GPIO_EDGE_CAPTURE (R55). -/
def execGpioEdgeCapture (g : Nat) (rising : Bool) (s : State) : Result :=
  s.run (fun _ p => Instr.wf (.gpioEdgeCapture g rising) && p.edgeIs g rising) (fun t p => p.gpioChange t g rising)

/-- SDL_CAP_INFO_READ (R54). -/
def execSdlCapInfoRead (w : Who) (s : State) : Result :=
  s.run (fun _ p => p.issues w) (fun t p => p.readOf t w R.SDL_CAP_INFO)

/-- REFCLK_LOSS (R43). -/
def execRefclkLoss (s : State) : Result :=
  s.runAon (fun _ p => p.pins.refclk) (fun _ p => p.refLoss)

/-- REFCLK_RETURN (R43). -/
def execRefclkReturn (s : State) : Result :=
  s.runAon (fun _ p => !p.pins.refclk) (fun _ p => p.refReturn)

/-- PTP_MESSAGE_RX (R57). -/
def execPtpMessageRx (n : Nat) (st : PtpState) (est : Option (Int × Int × Int)) (s : State) : Result :=
  s.run (fun _ p => Instr.wf (.ptpMessageRx n st est) && p.ptpOn n st) (fun t p => p.ptpMessage t n st est)

/-- SERVO_LOCK_GAINED (R58). -/
def execServoLockGained (s : State) : Result :=
  s.run (fun t p => p.lockDue t) (fun t p => p.lockGained t)

/-- SERVO_LOCK_LOST (R58). -/
def execServoLockLost (s : State) : Result :=
  s.run (fun _ p => p.lockGone) (fun t p => p.lockLost t)

/-- SLEW_END (R689). -/
def execSlewEnd (s : State) : Result :=
  s.run (fun t p => p.slewDone t) (fun _ p => p.slewEnd)

/-- ETH_EGRESS_TIMESTAMP (R55). -/
def execEthEgressTimestamp (n : Nat) (seq : Nat) (s : State) : Result :=
  s.run (fun _ p => Instr.wf (.ethEgressTimestamp n seq) && p.ptpSends n) (fun t p => p.egressStamp t n seq)

end Sys2Proof.Machine
end

