-- ==== Sys2Proof/Machine/ExecTrellis.lean ====
section
/-! DEFINITION. Meanings of the commands of Trellis (18_trellis): when the command can occur, and what it
does. -/

namespace Sys2Proof.Machine

/-- TRL_P_EN_WRITE (R515). -/
def execTrlPEnWrite (w : Who) (k : Nat) (on : Bool) (s : State) : Result :=
  s.run (fun _ p => Instr.wf (.trlPEnWrite w k on) && p.issues w)
    (fun t p => p.writeOf t w (R.TRL_P_CTRL k) (BitVec.ofNat 32 on.toNat))

/-- TRL_P_RETRAIN (R515). -/
def execTrlPRetrain (w : Who) (k : Nat) (s : State) : Result :=
  s.run (fun _ p => Instr.wf (.trlPRetrain w k) && p.issues w)
    (fun t p => p.writeOf t w (R.TRL_P_CTRL k) ((p.reg (R.TRL_P_CTRL k)).withBits 1 1 1))

/-- TRAINING_COMPLETE (R516). -/
def execTrainingComplete (k : Nat) (node : Nat) (ring : Nat) (port : Nat) (order : Nat) (s : State) : Result :=
  s.run (fun _ p => Instr.wf (.trainingComplete k node ring port order) && (p.live && (p.trlState k == 1 || p.trlState k == 3)))
    (fun _ p => p.trainDone k node ring port order)

/-- TRAINING_TIMEOUT (R515). -/
def execTrainingTimeout (k : Nat) (s : State) : Result :=
  s.run (fun _ p => Instr.wf (.trainingTimeout k) && (p.live && (p.trlState k == 1 || p.trlState k == 3)))
    (fun _ p => p.trainTimeout k)

/-- DOWN_HOLDOFF_EXPIRY (R515). -/
def execDownHoldoffExpiry (k : Nat) (s : State) : Result :=
  s.run (fun _ p => Instr.wf (.downHoldoffExpiry k) && p.live && p.trlState k == 4 && p.on (F.TRL_P_CTRL_EN k))
    (fun _ p => p.setTrlState k 1)

/-- FLIT_RX (R522). -/
def execFlitRx (k : Nat) (flit : List Byte) (s : State) : Result :=
  s.run (fun _ p => Instr.wf (.flitRx k flit) && p.live && p.trlState k == 2 && flit.length == 64)
    (fun t p => p.flitRx t k flit)

/-- RESEND_TIMER_EXPIRY (R524). -/
def execResendTimerExpiry (k : Nat) (s : State) : Result :=
  s.run (fun _ p => Instr.wf (.resendTimerExpiry k) && p.live && p.trlState k == 2 && !(p.tport k).held.isEmpty)
    (fun _ p => p.resendTimer k)

/-- CREDIT_TIMEOUT (R528). -/
def execCreditTimeout (k : Nat) (vc : Nat) (s : State) : Result :=
  s.run (fun _ p => Instr.wf (.creditTimeout k vc) && p.live && p.vcStalled k vc) (fun _ p => p.creditStall k vc)

/-- CRED_RESYNC_RESEND (R542). -/
def execCredResyncResend (k : Nat) (s : State) : Result :=
  s.run (fun _ p => Instr.wf (.credResyncResend k) && p.live && p.trlState k == 2 && (p.tport k).awaiting)
    (fun _ p => p.sendResync k)

/-- TRELLIS_BLOCK_LOCK_LOSS (R515). -/
def execTrellisBlockLockLoss (k : Nat) (lane : Nat) (s : State) : Result :=
  s.run (fun _ p => Instr.wf (.trellisBlockLockLoss k lane) && p.live && p.trlState k == 2)
    (fun _ p => p.blockLockLost k lane)

/-- FLIT_TX (R526). -/
def execFlitTx (k : Nat) (s : State) : Result :=
  s.run (fun _ p => Instr.wf (.flitTx k) && p.live && p.trlState k == 2) (fun t p => p.flitTx t k)

end Sys2Proof.Machine
end

