-- ==== Sys2Proof/Machine/Dispatch.lean ====
section
/-! DEFINITION. The dispatch of a command to its meaning. -/

namespace Sys2Proof.Machine

/-- What a command does to everything but the queue. -/
def exec (i : Instr) (s : State) : Host.Outcome State Fault Refusal :=
  match i with
  | .porstNAssert => Sys2Proof.Machine.execPorstNAssert s
  | .porstNRelease env => Sys2Proof.Machine.execPorstNRelease env s
  | .resetNAssert => Sys2Proof.Machine.execResetNAssert s
  | .resetNRelease env => Sys2Proof.Machine.execResetNRelease env s
  | .pcieEpLinkTrained speed width msi => Sys2Proof.Machine.execPcieEpLinkTrained speed width msi s
  | .nvmeBringUp ssd => Sys2Proof.Machine.execNvmeBringUp ssd s
  | .bootAdmission => Sys2Proof.Machine.execBootAdmission s
  | .replantJobDrainEnd => Sys2Proof.Machine.execReplantJobDrainEnd s
  | .replantFlushEnd env => Sys2Proof.Machine.execReplantFlushEnd env s
  | .stageBegin tag a0 a1 => Sys2Proof.Machine.execStageBegin tag a0 a1 s
  | .stageWrite tag a0 a1 => Sys2Proof.Machine.execStageWrite tag a0 a1 s
  | .stageEnd tag a0 => Sys2Proof.Machine.execStageEnd tag a0 s
  | .replant tag => Sys2Proof.Machine.execReplant tag s
  | .rollback tag => Sys2Proof.Machine.execRollback tag s
  | .accept tag a0 => Sys2Proof.Machine.execAccept tag a0 s
  | .setTime tag a0 a1 => Sys2Proof.Machine.execSetTime tag a0 a1 s
  | .ledgerRead tag a0 => Sys2Proof.Machine.execLedgerRead tag a0 s
  | .stagingSessionTimeout => Sys2Proof.Machine.execStagingSessionTimeout s
  | .managementTick watts checkins => Sys2Proof.Machine.execManagementTick watts checkins s
  | .hardeningWindowEnd => Sys2Proof.Machine.execHardeningWindowEnd s
  | .secondBoundary hottest tcxo => Sys2Proof.Machine.execSecondBoundary hottest tcxo s
  | .ppsFall => Sys2Proof.Machine.execPpsFall s
  | .holdoverRateUpdate temp => Sys2Proof.Machine.execHoldoverRateUpdate temp s
  | .hourBoundary => Sys2Proof.Machine.execHourBoundary s
  | .tenSecondBoundary => Sys2Proof.Machine.execTenSecondBoundary s
  | .sundialStep w hi => Sys2Proof.Machine.execSundialStep w hi s
  | .sdlRateWrite w v => Sys2Proof.Machine.execSdlRateWrite w v s
  | .sdlNowLoRead w => Sys2Proof.Machine.execSdlNowLoRead w s
  | .sdlTmrCmpLoWrite w n v => Sys2Proof.Machine.execSdlTmrCmpLoWrite w n v s
  | .sdlTmrCmpHiWrite w n v => Sys2Proof.Machine.execSdlTmrCmpHiWrite w n v s
  | .sdlTmrCtrlWrite w n v => Sys2Proof.Machine.execSdlTmrCtrlWrite w n v s
  | .sdlTmrMissedRead w n => Sys2Proof.Machine.execSdlTmrMissedRead w n s
  | .timerFire n => Sys2Proof.Machine.execTimerFire n s
  | .gpioEdgeCapture g rising => Sys2Proof.Machine.execGpioEdgeCapture g rising s
  | .sdlCapInfoRead w => Sys2Proof.Machine.execSdlCapInfoRead w s
  | .refclkLoss => Sys2Proof.Machine.execRefclkLoss s
  | .refclkReturn => Sys2Proof.Machine.execRefclkReturn s
  | .ptpMessageRx n st est => Sys2Proof.Machine.execPtpMessageRx n st est s
  | .servoLockGained => Sys2Proof.Machine.execServoLockGained s
  | .servoLockLost => Sys2Proof.Machine.execServoLockLost s
  | .slewEnd => Sys2Proof.Machine.execSlewEnd s
  | .pltCtrlFallow w => Sys2Proof.Machine.execPltCtrlFallow w s
  | .fallowDrainEnd k rngOk => Sys2Proof.Machine.execFallowDrainEnd k rngOk s
  | .fallowZeroDone k => Sys2Proof.Machine.execFallowZeroDone k s
  | .csi2FrameStart port vc number ecc sot => Sys2Proof.Machine.execCsi2FrameStart port vc number ecc sot s
  | .csi2LongPacket port vc dt data crcOk overflow ecc sot => Sys2Proof.Machine.execCsi2LongPacket port vc dt data crcOk overflow ecc sot s
  | .csi2FrameEnd port vc number ecc sot => Sys2Proof.Machine.execCsi2FrameEnd port vc number ecc sot s
  | .ethFrameRx port frame fcsOk full => Sys2Proof.Machine.execEthFrameRx port frame fcsOk full s
  | .accessUnitTimeout stream => Sys2Proof.Machine.execAccessUnitTimeout stream s
  | .entryCommit stream => Sys2Proof.Machine.execEntryCommit stream s
  | .contextStall stream => Sys2Proof.Machine.execContextStall stream s
  | .itkCtxCommit w stream => Sys2Proof.Machine.execItkCtxCommit w stream s
  | .itkCtxRelock w stream => Sys2Proof.Machine.execItkCtxRelock w stream s
  | .itkCtxEnWrite w stream on => Sys2Proof.Machine.execItkCtxEnWrite w stream on s
  | .rtspSessionSetup stream port udp ip pt => Sys2Proof.Machine.execRtspSessionSetup stream port udp ip pt s
  | .pairChoiceFinal k => Sys2Proof.Machine.execPairChoiceFinal k s
  | .nalUnitHandoff stream facts => Sys2Proof.Machine.execNalUnitHandoff stream facts s
  | .sliceStart c facts => Sys2Proof.Machine.execSliceStart c facts s
  | .sliceEnd c result => Sys2Proof.Machine.execSliceEnd c result s
  | .prnPipeCommit w k => Sys2Proof.Machine.execPrnPipeCommit w k s
  | .steerCopyDone k => Sys2Proof.Machine.execSteerCopyDone k s
  | .prunerLatch k => Sys2Proof.Machine.execPrunerLatch k s
  | .cropStart e => Sys2Proof.Machine.execCropStart e s
  | .cropEnd e => Sys2Proof.Machine.execCropEnd e s
  | .drillWaitExpiry plot group => Sys2Proof.Machine.execDrillWaitExpiry plot group s
  | .drillReadyNotice plot group => Sys2Proof.Machine.execDrillReadyNotice plot group s
  | .drillSlotFree plot group => Sys2Proof.Machine.execDrillSlotFree plot group s
  | .bedCommandStart b => Sys2Proof.Machine.execBedCommandStart b s
  | .bedCommandEnd b => Sys2Proof.Machine.execBedCommandEnd b s
  | .rv32Instruction b th word => Sys2Proof.Machine.execRv32Instruction b th word s
  | .bedLoadReturn b th poisoned => Sys2Proof.Machine.execBedLoadReturn b th poisoned s
  | .bedFence b th => Sys2Proof.Machine.execBedFence b th s
  | .tcfg b th rd rs1 => Sys2Proof.Machine.execTcfg b th rd rs1 s
  | .tzero b th a => Sys2Proof.Machine.execTzero b th a s
  | .tmma b th a rs1 rs2 => Sys2Proof.Machine.execTmma b th a rs1 rs2 s
  | .tldacc b th a rs1 => Sys2Proof.Machine.execTldacc b th a rs1 s
  | .tstacc b th a rs1 => Sys2Proof.Machine.execTstacc b th a rs1 s
  | .trq b th a rs1 rs2 => Sys2Proof.Machine.execTrq b th a rs1 rs2 s
  | .twait b th rd n => Sys2Proof.Machine.execTwait b th rd n s
  | .tfence b th m => Sys2Proof.Machine.execTfence b th m s
  | .tbar b th rs1 => Sys2Proof.Machine.execTbar b th rs1 s
  | .texit b th => Sys2Proof.Machine.execTexit b th s
  | .tbolt b th rd rs1 => Sys2Proof.Machine.execTbolt b th rd rs1 s
  | .tput b th rd rs1 => Sys2Proof.Machine.execTput b th rd rs1 s
  | .tvld b th vd rs1 => Sys2Proof.Machine.execTvld b th vd rs1 s
  | .tvst b th vs3 rs1 => Sys2Proof.Machine.execTvst b th vs3 rs1 s
  | .engineOpDone b => Sys2Proof.Machine.execEngineOpDone b s
  | .tputComplete b j => Sys2Proof.Machine.execTputComplete b j s
  | .bedCtrlReset w b => Sys2Proof.Machine.execBedCtrlReset w b s
  | .bedResetDone b => Sys2Proof.Machine.execBedResetDone b s
  | .dspQHeadWrite w plot q off => Sys2Proof.Machine.execDspQHeadWrite w plot q off s
  | .commandDispatch kind n => Sys2Proof.Machine.execCommandDispatch kind n s
  | .stripeStart b => Sys2Proof.Machine.execStripeStart b s
  | .commandTimeLimit kind n => Sys2Proof.Machine.execCommandTimeLimit kind n s
  | .jobTeardown => Sys2Proof.Machine.execJobTeardown s
  | .stkTake w ctx stake => Sys2Proof.Machine.execStkTake w ctx stake s
  | .stkRel w ctx stake => Sys2Proof.Machine.execStkRel w ctx stake s
  | .layerReadDone k ok data => Sys2Proof.Machine.execLayerReadDone k ok data s
  | .pinnedPlacementSettled m => Sys2Proof.Machine.execPinnedPlacementSettled m s
  | .weightFetchSettled h => Sys2Proof.Machine.execWeightFetchSettled h s
  | .graftStagingSettled m => Sys2Proof.Machine.execGraftStagingSettled m s
  | .graftLayerSwap m => Sys2Proof.Machine.execGraftLayerSwap m s
  | .brwChEnWrite w c on => Sys2Proof.Machine.execBrwChEnWrite w c on s
  | .brwChPause w c on => Sys2Proof.Machine.execBrwChPause w c on s
  | .brwChDoorbell w c => Sys2Proof.Machine.execBrwChDoorbell w c s
  | .brwCtrlPause w on => Sys2Proof.Machine.execBrwCtrlPause w on s
  | .brwChLevelAdd w c v => Sys2Proof.Machine.execBrwChLevelAdd w c v s
  | .brwChTrigWrite w c v => Sys2Proof.Machine.execBrwChTrigWrite w c v s
  | .startEvent c => Sys2Proof.Machine.execStartEvent c s
  | .ownRereadReturn c => Sys2Proof.Machine.execOwnRereadReturn c s
  | .barrowReadReturn c poisoned => Sys2Proof.Machine.execBarrowReadReturn c poisoned s
  | .descriptorComplete c => Sys2Proof.Machine.execDescriptorComplete c s
  | .statusWritePerformed c => Sys2Proof.Machine.execStatusWritePerformed c s
  | .ownWritePerformed c => Sys2Proof.Machine.execOwnWritePerformed c s
  | .descriptorSettled c => Sys2Proof.Machine.execDescriptorSettled c s
  | .channelPaused c => Sys2Proof.Machine.execChannelPaused c s
  | .dramWriteAccept writer port addr data merge => Sys2Proof.Machine.execDramWriteAccept writer port addr data merge s
  | .dramReadReturn reader addr outcome ahead served => Sys2Proof.Machine.execDramReadReturn reader addr outcome ahead served s
  | .refreshDue ch rank wilt => Sys2Proof.Machine.execRefreshDue ch rank wilt s
  | .zqLatch => Sys2Proof.Machine.execZqLatch s
  | .dqsOscUpdate drift => Sys2Proof.Machine.execDqsOscUpdate drift s
  | .weederRead outcome => Sys2Proof.Machine.execWeederRead outcome s
  | .wiltRaise r plot level => Sys2Proof.Machine.execWiltRaise r plot level s
  | .wiltDrop r level => Sys2Proof.Machine.execWiltDrop r level s
  | .dmcNbrKWrite w k => Sys2Proof.Machine.execDmcNbrKWrite w k s
  | .submit c addr n => Sys2Proof.Machine.execSubmit c addr n s
  | .crateWaitExpiry plot => Sys2Proof.Machine.execCrateWaitExpiry plot s
  | .hvsPWaitWrite w plot us => Sys2Proof.Machine.execHvsPWaitWrite w plot us s
  | .crateSealed plot => Sys2Proof.Machine.execCrateSealed plot s
  | .msiHoldoffExpiry ring => Sys2Proof.Machine.execMsiHoldoffExpiry ring s
  | .hrCtrlEn ring en irq => Sys2Proof.Machine.execHrCtrlEn ring en irq s
  | .hrConsWrite ring v => Sys2Proof.Machine.execHrConsWrite ring v s
  | .cellarWriteIssue plot => Sys2Proof.Machine.execCellarWriteIssue plot s
  | .cellarWriteComplete plot => Sys2Proof.Machine.execCellarWriteComplete plot s
  | .replayGo w plot udp => Sys2Proof.Machine.execReplayGo w plot udp s
  | .replayCrateRead plot udp crate => Sys2Proof.Machine.execReplayCrateRead plot udp crate s
  | .trlPEnWrite w k on => Sys2Proof.Machine.execTrlPEnWrite w k on s
  | .trlPRetrain w k => Sys2Proof.Machine.execTrlPRetrain w k s
  | .trainingComplete k node ring port order => Sys2Proof.Machine.execTrainingComplete k node ring port order s
  | .trainingTimeout k => Sys2Proof.Machine.execTrainingTimeout k s
  | .downHoldoffExpiry k => Sys2Proof.Machine.execDownHoldoffExpiry k s
  | .flitRx k flit => Sys2Proof.Machine.execFlitRx k flit s
  | .resendTimerExpiry k => Sys2Proof.Machine.execResendTimerExpiry k s
  | .creditTimeout k vc => Sys2Proof.Machine.execCreditTimeout k vc s
  | .credResyncResend k => Sys2Proof.Machine.execCredResyncResend k s
  | .decimatorSample codes filtered => Sys2Proof.Machine.execDecimatorSample codes filtered s
  | .holdMinExpiry o => Sys2Proof.Machine.execHoldMinExpiry o s
  | .activationStart c => Sys2Proof.Machine.execActivationStart c s
  | .exit c status => Sys2Proof.Machine.execExit c status s
  | .wait c mask => Sys2Proof.Machine.execWait c mask s
  | .jobInput c buf => Sys2Proof.Machine.execJobInput c buf s
  | .steer c pipe addr count => Sys2Proof.Machine.execSteer c pipe addr count s
  | .steerSeq c pipe => Sys2Proof.Machine.execSteerSeq c pipe s
  | .modelLoad c m => Sys2Proof.Machine.execModelLoad c m s
  | .modelUnload c m => Sys2Proof.Machine.execModelUnload c m s
  | .modelGraft c m => Sys2Proof.Machine.execModelGraft c m s
  | .modelState c m => Sys2Proof.Machine.execModelState c m s
  | .trlReserve c port credits => Sys2Proof.Machine.execTrlReserve c port credits s
  | .trlRelease c port => Sys2Proof.Machine.execTrlRelease c port s
  | .fwdSet c e stream v => Sys2Proof.Machine.execFwdSet c e stream v s
  | .cfwdSet c on node => Sys2Proof.Machine.execCfwdSet c on node s
  | .time c => Sys2Proof.Machine.execTime c s
  | .runnerTrap c sub => Sys2Proof.Machine.execRunnerTrap c sub s
  | .trackerRun onBed n => Sys2Proof.Machine.execTrackerRun onBed n s
  | .pwrReqDormancy w => Sys2Proof.Machine.execPwrReqDormancy w s
  | .dormancyGated => Sys2Proof.Machine.execDormancyGated s
  | .pwrReqRun w => Sys2Proof.Machine.execPwrReqRun w s
  | .dormancyExitPowered => Sys2Proof.Machine.execDormancyExitPowered s
  | .pwrReqFrost w => Sys2Proof.Machine.execPwrReqFrost w s
  | .frostDrainDone => Sys2Proof.Machine.execFrostDrainDone s
  | .wakeSourceFire src rising => Sys2Proof.Machine.execWakeSourceFire src rising s
  | .frostExitReady => Sys2Proof.Machine.execFrostExitReady s
  | .nvmeCompletion completion slot gen => Sys2Proof.Machine.execNvmeCompletion completion slot gen s
  | .nvmeCommandTimeout slot ok => Sys2Proof.Machine.execNvmeCommandTimeout slot ok s
  | .modelLoadTimeout k => Sys2Proof.Machine.execModelLoadTimeout k s
  | .watchdogExpiry served => Sys2Proof.Machine.execWatchdogExpiry served s
  | .watchdogStage2 env => Sys2Proof.Machine.execWatchdogStage2 env s
  | .shedException served => Sys2Proof.Machine.execShedException served s
  | .thermtrip => Sys2Proof.Machine.execThermtrip s
  | .tempHiChange hot => Sys2Proof.Machine.execTempHiChange hot s
  | .bar0TlpRefused read => Sys2Proof.Machine.execBar0TlpRefused read s
  | .pcieLinkReset => Sys2Proof.Machine.execPcieLinkReset s
  | .ethLinkChange n up blockLock anDone => Sys2Proof.Machine.execEthLinkChange n up blockLock anDone s
  | .registerWrite w ctx addr bytes v => Sys2Proof.Machine.execRegisterWrite w ctx addr bytes v s
  | .trellisBlockLockLoss k lane => Sys2Proof.Machine.execTrellisBlockLockLoss k lane s
  | .flitTx k => Sys2Proof.Machine.execFlitTx k s
  | .ethEgressTimestamp n seq => Sys2Proof.Machine.execEthEgressTimestamp n seq s
  | .aonOscillatorRunning => Sys2Proof.Machine.execAonOscillatorRunning s
  | .rootPortRecovery => Sys2Proof.Machine.execRootPortRecovery s
  | .jtagTapUpdate op => Sys2Proof.Machine.execJtagTapUpdate op s
  | .registerRead w addr bytes => Sys2Proof.Machine.execRegisterRead w addr bytes s
  | .fenceNvmeRetire k => Sys2Proof.Machine.execFenceNvmeRetire k s

end Sys2Proof.Machine
end

