-- ==== Sys2Proof/Safety.lean ====
section
/-! DEFINITION. What counts as a safe run: the invariants that claims name. -/

namespace Sys2Proof.Machine

/-- The two byte memories keep their canonical form: addresses rise strictly, and no listed byte is the one that an unlisted address
reads as. -/
def State.memWf (s : State) : Prop := Memory.wf s.part.mem = true ∧ FMap.wf norDefault s.part.nor = true

/-- A run of `n` steps from a state meets no fault and no refusal. -/
def State.safeFor (n : Nat) (s : State) : Prop := ∃ s', Sys2Proof.core.run n s = .next s'

/-- `q` is `p` but for what the forming of records changes: the crates and histories of Harvest, the counts of the next HEARTBEAT, the marks
of the Shed's rules, and registers of the HVS block. -/
def Part.RecordsOnly (p q : Part) : Prop :=
  q = { p with regs := q.regs, hvs := q.hvs, plots := q.plots, rules := q.rules } ∧
    ∀ a, a / 0x100000 ≠ 7 → q.reg a = p.reg a

end Sys2Proof.Machine

/-! What claims say of a command. -/

open Sys2Proof Sys2Proof.Machine

namespace Sys2Proof.Claim

/-- The units of a command are within their operating conditions, and no forward step of the Sundial is half applied. The second part is
an invariant (`Obligations.NoStepOutstanding`). -/
abbrev Ready (s : State) : Prop := s.part.outside true = false ∧ s.part.sdl.step = 0

/-- As `Ready`, for what runs without a PLL: the always-on domain and the reset pins. -/
abbrev ReadyAon (s : State) : Prop := s.part.outside false = false ∧ s.part.sdl.step = 0

/-- The command completes in a next state of which `Q` holds. -/
def Completes (c : Instr) (s : State) (Q : State → Prop) : Prop := ∃ t, exec c s = .next t ∧ Q t

/-- `t` is `s` but for the registers listed. -/
def RegsOnly (l : List Nat) (s t : State) : Prop :=
  (∀ a, a ∉ l → t.part.reg a = s.part.reg a) ∧ t = { s with part := { s.part with regs := t.part.regs } }

/-- Plot 0 firmware, which reaches every register at its own address (R37), while the Shed runs. -/
abbrev Firmware (s : State) (w : Who) : Prop := w.kind ≠ .host ∧ w.plot = 0 ∧ s.part.shedUp = true

/-- The initiator can issue an access (its plot runs, or the Shed does) and reaches a register that belongs to plot `owner`: it is plot 0
firmware, or acts for that plot (R30, R37). -/
abbrev Reaches (s : State) (w : Who) (owner : Nat) : Prop :=
  w.kind ≠ .host ∧ s.part.issues w = true ∧ (w.plot = 0 ∨ w.plot.val = owner)

/-- Besides thread `th` of bed `b` and that bed's other state, only memory and BED_STATUS may differ. -/
def BedRest (b th : Nat) (s t : State) : Prop :=
  (∀ i, i ≠ th → t.part.thread b i = s.part.thread b i) ∧ (∀ c, c ≠ b → t.part.bed c = s.part.bed c) ∧
  (∀ a, a ≠ R.BED_STATUS b → t.part.reg a = s.part.reg a) ∧
  t = { s with part := { s.part with regs := t.part.regs, beds := t.part.beds, mem := t.part.mem } }

/-- Only thread `th` of bed `b` and BED_STATUS differ. -/
def ThreadOnly (b th : Nat) (s t : State) : Prop :=
  BedRest b th s t ∧ t.part.mem = s.part.mem ∧ t.part.bed b = { s.part.bed b with threads := (t.part.bed b).threads }

/-- A thread `u` has retired an instruction of `len` bytes that writes `v` to x register `rd`: x0 discards it and reads 0, the other
registers stay, and one more instruction is counted. -/
def Retired (rd : Nat) (v : Word) (len : Nat) (u w : Thread) : Prop :=
  (∀ r, r < 32 → xReg w r = if r = 0 then 0 else if r = rd then v else xReg u r) ∧
  w = { u with x := w.x, pc := u.pc + BitVec.ofNat 32 len, instret := u.instret + 1 }

/-- A thread `u` has retired a 32-bit instruction that changes what `f` says and no x register. -/
def RetiredAs (f : Thread → Thread) (u w : Thread) : Prop := w = f { u with pc := u.pc + 4, instret := u.instret + 1 }

/-- Outside channel `c` of Barrow only memory and the registers listed differ. -/
def ChannelOnly (c : Nat) (l : List Nat) (s t : State) : Prop :=
  (∀ d, d ≠ c → t.part.chan d = s.part.chan d) ∧ (∀ a, a ∉ l → t.part.reg a = s.part.reg a) ∧
  t = { s with part := { s.part with regs := t.part.regs, mem := t.part.mem, brw := t.part.brw } }

/-- The registers that follow a channel's state. -/
def chRegs (c : Nat) : List Nat := [R.BRW_CH_STATE c, R.BRW_STAT, R.BRW_ACTIVE_LO, R.BRW_ACTIVE_HI]

/-- What a change of a Trellis port may touch beside the port: routes, counts and ring control frames, all in Trellis's own registers and unit,
and the link keys in use. -/
def TrellisOnly (s t : State) : Prop :=
  (∀ a, a / 0x100000 ≠ 8 → a ≠ R.KEY_LINK_USED → t.part.reg a = s.part.reg a) ∧
  t = { s with part := { s.part with regs := t.part.regs, trl := t.part.trl, key := t.part.key } }

/-- Core `c` runs activation `a` of a Runner, and no detected fault stops it: it can make a system call. -/
abbrev Calls (s : State) (c : Nat) (a : Act) : Prop :=
  s.part.core c = some a ∧ s.part.calls c = true ∧ a.cmd.task = .runner a.runner

/-- A system call of `a` returned these two values, and beside what leaves the Frexia only the registers listed differ. -/
def Answered (a : Act) (a0 : Int) (a1 : Nat) (l : List Nat) (s t : State) : Prop :=
  t.part.out = .syscall a.runner (twos 64 a0) a1 :: s.part.out ∧ (∀ r, r ∉ l → t.part.reg r = s.part.reg r) ∧
  t.part.mem = s.part.mem ∧ t.part.nor = s.part.nor ∧ t.sun = s.sun ∧ t.pending = s.pending

end Sys2Proof.Claim
end

