-- ==== Sys2Proof/Certificates/Slice0/Obligations.lean ====
section
/-! DEFINITION. The statements for the provers. Every command of the opcode table has a statement of where it completes and of what it
leaves; the statements of one family stand together. Each docstring names the rule of the spec, or says that a clause is the
model's choice and names the entry of the assumption log. -/

open Sys2Proof Sys2Proof.Machine Sys2Proof.Claim

/-- A step takes the command at the front of the queue and runs it on the state with the queue's rest. -/
def Obligations.StepRunsFront : Prop :=
  ∀ (c : Instr) (rest : List Instr) (s : State), step { s with pending := c :: rest } = exec c { s with pending := rest }

/-- No command is refused: it ends in a next state with the queue as it was, or, where the operating conditions are left (R3, R43, R633, R685), in the
one fault that says so. -/
def Obligations.CommandsNeverRefused : Prop :=
  ∀ (c : Instr) (s : State), (∃ t, exec c s = .next t ∧ t.pending = s.pending) ∨
    (exec c s = .fault .outsideConditions ∧ s.part.outside true = true)

/-- An ill-formed command names nothing that the block has: within the operating conditions it changes nothing (the model's choice, assumption 1). -/
def Obligations.IllFormedDoesNothing : Prop :=
  ∀ (c : Instr) (s : State), c.wf = false → s.part.outside true = false → exec c s = .next s

/-- After THERMTRIP_N has asserted, every command but a power-on reset and THERMTRIP_N itself ends in the fault of R633 (the spec promises no
behaviour; that the model faults is its choice, assumption 63), and a power-on reset releases THERMTRIP_N. -/
def Obligations.ThermtripStopsAll : Prop :=
  (∀ (c : Instr) (s : State), s.part.pins.thermtrip = true → c ≠ .porstNAssert → c ≠ .thermtrip →
    exec c s = .fault .outsideConditions) ∧
  (∀ s : State, s.part.pins.thermtrip = true → Completes .porstNAssert s (fun t => t.part.pins.thermtrip = false ∧
    t.part.outside true = false))

/-- How the Sundial moves (R50, R51, R65, R69), from every state and whatever step answers a next state, but the assertion of a power-on reset. A
command moves the count forward by whole nanoseconds, modulo its 64 bits, and no command changes the fraction. Without a command either the
Sundial stays, its source not running, or the edge adds a positive increment, below 2^47 units of 2^-32 ns, modulo the 96 bits of count and
fraction, provided that the rate in effect lies within R53's clamp: short of the wrap the Sundial never decreases. -/
def Obligations.SundialMovesForward : Prop :=
  ∀ s t : State, step s = .next t → s.pending.head? ≠ some .porstNAssert →
    (s.pending ≠ [] → (∃ n, n < 2 ^ 64 ∧ t.sun.toNat = (s.sun.toNat + n * 2 ^ 32) % 2 ^ 96) ∧
      t.sun.toNat % 2 ^ 32 = s.sun.toNat % 2 ^ 32) ∧
    (s.pending = [] → s.part.sourceRuns = false → t.sun = s.sun) ∧
    (s.pending = [] → s.part.sourceRuns = true → -858993 ≤ s.part.rate → s.part.rate ≤ 858993 →
      ∃ n, 0 < n ∧ n < 2 ^ 47 ∧ t.sun.toNat = (s.sun.toNat + n) % 2 ^ 96)

/-- An invariant of every step: no forward step of the Sundial is half applied, so that the count that the registers show is the Sundial's own, and
the waiting commands are those that waited, without the one at the front. -/
def Obligations.NoStepOutstanding : Prop :=
  ∀ s t : State, s.part.sdl.step = 0 → step s = .next t → t.part.sdl.step = 0 ∧ t.pending = s.pending.tail

/-- On an empty queue time passes (the model's choice, assumption 2): one edge of the Sundial's source adds the increment of R51 for that source and
the rate in effect, rounded down to 2^-32 ns (assumption 64), modulo 2^96 (R69); no register and no byte changes. While the source does not run,
nothing changes. -/
def Obligations.EmptyQueueEdge : Prop :=
  ∀ s : State, s.pending = [] →
    (s.part.sourceRuns = false → step s = .next s) ∧
    (s.part.sourceRuns = true → ∃ t, step s = .next t ∧
      (let k := (2 ^ 32 : Int) + s.part.rate
       let n : Int := if s.part.get F.SDL_STATUS_SRC = 0 then k else if s.part.get F.SDL_STATUS_SRC = 1 then 40 * k
         else k * 1953125 / 64
       (t.sun.toNat : Int) = (s.sun.toNat + n) % 2 ^ 96) ∧
      t.part.regs = s.part.regs ∧ t.part.mem = s.part.mem ∧ t.part.nor = s.part.nor ∧ t.part.sdl = s.part.sdl ∧
      t.part.pins = s.part.pins ∧ t.part.boot = s.part.boot ∧ t.pending = [])

/-- The state right after reset (R8, R50, R607): the Sundial reads 0 with TIME_VALID 0, every register has its Reset value, PORST_N is low, no
condition is left, both byte memories are in their canonical form, and no command waits. -/
def Obligations.ResetState : Prop :=
  let s := State.reset
  s.sun = 0 ∧ s.ns = 0 ∧ s.pending = [] ∧ (∀ a, s.part.reg a = regReset a) ∧ s.part.get F.SDL_STATUS_TIME_VALID = 0 ∧
  s.part.get F.SHD_REV_REV = 0xB1 ∧ s.part.get F.SHD_BOOT_STATE_SLOT = 3 ∧ s.part.get F.FLT_STATUS_FAULT_N = 0 ∧
  s.part.boot.phase = .porHeld ∧ s.part.pins.porst = false ∧ s.part.outside true = false ∧ s.part.sdl.step = 0 ∧
  State.memWf s ∧ (∀ a, s.part.norByte a = 0xFF) ∧ s.part.out = []

/-- The reset pins (R607, R610, R105, R657). PORST_N low leaves every register at its Reset value, the Sundial at 0 and NOR flash as it was, whatever
the state before. PORST_N high starts the boot, or leaves the Frexia held while RESET_N is low. RESET_N low keeps NOR and memory, closes what was
open, and returns to Reset every register that is not kept; RESET_N high starts the boot again. A boot ends in the bare state, before the NVMe
step or in the boot loads. That the byte memory lists nothing after a power-on reset is the model's choice (assumption 5). -/
def Obligations.ResetPinsComplete : Prop :=
  (∀ s : State, Completes .porstNAssert s (fun t => t.sun = 0 ∧ (∀ a, t.part.reg a = regReset a) ∧
    t.part.get F.SDL_STATUS_TIME_VALID = 0 ∧ t.part.nor = s.part.nor ∧ t.part.mem = [] ∧ t.part.boot.phase = .porHeld ∧
    t.part.pins.porst = false ∧ t.part.pins.resetN = s.part.pins.resetN ∧ t.pending = s.pending)) ∧
  (∀ (env : BootEnv) (s : State), ReadyAon s → s.part.boot.phase = .porHeld → s.part.pins.refclk = true →
    s.part.pins.resetN = false → Completes (.porstNRelease env) s (fun t =>
      t.part.reg R.KEY_FUSES = Config.fuses.setWidth 32 ∧ (∀ a, a ≠ R.KEY_FUSES → t.part.reg a = s.part.reg a) ∧
      t = { s with part := { s.part with regs := t.part.regs, pins := { s.part.pins with porst := true },
                                         boot := { s.part.boot with phase := .resetHeld } } })) ∧
  (∀ (env : BootEnv) (s : State), ReadyAon s → s.part.boot.phase = .porHeld → s.part.pins.refclk = true →
    s.part.pins.resetN = true → Completes (.porstNRelease env) s (fun t =>
      t.part.boot.phase = .bare ∨ t.part.boot.phase = .nvme ∨ t.part.boot.phase = .loads)) ∧
  (∀ s : State, ReadyAon s → s.part.boot.phase ≠ .porHeld → s.part.pins.resetN = true → Completes .resetNAssert s (fun t =>
    t.part.boot.phase = .resetHeld ∧ t.part.pins.resetN = false ∧ t.part.get F.PWR_RESET_CAUSE_LAST = 1 ∧
    t.part.boot.session = none ∧ t.part.boot.windowOpen = false ∧
    (∀ a, keptByReset a = false → a ≠ R.PWR_RESET_CAUSE → t.part.reg a = regReset a) ∧
    t.part.nor = s.part.nor ∧ t.part.mem = s.part.mem ∧ t.pending = s.pending)) ∧
  (∀ (env : BootEnv) (s : State), ReadyAon s → s.part.boot.phase = .resetHeld → s.part.pins.refclk = true →
    Completes (.resetNRelease env) s (fun t =>
      t.part.boot.phase = .bare ∨ t.part.boot.phase = .nvme ∨ t.part.boot.phase = .loads))

/-- The boot's later steps and the Replant (R105, R121, R118, R124, R503). The endpoint's link trains with the speed, width and MSI vectors granted.
The NVMe step, the admission of step 13 and the end of the hardening-off window have the effect that their own operations give them. A drained
Replant has no job left; the flush boots again; a staging session without a command for 60 s closes. -/
def Obligations.BootStepsComplete : Prop :=
  (∀ (speed width msi : Nat) (s : State), Ready s → speed < 8 → width < 16 → msi < 32 → s.part.epTrains = true →
    Completes (.pcieEpLinkTrained speed width msi) s (fun t => t.part.get F.PEP_LINK_UP = 1 ∧
      t.part.get F.PEP_LINK_SPEED = speed ∧ t.part.get F.PEP_LINK_WIDTH = width ∧ t.part.get F.PEP_LINK_MSI = msi ∧
      RegsOnly [R.PEP_LINK] s t)) ∧
  (∀ (a : SsdAnswer) (s : State), Ready s → s.part.nvmeAwaited = true →
    exec (.nvmeBringUp a) s = .next (s.settle (s.part.nvmeBringUp s.ns a))) ∧
  (∀ s : State, Ready s → s.part.admissionReady = true → exec .bootAdmission s = .next (s.settle (s.part.admission s.ns))) ∧
  (∀ s : State, Ready s → s.part.drainEnds s.ns = true → Completes .replantJobDrainEnd s (fun t =>
    t.part.boot.drained = true ∧ t.part.jobs.jobs = [] ∧ t.part.jobs.infers = [] ∧ t.part.jobs.ready = [])) ∧
  (∀ (env : BootEnv) (s : State), Ready s → s.part.get F.SHD_BOOT_STATE_REPLANT_PENDING = 1 → s.part.boot.drained = true →
    Completes (.replantFlushEnd env) s (fun t =>
      t.part.boot.phase = .bare ∨ t.part.boot.phase = .nvme ∨ t.part.boot.phase = .loads)) ∧
  (∀ (x : Session) (s : State), Ready s → s.part.shedUp = true → s.part.boot.session = some x → x.lastAt + 60000000000 ≤ s.ns →
    Completes .stagingSessionTimeout s (fun t => t.part.boot = { s.part.boot with session := none, timedOut := true } ∧
      t.part.get F.SHD_BOOT_STATE_STAGING = 0 ∧ (∀ a, a ≠ R.SHD_BOOT_STATE → t.part.reg a = s.part.reg a) ∧
      t = { s with part := { s.part with regs := t.part.regs, boot := t.part.boot } })) ∧
  (∀ s : State, Ready s → s.part.windowOver = true → exec .hardeningWindowEnd s = .next (s.settle (s.part.windowEnd s.ns))) ∧
  (∀ (watts checkins : Nat) (s : State), Ready s → watts < 65536 → checkins < 64 → s.part.sdl.lastTick < s.ns / 1000000 →
    exec (.managementTick watts checkins) s = .next (s.settle (s.part.managementTick s.ns watts checkins)))

/-- A mailbox command that the host writes while BUSY is 0 waits with its tag and arguments, BUSY set, until the Shed's tick; nothing else changes
(R116, R130). A mailbox command written while BUSY is 1 is discarded and sets OVERRUN (R130). -/
def Obligations.MailboxCommands : Prop :=
  (∀ (tag : Nat) (a0 a1 : Word) (s : State), Ready s → tag < 65536 → s.part.get F.PEP_LINK_UP = 1 →
    s.part.get F.SHD_MBX_STATUS_BUSY = 0 →
    ∀ (c : Instr) (op : Nat) (args : List Word),
      (c, op, args) ∈ [(.stageBegin tag a0 a1, 1, [a0, a1]), (.stageWrite tag a0 a1, 2, [a0, a1]), (.stageEnd tag a0, 3, [a0]),
        (.replant tag, 4, []), (.rollback tag, 5, []), (.accept tag a0, 6, [a0]), (.setTime tag a0 a1, 7, [a0, a1]),
        (.ledgerRead tag a0, 8, [a0])] →
      Completes c s (fun t => t.part.get F.SHD_MBX_CMD_OP = op ∧ t.part.get F.SHD_MBX_CMD_TAG = tag ∧
        t.part.get F.SHD_MBX_STATUS_BUSY = 1 ∧ (∀ i, i < args.length → args[i]? = some (t.part.reg (R.SHD_MBX_ARG i))) ∧
        RegsOnly (R.SHD_MBX_CMD :: R.SHD_MBX_STATUS :: (List.range args.length).map R.SHD_MBX_ARG) s t)) ∧
  (∀ (tag : Nat) (a0 a1 : Word) (s : State), Ready s → tag < 65536 → s.part.get F.PEP_LINK_UP = 1 →
    s.part.get F.SHD_MBX_STATUS_BUSY = 1 →
    ∀ c ∈ [Instr.stageBegin tag a0 a1, .stageWrite tag a0 a1, .stageEnd tag a0, .replant tag, .rollback tag, .accept tag a0,
      .setTime tag a0 a1, .ledgerRead tag a0],
      Completes c s (fun t => t.part.get F.SHD_MBX_STATUS_OVERRUN = 1 ∧ t.part.get F.SHD_MBX_STATUS_BUSY = 1 ∧
        RegsOnly [R.SHD_MBX_STATUS] s t))

/-- The Shed serves the waiting mailbox command at a tick (R116, R118, R119, R123, R128, R689). Whatever the command, BUSY is then 0. The first
command after a session has timed out receives RESULT 6, and while a session is open every opcode but STAGE_WRITE, STAGE_END and LEDGER_READ
receives 3. STAGE_BEGIN on the other slot erases the staged size, rounded up to 4 KiB, and opens the session; with the window open it receives 3.
REPLANT orders a Replant and ACCEPT accepts the image within the window. SET_TIME while LOCKED, and an ACCEPT outside the window, receive 3. -/
def Obligations.MailboxServed : Prop :=
  ∀ (t : Nat) (p : Part), p.get F.SHD_MBX_STATUS_BUSY = 1 →
    let op := p.get F.SHD_MBX_CMD_OP
    let a0 := p.get (F.SHD_MBX_ARG_ARG 0)
    let a1 := p.get (F.SHD_MBX_ARG_ARG 1)
    let q := p.mbxService t
    let result := q.get F.SHD_MBX_STATUS_RESULT
    let free := p.boot.timedOut = false ∧ p.boot.session = none ∧ p.boot.phase ≠ .bare
    q.get F.SHD_MBX_STATUS_BUSY = 0 ∧
    (p.boot.timedOut = true → result = 6 ∧ q.boot = { p.boot with timedOut := false }) ∧
    (p.boot.timedOut = false → p.boot.session ≠ none → op ≠ 2 → op ≠ 3 → op ≠ 8 → result = 3 ∧ q.nor = p.nor ∧ q.boot = p.boot) ∧
    (free → op = 1 → a0 = 0 → p.boot.windowOpen = true → result = 3 ∧ q.nor = p.nor ∧ q.boot = p.boot) ∧
    (free → op = 1 → a0 = 0 → p.boot.windowOpen = false → a1 ≤ 0x1000000 → result = 0 ∧
      q.boot.session = some { target := 0, size := a1, lastAt := t } ∧ q.get F.SHD_BOOT_STATE_STAGING = 1 ∧
      ∀ a, q.norByte a = if slotBase p.inactive ≤ a ∧ a < slotBase p.inactive + (a1 + 4095) / 4096 * 4096 then 0xFF else p.norByte a) ∧
    (free → op = 4 → p.get F.SHD_BOOT_STATE_REPLANT_PENDING = 0 → p.boot.order = none → result = 0 ∧ q.nor = p.nor ∧
      q.boot = { p.boot with order := some { rank := 3, code := 2 } }) ∧
    (free → op = 6 → p.boot.windowOpen = true → a0 = p.runSeq → result = 0 ∧ q.nor = p.nor ∧
      q.boot = { p.boot with accepted := true }) ∧
    (free → op = 6 → (p.boot.windowOpen = false ∨ a0 ≠ p.runSeq) → result = 3 ∧ q.nor = p.nor ∧ q.boot = p.boot) ∧
    (free → op = 7 → p.get F.SDL_STATUS_LOCKED = 1 → result = 3 ∧ q.sdl = p.sdl ∧ q.nor = p.nor ∧ q.boot = p.boot) ∧
    (free → op = 0 ∨ 8 < op → result = 1 ∧ q.nor = p.nor ∧ q.boot = p.boot)

/-- R34: BAR0 takes only one DW with all four byte enables. A read of any other shape is completed with Completer Abort, a write of any other shape is
discarded, and each is counted; nothing else changes. A read or a write of one DW is not counted as a refused shape. -/
def Obligations.BarShape : Prop :=
  ∀ s : State, Ready s → s.part.get F.PEP_LINK_UP = 1 →
    let counted (t : State) : Prop := t.part.get F.PEP_ERR_SHAPE_COUNT = min (s.part.get F.PEP_ERR_SHAPE_COUNT + 1) 65535
    (∀ (addr bytes : Nat), bytes < 9 → ¬(bytes = 4 ∧ addr % 4 = 0) →
      Completes (.registerRead hostWho addr bytes) s (fun t => counted t ∧ t.part.out = .completerAbort :: s.part.out ∧
        RegsOnly [R.PEP_ERR_SHAPE] { s with part := { s.part with out := t.part.out } } t) ∧
      ∀ (ctx : Nat) (v : Word), ctx < 2 ^ 32 → Completes (.registerWrite hostWho ctx addr bytes v) s (fun t => counted t ∧
        RegsOnly [R.PEP_ERR_SHAPE] s t)) ∧
    (∀ read : Bool, Completes (.bar0TlpRefused read) s (fun t => counted t ∧
      t.part.out = (if read then .completerAbort :: s.part.out else s.part.out) ∧
      RegsOnly [R.PEP_ERR_SHAPE] { s with part := { s.part with out := t.part.out } } t)) ∧
    (∀ addr : Nat, addr % 4 = 0 →
      (∃ v, Completes (.registerRead hostWho addr 4) s (fun t => .readData hostWho v ∈ t.part.out)) ∧
      Completes (.registerRead hostWho addr 4) s (fun t => t.part.reg R.PEP_ERR_SHAPE = s.part.reg R.PEP_ERR_SHAPE) ∧
      ∀ (ctx : Nat) (v : Word), ctx < 2 ^ 32 → Completes (.registerWrite hostWho ctx addr 4 v) s (fun t =>
        t.part.reg R.PEP_ERR_SHAPE = s.part.reg R.PEP_ERR_SHAPE))

/-- The access codes of R6, R7 and R35, by plot 0 firmware at a register's own address: RW takes the value written, W1C clears the bits written as 1,
RO ignores a write, RC reads and is then 0, WO reads 0. A reserved offset reads 0 and ignores a write. A word access at an address that is no
multiple of 4, or of another width, is a bus error and is logged. A link reset of the PCIe endpoint (R609): the link fields and every ring
register return to Reset but READY, which is kept; the mailbox, a staging session and every other register are as before. Every register access
has the effect of its operation. -/
def Obligations.RegisterAccesses : Prop :=
  (∀ (w : Who) (ctx : Nat) (v : Word) (s : State), Ready s → Firmware s w → ctx < 2 ^ 32 →
    let at_ (a : Nat) : Nat := 0x1020000000 + a
    let answers (x : Word) (l : List Nat) (t : State) : Prop := t.part.out = .readData w x :: s.part.out ∧
      RegsOnly l { s with part := { s.part with out := t.part.out } } t
    Completes (.registerWrite w ctx (at_ R.FLT_WDOG_CFG) 4 v) s (fun t => t.part.get F.FLT_WDOG_CFG_MS = v.bits 15 0 ∧
      RegsOnly [R.FLT_WDOG_CFG] s t) ∧
    Completes (.registerWrite w ctx (at_ R.FLT_EVENTS) 4 v) s (fun t =>
      (∀ i, i < 8 → (t.part.get F.FLT_EVENTS_EVT).testBit i = ((s.part.get F.FLT_EVENTS_EVT).testBit i && !v.getLsbD i)) ∧
      RegsOnly [R.FLT_EVENTS] s t) ∧
    Completes (.registerWrite w ctx (at_ R.SHD_REV) 4 v) s (RegsOnly [] s) ∧
    Completes (.registerRead w (at_ R.SHD_RUN_SEQ) 4) s (answers (s.part.reg R.SHD_RUN_SEQ) []) ∧
    Completes (.registerRead w (at_ R.FLT_STALE_NVME) 4) s (fun t => t.part.get F.FLT_STALE_NVME_COUNT = 0 ∧
      answers (BitVec.ofNat 32 (s.part.get F.FLT_STALE_NVME_COUNT)) [R.FLT_STALE_NVME] t) ∧
    Completes (.registerRead w (at_ R.SDL_STEP_LO) 4) s (answers 0 []) ∧
    (∀ a : Nat, a < 22 * 0x100000 → a % 4 = 0 → implemented a = false →
      Completes (.registerWrite w ctx (at_ a) 4 v) s (fun t => t = s) ∧ Completes (.registerRead w (at_ a) 4) s (answers 0 [])) ∧
    (∀ (a bytes : Nat), a < 22 * 0x100000 → bytes < 9 → ¬(bytes = 4 ∧ a % 4 = 0) →
      Completes (.registerRead w (at_ a) bytes) s (fun t => .busError w ∈ t.part.out ∧
        t.part.get F.FLT_ACC_HEAD_COUNT = (s.part.get F.FLT_ACC_HEAD_COUNT + 1) % 2 ^ 32 ∧
        (∀ r, r / 0x100000 ≠ 18 → t.part.reg r = s.part.reg r) ∧ t.part.mem = s.part.mem))) ∧
  ((∀ s : State, Ready s → s.part.get F.PEP_LINK_UP = 1 → Completes .pcieLinkReset s (fun t =>
    t.part.reg R.PEP_LINK = regReset R.PEP_LINK ∧
    (∀ k, k < 9 → t.part.get (F.HR_STAT_READY k) = s.part.get (F.HR_STAT_READY k) ∧ t.part.get (F.HR_CTRL_EN k) = 0) ∧
    (∀ a, isHostRing a = true → (∀ k, k < 9 → a ≠ R.HR_STAT k) → t.part.reg a = regReset a) ∧
    (∀ a, isHostRing a = false → a ≠ R.PEP_LINK → t.part.reg a = s.part.reg a) ∧
    t.part.boot = s.part.boot ∧ t.part.mem = s.part.mem ∧ t.part.nor = s.part.nor)) ∧
  (∀ (w : Who) (ctx addr bytes : Nat) (v : Word) (s : State), Ready s → ctx < 2 ^ 32 → bytes < 9 → s.part.issues w = true →
    exec (.registerWrite w ctx addr bytes v) s = .next (s.settle (s.part.registerWrite s.ns w ctx addr bytes v)) ∧
    exec (.registerRead w addr bytes) s = .next (s.settle (s.part.registerRead s.ns w addr bytes))))

/-- A plot's access outside its map (R35 to R37, R693): no byte and no register but the fault unit's changes; the access log's next entry names the
plot, the initiator, the direction, outcome 1 and the address as issued; a read answers an access fault. -/
def Obligations.OutsideAccessRefused : Prop :=
  ∀ (w : Who) (ctx addr bytes : Nat) (v : Word) (s : State), Ready s → ctx < 2 ^ 32 → bytes < 9 → w.kind ≠ .host → w.plot ≠ 0 →
    s.part.issues w = true → s.part.fenced w.plot = false → pageAddr addr = none →
    let entry (write : Bool) (t : State) : Prop :=
      let i := s.part.get F.FLT_ACC_HEAD_COUNT % 32 * 8
      t.part.get F.FLT_ACC_HEAD_COUNT = (s.part.get F.FLT_ACC_HEAD_COUNT + 1) % 2 ^ 32 ∧
      t.part.reg (R.FLT_ACC_LOG i) = BitVec.ofNat 32 (w.plot.val + 16 * w.kind.code + 256 * write.toNat + 512) ∧
      t.part.reg (R.FLT_ACC_LOG (i + 1)) = BitVec.ofNat 32 addr ∧
      t.part.reg (R.FLT_ACC_LOG (i + 2)) = BitVec.ofNat 32 (addr / 2 ^ 32 % 2 ^ 16) ∧
      (t.part.get F.FLT_EVENTS_EVT).testBit 0 = true ∧
      (∀ r, r / 0x100000 ≠ 18 → t.part.reg r = s.part.reg r) ∧
      t = { s with part := { s.part with regs := t.part.regs, out := t.part.out } }
    (s.part.memKeys w.plot.val addr bytes true = none →
      Completes (.registerWrite w ctx addr bytes v) s (entry true)) ∧
    (s.part.memKeys w.plot.val addr bytes false = none →
      Completes (.registerRead w addr bytes) s (fun t => entry false t ∧ .accessFault w ∈ t.part.out))

/-- The events of the Sundial that its own clock and the pins bring about (R43, R58, R61, R689, R690, R55, R63). A loss of lock clears LOCKED and
starts holdover, with HOLD_BOUNDED as R60's conditions stand; a slew that has removed its offset leaves the base rate alone; REFCLK lost sets SRC
2 and REF_LOST, and its return sets REF_RESTORED while SRC stays. An egress stamp shows the sequence identifier, and its error is within the bound
of the Sundial's source. A second outside the running phase only takes the sample and raises PPS; otherwise it, a timer's fire and a gained lock
have the effect of their own operations. A GPIO edge changes the ball's level and, where the Frexia runs, the edge is enabled and the queue of 32
has room, appends one capture whose stamp is within the bound of the Sundial's source (R55). An edge that is armed as a wake source is not meant
here. -/
def Obligations.SundialEvents : Prop :=
  ((∀ (hottest tcxo : Int) (s : State), Ready s → s.part.sdl.lastSec < s.ns / 1000000000 → s.part.live = false →
    Completes (.secondBoundary hottest tcxo) s (fun t =>
      t.part.pins = { s.part.pins with pps := s.part.pins.pps || s.part.on F.SDL_CAP_CTRL_PPS_EN } ∧
      t.part.sdl = { s.part.sdl with
        lastSec := s.ns / 1000000000, temps := ((s.ns / 1000000000, tcxo) :: s.part.sdl.temps).take 3601 } ∧
      t = { s with part := { s.part with pins := t.part.pins, sdl := t.part.sdl } })) ∧
  (∀ (hottest tcxo : Int) (s : State), Ready s → s.part.sdl.lastSec < s.ns / 1000000000 →
    exec (.secondBoundary hottest tcxo) s = .next (s.settle (s.part.second s.ns hottest tcxo))) ∧
  (∀ s : State, Ready s → s.part.pins.pps = true → 500000000 ≤ s.ns % 1000000000 →
    exec .ppsFall s = .next { s with part := { s.part with pins := { s.part.pins with pps := false } } }) ∧
  (∀ (n : Nat) (s : State), Ready s → n < 64 → s.part.timerDue s.ns n = true →
    exec (.timerFire n) s = .next (s.settle (s.part.timerFire s.ns n))) ∧
  (∀ s : State, ReadyAon s → s.part.pins.refclk = true → Completes .refclkLoss s (fun t =>
    t.part.pins = { s.part.pins with refclk := false, refLost := true } ∧ t.part.get F.SDL_STATUS_SRC = 2 ∧
    t.part.get F.SDL_EVENTS_REF_LOST = 1 ∧ t.part.get F.SDL_STATUS_HOLD_BOUNDED = 0 ∧
    (∀ a, a ∉ [R.SDL_STATUS, R.SDL_EVENTS] → t.part.reg a = s.part.reg a) ∧
    t = { s with part := { s.part with regs := t.part.regs, pins := t.part.pins,
                                       sdl := { s.part.sdl with boundedSoFar := false } } })) ∧
  (∀ s : State, ReadyAon s → s.part.pins.refclk = false → s.part.pins.refLost = true → Completes .refclkReturn s (fun t =>
    t.part.pins = { s.part.pins with refclk := true } ∧ t.part.get F.SDL_EVENTS_REF_RESTORED = 1 ∧
    (∀ a, a ≠ R.SDL_EVENTS → t.part.reg a = s.part.reg a) ∧
    t = { s with part := { s.part with regs := t.part.regs, pins := t.part.pins } })) ∧
  (∀ (n : Nat) (st : PtpState) (s : State), Ready s → n < 2 → s.part.ptpOn n st = true →
    Completes (.ptpMessageRx n st none) s (fun t => t.part.sdl.ptp = s.part.sdl.ptp.set n st ∧
      t = { s with part := { s.part with sdl := { s.part.sdl with ptp := t.part.sdl.ptp, withinSince := t.part.sdl.withinSince } } })) ∧
  (∀ (n : Nat) (off freq slew : Int) (s : State), Ready s → n < 2 → s.part.ptpOn n .slave = true → off ≤ (s.part.img.stepNs : Int) →
    s.part.get F.SDL_STATUS_LOCKED = 1 → Completes (.ptpMessageRx n .slave (some (off, freq, slew))) s (fun t =>
      t.part.sdl.baseRate = freq ∧ -858993 ≤ t.part.rate ∧ t.part.rate ≤ 858993 ∧
      (-858993 ≤ freq → freq ≤ 858993 → t.part.rate = freq + t.part.sdl.slew) ∧ t.sun = s.sun ∧
      ∀ a, a ∉ [R.SDL_RATE, R.SDL_STATUS] → t.part.reg a = s.part.reg a)) ∧
  (∀ s : State, Ready s → s.part.lockDue s.ns = true → s.part.get F.SDL_STATUS_TIME_VALID = 1 →
    Completes .servoLockGained s (fun t => t.part.get F.SDL_STATUS_LOCKED = 1 ∧ t.part.get F.SDL_EVENTS_LOCK_GAINED = 1 ∧
      t.part.get F.SDL_STATUS_HOLDOVER = 0 ∧ t.part.get F.SDL_STATUS_HOLD_BOUNDED = 0 ∧ t.part.sdl.lockedAt = s.ns ∧
      (∀ a, a ∉ [R.SDL_STATUS, R.SDL_EVENTS] → t.part.reg a = s.part.reg a) ∧ t.part.mem = s.part.mem)) ∧
  (∀ s : State, Ready s → s.part.shedUp = true → s.part.get F.SDL_STATUS_LOCKED = 1 → s.part.anySlave = false →
    Completes .servoLockLost s (fun t => t.part.get F.SDL_STATUS_LOCKED = 0 ∧ t.part.get F.SDL_STATUS_HOLDOVER = 1 ∧
      t.part.get F.SDL_EVENTS_LOCK_LOST = 1 ∧ t.part.get F.SDL_STATUS_HOLD_BOUNDED = (s.part.boundStarts s.ns).toNat ∧
      (∀ a, a ∉ [R.SDL_STATUS, R.SDL_EVENTS] → t.part.reg a = s.part.reg a) ∧
      t = { s with part := { s.part with regs := t.part.regs, sdl := t.part.sdl } })) ∧
  (∀ s : State, Ready s → s.part.slewDone s.ns = true → Completes .slewEnd s (fun t =>
    t.part.rate = clampInt (-858993) 858993 s.part.sdl.baseRate ∧ t.part.get F.SDL_STATUS_SLEWING = 0 ∧
    (∀ a, a ∉ [R.SDL_RATE, R.SDL_STATUS] → t.part.reg a = s.part.reg a) ∧
    t = { s with part := { s.part with regs := t.part.regs, sdl := { s.part.sdl with slew := 0, slewSet := false, slewLeft := 0 } } })) ∧
  (∀ (n seq : Nat) (s : State), Ready s → n < 2 → seq < 65536 → s.part.ptpSends n = true → s.ns + 30518 < 2 ^ 64 →
    Completes (.ethEgressTimestamp n seq) s (fun t => t.part.get (F.ETH_TX_TS_ID_SEQ_ID n) = seq ∧
      t.part.get (F.ETH_TX_TS_ID_VALID n) = 1 ∧
      (let stamp := t.part.get64 (F.ETH_TX_TS_LO_TS n) (F.ETH_TX_TS_HI_TS n)
       s.ns ≤ stamp + s.part.capError ∧ stamp ≤ s.ns + s.part.capError) ∧
      (∀ a, a ∉ [R.ETH_TX_TS_LO n, R.ETH_TX_TS_HI n, R.ETH_TX_TS_ID n] → t.part.reg a = s.part.reg a) ∧
      t = { s with part := { s.part with regs := t.part.regs, free := s.part.free + 1 } }))) ∧
  (∀ (g : Nat) (rising : Bool) (s : State), Ready s → g < 8 → s.part.pins.gpioIn.testBit g ≠ rising → s.part.live = true →
    s.part.wakeFires s.ns (2 + g) rising = false →
    (if rising then s.part.get F.SDL_CAP_CTRL_RISE_EN else s.part.get F.SDL_CAP_CTRL_FALL_EN).testBit g = true →
    s.part.sdl.caps.length < 32 →
    Completes (.gpioEdgeCapture g rising) s (fun t => t.part.pins.gpioIn.testBit g = rising ∧
      (∀ i, i ≠ g → t.part.pins.gpioIn.testBit i = s.part.pins.gpioIn.testBit i) ∧
      (∃ c : Capture, t.part.sdl.caps = s.part.sdl.caps ++ [c] ∧ c.gpio = g ∧ c.rising = rising ∧
        s.ns ≤ c.stamp + s.part.capError ∧ c.stamp ≤ s.ns + s.part.capError) ∧
      t.part.regs = s.part.regs ∧ t.part.mem = s.part.mem ∧ t.sun = s.sun))

/-- R53: SDL_RATE holds the clamped value, which is the rate in effect, and a read returns it. Nothing but the rate changes. -/
def Obligations.RateIsClamped : Prop :=
  ∀ (w : Who) (v : Word) (s : State), Ready s → Firmware s w → Completes (.sdlRateWrite w v) s (fun t =>
    t.part.rate = (if v.toInt < -858993 then -858993 else if 858993 < v.toInt then 858993 else v.toInt) ∧
    (∀ n, ((t.part.regLoad n w R.SDL_RATE).1).toInt = t.part.rate) ∧
    (∀ a, a ≠ R.SDL_RATE → t.part.reg a = s.part.reg a) ∧
    t = { s with part := { s.part with regs := t.part.regs, sdl := { s.part.sdl with baseRate := t.part.sdl.baseRate } } })

/-- A forward step: a write of SDL_STEP_HI adds the 64-bit value, with SDL_STEP_LO as written before, to the Sundial at once, and sets STEPPED; a step
of 0 changes nothing (R65). The fraction stays, and the count wraps at 2^64 ns (R69). -/
def Obligations.StepMovesSundial : Prop :=
  ∀ (w : Who) (hi : Word) (s : State), Ready s → Firmware s w →
    let n := hi.toNat * 2 ^ 32 + s.part.sdl.stepLo.toNat
    Completes (.sundialStep w hi) s (fun t => t.sun.toNat = (s.sun.toNat + n * 2 ^ 32) % 2 ^ 96 ∧ t.part.sdl.step = 0 ∧
      (n = 0 → t = s) ∧ (n ≠ 0 → t.part.get F.SDL_EVENTS_STEPPED = 1))

/-- The read shadow of SDL_NOW (R54): a read of SDL_NOW_LO answers bits 31:0 of the Sundial's count and latches bits 63:32 into the reader's own
shadow; the other readers' shadows stay, so that the reader's read of SDL_NOW_HI gives the same count whatever is read in between. A read of
SDL_CAP_INFO takes the oldest capture: it answers the GPIO, the edge, the number held and VALID, removes the entry and shows its stamp in
SDL_CAP_LO and SDL_CAP_HI; with an empty queue it answers 0 and changes nothing (R54, the SDL registers). -/
def Obligations.SundialReads : Prop :=
  (∀ (w : Who) (s : State), Ready s → Reaches s w w.plot.val → Completes (.sdlNowLoRead w) s (fun t =>
    t.part.out = .readData w (BitVec.ofNat 32 s.ns) :: s.part.out ∧
    (∀ n, (t.part.regLoad n w R.SDL_NOW_HI).1 = BitVec.ofNat 32 (s.ns / 2 ^ 32)) ∧
    (∀ (w' : Who) (k : Nat), w'.shadow k ≠ w.shadow 0 → t.part.shadow w' k = s.part.shadow w' k) ∧
    t = { s with part := { s.part with out := t.part.out, sdl := { s.part.sdl with shadows := t.part.sdl.shadows } } })) ∧
  (∀ (w : Who) (s : State), Ready s → Firmware s w →
    (s.part.sdl.caps = [] → Completes (.sdlCapInfoRead w) s (fun t =>
      t = { s with part := { s.part with out := .readData w 0 :: s.part.out } })) ∧
    (∀ (c : Capture) (r : List Capture), s.part.sdl.caps = c :: r → c.gpio < 8 → r.length < 32 → c.stamp < 2 ^ 64 →
      Completes (.sdlCapInfoRead w) s (fun t => t.part.sdl.caps = r ∧
        (∃ v : Word, t.part.out = .readData w v :: s.part.out ∧ v.bits 2 0 = c.gpio ∧ v.bits 3 3 = c.rising.toNat ∧
          v.bits 9 4 = r.length + 1 ∧ v.bits 31 31 = 1) ∧
        t.part.get64 F.SDL_CAP_LO_STAMP_LO F.SDL_CAP_HI_STAMP_HI = c.stamp ∧
        ∀ a, a ∉ [R.SDL_CAP_LO, R.SDL_CAP_HI] → t.part.reg a = s.part.reg a)))

/-- The event timers' registers, as their owner or plot 0 firmware writes and reads them (R64, R66, R67). A write of CMP_LO is held, and takes effect
with the write of CMP_HI, both halves together. A write of CTRL sets its fields, and the whole write is refused where TARGET is 3, or names a
channel of another plot. A read of MISSED answers the count and clears it. -/
def Obligations.TimerRegisters : Prop :=
  ∀ (w : Who) (n : Nat) (v : Word) (s : State), Ready s → n < 64 → Reaches s w (s.part.get (F.SDL_TMR_OWNER_PLOT n)) →
    Completes (.sdlTmrCmpLoWrite w n v) s (fun t => t.part.regs = s.part.regs ∧
      FMap.get (fun _ => none) t.part.sdl.held n = some v ∧
      (∀ i, i ≠ n → FMap.get (fun _ => none) t.part.sdl.held i = FMap.get (fun _ => none) s.part.sdl.held i) ∧
      t = { s with part := { s.part with sdl := { s.part.sdl with held := t.part.sdl.held } } }) ∧
    Completes (.sdlTmrCmpHiWrite w n v) s (fun t => t.part.reg (R.SDL_TMR_CMP_HI n) = v ∧
      t.part.reg (R.SDL_TMR_CMP_LO n) =
        (FMap.get (fun _ => none) s.part.sdl.held n).getD (s.part.reg (R.SDL_TMR_CMP_LO n)) ∧
      FMap.get (fun _ => none) t.part.sdl.held n = none ∧
      (∀ a, a ∉ [R.SDL_TMR_CMP_LO n, R.SDL_TMR_CMP_HI n] → t.part.reg a = s.part.reg a)) ∧
    (v.bits 2 1 ≠ 3 → (v.bits 2 1 ≠ 0 → s.part.chOwner (v.bits 13 8) = s.part.get (F.SDL_TMR_OWNER_PLOT n)) →
      Completes (.sdlTmrCtrlWrite w n v) s (fun t => t.part.get (F.SDL_TMR_CTRL_EN n) = v.bits 0 0 ∧
        t.part.get (F.SDL_TMR_CTRL_TARGET n) = v.bits 2 1 ∧ t.part.get (F.SDL_TMR_CTRL_CHANNEL n) = v.bits 13 8 ∧
        RegsOnly [R.SDL_TMR_CTRL n] s t)) ∧
    (v.bits 2 1 = 3 ∨ (v.bits 2 1 ≠ 0 ∧ s.part.chOwner (v.bits 13 8) ≠ s.part.get (F.SDL_TMR_OWNER_PLOT n)) →
      Completes (.sdlTmrCtrlWrite w n v) s (fun t => t.part.reg (R.SDL_TMR_CTRL n) = s.part.reg (R.SDL_TMR_CTRL n))) ∧
    Completes (.sdlTmrMissedRead w n) s (fun t =>
      t.part.out = .readData w (BitVec.ofNat 32 (s.part.get (F.SDL_TMR_MISSED_MISSED n))) :: s.part.out ∧
      t.part.get (F.SDL_TMR_MISSED_MISSED n) = 0 ∧ (∀ a, a ≠ R.SDL_TMR_MISSED n → t.part.reg a = s.part.reg a))

/-- The holdover update (R59, R60): where the curve has a value, the base rate becomes the rate that the curve gives; SDL_RATE is the base rate with
the slew correction, clamped; HOLD_BOUNDED shows whether R60's conditions still hold. Where the curve has no value the base rate is a free value
(assumption 4). -/
def Obligations.HoldoverFollowsCurve : Prop :=
  ∀ (temp : Int) (s : State), Ready s → s.part.holdoverRuns = true → Completes (.holdoverRateUpdate temp) s (fun t =>
    (∀ r, s.part.holdRate temp = some r → t.part.sdl.baseRate = r ∧ t.part.free = s.part.free) ∧
    t.part.rate = clampInt (-858993) 858993 (t.part.sdl.baseRate + t.part.sdl.slew) ∧
    t.part.get F.SDL_STATUS_HOLD_BOUNDED = (s.part.stillBounded s.ns temp && s.part.on F.SDL_STATUS_HOLDOVER).toNat ∧
    (∀ a, a ∉ [R.SDL_RATE, R.SDL_STATUS] → t.part.reg a = s.part.reg a) ∧ t.sun = s.sun)

/-- Metering (R547, R557, R565, R566, R567). At a whole hour, with metering and Harvest running, one record of KIND 1 is formed in plot 0 and its
crate closed; otherwise only the hour is noted. The 10-second span and a sample have the effect of their own operations; the first sample after
metering starts, without a clipped code, is only kept. When HOLD_MIN_MS has passed, a pending request that differs from the output's level is
applied at once: the level and the count of changes; one that equals it is cancelled. -/
def Obligations.MeteringComplete : Prop :=
  (∀ s : State, Ready s → s.part.shedUp = true → s.part.sdl.lastHour < s.ns / 3600000000000 →
    Completes .hourBoundary s (fun t => t.part.sdl = { s.part.sdl with lastHour := s.ns / 3600000000000 } ∧ t.part.mtr = s.part.mtr ∧
      t.part.mem = s.part.mem ∧ (∀ a, a / 0x100000 ≠ 7 → t.part.reg a = s.part.reg a) ∧
      ((s.part.metering && s.part.mtrForms) = false → t.part.hvs = s.part.hvs ∧ t.part.regs = s.part.regs) ∧
      ((s.part.metering && s.part.mtrForms) = true → (t.part.hv 0).opened = none ∧
        t.part.get (F.HVS_P_SEQ_SEQ 0) = (s.part.get (F.HVS_P_SEQ_SEQ 0) + 1) % 2 ^ 32))) ∧
  (∀ s : State, Ready s → s.part.tenDue.isSome = true → exec .tenSecondBoundary s = .next (s.settle (s.part.tenBoundary s.ns))) ∧
  (∀ (codes : List Int) (filtered : List Nat) (s : State), Ready s → s.part.metering = true → codes.length = 7 →
    filtered.length = 7 →
    exec (.decimatorSample codes filtered) s = .next (s.settle (s.part.decimatorSample s.ns codes filtered))) ∧
  (∀ (codes : List Int) (filtered : List Nat) (s : State), Ready s → s.part.metering = true → codes.length = 7 →
    filtered.length = 7 → (∀ c ∈ codes, -0x7FFFFF < c ∧ c < 0x7FFFFF) → s.part.mtr.samples = [] → s.part.mtr.crosses = [] →
    Completes (.decimatorSample codes filtered) s (fun t => t.part.mtr.samples.length = 1 ∧ t.part.mtr.crosses = [] ∧
      t.part.regs = s.part.regs ∧ t.part.mem = s.part.mem ∧ t.sun = s.sun)) ∧
  (∀ (o : Nat) (l : Bool) (s : State), Ready s → o < 2 → s.part.metering = true → (s.part.holdOut o).request = some l →
    s.part.holdFree s.ns o = true →
    (s.part.on (holdLevel o) = l → Completes (.holdMinExpiry o) s (fun t => (t.part.holdOut o).request = none ∧
      t = { s with part := { s.part with mtr := { s.part.mtr with holds := t.part.mtr.holds } } })) ∧
    (s.part.on (holdLevel o) ≠ l → Completes (.holdMinExpiry o) s (fun t => t.part.on (holdLevel o) = l ∧
      t.part.on (holdLevel (1 - o)) = s.part.on (holdLevel (1 - o)) ∧ (t.part.holdOut o).request = none ∧
      (t.part.holdOut o).lastAt = some s.ns ∧
      t.part.get F.MTR_HOLD_CHANGES_COUNT = (s.part.get F.MTR_HOLD_CHANGES_COUNT + 1) % 2 ^ 32 ∧
      (t.part.get F.MTR_EVENTS_EVT).testBit 4 = true ∧ t.part.mem = s.part.mem)))

/-- Fallow (R153, R154, R158, R637). A running plot orders its own Fallow, which waits for the tick; the first order stands. Once nothing is tagged
for the plot, the drain ends: with the random number generator well, the plot goes to ZEROING under a fresh memory key; where it fails, KEY_FAIL
shows it. The zeroing leaves every byte of the plot's window 0, lifts the fence and lets the reload begin. After 200 ms the plot's NVMe commands
are retired. -/
def Obligations.FallowStepsComplete : Prop :=
  (∀ (w : Who) (s : State), Ready s → w.kind ≠ .host → w.plot ≠ 0 → s.part.issues w = true →
    Completes (.pltCtrlFallow w) s (fun t =>
      (t.part.plot w.plot.val).ordered =
        (if (s.part.plot w.plot.val).ordered = 0 then 2 else (s.part.plot w.plot.val).ordered) ∧
      (∀ k, k ≠ w.plot.val → t.part.plot k = s.part.plot k) ∧ t = { s with part := { s.part with plots := t.part.plots } })) ∧
  (∀ (k : Nat) (s : State), Ready s → k < 9 → s.part.shedUp = true → s.part.get (F.PLT_STATE_STATE k) = 5 →
    s.part.nvTagged k = 0 → Completes (.fallowDrainEnd k true) s (fun t => t.part.get (F.PLT_STATE_STATE k) = 6 ∧
      (t.part.get F.KEY_MEM_LOADED_PLOT).testBit k = true)) ∧
  (∀ (k : Nat) (s : State), Ready s → k < 9 → s.part.shedUp = true → s.part.get (F.PLT_STATE_STATE k) = 5 →
    s.part.nvTagged k = 0 → Completes (.fallowDrainEnd k false) s (fun t => t.part.get (F.PLT_STATE_STATE k) = 6 ∧
      t.part.get (F.PLT_STATE_KEY_FAIL k) = 1 ∧ t.part.get F.KEY_ERR_RNG_FAIL = 1)) ∧
  (∀ (k : Nat) (s : State), Ready s → k < 9 → s.part.shedUp = true → s.part.get (F.PLT_STATE_STATE k) = 6 →
    s.part.get (F.PLT_STATE_KEY_FAIL k) = 0 → (s.part.plot k).reloading = false → Completes (.fallowZeroDone k) s (fun t =>
      (t.part.get F.PLT_FENCED_PLOT).testBit k = false ∧ (t.part.plot k).fencedAt = none ∧ (t.part.plot k).reloading = true ∧
      (∀ a, winBase k ≤ a → a < winBase k + s.part.img.window k → t.part.byte a = 0))) ∧
  (∀ (k at_ : Nat) (s : State), Ready s → k < 9 → (s.part.plot k).fencedAt = some at_ → at_ + 200000000 ≤ s.ns →
    s.part.nvTagged k ≠ 0 → Completes (.fenceNvmeRetire k) s (fun t => t.part.nvTagged k = 0 ∧ t.part.mem = s.part.mem))

/-- The frame-start latch of a CSI-2 stream (R178, R186). At a Frame Start with a good or corrected header, for the context of the port and virtual
channel: FRAME_SEQ is 0 for the first frame after OFF or FENCED and otherwise counts on, whether or not the frame then finds room; the context is
RUNNING; the capture timestamp is within the bound of the Sundial's source; the pending group becomes the active one, PENDING clears and
LATCHED_SEQ takes FRAME_SEQ; without a pending group the active one stays. The lines and the end of a CSI-2 frame (R169, R195). A line of the
stream's type and length is counted and, inside the window, stored from the pitch's multiple that is its place, and no other byte changes; a CRC
error or a line of another length drops the frame; a Frame End closes it, as a whole entry where the lines are all there and its number is the
Frame Start's, else dropped. -/
def Obligations.Csi2Frames : Prop :=
  (∀ (port vc number k : Nat) (ecc : Ecc) (sot : Bool) (s : State), Ready s → port < 8 → vc < 4 → number < 65536 → ecc ≠ .bad →
    s.part.csiOn port = true → s.part.csiCtx port vc = some k → k < 128 → s.ns + 30518 < 2 ^ 64 →
    Completes (.csi2FrameStart port vc number ecc sot) s (fun t =>
      t.part.get (F.ITK_CTX_FRAME_SEQ_SEQ k) =
        (if (s.part.ctx k).fresh then 0 else (s.part.get (F.ITK_CTX_FRAME_SEQ_SEQ k) + 1) % 2 ^ 32) ∧
      t.part.get (F.ITK_CTX_STATE_STATE k) = 3 ∧
      (let ts := t.part.get64 (F.ITK_CTX_TS_LO_TS k) (F.ITK_CTX_TS_HI_TS k)
       s.ns ≤ ts + s.part.capError ∧ ts ≤ s.ns + s.part.capError) ∧
      (∀ g, (s.part.ctx k).pending = some g → (t.part.ctx k).active = g ∧ (t.part.ctx k).pending = none ∧
        t.part.get (F.ITK_CTX_COMMIT_STAT_PENDING k) = 0 ∧
        t.part.get (F.ITK_CTX_LATCHED_SEQ_SEQ k) = t.part.get (F.ITK_CTX_FRAME_SEQ_SEQ k)) ∧
      ((s.part.ctx k).pending = none → (t.part.ctx k).active = (s.part.ctx k).active ∧
        t.part.get (F.ITK_CTX_LATCHED_SEQ_SEQ k) = s.part.get (F.ITK_CTX_LATCHED_SEQ_SEQ k)) ∧
      (t.part.ctx k).frame.isSome = true ∧ (∀ j, j ≠ k → t.part.ctx j = s.part.ctx j))) ∧
  (∀ (port vc k : Nat) (f : CsiFrame) (s : State), Ready s → port < 8 → vc < 4 → s.part.csiOn port = true →
    s.part.csiFrameCtx port vc = some k → k < 128 → (s.part.ctx k).frame = some f → f.dropped = false →
    let r := s.part.img
    let fmt := r.streamPixfmt k
    let win := (s.part.ctx k).active.window r k
    (∀ d : List Byte, d.length = wireBytes fmt (r.streamWidth k) →
      Completes (.csi2LongPacket port vc (dataType fmt) d true false .good false) s (fun t =>
        (t.part.ctx k).frame = some { f with lines := f.lines + 1 } ∧ t.part.regs = s.part.regs ∧
        let px := ((storedLine fmt d).drop (win.1 * pixBytes fmt)).take (win.2.2.1 * pixBytes fmt)
        let at_ := s.part.ringAddr k (s.part.ctx k).active.base (f.start + 64 + (f.lines - win.2.1) * pitchOf fmt win.2.2.1)
        if win.2.1 ≤ f.lines ∧ f.lines < win.2.1 + win.2.2.2 then
          (∀ i (h : i < px.length), t.part.byte (at_ + i) = px[i]) ∧
          (∀ a, a < at_ ∨ at_ + px.length ≤ a → t.part.byte a = s.part.byte a)
        else t.part.mem = s.part.mem)) ∧
    (∀ d : List Byte, d.length ≠ wireBytes fmt (r.streamWidth k) →
      Completes (.csi2LongPacket port vc (dataType fmt) d true false .good false) s (fun t =>
        (t.part.ctx k).frame = some { f with dropped := true } ∧ (t.part.get (F.ITK_PORT_ERR_ERR port)).testBit 8 = true ∧
        t.part.get (F.ITK_CTX_DROPS_COUNT k) = min (s.part.get (F.ITK_CTX_DROPS_COUNT k) + 1) 65535 ∧
        (∀ a, a ∉ [R.ITK_PORT_ERR port, R.ITK_CTX_DROPS k] → t.part.reg a = s.part.reg a) ∧ t.part.mem = s.part.mem)) ∧
    (∀ (dt : Nat) (d : List Byte), dt < 64 → Completes (.csi2LongPacket port vc dt d false false .good false) s (fun t =>
        (t.part.ctx k).frame = some { f with dropped := true } ∧ (t.part.get (F.ITK_PORT_ERR_ERR port)).testBit 2 = true ∧
        t.part.get (F.ITK_PORT_CRC_CNT_COUNT port) = min (s.part.get (F.ITK_PORT_CRC_CNT_COUNT port) + 1) 65535 ∧
        t.part.get (F.ITK_CTX_DROPS_COUNT k) = min (s.part.get (F.ITK_CTX_DROPS_COUNT k) + 1) 65535 ∧
        (∀ a, a ∉ [R.ITK_PORT_ERR port, R.ITK_PORT_CRC_CNT port, R.ITK_CTX_DROPS k] → t.part.reg a = s.part.reg a) ∧
        t.part.mem = s.part.mem)) ∧
    (f.number < 65536 → f.lines = r.streamHeight k →
      Completes (.csi2FrameEnd port vc f.number .good false) s (fun t => (t.part.ctx k).frame = none ∧ t.part.regs = s.part.regs ∧
        (t.part.ctx k).dropped = 0 ∧ (∃ e : RingEntry, (t.part.ctx k).entries = (s.part.ctx k).entries ++ [e] ∧ e.seq = f.seq ∧
          e.ts = f.ts ∧ e.start = f.start ∧ e.win = win) ∧
        (∀ a, a < s.part.ringAddr k (s.part.ctx k).active.base f.start ∨
          s.part.ringAddr k (s.part.ctx k).active.base f.start + 64 ≤ a → t.part.byte a = s.part.byte a))) ∧
    (∀ number : Nat, number < 65536 → number ≠ f.number →
      Completes (.csi2FrameEnd port vc number .good false) s (fun t => (t.part.ctx k).frame = none ∧
        (t.part.ctx k).entries = (s.part.ctx k).entries ∧ (t.part.get (F.ITK_PORT_ERR_ERR port)).testBit 3 = true ∧
        t.part.get (F.ITK_CTX_DROPS_COUNT k) = min (s.part.get (F.ITK_CTX_DROPS_COUNT k) + 1) 65535 ∧ t.part.mem = s.part.mem)))

/-- A capture group's commit (R185, R188, R197). From WAIT_SESSION to STALLED, an acceptable staging group waits as the pending group, and a pending
group before it is superseded; a group that is not acceptable is rejected, and pending and active group stay. In OFF and FENCED the commit is
ignored. A context's control (R174, R177). RELOCK releases the SSRC lock. Setting EN takes a context that waits for its session to WAIT_SYNC;
clearing it takes any context but one in OFF or FENCED to WAIT_SESSION where its SOURCE is 1, and to WAIT_SYNC otherwise. -/
def Obligations.StreamContexts : Prop :=
  (∀ (w : Who) (k : Nat) (s : State), Ready s → Firmware s w → k < 128 →
    let st := s.part.get (F.ITK_CTX_STATE_STATE k)
    (st ≠ 0 → st ≠ 5 → groupOk s.part.img k (s.part.staging k) = true → Completes (.itkCtxCommit w k) s (fun t =>
      (t.part.ctx k).pending = some (s.part.staging k) ∧ (t.part.ctx k).active = (s.part.ctx k).active ∧
      t.part.get (F.ITK_CTX_COMMIT_STAT_PENDING k) = 1 ∧
      t.part.get (F.ITK_CTX_COMMIT_STAT_SUPERSEDED k) =
        (if s.part.get (F.ITK_CTX_COMMIT_STAT_PENDING k) = 1 then 1 else s.part.get (F.ITK_CTX_COMMIT_STAT_SUPERSEDED k)) ∧
      (∀ a, a ≠ R.ITK_CTX_COMMIT_STAT k → t.part.reg a = s.part.reg a) ∧
      t = { s with part := { s.part with regs := t.part.regs, itk := t.part.itk } })) ∧
    (st ≠ 0 → st ≠ 5 → groupOk s.part.img k (s.part.staging k) = false → Completes (.itkCtxCommit w k) s (fun t =>
      t.part.get (F.ITK_CTX_COMMIT_STAT_REJECT k) = 1 ∧ RegsOnly [R.ITK_CTX_COMMIT_STAT k] s t)) ∧
    (st = 0 ∨ st = 5 → exec (.itkCtxCommit w k) s = .next s)) ∧
  (∀ (w : Who) (k : Nat) (s : State), Ready s → Firmware s w → k < 128 →
    let st := s.part.get (F.ITK_CTX_STATE_STATE k)
    Completes (.itkCtxRelock w k) s (fun t => t.part.get (F.ITK_CTX_STATE_SSRC_LOCKED k) = 0 ∧
      t.part.get (F.ITK_CTX_CTRL_EN k) = s.part.get (F.ITK_CTX_CTRL_EN k) ∧
      RegsOnly [R.ITK_CTX_CTRL k, R.ITK_CTX_STATE k] s t) ∧
    Completes (.itkCtxEnWrite w k true) s (fun t => t.part.get (F.ITK_CTX_CTRL_EN k) = 1 ∧
      t.part.get (F.ITK_CTX_STATE_STATE k) = (if st = 1 then 2 else st) ∧ RegsOnly [R.ITK_CTX_CTRL k, R.ITK_CTX_STATE k] s t) ∧
    Completes (.itkCtxEnWrite w k false) s (fun t => t.part.get (F.ITK_CTX_CTRL_EN k) = 0 ∧
      t.part.get (F.ITK_CTX_STATE_STATE k) =
        (if st = 0 ∨ st = 5 then st else if s.part.img.streamSource k = 1 then 1 else 2) ∧
      RegsOnly [R.ITK_CTX_CTRL k, R.ITK_CTX_STATE k] s t))

/-- What else reaches Intake (R173, R176, R177, R182). An Ethernet frame with an FCS error is only counted, one for another address too; any other has
the effect of its own operation, and so has the decision of a pair. An access unit that times out is over. The oldest complete entry is committed:
its COMMIT_TS is the Sundial's count, WPTR passes it, and no other byte changes. A quiet context stalls. A session's fields enable its context. A
link shows its state, and a change of it. -/
def Obligations.IntakeEventsComplete : Prop :=
  (∀ (port : Nat) (frame : List Byte) (full : Bool) (s : State), Ready s → port < 2 → s.part.ethHears port = true →
    Completes (.ethFrameRx port frame false full) s (fun t =>
      t.part.get (F.ETH_RX_ERR_COUNT port) = min (s.part.get (F.ETH_RX_ERR_COUNT port) + 1) 65535 ∧
      (∀ a, a ≠ R.ETH_RX_ERR port → t.part.reg a = s.part.reg a) ∧
      t = { s with part := { s.part with regs := t.part.regs, free := s.part.free + 1 } })) ∧
  (∀ (port : Nat) (frame : List Byte) (full : Bool) (s : State), Ready s → port < 2 → s.part.ethHears port = true →
    s.part.addressed port frame = false → Completes (.ethFrameRx port frame true full) s (fun t =>
      t.part.get (F.ETH_RX_FRAMES_COUNT port) = (s.part.get (F.ETH_RX_FRAMES_COUNT port) + 1) % 2 ^ 32 ∧
      (∀ a, a ≠ R.ETH_RX_FRAMES port → t.part.reg a = s.part.reg a) ∧
      t = { s with part := { s.part with regs := t.part.regs, free := s.part.free + 1 } })) ∧
  (∀ (port : Nat) (frame : List Byte) (fcsOk full : Bool) (s : State), Ready s → port < 2 → s.part.ethHears port = true →
    exec (.ethFrameRx port frame fcsOk full) s = .next (s.settle (s.part.ethFrameIn s.ns port frame fcsOk full))) ∧
  (∀ (k : Nat) (s : State), Ready s → k < 128 → s.part.auTimedOut s.ns k = true → Completes (.accessUnitTimeout k) s (fun t =>
    (t.part.ctx k).au = none ∧ (t.part.ctx k).seen.length ≤ (s.part.ctx k).seen.length ∧ t.sun = s.sun ∧
    ∀ j, j ≠ k → t.part.ctx j = s.part.ctx j)) ∧
  (∀ (k : Nat) (e : RingEntry) (r : List RingEntry) (s : State), Ready s → k < 128 → s.part.live = true →
    s.part.get (F.ITK_CTX_STATE_STATE k) ≠ 5 → (s.part.ctx k).entries = e :: r → e.stop < 2 ^ 32 →
    e.base = (s.part.ctx k).active.base → e.size = (s.part.ctx k).active.size →
    Completes (.entryCommit k) s (fun t => (t.part.ctx k).entries = r ∧ t.part.get (F.ITK_CTX_WPTR_OFF k) = e.stop ∧
      (∀ a, a ≠ R.ITK_CTX_WPTR k → t.part.reg a = s.part.reg a) ∧
      let at_ := s.part.ringAddr k e.base (e.start + 0x18)
      (∀ i, i < 8 → t.part.byte (at_ + i) = BitVec.ofNat 8 (s.ns / 256 ^ i)) ∧
      (∀ a, a < at_ ∨ at_ + 8 ≤ a → t.part.byte a = s.part.byte a))) ∧
  (∀ (k : Nat) (s : State), Ready s → k < 128 → s.part.ctxQuiet s.ns k = true → Completes (.contextStall k) s (fun t =>
    t.part.get (F.ITK_CTX_STATE_STATE k) = 4 ∧ RegsOnly [R.ITK_CTX_STATE k] s t)) ∧
  (∀ (k port udp ip pt : Nat) (s : State), Ready s → k < 128 → port < 2 → udp < 65536 → ip < 4294967296 → pt < 128 →
    s.part.rtspReady k port udp = true → Completes (.rtspSessionSetup k port udp ip pt) s (fun t =>
      t.part.get (F.ITK_CTX_MATCH_ETH_PORT k) = port ∧ t.part.get (F.ITK_CTX_MATCH_UDP_PORT k) = udp ∧
      t.part.get (F.ITK_CTX_SRC_IP_IP k) = ip ∧ t.part.get (F.ITK_CTX_RTP_PT k) = pt ∧ t.part.get (F.ITK_CTX_CTRL_EN k) = 1 ∧
      t.part.get (F.ITK_CTX_STATE_STATE k) = 2 ∧
      RegsOnly [R.ITK_CTX_MATCH k, R.ITK_CTX_SRC_IP k, R.ITK_CTX_RTP k, R.ITK_CTX_CTRL k, R.ITK_CTX_STATE k] s t)) ∧
  (∀ (k : Nat) (s : State), Ready s → k < 32 → s.part.pairDue s.ns k = true →
    exec (.pairChoiceFinal k) s = .next (s.settle (s.part.pairDecide s.ns k))) ∧
  (∀ (n : Nat) (up blockLock anDone : Bool) (s : State), Ready s → n < 2 → s.part.linkChanges n up = true →
    Completes (.ethLinkChange n up blockLock anDone) s (fun t => t.part.get (F.ETH_STAT_LINK n) = up.toNat ∧
      t.part.get (F.ETH_STAT_BLOCK_LOCK n) = blockLock.toNat ∧ t.part.get (F.ETH_STAT_AN_DONE n) = anDone.toNat ∧
      (s.part.get (F.ETH_STAT_LINK n) ≠ up.toNat → t.part.get (F.ETH_STAT_LINK_CHG n) = 1) ∧ RegsOnly [R.ETH_STAT n] s t))

/-- R191: for a reference time the set chooses, of a member's candidates that lie within the window and are not used, the nearest, and of two equally
near ones the earlier; it chooses none only where there is none. -/
def Obligations.PairChoosesNearest : Prop :=
  ∀ (u : ItkSet) (member t window : Nat),
    let open_ := fun c : Candidate => c ∈ u.cands ∧ c.member = member ∧ c.used = false ∧ c.ts ≤ t + window ∧ t ≤ c.ts + window
    match choose u member t window with
    | some c => open_ c ∧ ∀ d, open_ d → distance c.ts t < distance d.ts t ∨ (distance c.ts t = distance d.ts t ∧ c.ts ≤ d.ts)
    | none => ∀ d, ¬ open_ d

/-- Video decode (R206, R211, R213). A notice for a stream that decode does not take is passed on and nothing else changes; one that decode takes
leaves Intake too, with the effect of the hand-off. A slice that starts occupies its core with the stream of R206's choice, and what it costs is
taken from the plot's credit. The end of a slice has the effect of its own operation, and one whose stream has no picture in progress only frees
the core and goes on with the stream's queue. -/
def Obligations.DecodeComplete : Prop :=
  (∀ (k : Nat) (f : NalFacts) (n : NalNotice) (r : List NalNotice) (s : State), Ready s → k < 128 → s.part.live = true →
    (s.part.ctx k).notices = n :: r →
    exec (.nalUnitHandoff k f) s =
      .next (s.settle ((s.part.modCtx k (fun u => { u with notices := r })).handoff s.ns k n f))) ∧
  (∀ (k : Nat) (f : NalFacts) (n : NalNotice) (r : List NalNotice) (s : State), Ready s → k < 128 → s.part.live = true →
    (s.part.ctx k).notices = n :: r → s.part.decOn k = false → Completes (.nalUnitHandoff k f) s (fun t =>
      t.part.ctx k = { s.part.ctx k with notices := r } ∧ (∀ j, j ≠ k → t.part.ctx j = s.part.ctx j) ∧
      t = { s with part := { s.part with itk := t.part.itk } })) ∧
  (∀ (c k : Nat) (x : SliceFacts) (s : State), Ready s → c < 6 → s.part.sliceCan s.ns c = true → s.part.pickSlice s.ns = some k →
    Completes (.sliceStart c x) s (fun t => FMap.get (fun _ => none) t.part.vdc.cores c = some k ∧
      (t.part.get F.VDC_CORE_BUSY_BUSY).testBit c = true ∧ t.part.mem = s.part.mem ∧ t.part.nor = s.part.nor)) ∧
  (∀ (c : Nat) (x : SliceResult) (s : State), Ready s → c < 6 → s.part.sliceRuns c = true →
    exec (.sliceEnd c x) s = .next (s.settle (s.part.sliceEnd s.ns c x))) ∧
  (∀ (c k : Nat) (x : SliceResult) (s : State), Ready s → c < 6 → s.part.sliceRuns c = true →
    FMap.get (fun _ => none) s.part.vdc.cores c = some k → (s.part.dec k).cur = none → (s.part.dec k).items = [] →
    Completes (.sliceEnd c x) s (fun t => FMap.get (fun _ => none) t.part.vdc.cores c = none ∧
      (t.part.get F.VDC_CORE_BUSY_BUSY).testBit c = false ∧ (∀ j, t.part.dec j = s.part.dec j) ∧
      RegsOnly [R.VDC_CORE_BUSY] { s with part := { s.part with vdc := t.part.vdc } } t))

/-- R221: a picture that is complete, or voided already, is not voided; the void of any other shows its generation and cause, and the stream's count
of voids. -/
def Obligations.CompletePictureStands : Prop :=
  ∀ (t k cause : Nat) (p : Part) (x : DecPic), (p.dec k).cur = some x → k < 128 → cause < 16 → x.gen < 65536 →
    (x.complete = true ∨ x.voided = true → p.voidCurrent t k cause = p) ∧
    (x.complete = false → x.voided = false → x.emitted = false → ∃ q, p.voidCurrent t k cause = q ∧
      q.get (F.VDC_STR_LAST_VOID_GEN k) = x.gen ∧ q.get (F.VDC_STR_LAST_VOID_CAUSE k) = cause ∧
      q.get (F.VDC_STR_VOIDS_COUNT k) = min (p.get (F.VDC_STR_VOIDS_COUNT k) + 1) 65535)

/-- Steered crop lists (R237). A commit while a list is being copied is superseded; one that R237 rejects leaves everything but REJECT; any other
starts the copy from the staged address and count. The copy's end makes the list pending, PENDING set and COPYING clear. The Pruner's commands
(R238, R249, R252, R253, R256). A latch, the start and the end of a crop, and a ready notice have the effect of their operations. A drill that has
waited closes with cause 1 and its instant; a slot whose consumers have ended is free. -/
def Obligations.PrunerCommands : Prop :=
  ((∀ (w : Who) (k : Nat) (s : State), Ready s → Firmware s w → k < 64 →
    let addr := s.part.get64 (F.PRN_PIPE_S_LIST_LO_ADDR k) (F.PRN_PIPE_S_LIST_HI_ADDR k)
    let count := s.part.get (F.PRN_PIPE_S_COUNT_COUNT k)
    let copying := s.part.get (F.PRN_PIPE_COMMIT_STAT_COPYING k)
    (copying = 1 → Completes (.prnPipeCommit w k) s (fun t => t.part.get (F.PRN_PIPE_COMMIT_STAT_SUPERSEDED k) = 1 ∧
      RegsOnly [R.PRN_PIPE_COMMIT_STAT k] s t)) ∧
    (copying = 0 → s.part.commitBad k addr count = true → Completes (.prnPipeCommit w k) s (fun t =>
      t.part.get (F.PRN_PIPE_COMMIT_STAT_REJECT k) = 1 ∧ RegsOnly [R.PRN_PIPE_COMMIT_STAT k] s t)) ∧
    (copying = 0 → s.part.commitBad k addr count = false → Completes (.prnPipeCommit w k) s (fun t =>
      t.part.get (F.PRN_PIPE_COMMIT_STAT_COPYING k) = 1 ∧ (t.part.prnPipe k).copying = some (.list addr count) ∧
      (∀ j, j ≠ k → t.part.prnPipe j = s.part.prnPipe j) ∧ (∀ a, a ≠ R.PRN_PIPE_COMMIT_STAT k → t.part.reg a = s.part.reg a) ∧
      t.part.mem = s.part.mem))) ∧
  (∀ (k : Nat) (src : CopySrc) (s : State), Ready s → k < 64 → s.part.live = true → (s.part.prnPipe k).copying = some src →
    Completes (.steerCopyDone k) s (fun t => t.part.get (F.PRN_PIPE_COMMIT_STAT_COPYING k) = 0 ∧
      t.part.get (F.PRN_PIPE_COMMIT_STAT_PENDING k) = 1 ∧ (t.part.prnPipe k).copying = none ∧
      (t.part.prnPipe k).pending.isSome = true ∧ (t.part.prnPipe k).active = (s.part.prnPipe k).active ∧
      (∀ a, a ∉ [R.PRN_PIPE_COMMIT_STAT k, R.PRN_PIPE_BADCROP k] → t.part.reg a = s.part.reg a) ∧ t.part.mem = s.part.mem))) ∧
  ((∀ (k : Nat) (s : State), Ready s → k < 64 → s.part.live = true → (s.part.prnPipe k).latches ≠ [] →
    exec (.prunerLatch k) s = .next (s.settle (s.part.prunerLatch s.ns k))) ∧
  (∀ (k : Nat) (e : PrnLatch) (r : List PrnLatch) (s : State), Ready s → k < 64 → s.part.live = true →
    (s.part.prnPipe k).latches = e :: r → e.frameSeq < 2 ^ 32 → s.part.get (F.PLT_STATE_STATE (s.part.img.pipePlot k)) = 2 →
    s.part.fenced (s.part.img.pipePlot k) = false → s.part.img.pipeInputKind k ≠ 0 → s.part.img.prnStage k ≠ none →
    Completes (.prunerLatch k) s (fun t => (t.part.prnPipe k).latches = r ∧
      t.part.get (F.PRN_PIPE_LATCHED_SEQ_SEQ k) = e.frameSeq ∧ t.part.get (F.PRN_PIPE_COMMIT_STAT_PENDING k) = 0 ∧
      (∀ l st, (s.part.prnPipe k).pending = some (l, st) → (t.part.prnPipe k).active = l ∧ (t.part.prnPipe k).pending = none) ∧
      ((s.part.prnPipe k).pending = none → (t.part.prnPipe k).active = (s.part.prnPipe k).active) ∧
      (∀ a, a ∉ [R.PRN_PIPE_COMMIT_STAT k, R.PRN_PIPE_LATCHED_SEQ k, R.PRN_PIPE_ACTIVE_COUNT k] → t.part.reg a = s.part.reg a) ∧
      t.part.mem = s.part.mem)) ∧
  (∀ (e : Nat) (s : State), Ready s → e < 4 → s.part.canDispatch 1 e = true →
    exec (.cropStart e) s = .next (s.settle (s.part.cropStart s.ns e))) ∧
  (∀ (e : Nat) (s : State), Ready s → e < 4 → s.part.live = true → s.part.cropDone e = true →
    exec (.cropEnd e) s = .next (s.settle (s.part.cropEnd s.ns e))) ∧
  (∀ (plot group : Nat) (d : Drill) (s : State), Ready s → 0 < plot → plot < 9 → group < 16 → s.part.live = true →
    s.part.drillWaited s.ns (groupKey plot group) = true → (s.part.grp (groupKey plot group)).opened = some d → d.seq < 2 ^ 32 →
    Completes (.drillWaitExpiry plot group) s (fun t => (t.part.grp (groupKey plot group)).opened = none ∧
      (t.part.grp (groupKey plot group)).closed =
        (s.part.grp (groupKey plot group)).closed ++ [{ d with close := 1, closeTs := s.ns }] ∧
      t.part.get (F.PRN_GRP_SEQ_SEQ (groupKey plot group - 16)) = d.seq ∧
      t.part.get (F.PRN_GRP_TIMED_COUNT (groupKey plot group - 16)) =
        (s.part.get (F.PRN_GRP_TIMED_COUNT (groupKey plot group - 16)) + 1) % 2 ^ 32 ∧
      (∀ a, a ∉ [R.PRN_GRP_SEQ (groupKey plot group - 16), R.PRN_GRP_TIMED (groupKey plot group - 16)] →
        t.part.reg a = s.part.reg a) ∧ t = { s with part := { s.part with regs := t.part.regs, prn := t.part.prn } })) ∧
  (∀ (plot group : Nat) (s : State), Ready s → plot < 9 → group < 16 → s.part.live = true →
    s.part.noticeDue (groupKey plot group) = true →
    exec (.drillReadyNotice plot group) s = .next (s.settle (s.part.drillNotice s.ns (groupKey plot group)))) ∧
  (∀ (plot group : Nat) (s : State), Ready s → 0 < plot → plot < 9 → group < 16 → s.part.live = true →
    s.part.slotIdle (groupKey plot group) = true → Completes (.drillSlotFree plot group) s (fun t =>
      t.part.slotIdle (groupKey plot group) = false ∧
      (t.part.grp (groupKey plot group)).opened = (s.part.grp (groupKey plot group)).opened ∧
      (∀ a, a ≠ R.PRN_GRP_FREE (groupKey plot group - 16) → t.part.reg a = s.part.reg a) ∧
      t = { s with part := { s.part with regs := t.part.regs, prn := t.part.prn } })))

/-- R263, as far as a bed's threads go: a command that starts has its threads at indices 0 to n − 1, each with its index in a0, their number in a1,
the bed in a3, the other x registers but a2 at 0, vl 0, vill 1 and TCFG 0; accumulators, barriers and bolt counters are cleared (R262). A command
ends on its bed when all has ended there (R265), with the effect of its operation. A reset of a bed stops it and clears what R262 lists and
BED_FAULT, RESETTING being 1 until the bed is idle (R295); no byte of memory changes. What a fault of a thread does (R294), the plot not being
fenced: BED_FAULT shows cause, thread and pc, and the address for causes 2 to 5; no thread is left to issue; the engine's queue is dropped, mesh
copies run on; the job fault of the bed's command is detected; no byte of memory changes. A Tilth instruction that names an accumulator over 3
runs into it with cause 1. -/
def Obligations.BedCommands : Prop :=
  ((∀ (b : Nat) (c : BedCmd) (s : State), Ready s → b < 64 → s.part.bedAwaits b = true → (s.part.bed b).cmd = some c →
    let n := s.part.taskThreads c.cmd.task
    n ≤ 64 → Completes (.bedCommandStart b) s (fun t =>
      (t.part.bed b).cmd = some { c with started := true, startAt := s.ns } ∧
      (∀ th, th < n → let u := t.part.thread b th
        u.wait = .ready ∧ xReg u 10 = BitVec.ofNat 32 th ∧ xReg u 11 = BitVec.ofNat 32 n ∧ xReg u 13 = BitVec.ofNat 32 b ∧
        (∀ r, r < 32 → r ∉ [10, 11, 12, 13] → xReg u r = 0) ∧ u.v = [] ∧ u.vl = 0 ∧ u.vtype = 0x80000000 ∧ u.tcfg = 0) ∧
      (∀ th, n ≤ th → th < 64 → (t.part.thread b th).wait = .exited) ∧
      (t.part.bed b).acc = [] ∧ (t.part.bed b).barriers = [] ∧ (t.part.bed b).bolts = [] ∧
      t.part.get (F.BED_STATUS_BUSY b) = 1 ∧ t.part.get (F.DSP_BED_APER_BASE b) = c.aper / 2 ^ 21 % 2 ^ 27 ∧
      (∀ a, a ∉ [R.BED_STATUS b, R.DSP_BED_APER b] → t.part.reg a = s.part.reg a))) ∧
  (∀ (b : Nat) (s : State), Ready s → b < 64 → s.part.live = true → s.part.bedIdle b = true →
    exec (.bedCommandEnd b) s = .next (s.settle ((s.part.bedCmdEnd s.ns b).nextLoads s.ns))) ∧
  (∀ (w : Who) (b : Nat) (s : State), Ready s → Firmware s w → b < 64 → Completes (.bedCtrlReset w b) s (fun t =>
    t.part.get (F.BED_STATUS_RESETTING b) = 1 ∧ t.part.get (F.BED_STATUS_BUSY b) = 0 ∧ t.part.reg (R.BED_FAULT b) = 0 ∧
    t.part.bed b = { Bed.init b with tputs := (s.part.bed b).tputs } ∧ (∀ c, c ≠ b → t.part.bed c = s.part.bed c) ∧
    (∀ a, a ∉ [R.BED_STATUS b, R.BED_FAULT b, R.BED_FAULT_PC b, R.BED_FAULT_ADDR b, R.DSP_BED_APER b] →
      t.part.reg a = s.part.reg a) ∧ t.part.mem = s.part.mem ∧ t.sun = s.sun)) ∧
  (∀ (b : Nat) (s : State), Ready s → b < 64 → s.part.live = true → s.part.on (F.BED_STATUS_RESETTING b) = true →
    Completes (.bedResetDone b) s (fun t => t.part.get (F.BED_STATUS_RESETTING b) = 0 ∧ RegsOnly [R.BED_STATUS b] s t))) ∧
  ((∀ (p : Part) (t b th cause addr : Nat) (pc : Word) (write : Bool) (c : BedCmd), (p.bed b).cmd = some c → p.fenced c.cmd.plot = false →
    b < 64 → th < 64 → 0 < cause → cause < 8 → addr < 2 ^ 32 →
    let q := p.bedFault t b th pc cause addr write
    q.get (F.BED_FAULT_VALID b) = 1 ∧ q.get (F.BED_FAULT_CAUSE b) = cause ∧ q.get (F.BED_FAULT_THREAD b) = th ∧
    q.get (F.BED_FAULT_PC_PC b) = pc.toNat ∧ q.get (F.BED_FAULT_ADDR_ADDR b) = if cause ∈ [2, 3, 4, 5] then addr else 0) ∧
  (∀ (b th : Nat) (a rs1 rs2 : Fin 32) (bc : BedCmd) (s : State), Ready s → s.part.threadReady b th = true → 4 ≤ a.val →
    (s.part.bed b).cmd = some bc → s.part.fenced bc.cmd.plot = false →
    ∀ c ∈ [Instr.tzero b th a, .tmma b th a rs1 rs2, .tldacc b th a rs1, .tstacc b th a rs1, .trq b th a rs1 rs2],
      Completes c s (fun t => t.part.get (F.BED_FAULT_VALID b) = 1 ∧ t.part.get (F.BED_FAULT_CAUSE b) = 1 ∧
        t.part.get (F.BED_FAULT_THREAD b) = th ∧ t.part.get (F.BED_FAULT_PC_PC b) = (s.part.thread b th).pc.toNat ∧
        t.part.get (F.BED_FAULT_ADDR_ADDR b) = 0 ∧ (∀ i, (t.part.thread b i).wait = .exited) ∧ (t.part.bed b).queue = [] ∧
        (t.part.bed b).tputs = (s.part.bed b).tputs ∧ (∀ d, d ≠ b → t.part.bed d = s.part.bed d) ∧ t.part.mem = s.part.mem ∧
        (bc.cmd.job ≠ none → t.part.jobs.faults.any (fun f => f.job == bc.cmd.job) = true))))

/-- Scalar arithmetic of RV32IM (R268): the register forms, ADDI, LUI, AUIPC and FENCE (R286) write rd as the RISC-V ISA defines them, x0 discarding
the write, and nothing else but the thread and BED_STATUS changes. A word that is neither C, nor Tilth, nor of RV32IMV runs into ILLEGAL, which
`BedCommands` describes; every word has the effect of its issue. The FENCE completes at once since the model performs every access at issue.
Branches and jumps of RV32I (R268): a branch goes to pc + immediate where its condition holds and to pc + 4 otherwise, and writes no register; JAL
and JALR write pc + 4 to rd, JALR's target having bit 0 clear and rs1 read before rd is written. -/
def Obligations.ScalarInstructions : Prop :=
  (∀ (b th : Nat) (s : State), Ready s → s.part.threadReady b th = true →
    let u := s.part.thread b th
    (∀ w : Word, exec (.rv32Instruction b th w) s = .next (s.settle (s.part.issue s.ns b th w.toNat))) ∧
    Completes (.bedFence b th) s (fun t => ThreadOnly b th s t ∧ Retired 0 0 4 u (t.part.thread b th)) ∧
    ∀ w : Word,
      let n := w.toNat
      let x := xReg u (iRs1 n)
      let y := xReg u (iRs2 n)
      let gives := fun (v : Word) => Completes (.rv32Instruction b th w) s (fun t =>
        ThreadOnly b th s t ∧ Retired (iRd n) v 4 u (t.part.thread b th))
      (n % 128 = 0x33 → ∀ v, (iF7 n, iF3 n, v) ∈
        [(0, 0, x + y), (0x20, 0, x - y), (0, 1, x <<< (y.toNat % 32)), (0, 2, if x.slt y then 1 else 0),
         (0, 3, if x.ult y then 1 else 0), (0, 4, x ^^^ y), (0, 5, x >>> (y.toNat % 32)), (0x20, 5, x.sshiftRight (y.toNat % 32)),
         (0, 6, x ||| y), (0, 7, x &&& y), (1, 0, x * y), (1, 3, BitVec.ofNat 32 (x.toNat * y.toNat / 2 ^ 32)),
         (1, 5, if y = 0 then BitVec.allOnes 32 else x / y), (1, 7, if y = 0 then x else x % y)] → gives v) ∧
      (n % 128 = 0x13 → iF3 n = 0 → gives (x + BitVec.ofInt 32 (immI n))) ∧
      (n % 128 = 0x37 → gives (BitVec.ofNat 32 (n / 4096 * 4096))) ∧
      (n % 128 = 0x17 → gives (u.pc + BitVec.ofNat 32 (n / 4096 * 4096)))) ∧
  (∀ (b th : Nat) (s : State), Ready s → s.part.threadReady b th = true →
    let u := s.part.thread b th
    ∀ w : Word,
      let n := w.toNat
      let x := xReg u (iRs1 n)
      let y := xReg u (iRs2 n)
      let goes := fun (rd : Nat) (v pc : Word) => Completes (.rv32Instruction b th w) s (fun t => ThreadOnly b th s t ∧
        ∃ z, Retired rd v 4 u z ∧ t.part.thread b th = { z with pc := pc })
      (n % 128 = 0x63 → ∀ taken : Bool, (iF3 n, taken) ∈ [(0, x == y), (1, x != y), (4, x.slt y), (5, !x.slt y), (6, x.ult y), (7, !x.ult y)] →
        goes 0 0 (if taken then u.pc + BitVec.ofInt 32 (immB n) else u.pc + 4)) ∧
      (n % 128 = 0x6F → goes (iRd n) (u.pc + 4) (u.pc + BitVec.ofInt 32 (immJ n))) ∧
      (n % 128 = 0x67 → iF3 n = 0 → goes (iRd n) (u.pc + 4) ((x + BitVec.ofInt 32 (immI n)) &&& 0xFFFFFFFE)))

/-- Loads and stores (R266, R268). An aligned load that its plot may read completes at once in the bed's own store and writes the bytes, extended, to
rd; elsewhere the thread waits with nothing changed, and BED_LOAD_RETURN completes it from what the addresses then hold. An aligned store of 1, 2
or 4 bytes writes the low bytes of rs2 at the addresses its map gives and no other byte. -/
def Obligations.BedLoadsAndStores : Prop :=
  ∀ (b th : Nat) (s : State), Ready s → ∀ (w : Word) (size : Nat) (signed : Bool) (l : List Byte),
    let n := w.toNat
    let u := s.part.thread b th
    let at_ := (xReg u (iRs1 n) + BitVec.ofInt 32 (immI n)).toNat
    let dest := (xReg u (iRs1 n) + BitVec.ofInt 32 (immS n)).toNat
    let own := (s.part.thOf s.ns b th false).own at_ size
    (n % 128 = 0x03 → (iF3 n, size, signed) ∈ [(0, 1, true), (1, 2, true), (2, 4, false), (4, 1, false), (5, 2, false)] →
      inPages at_ = false → at_ % size = 0 → s.part.thRead (s.part.thOf s.ns b th false) at_ size = .ok l →
      (s.part.threadReady b th = true → own = true → Completes (.rv32Instruction b th w) s (fun t => ThreadOnly b th s t ∧
        Retired (iRd n) (loadValue size signed l) 4 u (t.part.thread b th))) ∧
      (s.part.threadReady b th = true → own = false → Completes (.rv32Instruction b th w) s (fun t =>
        t.part.thread b th = { u with wait := .load w at_ } ∧
        t = { s with part := s.part.setThread b th { u with wait := .load w at_ } })) ∧
      (s.part.awaitsData b th = true → u.wait = .load w at_ → Completes (.bedLoadReturn b th false) s (fun t =>
        ThreadOnly b th s t ∧ Retired (iRd n) (loadValue size signed l) 4 { u with wait := .ready } (t.part.thread b th)))) ∧
    (∀ ks : List Nat, n % 128 = 0x23 → iF3 n ≤ 2 → inPages dest = false → dest % 2 ^ iF3 n = 0 → s.part.threadReady b th = true →
      s.part.threadKeys ((s.part.bedCmd b).map (·.plot) |>.getD 0) ((s.part.bed b).cmd.map (·.aper) |>.getD 0) dest (2 ^ iF3 n) = some ks →
      ks.Nodup → Completes (.rv32Instruction b th w) s (fun t => BedRest b th s t ∧ Retired 0 0 4 u (t.part.thread b th) ∧
        (∀ (i k : Nat), ks[i]? = some k → t.part.byte k = BitVec.ofNat 8 ((xReg u (iRs2 n)).toNat / 256 ^ i)) ∧
        ∀ a, a ∉ ks → t.part.byte a = s.part.byte a))

/-- Engine operations enter the queue in issue order with their thread's TCFG, and the thread goes on; while the queue holds 16 the thread waits and
its pc stays (R271, R280). The end of an engine operation and of a mesh copy (R271, R280, R283). TZERO leaves every element of its accumulator 0
and the others as they were; any operation has the effect of its own; a copy's bytes reach the destination and no other byte changes. -/
def Obligations.EngineOperations : Prop :=
  (∀ (b th : Nat) (a rs1 rs2 : Fin 32) (s : State), Ready s → s.part.threadReady b th = true → a.val < 4 →
    let u := s.part.thread b th
    let x := (xReg u rs1).toNat
    let y := (xReg u rs2).toNat
    ∀ (c : Instr) (kind : EngKind), (c, kind) ∈
      [(.tzero b th a, .zero), (.tmma b th a rs1 rs2, .mma x y), (.tldacc b th a rs1, .ldacc x), (.tstacc b th a rs1, .stacc x),
       (.trq b th a rs1 rs2, .rq x y)] →
      ((s.part.bed b).queue.length < 16 → Completes c s (fun t => BedRest b th s t ∧ t.part.mem = s.part.mem ∧
        RetiredAs id u (t.part.thread b th) ∧
        (t.part.bed b).queue = (s.part.bed b).queue ++ [{ thread := th, pc := u.pc, tcfg := u.tcfg, acc := a, kind := kind }] ∧
        t.part.bed b = { s.part.bed b with threads := (t.part.bed b).threads, queue := (t.part.bed b).queue })) ∧
      (16 ≤ (s.part.bed b).queue.length → Completes c s (fun t => ThreadOnly b th s t ∧
        t.part.thread b th = { u with wait := .engine }))) ∧
  ((∀ (b : Nat) (s : State), Ready s → b < 64 → s.part.live = true → (s.part.bed b).queue ≠ [] →
    exec (.engineOpDone b) s = .next (s.settle (s.part.engineDone s.ns b))) ∧
  (∀ (b : Nat) (o : EngOp) (r : List EngOp) (s : State), Ready s → b < 64 → s.part.live = true → (s.part.bed b).queue = o :: r →
    (s.part.bed b).cmd ≠ none → o.kind = .zero → tcReserved o.tcfg = false → o.acc < 4 → Completes (.engineOpDone b) s (fun t =>
      (t.part.bed b).queue = r ∧
      (∀ a m n, a < 4 → m < 32 → n < 64 → (t.part.bed b).accGet a m n = if a = o.acc then 0 else (s.part.bed b).accGet a m n) ∧
      (∀ c, c ≠ b → t.part.bed c = s.part.bed c) ∧ t.part.mem = s.part.mem ∧
      ∀ a, a ≠ R.BED_STATUS b → t.part.reg a = s.part.reg a)) ∧
  (∀ (b j : Nat) (c : Tput) (s : State), Ready s → b < 64 → s.part.live = true → (s.part.bed b).tputs[j]? = some c →
    Completes (.tputComplete b j) s (fun t => (t.part.bed b).tputs = (s.part.bed b).tputs.eraseIdx j ∧
      (∀ i, i < c.len → t.part.byte (c.dst + i) = s.part.byte (c.src + i)) ∧
      (∀ a, a < c.dst ∨ c.dst + c.len ≤ a → t.part.byte a = s.part.byte a) ∧ (∀ d, d ≠ b → t.part.bed d = s.part.bed d) ∧
      ∀ a, a ≠ R.BED_STATUS b → t.part.reg a = s.part.reg a)))

/-- The Tilth instructions that a thread carries out itself (R280, R287, R289). TCFG swaps rs1 with rd; TWAIT goes on where no more than n operations
of the thread are queued, with their number in rd, and waits otherwise; TFENCE goes on where nothing it selects is outstanding; TEXIT ends the
thread; TBOLT reads a counter, and from 16 on clears it. TBAR makes the first threads wait and releases all with the last. TPUT queues the copy
that its descriptor names and numbers it. -/
def Obligations.TilthThreadOperations : Prop :=
  ∀ (b th : Nat) (rd rs1 : Fin 32) (s : State), Ready s → s.part.threadReady b th = true →
    let u := s.part.thread b th
    let x := xReg u rs1
    let d := s.part.bed b
    Completes (.tcfg b th rd rs1) s (fun t => ThreadOnly b th s t ∧ Retired rd u.tcfg 4 { u with tcfg := x } (t.part.thread b th)) ∧
    (∀ n : Fin 32, d.engineOps th ≤ n → Completes (.twait b th rd n) s (fun t => ThreadOnly b th s t ∧
      Retired rd (BitVec.ofNat 32 (d.engineOps th)) 4 u (t.part.thread b th))) ∧
    (∀ n : Fin 32, n.val < d.engineOps th → Completes (.twait b th rd n) s (fun t => ThreadOnly b th s t ∧
      RetiredAs (fun v => { v with wait := .twait rd n }) u (t.part.thread b th))) ∧
    (∀ m : Fin 32, m.val < 8 → (m.val % 2 = 1 → d.engineOps th = 0) → (m.val / 2 % 2 = 1 → d.copies th = 0) →
      Completes (.tfence b th m) s (fun t => ThreadOnly b th s t ∧ RetiredAs id u (t.part.thread b th))) ∧
    Completes (.texit b th) s (fun t => ThreadOnly b th s t ∧ RetiredAs (fun v => { v with wait := .exited }) u (t.part.thread b th)) ∧
    (x.toNat < 32 → Completes (.tbolt b th rd rs1) s (fun t => BedRest b th s t ∧ t.part.mem = s.part.mem ∧
      Retired rd (FMap.get (fun _ => 0) d.bolts (x.toNat % 16)) 4 u (t.part.thread b th) ∧
      (∀ c, c < 16 → FMap.get (fun _ => 0) (t.part.bed b).bolts c =
        if 16 ≤ x.toNat ∧ c = x.toNat % 16 then 0 else FMap.get (fun _ => 0) d.bolts c) ∧
      t.part.bed b = { d with threads := (t.part.bed b).threads, bolts := (t.part.bed b).bolts })) ∧
    (∀ i n : Nat, i < 8 → 0 < n → n ≤ 64 → x = BitVec.ofNat 32 (n * 256 + i) →
      let r := FMap.get Barrier.init d.barriers i
      (r.arrived = [] ∨ r.count = n) →
      (r.arrived.length + 1 < n → Completes (.tbar b th rs1) s (fun t => BedRest b th s t ∧ t.part.mem = s.part.mem ∧
        RetiredAs (fun v => { v with wait := .tbar i }) u (t.part.thread b th) ∧
        FMap.get Barrier.init (t.part.bed b).barriers i = { count := n, arrived := r.arrived ++ [th] })) ∧
      (n ≤ r.arrived.length + 1 → th ∉ r.arrived → Completes (.tbar b th rs1) s (fun t => t.part.mem = s.part.mem ∧
        RetiredAs id u (t.part.thread b th) ∧ (∀ i ∈ r.arrived, (t.part.thread b i).wait = .ready) ∧
        FMap.get Barrier.init (t.part.bed b).barriers i = Barrier.init i))) ∧
    (∀ l : List Byte, let k := s.part.thOf s.ns b th false
      k.own x.toNat 16 = true → s.part.thRead k x.toNat 16 = .ok l →
      let src := leNat (l.take 4)
      let dst := leNat ((l.drop 4).take 4)
      let len := leNat ((l.drop 8).take 4)
      leNat ((l.drop 12).take 4) = 0 → len % 64 = 0 → len ≤ 65536 → ownBase b ≤ src → src + len ≤ ownBase b + 0x180000 →
      0x80000000 ≤ dst → dst + len ≤ 0x88000000 → (∃ m, s.part.thRead k src len = .ok m) →
      (∃ ks, s.part.threadKeys k.k k.aper dst len = some ks) →
      Completes (.tput b th rd rs1) s (fun t => BedRest b th s t ∧ t.part.mem = s.part.mem ∧
        Retired rd (BitVec.ofNat 32 u.tputs) 4 { u with tputs := (u.tputs + 1) % 65536 } (t.part.thread b th) ∧
        (t.part.bed b).tputs =
          d.tputs ++ [⟨th, 0x1000000000 + (src - 0x80000000), 0x1000000000 + (dst - 0x80000000), len⟩]))

/-- TVLD and TVST (R280): where the descriptor is good and the walk lies in the bed's own store, TVLD writes the elements of the walk, padding
positions with PADVAL, to the vector group, and TVST stores the group's elements along the walk; the thread goes on. -/
def Obligations.TilthVectorWalks : Prop :=
  ∀ (b th : Nat) (vd rs1 : Fin 32) (s : State), Ready s → s.part.threadReady b th = true →
    let u := s.part.thread b th
    let k := s.part.thOf s.ns b th false
    let x := (xReg u rs1).toNat
    let v := { u with pc := u.pc + 4 }
    (∀ (c : VCfg) (g : Agd) (segs : List (Nat × Nat)) (r : List (Nat × Nat × Nat)),
      s.part.walkOf k v (tilthWord 2 0 rs1 2 vd) = .ok (c, g, segs) → s.part.vRead k (c.sew / 8) (g.accesses segs u.vl) = (r, none) →
      k.own x 64 = true → (g.segEn = true → k.own g.segtab (4 * g.segn) = true) → k.away (c.sew / 8) (g.accesses segs u.vl) = none →
      Completes (.tvld b th vd rs1) s (fun t => t.part.thread b th = { v with instret := u.instret + 1, v := (t.part.thread b th).v } ∧
        (t.part.thread b th).v = c.write u.v (c.grp vd 8) (fun i =>
          ((r.find? (fun y => y.1 == i)).map (·.2.2)).getD (g.padval % 2 ^ c.sew)) ∧
        (∀ i, i ≠ th → t.part.thread b i = s.part.thread b i) ∧ t.part.mem = s.part.mem ∧
        ∀ a, a ≠ R.BED_STATUS b → t.part.reg a = s.part.reg a)) ∧
    (∀ (c : VCfg) (g : Agd) (segs : List (Nat × Nat)) (q : Part),
      s.part.walkOf k v (tilthWord 3 0 rs1 2 vd) = .ok (c, g, segs) → k.own x 64 = true →
      (g.segEn = true → k.own g.segtab (4 * g.segn) = true) →
      Part.vWriteAll k (c.sew / 8) (fun _ i => vElem u.v vd c.sew i) (g.accesses segs u.vl) s.part = (q, none) →
      Completes (.tvst b th vd rs1) s (fun t => BedRest b th s t ∧ RetiredAs id u (t.part.thread b th) ∧ t.part.mem = q.mem))

/-- A write of DSP_Q_HEAD (R391). HEAD shows the offset. One that is no multiple of 64 or not below SIZE sets ERR, and no entry is taken; while the
queue is not enabled, or ERR stands, none is taken either. Otherwise the queue goes on with its entries. Dispatch, stripes, time limits and
teardown (R349, R392, R395, R406). A bed takes the command that the order picks, and holds it until its threads start; a command that has started
on another bed keeps its sequence number. A command past its limit is a job fault with cause LIMIT: nothing more of its job starts. Each has the
effect of its operation. -/
def Obligations.QueuesAndDispatch : Prop :=
  (∀ (w : Who) (plot q : Nat) (v : Word) (s : State), Ready s → 0 < plot → plot < 9 → q < 8 → Reaches s w plot →
    (w.plot = 0 ∨ q < s.part.img.queues plot) →
    exec (.dspQHeadWrite w plot q v) s = .next (s.settle (s.part.queueHead plot q v.toNat)) ∧
    (s.part.qSize plot q ≤ v.toNat ∨ v.toNat % 64 ≠ 0 → Completes (.dspQHeadWrite w plot q v) s (fun t =>
      t.part.reg (R.DSP_Q_HEAD (plot - 1) q) = v ∧ t.part.get (F.DSP_Q_STAT_ERR (plot - 1) q) = 1 ∧
      RegsOnly [R.DSP_Q_HEAD (plot - 1) q, R.DSP_Q_STAT (plot - 1) q] s t)) ∧
    (v.toNat < s.part.qSize plot q → v.toNat % 64 = 0 →
      (s.part.on (F.DSP_Q_CTRL_EN (plot - 1) q) = false ∨ s.part.on (F.DSP_Q_STAT_ERR (plot - 1) q) = true) →
      Completes (.dspQHeadWrite w plot q v) s (fun t =>
        t.part.reg (R.DSP_Q_HEAD (plot - 1) q) = v ∧ RegsOnly [R.DSP_Q_HEAD (plot - 1) q] s t))) ∧
  ((∀ (kind n : Nat) (s : State), Ready s → kind < 3 → s.part.canDispatch kind n = true →
    exec (.commandDispatch kind n) s = .next (s.settle (s.part.dispatch s.ns kind n))) ∧
  (∀ (n x : Nat) (c : Cmd) (s : State), Ready s → s.part.canDispatch 0 n = true →
    s.part.pick (s.part.jobs.ready.filter (fun c => s.part.fits c 0 n)) 0 = some c → c.seq = some x →
    Completes (.commandDispatch 0 n) s (fun t =>
      (∃ b : BedCmd, (t.part.bed n).cmd = some b ∧ b.cmd = { c with places := [n] } ∧ b.started = false ∧ b.startAt = s.ns) ∧
      (∀ b, b ≠ n → t.part.bed b = s.part.bed b) ∧ t.part.regs = s.part.regs ∧ t.part.mem = s.part.mem)) ∧
  (∀ (b : Nat) (s : State), Ready s → b < 64 → s.part.live = true → s.part.stripeReady b = true →
    exec (.stripeStart b) s = .next (s.settle (s.part.stripeStart s.ns b))) ∧
  (∀ (kind n h : Nat) (c : Cmd) (s : State), Ready s → kind < 3 → n < 64 → s.part.live = true →
    s.part.overLimit s.ns kind n = true → s.part.placeCmd kind n = some c → c.job = some h →
    s.part.jobs.faults.any (fun f => f.job == some h) = false → Completes (.commandTimeLimit kind n) s (fun t =>
      t.part.jobs.faults = s.part.jobs.faults ++ [⟨some h, c.plot, 9, c.seq.getD 0⟩] ∧
      (∀ d ∈ t.part.jobs.ready, d.job ≠ some h) ∧ t = { s with part := { s.part with jobs := t.part.jobs } })) ∧
  (∀ s : State, Ready s → s.part.live = true → s.part.jobs.faults ≠ [] →
    exec .jobTeardown s = .next (s.settle ((s.part.teardown s.ns).nextLoads s.ns))))

/-- The order in which a free bed, engine or core takes commands (R392). It takes none only where none is ready; a real-time command goes before every
best-effort one, the oldest CAPTURE_TS first and of equal ones the lower pipeline; a best-effort one has the highest priority of those ready, and
its plot comes next after the plot served last. -/
def Obligations.DispatchOrder : Prop :=
  ∀ (p : Part) (l : List Cmd) (unit : Nat),
    match p.pick l unit with
    | none => l = []
    | some c => c ∈ l ∧
      (∀ d ∈ l, p.cmdRt d = true → p.cmdRt c = true ∧
        (p.cmdTs c < p.cmdTs d ∨ (p.cmdTs c = p.cmdTs d ∧ p.cmdPipe c ≤ p.cmdPipe d))) ∧
      (p.cmdRt c = false → ∀ d ∈ l, p.cmdPrio d ≤ p.cmdPrio c ∧ (p.cmdPrio d = p.cmdPrio c →
        let last := FMap.get (fun _ => 0) p.jobs.turn (unit * 8 + p.cmdPrio c)
        (c.plot + 8 - last) % 9 ≤ (d.plot + 8 - last) % 9))

/-- Stakes (R401). A write of 1 to STK_TAKE of a free stake makes it held, with the writer's context ID as its owner; a write to a held stake changes
nothing and adds 1 to STK_CONTEND, which saturates. R402: a release from the owner's context frees the stake and clears BLIGHTED; one from any
other context changes nothing and adds 1 to STK_CONTEND (which saturates). -/
def Obligations.Stakes : Prop :=
  (∀ (w : Who) (ctx k : Nat) (s : State), Ready s → ctx < 2 ^ 32 → k < 256 → Reaches s w (s.part.img.stakeOwner k) →
    (s.part.get (F.STK_TAKE_TAKE k) = 0 → Completes (.stkTake w ctx k) s (fun t => t.part.get (F.STK_TAKE_TAKE k) = 1 ∧
      t.part.get (F.STK_OWNER_CTX k) = ctx ∧ RegsOnly [R.STK_TAKE k, R.STK_OWNER k] s t)) ∧
    (s.part.get (F.STK_TAKE_TAKE k) = 1 → Completes (.stkTake w ctx k) s (fun t =>
      t.part.get (F.STK_STAT_CONTEND k) = min (s.part.get (F.STK_STAT_CONTEND k) + 1) 65535 ∧
      t.part.get (F.STK_STAT_BLIGHTED k) = s.part.get (F.STK_STAT_BLIGHTED k) ∧ RegsOnly [R.STK_STAT k] s t))) ∧
  (∀ (w : Who) (ctx k : Nat) (s : State), Ready s → ctx < 2 ^ 32 → k < 256 → Reaches s w (s.part.img.stakeOwner k) →
    (s.part.get (F.STK_TAKE_TAKE k) = 1 ∧ s.part.get (F.STK_OWNER_CTX k) = ctx → Completes (.stkRel w ctx k) s (fun t =>
      t.part.get (F.STK_TAKE_TAKE k) = 0 ∧ t.part.get (F.STK_OWNER_CTX k) = 0 ∧ t.part.get (F.STK_STAT_BLIGHTED k) = 0 ∧
      t.part.get (F.STK_STAT_CONTEND k) = s.part.get (F.STK_STAT_CONTEND k) ∧
      RegsOnly [R.STK_TAKE k, R.STK_OWNER k, R.STK_STAT k] s t)) ∧
    (¬(s.part.get (F.STK_TAKE_TAKE k) = 1 ∧ s.part.get (F.STK_OWNER_CTX k) = ctx) → Completes (.stkRel w ctx k) s (fun t =>
      t.part.get (F.STK_STAT_CONTEND k) = min (s.part.get (F.STK_STAT_CONTEND k) + 1) 65535 ∧
      t.part.get (F.STK_STAT_BLIGHTED k) = s.part.get (F.STK_STAT_BLIGHTED k) ∧ RegsOnly [R.STK_STAT k] s t)))

/-- Models (R363 to R368, R370). A layer whose read fails leaves its model FAILED with cause READ, one whose digest differs with cause HASH. A pinned
model whose copies have settled is READY. A streamed inference's fetch settles one layer. The ends of reads, placements and fetches have the
effect of their operations. Grafts (R364, R376, R377, R380). A staging that settles leaves its model FAILED with cause MISMATCH where a layer
breaks R376; otherwise STAGED, and GRAFTING where its graft has been ordered. A layer's swap counts it; the last one makes N READY and the live
member of its family, and O LOADED. No other model changes. -/
def Obligations.ModelCommands : Prop :=
  ((∀ (k : Nat) (ok : Bool) (data : List Byte) (s : State), Ready s → k < 9 → s.part.readAwaited k = true →
    exec (.layerReadDone k ok data) s = .next (s.settle (s.part.layerRead s.ns k ok data))) ∧
  (∀ (k : Nat) (ok : Bool) (x : LoadRun) (data : List Byte) (s : State), Ready s → k < 9 → s.part.readAwaited k = true →
    s.part.loadq k = { cur := some x, queue := [] } → x.kernel = false →
    (ok = true → Crypto.sha256 data ≠ s.part.img.layerSha x.item x.layer) →
    Completes (.layerReadDone k ok data) s (fun t =>
      (t.part.model x.item).state = 7 ∧ (t.part.model x.item).cause = (if ok then 1 else 2) ∧
      (t.part.model x.item).ordered = false ∧ (∀ m, m ≠ x.item → t.part.model m = s.part.model m) ∧ (t.part.loadq k).cur = none)) ∧
  (∀ (m : Nat) (s : State), Ready s → s.part.storing = true → s.part.placing m 1 = true →
    Completes (.pinnedPlacementSettled m) s (fun t => (t.part.model m).state = 6 ∧ (t.part.model m).cause = 0 ∧
      (t.part.model m).placing = false ∧ ∀ n, n ≠ m → t.part.model n = s.part.model n)) ∧
  (∀ (h : Nat) (s : State), Ready s → s.part.live = true → s.part.fetchReady h = true →
    exec (.weightFetchSettled h) s = .next (s.settle (s.part.fetchSettled h)))) ∧
  ((∀ (m : Nat) (s : State), Ready s → s.part.storing = true → s.part.placing m 3 = true → s.part.stagingReady m = true →
    let bad := (List.range (s.part.img.modelLayers m)).any (s.part.mismatch m (s.part.familyLive m))
    Completes (.graftStagingSettled m) s (fun t =>
      (t.part.model m).state = (if bad then 7 else if (s.part.model m).ordered then 5 else 4) ∧
      (t.part.model m).cause = (if bad then 4 else 0) ∧ (t.part.model m).placing = false ∧ (t.part.model m).ordered = false ∧
      ∀ n, n ≠ m → t.part.model n = s.part.model n)) ∧
  (∀ (n : Nat) (s : State), Ready s → s.part.live = true → s.part.swapReady n = true →
    (s.part.model n).swapped + 1 < s.part.img.modelLayers n → Completes (.graftLayerSwap n) s (fun t =>
      t.part.model n = { s.part.model n with swapped := (s.part.model n).swapped + 1 } ∧
      (∀ m, m ≠ n → t.part.model m = s.part.model m) ∧ t.part.models.live = s.part.models.live)) ∧
  (∀ (n : Nat) (s : State), Ready s → s.part.live = true → s.part.swapReady n = true →
    (s.part.model n).swapped + 1 = s.part.img.modelLayers n → s.part.img.graftOf n ≠ n → Completes (.graftLayerSwap n) s (fun t =>
      (t.part.model n).state = 6 ∧ (t.part.model (s.part.img.graftOf n)).state = 2 ∧ t.part.familyLive n = n ∧
      ∀ m, m ≠ n → m ≠ s.part.img.graftOf n → t.part.model m = s.part.model m)))

/-- EN of a Barrow channel (R438). Written 1 in DISABLED with a valid ring and no doorbell pending, the channel is IDLE, its hysteresis state OFF
(R431), and it will read at HEAD; with an invalid ring it stays DISABLED and records cause CONFIG. Written 0, an IDLE, WAITING, PAUSED or ERROR
channel is DISABLED and what it fetched is gone; a RUNNING or FENCED one keeps its EN. PAUSE of a channel and of all Barrow (R435, R436). Written
1 to a channel that is enabled, only the bit changes at once, and the global one likewise; written 0, a PAUSED channel with a descriptor in
progress runs again and will repeat its re-read. Any write of them has the effect of its operation. Once nothing of a pausing channel is in flight
it enters PAUSED, and keeps the state that it left. -/
def Obligations.ChannelControl : Prop :=
  (∀ (w : Who) (c : Nat) (s : State), Ready s → c < 64 → Reaches s w (s.part.chOwner c) →
    (s.part.chState c = 0 → s.part.ringValid c = true → s.part.get (F.BRW_CH_STATE_DB_PEND c) = 0 →
      Completes (.brwChEnWrite w c true) s (fun t => t.part.get (F.BRW_CH_CTRL_EN c) = 1 ∧ t.part.chState c = 1 ∧
        t.part.get (F.BRW_CH_STATE_HYST_ON c) = 0 ∧
        t.part.chan c = { s.part.chan c with next := s.part.get (F.BRW_CH_HEAD_INDEX c) } ∧
        t.part.mem = s.part.mem ∧ ChannelOnly c (R.BRW_CH_CTRL c :: chRegs c) s t)) ∧
    (s.part.chState c = 0 → s.part.ringValid c = false → Completes (.brwChEnWrite w c true) s (fun t =>
      t.part.chState c = 0 ∧ t.part.get (F.BRW_CH_ERR_CAUSE c) = 6 ∧ RegsOnly [R.BRW_CH_CTRL c, R.BRW_CH_ERR c] s t)) ∧
    (s.part.chState c ∈ [1, 2, 4, 5] → Completes (.brwChEnWrite w c false) s (fun t => t.part.get (F.BRW_CH_CTRL_EN c) = 0 ∧
      t.part.chState c = 0 ∧ t.part.chan c = { s.part.chan c with run := none } ∧ t.part.mem = s.part.mem ∧
      ChannelOnly c (R.BRW_CH_CTRL c :: chRegs c) s t)) ∧
    (s.part.chState c ∈ [3, 6] → Completes (.brwChEnWrite w c false) s (RegsOnly [] s))) ∧
  ((∀ (w : Who) (c : Nat) (s : State), Ready s → c < 64 → Reaches s w (s.part.chOwner c) →
    s.part.get (F.BRW_CH_CTRL_EN c) = 1 → s.part.chState c ≠ 0 →
    Completes (.brwChPause w c true) s (fun t => t.part.get (F.BRW_CH_CTRL_PAUSE c) = 1 ∧ t.part.get (F.BRW_CH_CTRL_EN c) = 1 ∧
      RegsOnly [R.BRW_CH_CTRL c] s t) ∧
    (∀ r, s.part.chState c = 4 → (s.part.chan c).run = some r → s.part.get F.BRW_CTRL_PAUSE = 0 →
      Completes (.brwChPause w c false) s (fun t => t.part.get (F.BRW_CH_CTRL_PAUSE c) = 0 ∧ t.part.chState c = 3 ∧
        t.part.chan c = s.part.chan c ∧ t.part.mem = s.part.mem ∧ ChannelOnly c (R.BRW_CH_CTRL c :: chRegs c) s t))) ∧
  (∀ (w : Who) (s : State), Ready s → Firmware s w →
    Completes (.brwCtrlPause w true) s (fun t => t.part.get F.BRW_CTRL_PAUSE = 1 ∧ RegsOnly [R.BRW_CTRL] s t) ∧
    exec (.brwCtrlPause w false) s = .next (s.settle (s.part.brwPause s.ns false))) ∧
  (∀ (c : Nat) (s : State), Ready s → c < 64 → s.part.live = true → s.part.pauseReady c = true →
    Completes (.channelPaused c) s (fun t => t.part.chState c = 4 ∧ (t.part.chan c).left = s.part.chState c ∧
      (t.part.chan c).fins = (s.part.chan c).fins ∧ t.part.mem = s.part.mem ∧ ChannelOnly c (R.BRW_CH_HEAD c :: chRegs c) s t)))

/-- A doorbell (R422). An IDLE channel reads the OWN word at HEAD again: with OWN 1 it takes that descriptor and is WAITING; with OWN 0 it stays IDLE.
In any other state of an enabled channel the doorbell is remembered in DB_PEND, and nothing else changes. Pacing (R431 to R434). LEVEL_ADD adds
its value to LEVEL, which saturates with IRQ.LEVEL_OVF, and the hysteresis state becomes ON where LEVEL has reached HIGH. A write of TRIG sets its
three fields, and is ignored as a whole where it names a channel of another owner. A start event whose source TRIG selects adds RUN credits, or 1
for RUN 0; any other is discarded without being counted. -/
def Obligations.ChannelStarts : Prop :=
  (∀ (w : Who) (c : Nat) (s : State), Ready s → c < 64 → Reaches s w (s.part.chOwner c) → s.part.get (F.BRW_CH_CTRL_EN c) = 1 →
    (∀ l : List Byte, s.part.chState c = 1 → s.part.chPaused c = false → (s.part.chan c).fins = [] →
      s.part.get (F.BRW_CH_STATE_DB_PEND c) = 0 → s.part.ringBytes c (s.part.chan c).next 0 64 = some l →
      let own := (l.headD 0).toNat % 2
      (own = 0 → Completes (.brwChDoorbell w c) s (fun t => t.part.chState c = 1 ∧ (t.part.chan c).run = (s.part.chan c).run ∧
        t.part.get (F.BRW_CH_STATE_DB_PEND c) = 0 ∧ t.part.mem = s.part.mem ∧
        ChannelOnly c (R.BRW_CH_CTRL c :: R.BRW_CH_HEAD c :: chRegs c) s t)) ∧
      (own = 1 → c < 48 → (s.part.chan c).next < 4096 → Completes (.brwChDoorbell w c) s (fun t => t.part.chState c = 2 ∧
        t.part.get (F.BRW_CH_HEAD_INDEX c) = (s.part.chan c).next ∧
        (∃ r, (t.part.chan c).run = some r ∧ r.d = readBrw (s.part.chan c).next l ∧ r.running = false ∧ r.bytes = 0) ∧
        t.part.mem = s.part.mem ∧ ChannelOnly c (R.BRW_CH_CTRL c :: R.BRW_CH_HEAD c :: chRegs c) s t))) ∧
    (s.part.chState c ∈ [2, 3, 5, 6] → Completes (.brwChDoorbell w c) s (fun t => t.part.get (F.BRW_CH_STATE_DB_PEND c) = 1 ∧
      t.part.chState c = s.part.chState c ∧ t.part.get (F.BRW_CH_CTRL_EN c) = 1 ∧
      t.part.get (F.BRW_CH_CTRL_PAUSE c) = s.part.get (F.BRW_CH_CTRL_PAUSE c) ∧
      RegsOnly [R.BRW_CH_CTRL c, R.BRW_CH_STATE c] s t))) ∧
  ((∀ (w : Who) (c : Nat) (v : Word) (s : State), Ready s → c < 64 → Reaches s w (s.part.chOwner c) →
    (s.part.get (F.BRW_CH_IRQ_EN_EN c)).testBit 2 = false →
    let sum := s.part.get (F.BRW_CH_LEVEL_BYTES c) + v.toNat
    Completes (.brwChLevelAdd w c v) s (fun t => t.part.get (F.BRW_CH_LEVEL_BYTES c) = min sum 0xFFFFFFFF ∧
      t.part.get (F.BRW_CH_STATE_HYST_ON c) = (if s.part.get (F.BRW_CH_HIGH_BYTES c) ≤ min sum 0xFFFFFFFF then 1
        else s.part.get (F.BRW_CH_STATE_HYST_ON c)) ∧
      t.part.get (F.BRW_CH_IRQ_LEVEL_OVF c) = (if 0xFFFFFFFF < sum then 1 else s.part.get (F.BRW_CH_IRQ_LEVEL_OVF c)) ∧
      RegsOnly [R.BRW_CH_LEVEL c, R.BRW_CH_STATE c, R.BRW_CH_IRQ c] s t)) ∧
  (∀ (w : Who) (c : Nat) (v : Word) (s : State), Ready s → c < 64 → Reaches s w (s.part.chOwner c) →
    (v.bits 1 0 = 2 → s.part.chOwner (v.bits 13 8) = s.part.chOwner c) → Completes (.brwChTrigWrite w c v) s (fun t =>
      t.part.get (F.BRW_CH_TRIG_SRC c) = v.bits 1 0 ∧ t.part.get (F.BRW_CH_TRIG_CHAN c) = v.bits 13 8 ∧
      t.part.get (F.BRW_CH_TRIG_RUN c) = v.bits 23 16 ∧ RegsOnly [R.BRW_CH_TRIG c] s t)) ∧
  (∀ (w : Who) (c : Nat) (v : Word) (s : State), Ready s → c < 64 → Reaches s w (s.part.chOwner c) → v.bits 1 0 = 2 →
    s.part.chOwner (v.bits 13 8) ≠ s.part.chOwner c → Completes (.brwChTrigWrite w c v) s (fun t =>
      t.part.reg (R.BRW_CH_TRIG c) = s.part.reg (R.BRW_CH_TRIG c))) ∧
  (∀ (c : Nat) (x : Option Nat) (r : List (Option Nat)) (s : State), Ready s → c < 64 → s.part.live = true →
    (s.part.chan c).due = x :: r →
    (s.part.trigTakes c x = true → s.part.chState c ≠ 6 → s.part.get (F.BRW_CH_CTRL_PACE c) = 2 →
      let sum := s.part.get (F.BRW_CH_CREDIT_CREDIT c) + max 1 (s.part.get (F.BRW_CH_TRIG_RUN c))
      sum ≤ 255 → Completes (.startEvent c) s (fun t => t.part.get (F.BRW_CH_CREDIT_CREDIT c) = sum ∧
        t.part.chan c = { s.part.chan c with due := r } ∧ t.part.mem = s.part.mem ∧ ChannelOnly c [R.BRW_CH_CREDIT c] s t)) ∧
    (s.part.trigTakes c x = false → Completes (.startEvent c) s (fun t => t.part.chan c = { s.part.chan c with due := r } ∧
      t.part.regs = s.part.regs ∧ t.part.mem = s.part.mem ∧ ChannelOnly c [] s t))))

/-- Moving (R416, R428). A re-read that finds the descriptor as it was starts it, or resumes it at its cursor; one that finds OWN 0 leaves the channel
IDLE. A beat of a copy reads up to 64 bytes of a row through the map of the channel's owner or tag, writes them to the destination in memory and
moves the cursor past them; no other byte changes. The end of a descriptor (R423, R424). When the last write of a copy has left, its completion is
noted with its bytes and a DONE_TS 2 to 4 ns before the Sundial. The STATUS write puts STATUS, BYTES and DONE_TS at 0x30 of the descriptor and
nothing else in memory; the OWN write then clears OWN with TICKET unchanged, and BRW_CH_DONE counts a good descriptor. Once its data writes are
performed BRW_CH_SETTLED counts it. Here the descriptors neither signal an event nor an interrupt. -/
def Obligations.ChannelWork : Prop :=
  ((∀ (c : Nat) (r : BrwRun) (l : List Byte) (s : State), Ready s → c < 64 → s.part.live = true → s.part.rereadReady c = true →
    (s.part.chan c).run = some r → s.part.ringBytes c r.d.index 0 64 = some l →
    ((l.headD 0).toNat % 2 = 0 → Completes (.ownRereadReturn c) s (fun t => t.part.chState c = 1 ∧ (t.part.chan c).run = none ∧
      (t.part.chan c).next = r.d.index ∧ t.part.mem = s.part.mem ∧ ChannelOnly c (R.BRW_CH_HEAD c :: chRegs c) s t)) ∧
    ((l.headD 0).toNat % 2 = 1 → (readBrw r.d.index l).ticket = r.d.ticket →
      (r.begun = true → Completes (.ownRereadReturn c) s (fun t => (t.part.chan c).run = some { r with running := true } ∧
        t.part.mem = s.part.mem)) ∧
      (r.begun = false → s.part.get (F.BRW_CH_CTRL_PACE c) ≠ 2 → r.d.ok c = true → Completes (.ownRereadReturn c) s (fun t =>
        t.part.chState c = 3 ∧ (∃ x, (t.part.chan c).run = some x ∧ x.d = r.d ∧ x.running = true ∧ x.row = 0 ∧ x.off = 0 ∧ x.bytes = 0) ∧
        t.part.mem = s.part.mem)))) ∧
  (∀ (c : Nat) (r : BrwRun) (ks kd : List Nat) (s : State), Ready s → c < 64 → s.part.live = true → s.part.beatReady c = true →
    (s.part.chan c).run = some r → r.d.dstSpace = 0 →
    let k := s.part.chTag c r.d
    let n := min 64 (r.d.len - r.off)
    s.part.memKeys k (rowAddr r.d.src r.d.srcStride r.row r.off) n false = some ks →
    s.part.memKeys k (rowAddr r.d.dst r.d.dstStride r.row r.off) n true = some kd → kd.Nodup →
    (k = 0 ∨ ks.any (s.part.lockedKey k) = false) → Completes (.barrowReadReturn c false) s (fun t =>
      (∀ (i a b : Nat), ks[i]? = some a → kd[i]? = some b → t.part.byte b = s.part.byte a) ∧
      (∀ a, a ∉ kd → t.part.byte a = s.part.byte a) ∧
      (∃ x, (t.part.chan c).run = some x ∧ x.d = r.d ∧ x.running = true ∧ x.bytes = r.bytes + n ∧
        (if r.off + n < r.d.len then x.row = r.row ∧ x.off = r.off + n else x.row = r.row + 1 ∧ x.off = 0)) ∧
      ChannelOnly c [R.BRW_CH_CUR_SRC_LO c, R.BRW_CH_CUR_SRC_HI c, R.BRW_CH_CUR_DST_LO c, R.BRW_CH_CUR_DST_HI c,
        R.BRW_CH_CUR_REMAIN c, R.BRW_CH_CUR_ROWS c] s t))) ∧
  ((∀ (c : Nat) (r : BrwRun) (s : State), Ready s → c < 64 → s.part.live = true → s.part.completeReady c = true →
    (s.part.chan c).run = some r → r.d.kind ≠ 1 → 4 ≤ s.ns → Completes (.descriptorComplete c) s (fun t =>
      (∃ f : BrwFin, (t.part.chan c).fins = (s.part.chan c).fins ++ [f] ∧ f.d = r.d ∧ f.status = 1 ∧ f.bytes = r.bytes ∧
        f.phase = 1 ∧ f.settled = false ∧ f.doneTs + 2 ≤ s.ns ∧ s.ns ≤ f.doneTs + 4) ∧
      ∀ d, d ≠ c → t.part.chan d = s.part.chan d)) ∧
  (∀ (c : Nat) (f : BrwFin) (a b : List BrwFin) (ks : List Nat) (s : State), Ready s → c < 64 → s.part.live = true →
    (s.part.chan c).fins = a ++ f :: b → (∀ x ∈ a, x.phase ≠ 1) → f.phase = 1 →
    s.part.memKeys (s.part.chOwner c) (s.part.descAt c f.d.index + 0x30) 16 true = some ks → ks.Nodup →
    Completes (.statusWritePerformed c) s (fun t => (t.part.chan c).fins = a ++ { f with phase := 2 } :: b ∧
      (∀ (i k : Nat), ks[i]? = some k → some (t.part.byte k) = (toLe 4 f.status ++ toLe 4 f.bytes ++ toLe 8 f.doneTs)[i]?) ∧
      (∀ k, k ∉ ks → t.part.byte k = s.part.byte k) ∧ ChannelOnly c [R.BRW_CH_HEAD c] s t)) ∧
  (∀ (c : Nat) (f : BrwFin) (a b : List BrwFin) (ks : List Nat) (s : State), Ready s → c < 64 → s.part.live = true →
    (s.part.chan c).fins = a ++ f :: b → (∀ x ∈ a, x.phase ≠ 2) → f.phase = 2 → f.bad = false → f.d.event = false → f.d.irq = false →
    s.part.memKeys (s.part.chOwner c) (s.part.descAt c f.d.index + 0) 4 true = some ks → ks.Nodup →
    Completes (.ownWritePerformed c) s (fun t =>
      t.part.get (F.BRW_CH_DONE_COUNT c) = (s.part.get (F.BRW_CH_DONE_COUNT c) + 1) % 2 ^ 32 ∧
      (∀ (i k : Nat), ks[i]? = some k → some (t.part.byte k) = ([0, 0] ++ toLe 2 f.d.ticket)[i]?) ∧
      (∀ k, k ∉ ks → t.part.byte k = s.part.byte k) ∧ ChannelOnly c (R.BRW_CH_DONE c :: chRegs c) s t)) ∧
  (∀ (c : Nat) (f : BrwFin) (a b : List BrwFin) (s : State), Ready s → c < 64 → s.part.live = true →
    (s.part.chan c).fins = a ++ f :: b → (∀ x ∈ a, x.settled = true) → f.settled = false → f.d.event = false → f.d.irq = false →
    Completes (.descriptorSettled c) s (fun t =>
      t.part.get (F.BRW_CH_SETTLED_COUNT c) = (s.part.get (F.BRW_CH_SETTLED_COUNT c) + 1) % 2 ^ 32 ∧ t.part.mem = s.part.mem ∧
      t.part.get (F.BRW_CH_DONE_COUNT c) = s.part.get (F.BRW_CH_DONE_COUNT c) ∧ ChannelOnly c (R.BRW_CH_SETTLED c :: chRegs c) s t)))

/-- Accesses of DRAM (R453, R454, R458). A write that is accepted is performed: its bytes stand in its plot's memory and every other byte is as
before; a partial write whose read stays uncorrectable leaves all memory as it was and counts in DMC_UE_COUNT. A read that meets no error, or a
corrected one, changes no byte; the corrected word is counted and named in DMC_ERR. -/
def Obligations.DramAccessesComplete : Prop :=
  (∀ (w : Writer) (port : Option Nat) (a : Nat) (data : List Byte) (merge : EccOutcome) (ks : List Nat) (s : State), Ready s →
    s.part.writeFits w port a data = true → s.part.memKeys w.plot.val a data.length true = some ks → ks.Nodup →
    (data.length = 64 ∨ ∀ x, merge ≠ .uncorrectable x) → Completes (.dramWriteAccept w port a data merge) s (fun t =>
      (∀ (i k : Nat), ks[i]? = some k → some (t.part.byte k) = data[i]?) ∧ (∀ k, k ∉ ks → t.part.byte k = s.part.byte k) ∧
      (∀ r, r / 0x100000 ≠ 6 → t.part.reg r = s.part.reg r) ∧ t.sun = s.sun)) ∧
  (∀ (w : Writer) (port : Option Nat) (a x : Nat) (data : List Byte) (s : State), Ready s →
    s.part.writeFits w port a data = true → data.length ≠ 64 →
    s.part.dmc.touched.contains (dramAt s.part.dmcRanks (s.part.sysAddr w.plot.val a)).q = true →
    Completes (.dramWriteAccept w port a data (.uncorrectable x)) s (fun t => t.part.mem = s.part.mem ∧
      t.part.get F.DMC_UE_COUNT_COUNT = min (s.part.get F.DMC_UE_COUNT_COUNT + 1) 65535 ∧ t.part.get F.DMC_EVENTS_UE = 1)) ∧
  (∀ (r : Reader) (a : Nat) (o : EccOutcome) (ahead served : Bool) (s : State), Ready s → s.part.readFits r a = true →
    (∀ x, o ≠ .uncorrectable x) → Completes (.dramReadReturn r a o ahead served) s (fun t => t.part.mem = s.part.mem ∧
      t.part.get F.DMC_UE_COUNT_COUNT = s.part.get F.DMC_UE_COUNT_COUNT ∧
      (o = .clean → t.part.get F.DMC_CE_COUNT_COUNT = s.part.get F.DMC_CE_COUNT_COUNT) ∧
      (∀ x, o = .corrected x → x < 56 → t.part.get F.DMC_CE_COUNT_COUNT = min (s.part.get F.DMC_CE_COUNT_COUNT + 1) 65535 ∧
        t.part.get F.DMC_EVENTS_CE = 1 ∧ t.part.get F.DMC_ERR_INFO_UE = 0 ∧ t.part.get F.DMC_ERR_INFO_WORD = x) ∧
      (∀ b, b / 0x100000 ≠ 6 → t.part.reg b = s.part.reg b) ∧ t.sun = s.sun))

/-- The mapping of R461 never folds two units of DRAM onto one place: units that agree in channel, bank, rank, row and column are the same unit, and
no unit lies in the column of a check burst. -/
def Obligations.DramMappingInjective : Prop :=
  (∀ ranks a b : Nat,
    let x := dramAt ranks a
    let y := dramAt ranks b
    x.ch = y.ch → x.bank = y.bank → x.rank = y.rank → x.row = y.row → x.col = y.col → a / 64 = b / 64) ∧
  (∀ ranks a : Nat, (dramAt ranks a).ch < 4 ∧ (dramAt ranks a).bank < 16 ∧ (dramAt ranks a).col < 64 ∧ (dramAt ranks a).col % 8 ≠ 7)

/-- Refresh (R467, R468). A refresh that falls due is issued with those owed where no Wilt request is queued for the rank, is postponed where one is,
and at 8 owed goes ahead of Wilt: 7 stay owed, and the forced refresh is counted. A ZQ latch or an oscillator update waits for every rank's next
refresh window; an update beyond the drift limit sets DRIFT. The Weeder and Wilt (R463, R465, R473). A read of the Weeder moves WEED_POS to the
next group, or at the last group back to 0, which counts a pass; it changes no byte. A port that raises Wilt shows and counts it; while its plot's
bucket denies it, the loss is counted. A port that drops Wilt no longer shows it, and while another asserts Wilt nothing else happens. A write of
NBR_K by plot 0 firmware: a value from 8 to 14 is taken, any other leaves the field unchanged, and the fields beside it stay (R472). -/
def Obligations.RefreshWeederWilt : Prop :=
  ((∀ (ch rank : Nat) (wilt : Bool) (s : State), Ready s → ch < 4 → rank < 2 → s.part.rankRuns ch rank = true →
    s.part.get (owedFld ch rank) < 8 →
    let n := s.part.get (owedFld ch rank) + 1
    Completes (.refreshDue ch rank wilt) s (fun t =>
      t.part.get (owedFld ch rank) = (if wilt = false then 0 else if n < 8 then n else 7) ∧
      t.part.get (owedFld ch (1 - rank)) = s.part.get (owedFld ch (1 - rank)) ∧
      (wilt = true → 8 ≤ n → t.part.get F.DMC_EVENTS_REF_FORCED = 1 ∧
        t.part.get F.DMC_REF_FORCED_COUNT = (s.part.get F.DMC_REF_FORCED_COUNT + 1) % 2 ^ 32) ∧
      (¬(wilt = true ∧ 8 ≤ n) → ∀ a, a ≠ R.DMC_REF_OWED ch → t.part.reg a = s.part.reg a) ∧
      t = { s with part := { s.part with regs := t.part.regs, dmc := t.part.dmc } })) ∧
  (∀ s : State, Ready s → s.part.dmcOn = true → Completes .zqLatch s (fun t =>
    (∀ ch rank, ch < 4 → rank < s.part.dmcRanks → ch * 2 + rank ∈ t.part.dmc.zqDue) ∧
    t = { s with part := { s.part with dmc := { s.part.dmc with zqDue := t.part.dmc.zqDue } } })) ∧
  (∀ (drift : Nat) (s : State), Ready s → s.part.dmcOn = true → Completes (.dqsOscUpdate drift) s (fun t =>
    (∀ ch rank, ch < 4 → rank < s.part.dmcRanks → ch * 2 + rank ∈ t.part.dmc.oscDue) ∧
    t.part.get F.DMC_EVENTS_DRIFT = (if s.part.dmcTime 17 < drift then 1 else s.part.get F.DMC_EVENTS_DRIFT) ∧
    (∀ a, a ≠ R.DMC_EVENTS → t.part.reg a = s.part.reg a) ∧
    t = { s with part := { s.part with regs := t.part.regs, dmc := { s.part.dmc with oscDue := t.part.dmc.oscDue } } }))) ∧
  ((∀ (o : EccOutcome) (s : State), Ready s → s.part.weedDue s.ns = true → Completes (.weederRead o) s (fun t =>
    let g := s.part.get F.DMC_WEED_POS_Q
    (g + 1 < s.part.dmcGroups → t.part.get F.DMC_WEED_POS_Q = (g + 1) % 2 ^ 32 ∧
      t.part.get F.DMC_WEED_PASSES_COUNT = s.part.get F.DMC_WEED_PASSES_COUNT) ∧
    (s.part.dmcGroups ≤ g + 1 → t.part.get F.DMC_WEED_POS_Q = 0 ∧ t.part.dmc.weedAt = s.ns ∧
      t.part.get F.DMC_WEED_PASSES_COUNT = (s.part.get F.DMC_WEED_PASSES_COUNT + 1) % 2 ^ 32) ∧
    t.part.mem = s.part.mem ∧ ∀ a, a / 0x100000 ≠ 6 → t.part.reg a = s.part.reg a)) ∧
  (∀ (r plot level : Nat) (s : State), Ready s → r < 19 → plot < 9 → level < 101 → s.part.wiltRises r level = true →
    let denied := (s.part.dmcBucket s.ns plot).denied
    Completes (.wiltRaise r plot level) s (fun t => t.part.get (F.DMC_RT_WILT_ASSERTED r) = 1 ∧
      t.part.get (F.DMC_RT_COUNT_COUNT r) = (s.part.get (F.DMC_RT_COUNT_COUNT r) + 1) % 2 ^ 32 ∧
      t.part.get (F.DMC_WILT_DENIED_COUNT plot) = min (s.part.get (F.DMC_WILT_DENIED_COUNT plot) + denied.toNat) 65535 ∧
      RegsOnly [R.DMC_RT_WILT r, R.DMC_RT_COUNT r, R.DMC_WILT_DENIED plot, R.DMC_EVENTS] s t)) ∧
  (∀ (r x level : Nat) (s : State), Ready s → r < 19 → level < 101 → s.part.wiltFalls r level = true → x < 19 → x ≠ r →
    s.part.get (F.DMC_RT_WILT_ASSERTED x) = 1 → Completes (.wiltDrop r level) s (fun t =>
      t.part.get (F.DMC_RT_WILT_ASSERTED r) = 0 ∧ RegsOnly [R.DMC_RT_WILT r] s t))) ∧
  (∀ (w : Who) (k : Nat) (s : State), Ready s → Firmware s w → k < 16 → Completes (.dmcNbrKWrite w k) s (fun t =>
    t.part.get F.DMC_CTRL_NBR_K = (if 8 ≤ k ∧ k ≤ 14 then k else s.part.get F.DMC_CTRL_NBR_K) ∧
    t.part.get F.DMC_CTRL_EN = s.part.get F.DMC_CTRL_EN ∧ t.part.get F.DMC_CTRL_WEED_EN = s.part.get F.DMC_CTRL_WEED_EN ∧
    t.part.get F.DMC_CTRL_RFM_ALWAYS = s.part.get F.DMC_CTRL_RFM_ALWAYS ∧ RegsOnly [R.DMC_CTRL] s t))

/-- Crates (R492, R494, R495, R498). A crate whose wait is over closes with CLOSE 1, and nothing else changes. A write of HVS_P_WAIT within the plot's
range is taken and any other leaves the field. The oldest closed crate is sealed with the next CRATE_SEQ and staged; its records move no byte of
the part's memory. When a ring's hold-off expires, one MSI covers the advances made during it. -/
def Obligations.CratesComplete : Prop :=
  (∀ (plot : Nat) (o : OpenCrate) (s : State), Ready s → plot < 9 → s.part.live = true → (s.part.hv plot).opened = some o →
    o.firstAt + s.part.get (F.HVS_P_WAIT_US plot) * 1000 ≤ s.ns → Completes (.crateWaitExpiry plot) s (fun t =>
      (t.part.hv plot).opened = none ∧
      (∃ c, (t.part.hv plot).closed = (s.part.hv plot).closed ++ [c] ∧ c.recs = o.recs ∧ c.close = 1 ∧
        c.job = s.part.get (F.HVS_P_SEAL_JOB_JOB plot)) ∧
      (∀ k, k ≠ plot → t.part.hv k = s.part.hv k) ∧ t = { s with part := { s.part with hvs := t.part.hvs } })) ∧
  (∀ (w : Who) (plot : Nat) (us : Word) (s : State), Ready s → plot < 9 → Reaches s w plot →
    let n := us.bits 19 0
    Completes (.hvsPWaitWrite w plot us) s (fun t => t.part.get (F.HVS_P_WAIT_US plot) =
        (if 100 ≤ n ∧ n ≤ (if plot = 0 then 1000000 else 100000) then n else s.part.get (F.HVS_P_WAIT_US plot)) ∧
      RegsOnly [R.HVS_P_WAIT plot] s t)) ∧
  (∀ (plot : Nat) (c : ClosedCrate) (rest : List ClosedCrate) (s : State), Ready s → plot < 9 → s.part.live = true →
    (s.part.hv plot).closed = c :: rest → (s.part.hv plot).cellarOut = none → Completes (.crateSealed plot) s (fun t =>
      let seq := s.part.crateSeq plot
      (t.part.hv plot).closed = rest ∧ t.part.crateSeq plot = (seq + 1) % 2 ^ 64 ∧
      (t.part.hv plot).staged.getLast? = some ⟨seq, s.ns,
        sealCrate plot s.part.boot.bootSeq (s.part.img.epoch plot) seq s.ns c⟩ ∧
      t.part.mem = s.part.mem ∧ t.part.nor = s.part.nor ∧ t.sun = s.sun ∧ t.pending = s.pending)) ∧
  (∀ (ring : Nat) (s : State), Ready s → ring < 9 → s.part.live = true → s.part.holdoffOver s.ns ring = true →
    s.part.get (F.HR_CTRL_IRQ_EN ring) = 1 → s.part.get F.PEP_LINK_UP = 1 → s.part.get F.PEP_LINK_MSI ≠ 0 →
    Completes (.msiHoldoffExpiry ring) s (fun t => (t.part.hv ring).msiOwed = false ∧
      (t.part.hv ring).msiAfter = s.ns + s.part.get (F.HR_HOLDOFF_US ring) * 1000 ∧
      t.part.out = .msi (ring % s.part.get F.PEP_LINK_MSI) :: s.part.out ∧ (∀ k, k ≠ ring → t.part.hv k = s.part.hv k) ∧
      t = { s with part := { s.part with hvs := t.part.hvs, out := t.part.out } }))

/-- The host's control of a ring (R40, R498, R499). While READY is 0 every write is discarded. EN written 0 stops the ring. An enable with a SIZE
outside 4 to 16, or a BASE that is no multiple of 4 096, is refused: EN stays 0 and CFG_ERR is set. One that is accepted sets PROD and CONS to 0
and writes the status line behind the slots. A write of HR_CONS from 0 to the ring's size behind PROD is taken, any other sets CONS_ERR and leaves
CONS; while EN is 0 it is ignored. -/
def Obligations.HostRingControl : Prop :=
  ∀ (ring : Nat) (s : State), Ready s → ring < 9 → s.part.get F.PEP_LINK_UP = 1 →
    let ready := s.part.get (F.HR_STAT_READY ring) = 1
    let on := s.part.get (F.HR_CTRL_EN ring) = 1
    let size := s.part.get (F.HR_SIZE_LOG2 ring)
    let base := s.part.get64 (F.HR_BASE_LO_ADDR ring) (F.HR_BASE_HI_ADDR ring)
    (∀ (en irq : Bool), ¬ready → Completes (.hrCtrlEn ring en irq) s (fun t => t = s)) ∧
    (∀ irq : Bool, ready → Completes (.hrCtrlEn ring false irq) s (fun t => t.part.get (F.HR_CTRL_EN ring) = 0 ∧
      t.part.get (F.HR_CTRL_IRQ_EN ring) = irq.toNat ∧ RegsOnly [R.HR_CTRL ring] s t)) ∧
    (∀ irq : Bool, ready → ¬on → size < 4 ∨ 16 < size ∨ base % 4096 ≠ 0 → Completes (.hrCtrlEn ring true irq) s (fun t =>
      t.part.get (F.HR_CTRL_EN ring) = 0 ∧ t.part.get (F.HR_STAT_CFG_ERR ring) = 1 ∧ t.part.get (F.HR_STAT_READY ring) = 1 ∧
      RegsOnly [R.HR_CTRL ring, R.HR_STAT ring] s t)) ∧
    (∀ irq : Bool, ready → ¬on → 4 ≤ size → size ≤ 16 → base % 4096 = 0 → Completes (.hrCtrlEn ring true irq) s (fun t =>
      t.part.get (F.HR_CTRL_EN ring) = 1 ∧ t.part.get (F.HR_PROD_INDEX ring) = 0 ∧ t.part.get (F.HR_CONS_INDEX ring) = 0 ∧
      (∃ line : List Byte, line.length = 64 ∧ line.take 4 = [0, 0, 0, 0] ∧
        t.part.out = .hostWrite (base + 2 ^ size * 4096) line :: s.part.out) ∧
      RegsOnly [R.HR_CTRL ring, R.HR_PROD ring, R.HR_CONS ring] { s with part := { s.part with out := t.part.out } } t)) ∧
    (∀ v : Word, ¬ready ∨ ¬on → Completes (.hrConsWrite ring v) s (fun t => t = s)) ∧
    (∀ v : Word, ready → on → (s.part.reg (R.HR_PROD ring) - v).toNat ≤ 2 ^ size → Completes (.hrConsWrite ring v) s (fun t =>
      t.part.reg (R.HR_CONS ring) = v ∧ RegsOnly [R.HR_CONS ring] s t)) ∧
    (∀ v : Word, ready → on → 2 ^ size < (s.part.reg (R.HR_PROD ring) - v).toNat → Completes (.hrConsWrite ring v) s (fun t =>
      t.part.get (F.HR_STAT_CONS_ERR ring) = 1 ∧ RegsOnly [R.HR_STAT ring] s t))

/-- The Cellar and replay (R505, R508, R511). A ready run is issued as one Write of its consecutive staged crates. Its completion makes them durable:
the head moves past them and wraps, and PRP_CMDS counts it. An order of replay while one runs, without a ring, or for a withered plot does
nothing; any other order, and a crate that a replay has read, have the effect of their operations. -/
def Obligations.CellarAndReplay : Prop :=
  (∀ (plot slot : Nat) (s : State), Ready s → plot < 9 → s.part.live = true → s.part.cellarReady plot = true → slot < 256 →
    s.part.nvCmd slot = none → (∀ x, x < slot → s.part.nvCmd x ≠ none) → Completes (.cellarWriteIssue plot) s (fun t =>
      let u := s.part.hv plot
      let head := s.part.get (F.HVS_P_CELLAR_HEAD_SLOT plot)
      let n := u.run head
      t.part.hv plot = { u with cellarOut := some (u.curCellar, n, head) } ∧ (∀ k, k ≠ plot → t.part.hv k = s.part.hv k) ∧
      (∃ c, t.part.nvCmd slot = some c ∧ c.op = 2 ∧ c.plot = plot ∧ c.a = u.curCellar ∧ c.b = n ∧
        c.lba = (s.part.cellarRing plot).2.1 + head * s.part.crateLbas plot ∧ c.blocks = n * s.part.crateLbas plot) ∧
      (∀ x, x ≠ slot → t.part.nvCmd x = s.part.nvCmd x) ∧
      t = { s with part := { s.part with hvs := t.part.hvs, nvme := t.part.nvme, out := t.part.out } })) ∧
  (∀ (plot first n slot : Nat) (s : State), Ready s → plot < 9 → s.part.live = true → s.part.cellarBusy plot = true →
    (s.part.hv plot).cellarOut = some (first, n, slot) → Completes (.cellarWriteComplete plot) s (fun t =>
      (t.part.hv plot).cellarOut = none ∧ (t.part.hv plot).curCellar = max (s.part.hv plot).curCellar (first + n) ∧
      t.part.get (F.HVS_P_CELLAR_HEAD_SLOT plot) = (slot + n) % max 1 (s.part.hv plot).ringSlots % 2 ^ 32 ∧
      t.part.get F.PRP_CMDS_COUNT = (s.part.get F.PRP_CMDS_COUNT + 1) % 2 ^ 32 ∧
      (∀ a, a ≠ R.HVS_P_CELLAR_HEAD plot → a ≠ R.PRP_CMDS → t.part.reg a = s.part.reg a) ∧
      (∀ k, k ≠ plot → t.part.hv k = s.part.hv k) ∧ t.part.mem = s.part.mem)) ∧
  (∀ (w : Who) (plot : Nat) (udp : Bool) (s : State), Ready s → plot < 9 →
    (if udp then Reaches s w plot else s.part.issues w = true ∧ w.plot = 0 ∧ s.part.get (F.HR_STAT_READY plot) = 1) →
    exec (.replayGo w plot udp) s = .next (s.settle (s.part.replayGo s.ns plot udp)) ∧
    (s.part.on (replayRegs plot udp).busy = true ∨ (s.part.hv plot).ringSlots = 0 ∨ s.part.get (F.PLT_STATE_STATE plot) = 3 →
      Completes (.replayGo w plot udp) s (fun t => t = s))) ∧
  (∀ (plot : Nat) (udp : Bool) (crate : List Byte) (s : State), Ready s → plot < 9 → s.part.live = true → crate.length = 4096 →
    ((s.part.hv plot).replay udp).isSome = true →
    exec (.replayCrateRead plot udp crate) s = .next (s.settle (s.part.replayCrate s.ns plot udp crate)) ∧
    ∀ r : Replay, (s.part.hv plot).replay udp = some r → (r.slot + 1) % max 1 (s.part.hv plot).ringSlots = r.stop →
      Completes (.replayCrateRead plot udp crate) s (fun t => (t.part.hv plot).replay udp = none ∧
        t.part.on (replayRegs plot udp).busy = false ∧ t.part.mem = s.part.mem ∧ t.part.nor = s.part.nor))

/-- The states of a Trellis port (R515, R516, R517). Firmware's EN starts training from DISABLED, and clears to DISABLED from any other state, with
the lanes, the peer and the credits gone; EN written again, or RETRAIN away from UP, changes nothing else. RETRAIN in UP counts and retrains.
Training ends UP with the peer's node where its identity is the expected one, and DOWN with the cause where it is not. Training that takes too
long goes DOWN with cause 1; a retrain that does fails, the third time DOWN with cause 5. A port that stays DOWN trains again, and a lane that
loses block lock retrains its port. -/
def Obligations.TrellisPortStates : Prop :=
  ∀ (k : Nat) (s : State), Ready s → k < 2 →
    let st := s.part.trlState k
    (∀ w : Who, Firmware s w →
      (st = 0 → Completes (.trlPEnWrite w k true) s (fun t => t.part.get (F.TRL_P_CTRL_EN k) = 1 ∧ t.part.trlState k = 1 ∧
        t.part.trlState (1 - k) = s.part.trlState (1 - k) ∧ TrellisOnly s t)) ∧
      (st ≠ 0 → Completes (.trlPEnWrite w k true) s (fun t => t.part.get (F.TRL_P_CTRL_EN k) = 1 ∧
        RegsOnly [R.TRL_P_CTRL k] s t)) ∧
      (st = 0 → Completes (.trlPEnWrite w k false) s (fun t => t.part.get (F.TRL_P_CTRL_EN k) = 0 ∧
        RegsOnly [R.TRL_P_CTRL k] s t)) ∧
      (st ≠ 0 → Completes (.trlPEnWrite w k false) s (fun t => t.part.get (F.TRL_P_CTRL_EN k) = 0 ∧ t.part.trlState k = 0 ∧
        t.part.get (F.TRL_P_STAT_LOCKED k) = 0 ∧ t.part.get (F.TRL_P_STAT_PEER_VALID k) = 0 ∧
        (∀ vc, vc < 3 → t.part.get (creditFld k vc) = 0) ∧ (t.part.tport k).held = [] ∧
        t.part.trlState (1 - k) = s.part.trlState (1 - k) ∧ TrellisOnly s t)) ∧
      (s.part.get (F.TRL_P_CTRL_EN k) = 1 → st = 2 → Completes (.trlPRetrain w k) s (fun t => t.part.trlState k = 3 ∧
        t.part.get (F.TRL_P_RETRAINS_COUNT k) = min (s.part.get (F.TRL_P_RETRAINS_COUNT k) + 1) 65535 ∧ TrellisOnly s t)) ∧
      (s.part.get (F.TRL_P_CTRL_EN k) = 1 → st ≠ 0 → st ≠ 2 → Completes (.trlPRetrain w k) s (RegsOnly [] s))) ∧
    (∀ node ring port order : Nat, s.part.live = true → st = 1 ∨ st = 3 → node < 4 → ring < 8 → port < 2 → order < 2 ^ 32 →
      let cause := s.part.identCause k node ring port order
      (cause = 0 → Completes (.trainingComplete k node ring port order) s (fun t => t.part.trlState k = 2 ∧
        t.part.get (F.TRL_P_STAT_PEER_VALID k) = 1 ∧ t.part.get (F.TRL_P_STAT_PEER_NODE k) = node ∧
        t.part.get (F.TRL_P_STAT_LOCKED k) = 15 ∧ t.part.get (F.TRL_P_EVENTS_UP k) = 1 ∧ (t.part.tport k).awaiting = true ∧
        TrellisOnly s t)) ∧
      (cause ≠ 0 → Completes (.trainingComplete k node ring port order) s (fun t => t.part.trlState k = 4 ∧
        t.part.get (F.TRL_P_STAT_CAUSE k) = cause ∧ t.part.get (F.TRL_P_EVENTS_DOWN k) = 1 ∧ TrellisOnly s t))) ∧
    (s.part.live = true →
      (st = 1 → Completes (.trainingTimeout k) s (fun t => t.part.trlState k = 4 ∧ t.part.get (F.TRL_P_STAT_CAUSE k) = 1 ∧
        TrellisOnly s t)) ∧
      (st = 3 → 2 ≤ (s.part.tport k).failures → Completes (.trainingTimeout k) s (fun t => t.part.trlState k = 4 ∧
        t.part.get (F.TRL_P_STAT_CAUSE k) = 5 ∧ TrellisOnly s t)) ∧
      (st = 3 → (s.part.tport k).failures < 2 → Completes (.trainingTimeout k) s (fun t => t.part.trlState k = 3 ∧
        (t.part.tport k).failures = (s.part.tport k).failures + 1 ∧
        t.part.get (F.TRL_P_RETRAINS_COUNT k) = min (s.part.get (F.TRL_P_RETRAINS_COUNT k) + 1) 65535 ∧ TrellisOnly s t)) ∧
      (st = 4 → s.part.get (F.TRL_P_CTRL_EN k) = 1 → Completes (.downHoldoffExpiry k) s (fun t => t.part.trlState k = 1 ∧
        TrellisOnly s t)) ∧
      (∀ lane : Nat, st = 2 → lane < 4 → Completes (.trellisBlockLockLoss k lane) s (fun t => t.part.trlState k = 3 ∧
        (t.part.get (F.TRL_P_STAT_LOCKED k)).testBit lane = false ∧ TrellisOnly s t)))

/-- Flits of a port that is UP (R522 to R524, R526, R528, R541, R542). A flit whose CRC fails is counted and asks for one replay, however many fail;
any other is received. The resend timer resends from the oldest held flit and counts, and the eighth time retrains. A VC that has stalled starts a
new generation of credits, or, while the port retrains, waits for its end. A CRED_RESYNC without an answer goes again. A port's slot sends a
waiting control body before anything else, with a flit of 64 bytes. -/
def Obligations.TrellisFlits : Prop :=
  ∀ (k : Nat) (s : State), Ready s → k < 2 → s.part.live = true →
    let u := s.part.tport k
    let st := s.part.trlState k
    (∀ flit : List Byte, st = 2 → flit.length = 64 → exec (.flitRx k flit) s = .next (s.settle (s.part.flitRx s.ns k flit))) ∧
    (∀ flit : List Byte, st = 2 → flit.length = 64 → Crypto.crc32c (flit.take 60) ≠ leNat (flit.drop 60) →
      Completes (.flitRx k flit) s (fun t =>
        t.part.get (F.TRL_P_CRC_ERR_COUNT k) = min (s.part.get (F.TRL_P_CRC_ERR_COUNT k) + 1) 65535 ∧
        (t.part.tport k) = (if u.nakked then u else
          { u with control := u.control ++ [toLe 1 1 ++ toLe 2 u.expect], nakked := true }) ∧
        (∀ a, a ≠ R.TRL_P_CRC_ERR k → t.part.reg a = s.part.reg a) ∧
        t = { s with part := { s.part with regs := t.part.regs, trl := t.part.trl } })) ∧
    (st = 2 → u.held ≠ [] → u.resends < 7 → Completes (.resendTimerExpiry k) s (fun t =>
      t.part.tport k = { u with resends := u.resends + 1, resend := u.held.length } ∧
      t.part.get (F.TRL_P_REPLAYS_COUNT k) = min (s.part.get (F.TRL_P_REPLAYS_COUNT k) + 1) 65535 ∧
      (∀ a, a ≠ R.TRL_P_REPLAYS k → t.part.reg a = s.part.reg a) ∧
      t = { s with part := { s.part with regs := t.part.regs, trl := t.part.trl } })) ∧
    (st = 2 → u.held ≠ [] → 7 ≤ u.resends → Completes (.resendTimerExpiry k) s (fun t => t.part.trlState k = 3 ∧ TrellisOnly s t)) ∧
    (∀ vc : Nat, vc < 3 → s.part.vcStalled k vc = true →
      (st = 2 → Completes (.creditTimeout k vc) s (fun t =>
        t.part.get (F.TRL_P_CRED_GEN_GEN k) = (s.part.get (F.TRL_P_CRED_GEN_GEN k) + 1) % 65536 ∧
        t.part.get (F.TRL_P_EVENTS_RESYNC k) = 1 ∧ (t.part.tport k).awaiting = true ∧
        (∀ f ∈ t.part.trl.waiting, ¬(f.vc = vc ∧ s.part.routeTo f.dst = k)) ∧ TrellisOnly s t)) ∧
      (st = 3 → Completes (.creditTimeout k vc) s (fun t => t.part.tport k = { u with resync := some vc } ∧
        t = { s with part := { s.part with trl := t.part.trl } }))) ∧
    (st = 2 → u.awaiting = true → Completes (.credResyncResend k) s (fun t =>
      (∃ b : List Byte, t.part.tport k = { u with control := u.control ++ [b] } ∧ b.length = 11 ∧
        b.take 3 = toLe 1 3 ++ toLe 2 (s.part.get (F.TRL_P_CRED_GEN_GEN k))) ∧
      t = { s with part := { s.part with trl := t.part.trl } })) ∧
    (st = 2 → exec (.flitTx k) s = .next (s.settle (s.part.flitTx s.ns k))) ∧
    (∀ (body : List Byte) (rest : List (List Byte)), st = 2 → u.control = body :: rest → body.length ≤ 52 →
      Completes (.flitTx k) s (fun t => (t.part.tport k).control = rest ∧
        (∃ b : List Byte, t.part.out = .flit k b :: s.part.out ∧ b.length = 64 ∧ b.take 1 = [5] ∧ (b.drop 8).take body.length = body ∧
          leNat (b.drop 60) = Crypto.crc32c (b.take 60)) ∧
        (∀ j, j ≠ k → t.part.tport j = s.part.tport j) ∧
        t = { s with part := { s.part with trl := t.part.trl, out := t.part.out } }))

/-- The life of an activation of a Runner that serves no job (R582, R583, R585, R592). It starts on the core that takes it. WAIT ends it: the core is
free, and the Runner waits with its mask, having taken the latched bits that the mask names (a real-time Runner's mask counts only for JOB). A
mask of 0 is an error. EXIT ends the Runner with its status. WAIT or EXIT with a stake or a reservation held is a job fault with cause HELD; a
trap records its sub-cause and is one with cause RUNNER. Every form has the effect of its operation. -/
def Obligations.ActivationsComplete : Prop :=
  (∀ (c r : Nat) (cmd : Cmd) (s : State), Ready s → s.part.canDispatch 2 c = true →
    s.part.pick (s.part.jobs.ready.filter (fun x => s.part.fits x 2 c)) 2 = some cmd → cmd.task = .runner r → cmd.job = none → r < 63 →
    cmd.plot < 9 → Completes (.activationStart c) s (fun t =>
      (∃ a : Act, t.part.core c = some a ∧ a.cmd.task = .runner r ∧ a.runner = r ∧ a.rt = false ∧ a.startAt = s.ns) ∧
      t.part.get (F.APC_CORE_STAT_BUSY c) = 1 ∧ t.part.get (F.APC_RUN_STAT_STATE r) = 2 ∧ t.part.get (F.APC_RUN_STAT_CORE r) = c ∧
      t.part.get (F.APC_RUN_ACT_COUNT r) = (s.part.get (F.APC_RUN_ACT_COUNT r) + 1) % 2 ^ 32 ∧
      (∀ a, a ∉ [R.APC_CORE_STAT c, R.APC_RUN_STAT r, R.APC_RUN_ACT r] → t.part.reg a = s.part.reg a) ∧ t.part.mem = s.part.mem)) ∧
  (∀ (c : Nat) (s : State), Ready s → s.part.canDispatch 2 c = true →
    exec (.activationStart c) s = .next (s.settle (s.part.actStart s.ns c))) ∧
  (∀ (c mask : Nat) (a : Act) (s : State), Ready s → Calls s c a →
    (exec (.wait c mask) s = .next (s.settle (s.part.runnerWait s.ns c mask))) ∧
    (mask = 0 → Completes (.wait c mask) s (Answered a (-1) 0 [] s)) ∧
    (mask ≠ 0 → a.cmd.job = none → s.part.actHolds c a = false → Completes (.wait c mask) s (fun t =>
      let got := FMap.get (fun _ => 0) s.part.apc.latched a.cmd.plot &&& (if s.part.img.rtRunner a.runner then mask &&& 1 else mask)
      t.part.core c = none ∧ t.part.get (F.APC_RUN_STAT_STATE a.runner) = 1 ∧ (t.part.runner a.runner).mask = mask ∧
      (t.part.runner a.runner).pend = (s.part.runner a.runner).pend ||| got ∧
      FMap.get (fun _ => 0) t.part.apc.latched a.cmd.plot = FMap.get (fun _ => 0) s.part.apc.latched a.cmd.plot - got ∧
      (∀ r, r ∉ [R.APC_CORE_STAT c, R.APC_RUN_STAT a.runner] → t.part.reg r = s.part.reg r) ∧ t.part.mem = s.part.mem)) ∧
    (mask ≠ 0 → a.cmd.job = none → s.part.actHolds c a = true → Completes (.wait c mask) s (fun t =>
      t.part.jobs.faults = s.part.jobs.faults ++ [⟨none, a.cmd.plot, 10, a.cmd.seq.getD 0⟩] ∧
      t = { s with part := { s.part with jobs := t.part.jobs } }))) ∧
  (∀ (c status : Nat) (a : Act) (s : State), Ready s → Calls s c a → status < 2 ^ 32 → a.cmd.job = none →
    (s.part.actHolds c a = false → (s.part.runner a.runner).jobs = [] → Completes (.exit c status) s (fun t =>
      t.part.core c = none ∧ t.part.get (F.APC_RUN_EXIT_STATUS a.runner) = status ∧ t.part.get (F.APC_RUN_STAT_STATE a.runner) = 3 ∧
      t.part.get (F.APC_RUN_ENDS_COUNT a.runner) = min (s.part.get (F.APC_RUN_ENDS_COUNT a.runner) + 1) 65535 ∧
      (t.part.runner a.runner).live = false ∧ t.part.mem = s.part.mem ∧
      ∀ r, r ∉ [R.APC_CORE_STAT c, R.APC_RUN_STAT a.runner, R.APC_RUN_ENDS a.runner, R.APC_RUN_EXIT a.runner] →
        t.part.reg r = s.part.reg r)) ∧
    (s.part.actHolds c a = true → Completes (.exit c status) s (fun t =>
      t.part.jobs.faults = s.part.jobs.faults ++ [⟨none, a.cmd.plot, 10, a.cmd.seq.getD 0⟩] ∧
      t.part.get (F.APC_RUN_EXIT_STATUS a.runner) = status ∧
      RegsOnly [R.APC_RUN_EXIT a.runner] { s with part := { s.part with jobs := t.part.jobs } } t))) ∧
  (∀ (c status : Nat) (a : Act) (s : State), Ready s → Calls s c a → status < 2 ^ 32 →
    exec (.exit c status) s = .next (s.settle (s.part.runnerExit s.ns c status))) ∧
  (∀ (c sub : Nat) (a : Act) (s : State), Ready s → Calls s c a → sub < 8 → a.cmd.job = none → Completes (.runnerTrap c sub) s (fun t =>
    t.part.get (F.APC_RUN_STAT_SUB a.runner) = sub ∧
    t.part.jobs.faults = s.part.jobs.faults ++ [⟨none, a.cmd.plot, 12, a.cmd.seq.getD 0⟩] ∧
    RegsOnly [R.APC_RUN_STAT a.runner] { s with part := { s.part with jobs := t.part.jobs } } t)) ∧
  (∀ (onBed : Bool) (n : Nat) (s : State), Ready s → n < 64 → s.part.live = true → s.part.trackerHere onBed n = true →
    exec (.trackerRun onBed n) s = .next (s.settle (s.part.trackerStep s.ns onBed n)))

/-- System calls that only answer (R584, R364): TIME the Sundial and SDL_STATUS bits 2:0, STEER_SEQ the latched sequence number and PENDING,
MODEL_STATE the state and the last failure cause; a pipeline or model of another plot is −2, one that does not exist −1. JOB_INPUT copies the job
input record into the caller's window and is −5 outside a job activation. SUBMIT is −1 for a count outside 1 to 63, −2 for records outside the
window; a first record that Harvest rejects is an error, −1 (R486). Nothing else changes. -/
def Obligations.AnsweringCalls : Prop :=
  ∀ (c : Nat) (a : Act) (s : State), Ready s → Calls s c a →
    let k := a.cmd.plot
    Completes (.time c) s (Answered a s.ns ((s.part.reg R.SDL_STATUS).toNat % 8) [] s) ∧
    (∀ pipe : Nat, Completes (.steerSeq c pipe) s (
      if s.part.img.pipeRec pipe = none then Answered a (-1) 0 [] s else if s.part.img.pipePlot pipe ≠ k then Answered a (-2) 0 [] s
      else Answered a (s.part.get (F.PRN_PIPE_LATCHED_SEQ_SEQ pipe)) (s.part.get (F.PRN_PIPE_COMMIT_STAT_PENDING pipe)) [] s)) ∧
    (∀ m : Nat, Completes (.modelState c m) s (
      if s.part.img.modelRec m = none then Answered a (-1) 0 [] s else if s.part.img.modelPlot m ≠ k then Answered a (-2) 0 [] s
      else Answered a (s.part.model m).state (s.part.model m).cause [] s)) ∧
    (∀ buf : Nat, a.cmd.job = none → Completes (.jobInput c buf) s (Answered a (-5) 0 [] s)) ∧
    (∀ (buf : Nat) (j : Job), a.cmd.job.bind s.part.job? = some j → buf + 64 ≤ s.part.img.window k →
      Completes (.jobInput c buf) s (fun t => t.part.out = .syscall a.runner 0 0 :: s.part.out ∧
        (∀ i, i < 64 → some (t.part.byte (winBase k + buf + i)) = (s.part.jobInput j)[i]?) ∧
        (∀ b, b < winBase k + buf ∨ winBase k + buf + (s.part.jobInput j).length ≤ b → t.part.byte b = s.part.byte b) ∧
        t = { s with part := { s.part with mem := t.part.mem, out := t.part.out } })) ∧
    (∀ addr n : Nat, n = 0 ∨ 63 < n → Completes (.submit c addr n) s (Answered a (-1) 0 [] s)) ∧
    (∀ addr n : Nat, 0 < n → n ≤ 63 → s.part.img.window k < addr + 64 * n → Completes (.submit c addr n) s (Answered a (-2) 0 [] s)) ∧
    (∀ addr n : Nat, 0 < n → n ≤ 63 → addr + 64 * n ≤ s.part.img.window k →
      (s.part.submitOk c (s.part.load (winBase k + addr) 64) = false → Completes (.submit c addr n) s (Answered a (-1) 0 [] s)) ∧
      exec (.submit c addr n) s = .next (s.settle (s.part.callSubmit s.ns c addr n)) ∧
      (n = 1 → a.cmd.job = none → s.part.submitOk c (s.part.load (winBase k + addr) 64) = true → Completes (.submit c addr n) s (fun t =>
        t.part.out = .syscall a.runner 1 0 :: s.part.out ∧ t.part.mem = s.part.mem ∧ t.part.jobs = s.part.jobs)))

/-- System calls about crop lists and models (R237, R363, R367, R381, R584). STEER of an acceptable list starts the copy, and its caller waits; one
that R237 rejects is −1 with REJECT set; another plot's pipeline is −2. MODEL_LOAD queues behind a running load, is −4 beyond 8 and −5 unless
ABSENT or FAILED; MODEL_UNLOAD makes a LOADED or READY streamed model ABSENT and is −5 otherwise; MODEL_GRAFT of a STAGED model that may replace
the live one starts the wave and is −5 where R381 refuses it. -/
def Obligations.SteerAndModelCalls : Prop :=
  ∀ (c : Nat) (a : Act) (s : State), Ready s → Calls s c a →
    let k := a.cmd.plot
    (∀ pipe addr count : Nat, pipe < 64 → s.part.img.pipeRec pipe ≠ none →
      (s.part.img.pipePlot pipe ≠ k → Completes (.steer c pipe addr count) s (Answered a (-2) 0 [] s)) ∧
      (s.part.img.pipePlot pipe = k → s.part.get (F.PRN_PIPE_COMMIT_STAT_COPYING pipe) = 0 → addr + 16 * count ≤ s.part.img.window k →
        (s.part.commitBad pipe addr count = false → Completes (.steer c pipe addr count) s (fun t =>
          t.part.get (F.PRN_PIPE_COMMIT_STAT_COPYING pipe) = 1 ∧ (t.part.prnPipe pipe).copying = some (.list addr count) ∧
          (t.part.prnPipe pipe).callers = [a.runner] ∧ (t.part.prnPipe pipe).active = (s.part.prnPipe pipe).active ∧
          RegsOnly [R.PRN_PIPE_COMMIT_STAT pipe] { s with part := { s.part with prn := t.part.prn } } t)) ∧
        (s.part.commitBad pipe addr count = true → Completes (.steer c pipe addr count) s (fun t =>
          t.part.get (F.PRN_PIPE_COMMIT_STAT_REJECT pipe) = 1 ∧ Answered a (-1) 0 [R.PRN_PIPE_COMMIT_STAT pipe] s t)))) ∧
    (∀ m : Nat, s.part.img.modelRec m ≠ none → s.part.img.modelPlot m = k →
      let st := (s.part.model m).state
      let q := s.part.loadq k
      (st ≠ 0 → st ≠ 7 → Completes (.modelLoad c m) s (Answered a (-5) 0 [] s)) ∧
      (st = 0 ∨ st = 7 → 8 ≤ q.queue.length → Completes (.modelLoad c m) s (Answered a (-4) 0 [] s)) ∧
      (st = 0 ∨ st = 7 → q.queue.length < 8 → q.cur ≠ none → Completes (.modelLoad c m) s (fun t =>
        t.part.loadq k = { q with queue := q.queue ++ [(false, m)] } ∧ (∀ n, t.part.model n = s.part.model n) ∧
        Answered a 0 0 [] s t)) ∧
      (st = 2 ∨ (st = 6 ∧ s.part.img.modelResidency m = 1) → Completes (.modelUnload c m) s (fun t =>
        (t.part.model m).state = 0 ∧ (∀ n, n ≠ m → t.part.model n = s.part.model n) ∧ Answered a 0 0 [] s t)) ∧
      (¬(st = 2 ∨ (st = 6 ∧ s.part.img.modelResidency m = 1)) → Completes (.modelUnload c m) s (Answered a (-5) 0 [] s)) ∧
      (s.part.familyWave m = true ∨ s.part.familyLive m = m ∨ s.part.img.graftOf m ≠ s.part.familyLive m ∨ st = 7 →
        Completes (.modelGraft c m) s (fun t => (∀ n, t.part.model n = s.part.model n) ∧ Answered a (-5) 0 [] s t)) ∧
      (s.part.familyWave m = false → s.part.familyLive m ≠ m → s.part.img.graftOf m = s.part.familyLive m → st = 4 →
        Completes (.modelGraft c m) s (fun t => (t.part.model m).state = 5 ∧ (t.part.model m).swapped = 0 ∧
          (∀ n, n ≠ m → t.part.model n = s.part.model n) ∧ Answered a 0 0 [] s t)))

/-- System calls about Trellis (R529, R536, R538, R584). TRL_RESERVE holds credits of an UP port for the calling activation where enough are free, is
−3 where they are not and −5 where the port is not UP; TRL_RELEASE lets go of the caller's. FWD_SET writes a forwarder entry for a stream of the
caller's plot, and is −2 where another plot has the entry enabled. CFWD_SET writes the plot's TRL_CFWD. -/
def Obligations.TrellisCalls : Prop :=
  ∀ (c : Nat) (a : Act) (s : State), Ready s → Calls s c a →
    let k := a.cmd.plot
    (∀ port n : Nat, port < 2 → 0 < n → n ≤ 64 →
      let free := s.part.get (creditFld port 1)
      let held := s.part.reservedBy port (fun _ => true)
      (s.part.trlState port ≠ 2 → Completes (.trlReserve c port n) s (Answered a (-5) 0 [] s)) ∧
      (s.part.trlState port = 2 → free < held + n → Completes (.trlReserve c port n) s (Answered a (-3) 0 [] s)) ∧
      (s.part.trlState port = 2 → held + n ≤ free → Completes (.trlReserve c port n) s (fun t =>
        t.part.apc.holds = s.part.apc.holds ++ [⟨port, k, c, n⟩] ∧ Answered a 0 0 [] s t))) ∧
    (∀ port : Nat, port < 2 → Completes (.trlRelease c port) s (fun t =>
      t.part.apc.holds = s.part.apc.holds.filter (fun h => !(h.core == c && h.port == port)) ∧ Answered a 0 0 [] s t)) ∧
    (∀ e stream v : Nat, e < 128 → stream < 128 →
      (s.part.get (F.TRL_FWD_CTRL_EN e) = 1 → s.part.get (F.TRL_FWD_CTRL_PLOT e) ≠ k →
        Completes (.fwdSet c e stream v) s (Answered a (-2) 0 [] s)) ∧
      ((s.part.get (F.TRL_FWD_CTRL_EN e) = 1 → s.part.get (F.TRL_FWD_CTRL_PLOT e) = k) → s.part.img.streamRec stream ≠ none →
        s.part.img.streamPlot stream = k → s.part.img.streamSource stream = 2 → k < 16 → Completes (.fwdSet c e stream v) s (fun t =>
          t.part.get (F.TRL_FWD_CTRL_DST_NODE e) = v % 4 ∧ t.part.get (F.TRL_FWD_CTRL_COPY e) = v / 256 % 2 ∧
          t.part.get (F.TRL_FWD_CTRL_EN e) = v / 512 % 2 ∧ t.part.get (F.TRL_FWD_CTRL_PLOT e) = k ∧
          t.part.get (F.TRL_FWD_MATCH_UDP_PORT e) = s.part.get (F.ITK_CTX_MATCH_UDP_PORT stream) ∧
          Answered a 0 0 [R.TRL_FWD_MATCH e, R.TRL_FWD_SRC_IP e, R.TRL_FWD_CTRL e] s t))) ∧
    (∀ on node : Nat, on < 2 → node < 4 → Completes (.cfwdSet c on node) s (fun t => t.part.get (F.TRL_CFWD_EN k) = on ∧
      t.part.get (F.TRL_CFWD_DST_NODE k) = node ∧ Answered a 0 0 [R.TRL_CFWD k] s t))

/-- Orders of a power state (R598, R600, R601, R611, R613, R614). Firmware's order of Dormancy in Run begins its entry, and waits while Dormancy is
being left. An order of Frost in Run or Dormancy begins its entry, pausing the watchdog; while a Fallow is in progress it waits. An order of Run
in Dormancy begins the exit, and waits while Dormancy is being entered. An order of the state the Frexia is in changes nothing but the order that
waits, and a pending Replant discards every order. -/
def Obligations.PowerOrders : Prop :=
  ∀ (w : Who) (s : State), Ready s → Firmware s w → s.part.live = true →
    let st := s.part.power
    let states (t : State) : Prop := ∀ a, a ≠ R.PWR_STATE → t.part.reg a = s.part.reg a
    let holds (n : Nat) (t : State) : Prop := t = { s with part := { s.part with pwr := { s.part.pwr with ordered := n } } }
    (s.part.get F.SHD_BOOT_STATE_REPLANT_PENDING = 1 → Completes (.pwrReqDormancy w) s (holds 0) ∧
      Completes (.pwrReqFrost w) s (holds 0) ∧ Completes (.pwrReqRun w) s (holds 0)) ∧
    (s.part.get F.SHD_BOOT_STATE_REPLANT_PENDING = 0 →
      (st = 0 → Completes (.pwrReqDormancy w) s (fun t => t.part.power = 1 ∧ states t ∧ t.part.pwr.since = s.ns ∧
        (∀ b, b < 64 → t.part.pwr.beds.testBit b = s.part.dormBed b) ∧ (∀ c, c < 8 → t.part.pwr.cores.testBit c = s.part.dormCore c) ∧
        t = { s with part := { s.part with regs := t.part.regs, pwr := t.part.pwr } })) ∧
      (st = 3 → Completes (.pwrReqDormancy w) s (holds 1)) ∧
      (st = 1 ∨ st = 2 → Completes (.pwrReqDormancy w) s (holds 0)) ∧
      (st = 0 ∨ st = 2 → s.part.inFallow = false → Completes (.pwrReqFrost w) s (fun t => t.part.power = 4 ∧ states t ∧
        t.part.wdog = { s.part.wdog with paused := true } ∧
        t = { s with part := { s.part with regs := t.part.regs, pwr := t.part.pwr, wdog := t.part.wdog } })) ∧
      (st = 0 ∨ st = 2 → s.part.inFallow = true → Completes (.pwrReqFrost w) s (holds 2)) ∧
      (st = 1 ∨ st = 3 → Completes (.pwrReqFrost w) s (holds 2)) ∧
      (st = 2 → Completes (.pwrReqRun w) s (fun t => t.part.power = 3 ∧ states t ∧
        t = { s with part := { s.part with regs := t.part.regs, pwr := t.part.pwr } })) ∧
      (st = 1 → Completes (.pwrReqRun w) s (holds 3)) ∧
      (st = 0 → Completes (.pwrReqRun w) s (holds 0)))

/-- The steps of Dormancy and Frost, and the wake sources (R600, R601, R604, R605, R654). Idle beds are gated; at the exit they are powered and their
stores read zero, and no other byte changes. Frost entry ends with the Sundial on REFCLK and the endpoint's link down. WAKE_N in Dormancy orders
the return to Run; a source that fires during Frost entry is latched. The beds are placed again at Frost exit, and the AON oscillator starts. Each
has the effect of its operation. -/
def Obligations.PowerStepsComplete : Prop :=
  (∀ s : State, Ready s → s.part.live = true → s.part.dormIdle = true → Completes .dormancyGated s (fun t =>
    (∀ b, b < 64 → t.part.get (F.BED_STATUS_GATED b) =
      (if s.part.pwr.beds.testBit b then 1 else s.part.get (F.BED_STATUS_GATED b))) ∧
    (∀ b, b < 64 → s.part.pwr.beds.testBit b = false → t.part.bed b = s.part.bed b) ∧ t.part.power = 1 ∧
    t.part.pwr = { s.part.pwr with stepDone := true } ∧ t.part.mem = s.part.mem)) ∧
  (∀ s : State, Ready s → s.part.live = true → s.part.power = 3 → s.part.pwr.stepDone = false → Completes .dormancyExitPowered s (fun t =>
    (∀ b i, b < 64 → s.part.pwr.beds.testBit b = true → i < 0x180000 → t.part.byte (bedBase b + i) = 0) ∧
    (∀ a, (∀ b i, b < 64 → s.part.pwr.beds.testBit b = true → i < 0x180000 → a ≠ bedBase b + i) → t.part.byte a = s.part.byte a) ∧
    (∀ b, b < 64 → s.part.pwr.beds.testBit b = true → t.part.get (F.BED_STATUS_GATED b) = 0) ∧
    t.part.get F.PWR_CORES_STOPPED_CORES = 0 ∧ t.part.power = 3 ∧ t.part.nor = s.part.nor)) ∧
  (∀ s : State, Ready s → s.part.frostReady s.ns = true → exec .frostDrainDone s = .next (s.settle (s.part.frostDone s.ns)) ∧
    (s.part.pwr.latchedWake = 0 → Completes .frostDrainDone s (fun t => t.part.pwr.frozen = true ∧ t.part.get F.SDL_STATUS_SRC = 1 ∧
      t.part.get F.PEP_LINK_UP = 0))) ∧
  (∀ (src : Nat) (rising : Bool) (s : State), ReadyAon s → src < 11 → s.part.wakeFires s.ns src rising = true →
    exec (.wakeSourceFire src rising) s = .next (s.settle (s.part.wake s.ns src rising))) ∧
  (∀ (rising : Bool) (s : State), ReadyAon s → s.part.power = 1 ∨ s.part.power = 2 → s.part.pwr.frozen = false →
    Completes (.wakeSourceFire 0 rising) s (fun t =>
      t = { s with part := { s.part with pwr := { s.part.pwr with ordered := 3 } } })) ∧
  (∀ (rising : Bool) (s : State), ReadyAon s → s.part.power = 4 → s.part.pwr.frozen = false →
    Completes (.wakeSourceFire 0 rising) s (fun t =>
      t = { s with part := { s.part with pwr := { s.part.pwr with latchedWake := s.part.pwr.latchedWake ||| 1 } } })) ∧
  (∀ s : State, Ready s → s.part.exitReady = true → exec .frostExitReady s = .next (s.settle s.part.exitPlace) ∧
    Completes .frostExitReady s (fun t => t.part.pwr = { s.part.pwr with ready := true } ∧ t.part.nor = s.part.nor)) ∧
  (∀ s : State, ReadyAon s → s.part.pins.aonRunning = false → Completes .aonOscillatorRunning s (fun t =>
    t = { s with part := { s.part with pins := { s.part.pins with aonRunning := true } } }))

/-- NVMe recovery (R622, R624). An arrival whose generation is not its slot's, or for a slot without a command, is discarded: it is counted and
changes nothing but the fault event. Any other has the effect of its operation. The first 200 ms without progress reissue the command under the
next generation. A later timeout resets the controller: where that works every command goes on and the Aborts are gone, where it fails no command
is left, and FLT_STATUS and PRP_NVME say so. A model load without progress fails with cause READ. -/
def Obligations.NvmeRecovery : Prop :=
  (∀ (completion : Bool) (slot gen : Nat) (s : State), Ready s → slot < 256 → gen < 65536 → s.part.get F.PRP_LINK_UP = 1 →
    (s.part.nvCmd slot = none ∨ (if completion then gen % 256 ≠ s.part.nvGen slot % 256 else gen ≠ s.part.nvGen slot) →
      Completes (.nvmeCompletion completion slot gen) s (fun t =>
        t.part.get F.FLT_STALE_NVME_COUNT = min (s.part.get F.FLT_STALE_NVME_COUNT + 1) 65535 ∧
        (t.part.get F.FLT_EVENTS_EVT).testBit 4 = true ∧
        RegsOnly [R.FLT_STALE_NVME, R.FLT_EVENTS] { s with part := { s.part with out := t.part.out } } t)) ∧
    exec (.nvmeCompletion completion slot gen) s = .next (s.settle (s.part.nvArrive s.ns completion slot gen))) ∧
  (∀ (slot : Nat) (ok : Bool) (c : NvmeCmd) (s : State), Ready s → slot < 256 → s.part.nvCmd slot = some c →
    c.progressAt + 200000000 ≤ s.ns →
    (c.op ≠ 4 → c.tries = 0 → Completes (.nvmeCommandTimeout slot ok) s (fun t =>
      t.part.nvCmd slot = some { c with tries := 1, progressAt := s.ns } ∧ t.part.nvGen slot = (s.part.nvGen slot + 1) % 65536 ∧
      t.part.get F.FLT_TMO_NVME_COUNT = min (s.part.get F.FLT_TMO_NVME_COUNT + 1) 65535 ∧
      (∀ a, a ∉ [R.FLT_TMO_NVME, R.PRP_TIMEOUTS, R.FLT_EVENTS] → t.part.reg a = s.part.reg a) ∧ t.part.mem = s.part.mem)) ∧
    (c.op = 4 ∨ c.tries ≠ 0 → ok = true → Completes (.nvmeCommandTimeout slot ok) s (fun t =>
      (∀ (x : Nat) (d : NvmeCmd), x < 256 → s.part.nvCmd x = some d → t.part.nvCmd x =
        (if d.op = 4 then none else some { d with tries := 0, progressAt := s.ns }) ∧
        t.part.nvGen x = (s.part.nvGen x + 1) % 65536) ∧
      t.part.get F.FLT_NVME_RESETS_COUNT = min (s.part.get F.FLT_NVME_RESETS_COUNT + 1) 65535 ∧ t.part.mem = s.part.mem)) ∧
    (c.op = 4 ∨ c.tries ≠ 0 → ok = false → Completes (.nvmeCommandTimeout slot ok) s (fun t =>
      (∀ x, x < 256 → t.part.nvCmd x = none) ∧ (t.part.get F.FLT_STATUS_FAULT).testBit 5 = true ∧
      t.part.get F.PRP_NVME_READY = 0 ∧ t.part.mem = s.part.mem))) ∧
  (∀ (k : Nat) (x : LoadRun) (s : State), Ready s → k < 9 → s.part.loadTimedOut s.ns k = true →
    s.part.loadq k = { cur := some x, queue := [] } → x.kernel = false → Completes (.modelLoadTimeout k) s (fun t =>
      (t.part.model x.item).state = 7 ∧ (t.part.model x.item).cause = 2 ∧ (t.part.loadq k).cur = none ∧
      t.part.get F.FLT_TMO_LOAD_COUNT = min (s.part.get F.FLT_TMO_LOAD_COUNT + 1) 65535)) ∧
  (∀ s : State, Ready s → s.part.get F.PRP_LINK_UP = 1 → Completes .rootPortRecovery s (fun t =>
    t.part.get F.FLT_PCIE_RECOV_COUNT = min (s.part.get F.FLT_PCIE_RECOV_COUNT + 1) 65535 ∧ RegsOnly [R.FLT_PCIE_RECOV] s t))

/-- The watchdog (R630 to R632). A counter at 0 that is armed and not paused, or an exception of a Shed core, starts stage 1: it is shown and counted,
and FAULT_N is asserted. A core that serves its interrupt while no window is open orders a Replant with code 4; one that does not leaves the order
as it was. While stage 1 is in progress, a further exception changes nothing. Stage 2 boots again. -/
def Obligations.WatchdogStages : Prop :=
  (∀ (served : Bool) (s : State), Ready s → s.part.wdog.stage1 = none → ∀ c ∈ [Instr.watchdogExpiry served, .shedException served],
    (if c = .watchdogExpiry served then s.part.wdog.armed = true ∧ s.part.wdog.paused = false ∧ s.part.get F.FLT_WDOG_STAT_REMAIN = 0
      else s.part.shedUp = true) →
    Completes c s (fun t => t.part.wdog.stage1 = some 0 ∧ t.part.get F.FLT_WDOG_STAT_STAGE1 = 1 ∧
      t.part.get F.FLT_WDOG_COUNT_COUNT = min (s.part.get F.FLT_WDOG_COUNT_COUNT + 1) 65535 ∧
      (t.part.get F.FLT_STATUS_FAULT).testBit 2 = true ∧ t.part.get F.FLT_STATUS_FAULT_N = 1 ∧
      (s.part.boot.windowOpen = false → s.part.get F.SHD_BOOT_STATE_REPLANT_PENDING = 0 →
        (served = true → s.part.boot.order = none → t.part.boot.order = some { rank := 0, code := 4 }) ∧
        (served = false → t.part.boot.order = s.part.boot.order) ∧ t.part.nor = s.part.nor ∧
        (∀ a, a ∉ [R.FLT_WDOG_STAT, R.FLT_WDOG_COUNT, R.FLT_STATUS, R.FLT_EVENTS] → t.part.reg a = s.part.reg a)))) ∧
  (∀ (served : Bool) (s : State), Ready s → s.part.shedUp = true → s.part.wdog.stage1 ≠ none →
    Completes (.shedException served) s (fun t => t = s)) ∧
  (∀ (env : BootEnv) (s : State), Ready s → s.part.stage2Due = true → Completes (.watchdogStage2 env) s (fun t =>
    t.part.boot.phase = .bare ∨ t.part.boot.phase = .nvme ∨ t.part.boot.phase = .loads))

/-- Temperature and JTAG (R633, R685, R686). THERMTRIP_N asserts under every condition, and changes nothing else; TEMP_HI follows the sensor. The
TAP's instruction is the one loaded, or IDCODE after a TAP reset; loading one takes nothing else away, but EXTEST, CLAMP and HIGHZ leave the rest
of the Frexia undefined; a scan under IDCODE returns revision B1's code. -/
def Obligations.TemperatureAndTap : Prop :=
  (∀ s : State, s.part.sdl.step = 0 → Completes .thermtrip s (fun t =>
    t = { s with part := { s.part with pins := { s.part.pins with thermtrip := true } } })) ∧
  (∀ (hot : Bool) (s : State), Ready s → s.part.boot.phase ≠ .porHeld → Completes (.tempHiChange hot) s (fun t =>
    t.part.get F.FLT_STATUS_TEMP_HI = hot.toNat ∧ t.part.get F.FLT_STATUS_FAULT = s.part.get F.FLT_STATUS_FAULT ∧
    t.part.get F.FLT_STATUS_FAULT_N = s.part.get F.FLT_STATUS_FAULT_N ∧ RegsOnly [R.FLT_STATUS] s t)) ∧
  (∀ (op : TapOp) (s : State), s.part.pins.thermtrip = false → s.part.sdl.step = 0 → Completes (.jtagTapUpdate op) s (fun t =>
    let undef := s.part.pins.jtagUndefined
    (match op with
      | .reset | .resetWithUpdate _ => t.part.pins.jtagIr = 1 ∧ t.part.pins.jtagUndefined = undef ∧ t.part.out = s.part.out
      | .update ir => ir < 256 → t.part.pins.jtagIr = ir ∧ t.part.out = s.part.out ∧
          (t.part.pins.jtagUndefined = true ↔ undef = true ∨ ir = 0 ∨ ir = 3 ∨ ir = 4)
      | .scan => t.part.pins = s.part.pins ∧ ∃ x, t.part.out = .tdo x :: s.part.out ∧ (s.part.pins.jtagIr = 1 → x = 0x29600967)) ∧
    t.part.pins = { s.part.pins with jtagIr := t.part.pins.jtagIr, jtagUndefined := t.part.pins.jtagUndefined } ∧
    t = { s with part := { s.part with free := t.part.free, out := t.part.out, pins := t.part.pins } }))
end

