-- ==== Sys2Proof/Laws/Run.lean ====
section
/-! SUPPORT. Everything that running a command can do to the state, said once: which outcomes there are, what becomes of the queue, and
how the Sundial moves. -/

namespace Sys2Proof.Machine

@[simp] theorem State.advance_pending (s : State) (n : Nat) : (s.advance n).pending = s.pending := by
  simp only [State.advance]

@[simp] theorem State.settle_pending (s : State) (p : Part) : (s.settle p).pending = s.pending := by
  simp [State.settle]

@[simp] theorem State.pass_pending (s : State) (n : Nat) : (s.pass n).pending = s.pending := rfl
@[simp] theorem State.pass_sun (s : State) (n : Nat) : (s.pass n).sun = s.sun := rfl
@[simp] theorem State.powerOn_pending (s : State) : s.powerOn.pending = s.pending := rfl

@[simp] theorem State.edge_pending (s : State) : s.edge.pending = s.pending := by
  unfold State.edge
  split
  · exact (State.pass_pending _ _).trans (State.advance_pending _ _)
  · rfl

/-- An advance is the sum, modulo 2^96. -/
theorem State.advance_sun (s : State) (n : Nat) : (s.advance n).sun.toNat = (s.sun.toNat + n) % 2 ^ 96 := by
  simp only [State.advance, BitVec.toNat_ofNat]

/-- What a command leaves moves the Sundial by the whole nanoseconds of the step that it ordered (R65). -/
theorem State.settle_sun (s : State) (p : Part) : (s.settle p).sun.toNat = (s.sun.toNat + p.sdl.step * 2 ^ 32) % 2 ^ 96 :=
  State.advance_sun { s with part := p.modSdl (fun u => { u with step := 0 }) } _

/-- Movement by whole nanoseconds, below 2^64 of them, modulo the count. -/
def wholeNs (a b : BitVec 96) : Prop := ∃ n, n < 2 ^ 64 ∧ b.toNat = (a.toNat + n * 2 ^ 32) % 2 ^ 96

theorem wholeNs_self (a : BitVec 96) : wholeNs a a := ⟨0, by omega, by have := a.isLt; omega⟩

theorem State.settle_wholeNs (s : State) (p : Part) : wholeNs s.sun (s.settle p).sun := by
  refine ⟨p.sdl.step % 2 ^ 64, Nat.mod_lt _ (by omega), ?_⟩
  rw [State.settle_sun]
  omega

/-! What a command's effect leaves, but for the step that is applied and the count of free values, is the state after it. -/

@[simp] theorem State.settle_regs (s : State) (p : Part) : (s.settle p).part.regs = p.regs := by
  rfl
@[simp] theorem State.settle_mem (s : State) (p : Part) : (s.settle p).part.mem = p.mem := by
  rfl
@[simp] theorem State.settle_nor (s : State) (p : Part) : (s.settle p).part.nor = p.nor := by
  rfl
@[simp] theorem State.settle_pins (s : State) (p : Part) : (s.settle p).part.pins = p.pins := by
  rfl
@[simp] theorem State.settle_boot (s : State) (p : Part) : (s.settle p).part.boot = p.boot := by
  rfl
@[simp] theorem State.settle_plots (s : State) (p : Part) : (s.settle p).part.plots = p.plots := by
  rfl
@[simp] theorem State.settle_hvs (s : State) (p : Part) : (s.settle p).part.hvs = p.hvs := by
  rfl
@[simp] theorem State.settle_nvme (s : State) (p : Part) : (s.settle p).part.nvme = p.nvme := by
  rfl
@[simp] theorem State.settle_wdog (s : State) (p : Part) : (s.settle p).part.wdog = p.wdog := by
  rfl
@[simp] theorem State.settle_pwr (s : State) (p : Part) : (s.settle p).part.pwr = p.pwr := by
  rfl
@[simp] theorem State.settle_rules (s : State) (p : Part) : (s.settle p).part.rules = p.rules := by
  rfl
@[simp] theorem State.settle_key (s : State) (p : Part) : (s.settle p).part.key = p.key := by
  rfl
@[simp] theorem State.settle_eth (s : State) (p : Part) : (s.settle p).part.eth = p.eth := by
  rfl
@[simp] theorem State.settle_itk (s : State) (p : Part) : (s.settle p).part.itk = p.itk := by
  rfl
@[simp] theorem State.settle_sets (s : State) (p : Part) : (s.settle p).part.sets = p.sets := by
  rfl
@[simp] theorem State.settle_vdc (s : State) (p : Part) : (s.settle p).part.vdc = p.vdc := by
  rfl
@[simp] theorem State.settle_prn (s : State) (p : Part) : (s.settle p).part.prn = p.prn := by
  rfl
@[simp] theorem State.settle_jobs (s : State) (p : Part) : (s.settle p).part.jobs = p.jobs := by
  rfl
@[simp] theorem State.settle_beds (s : State) (p : Part) : (s.settle p).part.beds = p.beds := by
  rfl
@[simp] theorem State.settle_apc (s : State) (p : Part) : (s.settle p).part.apc = p.apc := by
  rfl
@[simp] theorem State.settle_models (s : State) (p : Part) : (s.settle p).part.models = p.models := by
  rfl
@[simp] theorem State.settle_brw (s : State) (p : Part) : (s.settle p).part.brw = p.brw := by
  rfl
@[simp] theorem State.settle_dmc (s : State) (p : Part) : (s.settle p).part.dmc = p.dmc := by
  rfl
@[simp] theorem State.settle_trl (s : State) (p : Part) : (s.settle p).part.trl = p.trl := by
  rfl
@[simp] theorem State.settle_mtr (s : State) (p : Part) : (s.settle p).part.mtr = p.mtr := by
  rfl
@[simp] theorem State.settle_out (s : State) (p : Part) : (s.settle p).part.out = p.out := by
  rfl
@[simp] theorem State.settle_reg (s : State) (p : Part) (a : Nat) : (s.settle p).part.reg a = p.reg a := by
  simp [Part.reg]
@[simp] theorem State.settle_get (s : State) (p : Part) (f : Fld) : (s.settle p).part.get f = p.get f := by
  simp [Part.get]
@[simp] theorem State.settle_byte (s : State) (p : Part) (a : Nat) : (s.settle p).part.byte a = p.byte a := by
  simp [Part.byte]
@[simp] theorem State.settle_norByte (s : State) (p : Part) (a : Nat) : (s.settle p).part.norByte a = p.norByte a := by
  simp [Part.norByte]

/-- A part without a pending step settles as it is, and the Sundial stays. -/
theorem State.settle_still (s : State) (p : Part) (h : p.sdl.step = 0) : s.settle p = { s with part := p } := by
  obtain ⟨regs, mem, nor, pins, sdl, boot, plots, hvs, nvme, wdog, pwr, rules, key, eth, itk, sets, vdc, prn, jobs, beds, apc,
    models, brw, dmc, trl, mtr, out, free⟩ := p
  have hs := s.sun.isLt
  have e : { sdl with step := 0 } = sdl := by cases sdl; simp_all
  simp only at h
  unfold State.settle Part.modSdl State.advance
  simp only [e, h, Nat.zero_mul, Nat.add_zero]
  congr 1
  exact BitVec.eq_of_toNat_eq (by simp)

/-- The outcomes of a command that runs under conditions `bad`, with the guard `can` and the effect `eff`. -/
theorem State.runIf_cases (s : State) (bad : Bool) (can : Nat → Part → Bool) (eff : Nat → Part → Part) :
    (bad = true ∧ s.runIf bad can eff = .fault .outsideConditions) ∨
    (bad = false ∧ can s.ns s.part = true ∧ s.runIf bad can eff = .next (s.settle (eff s.ns s.part))) ∨
    (bad = false ∧ can s.ns s.part = false ∧ s.runIf bad can eff = .next s) := by
  unfold State.runIf
  cases bad
  · cases h : can s.ns s.part
    · exact .inr (.inr ⟨rfl, rfl, by simp⟩)
    · exact .inr (.inl ⟨rfl, rfl, by simp⟩)
  · exact .inl ⟨rfl, by simp⟩

/-- A command that can occur, where its units work within their conditions, has its effect. -/
theorem State.run_next (s : State) {can : Nat → Part → Bool} {eff : Nat → Part → Part} (h : s.part.outside true = false)
    (hc : can s.ns s.part = true) : s.run can eff = .next (s.settle (eff s.ns s.part)) := by
  simp [State.run, State.runIf, h, hc]

/-- As `run_next`, for the always-on domain. -/
theorem State.runAon_next (s : State) {can : Nat → Part → Bool} {eff : Nat → Part → Part} (h : s.part.outside false = false)
    (hc : can s.ns s.part = true) : s.runAon can eff = .next (s.settle (eff s.ns s.part)) := by
  simp [State.runAon, State.runIf, h, hc]

/-- As `run_next`, for the TAP. -/
theorem State.runTap_next (s : State) {can : Nat → Part → Bool} {eff : Nat → Part → Part} (h : s.part.pins.thermtrip = false)
    (hc : can s.ns s.part = true) : s.runTap can eff = .next (s.settle (eff s.ns s.part)) := by
  simp [State.runTap, State.runIf, h, hc]

/-- As `run_next`, for the thermal detector. -/
theorem State.runTrip_next (s : State) {can : Nat → Part → Bool} {eff : Nat → Part → Part}
    (hc : can s.ns s.part = true) : s.runTrip can eff = .next (s.settle (eff s.ns s.part)) := by
  simp [State.runTrip, State.runIf, hc]

theorem State.runIf_pending {s t : State} {bad : Bool} {can : Nat → Part → Bool} {eff : Nat → Part → Part}
    (h : s.runIf bad can eff = .next t) : t.pending = s.pending := by
  cases State.runIf_cases s bad can eff with
  | inl e => rw [e.2] at h; cases h
  | inr e => cases e with
    | inl e => rw [e.2.2] at h; cases h; simp
    | inr e => rw [e.2.2] at h; cases h; rfl

theorem State.runIf_wholeNs {s t : State} {bad : Bool} {can : Nat → Part → Bool} {eff : Nat → Part → Part}
    (h : s.runIf bad can eff = .next t) : wholeNs s.sun t.sun := by
  cases State.runIf_cases s bad can eff with
  | inl e => rw [e.2] at h; cases h
  | inr e => cases e with
    | inl e => rw [e.2.2] at h; cases h; exact State.settle_wholeNs _ _
    | inr e => rw [e.2.2] at h; cases h; exact wholeNs_self _

/-- A command is a guarded effect under one of the four kinds of operating conditions. -/
def Guarded (s : State) (r : Result) : Prop :=
  ∃ bad can eff, r = s.runIf bad can eff ∧
    (bad = false ∨ bad = s.part.pins.thermtrip ∨ bad = s.part.outside false ∨ bad = s.part.outside true)

theorem State.run_guarded (s : State) (can : Nat → Part → Bool) (eff : Nat → Part → Part) : Guarded s (s.run can eff) :=
  ⟨_, can, eff, rfl, .inr (.inr (.inr rfl))⟩
theorem State.runAon_guarded (s : State) (can : Nat → Part → Bool) (eff : Nat → Part → Part) : Guarded s (s.runAon can eff) :=
  ⟨_, can, eff, rfl, .inr (.inr (.inl rfl))⟩
theorem State.runTap_guarded (s : State) (can : Nat → Part → Bool) (eff : Nat → Part → Part) : Guarded s (s.runTap can eff) :=
  ⟨_, can, eff, rfl, .inr (.inl rfl)⟩
theorem State.runTrip_guarded (s : State) (can : Nat → Part → Bool) (eff : Nat → Part → Part) : Guarded s (s.runTrip can eff) :=
  ⟨_, can, eff, rfl, .inl rfl⟩

/-- Every command but PORST_N_ASSERT is a guarded effect; PORST_N_ASSERT is the power-on reset. -/
theorem exec_shape (c : Instr) (s : State) : exec c s = .next s.powerOn ∧ c = .porstNAssert ∨ Guarded s (exec c s) := by
  cases c
  case porstNAssert => exact .inl ⟨rfl, rfl⟩
  all_goals
    refine .inr ?_
    dsimp only [exec]
    first
      | exact State.run_guarded s _ _
      | exact State.runAon_guarded s _ _
      | exact State.runTap_guarded s _ _
      | exact State.runTrip_guarded s _ _

end Sys2Proof.Machine
end

