-- ==== Sys2Proof/Laws/Exec.lean ====
section
/-! SUPPORT. One law for each command: where it can occur and its units are within their operating conditions, the next state is that of
its effect. -/

namespace Sys2Proof.Machine

theorem next_porstNRelease (env : BootEnv) (s : State) (hs : s.part.outside false = false) (hc : (s.part.porReleasable) = true) :
    exec (.porstNRelease env) s = .next (s.settle (s.part.porRelease s.ns env)) :=
  State.runAon_next s hs (can := fun _ p => p.porReleasable) (eff := fun t p => p.porRelease t env) hc

theorem next_resetNAssert (s : State) (hs : s.part.outside false = false) (hc : (s.part.resetAssertable) = true) :
    exec .resetNAssert s = .next (s.settle (s.part.resetAssert s.ns)) :=
  State.runAon_next s hs (can := fun _ p => p.resetAssertable) (eff := fun t p => p.resetAssert t) hc

theorem next_resetNRelease (env : BootEnv) (s : State) (hs : s.part.outside false = false) (hc : (s.part.resetReleasable) = true) :
    exec (.resetNRelease env) s = .next (s.settle (s.part.resetRelease s.ns env)) :=
  State.runAon_next s hs (can := fun _ p => p.resetReleasable) (eff := fun t p => p.resetRelease t env) hc

theorem next_pcieEpLinkTrained (speed : Nat) (width : Nat) (msi : Nat) (s : State) (hs : s.part.outside true = false) (hc : (Instr.wf (.pcieEpLinkTrained speed width msi) && s.part.epTrains) = true) :
    exec (.pcieEpLinkTrained speed width msi) s = .next (s.settle (s.part.epUp speed width msi)) :=
  State.run_next s hs (can := fun _ p => Instr.wf (.pcieEpLinkTrained speed width msi) && p.epTrains) (eff := fun _ p => p.epUp speed width msi) hc

theorem next_nvmeBringUp (ssd : SsdAnswer) (s : State) (hs : s.part.outside true = false) (hc : (s.part.nvmeAwaited) = true) :
    exec (.nvmeBringUp ssd) s = .next (s.settle (s.part.nvmeBringUp s.ns ssd)) :=
  State.run_next s hs (can := fun _ p => p.nvmeAwaited) (eff := fun t p => p.nvmeBringUp t ssd) hc

theorem next_bootAdmission (s : State) (hs : s.part.outside true = false) (hc : (s.part.admissionReady) = true) :
    exec .bootAdmission s = .next (s.settle (s.part.admission s.ns)) :=
  State.run_next s hs (can := fun _ p => p.admissionReady) (eff := fun t p => p.admission t) hc

theorem next_replantJobDrainEnd (s : State) (hs : s.part.outside true = false) (hc : (s.part.drainEnds s.ns) = true) :
    exec .replantJobDrainEnd s = .next (s.settle (s.part.jobsDrained)) :=
  State.run_next s hs (can := fun t p => p.drainEnds t) (eff := fun _ p => p.jobsDrained) hc

theorem next_replantFlushEnd (env : BootEnv) (s : State) (hs : s.part.outside true = false) (hc : (s.part.flushEnds) = true) :
    exec (.replantFlushEnd env) s = .next (s.settle (s.part.replant s.ns env)) :=
  State.run_next s hs (can := fun _ p => p.flushEnds) (eff := fun t p => p.replant t env) hc

theorem next_stageBegin (tag : Nat) (a0 : Word) (a1 : Word) (s : State) (hs : s.part.outside true = false) (hc : (Instr.wf (.stageBegin tag a0 a1) && s.part.hostUp) = true) :
    exec (.stageBegin tag a0 a1) s = .next (s.settle (s.part.mbxWrite 1 tag [a0, a1])) :=
  State.run_next s hs (can := fun _ p => Instr.wf (.stageBegin tag a0 a1) && p.hostUp) (eff := fun _ p => p.mbxWrite 1 tag [a0, a1]) hc

theorem next_stageWrite (tag : Nat) (a0 : Word) (a1 : Word) (s : State) (hs : s.part.outside true = false) (hc : (Instr.wf (.stageWrite tag a0 a1) && s.part.hostUp) = true) :
    exec (.stageWrite tag a0 a1) s = .next (s.settle (s.part.mbxWrite 2 tag [a0, a1])) :=
  State.run_next s hs (can := fun _ p => Instr.wf (.stageWrite tag a0 a1) && p.hostUp) (eff := fun _ p => p.mbxWrite 2 tag [a0, a1]) hc

theorem next_stageEnd (tag : Nat) (a0 : Word) (s : State) (hs : s.part.outside true = false) (hc : (Instr.wf (.stageEnd tag a0) && s.part.hostUp) = true) :
    exec (.stageEnd tag a0) s = .next (s.settle (s.part.mbxWrite 3 tag [a0])) :=
  State.run_next s hs (can := fun _ p => Instr.wf (.stageEnd tag a0) && p.hostUp) (eff := fun _ p => p.mbxWrite 3 tag [a0]) hc

theorem next_replant (tag : Nat) (s : State) (hs : s.part.outside true = false) (hc : (Instr.wf (.replant tag) && s.part.hostUp) = true) :
    exec (.replant tag) s = .next (s.settle (s.part.mbxWrite 4 tag [])) :=
  State.run_next s hs (can := fun _ p => Instr.wf (.replant tag) && p.hostUp) (eff := fun _ p => p.mbxWrite 4 tag []) hc

theorem next_rollback (tag : Nat) (s : State) (hs : s.part.outside true = false) (hc : (Instr.wf (.rollback tag) && s.part.hostUp) = true) :
    exec (.rollback tag) s = .next (s.settle (s.part.mbxWrite 5 tag [])) :=
  State.run_next s hs (can := fun _ p => Instr.wf (.rollback tag) && p.hostUp) (eff := fun _ p => p.mbxWrite 5 tag []) hc

theorem next_accept (tag : Nat) (a0 : Word) (s : State) (hs : s.part.outside true = false) (hc : (Instr.wf (.accept tag a0) && s.part.hostUp) = true) :
    exec (.accept tag a0) s = .next (s.settle (s.part.mbxWrite 6 tag [a0])) :=
  State.run_next s hs (can := fun _ p => Instr.wf (.accept tag a0) && p.hostUp) (eff := fun _ p => p.mbxWrite 6 tag [a0]) hc

theorem next_setTime (tag : Nat) (a0 : Word) (a1 : Word) (s : State) (hs : s.part.outside true = false) (hc : (Instr.wf (.setTime tag a0 a1) && s.part.hostUp) = true) :
    exec (.setTime tag a0 a1) s = .next (s.settle (s.part.mbxWrite 7 tag [a0, a1])) :=
  State.run_next s hs (can := fun _ p => Instr.wf (.setTime tag a0 a1) && p.hostUp) (eff := fun _ p => p.mbxWrite 7 tag [a0, a1]) hc

theorem next_ledgerRead (tag : Nat) (a0 : Word) (s : State) (hs : s.part.outside true = false) (hc : (Instr.wf (.ledgerRead tag a0) && s.part.hostUp) = true) :
    exec (.ledgerRead tag a0) s = .next (s.settle (s.part.mbxWrite 8 tag [a0])) :=
  State.run_next s hs (can := fun _ p => Instr.wf (.ledgerRead tag a0) && p.hostUp) (eff := fun _ p => p.mbxWrite 8 tag [a0]) hc

theorem next_stagingSessionTimeout (s : State) (hs : s.part.outside true = false) (hc : (s.part.sessionOld s.ns) = true) :
    exec .stagingSessionTimeout s = .next (s.settle (s.part.sessionClose)) :=
  State.run_next s hs (can := fun t p => p.sessionOld t) (eff := fun _ p => p.sessionClose) hc

theorem next_managementTick (watts : Nat) (checkins : Nat) (s : State) (hs : s.part.outside true = false) (hc : (Instr.wf (.managementTick watts checkins) && s.part.tickDue s.ns) = true) :
    exec (.managementTick watts checkins) s = .next (s.settle (s.part.managementTick s.ns watts checkins)) :=
  State.run_next s hs (can := fun t p => Instr.wf (.managementTick watts checkins) && p.tickDue t) (eff := fun t p => p.managementTick t watts checkins) hc

theorem next_hardeningWindowEnd (s : State) (hs : s.part.outside true = false) (hc : (s.part.windowOver) = true) :
    exec .hardeningWindowEnd s = .next (s.settle (s.part.windowEnd s.ns)) :=
  State.run_next s hs (can := fun _ p => p.windowOver) (eff := fun t p => p.windowEnd t) hc

theorem next_secondBoundary (hottest : Int) (tcxo : Int) (s : State) (hs : s.part.outside true = false) (hc : (s.part.secondDue s.ns) = true) :
    exec (.secondBoundary hottest tcxo) s = .next (s.settle (s.part.second s.ns hottest tcxo)) :=
  State.run_next s hs (can := fun t p => p.secondDue t) (eff := fun t p => p.second t hottest tcxo) hc

theorem next_ppsFall (s : State) (hs : s.part.outside true = false) (hc : (s.part.ppsFallDue s.ns) = true) :
    exec .ppsFall s = .next (s.settle (s.part.ppsFall)) :=
  State.run_next s hs (can := fun t p => p.ppsFallDue t) (eff := fun _ p => p.ppsFall) hc

theorem next_holdoverRateUpdate (temp : Int) (s : State) (hs : s.part.outside true = false) (hc : (s.part.holdoverRuns) = true) :
    exec (.holdoverRateUpdate temp) s = .next (s.settle (s.part.holdover s.ns temp)) :=
  State.run_next s hs (can := fun _ p => p.holdoverRuns) (eff := fun t p => p.holdover t temp) hc

theorem next_sundialStep (w : Who) (hi : Word) (s : State) (hs : s.part.outside true = false) (hc : (s.part.issues w) = true) :
    exec (.sundialStep w hi) s = .next (s.settle (s.part.writeOf s.ns w R.SDL_STEP_HI hi)) :=
  State.run_next s hs (can := fun _ p => p.issues w) (eff := fun t p => p.writeOf t w R.SDL_STEP_HI hi) hc

theorem next_sdlRateWrite (w : Who) (v : Word) (s : State) (hs : s.part.outside true = false) (hc : (s.part.issues w) = true) :
    exec (.sdlRateWrite w v) s = .next (s.settle (s.part.writeOf s.ns w R.SDL_RATE v)) :=
  State.run_next s hs (can := fun _ p => p.issues w) (eff := fun t p => p.writeOf t w R.SDL_RATE v) hc

theorem next_sdlNowLoRead (w : Who) (s : State) (hs : s.part.outside true = false) (hc : (s.part.issues w) = true) :
    exec (.sdlNowLoRead w) s = .next (s.settle (s.part.readOf s.ns w R.SDL_NOW_LO)) :=
  State.run_next s hs (can := fun _ p => p.issues w) (eff := fun t p => p.readOf t w R.SDL_NOW_LO) hc

theorem next_sdlTmrCmpLoWrite (w : Who) (n : Nat) (v : Word) (s : State) (hs : s.part.outside true = false) (hc : (Instr.wf (.sdlTmrCmpLoWrite w n v) && s.part.issues w) = true) :
    exec (.sdlTmrCmpLoWrite w n v) s = .next (s.settle (s.part.writeOf s.ns w (R.SDL_TMR_CMP_LO n) v)) :=
  State.run_next s hs (can := fun _ p => Instr.wf (.sdlTmrCmpLoWrite w n v) && p.issues w) (eff := fun t p => p.writeOf t w (R.SDL_TMR_CMP_LO n) v) hc

theorem next_sdlTmrCmpHiWrite (w : Who) (n : Nat) (v : Word) (s : State) (hs : s.part.outside true = false) (hc : (Instr.wf (.sdlTmrCmpHiWrite w n v) && s.part.issues w) = true) :
    exec (.sdlTmrCmpHiWrite w n v) s = .next (s.settle (s.part.writeOf s.ns w (R.SDL_TMR_CMP_HI n) v)) :=
  State.run_next s hs (can := fun _ p => Instr.wf (.sdlTmrCmpHiWrite w n v) && p.issues w) (eff := fun t p => p.writeOf t w (R.SDL_TMR_CMP_HI n) v) hc

theorem next_sdlTmrCtrlWrite (w : Who) (n : Nat) (v : Word) (s : State) (hs : s.part.outside true = false) (hc : (Instr.wf (.sdlTmrCtrlWrite w n v) && s.part.issues w) = true) :
    exec (.sdlTmrCtrlWrite w n v) s = .next (s.settle (s.part.writeOf s.ns w (R.SDL_TMR_CTRL n) v)) :=
  State.run_next s hs (can := fun _ p => Instr.wf (.sdlTmrCtrlWrite w n v) && p.issues w) (eff := fun t p => p.writeOf t w (R.SDL_TMR_CTRL n) v) hc

theorem next_sdlTmrMissedRead (w : Who) (n : Nat) (s : State) (hs : s.part.outside true = false) (hc : (Instr.wf (.sdlTmrMissedRead w n) && s.part.issues w) = true) :
    exec (.sdlTmrMissedRead w n) s = .next (s.settle (s.part.readOf s.ns w (R.SDL_TMR_MISSED n))) :=
  State.run_next s hs (can := fun _ p => Instr.wf (.sdlTmrMissedRead w n) && p.issues w) (eff := fun t p => p.readOf t w (R.SDL_TMR_MISSED n)) hc

theorem next_timerFire (n : Nat) (s : State) (hs : s.part.outside true = false) (hc : (Instr.wf (.timerFire n) && s.part.timerDue s.ns n) = true) :
    exec (.timerFire n) s = .next (s.settle (s.part.timerFire s.ns n)) :=
  State.run_next s hs (can := fun t p => Instr.wf (.timerFire n) && p.timerDue t n) (eff := fun t p => p.timerFire t n) hc

theorem next_gpioEdgeCapture (g : Nat) (rising : Bool) (s : State) (hs : s.part.outside true = false) (hc : (Instr.wf (.gpioEdgeCapture g rising) && s.part.edgeIs g rising) = true) :
    exec (.gpioEdgeCapture g rising) s = .next (s.settle (s.part.gpioChange s.ns g rising)) :=
  State.run_next s hs (can := fun _ p => Instr.wf (.gpioEdgeCapture g rising) && p.edgeIs g rising) (eff := fun t p => p.gpioChange t g rising) hc

theorem next_sdlCapInfoRead (w : Who) (s : State) (hs : s.part.outside true = false) (hc : (s.part.issues w) = true) :
    exec (.sdlCapInfoRead w) s = .next (s.settle (s.part.readOf s.ns w R.SDL_CAP_INFO)) :=
  State.run_next s hs (can := fun _ p => p.issues w) (eff := fun t p => p.readOf t w R.SDL_CAP_INFO) hc

theorem next_refclkLoss (s : State) (hs : s.part.outside false = false) (hc : (s.part.pins.refclk) = true) :
    exec .refclkLoss s = .next (s.settle (s.part.refLoss)) :=
  State.runAon_next s hs (can := fun _ p => p.pins.refclk) (eff := fun _ p => p.refLoss) hc

theorem next_refclkReturn (s : State) (hs : s.part.outside false = false) (hc : (!s.part.pins.refclk) = true) :
    exec .refclkReturn s = .next (s.settle (s.part.refReturn)) :=
  State.runAon_next s hs (can := fun _ p => !p.pins.refclk) (eff := fun _ p => p.refReturn) hc

theorem next_ptpMessageRx (n : Nat) (st : PtpState) (est : Option (Int × Int × Int)) (s : State) (hs : s.part.outside true = false) (hc : (Instr.wf (.ptpMessageRx n st est) && s.part.ptpOn n st) = true) :
    exec (.ptpMessageRx n st est) s = .next (s.settle (s.part.ptpMessage s.ns n st est)) :=
  State.run_next s hs (can := fun _ p => Instr.wf (.ptpMessageRx n st est) && p.ptpOn n st) (eff := fun t p => p.ptpMessage t n st est) hc

theorem next_servoLockGained (s : State) (hs : s.part.outside true = false) (hc : (s.part.lockDue s.ns) = true) :
    exec .servoLockGained s = .next (s.settle (s.part.lockGained s.ns)) :=
  State.run_next s hs (can := fun t p => p.lockDue t) (eff := fun t p => p.lockGained t) hc

theorem next_servoLockLost (s : State) (hs : s.part.outside true = false) (hc : (s.part.lockGone) = true) :
    exec .servoLockLost s = .next (s.settle (s.part.lockLost s.ns)) :=
  State.run_next s hs (can := fun _ p => p.lockGone) (eff := fun t p => p.lockLost t) hc

theorem next_slewEnd (s : State) (hs : s.part.outside true = false) (hc : (s.part.slewDone s.ns) = true) :
    exec .slewEnd s = .next (s.settle (s.part.slewEnd)) :=
  State.run_next s hs (can := fun t p => p.slewDone t) (eff := fun _ p => p.slewEnd) hc

theorem next_ethEgressTimestamp (n : Nat) (seq : Nat) (s : State) (hs : s.part.outside true = false) (hc : (Instr.wf (.ethEgressTimestamp n seq) && s.part.ptpSends n) = true) :
    exec (.ethEgressTimestamp n seq) s = .next (s.settle (s.part.egressStamp s.ns n seq)) :=
  State.run_next s hs (can := fun _ p => Instr.wf (.ethEgressTimestamp n seq) && p.ptpSends n) (eff := fun t p => p.egressStamp t n seq) hc

theorem next_hourBoundary (s : State) (hs : s.part.outside true = false) (hc : (s.part.hourDue s.ns) = true) :
    exec .hourBoundary s = .next (s.settle (s.part.hourRecord s.ns (s.ns / 3600000000000))) :=
  State.run_next s hs (can := fun t p => p.hourDue t) (eff := fun t p => p.hourRecord t (t / 3600000000000)) hc

theorem next_tenSecondBoundary (s : State) (hs : s.part.outside true = false) (hc : (s.part.tenDue.isSome) = true) :
    exec .tenSecondBoundary s = .next (s.settle (s.part.tenBoundary s.ns)) :=
  State.run_next s hs (can := fun _ p => p.tenDue.isSome) (eff := fun t p => p.tenBoundary t) hc

theorem next_decimatorSample (codes : List Int) (filtered : List Nat) (s : State) (hs : s.part.outside true = false) (hc : (s.part.metering && codes.length == 7 && filtered.length == 7) = true) :
    exec (.decimatorSample codes filtered) s = .next (s.settle (s.part.decimatorSample s.ns codes filtered)) :=
  State.run_next s hs (can := fun _ p => p.metering && codes.length == 7 && filtered.length == 7) (eff := fun t p => p.decimatorSample t codes filtered) hc

theorem next_holdMinExpiry (o : Nat) (s : State) (hs : s.part.outside true = false) (hc : (Instr.wf (.holdMinExpiry o) && s.part.holdDue s.ns o) = true) :
    exec (.holdMinExpiry o) s = .next (s.settle (s.part.holdExpire s.ns o)) :=
  State.run_next s hs (can := fun t p => Instr.wf (.holdMinExpiry o) && p.holdDue t o) (eff := fun t p => p.holdExpire t o) hc

theorem next_pltCtrlFallow (w : Who) (s : State) (hs : s.part.outside true = false) (hc : (s.part.issues w) = true) :
    exec (.pltCtrlFallow w) s = .next (s.settle (s.part.writeOf s.ns w (R.PLT_CTRL w.plot.val) 1)) :=
  State.run_next s hs (can := fun _ p => p.issues w) (eff := fun t p => p.writeOf t w (R.PLT_CTRL w.plot.val) 1) hc

theorem next_fallowDrainEnd (k : Nat) (rngOk : Bool) (s : State) (hs : s.part.outside true = false) (hc : (Instr.wf (.fallowDrainEnd k rngOk) && s.part.shedUp && s.part.drainReady k) = true) :
    exec (.fallowDrainEnd k rngOk) s = .next (s.settle (s.part.fallowDrained s.ns k rngOk)) :=
  State.run_next s hs (can := fun _ p => Instr.wf (.fallowDrainEnd k rngOk) && p.shedUp && p.drainReady k) (eff := fun t p => p.fallowDrained t k rngOk) hc

theorem next_fallowZeroDone (k : Nat) (s : State) (hs : s.part.outside true = false) (hc : (Instr.wf (.fallowZeroDone k) && s.part.shedUp && s.part.zeroReady k) = true) :
    exec (.fallowZeroDone k) s = .next (s.settle (s.part.fallowZeroed k)) :=
  State.run_next s hs (can := fun _ p => Instr.wf (.fallowZeroDone k) && p.shedUp && p.zeroReady k) (eff := fun _ p => p.fallowZeroed k) hc

theorem next_fenceNvmeRetire (k : Nat) (s : State) (hs : s.part.outside true = false) (hc : (Instr.wf (.fenceNvmeRetire k) && s.part.fenceOld s.ns k) = true) :
    exec (.fenceNvmeRetire k) s = .next (s.settle (s.part.fenceRetire k)) :=
  State.run_next s hs (can := fun t p => Instr.wf (.fenceNvmeRetire k) && p.fenceOld t k) (eff := fun _ p => p.fenceRetire k) hc

theorem next_csi2FrameStart (port : Nat) (vc : Nat) (number : Nat) (ecc : Ecc) (sot : Bool) (s : State) (hs : s.part.outside true = false) (hc : (Instr.wf (.csi2FrameStart port vc number ecc sot) && s.part.csiOn port) = true) :
    exec (.csi2FrameStart port vc number ecc sot) s = .next (s.settle (s.part.csiFrameStart s.ns port vc number ecc sot)) :=
  State.run_next s hs (can := fun _ p => Instr.wf (.csi2FrameStart port vc number ecc sot) && p.csiOn port) (eff := fun t p => p.csiFrameStart t port vc number ecc sot) hc

theorem next_csi2LongPacket (port : Nat) (vc : Nat) (dt : Nat) (data : List Byte) (crcOk : Bool) (overflow : Bool) (ecc : Ecc) (sot : Bool) (s : State) (hs : s.part.outside true = false) (hc : (Instr.wf (.csi2LongPacket port vc dt data crcOk overflow ecc sot) && s.part.csiOn port) = true) :
    exec (.csi2LongPacket port vc dt data crcOk overflow ecc sot) s = .next (s.settle (s.part.csiLongPacket port vc dt data crcOk overflow ecc sot)) :=
  State.run_next s hs (can := fun _ p => Instr.wf (.csi2LongPacket port vc dt data crcOk overflow ecc sot) && p.csiOn port) (eff := fun _ p => p.csiLongPacket port vc dt data crcOk overflow ecc sot) hc

theorem next_csi2FrameEnd (port : Nat) (vc : Nat) (number : Nat) (ecc : Ecc) (sot : Bool) (s : State) (hs : s.part.outside true = false) (hc : (Instr.wf (.csi2FrameEnd port vc number ecc sot) && s.part.csiOn port) = true) :
    exec (.csi2FrameEnd port vc number ecc sot) s = .next (s.settle (s.part.csiFrameEnd port vc number ecc sot)) :=
  State.run_next s hs (can := fun _ p => Instr.wf (.csi2FrameEnd port vc number ecc sot) && p.csiOn port) (eff := fun _ p => p.csiFrameEnd port vc number ecc sot) hc

theorem next_ethFrameRx (port : Nat) (frame : List Byte) (fcsOk : Bool) (full : Bool) (s : State) (hs : s.part.outside true = false) (hc : (Instr.wf (.ethFrameRx port frame fcsOk full) && s.part.ethHears port) = true) :
    exec (.ethFrameRx port frame fcsOk full) s = .next (s.settle (s.part.ethFrameIn s.ns port frame fcsOk full)) :=
  State.run_next s hs (can := fun _ p => Instr.wf (.ethFrameRx port frame fcsOk full) && p.ethHears port) (eff := fun t p => p.ethFrameIn t port frame fcsOk full) hc

theorem next_accessUnitTimeout (stream : Nat) (s : State) (hs : s.part.outside true = false) (hc : (Instr.wf (.accessUnitTimeout stream) && s.part.auTimedOut s.ns stream) = true) :
    exec (.accessUnitTimeout stream) s = .next (s.settle (s.part.endAu stream true)) :=
  State.run_next s hs (can := fun t p => Instr.wf (.accessUnitTimeout stream) && p.auTimedOut t stream) (eff := fun _ p => p.endAu stream true) hc

theorem next_entryCommit (stream : Nat) (s : State) (hs : s.part.outside true = false) (hc : (Instr.wf (.entryCommit stream) && s.part.entryReady stream) = true) :
    exec (.entryCommit stream) s = .next (s.settle (s.part.entryCommit s.ns stream)) :=
  State.run_next s hs (can := fun _ p => Instr.wf (.entryCommit stream) && p.entryReady stream) (eff := fun t p => p.entryCommit t stream) hc

theorem next_contextStall (stream : Nat) (s : State) (hs : s.part.outside true = false) (hc : (Instr.wf (.contextStall stream) && s.part.ctxQuiet s.ns stream) = true) :
    exec (.contextStall stream) s = .next (s.settle (s.part.ctxStall stream)) :=
  State.run_next s hs (can := fun t p => Instr.wf (.contextStall stream) && p.ctxQuiet t stream) (eff := fun _ p => p.ctxStall stream) hc

theorem next_itkCtxCommit (w : Who) (stream : Nat) (s : State) (hs : s.part.outside true = false) (hc : (Instr.wf (.itkCtxCommit w stream) && s.part.issues w) = true) :
    exec (.itkCtxCommit w stream) s = .next (s.settle (s.part.writeOf s.ns w (R.ITK_CTX_COMMIT stream) 1)) :=
  State.run_next s hs (can := fun _ p => Instr.wf (.itkCtxCommit w stream) && p.issues w) (eff := fun t p => p.writeOf t w (R.ITK_CTX_COMMIT stream) 1) hc

theorem next_itkCtxRelock (w : Who) (stream : Nat) (s : State) (hs : s.part.outside true = false) (hc : (Instr.wf (.itkCtxRelock w stream) && s.part.issues w) = true) :
    exec (.itkCtxRelock w stream) s = .next (s.settle (s.part.writeOf s.ns w (R.ITK_CTX_CTRL stream) ((s.part.reg (R.ITK_CTX_CTRL stream)).withBits 1 1 1))) :=
  State.run_next s hs (can := fun _ p => Instr.wf (.itkCtxRelock w stream) && p.issues w) (eff := fun t p => p.writeOf t w (R.ITK_CTX_CTRL stream) ((p.reg (R.ITK_CTX_CTRL stream)).withBits 1 1 1)) hc

theorem next_itkCtxEnWrite (w : Who) (stream : Nat) (on : Bool) (s : State) (hs : s.part.outside true = false) (hc : (Instr.wf (.itkCtxEnWrite w stream on) && s.part.issues w) = true) :
    exec (.itkCtxEnWrite w stream on) s = .next (s.settle (s.part.writeOf s.ns w (R.ITK_CTX_CTRL stream) ((s.part.reg (R.ITK_CTX_CTRL stream)).withBits 0 0 on.toNat))) :=
  State.run_next s hs (can := fun _ p => Instr.wf (.itkCtxEnWrite w stream on) && p.issues w) (eff := fun t p => p.writeOf t w (R.ITK_CTX_CTRL stream) ((p.reg (R.ITK_CTX_CTRL stream)).withBits 0 0 on.toNat)) hc

theorem next_rtspSessionSetup (stream : Nat) (port : Nat) (udp : Nat) (ip : Nat) (pt : Nat) (s : State) (hs : s.part.outside true = false) (hc : (Instr.wf (.rtspSessionSetup stream port udp ip pt) && s.part.rtspReady stream port udp) = true) :
    exec (.rtspSessionSetup stream port udp ip pt) s = .next (s.settle (s.part.rtspSetup stream port udp ip pt)) :=
  State.run_next s hs (can := fun _ p => Instr.wf (.rtspSessionSetup stream port udp ip pt) && p.rtspReady stream port udp) (eff := fun _ p => p.rtspSetup stream port udp ip pt) hc

theorem next_pairChoiceFinal (k : Nat) (s : State) (hs : s.part.outside true = false) (hc : (Instr.wf (.pairChoiceFinal k) && s.part.pairDue s.ns k) = true) :
    exec (.pairChoiceFinal k) s = .next (s.settle (s.part.pairDecide s.ns k)) :=
  State.run_next s hs (can := fun t p => Instr.wf (.pairChoiceFinal k) && p.pairDue t k) (eff := fun t p => p.pairDecide t k) hc

theorem next_ethLinkChange (n : Nat) (up : Bool) (blockLock : Bool) (anDone : Bool) (s : State) (hs : s.part.outside true = false) (hc : (Instr.wf (.ethLinkChange n up blockLock anDone) && s.part.linkChanges n up) = true) :
    exec (.ethLinkChange n up blockLock anDone) s = .next (s.settle (s.part.ethLink n up blockLock anDone)) :=
  State.run_next s hs (can := fun _ p => Instr.wf (.ethLinkChange n up blockLock anDone) && p.linkChanges n up) (eff := fun _ p => p.ethLink n up blockLock anDone) hc

theorem next_nalUnitHandoff (stream : Nat) (facts : NalFacts) (s : State) (hs : s.part.outside true = false) (hc : (Instr.wf (.nalUnitHandoff stream facts) && s.part.noticeReady stream) = true) :
    exec (.nalUnitHandoff stream facts) s = .next (s.settle (s.part.noticePass s.ns stream facts)) :=
  State.run_next s hs (can := fun _ p => Instr.wf (.nalUnitHandoff stream facts) && p.noticeReady stream) (eff := fun t p => p.noticePass t stream facts) hc

theorem next_sliceStart (c : Nat) (facts : SliceFacts) (s : State) (hs : s.part.outside true = false) (hc : (Instr.wf (.sliceStart c facts) && s.part.sliceCan s.ns c) = true) :
    exec (.sliceStart c facts) s = .next (s.settle (s.part.sliceStart s.ns c facts)) :=
  State.run_next s hs (can := fun t p => Instr.wf (.sliceStart c facts) && p.sliceCan t c) (eff := fun t p => p.sliceStart t c facts) hc

theorem next_sliceEnd (c : Nat) (result : SliceResult) (s : State) (hs : s.part.outside true = false) (hc : (Instr.wf (.sliceEnd c result) && s.part.sliceRuns c) = true) :
    exec (.sliceEnd c result) s = .next (s.settle (s.part.sliceEnd s.ns c result)) :=
  State.run_next s hs (can := fun _ p => Instr.wf (.sliceEnd c result) && p.sliceRuns c) (eff := fun t p => p.sliceEnd t c result) hc

theorem next_prnPipeCommit (w : Who) (k : Nat) (s : State) (hs : s.part.outside true = false) (hc : (Instr.wf (.prnPipeCommit w k) && s.part.issues w) = true) :
    exec (.prnPipeCommit w k) s = .next (s.settle (s.part.writeOf s.ns w (R.PRN_PIPE_COMMIT k) 1)) :=
  State.run_next s hs (can := fun _ p => Instr.wf (.prnPipeCommit w k) && p.issues w) (eff := fun t p => p.writeOf t w (R.PRN_PIPE_COMMIT k) 1) hc

theorem next_steerCopyDone (k : Nat) (s : State) (hs : s.part.outside true = false) (hc : (Instr.wf (.steerCopyDone k) && s.part.live && (s.part.prnPipe k).copying.isSome) = true) :
    exec (.steerCopyDone k) s = .next (s.settle (s.part.prnCopyDone k)) :=
  State.run_next s hs (can := fun _ p => Instr.wf (.steerCopyDone k) && p.live && (p.prnPipe k).copying.isSome) (eff := fun _ p => p.prnCopyDone k) hc

theorem next_prunerLatch (k : Nat) (s : State) (hs : s.part.outside true = false) (hc : (Instr.wf (.prunerLatch k) && s.part.live && !(s.part.prnPipe k).latches.isEmpty) = true) :
    exec (.prunerLatch k) s = .next (s.settle (s.part.prunerLatch s.ns k)) :=
  State.run_next s hs (can := fun _ p => Instr.wf (.prunerLatch k) && p.live && !(p.prnPipe k).latches.isEmpty) (eff := fun t p => p.prunerLatch t k) hc

theorem next_cropStart (e : Nat) (s : State) (hs : s.part.outside true = false) (hc : (Instr.wf (.cropStart e) && s.part.canDispatch 1 e) = true) :
    exec (.cropStart e) s = .next (s.settle (s.part.cropStart s.ns e)) :=
  State.run_next s hs (can := fun _ p => Instr.wf (.cropStart e) && p.canDispatch 1 e) (eff := fun t p => p.cropStart t e) hc

theorem next_cropEnd (e : Nat) (s : State) (hs : s.part.outside true = false) (hc : (Instr.wf (.cropEnd e) && s.part.live && s.part.cropDone e) = true) :
    exec (.cropEnd e) s = .next (s.settle (s.part.cropEnd s.ns e)) :=
  State.run_next s hs (can := fun _ p => Instr.wf (.cropEnd e) && p.live && p.cropDone e) (eff := fun t p => p.cropEnd t e) hc

theorem next_drillWaitExpiry (plot : Nat) (group : Nat) (s : State) (hs : s.part.outside true = false) (hc : (Instr.wf (.drillWaitExpiry plot group) && s.part.live && s.part.drillWaited s.ns (groupKey plot group)) = true) :
    exec (.drillWaitExpiry plot group) s = .next (s.settle (s.part.closeDrill s.ns (groupKey plot group) 1)) :=
  State.run_next s hs (can := fun t p => Instr.wf (.drillWaitExpiry plot group) && p.live && p.drillWaited t (groupKey plot group)) (eff := fun t p => p.closeDrill t (groupKey plot group) 1) hc

theorem next_drillReadyNotice (plot : Nat) (group : Nat) (s : State) (hs : s.part.outside true = false) (hc : (Instr.wf (.drillReadyNotice plot group) && s.part.live && s.part.noticeDue (groupKey plot group)) = true) :
    exec (.drillReadyNotice plot group) s = .next (s.settle (s.part.drillNotice s.ns (groupKey plot group))) :=
  State.run_next s hs (can := fun _ p => Instr.wf (.drillReadyNotice plot group) && p.live && p.noticeDue (groupKey plot group)) (eff := fun t p => p.drillNotice t (groupKey plot group)) hc

theorem next_drillSlotFree (plot : Nat) (group : Nat) (s : State) (hs : s.part.outside true = false) (hc : (Instr.wf (.drillSlotFree plot group) && s.part.live && s.part.slotIdle (groupKey plot group)) = true) :
    exec (.drillSlotFree plot group) s = .next (s.settle (s.part.slotFree (groupKey plot group))) :=
  State.run_next s hs (can := fun _ p => Instr.wf (.drillSlotFree plot group) && p.live && p.slotIdle (groupKey plot group)) (eff := fun _ p => p.slotFree (groupKey plot group)) hc

theorem next_bedCommandStart (b : Nat) (s : State) (hs : s.part.outside true = false) (hc : (Instr.wf (.bedCommandStart b) && s.part.bedAwaits b) = true) :
    exec (.bedCommandStart b) s = .next (s.settle (s.part.bedStart s.ns b)) :=
  State.run_next s hs (can := fun _ p => Instr.wf (.bedCommandStart b) && p.bedAwaits b) (eff := fun t p => p.bedStart t b) hc

theorem next_bedCommandEnd (b : Nat) (s : State) (hs : s.part.outside true = false) (hc : (Instr.wf (.bedCommandEnd b) && s.part.live && s.part.bedIdle b) = true) :
    exec (.bedCommandEnd b) s = .next (s.settle ((s.part.bedCmdEnd s.ns b).nextLoads s.ns)) :=
  State.run_next s hs (can := fun _ p => Instr.wf (.bedCommandEnd b) && p.live && p.bedIdle b) (eff := fun t p => (p.bedCmdEnd t b).nextLoads t) hc

theorem next_rv32Instruction (b : Nat) (th : Nat) (word : Word) (s : State) (hs : s.part.outside true = false) (hc : (Instr.wf (.rv32Instruction b th word) && s.part.threadReady b th) = true) :
    exec (.rv32Instruction b th word) s = .next (s.settle (s.part.issue s.ns b th word.toNat)) :=
  State.run_next s hs (can := fun _ p => Instr.wf (.rv32Instruction b th word) && p.threadReady b th) (eff := fun t p => p.issue t b th word.toNat) hc

theorem next_bedLoadReturn (b : Nat) (th : Nat) (poisoned : Bool) (s : State) (hs : s.part.outside true = false) (hc : (Instr.wf (.bedLoadReturn b th poisoned) && s.part.awaitsData b th) = true) :
    exec (.bedLoadReturn b th poisoned) s = .next (s.settle (s.part.loadReturn s.ns b th poisoned)) :=
  State.run_next s hs (can := fun _ p => Instr.wf (.bedLoadReturn b th poisoned) && p.awaitsData b th) (eff := fun t p => p.loadReturn t b th poisoned) hc

theorem next_bedFence (b : Nat) (th : Nat) (s : State) (hs : s.part.outside true = false) (hc : (Instr.wf (.bedFence b th) && s.part.threadReady b th) = true) :
    exec (.bedFence b th) s = .next (s.settle (s.part.issue s.ns b th 0x0FF0000F)) :=
  State.run_next s hs (can := fun _ p => Instr.wf (.bedFence b th) && p.threadReady b th) (eff := fun t p => p.issue t b th 0x0FF0000F) hc

theorem next_tcfg (b : Nat) (th : Nat) (rd : Fin 32) (rs1 : Fin 32) (s : State) (hs : s.part.outside true = false) (hc : (Instr.wf (.tcfg b th rd rs1) && s.part.threadReady b th) = true) :
    exec (.tcfg b th rd rs1) s = .next (s.settle (s.part.issue s.ns b th (tilthWord 0 0 rs1 0 rd))) :=
  State.run_next s hs (can := fun _ p => Instr.wf (.tcfg b th rd rs1) && p.threadReady b th) (eff := fun t p => p.issue t b th (tilthWord 0 0 rs1 0 rd)) hc

theorem next_tzero (b : Nat) (th : Nat) (a : Fin 32) (s : State) (hs : s.part.outside true = false) (hc : (Instr.wf (.tzero b th a) && s.part.threadReady b th) = true) :
    exec (.tzero b th a) s = .next (s.settle (s.part.issue s.ns b th (tilthWord 1 0 0 0 a))) :=
  State.run_next s hs (can := fun _ p => Instr.wf (.tzero b th a) && p.threadReady b th) (eff := fun t p => p.issue t b th (tilthWord 1 0 0 0 a)) hc

theorem next_tmma (b : Nat) (th : Nat) (a : Fin 32) (rs1 : Fin 32) (rs2 : Fin 32) (s : State) (hs : s.part.outside true = false) (hc : (Instr.wf (.tmma b th a rs1 rs2) && s.part.threadReady b th) = true) :
    exec (.tmma b th a rs1 rs2) s = .next (s.settle (s.part.issue s.ns b th (tilthWord 2 rs2 rs1 0 a))) :=
  State.run_next s hs (can := fun _ p => Instr.wf (.tmma b th a rs1 rs2) && p.threadReady b th) (eff := fun t p => p.issue t b th (tilthWord 2 rs2 rs1 0 a)) hc

theorem next_tldacc (b : Nat) (th : Nat) (a : Fin 32) (rs1 : Fin 32) (s : State) (hs : s.part.outside true = false) (hc : (Instr.wf (.tldacc b th a rs1) && s.part.threadReady b th) = true) :
    exec (.tldacc b th a rs1) s = .next (s.settle (s.part.issue s.ns b th (tilthWord 3 0 rs1 0 a))) :=
  State.run_next s hs (can := fun _ p => Instr.wf (.tldacc b th a rs1) && p.threadReady b th) (eff := fun t p => p.issue t b th (tilthWord 3 0 rs1 0 a)) hc

theorem next_tstacc (b : Nat) (th : Nat) (a : Fin 32) (rs1 : Fin 32) (s : State) (hs : s.part.outside true = false) (hc : (Instr.wf (.tstacc b th a rs1) && s.part.threadReady b th) = true) :
    exec (.tstacc b th a rs1) s = .next (s.settle (s.part.issue s.ns b th (tilthWord 4 0 rs1 0 a))) :=
  State.run_next s hs (can := fun _ p => Instr.wf (.tstacc b th a rs1) && p.threadReady b th) (eff := fun t p => p.issue t b th (tilthWord 4 0 rs1 0 a)) hc

theorem next_trq (b : Nat) (th : Nat) (a : Fin 32) (rs1 : Fin 32) (rs2 : Fin 32) (s : State) (hs : s.part.outside true = false) (hc : (Instr.wf (.trq b th a rs1 rs2) && s.part.threadReady b th) = true) :
    exec (.trq b th a rs1 rs2) s = .next (s.settle (s.part.issue s.ns b th (tilthWord 5 rs2 rs1 0 a))) :=
  State.run_next s hs (can := fun _ p => Instr.wf (.trq b th a rs1 rs2) && p.threadReady b th) (eff := fun t p => p.issue t b th (tilthWord 5 rs2 rs1 0 a)) hc

theorem next_twait (b : Nat) (th : Nat) (rd : Fin 32) (n : Fin 32) (s : State) (hs : s.part.outside true = false) (hc : (Instr.wf (.twait b th rd n) && s.part.threadReady b th) = true) :
    exec (.twait b th rd n) s = .next (s.settle (s.part.issue s.ns b th (tilthWord 0 n 0 1 rd))) :=
  State.run_next s hs (can := fun _ p => Instr.wf (.twait b th rd n) && p.threadReady b th) (eff := fun t p => p.issue t b th (tilthWord 0 n 0 1 rd)) hc

theorem next_tfence (b : Nat) (th : Nat) (m : Fin 32) (s : State) (hs : s.part.outside true = false) (hc : (Instr.wf (.tfence b th m) && s.part.threadReady b th) = true) :
    exec (.tfence b th m) s = .next (s.settle (s.part.issue s.ns b th (tilthWord 1 m 0 1 0))) :=
  State.run_next s hs (can := fun _ p => Instr.wf (.tfence b th m) && p.threadReady b th) (eff := fun t p => p.issue t b th (tilthWord 1 m 0 1 0)) hc

theorem next_tbar (b : Nat) (th : Nat) (rs1 : Fin 32) (s : State) (hs : s.part.outside true = false) (hc : (Instr.wf (.tbar b th rs1) && s.part.threadReady b th) = true) :
    exec (.tbar b th rs1) s = .next (s.settle (s.part.issue s.ns b th (tilthWord 2 0 rs1 1 0))) :=
  State.run_next s hs (can := fun _ p => Instr.wf (.tbar b th rs1) && p.threadReady b th) (eff := fun t p => p.issue t b th (tilthWord 2 0 rs1 1 0)) hc

theorem next_texit (b : Nat) (th : Nat) (s : State) (hs : s.part.outside true = false) (hc : (Instr.wf (.texit b th) && s.part.threadReady b th) = true) :
    exec (.texit b th) s = .next (s.settle (s.part.issue s.ns b th (tilthWord 3 0 0 1 0))) :=
  State.run_next s hs (can := fun _ p => Instr.wf (.texit b th) && p.threadReady b th) (eff := fun t p => p.issue t b th (tilthWord 3 0 0 1 0)) hc

theorem next_tbolt (b : Nat) (th : Nat) (rd : Fin 32) (rs1 : Fin 32) (s : State) (hs : s.part.outside true = false) (hc : (Instr.wf (.tbolt b th rd rs1) && s.part.threadReady b th) = true) :
    exec (.tbolt b th rd rs1) s = .next (s.settle (s.part.issue s.ns b th (tilthWord 0 0 rs1 2 rd))) :=
  State.run_next s hs (can := fun _ p => Instr.wf (.tbolt b th rd rs1) && p.threadReady b th) (eff := fun t p => p.issue t b th (tilthWord 0 0 rs1 2 rd)) hc

theorem next_tput (b : Nat) (th : Nat) (rd : Fin 32) (rs1 : Fin 32) (s : State) (hs : s.part.outside true = false) (hc : (Instr.wf (.tput b th rd rs1) && s.part.threadReady b th) = true) :
    exec (.tput b th rd rs1) s = .next (s.settle (s.part.issue s.ns b th (tilthWord 1 0 rs1 2 rd))) :=
  State.run_next s hs (can := fun _ p => Instr.wf (.tput b th rd rs1) && p.threadReady b th) (eff := fun t p => p.issue t b th (tilthWord 1 0 rs1 2 rd)) hc

theorem next_tvld (b : Nat) (th : Nat) (vd : Fin 32) (rs1 : Fin 32) (s : State) (hs : s.part.outside true = false) (hc : (Instr.wf (.tvld b th vd rs1) && s.part.threadReady b th) = true) :
    exec (.tvld b th vd rs1) s = .next (s.settle (s.part.issue s.ns b th (tilthWord 2 0 rs1 2 vd))) :=
  State.run_next s hs (can := fun _ p => Instr.wf (.tvld b th vd rs1) && p.threadReady b th) (eff := fun t p => p.issue t b th (tilthWord 2 0 rs1 2 vd)) hc

theorem next_tvst (b : Nat) (th : Nat) (vs3 : Fin 32) (rs1 : Fin 32) (s : State) (hs : s.part.outside true = false) (hc : (Instr.wf (.tvst b th vs3 rs1) && s.part.threadReady b th) = true) :
    exec (.tvst b th vs3 rs1) s = .next (s.settle (s.part.issue s.ns b th (tilthWord 3 0 rs1 2 vs3))) :=
  State.run_next s hs (can := fun _ p => Instr.wf (.tvst b th vs3 rs1) && p.threadReady b th) (eff := fun t p => p.issue t b th (tilthWord 3 0 rs1 2 vs3)) hc

theorem next_engineOpDone (b : Nat) (s : State) (hs : s.part.outside true = false) (hc : (Instr.wf (.engineOpDone b) && s.part.live && !(s.part.bed b).queue.isEmpty) = true) :
    exec (.engineOpDone b) s = .next (s.settle (s.part.engineDone s.ns b)) :=
  State.run_next s hs (can := fun _ p => Instr.wf (.engineOpDone b) && p.live && !(p.bed b).queue.isEmpty) (eff := fun t p => p.engineDone t b) hc

theorem next_tputComplete (b : Nat) (j : Nat) (s : State) (hs : s.part.outside true = false) (hc : (Instr.wf (.tputComplete b j) && s.part.live && decide (j < (s.part.bed b).tputs.length)) = true) :
    exec (.tputComplete b j) s = .next (s.settle (s.part.tputDone b j)) :=
  State.run_next s hs (can := fun _ p => Instr.wf (.tputComplete b j) && p.live && decide (j < (p.bed b).tputs.length)) (eff := fun _ p => p.tputDone b j) hc

theorem next_bedCtrlReset (w : Who) (b : Nat) (s : State) (hs : s.part.outside true = false) (hc : (Instr.wf (.bedCtrlReset w b) && s.part.issues w) = true) :
    exec (.bedCtrlReset w b) s = .next (s.settle (s.part.writeOf s.ns w (R.BED_CTRL b) 1)) :=
  State.run_next s hs (can := fun _ p => Instr.wf (.bedCtrlReset w b) && p.issues w) (eff := fun t p => p.writeOf t w (R.BED_CTRL b) 1) hc

theorem next_bedResetDone (b : Nat) (s : State) (hs : s.part.outside true = false) (hc : (Instr.wf (.bedResetDone b) && s.part.live && s.part.on (F.BED_STATUS_RESETTING b)) = true) :
    exec (.bedResetDone b) s = .next (s.settle (s.part.clr (F.BED_STATUS_RESETTING b))) :=
  State.run_next s hs (can := fun _ p => Instr.wf (.bedResetDone b) && p.live && p.on (F.BED_STATUS_RESETTING b)) (eff := fun _ p => p.clr (F.BED_STATUS_RESETTING b)) hc

theorem next_dspQHeadWrite (w : Who) (plot : Nat) (q : Nat) (off : Word) (s : State) (hs : s.part.outside true = false) (hc : (Instr.wf (.dspQHeadWrite w plot q off) && s.part.issues w && plot != 0) = true) :
    exec (.dspQHeadWrite w plot q off) s = .next (s.settle (s.part.writeOf s.ns w (R.DSP_Q_HEAD (plot - 1) q) off)) :=
  State.run_next s hs (can := fun _ p => Instr.wf (.dspQHeadWrite w plot q off) && p.issues w && plot != 0) (eff := fun t p => p.writeOf t w (R.DSP_Q_HEAD (plot - 1) q) off) hc

theorem next_commandDispatch (kind : Nat) (n : Nat) (s : State) (hs : s.part.outside true = false) (hc : (Instr.wf (.commandDispatch kind n) && s.part.canDispatch kind n) = true) :
    exec (.commandDispatch kind n) s = .next (s.settle (s.part.dispatch s.ns kind n)) :=
  State.run_next s hs (can := fun _ p => Instr.wf (.commandDispatch kind n) && p.canDispatch kind n) (eff := fun t p => p.dispatch t kind n) hc

theorem next_stripeStart (b : Nat) (s : State) (hs : s.part.outside true = false) (hc : (Instr.wf (.stripeStart b) && s.part.live && s.part.stripeReady b) = true) :
    exec (.stripeStart b) s = .next (s.settle (s.part.stripeStart s.ns b)) :=
  State.run_next s hs (can := fun _ p => Instr.wf (.stripeStart b) && p.live && p.stripeReady b) (eff := fun t p => p.stripeStart t b) hc

theorem next_commandTimeLimit (kind : Nat) (n : Nat) (s : State) (hs : s.part.outside true = false) (hc : (Instr.wf (.commandTimeLimit kind n) && s.part.live && s.part.overLimit s.ns kind n) = true) :
    exec (.commandTimeLimit kind n) s = .next (s.settle (s.part.timeLimit kind n)) :=
  State.run_next s hs (can := fun t p => Instr.wf (.commandTimeLimit kind n) && p.live && p.overLimit t kind n) (eff := fun _ p => p.timeLimit kind n) hc

theorem next_jobTeardown (s : State) (hs : s.part.outside true = false) (hc : (s.part.live && !s.part.jobs.faults.isEmpty) = true) :
    exec .jobTeardown s = .next (s.settle ((s.part.teardown s.ns).nextLoads s.ns)) :=
  State.run_next s hs (can := fun _ p => p.live && !p.jobs.faults.isEmpty) (eff := fun t p => (p.teardown t).nextLoads t) hc

theorem next_stkTake (w : Who) (ctx : Nat) (stake : Nat) (s : State) (hs : s.part.outside true = false) (hc : (Instr.wf (.stkTake w ctx stake) && s.part.issues w) = true) :
    exec (.stkTake w ctx stake) s = .next (s.settle (s.part.registerWrite s.ns w ctx (w.addrOf (R.STK_TAKE stake)) 4 1)) :=
  State.run_next s hs (can := fun _ p => Instr.wf (.stkTake w ctx stake) && p.issues w) (eff := fun t p => p.registerWrite t w ctx (w.addrOf (R.STK_TAKE stake)) 4 1) hc

theorem next_stkRel (w : Who) (ctx : Nat) (stake : Nat) (s : State) (hs : s.part.outside true = false) (hc : (Instr.wf (.stkRel w ctx stake) && s.part.issues w) = true) :
    exec (.stkRel w ctx stake) s = .next (s.settle (s.part.registerWrite s.ns w ctx (w.addrOf (R.STK_REL stake)) 4 1)) :=
  State.run_next s hs (can := fun _ p => Instr.wf (.stkRel w ctx stake) && p.issues w) (eff := fun t p => p.registerWrite t w ctx (w.addrOf (R.STK_REL stake)) 4 1) hc

theorem next_layerReadDone (k : Nat) (ok : Bool) (data : List Byte) (s : State) (hs : s.part.outside true = false) (hc : (Instr.wf (.layerReadDone k ok data) && s.part.readAwaited k) = true) :
    exec (.layerReadDone k ok data) s = .next (s.settle (s.part.layerRead s.ns k ok data)) :=
  State.run_next s hs (can := fun _ p => Instr.wf (.layerReadDone k ok data) && p.readAwaited k) (eff := fun t p => p.layerRead t k ok data) hc

theorem next_pinnedPlacementSettled (m : Nat) (s : State) (hs : s.part.outside true = false) (hc : (s.part.storing && s.part.placing m 1) = true) :
    exec (.pinnedPlacementSettled m) s = .next (s.settle (s.part.placed s.ns m)) :=
  State.run_next s hs (can := fun _ p => p.storing && p.placing m 1) (eff := fun t p => p.placed t m) hc

theorem next_weightFetchSettled (h : Nat) (s : State) (hs : s.part.outside true = false) (hc : (s.part.live && s.part.fetchReady h) = true) :
    exec (.weightFetchSettled h) s = .next (s.settle (s.part.fetchSettled h)) :=
  State.run_next s hs (can := fun _ p => p.live && p.fetchReady h) (eff := fun _ p => p.fetchSettled h) hc

theorem next_graftStagingSettled (m : Nat) (s : State) (hs : s.part.outside true = false) (hc : (s.part.storing && s.part.placing m 3 && s.part.stagingReady m) = true) :
    exec (.graftStagingSettled m) s = .next (s.settle (s.part.stagingSettled s.ns m)) :=
  State.run_next s hs (can := fun _ p => p.storing && p.placing m 3 && p.stagingReady m) (eff := fun t p => p.stagingSettled t m) hc

theorem next_graftLayerSwap (m : Nat) (s : State) (hs : s.part.outside true = false) (hc : (s.part.live && s.part.swapReady m) = true) :
    exec (.graftLayerSwap m) s = .next (s.settle (s.part.swapLayer s.ns m)) :=
  State.run_next s hs (can := fun _ p => p.live && p.swapReady m) (eff := fun t p => p.swapLayer t m) hc

theorem next_brwChEnWrite (w : Who) (c : Nat) (on : Bool) (s : State) (hs : s.part.outside true = false) (hc : (Instr.wf (.brwChEnWrite w c on) && s.part.issues w) = true) :
    exec (.brwChEnWrite w c on) s = .next (s.settle (s.part.writeOf s.ns w (R.BRW_CH_CTRL c) (((s.part.reg (R.BRW_CH_CTRL c)).withBits 2 2 0).withBits 0 0 on.toNat))) :=
  State.run_next s hs (can := fun _ p => Instr.wf (.brwChEnWrite w c on) && p.issues w) (eff := fun t p => p.writeOf t w (R.BRW_CH_CTRL c) (((p.reg (R.BRW_CH_CTRL c)).withBits 2 2 0).withBits 0 0 on.toNat)) hc

theorem next_brwChPause (w : Who) (c : Nat) (on : Bool) (s : State) (hs : s.part.outside true = false) (hc : (Instr.wf (.brwChPause w c on) && s.part.issues w) = true) :
    exec (.brwChPause w c on) s = .next (s.settle (s.part.writeOf s.ns w (R.BRW_CH_CTRL c) (((s.part.reg (R.BRW_CH_CTRL c)).withBits 2 2 0).withBits 1 1 on.toNat))) :=
  State.run_next s hs (can := fun _ p => Instr.wf (.brwChPause w c on) && p.issues w) (eff := fun t p => p.writeOf t w (R.BRW_CH_CTRL c) (((p.reg (R.BRW_CH_CTRL c)).withBits 2 2 0).withBits 1 1 on.toNat)) hc

theorem next_brwChDoorbell (w : Who) (c : Nat) (s : State) (hs : s.part.outside true = false) (hc : (Instr.wf (.brwChDoorbell w c) && s.part.issues w) = true) :
    exec (.brwChDoorbell w c) s = .next (s.settle (s.part.writeOf s.ns w (R.BRW_CH_CTRL c) ((s.part.reg (R.BRW_CH_CTRL c)).withBits 2 2 1))) :=
  State.run_next s hs (can := fun _ p => Instr.wf (.brwChDoorbell w c) && p.issues w) (eff := fun t p => p.writeOf t w (R.BRW_CH_CTRL c) ((p.reg (R.BRW_CH_CTRL c)).withBits 2 2 1)) hc

theorem next_brwCtrlPause (w : Who) (on : Bool) (s : State) (hs : s.part.outside true = false) (hc : (s.part.issues w) = true) :
    exec (.brwCtrlPause w on) s = .next (s.settle (s.part.writeOf s.ns w R.BRW_CTRL (BitVec.ofNat 32 on.toNat))) :=
  State.run_next s hs (can := fun _ p => p.issues w) (eff := fun t p => p.writeOf t w R.BRW_CTRL (BitVec.ofNat 32 on.toNat)) hc

theorem next_brwChLevelAdd (w : Who) (c : Nat) (v : Word) (s : State) (hs : s.part.outside true = false) (hc : (Instr.wf (.brwChLevelAdd w c v) && s.part.issues w) = true) :
    exec (.brwChLevelAdd w c v) s = .next (s.settle (s.part.writeOf s.ns w (R.BRW_CH_LEVEL_ADD c) (v))) :=
  State.run_next s hs (can := fun _ p => Instr.wf (.brwChLevelAdd w c v) && p.issues w) (eff := fun t p => p.writeOf t w (R.BRW_CH_LEVEL_ADD c) (v)) hc

theorem next_brwChTrigWrite (w : Who) (c : Nat) (v : Word) (s : State) (hs : s.part.outside true = false) (hc : (Instr.wf (.brwChTrigWrite w c v) && s.part.issues w) = true) :
    exec (.brwChTrigWrite w c v) s = .next (s.settle (s.part.writeOf s.ns w (R.BRW_CH_TRIG c) (v))) :=
  State.run_next s hs (can := fun _ p => Instr.wf (.brwChTrigWrite w c v) && p.issues w) (eff := fun t p => p.writeOf t w (R.BRW_CH_TRIG c) (v)) hc

theorem next_startEvent (c : Nat) (s : State) (hs : s.part.outside true = false) (hc : (Instr.wf (.startEvent c) && s.part.live && !(s.part.chan c).due.isEmpty) = true) :
    exec (.startEvent c) s = .next (s.settle (s.part.startEvent c)) :=
  State.run_next s hs (can := fun _ p => Instr.wf (.startEvent c) && p.live && !(p.chan c).due.isEmpty) (eff := fun _ p => p.startEvent c) hc

theorem next_ownRereadReturn (c : Nat) (s : State) (hs : s.part.outside true = false) (hc : (Instr.wf (.ownRereadReturn c) && s.part.live && s.part.rereadReady c) = true) :
    exec (.ownRereadReturn c) s = .next (s.settle (s.part.reread s.ns c)) :=
  State.run_next s hs (can := fun _ p => Instr.wf (.ownRereadReturn c) && p.live && p.rereadReady c) (eff := fun t p => p.reread t c) hc

theorem next_barrowReadReturn (c : Nat) (poisoned : Bool) (s : State) (hs : s.part.outside true = false) (hc : (Instr.wf (.barrowReadReturn c poisoned) && s.part.live && s.part.beatReady c) = true) :
    exec (.barrowReadReturn c poisoned) s = .next (s.settle (s.part.beat s.ns c poisoned)) :=
  State.run_next s hs (can := fun _ p => Instr.wf (.barrowReadReturn c poisoned) && p.live && p.beatReady c) (eff := fun t p => p.beat t c poisoned) hc

theorem next_descriptorComplete (c : Nat) (s : State) (hs : s.part.outside true = false) (hc : (Instr.wf (.descriptorComplete c) && s.part.live && s.part.completeReady c) = true) :
    exec (.descriptorComplete c) s = .next (s.settle (s.part.descComplete s.ns c)) :=
  State.run_next s hs (can := fun _ p => Instr.wf (.descriptorComplete c) && p.live && p.completeReady c) (eff := fun t p => p.descComplete t c) hc

theorem next_statusWritePerformed (c : Nat) (s : State) (hs : s.part.outside true = false) (hc : (Instr.wf (.statusWritePerformed c) && s.part.live && (s.part.chan c).fins.any (fun f => f.phase == 1)) = true) :
    exec (.statusWritePerformed c) s = .next (s.settle (s.part.statusDone c)) :=
  State.run_next s hs (can := fun _ p => Instr.wf (.statusWritePerformed c) && p.live && (p.chan c).fins.any (fun f => f.phase == 1)) (eff := fun _ p => p.statusDone c) hc

theorem next_ownWritePerformed (c : Nat) (s : State) (hs : s.part.outside true = false) (hc : (Instr.wf (.ownWritePerformed c) && s.part.live && (s.part.chan c).fins.any (fun f => f.phase == 2)) = true) :
    exec (.ownWritePerformed c) s = .next (s.settle (s.part.ownDone c)) :=
  State.run_next s hs (can := fun _ p => Instr.wf (.ownWritePerformed c) && p.live && (p.chan c).fins.any (fun f => f.phase == 2)) (eff := fun _ p => p.ownDone c) hc

theorem next_descriptorSettled (c : Nat) (s : State) (hs : s.part.outside true = false) (hc : (Instr.wf (.descriptorSettled c) && s.part.live && (s.part.chan c).fins.any (fun f => !f.settled)) = true) :
    exec (.descriptorSettled c) s = .next (s.settle (s.part.settle c)) :=
  State.run_next s hs (can := fun _ p => Instr.wf (.descriptorSettled c) && p.live && (p.chan c).fins.any (fun f => !f.settled)) (eff := fun _ p => p.settle c) hc

theorem next_channelPaused (c : Nat) (s : State) (hs : s.part.outside true = false) (hc : (Instr.wf (.channelPaused c) && s.part.live && s.part.pauseReady c) = true) :
    exec (.channelPaused c) s = .next (s.settle (s.part.chPausedNow c)) :=
  State.run_next s hs (can := fun _ p => Instr.wf (.channelPaused c) && p.live && p.pauseReady c) (eff := fun _ p => p.chPausedNow c) hc

theorem next_dramWriteAccept (writer : Writer) (port : Option Nat) (addr : Nat) (data : List Byte) (merge : EccOutcome) (s : State) (hs : s.part.outside true = false) (hc : (s.part.writeFits writer port addr data) = true) :
    exec (.dramWriteAccept writer port addr data merge) s = .next (s.settle (s.part.dramWrite s.ns writer port addr data merge)) :=
  State.run_next s hs (can := fun _ p => p.writeFits writer port addr data) (eff := fun t p => p.dramWrite t writer port addr data merge) hc

theorem next_dramReadReturn (reader : Reader) (addr : Nat) (outcome : EccOutcome) (ahead : Bool) (served : Bool) (s : State) (hs : s.part.outside true = false) (hc : (s.part.readFits reader addr) = true) :
    exec (.dramReadReturn reader addr outcome ahead served) s = .next (s.settle (s.part.dramRead s.ns reader addr outcome ahead served)) :=
  State.run_next s hs (can := fun _ p => p.readFits reader addr) (eff := fun t p => p.dramRead t reader addr outcome ahead served) hc

theorem next_refreshDue (ch : Nat) (rank : Nat) (wilt : Bool) (s : State) (hs : s.part.outside true = false) (hc : (Instr.wf (.refreshDue ch rank wilt) && s.part.rankRuns ch rank) = true) :
    exec (.refreshDue ch rank wilt) s = .next (s.settle (s.part.refreshDue ch rank wilt)) :=
  State.run_next s hs (can := fun _ p => Instr.wf (.refreshDue ch rank wilt) && p.rankRuns ch rank) (eff := fun _ p => p.refreshDue ch rank wilt) hc

theorem next_zqLatch (s : State) (hs : s.part.outside true = false) (hc : (s.part.dmcOn) = true) :
    exec .zqLatch s = .next (s.settle (s.part.zqLatch)) :=
  State.run_next s hs (can := fun _ p => p.dmcOn) (eff := fun _ p => p.zqLatch) hc

theorem next_dqsOscUpdate (drift : Nat) (s : State) (hs : s.part.outside true = false) (hc : (s.part.dmcOn) = true) :
    exec (.dqsOscUpdate drift) s = .next (s.settle (s.part.oscUpdate drift)) :=
  State.run_next s hs (can := fun _ p => p.dmcOn) (eff := fun _ p => p.oscUpdate drift) hc

theorem next_weederRead (outcome : EccOutcome) (s : State) (hs : s.part.outside true = false) (hc : (s.part.weedDue s.ns) = true) :
    exec (.weederRead outcome) s = .next (s.settle (s.part.weed s.ns outcome)) :=
  State.run_next s hs (can := fun t p => p.weedDue t) (eff := fun t p => p.weed t outcome) hc

theorem next_wiltRaise (r : Nat) (plot : Nat) (level : Nat) (s : State) (hs : s.part.outside true = false) (hc : (Instr.wf (.wiltRaise r plot level) && s.part.wiltRises r level) = true) :
    exec (.wiltRaise r plot level) s = .next (s.settle (s.part.wiltRaise s.ns r plot)) :=
  State.run_next s hs (can := fun _ p => Instr.wf (.wiltRaise r plot level) && p.wiltRises r level) (eff := fun t p => p.wiltRaise t r plot) hc

theorem next_wiltDrop (r : Nat) (level : Nat) (s : State) (hs : s.part.outside true = false) (hc : (Instr.wf (.wiltDrop r level) && s.part.wiltFalls r level) = true) :
    exec (.wiltDrop r level) s = .next (s.settle (s.part.wiltDrop r)) :=
  State.run_next s hs (can := fun _ p => Instr.wf (.wiltDrop r level) && p.wiltFalls r level) (eff := fun _ p => p.wiltDrop r) hc

theorem next_dmcNbrKWrite (w : Who) (k : Nat) (s : State) (hs : s.part.outside true = false) (hc : (Instr.wf (.dmcNbrKWrite w k) && s.part.issues w) = true) :
    exec (.dmcNbrKWrite w k) s = .next (s.settle (s.part.writeOf s.ns w R.DMC_CTRL ((s.part.reg R.DMC_CTRL).withBits 7 4 k))) :=
  State.run_next s hs (can := fun _ p => Instr.wf (.dmcNbrKWrite w k) && p.issues w) (eff := fun t p => p.writeOf t w R.DMC_CTRL ((p.reg R.DMC_CTRL).withBits 7 4 k)) hc

theorem next_submit (c : Nat) (addr : Nat) (n : Nat) (s : State) (hs : s.part.outside true = false) (hc : (Instr.wf (.submit c addr n) && s.part.calls c) = true) :
    exec (.submit c addr n) s = .next (s.settle (s.part.callSubmit s.ns c addr n)) :=
  State.run_next s hs (can := fun _ p => Instr.wf (.submit c addr n) && p.calls c) (eff := fun t p => p.callSubmit t c addr n) hc

theorem next_activationStart (c : Nat) (s : State) (hs : s.part.outside true = false) (hc : (Instr.wf (.activationStart c) && s.part.canDispatch 2 c) = true) :
    exec (.activationStart c) s = .next (s.settle (s.part.actStart s.ns c)) :=
  State.run_next s hs (can := fun _ p => Instr.wf (.activationStart c) && p.canDispatch 2 c) (eff := fun t p => p.actStart t c) hc

theorem next_exit (c : Nat) (status : Nat) (s : State) (hs : s.part.outside true = false) (hc : (Instr.wf (.exit c status) && s.part.calls c) = true) :
    exec (.exit c status) s = .next (s.settle (s.part.runnerExit s.ns c status)) :=
  State.run_next s hs (can := fun _ p => Instr.wf (.exit c status) && p.calls c) (eff := fun t p => p.runnerExit t c status) hc

theorem next_wait (c : Nat) (mask : Nat) (s : State) (hs : s.part.outside true = false) (hc : (Instr.wf (.wait c mask) && s.part.calls c) = true) :
    exec (.wait c mask) s = .next (s.settle (s.part.runnerWait s.ns c mask)) :=
  State.run_next s hs (can := fun _ p => Instr.wf (.wait c mask) && p.calls c) (eff := fun t p => p.runnerWait t c mask) hc

theorem next_jobInput (c : Nat) (buf : Nat) (s : State) (hs : s.part.outside true = false) (hc : (Instr.wf (.jobInput c buf) && s.part.calls c) = true) :
    exec (.jobInput c buf) s = .next (s.settle (s.part.callJobInput c buf)) :=
  State.run_next s hs (can := fun _ p => Instr.wf (.jobInput c buf) && p.calls c) (eff := fun _ p => p.callJobInput c buf) hc

theorem next_steer (c : Nat) (pipe : Nat) (addr : Nat) (count : Nat) (s : State) (hs : s.part.outside true = false) (hc : (Instr.wf (.steer c pipe addr count) && s.part.calls c) = true) :
    exec (.steer c pipe addr count) s = .next (s.settle (s.part.callSteer c pipe addr count)) :=
  State.run_next s hs (can := fun _ p => Instr.wf (.steer c pipe addr count) && p.calls c) (eff := fun _ p => p.callSteer c pipe addr count) hc

theorem next_steerSeq (c : Nat) (pipe : Nat) (s : State) (hs : s.part.outside true = false) (hc : (Instr.wf (.steerSeq c pipe) && s.part.calls c) = true) :
    exec (.steerSeq c pipe) s = .next (s.settle (s.part.callSteerSeq c pipe)) :=
  State.run_next s hs (can := fun _ p => Instr.wf (.steerSeq c pipe) && p.calls c) (eff := fun _ p => p.callSteerSeq c pipe) hc

theorem next_modelLoad (c : Nat) (m : Nat) (s : State) (hs : s.part.outside true = false) (hc : (Instr.wf (.modelLoad c m) && s.part.calls c) = true) :
    exec (.modelLoad c m) s = .next (s.settle (s.part.modelCall c m (s.part.callLoad s.ns (s.part.caller c) m))) :=
  State.run_next s hs (can := fun _ p => Instr.wf (.modelLoad c m) && p.calls c) (eff := fun t p => p.modelCall c m (p.callLoad t (p.caller c) m)) hc

theorem next_modelUnload (c : Nat) (m : Nat) (s : State) (hs : s.part.outside true = false) (hc : (Instr.wf (.modelUnload c m) && s.part.calls c) = true) :
    exec (.modelUnload c m) s = .next (s.settle (s.part.modelCall c m (s.part.callUnload m))) :=
  State.run_next s hs (can := fun _ p => Instr.wf (.modelUnload c m) && p.calls c) (eff := fun _ p => p.modelCall c m (p.callUnload m)) hc

theorem next_modelGraft (c : Nat) (m : Nat) (s : State) (hs : s.part.outside true = false) (hc : (Instr.wf (.modelGraft c m) && s.part.calls c) = true) :
    exec (.modelGraft c m) s = .next (s.settle (s.part.modelCall c m (s.part.callGraft s.ns m))) :=
  State.run_next s hs (can := fun _ p => Instr.wf (.modelGraft c m) && p.calls c) (eff := fun t p => p.modelCall c m (p.callGraft t m)) hc

theorem next_modelState (c : Nat) (m : Nat) (s : State) (hs : s.part.outside true = false) (hc : (Instr.wf (.modelState c m) && s.part.calls c) = true) :
    exec (.modelState c m) s = .next (s.settle (s.part.callModelState c m)) :=
  State.run_next s hs (can := fun _ p => Instr.wf (.modelState c m) && p.calls c) (eff := fun _ p => p.callModelState c m) hc

theorem next_trlReserve (c : Nat) (port : Nat) (credits : Nat) (s : State) (hs : s.part.outside true = false) (hc : (Instr.wf (.trlReserve c port credits) && s.part.calls c) = true) :
    exec (.trlReserve c port credits) s = .next (s.settle (callRet c (s.part.trlReserve (s.part.caller c) c port credits))) :=
  State.run_next s hs (can := fun _ p => Instr.wf (.trlReserve c port credits) && p.calls c) (eff := fun _ p => callRet c (p.trlReserve (p.caller c) c port credits)) hc

theorem next_trlRelease (c : Nat) (port : Nat) (s : State) (hs : s.part.outside true = false) (hc : (Instr.wf (.trlRelease c port) && s.part.calls c) = true) :
    exec (.trlRelease c port) s = .next (s.settle (callRet c (s.part.trlRelease c port))) :=
  State.run_next s hs (can := fun _ p => Instr.wf (.trlRelease c port) && p.calls c) (eff := fun _ p => callRet c (p.trlRelease c port)) hc

theorem next_fwdSet (c : Nat) (e : Nat) (stream : Nat) (v : Nat) (s : State) (hs : s.part.outside true = false) (hc : (Instr.wf (.fwdSet c e stream v) && s.part.calls c) = true) :
    exec (.fwdSet c e stream v) s = .next (s.settle (callRet c (s.part.fwdSet (s.part.caller c) e stream v))) :=
  State.run_next s hs (can := fun _ p => Instr.wf (.fwdSet c e stream v) && p.calls c) (eff := fun _ p => callRet c (p.fwdSet (p.caller c) e stream v)) hc

theorem next_cfwdSet (c : Nat) (on : Nat) (node : Nat) (s : State) (hs : s.part.outside true = false) (hc : (Instr.wf (.cfwdSet c on node) && s.part.calls c) = true) :
    exec (.cfwdSet c on node) s = .next (s.settle (callRet c (s.part.cfwdSet (s.part.caller c) on node))) :=
  State.run_next s hs (can := fun _ p => Instr.wf (.cfwdSet c on node) && p.calls c) (eff := fun _ p => callRet c (p.cfwdSet (p.caller c) on node)) hc

theorem next_time (c : Nat) (s : State) (hs : s.part.outside true = false) (hc : (Instr.wf (.time c) && s.part.calls c) = true) :
    exec (.time c) s = .next (s.settle (s.part.callTime s.ns c)) :=
  State.run_next s hs (can := fun _ p => Instr.wf (.time c) && p.calls c) (eff := fun t p => p.callTime t c) hc

theorem next_runnerTrap (c : Nat) (sub : Nat) (s : State) (hs : s.part.outside true = false) (hc : (Instr.wf (.runnerTrap c sub) && s.part.calls c) = true) :
    exec (.runnerTrap c sub) s = .next (s.settle (s.part.runnerTrap c sub)) :=
  State.run_next s hs (can := fun _ p => Instr.wf (.runnerTrap c sub) && p.calls c) (eff := fun _ p => p.runnerTrap c sub) hc

theorem next_trackerRun (onBed : Bool) (n : Nat) (s : State) (hs : s.part.outside true = false) (hc : (Instr.wf (.trackerRun onBed n) && s.part.live && s.part.trackerHere onBed n) = true) :
    exec (.trackerRun onBed n) s = .next (s.settle (s.part.trackerStep s.ns onBed n)) :=
  State.run_next s hs (can := fun _ p => Instr.wf (.trackerRun onBed n) && p.live && p.trackerHere onBed n) (eff := fun t p => p.trackerStep t onBed n) hc

theorem next_crateWaitExpiry (plot : Nat) (s : State) (hs : s.part.outside true = false) (hc : (Instr.wf (.crateWaitExpiry plot) && s.part.live && s.part.waitOver s.ns plot) = true) :
    exec (.crateWaitExpiry plot) s = .next (s.settle (s.part.closeCrate plot 1)) :=
  State.run_next s hs (can := fun t p => Instr.wf (.crateWaitExpiry plot) && p.live && p.waitOver t plot) (eff := fun _ p => p.closeCrate plot 1) hc

theorem next_hvsPWaitWrite (w : Who) (plot : Nat) (us : Word) (s : State) (hs : s.part.outside true = false) (hc : (Instr.wf (.hvsPWaitWrite w plot us) && s.part.issues w) = true) :
    exec (.hvsPWaitWrite w plot us) s = .next (s.settle (s.part.writeOf s.ns w (R.HVS_P_WAIT plot) us)) :=
  State.run_next s hs (can := fun _ p => Instr.wf (.hvsPWaitWrite w plot us) && p.issues w) (eff := fun t p => p.writeOf t w (R.HVS_P_WAIT plot) us) hc

theorem next_crateSealed (plot : Nat) (s : State) (hs : s.part.outside true = false) (hc : (Instr.wf (.crateSealed plot) && s.part.live && !(s.part.hv plot).closed.isEmpty) = true) :
    exec (.crateSealed plot) s = .next (s.settle (s.part.sealNext s.ns plot)) :=
  State.run_next s hs (can := fun _ p => Instr.wf (.crateSealed plot) && p.live && !(p.hv plot).closed.isEmpty) (eff := fun t p => p.sealNext t plot) hc

theorem next_msiHoldoffExpiry (ring : Nat) (s : State) (hs : s.part.outside true = false) (hc : (Instr.wf (.msiHoldoffExpiry ring) && s.part.live && s.part.holdoffOver s.ns ring) = true) :
    exec (.msiHoldoffExpiry ring) s = .next (s.settle (s.part.holdoffMsi s.ns ring)) :=
  State.run_next s hs (can := fun t p => Instr.wf (.msiHoldoffExpiry ring) && p.live && p.holdoffOver t ring) (eff := fun t p => p.holdoffMsi t ring) hc

theorem next_hrCtrlEn (ring : Nat) (en : Bool) (irq : Bool) (s : State) (hs : s.part.outside true = false) (hc : (Instr.wf (.hrCtrlEn ring en irq) && s.part.hostUp) = true) :
    exec (.hrCtrlEn ring en irq) s = .next (s.settle (s.part.writeOf s.ns hostWho (R.HR_CTRL ring) (BitVec.ofNat 32 (en.toNat + 2 * irq.toNat)))) :=
  State.run_next s hs (can := fun _ p => Instr.wf (.hrCtrlEn ring en irq) && p.hostUp) (eff := fun t p => p.writeOf t hostWho (R.HR_CTRL ring) (BitVec.ofNat 32 (en.toNat + 2 * irq.toNat))) hc

theorem next_hrConsWrite (ring : Nat) (v : Word) (s : State) (hs : s.part.outside true = false) (hc : (Instr.wf (.hrConsWrite ring v) && s.part.hostUp) = true) :
    exec (.hrConsWrite ring v) s = .next (s.settle (s.part.writeOf s.ns hostWho (R.HR_CONS ring) v)) :=
  State.run_next s hs (can := fun _ p => Instr.wf (.hrConsWrite ring v) && p.hostUp) (eff := fun t p => p.writeOf t hostWho (R.HR_CONS ring) v) hc

theorem next_cellarWriteIssue (plot : Nat) (s : State) (hs : s.part.outside true = false) (hc : (Instr.wf (.cellarWriteIssue plot) && s.part.live && s.part.cellarReady plot) = true) :
    exec (.cellarWriteIssue plot) s = .next (s.settle (s.part.cellarWrite s.ns plot)) :=
  State.run_next s hs (can := fun _ p => Instr.wf (.cellarWriteIssue plot) && p.live && p.cellarReady plot) (eff := fun t p => p.cellarWrite t plot) hc

theorem next_cellarWriteComplete (plot : Nat) (s : State) (hs : s.part.outside true = false) (hc : (Instr.wf (.cellarWriteComplete plot) && s.part.live && s.part.cellarBusy plot) = true) :
    exec (.cellarWriteComplete plot) s = .next (s.settle (s.part.cellarDone plot)) :=
  State.run_next s hs (can := fun _ p => Instr.wf (.cellarWriteComplete plot) && p.live && p.cellarBusy plot) (eff := fun _ p => p.cellarDone plot) hc

theorem next_replayGo (w : Who) (plot : Nat) (udp : Bool) (s : State) (hs : s.part.outside true = false) (hc : (Instr.wf (.replayGo w plot udp) && s.part.issues w) = true) :
    exec (.replayGo w plot udp) s = .next (s.settle (s.part.writeOf s.ns w (if udp then R.HVS_P_REPLAY_CTRL plot else R.HR_REPLAY_CTRL plot) 1)) :=
  State.run_next s hs (can := fun _ p => Instr.wf (.replayGo w plot udp) && p.issues w) (eff := fun t p => p.writeOf t w (if udp then R.HVS_P_REPLAY_CTRL plot else R.HR_REPLAY_CTRL plot) 1) hc

theorem next_replayCrateRead (plot : Nat) (udp : Bool) (crate : List Byte) (s : State) (hs : s.part.outside true = false) (hc : (Instr.wf (.replayCrateRead plot udp crate) && s.part.live && ((s.part.hv plot).replay udp).isSome && crate.length == 4096) = true) :
    exec (.replayCrateRead plot udp crate) s = .next (s.settle (s.part.replayCrate s.ns plot udp crate)) :=
  State.run_next s hs (can := fun _ p => Instr.wf (.replayCrateRead plot udp crate) && p.live && ((p.hv plot).replay udp).isSome && crate.length == 4096) (eff := fun t p => p.replayCrate t plot udp crate) hc

theorem next_trlPEnWrite (w : Who) (k : Nat) (on : Bool) (s : State) (hs : s.part.outside true = false) (hc : (Instr.wf (.trlPEnWrite w k on) && s.part.issues w) = true) :
    exec (.trlPEnWrite w k on) s = .next (s.settle (s.part.writeOf s.ns w (R.TRL_P_CTRL k) (BitVec.ofNat 32 on.toNat))) :=
  State.run_next s hs (can := fun _ p => Instr.wf (.trlPEnWrite w k on) && p.issues w) (eff := fun t p => p.writeOf t w (R.TRL_P_CTRL k) (BitVec.ofNat 32 on.toNat)) hc

theorem next_trlPRetrain (w : Who) (k : Nat) (s : State) (hs : s.part.outside true = false) (hc : (Instr.wf (.trlPRetrain w k) && s.part.issues w) = true) :
    exec (.trlPRetrain w k) s = .next (s.settle (s.part.writeOf s.ns w (R.TRL_P_CTRL k) ((s.part.reg (R.TRL_P_CTRL k)).withBits 1 1 1))) :=
  State.run_next s hs (can := fun _ p => Instr.wf (.trlPRetrain w k) && p.issues w) (eff := fun t p => p.writeOf t w (R.TRL_P_CTRL k) ((p.reg (R.TRL_P_CTRL k)).withBits 1 1 1)) hc

theorem next_trainingComplete (k : Nat) (node : Nat) (ring : Nat) (port : Nat) (order : Nat) (s : State) (hs : s.part.outside true = false) (hc : (Instr.wf (.trainingComplete k node ring port order) && (s.part.live && (s.part.trlState k == 1 || s.part.trlState k == 3))) = true) :
    exec (.trainingComplete k node ring port order) s = .next (s.settle (s.part.trainDone k node ring port order)) :=
  State.run_next s hs (can := fun _ p => Instr.wf (.trainingComplete k node ring port order) && (p.live && (p.trlState k == 1 || p.trlState k == 3))) (eff := fun _ p => p.trainDone k node ring port order) hc

theorem next_trainingTimeout (k : Nat) (s : State) (hs : s.part.outside true = false) (hc : (Instr.wf (.trainingTimeout k) && (s.part.live && (s.part.trlState k == 1 || s.part.trlState k == 3))) = true) :
    exec (.trainingTimeout k) s = .next (s.settle (s.part.trainTimeout k)) :=
  State.run_next s hs (can := fun _ p => Instr.wf (.trainingTimeout k) && (p.live && (p.trlState k == 1 || p.trlState k == 3))) (eff := fun _ p => p.trainTimeout k) hc

theorem next_downHoldoffExpiry (k : Nat) (s : State) (hs : s.part.outside true = false) (hc : (Instr.wf (.downHoldoffExpiry k) && s.part.live && s.part.trlState k == 4 && s.part.on (F.TRL_P_CTRL_EN k)) = true) :
    exec (.downHoldoffExpiry k) s = .next (s.settle (s.part.setTrlState k 1)) :=
  State.run_next s hs (can := fun _ p => Instr.wf (.downHoldoffExpiry k) && p.live && p.trlState k == 4 && p.on (F.TRL_P_CTRL_EN k)) (eff := fun _ p => p.setTrlState k 1) hc

theorem next_flitRx (k : Nat) (flit : List Byte) (s : State) (hs : s.part.outside true = false) (hc : (Instr.wf (.flitRx k flit) && s.part.live && s.part.trlState k == 2 && flit.length == 64) = true) :
    exec (.flitRx k flit) s = .next (s.settle (s.part.flitRx s.ns k flit)) :=
  State.run_next s hs (can := fun _ p => Instr.wf (.flitRx k flit) && p.live && p.trlState k == 2 && flit.length == 64) (eff := fun t p => p.flitRx t k flit) hc

theorem next_resendTimerExpiry (k : Nat) (s : State) (hs : s.part.outside true = false) (hc : (Instr.wf (.resendTimerExpiry k) && s.part.live && s.part.trlState k == 2 && !(s.part.tport k).held.isEmpty) = true) :
    exec (.resendTimerExpiry k) s = .next (s.settle (s.part.resendTimer k)) :=
  State.run_next s hs (can := fun _ p => Instr.wf (.resendTimerExpiry k) && p.live && p.trlState k == 2 && !(p.tport k).held.isEmpty) (eff := fun _ p => p.resendTimer k) hc

theorem next_creditTimeout (k : Nat) (vc : Nat) (s : State) (hs : s.part.outside true = false) (hc : (Instr.wf (.creditTimeout k vc) && s.part.live && s.part.vcStalled k vc) = true) :
    exec (.creditTimeout k vc) s = .next (s.settle (s.part.creditStall k vc)) :=
  State.run_next s hs (can := fun _ p => Instr.wf (.creditTimeout k vc) && p.live && p.vcStalled k vc) (eff := fun _ p => p.creditStall k vc) hc

theorem next_credResyncResend (k : Nat) (s : State) (hs : s.part.outside true = false) (hc : (Instr.wf (.credResyncResend k) && s.part.live && s.part.trlState k == 2 && (s.part.tport k).awaiting) = true) :
    exec (.credResyncResend k) s = .next (s.settle (s.part.sendResync k)) :=
  State.run_next s hs (can := fun _ p => Instr.wf (.credResyncResend k) && p.live && p.trlState k == 2 && (p.tport k).awaiting) (eff := fun _ p => p.sendResync k) hc

theorem next_trellisBlockLockLoss (k : Nat) (lane : Nat) (s : State) (hs : s.part.outside true = false) (hc : (Instr.wf (.trellisBlockLockLoss k lane) && s.part.live && s.part.trlState k == 2) = true) :
    exec (.trellisBlockLockLoss k lane) s = .next (s.settle (s.part.blockLockLost k lane)) :=
  State.run_next s hs (can := fun _ p => Instr.wf (.trellisBlockLockLoss k lane) && p.live && p.trlState k == 2) (eff := fun _ p => p.blockLockLost k lane) hc

theorem next_flitTx (k : Nat) (s : State) (hs : s.part.outside true = false) (hc : (Instr.wf (.flitTx k) && s.part.live && s.part.trlState k == 2) = true) :
    exec (.flitTx k) s = .next (s.settle (s.part.flitTx s.ns k)) :=
  State.run_next s hs (can := fun _ p => Instr.wf (.flitTx k) && p.live && p.trlState k == 2) (eff := fun t p => p.flitTx t k) hc

theorem next_pwrReqDormancy (w : Who) (s : State) (hs : s.part.outside true = false) (hc : (s.part.issues w) = true) :
    exec (.pwrReqDormancy w) s = .next (s.settle (s.part.writeOf s.ns w R.PWR_CTRL 1)) :=
  State.run_next s hs (can := fun _ p => p.issues w) (eff := fun t p => p.writeOf t w R.PWR_CTRL 1) hc

theorem next_dormancyGated (s : State) (hs : s.part.outside true = false) (hc : (s.part.live && s.part.dormIdle) = true) :
    exec .dormancyGated s = .next (s.settle (s.part.dormGate)) :=
  State.run_next s hs (can := fun _ p => p.live && p.dormIdle) (eff := fun _ p => p.dormGate) hc

theorem next_pwrReqRun (w : Who) (s : State) (hs : s.part.outside true = false) (hc : (s.part.issues w) = true) :
    exec (.pwrReqRun w) s = .next (s.settle (s.part.writeOf s.ns w R.PWR_CTRL 3)) :=
  State.run_next s hs (can := fun _ p => p.issues w) (eff := fun t p => p.writeOf t w R.PWR_CTRL 3) hc

theorem next_dormancyExitPowered (s : State) (hs : s.part.outside true = false) (hc : (s.part.live && s.part.power == 3 && !s.part.pwr.stepDone) = true) :
    exec .dormancyExitPowered s = .next (s.settle (s.part.dormPower)) :=
  State.run_next s hs (can := fun _ p => p.live && p.power == 3 && !p.pwr.stepDone) (eff := fun _ p => p.dormPower) hc

theorem next_pwrReqFrost (w : Who) (s : State) (hs : s.part.outside true = false) (hc : (s.part.issues w) = true) :
    exec (.pwrReqFrost w) s = .next (s.settle (s.part.writeOf s.ns w R.PWR_CTRL 2)) :=
  State.run_next s hs (can := fun _ p => p.issues w) (eff := fun t p => p.writeOf t w R.PWR_CTRL 2) hc

theorem next_frostDrainDone (s : State) (hs : s.part.outside true = false) (hc : (s.part.frostReady s.ns) = true) :
    exec .frostDrainDone s = .next (s.settle (s.part.frostDone s.ns)) :=
  State.run_next s hs (can := fun t p => p.frostReady t) (eff := fun t p => p.frostDone t) hc

theorem next_wakeSourceFire (src : Nat) (rising : Bool) (s : State) (hs : s.part.outside false = false) (hc : (Instr.wf (.wakeSourceFire src rising) && s.part.wakeFires s.ns src rising) = true) :
    exec (.wakeSourceFire src rising) s = .next (s.settle (s.part.wake s.ns src rising)) :=
  State.runAon_next s hs (can := fun t p => Instr.wf (.wakeSourceFire src rising) && p.wakeFires t src rising) (eff := fun t p => p.wake t src rising) hc

theorem next_frostExitReady (s : State) (hs : s.part.outside true = false) (hc : (s.part.exitReady) = true) :
    exec .frostExitReady s = .next (s.settle (s.part.exitPlace)) :=
  State.run_next s hs (can := fun _ p => p.exitReady) (eff := fun _ p => p.exitPlace) hc

theorem next_aonOscillatorRunning (s : State) (hs : s.part.outside false = false) (hc : (!s.part.pins.aonRunning) = true) :
    exec .aonOscillatorRunning s = .next (s.settle (s.part.aonStarts)) :=
  State.runAon_next s hs (can := fun _ p => !p.pins.aonRunning) (eff := fun _ p => p.aonStarts) hc

theorem next_nvmeCompletion (completion : Bool) (slot : Nat) (gen : Nat) (s : State) (hs : s.part.outside true = false) (hc : (Instr.wf (.nvmeCompletion completion slot gen) && s.part.on F.PRP_LINK_UP) = true) :
    exec (.nvmeCompletion completion slot gen) s = .next (s.settle (s.part.nvArrive s.ns completion slot gen)) :=
  State.run_next s hs (can := fun _ p => Instr.wf (.nvmeCompletion completion slot gen) && p.on F.PRP_LINK_UP) (eff := fun t p => p.nvArrive t completion slot gen) hc

theorem next_nvmeCommandTimeout (slot : Nat) (ok : Bool) (s : State) (hs : s.part.outside true = false) (hc : (Instr.wf (.nvmeCommandTimeout slot ok) && s.part.nvTimedOut s.ns slot) = true) :
    exec (.nvmeCommandTimeout slot ok) s = .next (s.settle (s.part.nvTimeout s.ns slot ok)) :=
  State.run_next s hs (can := fun t p => Instr.wf (.nvmeCommandTimeout slot ok) && p.nvTimedOut t slot) (eff := fun t p => p.nvTimeout t slot ok) hc

theorem next_modelLoadTimeout (k : Nat) (s : State) (hs : s.part.outside true = false) (hc : (Instr.wf (.modelLoadTimeout k) && s.part.loadTimedOut s.ns k) = true) :
    exec (.modelLoadTimeout k) s = .next (s.settle (s.part.loadTimeout s.ns k)) :=
  State.run_next s hs (can := fun t p => Instr.wf (.modelLoadTimeout k) && p.loadTimedOut t k) (eff := fun t p => p.loadTimeout t k) hc

theorem next_watchdogExpiry (served : Bool) (s : State) (hs : s.part.outside true = false) (hc : (s.part.wdogDue) = true) :
    exec (.watchdogExpiry served) s = .next (s.settle (s.part.wdogStage1 s.ns served)) :=
  State.run_next s hs (can := fun _ p => p.wdogDue) (eff := fun t p => p.wdogStage1 t served) hc

theorem next_watchdogStage2 (env : BootEnv) (s : State) (hs : s.part.outside true = false) (hc : (s.part.stage2Due) = true) :
    exec (.watchdogStage2 env) s = .next (s.settle (s.part.wdogStage2 s.ns env)) :=
  State.run_next s hs (can := fun _ p => p.stage2Due) (eff := fun t p => p.wdogStage2 t env) hc

theorem next_shedException (served : Bool) (s : State) (hs : s.part.outside true = false) (hc : (s.part.shedUp) = true) :
    exec (.shedException served) s = .next (s.settle (s.part.wdogStage1 s.ns served)) :=
  State.run_next s hs (can := fun _ p => p.shedUp) (eff := fun t p => p.wdogStage1 t served) hc

theorem next_thermtrip (s : State) (hc : (!s.part.pins.thermtrip) = true) :
    exec .thermtrip s = .next (s.settle (s.part.thermtrip)) :=
  State.runTrip_next s (can := fun _ p => !p.pins.thermtrip) (eff := fun _ p => p.thermtrip) hc

theorem next_tempHiChange (hot : Bool) (s : State) (hs : s.part.outside true = false) (hc : (s.part.boot.phase != .porHeld) = true) :
    exec (.tempHiChange hot) s = .next (s.settle (s.part.tempHi hot)) :=
  State.run_next s hs (can := fun _ p => p.boot.phase != .porHeld) (eff := fun _ p => p.tempHi hot) hc

theorem next_rootPortRecovery (s : State) (hs : s.part.outside true = false) (hc : (s.part.on F.PRP_LINK_UP) = true) :
    exec .rootPortRecovery s = .next (s.settle (s.part.rootRecovery)) :=
  State.run_next s hs (can := fun _ p => p.on F.PRP_LINK_UP) (eff := fun _ p => p.rootRecovery) hc

theorem next_jtagTapUpdate (op : TapOp) (s : State) (hs : s.part.pins.thermtrip = false) (hc : (true) = true) :
    exec (.jtagTapUpdate op) s = .next (s.settle (s.part.tap op)) :=
  State.runTap_next s hs (can := fun _ _ => true) (eff := fun _ p => p.tap op) hc

theorem next_bar0TlpRefused (read : Bool) (s : State) (hs : s.part.outside true = false) (hc : (s.part.hostUp) = true) :
    exec (.bar0TlpRefused read) s = .next (s.settle (s.part.shapeRefused read)) :=
  State.run_next s hs (can := fun _ p => p.hostUp) (eff := fun _ p => p.shapeRefused read) hc

theorem next_pcieLinkReset (s : State) (hs : s.part.outside true = false) (hc : (s.part.hostUp) = true) :
    exec .pcieLinkReset s = .next (s.settle (s.part.epReset)) :=
  State.run_next s hs (can := fun _ p => p.hostUp) (eff := fun _ p => p.epReset) hc

theorem next_registerWrite (w : Who) (ctx : Nat) (addr : Nat) (bytes : Nat) (v : Word) (s : State) (hs : s.part.outside true = false) (hc : (Instr.wf (.registerWrite w ctx addr bytes v) && s.part.issues w) = true) :
    exec (.registerWrite w ctx addr bytes v) s = .next (s.settle (s.part.registerWrite s.ns w ctx addr bytes v)) :=
  State.run_next s hs (can := fun _ p => Instr.wf (.registerWrite w ctx addr bytes v) && p.issues w) (eff := fun t p => p.registerWrite t w ctx addr bytes v) hc

theorem next_registerRead (w : Who) (addr : Nat) (bytes : Nat) (s : State) (hs : s.part.outside true = false) (hc : (Instr.wf (.registerRead w addr bytes) && s.part.issues w) = true) :
    exec (.registerRead w addr bytes) s = .next (s.settle (s.part.registerRead s.ns w addr bytes)) :=
  State.run_next s hs (can := fun _ p => Instr.wf (.registerRead w addr bytes) && p.issues w) (eff := fun t p => p.registerRead t w addr bytes) hc

end Sys2Proof.Machine
end

