-- ==== Sys2Proof/Laws/State.lean ====
section
/-! SUPPORT. What each named update of the part leaves: one lemma for each field that the update does not touch, and one for the
registers and bytes that it leaves readable as before. -/

namespace Sys2Proof.Machine

/-! setReg -/

@[simp] theorem Part.setReg_mem (p : Part) (a : Nat) (v : Word) : (p.setReg a v).mem = p.mem := rfl
@[simp] theorem Part.setReg_nor (p : Part) (a : Nat) (v : Word) : (p.setReg a v).nor = p.nor := rfl
@[simp] theorem Part.setReg_pins (p : Part) (a : Nat) (v : Word) : (p.setReg a v).pins = p.pins := rfl
@[simp] theorem Part.setReg_sdl (p : Part) (a : Nat) (v : Word) : (p.setReg a v).sdl = p.sdl := rfl
@[simp] theorem Part.setReg_boot (p : Part) (a : Nat) (v : Word) : (p.setReg a v).boot = p.boot := rfl
@[simp] theorem Part.setReg_plots (p : Part) (a : Nat) (v : Word) : (p.setReg a v).plots = p.plots := rfl
@[simp] theorem Part.setReg_hvs (p : Part) (a : Nat) (v : Word) : (p.setReg a v).hvs = p.hvs := rfl
@[simp] theorem Part.setReg_nvme (p : Part) (a : Nat) (v : Word) : (p.setReg a v).nvme = p.nvme := rfl
@[simp] theorem Part.setReg_wdog (p : Part) (a : Nat) (v : Word) : (p.setReg a v).wdog = p.wdog := rfl
@[simp] theorem Part.setReg_pwr (p : Part) (a : Nat) (v : Word) : (p.setReg a v).pwr = p.pwr := rfl
@[simp] theorem Part.setReg_rules (p : Part) (a : Nat) (v : Word) : (p.setReg a v).rules = p.rules := rfl
@[simp] theorem Part.setReg_key (p : Part) (a : Nat) (v : Word) : (p.setReg a v).key = p.key := rfl
@[simp] theorem Part.setReg_eth (p : Part) (a : Nat) (v : Word) : (p.setReg a v).eth = p.eth := rfl
@[simp] theorem Part.setReg_itk (p : Part) (a : Nat) (v : Word) : (p.setReg a v).itk = p.itk := rfl
@[simp] theorem Part.setReg_sets (p : Part) (a : Nat) (v : Word) : (p.setReg a v).sets = p.sets := rfl
@[simp] theorem Part.setReg_vdc (p : Part) (a : Nat) (v : Word) : (p.setReg a v).vdc = p.vdc := rfl
@[simp] theorem Part.setReg_prn (p : Part) (a : Nat) (v : Word) : (p.setReg a v).prn = p.prn := rfl
@[simp] theorem Part.setReg_jobs (p : Part) (a : Nat) (v : Word) : (p.setReg a v).jobs = p.jobs := rfl
@[simp] theorem Part.setReg_beds (p : Part) (a : Nat) (v : Word) : (p.setReg a v).beds = p.beds := rfl
@[simp] theorem Part.setReg_apc (p : Part) (a : Nat) (v : Word) : (p.setReg a v).apc = p.apc := rfl
@[simp] theorem Part.setReg_models (p : Part) (a : Nat) (v : Word) : (p.setReg a v).models = p.models := rfl
@[simp] theorem Part.setReg_brw (p : Part) (a : Nat) (v : Word) : (p.setReg a v).brw = p.brw := rfl
@[simp] theorem Part.setReg_dmc (p : Part) (a : Nat) (v : Word) : (p.setReg a v).dmc = p.dmc := rfl
@[simp] theorem Part.setReg_trl (p : Part) (a : Nat) (v : Word) : (p.setReg a v).trl = p.trl := rfl
@[simp] theorem Part.setReg_mtr (p : Part) (a : Nat) (v : Word) : (p.setReg a v).mtr = p.mtr := rfl
@[simp] theorem Part.setReg_out (p : Part) (a : Nat) (v : Word) : (p.setReg a v).out = p.out := rfl
@[simp] theorem Part.setReg_free (p : Part) (a : Nat) (v : Word) : (p.setReg a v).free = p.free := rfl
@[simp] theorem Part.setReg_byte (p : Part) (a : Nat) (v : Word) (x : Nat) : (p.setReg a v).byte x = p.byte x := rfl
@[simp] theorem Part.setReg_norByte (p : Part) (a : Nat) (v : Word) (x : Nat) : (p.setReg a v).norByte x = p.norByte x := rfl

/-! put -/

@[simp] theorem Part.put_mem (p : Part) (f : Fld) (n : Nat) : (p.put f n).mem = p.mem := rfl
@[simp] theorem Part.put_nor (p : Part) (f : Fld) (n : Nat) : (p.put f n).nor = p.nor := rfl
@[simp] theorem Part.put_pins (p : Part) (f : Fld) (n : Nat) : (p.put f n).pins = p.pins := rfl
@[simp] theorem Part.put_sdl (p : Part) (f : Fld) (n : Nat) : (p.put f n).sdl = p.sdl := rfl
@[simp] theorem Part.put_boot (p : Part) (f : Fld) (n : Nat) : (p.put f n).boot = p.boot := rfl
@[simp] theorem Part.put_plots (p : Part) (f : Fld) (n : Nat) : (p.put f n).plots = p.plots := rfl
@[simp] theorem Part.put_hvs (p : Part) (f : Fld) (n : Nat) : (p.put f n).hvs = p.hvs := rfl
@[simp] theorem Part.put_nvme (p : Part) (f : Fld) (n : Nat) : (p.put f n).nvme = p.nvme := rfl
@[simp] theorem Part.put_wdog (p : Part) (f : Fld) (n : Nat) : (p.put f n).wdog = p.wdog := rfl
@[simp] theorem Part.put_pwr (p : Part) (f : Fld) (n : Nat) : (p.put f n).pwr = p.pwr := rfl
@[simp] theorem Part.put_rules (p : Part) (f : Fld) (n : Nat) : (p.put f n).rules = p.rules := rfl
@[simp] theorem Part.put_key (p : Part) (f : Fld) (n : Nat) : (p.put f n).key = p.key := rfl
@[simp] theorem Part.put_eth (p : Part) (f : Fld) (n : Nat) : (p.put f n).eth = p.eth := rfl
@[simp] theorem Part.put_itk (p : Part) (f : Fld) (n : Nat) : (p.put f n).itk = p.itk := rfl
@[simp] theorem Part.put_sets (p : Part) (f : Fld) (n : Nat) : (p.put f n).sets = p.sets := rfl
@[simp] theorem Part.put_vdc (p : Part) (f : Fld) (n : Nat) : (p.put f n).vdc = p.vdc := rfl
@[simp] theorem Part.put_prn (p : Part) (f : Fld) (n : Nat) : (p.put f n).prn = p.prn := rfl
@[simp] theorem Part.put_jobs (p : Part) (f : Fld) (n : Nat) : (p.put f n).jobs = p.jobs := rfl
@[simp] theorem Part.put_beds (p : Part) (f : Fld) (n : Nat) : (p.put f n).beds = p.beds := rfl
@[simp] theorem Part.put_apc (p : Part) (f : Fld) (n : Nat) : (p.put f n).apc = p.apc := rfl
@[simp] theorem Part.put_models (p : Part) (f : Fld) (n : Nat) : (p.put f n).models = p.models := rfl
@[simp] theorem Part.put_brw (p : Part) (f : Fld) (n : Nat) : (p.put f n).brw = p.brw := rfl
@[simp] theorem Part.put_dmc (p : Part) (f : Fld) (n : Nat) : (p.put f n).dmc = p.dmc := rfl
@[simp] theorem Part.put_trl (p : Part) (f : Fld) (n : Nat) : (p.put f n).trl = p.trl := rfl
@[simp] theorem Part.put_mtr (p : Part) (f : Fld) (n : Nat) : (p.put f n).mtr = p.mtr := rfl
@[simp] theorem Part.put_out (p : Part) (f : Fld) (n : Nat) : (p.put f n).out = p.out := rfl
@[simp] theorem Part.put_free (p : Part) (f : Fld) (n : Nat) : (p.put f n).free = p.free := rfl
@[simp] theorem Part.put_byte (p : Part) (f : Fld) (n : Nat) (x : Nat) : (p.put f n).byte x = p.byte x := rfl
@[simp] theorem Part.put_norByte (p : Part) (f : Fld) (n : Nat) (x : Nat) : (p.put f n).norByte x = p.norByte x := rfl

/-! resetRegs -/

@[simp] theorem Part.resetRegs_mem (p : Part) (sel : Nat → Bool) : (p.resetRegs sel).mem = p.mem := rfl
@[simp] theorem Part.resetRegs_nor (p : Part) (sel : Nat → Bool) : (p.resetRegs sel).nor = p.nor := rfl
@[simp] theorem Part.resetRegs_pins (p : Part) (sel : Nat → Bool) : (p.resetRegs sel).pins = p.pins := rfl
@[simp] theorem Part.resetRegs_sdl (p : Part) (sel : Nat → Bool) : (p.resetRegs sel).sdl = p.sdl := rfl
@[simp] theorem Part.resetRegs_boot (p : Part) (sel : Nat → Bool) : (p.resetRegs sel).boot = p.boot := rfl
@[simp] theorem Part.resetRegs_plots (p : Part) (sel : Nat → Bool) : (p.resetRegs sel).plots = p.plots := rfl
@[simp] theorem Part.resetRegs_hvs (p : Part) (sel : Nat → Bool) : (p.resetRegs sel).hvs = p.hvs := rfl
@[simp] theorem Part.resetRegs_nvme (p : Part) (sel : Nat → Bool) : (p.resetRegs sel).nvme = p.nvme := rfl
@[simp] theorem Part.resetRegs_wdog (p : Part) (sel : Nat → Bool) : (p.resetRegs sel).wdog = p.wdog := rfl
@[simp] theorem Part.resetRegs_pwr (p : Part) (sel : Nat → Bool) : (p.resetRegs sel).pwr = p.pwr := rfl
@[simp] theorem Part.resetRegs_rules (p : Part) (sel : Nat → Bool) : (p.resetRegs sel).rules = p.rules := rfl
@[simp] theorem Part.resetRegs_key (p : Part) (sel : Nat → Bool) : (p.resetRegs sel).key = p.key := rfl
@[simp] theorem Part.resetRegs_eth (p : Part) (sel : Nat → Bool) : (p.resetRegs sel).eth = p.eth := rfl
@[simp] theorem Part.resetRegs_itk (p : Part) (sel : Nat → Bool) : (p.resetRegs sel).itk = p.itk := rfl
@[simp] theorem Part.resetRegs_sets (p : Part) (sel : Nat → Bool) : (p.resetRegs sel).sets = p.sets := rfl
@[simp] theorem Part.resetRegs_vdc (p : Part) (sel : Nat → Bool) : (p.resetRegs sel).vdc = p.vdc := rfl
@[simp] theorem Part.resetRegs_prn (p : Part) (sel : Nat → Bool) : (p.resetRegs sel).prn = p.prn := rfl
@[simp] theorem Part.resetRegs_jobs (p : Part) (sel : Nat → Bool) : (p.resetRegs sel).jobs = p.jobs := rfl
@[simp] theorem Part.resetRegs_beds (p : Part) (sel : Nat → Bool) : (p.resetRegs sel).beds = p.beds := rfl
@[simp] theorem Part.resetRegs_apc (p : Part) (sel : Nat → Bool) : (p.resetRegs sel).apc = p.apc := rfl
@[simp] theorem Part.resetRegs_models (p : Part) (sel : Nat → Bool) : (p.resetRegs sel).models = p.models := rfl
@[simp] theorem Part.resetRegs_brw (p : Part) (sel : Nat → Bool) : (p.resetRegs sel).brw = p.brw := rfl
@[simp] theorem Part.resetRegs_dmc (p : Part) (sel : Nat → Bool) : (p.resetRegs sel).dmc = p.dmc := rfl
@[simp] theorem Part.resetRegs_trl (p : Part) (sel : Nat → Bool) : (p.resetRegs sel).trl = p.trl := rfl
@[simp] theorem Part.resetRegs_mtr (p : Part) (sel : Nat → Bool) : (p.resetRegs sel).mtr = p.mtr := rfl
@[simp] theorem Part.resetRegs_out (p : Part) (sel : Nat → Bool) : (p.resetRegs sel).out = p.out := rfl
@[simp] theorem Part.resetRegs_free (p : Part) (sel : Nat → Bool) : (p.resetRegs sel).free = p.free := rfl
@[simp] theorem Part.resetRegs_byte (p : Part) (sel : Nat → Bool) (x : Nat) : (p.resetRegs sel).byte x = p.byte x := rfl
@[simp] theorem Part.resetRegs_norByte (p : Part) (sel : Nat → Bool) (x : Nat) : (p.resetRegs sel).norByte x = p.norByte x := rfl

/-! setByte -/

@[simp] theorem Part.setByte_regs (p : Part) (a : Nat) (b : Byte) : (p.setByte a b).regs = p.regs := rfl
@[simp] theorem Part.setByte_nor (p : Part) (a : Nat) (b : Byte) : (p.setByte a b).nor = p.nor := rfl
@[simp] theorem Part.setByte_pins (p : Part) (a : Nat) (b : Byte) : (p.setByte a b).pins = p.pins := rfl
@[simp] theorem Part.setByte_sdl (p : Part) (a : Nat) (b : Byte) : (p.setByte a b).sdl = p.sdl := rfl
@[simp] theorem Part.setByte_boot (p : Part) (a : Nat) (b : Byte) : (p.setByte a b).boot = p.boot := rfl
@[simp] theorem Part.setByte_plots (p : Part) (a : Nat) (b : Byte) : (p.setByte a b).plots = p.plots := rfl
@[simp] theorem Part.setByte_hvs (p : Part) (a : Nat) (b : Byte) : (p.setByte a b).hvs = p.hvs := rfl
@[simp] theorem Part.setByte_nvme (p : Part) (a : Nat) (b : Byte) : (p.setByte a b).nvme = p.nvme := rfl
@[simp] theorem Part.setByte_wdog (p : Part) (a : Nat) (b : Byte) : (p.setByte a b).wdog = p.wdog := rfl
@[simp] theorem Part.setByte_pwr (p : Part) (a : Nat) (b : Byte) : (p.setByte a b).pwr = p.pwr := rfl
@[simp] theorem Part.setByte_rules (p : Part) (a : Nat) (b : Byte) : (p.setByte a b).rules = p.rules := rfl
@[simp] theorem Part.setByte_key (p : Part) (a : Nat) (b : Byte) : (p.setByte a b).key = p.key := rfl
@[simp] theorem Part.setByte_eth (p : Part) (a : Nat) (b : Byte) : (p.setByte a b).eth = p.eth := rfl
@[simp] theorem Part.setByte_itk (p : Part) (a : Nat) (b : Byte) : (p.setByte a b).itk = p.itk := rfl
@[simp] theorem Part.setByte_sets (p : Part) (a : Nat) (b : Byte) : (p.setByte a b).sets = p.sets := rfl
@[simp] theorem Part.setByte_vdc (p : Part) (a : Nat) (b : Byte) : (p.setByte a b).vdc = p.vdc := rfl
@[simp] theorem Part.setByte_prn (p : Part) (a : Nat) (b : Byte) : (p.setByte a b).prn = p.prn := rfl
@[simp] theorem Part.setByte_jobs (p : Part) (a : Nat) (b : Byte) : (p.setByte a b).jobs = p.jobs := rfl
@[simp] theorem Part.setByte_beds (p : Part) (a : Nat) (b : Byte) : (p.setByte a b).beds = p.beds := rfl
@[simp] theorem Part.setByte_apc (p : Part) (a : Nat) (b : Byte) : (p.setByte a b).apc = p.apc := rfl
@[simp] theorem Part.setByte_models (p : Part) (a : Nat) (b : Byte) : (p.setByte a b).models = p.models := rfl
@[simp] theorem Part.setByte_brw (p : Part) (a : Nat) (b : Byte) : (p.setByte a b).brw = p.brw := rfl
@[simp] theorem Part.setByte_dmc (p : Part) (a : Nat) (b : Byte) : (p.setByte a b).dmc = p.dmc := rfl
@[simp] theorem Part.setByte_trl (p : Part) (a : Nat) (b : Byte) : (p.setByte a b).trl = p.trl := rfl
@[simp] theorem Part.setByte_mtr (p : Part) (a : Nat) (b : Byte) : (p.setByte a b).mtr = p.mtr := rfl
@[simp] theorem Part.setByte_out (p : Part) (a : Nat) (b : Byte) : (p.setByte a b).out = p.out := rfl
@[simp] theorem Part.setByte_free (p : Part) (a : Nat) (b : Byte) : (p.setByte a b).free = p.free := rfl
@[simp] theorem Part.setByte_reg (p : Part) (a : Nat) (b : Byte) (x : Nat) : (p.setByte a b).reg x = p.reg x := rfl
@[simp] theorem Part.setByte_get (p : Part) (a : Nat) (b : Byte) (x : Fld) : (p.setByte a b).get x = p.get x := rfl
@[simp] theorem Part.setByte_on (p : Part) (a : Nat) (b : Byte) (x : Fld) : (p.setByte a b).on x = p.on x := rfl
@[simp] theorem Part.setByte_norByte (p : Part) (a : Nat) (b : Byte) (x : Nat) : (p.setByte a b).norByte x = p.norByte x := rfl

/-! store -/

@[simp] theorem Part.store_regs (p : Part) (a : Nat) (l : List Byte) : (p.store a l).regs = p.regs := rfl
@[simp] theorem Part.store_nor (p : Part) (a : Nat) (l : List Byte) : (p.store a l).nor = p.nor := rfl
@[simp] theorem Part.store_pins (p : Part) (a : Nat) (l : List Byte) : (p.store a l).pins = p.pins := rfl
@[simp] theorem Part.store_sdl (p : Part) (a : Nat) (l : List Byte) : (p.store a l).sdl = p.sdl := rfl
@[simp] theorem Part.store_boot (p : Part) (a : Nat) (l : List Byte) : (p.store a l).boot = p.boot := rfl
@[simp] theorem Part.store_plots (p : Part) (a : Nat) (l : List Byte) : (p.store a l).plots = p.plots := rfl
@[simp] theorem Part.store_hvs (p : Part) (a : Nat) (l : List Byte) : (p.store a l).hvs = p.hvs := rfl
@[simp] theorem Part.store_nvme (p : Part) (a : Nat) (l : List Byte) : (p.store a l).nvme = p.nvme := rfl
@[simp] theorem Part.store_wdog (p : Part) (a : Nat) (l : List Byte) : (p.store a l).wdog = p.wdog := rfl
@[simp] theorem Part.store_pwr (p : Part) (a : Nat) (l : List Byte) : (p.store a l).pwr = p.pwr := rfl
@[simp] theorem Part.store_rules (p : Part) (a : Nat) (l : List Byte) : (p.store a l).rules = p.rules := rfl
@[simp] theorem Part.store_key (p : Part) (a : Nat) (l : List Byte) : (p.store a l).key = p.key := rfl
@[simp] theorem Part.store_eth (p : Part) (a : Nat) (l : List Byte) : (p.store a l).eth = p.eth := rfl
@[simp] theorem Part.store_itk (p : Part) (a : Nat) (l : List Byte) : (p.store a l).itk = p.itk := rfl
@[simp] theorem Part.store_sets (p : Part) (a : Nat) (l : List Byte) : (p.store a l).sets = p.sets := rfl
@[simp] theorem Part.store_vdc (p : Part) (a : Nat) (l : List Byte) : (p.store a l).vdc = p.vdc := rfl
@[simp] theorem Part.store_prn (p : Part) (a : Nat) (l : List Byte) : (p.store a l).prn = p.prn := rfl
@[simp] theorem Part.store_jobs (p : Part) (a : Nat) (l : List Byte) : (p.store a l).jobs = p.jobs := rfl
@[simp] theorem Part.store_beds (p : Part) (a : Nat) (l : List Byte) : (p.store a l).beds = p.beds := rfl
@[simp] theorem Part.store_apc (p : Part) (a : Nat) (l : List Byte) : (p.store a l).apc = p.apc := rfl
@[simp] theorem Part.store_models (p : Part) (a : Nat) (l : List Byte) : (p.store a l).models = p.models := rfl
@[simp] theorem Part.store_brw (p : Part) (a : Nat) (l : List Byte) : (p.store a l).brw = p.brw := rfl
@[simp] theorem Part.store_dmc (p : Part) (a : Nat) (l : List Byte) : (p.store a l).dmc = p.dmc := rfl
@[simp] theorem Part.store_trl (p : Part) (a : Nat) (l : List Byte) : (p.store a l).trl = p.trl := rfl
@[simp] theorem Part.store_mtr (p : Part) (a : Nat) (l : List Byte) : (p.store a l).mtr = p.mtr := rfl
@[simp] theorem Part.store_out (p : Part) (a : Nat) (l : List Byte) : (p.store a l).out = p.out := rfl
@[simp] theorem Part.store_free (p : Part) (a : Nat) (l : List Byte) : (p.store a l).free = p.free := rfl
@[simp] theorem Part.store_reg (p : Part) (a : Nat) (l : List Byte) (x : Nat) : (p.store a l).reg x = p.reg x := rfl
@[simp] theorem Part.store_get (p : Part) (a : Nat) (l : List Byte) (x : Fld) : (p.store a l).get x = p.get x := rfl
@[simp] theorem Part.store_on (p : Part) (a : Nat) (l : List Byte) (x : Fld) : (p.store a l).on x = p.on x := rfl
@[simp] theorem Part.store_norByte (p : Part) (a : Nat) (l : List Byte) (x : Nat) : (p.store a l).norByte x = p.norByte x := rfl

/-! zero -/

@[simp] theorem Part.zero_regs (p : Part) (a n : Nat) : (p.zero a n).regs = p.regs := rfl
@[simp] theorem Part.zero_nor (p : Part) (a n : Nat) : (p.zero a n).nor = p.nor := rfl
@[simp] theorem Part.zero_pins (p : Part) (a n : Nat) : (p.zero a n).pins = p.pins := rfl
@[simp] theorem Part.zero_sdl (p : Part) (a n : Nat) : (p.zero a n).sdl = p.sdl := rfl
@[simp] theorem Part.zero_boot (p : Part) (a n : Nat) : (p.zero a n).boot = p.boot := rfl
@[simp] theorem Part.zero_plots (p : Part) (a n : Nat) : (p.zero a n).plots = p.plots := rfl
@[simp] theorem Part.zero_hvs (p : Part) (a n : Nat) : (p.zero a n).hvs = p.hvs := rfl
@[simp] theorem Part.zero_nvme (p : Part) (a n : Nat) : (p.zero a n).nvme = p.nvme := rfl
@[simp] theorem Part.zero_wdog (p : Part) (a n : Nat) : (p.zero a n).wdog = p.wdog := rfl
@[simp] theorem Part.zero_pwr (p : Part) (a n : Nat) : (p.zero a n).pwr = p.pwr := rfl
@[simp] theorem Part.zero_rules (p : Part) (a n : Nat) : (p.zero a n).rules = p.rules := rfl
@[simp] theorem Part.zero_key (p : Part) (a n : Nat) : (p.zero a n).key = p.key := rfl
@[simp] theorem Part.zero_eth (p : Part) (a n : Nat) : (p.zero a n).eth = p.eth := rfl
@[simp] theorem Part.zero_itk (p : Part) (a n : Nat) : (p.zero a n).itk = p.itk := rfl
@[simp] theorem Part.zero_sets (p : Part) (a n : Nat) : (p.zero a n).sets = p.sets := rfl
@[simp] theorem Part.zero_vdc (p : Part) (a n : Nat) : (p.zero a n).vdc = p.vdc := rfl
@[simp] theorem Part.zero_prn (p : Part) (a n : Nat) : (p.zero a n).prn = p.prn := rfl
@[simp] theorem Part.zero_jobs (p : Part) (a n : Nat) : (p.zero a n).jobs = p.jobs := rfl
@[simp] theorem Part.zero_beds (p : Part) (a n : Nat) : (p.zero a n).beds = p.beds := rfl
@[simp] theorem Part.zero_apc (p : Part) (a n : Nat) : (p.zero a n).apc = p.apc := rfl
@[simp] theorem Part.zero_models (p : Part) (a n : Nat) : (p.zero a n).models = p.models := rfl
@[simp] theorem Part.zero_brw (p : Part) (a n : Nat) : (p.zero a n).brw = p.brw := rfl
@[simp] theorem Part.zero_dmc (p : Part) (a n : Nat) : (p.zero a n).dmc = p.dmc := rfl
@[simp] theorem Part.zero_trl (p : Part) (a n : Nat) : (p.zero a n).trl = p.trl := rfl
@[simp] theorem Part.zero_mtr (p : Part) (a n : Nat) : (p.zero a n).mtr = p.mtr := rfl
@[simp] theorem Part.zero_out (p : Part) (a n : Nat) : (p.zero a n).out = p.out := rfl
@[simp] theorem Part.zero_free (p : Part) (a n : Nat) : (p.zero a n).free = p.free := rfl
@[simp] theorem Part.zero_reg (p : Part) (a n : Nat) (x : Nat) : (p.zero a n).reg x = p.reg x := rfl
@[simp] theorem Part.zero_get (p : Part) (a n : Nat) (x : Fld) : (p.zero a n).get x = p.get x := rfl
@[simp] theorem Part.zero_on (p : Part) (a n : Nat) (x : Fld) : (p.zero a n).on x = p.on x := rfl
@[simp] theorem Part.zero_norByte (p : Part) (a n : Nat) (x : Nat) : (p.zero a n).norByte x = p.norByte x := rfl

/-! program -/

@[simp] theorem Part.program_regs (p : Part) (a : Nat) (l : List Byte) : (p.program a l).regs = p.regs := rfl
@[simp] theorem Part.program_mem (p : Part) (a : Nat) (l : List Byte) : (p.program a l).mem = p.mem := rfl
@[simp] theorem Part.program_pins (p : Part) (a : Nat) (l : List Byte) : (p.program a l).pins = p.pins := rfl
@[simp] theorem Part.program_sdl (p : Part) (a : Nat) (l : List Byte) : (p.program a l).sdl = p.sdl := rfl
@[simp] theorem Part.program_boot (p : Part) (a : Nat) (l : List Byte) : (p.program a l).boot = p.boot := rfl
@[simp] theorem Part.program_plots (p : Part) (a : Nat) (l : List Byte) : (p.program a l).plots = p.plots := rfl
@[simp] theorem Part.program_hvs (p : Part) (a : Nat) (l : List Byte) : (p.program a l).hvs = p.hvs := rfl
@[simp] theorem Part.program_nvme (p : Part) (a : Nat) (l : List Byte) : (p.program a l).nvme = p.nvme := rfl
@[simp] theorem Part.program_wdog (p : Part) (a : Nat) (l : List Byte) : (p.program a l).wdog = p.wdog := rfl
@[simp] theorem Part.program_pwr (p : Part) (a : Nat) (l : List Byte) : (p.program a l).pwr = p.pwr := rfl
@[simp] theorem Part.program_rules (p : Part) (a : Nat) (l : List Byte) : (p.program a l).rules = p.rules := rfl
@[simp] theorem Part.program_key (p : Part) (a : Nat) (l : List Byte) : (p.program a l).key = p.key := rfl
@[simp] theorem Part.program_eth (p : Part) (a : Nat) (l : List Byte) : (p.program a l).eth = p.eth := rfl
@[simp] theorem Part.program_itk (p : Part) (a : Nat) (l : List Byte) : (p.program a l).itk = p.itk := rfl
@[simp] theorem Part.program_sets (p : Part) (a : Nat) (l : List Byte) : (p.program a l).sets = p.sets := rfl
@[simp] theorem Part.program_vdc (p : Part) (a : Nat) (l : List Byte) : (p.program a l).vdc = p.vdc := rfl
@[simp] theorem Part.program_prn (p : Part) (a : Nat) (l : List Byte) : (p.program a l).prn = p.prn := rfl
@[simp] theorem Part.program_jobs (p : Part) (a : Nat) (l : List Byte) : (p.program a l).jobs = p.jobs := rfl
@[simp] theorem Part.program_beds (p : Part) (a : Nat) (l : List Byte) : (p.program a l).beds = p.beds := rfl
@[simp] theorem Part.program_apc (p : Part) (a : Nat) (l : List Byte) : (p.program a l).apc = p.apc := rfl
@[simp] theorem Part.program_models (p : Part) (a : Nat) (l : List Byte) : (p.program a l).models = p.models := rfl
@[simp] theorem Part.program_brw (p : Part) (a : Nat) (l : List Byte) : (p.program a l).brw = p.brw := rfl
@[simp] theorem Part.program_dmc (p : Part) (a : Nat) (l : List Byte) : (p.program a l).dmc = p.dmc := rfl
@[simp] theorem Part.program_trl (p : Part) (a : Nat) (l : List Byte) : (p.program a l).trl = p.trl := rfl
@[simp] theorem Part.program_mtr (p : Part) (a : Nat) (l : List Byte) : (p.program a l).mtr = p.mtr := rfl
@[simp] theorem Part.program_out (p : Part) (a : Nat) (l : List Byte) : (p.program a l).out = p.out := rfl
@[simp] theorem Part.program_free (p : Part) (a : Nat) (l : List Byte) : (p.program a l).free = p.free := rfl
@[simp] theorem Part.program_reg (p : Part) (a : Nat) (l : List Byte) (x : Nat) : (p.program a l).reg x = p.reg x := rfl
@[simp] theorem Part.program_get (p : Part) (a : Nat) (l : List Byte) (x : Fld) : (p.program a l).get x = p.get x := rfl
@[simp] theorem Part.program_on (p : Part) (a : Nat) (l : List Byte) (x : Fld) : (p.program a l).on x = p.on x := rfl
@[simp] theorem Part.program_byte (p : Part) (a : Nat) (l : List Byte) (x : Nat) : (p.program a l).byte x = p.byte x := rfl

/-! eraseNor -/

@[simp] theorem Part.eraseNor_regs (p : Part) (a n : Nat) : (p.eraseNor a n).regs = p.regs := rfl
@[simp] theorem Part.eraseNor_mem (p : Part) (a n : Nat) : (p.eraseNor a n).mem = p.mem := rfl
@[simp] theorem Part.eraseNor_pins (p : Part) (a n : Nat) : (p.eraseNor a n).pins = p.pins := rfl
@[simp] theorem Part.eraseNor_sdl (p : Part) (a n : Nat) : (p.eraseNor a n).sdl = p.sdl := rfl
@[simp] theorem Part.eraseNor_boot (p : Part) (a n : Nat) : (p.eraseNor a n).boot = p.boot := rfl
@[simp] theorem Part.eraseNor_plots (p : Part) (a n : Nat) : (p.eraseNor a n).plots = p.plots := rfl
@[simp] theorem Part.eraseNor_hvs (p : Part) (a n : Nat) : (p.eraseNor a n).hvs = p.hvs := rfl
@[simp] theorem Part.eraseNor_nvme (p : Part) (a n : Nat) : (p.eraseNor a n).nvme = p.nvme := rfl
@[simp] theorem Part.eraseNor_wdog (p : Part) (a n : Nat) : (p.eraseNor a n).wdog = p.wdog := rfl
@[simp] theorem Part.eraseNor_pwr (p : Part) (a n : Nat) : (p.eraseNor a n).pwr = p.pwr := rfl
@[simp] theorem Part.eraseNor_rules (p : Part) (a n : Nat) : (p.eraseNor a n).rules = p.rules := rfl
@[simp] theorem Part.eraseNor_key (p : Part) (a n : Nat) : (p.eraseNor a n).key = p.key := rfl
@[simp] theorem Part.eraseNor_eth (p : Part) (a n : Nat) : (p.eraseNor a n).eth = p.eth := rfl
@[simp] theorem Part.eraseNor_itk (p : Part) (a n : Nat) : (p.eraseNor a n).itk = p.itk := rfl
@[simp] theorem Part.eraseNor_sets (p : Part) (a n : Nat) : (p.eraseNor a n).sets = p.sets := rfl
@[simp] theorem Part.eraseNor_vdc (p : Part) (a n : Nat) : (p.eraseNor a n).vdc = p.vdc := rfl
@[simp] theorem Part.eraseNor_prn (p : Part) (a n : Nat) : (p.eraseNor a n).prn = p.prn := rfl
@[simp] theorem Part.eraseNor_jobs (p : Part) (a n : Nat) : (p.eraseNor a n).jobs = p.jobs := rfl
@[simp] theorem Part.eraseNor_beds (p : Part) (a n : Nat) : (p.eraseNor a n).beds = p.beds := rfl
@[simp] theorem Part.eraseNor_apc (p : Part) (a n : Nat) : (p.eraseNor a n).apc = p.apc := rfl
@[simp] theorem Part.eraseNor_models (p : Part) (a n : Nat) : (p.eraseNor a n).models = p.models := rfl
@[simp] theorem Part.eraseNor_brw (p : Part) (a n : Nat) : (p.eraseNor a n).brw = p.brw := rfl
@[simp] theorem Part.eraseNor_dmc (p : Part) (a n : Nat) : (p.eraseNor a n).dmc = p.dmc := rfl
@[simp] theorem Part.eraseNor_trl (p : Part) (a n : Nat) : (p.eraseNor a n).trl = p.trl := rfl
@[simp] theorem Part.eraseNor_mtr (p : Part) (a n : Nat) : (p.eraseNor a n).mtr = p.mtr := rfl
@[simp] theorem Part.eraseNor_out (p : Part) (a n : Nat) : (p.eraseNor a n).out = p.out := rfl
@[simp] theorem Part.eraseNor_free (p : Part) (a n : Nat) : (p.eraseNor a n).free = p.free := rfl
@[simp] theorem Part.eraseNor_reg (p : Part) (a n : Nat) (x : Nat) : (p.eraseNor a n).reg x = p.reg x := rfl
@[simp] theorem Part.eraseNor_get (p : Part) (a n : Nat) (x : Fld) : (p.eraseNor a n).get x = p.get x := rfl
@[simp] theorem Part.eraseNor_on (p : Part) (a n : Nat) (x : Fld) : (p.eraseNor a n).on x = p.on x := rfl
@[simp] theorem Part.eraseNor_byte (p : Part) (a n : Nat) (x : Nat) : (p.eraseNor a n).byte x = p.byte x := rfl

/-! emit -/

@[simp] theorem Part.emit_regs (p : Part) (o : Out) : (p.emit o).regs = p.regs := rfl
@[simp] theorem Part.emit_mem (p : Part) (o : Out) : (p.emit o).mem = p.mem := rfl
@[simp] theorem Part.emit_nor (p : Part) (o : Out) : (p.emit o).nor = p.nor := rfl
@[simp] theorem Part.emit_pins (p : Part) (o : Out) : (p.emit o).pins = p.pins := rfl
@[simp] theorem Part.emit_sdl (p : Part) (o : Out) : (p.emit o).sdl = p.sdl := rfl
@[simp] theorem Part.emit_boot (p : Part) (o : Out) : (p.emit o).boot = p.boot := rfl
@[simp] theorem Part.emit_plots (p : Part) (o : Out) : (p.emit o).plots = p.plots := rfl
@[simp] theorem Part.emit_hvs (p : Part) (o : Out) : (p.emit o).hvs = p.hvs := rfl
@[simp] theorem Part.emit_nvme (p : Part) (o : Out) : (p.emit o).nvme = p.nvme := rfl
@[simp] theorem Part.emit_wdog (p : Part) (o : Out) : (p.emit o).wdog = p.wdog := rfl
@[simp] theorem Part.emit_pwr (p : Part) (o : Out) : (p.emit o).pwr = p.pwr := rfl
@[simp] theorem Part.emit_rules (p : Part) (o : Out) : (p.emit o).rules = p.rules := rfl
@[simp] theorem Part.emit_key (p : Part) (o : Out) : (p.emit o).key = p.key := rfl
@[simp] theorem Part.emit_eth (p : Part) (o : Out) : (p.emit o).eth = p.eth := rfl
@[simp] theorem Part.emit_itk (p : Part) (o : Out) : (p.emit o).itk = p.itk := rfl
@[simp] theorem Part.emit_sets (p : Part) (o : Out) : (p.emit o).sets = p.sets := rfl
@[simp] theorem Part.emit_vdc (p : Part) (o : Out) : (p.emit o).vdc = p.vdc := rfl
@[simp] theorem Part.emit_prn (p : Part) (o : Out) : (p.emit o).prn = p.prn := rfl
@[simp] theorem Part.emit_jobs (p : Part) (o : Out) : (p.emit o).jobs = p.jobs := rfl
@[simp] theorem Part.emit_beds (p : Part) (o : Out) : (p.emit o).beds = p.beds := rfl
@[simp] theorem Part.emit_apc (p : Part) (o : Out) : (p.emit o).apc = p.apc := rfl
@[simp] theorem Part.emit_models (p : Part) (o : Out) : (p.emit o).models = p.models := rfl
@[simp] theorem Part.emit_brw (p : Part) (o : Out) : (p.emit o).brw = p.brw := rfl
@[simp] theorem Part.emit_dmc (p : Part) (o : Out) : (p.emit o).dmc = p.dmc := rfl
@[simp] theorem Part.emit_trl (p : Part) (o : Out) : (p.emit o).trl = p.trl := rfl
@[simp] theorem Part.emit_mtr (p : Part) (o : Out) : (p.emit o).mtr = p.mtr := rfl
@[simp] theorem Part.emit_free (p : Part) (o : Out) : (p.emit o).free = p.free := rfl
@[simp] theorem Part.emit_reg (p : Part) (o : Out) (x : Nat) : (p.emit o).reg x = p.reg x := rfl
@[simp] theorem Part.emit_get (p : Part) (o : Out) (x : Fld) : (p.emit o).get x = p.get x := rfl
@[simp] theorem Part.emit_on (p : Part) (o : Out) (x : Fld) : (p.emit o).on x = p.on x := rfl
@[simp] theorem Part.emit_byte (p : Part) (o : Out) (x : Nat) : (p.emit o).byte x = p.byte x := rfl
@[simp] theorem Part.emit_norByte (p : Part) (o : Out) (x : Nat) : (p.emit o).norByte x = p.norByte x := rfl

/-! modSdl -/

@[simp] theorem Part.modSdl_regs (p : Part) (f : SdlUnit → SdlUnit) : (p.modSdl f).regs = p.regs := rfl
@[simp] theorem Part.modSdl_mem (p : Part) (f : SdlUnit → SdlUnit) : (p.modSdl f).mem = p.mem := rfl
@[simp] theorem Part.modSdl_nor (p : Part) (f : SdlUnit → SdlUnit) : (p.modSdl f).nor = p.nor := rfl
@[simp] theorem Part.modSdl_pins (p : Part) (f : SdlUnit → SdlUnit) : (p.modSdl f).pins = p.pins := rfl
@[simp] theorem Part.modSdl_boot (p : Part) (f : SdlUnit → SdlUnit) : (p.modSdl f).boot = p.boot := rfl
@[simp] theorem Part.modSdl_plots (p : Part) (f : SdlUnit → SdlUnit) : (p.modSdl f).plots = p.plots := rfl
@[simp] theorem Part.modSdl_hvs (p : Part) (f : SdlUnit → SdlUnit) : (p.modSdl f).hvs = p.hvs := rfl
@[simp] theorem Part.modSdl_nvme (p : Part) (f : SdlUnit → SdlUnit) : (p.modSdl f).nvme = p.nvme := rfl
@[simp] theorem Part.modSdl_wdog (p : Part) (f : SdlUnit → SdlUnit) : (p.modSdl f).wdog = p.wdog := rfl
@[simp] theorem Part.modSdl_pwr (p : Part) (f : SdlUnit → SdlUnit) : (p.modSdl f).pwr = p.pwr := rfl
@[simp] theorem Part.modSdl_rules (p : Part) (f : SdlUnit → SdlUnit) : (p.modSdl f).rules = p.rules := rfl
@[simp] theorem Part.modSdl_key (p : Part) (f : SdlUnit → SdlUnit) : (p.modSdl f).key = p.key := rfl
@[simp] theorem Part.modSdl_eth (p : Part) (f : SdlUnit → SdlUnit) : (p.modSdl f).eth = p.eth := rfl
@[simp] theorem Part.modSdl_itk (p : Part) (f : SdlUnit → SdlUnit) : (p.modSdl f).itk = p.itk := rfl
@[simp] theorem Part.modSdl_sets (p : Part) (f : SdlUnit → SdlUnit) : (p.modSdl f).sets = p.sets := rfl
@[simp] theorem Part.modSdl_vdc (p : Part) (f : SdlUnit → SdlUnit) : (p.modSdl f).vdc = p.vdc := rfl
@[simp] theorem Part.modSdl_prn (p : Part) (f : SdlUnit → SdlUnit) : (p.modSdl f).prn = p.prn := rfl
@[simp] theorem Part.modSdl_jobs (p : Part) (f : SdlUnit → SdlUnit) : (p.modSdl f).jobs = p.jobs := rfl
@[simp] theorem Part.modSdl_beds (p : Part) (f : SdlUnit → SdlUnit) : (p.modSdl f).beds = p.beds := rfl
@[simp] theorem Part.modSdl_apc (p : Part) (f : SdlUnit → SdlUnit) : (p.modSdl f).apc = p.apc := rfl
@[simp] theorem Part.modSdl_models (p : Part) (f : SdlUnit → SdlUnit) : (p.modSdl f).models = p.models := rfl
@[simp] theorem Part.modSdl_brw (p : Part) (f : SdlUnit → SdlUnit) : (p.modSdl f).brw = p.brw := rfl
@[simp] theorem Part.modSdl_dmc (p : Part) (f : SdlUnit → SdlUnit) : (p.modSdl f).dmc = p.dmc := rfl
@[simp] theorem Part.modSdl_trl (p : Part) (f : SdlUnit → SdlUnit) : (p.modSdl f).trl = p.trl := rfl
@[simp] theorem Part.modSdl_mtr (p : Part) (f : SdlUnit → SdlUnit) : (p.modSdl f).mtr = p.mtr := rfl
@[simp] theorem Part.modSdl_out (p : Part) (f : SdlUnit → SdlUnit) : (p.modSdl f).out = p.out := rfl
@[simp] theorem Part.modSdl_free (p : Part) (f : SdlUnit → SdlUnit) : (p.modSdl f).free = p.free := rfl
@[simp] theorem Part.modSdl_reg (p : Part) (f : SdlUnit → SdlUnit) (x : Nat) : (p.modSdl f).reg x = p.reg x := rfl
@[simp] theorem Part.modSdl_get (p : Part) (f : SdlUnit → SdlUnit) (x : Fld) : (p.modSdl f).get x = p.get x := rfl
@[simp] theorem Part.modSdl_on (p : Part) (f : SdlUnit → SdlUnit) (x : Fld) : (p.modSdl f).on x = p.on x := rfl
@[simp] theorem Part.modSdl_byte (p : Part) (f : SdlUnit → SdlUnit) (x : Nat) : (p.modSdl f).byte x = p.byte x := rfl
@[simp] theorem Part.modSdl_norByte (p : Part) (f : SdlUnit → SdlUnit) (x : Nat) : (p.modSdl f).norByte x = p.norByte x := rfl

/-! modBoot -/

@[simp] theorem Part.modBoot_regs (p : Part) (f : BootUnit → BootUnit) : (p.modBoot f).regs = p.regs := rfl
@[simp] theorem Part.modBoot_mem (p : Part) (f : BootUnit → BootUnit) : (p.modBoot f).mem = p.mem := rfl
@[simp] theorem Part.modBoot_nor (p : Part) (f : BootUnit → BootUnit) : (p.modBoot f).nor = p.nor := rfl
@[simp] theorem Part.modBoot_pins (p : Part) (f : BootUnit → BootUnit) : (p.modBoot f).pins = p.pins := rfl
@[simp] theorem Part.modBoot_sdl (p : Part) (f : BootUnit → BootUnit) : (p.modBoot f).sdl = p.sdl := rfl
@[simp] theorem Part.modBoot_plots (p : Part) (f : BootUnit → BootUnit) : (p.modBoot f).plots = p.plots := rfl
@[simp] theorem Part.modBoot_hvs (p : Part) (f : BootUnit → BootUnit) : (p.modBoot f).hvs = p.hvs := rfl
@[simp] theorem Part.modBoot_nvme (p : Part) (f : BootUnit → BootUnit) : (p.modBoot f).nvme = p.nvme := rfl
@[simp] theorem Part.modBoot_wdog (p : Part) (f : BootUnit → BootUnit) : (p.modBoot f).wdog = p.wdog := rfl
@[simp] theorem Part.modBoot_pwr (p : Part) (f : BootUnit → BootUnit) : (p.modBoot f).pwr = p.pwr := rfl
@[simp] theorem Part.modBoot_rules (p : Part) (f : BootUnit → BootUnit) : (p.modBoot f).rules = p.rules := rfl
@[simp] theorem Part.modBoot_key (p : Part) (f : BootUnit → BootUnit) : (p.modBoot f).key = p.key := rfl
@[simp] theorem Part.modBoot_eth (p : Part) (f : BootUnit → BootUnit) : (p.modBoot f).eth = p.eth := rfl
@[simp] theorem Part.modBoot_itk (p : Part) (f : BootUnit → BootUnit) : (p.modBoot f).itk = p.itk := rfl
@[simp] theorem Part.modBoot_sets (p : Part) (f : BootUnit → BootUnit) : (p.modBoot f).sets = p.sets := rfl
@[simp] theorem Part.modBoot_vdc (p : Part) (f : BootUnit → BootUnit) : (p.modBoot f).vdc = p.vdc := rfl
@[simp] theorem Part.modBoot_prn (p : Part) (f : BootUnit → BootUnit) : (p.modBoot f).prn = p.prn := rfl
@[simp] theorem Part.modBoot_jobs (p : Part) (f : BootUnit → BootUnit) : (p.modBoot f).jobs = p.jobs := rfl
@[simp] theorem Part.modBoot_beds (p : Part) (f : BootUnit → BootUnit) : (p.modBoot f).beds = p.beds := rfl
@[simp] theorem Part.modBoot_apc (p : Part) (f : BootUnit → BootUnit) : (p.modBoot f).apc = p.apc := rfl
@[simp] theorem Part.modBoot_models (p : Part) (f : BootUnit → BootUnit) : (p.modBoot f).models = p.models := rfl
@[simp] theorem Part.modBoot_brw (p : Part) (f : BootUnit → BootUnit) : (p.modBoot f).brw = p.brw := rfl
@[simp] theorem Part.modBoot_dmc (p : Part) (f : BootUnit → BootUnit) : (p.modBoot f).dmc = p.dmc := rfl
@[simp] theorem Part.modBoot_trl (p : Part) (f : BootUnit → BootUnit) : (p.modBoot f).trl = p.trl := rfl
@[simp] theorem Part.modBoot_mtr (p : Part) (f : BootUnit → BootUnit) : (p.modBoot f).mtr = p.mtr := rfl
@[simp] theorem Part.modBoot_out (p : Part) (f : BootUnit → BootUnit) : (p.modBoot f).out = p.out := rfl
@[simp] theorem Part.modBoot_free (p : Part) (f : BootUnit → BootUnit) : (p.modBoot f).free = p.free := rfl
@[simp] theorem Part.modBoot_reg (p : Part) (f : BootUnit → BootUnit) (x : Nat) : (p.modBoot f).reg x = p.reg x := rfl
@[simp] theorem Part.modBoot_get (p : Part) (f : BootUnit → BootUnit) (x : Fld) : (p.modBoot f).get x = p.get x := rfl
@[simp] theorem Part.modBoot_on (p : Part) (f : BootUnit → BootUnit) (x : Fld) : (p.modBoot f).on x = p.on x := rfl
@[simp] theorem Part.modBoot_byte (p : Part) (f : BootUnit → BootUnit) (x : Nat) : (p.modBoot f).byte x = p.byte x := rfl
@[simp] theorem Part.modBoot_norByte (p : Part) (f : BootUnit → BootUnit) (x : Nat) : (p.modBoot f).norByte x = p.norByte x := rfl

/-! modPins -/

@[simp] theorem Part.modPins_regs (p : Part) (f : Pins → Pins) : (p.modPins f).regs = p.regs := rfl
@[simp] theorem Part.modPins_mem (p : Part) (f : Pins → Pins) : (p.modPins f).mem = p.mem := rfl
@[simp] theorem Part.modPins_nor (p : Part) (f : Pins → Pins) : (p.modPins f).nor = p.nor := rfl
@[simp] theorem Part.modPins_sdl (p : Part) (f : Pins → Pins) : (p.modPins f).sdl = p.sdl := rfl
@[simp] theorem Part.modPins_boot (p : Part) (f : Pins → Pins) : (p.modPins f).boot = p.boot := rfl
@[simp] theorem Part.modPins_plots (p : Part) (f : Pins → Pins) : (p.modPins f).plots = p.plots := rfl
@[simp] theorem Part.modPins_hvs (p : Part) (f : Pins → Pins) : (p.modPins f).hvs = p.hvs := rfl
@[simp] theorem Part.modPins_nvme (p : Part) (f : Pins → Pins) : (p.modPins f).nvme = p.nvme := rfl
@[simp] theorem Part.modPins_wdog (p : Part) (f : Pins → Pins) : (p.modPins f).wdog = p.wdog := rfl
@[simp] theorem Part.modPins_pwr (p : Part) (f : Pins → Pins) : (p.modPins f).pwr = p.pwr := rfl
@[simp] theorem Part.modPins_rules (p : Part) (f : Pins → Pins) : (p.modPins f).rules = p.rules := rfl
@[simp] theorem Part.modPins_key (p : Part) (f : Pins → Pins) : (p.modPins f).key = p.key := rfl
@[simp] theorem Part.modPins_eth (p : Part) (f : Pins → Pins) : (p.modPins f).eth = p.eth := rfl
@[simp] theorem Part.modPins_itk (p : Part) (f : Pins → Pins) : (p.modPins f).itk = p.itk := rfl
@[simp] theorem Part.modPins_sets (p : Part) (f : Pins → Pins) : (p.modPins f).sets = p.sets := rfl
@[simp] theorem Part.modPins_vdc (p : Part) (f : Pins → Pins) : (p.modPins f).vdc = p.vdc := rfl
@[simp] theorem Part.modPins_prn (p : Part) (f : Pins → Pins) : (p.modPins f).prn = p.prn := rfl
@[simp] theorem Part.modPins_jobs (p : Part) (f : Pins → Pins) : (p.modPins f).jobs = p.jobs := rfl
@[simp] theorem Part.modPins_beds (p : Part) (f : Pins → Pins) : (p.modPins f).beds = p.beds := rfl
@[simp] theorem Part.modPins_apc (p : Part) (f : Pins → Pins) : (p.modPins f).apc = p.apc := rfl
@[simp] theorem Part.modPins_models (p : Part) (f : Pins → Pins) : (p.modPins f).models = p.models := rfl
@[simp] theorem Part.modPins_brw (p : Part) (f : Pins → Pins) : (p.modPins f).brw = p.brw := rfl
@[simp] theorem Part.modPins_dmc (p : Part) (f : Pins → Pins) : (p.modPins f).dmc = p.dmc := rfl
@[simp] theorem Part.modPins_trl (p : Part) (f : Pins → Pins) : (p.modPins f).trl = p.trl := rfl
@[simp] theorem Part.modPins_mtr (p : Part) (f : Pins → Pins) : (p.modPins f).mtr = p.mtr := rfl
@[simp] theorem Part.modPins_out (p : Part) (f : Pins → Pins) : (p.modPins f).out = p.out := rfl
@[simp] theorem Part.modPins_free (p : Part) (f : Pins → Pins) : (p.modPins f).free = p.free := rfl
@[simp] theorem Part.modPins_reg (p : Part) (f : Pins → Pins) (x : Nat) : (p.modPins f).reg x = p.reg x := rfl
@[simp] theorem Part.modPins_get (p : Part) (f : Pins → Pins) (x : Fld) : (p.modPins f).get x = p.get x := rfl
@[simp] theorem Part.modPins_on (p : Part) (f : Pins → Pins) (x : Fld) : (p.modPins f).on x = p.on x := rfl
@[simp] theorem Part.modPins_byte (p : Part) (f : Pins → Pins) (x : Nat) : (p.modPins f).byte x = p.byte x := rfl
@[simp] theorem Part.modPins_norByte (p : Part) (f : Pins → Pins) (x : Nat) : (p.modPins f).norByte x = p.norByte x := rfl

/-! modPwr -/

@[simp] theorem Part.modPwr_regs (p : Part) (f : PwrUnit → PwrUnit) : (p.modPwr f).regs = p.regs := rfl
@[simp] theorem Part.modPwr_mem (p : Part) (f : PwrUnit → PwrUnit) : (p.modPwr f).mem = p.mem := rfl
@[simp] theorem Part.modPwr_nor (p : Part) (f : PwrUnit → PwrUnit) : (p.modPwr f).nor = p.nor := rfl
@[simp] theorem Part.modPwr_pins (p : Part) (f : PwrUnit → PwrUnit) : (p.modPwr f).pins = p.pins := rfl
@[simp] theorem Part.modPwr_sdl (p : Part) (f : PwrUnit → PwrUnit) : (p.modPwr f).sdl = p.sdl := rfl
@[simp] theorem Part.modPwr_boot (p : Part) (f : PwrUnit → PwrUnit) : (p.modPwr f).boot = p.boot := rfl
@[simp] theorem Part.modPwr_plots (p : Part) (f : PwrUnit → PwrUnit) : (p.modPwr f).plots = p.plots := rfl
@[simp] theorem Part.modPwr_hvs (p : Part) (f : PwrUnit → PwrUnit) : (p.modPwr f).hvs = p.hvs := rfl
@[simp] theorem Part.modPwr_nvme (p : Part) (f : PwrUnit → PwrUnit) : (p.modPwr f).nvme = p.nvme := rfl
@[simp] theorem Part.modPwr_wdog (p : Part) (f : PwrUnit → PwrUnit) : (p.modPwr f).wdog = p.wdog := rfl
@[simp] theorem Part.modPwr_rules (p : Part) (f : PwrUnit → PwrUnit) : (p.modPwr f).rules = p.rules := rfl
@[simp] theorem Part.modPwr_key (p : Part) (f : PwrUnit → PwrUnit) : (p.modPwr f).key = p.key := rfl
@[simp] theorem Part.modPwr_eth (p : Part) (f : PwrUnit → PwrUnit) : (p.modPwr f).eth = p.eth := rfl
@[simp] theorem Part.modPwr_itk (p : Part) (f : PwrUnit → PwrUnit) : (p.modPwr f).itk = p.itk := rfl
@[simp] theorem Part.modPwr_sets (p : Part) (f : PwrUnit → PwrUnit) : (p.modPwr f).sets = p.sets := rfl
@[simp] theorem Part.modPwr_vdc (p : Part) (f : PwrUnit → PwrUnit) : (p.modPwr f).vdc = p.vdc := rfl
@[simp] theorem Part.modPwr_prn (p : Part) (f : PwrUnit → PwrUnit) : (p.modPwr f).prn = p.prn := rfl
@[simp] theorem Part.modPwr_jobs (p : Part) (f : PwrUnit → PwrUnit) : (p.modPwr f).jobs = p.jobs := rfl
@[simp] theorem Part.modPwr_beds (p : Part) (f : PwrUnit → PwrUnit) : (p.modPwr f).beds = p.beds := rfl
@[simp] theorem Part.modPwr_apc (p : Part) (f : PwrUnit → PwrUnit) : (p.modPwr f).apc = p.apc := rfl
@[simp] theorem Part.modPwr_models (p : Part) (f : PwrUnit → PwrUnit) : (p.modPwr f).models = p.models := rfl
@[simp] theorem Part.modPwr_brw (p : Part) (f : PwrUnit → PwrUnit) : (p.modPwr f).brw = p.brw := rfl
@[simp] theorem Part.modPwr_dmc (p : Part) (f : PwrUnit → PwrUnit) : (p.modPwr f).dmc = p.dmc := rfl
@[simp] theorem Part.modPwr_trl (p : Part) (f : PwrUnit → PwrUnit) : (p.modPwr f).trl = p.trl := rfl
@[simp] theorem Part.modPwr_mtr (p : Part) (f : PwrUnit → PwrUnit) : (p.modPwr f).mtr = p.mtr := rfl
@[simp] theorem Part.modPwr_out (p : Part) (f : PwrUnit → PwrUnit) : (p.modPwr f).out = p.out := rfl
@[simp] theorem Part.modPwr_free (p : Part) (f : PwrUnit → PwrUnit) : (p.modPwr f).free = p.free := rfl
@[simp] theorem Part.modPwr_reg (p : Part) (f : PwrUnit → PwrUnit) (x : Nat) : (p.modPwr f).reg x = p.reg x := rfl
@[simp] theorem Part.modPwr_get (p : Part) (f : PwrUnit → PwrUnit) (x : Fld) : (p.modPwr f).get x = p.get x := rfl
@[simp] theorem Part.modPwr_on (p : Part) (f : PwrUnit → PwrUnit) (x : Fld) : (p.modPwr f).on x = p.on x := rfl
@[simp] theorem Part.modPwr_byte (p : Part) (f : PwrUnit → PwrUnit) (x : Nat) : (p.modPwr f).byte x = p.byte x := rfl
@[simp] theorem Part.modPwr_norByte (p : Part) (f : PwrUnit → PwrUnit) (x : Nat) : (p.modPwr f).norByte x = p.norByte x := rfl

/-! modWdog -/

@[simp] theorem Part.modWdog_regs (p : Part) (f : WdogUnit → WdogUnit) : (p.modWdog f).regs = p.regs := rfl
@[simp] theorem Part.modWdog_mem (p : Part) (f : WdogUnit → WdogUnit) : (p.modWdog f).mem = p.mem := rfl
@[simp] theorem Part.modWdog_nor (p : Part) (f : WdogUnit → WdogUnit) : (p.modWdog f).nor = p.nor := rfl
@[simp] theorem Part.modWdog_pins (p : Part) (f : WdogUnit → WdogUnit) : (p.modWdog f).pins = p.pins := rfl
@[simp] theorem Part.modWdog_sdl (p : Part) (f : WdogUnit → WdogUnit) : (p.modWdog f).sdl = p.sdl := rfl
@[simp] theorem Part.modWdog_boot (p : Part) (f : WdogUnit → WdogUnit) : (p.modWdog f).boot = p.boot := rfl
@[simp] theorem Part.modWdog_plots (p : Part) (f : WdogUnit → WdogUnit) : (p.modWdog f).plots = p.plots := rfl
@[simp] theorem Part.modWdog_hvs (p : Part) (f : WdogUnit → WdogUnit) : (p.modWdog f).hvs = p.hvs := rfl
@[simp] theorem Part.modWdog_nvme (p : Part) (f : WdogUnit → WdogUnit) : (p.modWdog f).nvme = p.nvme := rfl
@[simp] theorem Part.modWdog_pwr (p : Part) (f : WdogUnit → WdogUnit) : (p.modWdog f).pwr = p.pwr := rfl
@[simp] theorem Part.modWdog_rules (p : Part) (f : WdogUnit → WdogUnit) : (p.modWdog f).rules = p.rules := rfl
@[simp] theorem Part.modWdog_key (p : Part) (f : WdogUnit → WdogUnit) : (p.modWdog f).key = p.key := rfl
@[simp] theorem Part.modWdog_eth (p : Part) (f : WdogUnit → WdogUnit) : (p.modWdog f).eth = p.eth := rfl
@[simp] theorem Part.modWdog_itk (p : Part) (f : WdogUnit → WdogUnit) : (p.modWdog f).itk = p.itk := rfl
@[simp] theorem Part.modWdog_sets (p : Part) (f : WdogUnit → WdogUnit) : (p.modWdog f).sets = p.sets := rfl
@[simp] theorem Part.modWdog_vdc (p : Part) (f : WdogUnit → WdogUnit) : (p.modWdog f).vdc = p.vdc := rfl
@[simp] theorem Part.modWdog_prn (p : Part) (f : WdogUnit → WdogUnit) : (p.modWdog f).prn = p.prn := rfl
@[simp] theorem Part.modWdog_jobs (p : Part) (f : WdogUnit → WdogUnit) : (p.modWdog f).jobs = p.jobs := rfl
@[simp] theorem Part.modWdog_beds (p : Part) (f : WdogUnit → WdogUnit) : (p.modWdog f).beds = p.beds := rfl
@[simp] theorem Part.modWdog_apc (p : Part) (f : WdogUnit → WdogUnit) : (p.modWdog f).apc = p.apc := rfl
@[simp] theorem Part.modWdog_models (p : Part) (f : WdogUnit → WdogUnit) : (p.modWdog f).models = p.models := rfl
@[simp] theorem Part.modWdog_brw (p : Part) (f : WdogUnit → WdogUnit) : (p.modWdog f).brw = p.brw := rfl
@[simp] theorem Part.modWdog_dmc (p : Part) (f : WdogUnit → WdogUnit) : (p.modWdog f).dmc = p.dmc := rfl
@[simp] theorem Part.modWdog_trl (p : Part) (f : WdogUnit → WdogUnit) : (p.modWdog f).trl = p.trl := rfl
@[simp] theorem Part.modWdog_mtr (p : Part) (f : WdogUnit → WdogUnit) : (p.modWdog f).mtr = p.mtr := rfl
@[simp] theorem Part.modWdog_out (p : Part) (f : WdogUnit → WdogUnit) : (p.modWdog f).out = p.out := rfl
@[simp] theorem Part.modWdog_free (p : Part) (f : WdogUnit → WdogUnit) : (p.modWdog f).free = p.free := rfl
@[simp] theorem Part.modWdog_reg (p : Part) (f : WdogUnit → WdogUnit) (x : Nat) : (p.modWdog f).reg x = p.reg x := rfl
@[simp] theorem Part.modWdog_get (p : Part) (f : WdogUnit → WdogUnit) (x : Fld) : (p.modWdog f).get x = p.get x := rfl
@[simp] theorem Part.modWdog_on (p : Part) (f : WdogUnit → WdogUnit) (x : Fld) : (p.modWdog f).on x = p.on x := rfl
@[simp] theorem Part.modWdog_byte (p : Part) (f : WdogUnit → WdogUnit) (x : Nat) : (p.modWdog f).byte x = p.byte x := rfl
@[simp] theorem Part.modWdog_norByte (p : Part) (f : WdogUnit → WdogUnit) (x : Nat) : (p.modWdog f).norByte x = p.norByte x := rfl

/-! modJobs -/

@[simp] theorem Part.modJobs_regs (p : Part) (f : JobUnit → JobUnit) : (p.modJobs f).regs = p.regs := rfl
@[simp] theorem Part.modJobs_mem (p : Part) (f : JobUnit → JobUnit) : (p.modJobs f).mem = p.mem := rfl
@[simp] theorem Part.modJobs_nor (p : Part) (f : JobUnit → JobUnit) : (p.modJobs f).nor = p.nor := rfl
@[simp] theorem Part.modJobs_pins (p : Part) (f : JobUnit → JobUnit) : (p.modJobs f).pins = p.pins := rfl
@[simp] theorem Part.modJobs_sdl (p : Part) (f : JobUnit → JobUnit) : (p.modJobs f).sdl = p.sdl := rfl
@[simp] theorem Part.modJobs_boot (p : Part) (f : JobUnit → JobUnit) : (p.modJobs f).boot = p.boot := rfl
@[simp] theorem Part.modJobs_plots (p : Part) (f : JobUnit → JobUnit) : (p.modJobs f).plots = p.plots := rfl
@[simp] theorem Part.modJobs_hvs (p : Part) (f : JobUnit → JobUnit) : (p.modJobs f).hvs = p.hvs := rfl
@[simp] theorem Part.modJobs_nvme (p : Part) (f : JobUnit → JobUnit) : (p.modJobs f).nvme = p.nvme := rfl
@[simp] theorem Part.modJobs_wdog (p : Part) (f : JobUnit → JobUnit) : (p.modJobs f).wdog = p.wdog := rfl
@[simp] theorem Part.modJobs_pwr (p : Part) (f : JobUnit → JobUnit) : (p.modJobs f).pwr = p.pwr := rfl
@[simp] theorem Part.modJobs_rules (p : Part) (f : JobUnit → JobUnit) : (p.modJobs f).rules = p.rules := rfl
@[simp] theorem Part.modJobs_key (p : Part) (f : JobUnit → JobUnit) : (p.modJobs f).key = p.key := rfl
@[simp] theorem Part.modJobs_eth (p : Part) (f : JobUnit → JobUnit) : (p.modJobs f).eth = p.eth := rfl
@[simp] theorem Part.modJobs_itk (p : Part) (f : JobUnit → JobUnit) : (p.modJobs f).itk = p.itk := rfl
@[simp] theorem Part.modJobs_sets (p : Part) (f : JobUnit → JobUnit) : (p.modJobs f).sets = p.sets := rfl
@[simp] theorem Part.modJobs_vdc (p : Part) (f : JobUnit → JobUnit) : (p.modJobs f).vdc = p.vdc := rfl
@[simp] theorem Part.modJobs_prn (p : Part) (f : JobUnit → JobUnit) : (p.modJobs f).prn = p.prn := rfl
@[simp] theorem Part.modJobs_beds (p : Part) (f : JobUnit → JobUnit) : (p.modJobs f).beds = p.beds := rfl
@[simp] theorem Part.modJobs_apc (p : Part) (f : JobUnit → JobUnit) : (p.modJobs f).apc = p.apc := rfl
@[simp] theorem Part.modJobs_models (p : Part) (f : JobUnit → JobUnit) : (p.modJobs f).models = p.models := rfl
@[simp] theorem Part.modJobs_brw (p : Part) (f : JobUnit → JobUnit) : (p.modJobs f).brw = p.brw := rfl
@[simp] theorem Part.modJobs_dmc (p : Part) (f : JobUnit → JobUnit) : (p.modJobs f).dmc = p.dmc := rfl
@[simp] theorem Part.modJobs_trl (p : Part) (f : JobUnit → JobUnit) : (p.modJobs f).trl = p.trl := rfl
@[simp] theorem Part.modJobs_mtr (p : Part) (f : JobUnit → JobUnit) : (p.modJobs f).mtr = p.mtr := rfl
@[simp] theorem Part.modJobs_out (p : Part) (f : JobUnit → JobUnit) : (p.modJobs f).out = p.out := rfl
@[simp] theorem Part.modJobs_free (p : Part) (f : JobUnit → JobUnit) : (p.modJobs f).free = p.free := rfl
@[simp] theorem Part.modJobs_reg (p : Part) (f : JobUnit → JobUnit) (x : Nat) : (p.modJobs f).reg x = p.reg x := rfl
@[simp] theorem Part.modJobs_get (p : Part) (f : JobUnit → JobUnit) (x : Fld) : (p.modJobs f).get x = p.get x := rfl
@[simp] theorem Part.modJobs_on (p : Part) (f : JobUnit → JobUnit) (x : Fld) : (p.modJobs f).on x = p.on x := rfl
@[simp] theorem Part.modJobs_byte (p : Part) (f : JobUnit → JobUnit) (x : Nat) : (p.modJobs f).byte x = p.byte x := rfl
@[simp] theorem Part.modJobs_norByte (p : Part) (f : JobUnit → JobUnit) (x : Nat) : (p.modJobs f).norByte x = p.norByte x := rfl

/-! modDmc -/

@[simp] theorem Part.modDmc_regs (p : Part) (f : DmcUnit → DmcUnit) : (p.modDmc f).regs = p.regs := rfl
@[simp] theorem Part.modDmc_mem (p : Part) (f : DmcUnit → DmcUnit) : (p.modDmc f).mem = p.mem := rfl
@[simp] theorem Part.modDmc_nor (p : Part) (f : DmcUnit → DmcUnit) : (p.modDmc f).nor = p.nor := rfl
@[simp] theorem Part.modDmc_pins (p : Part) (f : DmcUnit → DmcUnit) : (p.modDmc f).pins = p.pins := rfl
@[simp] theorem Part.modDmc_sdl (p : Part) (f : DmcUnit → DmcUnit) : (p.modDmc f).sdl = p.sdl := rfl
@[simp] theorem Part.modDmc_boot (p : Part) (f : DmcUnit → DmcUnit) : (p.modDmc f).boot = p.boot := rfl
@[simp] theorem Part.modDmc_plots (p : Part) (f : DmcUnit → DmcUnit) : (p.modDmc f).plots = p.plots := rfl
@[simp] theorem Part.modDmc_hvs (p : Part) (f : DmcUnit → DmcUnit) : (p.modDmc f).hvs = p.hvs := rfl
@[simp] theorem Part.modDmc_nvme (p : Part) (f : DmcUnit → DmcUnit) : (p.modDmc f).nvme = p.nvme := rfl
@[simp] theorem Part.modDmc_wdog (p : Part) (f : DmcUnit → DmcUnit) : (p.modDmc f).wdog = p.wdog := rfl
@[simp] theorem Part.modDmc_pwr (p : Part) (f : DmcUnit → DmcUnit) : (p.modDmc f).pwr = p.pwr := rfl
@[simp] theorem Part.modDmc_rules (p : Part) (f : DmcUnit → DmcUnit) : (p.modDmc f).rules = p.rules := rfl
@[simp] theorem Part.modDmc_key (p : Part) (f : DmcUnit → DmcUnit) : (p.modDmc f).key = p.key := rfl
@[simp] theorem Part.modDmc_eth (p : Part) (f : DmcUnit → DmcUnit) : (p.modDmc f).eth = p.eth := rfl
@[simp] theorem Part.modDmc_itk (p : Part) (f : DmcUnit → DmcUnit) : (p.modDmc f).itk = p.itk := rfl
@[simp] theorem Part.modDmc_sets (p : Part) (f : DmcUnit → DmcUnit) : (p.modDmc f).sets = p.sets := rfl
@[simp] theorem Part.modDmc_vdc (p : Part) (f : DmcUnit → DmcUnit) : (p.modDmc f).vdc = p.vdc := rfl
@[simp] theorem Part.modDmc_prn (p : Part) (f : DmcUnit → DmcUnit) : (p.modDmc f).prn = p.prn := rfl
@[simp] theorem Part.modDmc_jobs (p : Part) (f : DmcUnit → DmcUnit) : (p.modDmc f).jobs = p.jobs := rfl
@[simp] theorem Part.modDmc_beds (p : Part) (f : DmcUnit → DmcUnit) : (p.modDmc f).beds = p.beds := rfl
@[simp] theorem Part.modDmc_apc (p : Part) (f : DmcUnit → DmcUnit) : (p.modDmc f).apc = p.apc := rfl
@[simp] theorem Part.modDmc_models (p : Part) (f : DmcUnit → DmcUnit) : (p.modDmc f).models = p.models := rfl
@[simp] theorem Part.modDmc_brw (p : Part) (f : DmcUnit → DmcUnit) : (p.modDmc f).brw = p.brw := rfl
@[simp] theorem Part.modDmc_trl (p : Part) (f : DmcUnit → DmcUnit) : (p.modDmc f).trl = p.trl := rfl
@[simp] theorem Part.modDmc_mtr (p : Part) (f : DmcUnit → DmcUnit) : (p.modDmc f).mtr = p.mtr := rfl
@[simp] theorem Part.modDmc_out (p : Part) (f : DmcUnit → DmcUnit) : (p.modDmc f).out = p.out := rfl
@[simp] theorem Part.modDmc_free (p : Part) (f : DmcUnit → DmcUnit) : (p.modDmc f).free = p.free := rfl
@[simp] theorem Part.modDmc_reg (p : Part) (f : DmcUnit → DmcUnit) (x : Nat) : (p.modDmc f).reg x = p.reg x := rfl
@[simp] theorem Part.modDmc_get (p : Part) (f : DmcUnit → DmcUnit) (x : Fld) : (p.modDmc f).get x = p.get x := rfl
@[simp] theorem Part.modDmc_on (p : Part) (f : DmcUnit → DmcUnit) (x : Fld) : (p.modDmc f).on x = p.on x := rfl
@[simp] theorem Part.modDmc_byte (p : Part) (f : DmcUnit → DmcUnit) (x : Nat) : (p.modDmc f).byte x = p.byte x := rfl
@[simp] theorem Part.modDmc_norByte (p : Part) (f : DmcUnit → DmcUnit) (x : Nat) : (p.modDmc f).norByte x = p.norByte x := rfl

/-! modTrl -/

@[simp] theorem Part.modTrl_regs (p : Part) (f : TrlUnit → TrlUnit) : (p.modTrl f).regs = p.regs := rfl
@[simp] theorem Part.modTrl_mem (p : Part) (f : TrlUnit → TrlUnit) : (p.modTrl f).mem = p.mem := rfl
@[simp] theorem Part.modTrl_nor (p : Part) (f : TrlUnit → TrlUnit) : (p.modTrl f).nor = p.nor := rfl
@[simp] theorem Part.modTrl_pins (p : Part) (f : TrlUnit → TrlUnit) : (p.modTrl f).pins = p.pins := rfl
@[simp] theorem Part.modTrl_sdl (p : Part) (f : TrlUnit → TrlUnit) : (p.modTrl f).sdl = p.sdl := rfl
@[simp] theorem Part.modTrl_boot (p : Part) (f : TrlUnit → TrlUnit) : (p.modTrl f).boot = p.boot := rfl
@[simp] theorem Part.modTrl_plots (p : Part) (f : TrlUnit → TrlUnit) : (p.modTrl f).plots = p.plots := rfl
@[simp] theorem Part.modTrl_hvs (p : Part) (f : TrlUnit → TrlUnit) : (p.modTrl f).hvs = p.hvs := rfl
@[simp] theorem Part.modTrl_nvme (p : Part) (f : TrlUnit → TrlUnit) : (p.modTrl f).nvme = p.nvme := rfl
@[simp] theorem Part.modTrl_wdog (p : Part) (f : TrlUnit → TrlUnit) : (p.modTrl f).wdog = p.wdog := rfl
@[simp] theorem Part.modTrl_pwr (p : Part) (f : TrlUnit → TrlUnit) : (p.modTrl f).pwr = p.pwr := rfl
@[simp] theorem Part.modTrl_rules (p : Part) (f : TrlUnit → TrlUnit) : (p.modTrl f).rules = p.rules := rfl
@[simp] theorem Part.modTrl_key (p : Part) (f : TrlUnit → TrlUnit) : (p.modTrl f).key = p.key := rfl
@[simp] theorem Part.modTrl_eth (p : Part) (f : TrlUnit → TrlUnit) : (p.modTrl f).eth = p.eth := rfl
@[simp] theorem Part.modTrl_itk (p : Part) (f : TrlUnit → TrlUnit) : (p.modTrl f).itk = p.itk := rfl
@[simp] theorem Part.modTrl_sets (p : Part) (f : TrlUnit → TrlUnit) : (p.modTrl f).sets = p.sets := rfl
@[simp] theorem Part.modTrl_vdc (p : Part) (f : TrlUnit → TrlUnit) : (p.modTrl f).vdc = p.vdc := rfl
@[simp] theorem Part.modTrl_prn (p : Part) (f : TrlUnit → TrlUnit) : (p.modTrl f).prn = p.prn := rfl
@[simp] theorem Part.modTrl_jobs (p : Part) (f : TrlUnit → TrlUnit) : (p.modTrl f).jobs = p.jobs := rfl
@[simp] theorem Part.modTrl_beds (p : Part) (f : TrlUnit → TrlUnit) : (p.modTrl f).beds = p.beds := rfl
@[simp] theorem Part.modTrl_apc (p : Part) (f : TrlUnit → TrlUnit) : (p.modTrl f).apc = p.apc := rfl
@[simp] theorem Part.modTrl_models (p : Part) (f : TrlUnit → TrlUnit) : (p.modTrl f).models = p.models := rfl
@[simp] theorem Part.modTrl_brw (p : Part) (f : TrlUnit → TrlUnit) : (p.modTrl f).brw = p.brw := rfl
@[simp] theorem Part.modTrl_dmc (p : Part) (f : TrlUnit → TrlUnit) : (p.modTrl f).dmc = p.dmc := rfl
@[simp] theorem Part.modTrl_mtr (p : Part) (f : TrlUnit → TrlUnit) : (p.modTrl f).mtr = p.mtr := rfl
@[simp] theorem Part.modTrl_out (p : Part) (f : TrlUnit → TrlUnit) : (p.modTrl f).out = p.out := rfl
@[simp] theorem Part.modTrl_free (p : Part) (f : TrlUnit → TrlUnit) : (p.modTrl f).free = p.free := rfl
@[simp] theorem Part.modTrl_reg (p : Part) (f : TrlUnit → TrlUnit) (x : Nat) : (p.modTrl f).reg x = p.reg x := rfl
@[simp] theorem Part.modTrl_get (p : Part) (f : TrlUnit → TrlUnit) (x : Fld) : (p.modTrl f).get x = p.get x := rfl
@[simp] theorem Part.modTrl_on (p : Part) (f : TrlUnit → TrlUnit) (x : Fld) : (p.modTrl f).on x = p.on x := rfl
@[simp] theorem Part.modTrl_byte (p : Part) (f : TrlUnit → TrlUnit) (x : Nat) : (p.modTrl f).byte x = p.byte x := rfl
@[simp] theorem Part.modTrl_norByte (p : Part) (f : TrlUnit → TrlUnit) (x : Nat) : (p.modTrl f).norByte x = p.norByte x := rfl

/-! modMtr -/

@[simp] theorem Part.modMtr_regs (p : Part) (f : MtrUnit → MtrUnit) : (p.modMtr f).regs = p.regs := rfl
@[simp] theorem Part.modMtr_mem (p : Part) (f : MtrUnit → MtrUnit) : (p.modMtr f).mem = p.mem := rfl
@[simp] theorem Part.modMtr_nor (p : Part) (f : MtrUnit → MtrUnit) : (p.modMtr f).nor = p.nor := rfl
@[simp] theorem Part.modMtr_pins (p : Part) (f : MtrUnit → MtrUnit) : (p.modMtr f).pins = p.pins := rfl
@[simp] theorem Part.modMtr_sdl (p : Part) (f : MtrUnit → MtrUnit) : (p.modMtr f).sdl = p.sdl := rfl
@[simp] theorem Part.modMtr_boot (p : Part) (f : MtrUnit → MtrUnit) : (p.modMtr f).boot = p.boot := rfl
@[simp] theorem Part.modMtr_plots (p : Part) (f : MtrUnit → MtrUnit) : (p.modMtr f).plots = p.plots := rfl
@[simp] theorem Part.modMtr_hvs (p : Part) (f : MtrUnit → MtrUnit) : (p.modMtr f).hvs = p.hvs := rfl
@[simp] theorem Part.modMtr_nvme (p : Part) (f : MtrUnit → MtrUnit) : (p.modMtr f).nvme = p.nvme := rfl
@[simp] theorem Part.modMtr_wdog (p : Part) (f : MtrUnit → MtrUnit) : (p.modMtr f).wdog = p.wdog := rfl
@[simp] theorem Part.modMtr_pwr (p : Part) (f : MtrUnit → MtrUnit) : (p.modMtr f).pwr = p.pwr := rfl
@[simp] theorem Part.modMtr_rules (p : Part) (f : MtrUnit → MtrUnit) : (p.modMtr f).rules = p.rules := rfl
@[simp] theorem Part.modMtr_key (p : Part) (f : MtrUnit → MtrUnit) : (p.modMtr f).key = p.key := rfl
@[simp] theorem Part.modMtr_eth (p : Part) (f : MtrUnit → MtrUnit) : (p.modMtr f).eth = p.eth := rfl
@[simp] theorem Part.modMtr_itk (p : Part) (f : MtrUnit → MtrUnit) : (p.modMtr f).itk = p.itk := rfl
@[simp] theorem Part.modMtr_sets (p : Part) (f : MtrUnit → MtrUnit) : (p.modMtr f).sets = p.sets := rfl
@[simp] theorem Part.modMtr_vdc (p : Part) (f : MtrUnit → MtrUnit) : (p.modMtr f).vdc = p.vdc := rfl
@[simp] theorem Part.modMtr_prn (p : Part) (f : MtrUnit → MtrUnit) : (p.modMtr f).prn = p.prn := rfl
@[simp] theorem Part.modMtr_jobs (p : Part) (f : MtrUnit → MtrUnit) : (p.modMtr f).jobs = p.jobs := rfl
@[simp] theorem Part.modMtr_beds (p : Part) (f : MtrUnit → MtrUnit) : (p.modMtr f).beds = p.beds := rfl
@[simp] theorem Part.modMtr_apc (p : Part) (f : MtrUnit → MtrUnit) : (p.modMtr f).apc = p.apc := rfl
@[simp] theorem Part.modMtr_models (p : Part) (f : MtrUnit → MtrUnit) : (p.modMtr f).models = p.models := rfl
@[simp] theorem Part.modMtr_brw (p : Part) (f : MtrUnit → MtrUnit) : (p.modMtr f).brw = p.brw := rfl
@[simp] theorem Part.modMtr_dmc (p : Part) (f : MtrUnit → MtrUnit) : (p.modMtr f).dmc = p.dmc := rfl
@[simp] theorem Part.modMtr_trl (p : Part) (f : MtrUnit → MtrUnit) : (p.modMtr f).trl = p.trl := rfl
@[simp] theorem Part.modMtr_out (p : Part) (f : MtrUnit → MtrUnit) : (p.modMtr f).out = p.out := rfl
@[simp] theorem Part.modMtr_free (p : Part) (f : MtrUnit → MtrUnit) : (p.modMtr f).free = p.free := rfl
@[simp] theorem Part.modMtr_reg (p : Part) (f : MtrUnit → MtrUnit) (x : Nat) : (p.modMtr f).reg x = p.reg x := rfl
@[simp] theorem Part.modMtr_get (p : Part) (f : MtrUnit → MtrUnit) (x : Fld) : (p.modMtr f).get x = p.get x := rfl
@[simp] theorem Part.modMtr_on (p : Part) (f : MtrUnit → MtrUnit) (x : Fld) : (p.modMtr f).on x = p.on x := rfl
@[simp] theorem Part.modMtr_byte (p : Part) (f : MtrUnit → MtrUnit) (x : Nat) : (p.modMtr f).byte x = p.byte x := rfl
@[simp] theorem Part.modMtr_norByte (p : Part) (f : MtrUnit → MtrUnit) (x : Nat) : (p.modMtr f).norByte x = p.norByte x := rfl

/-! modApc -/

@[simp] theorem Part.modApc_regs (p : Part) (f : ApcUnit → ApcUnit) : (p.modApc f).regs = p.regs := rfl
@[simp] theorem Part.modApc_mem (p : Part) (f : ApcUnit → ApcUnit) : (p.modApc f).mem = p.mem := rfl
@[simp] theorem Part.modApc_nor (p : Part) (f : ApcUnit → ApcUnit) : (p.modApc f).nor = p.nor := rfl
@[simp] theorem Part.modApc_pins (p : Part) (f : ApcUnit → ApcUnit) : (p.modApc f).pins = p.pins := rfl
@[simp] theorem Part.modApc_sdl (p : Part) (f : ApcUnit → ApcUnit) : (p.modApc f).sdl = p.sdl := rfl
@[simp] theorem Part.modApc_boot (p : Part) (f : ApcUnit → ApcUnit) : (p.modApc f).boot = p.boot := rfl
@[simp] theorem Part.modApc_plots (p : Part) (f : ApcUnit → ApcUnit) : (p.modApc f).plots = p.plots := rfl
@[simp] theorem Part.modApc_hvs (p : Part) (f : ApcUnit → ApcUnit) : (p.modApc f).hvs = p.hvs := rfl
@[simp] theorem Part.modApc_nvme (p : Part) (f : ApcUnit → ApcUnit) : (p.modApc f).nvme = p.nvme := rfl
@[simp] theorem Part.modApc_wdog (p : Part) (f : ApcUnit → ApcUnit) : (p.modApc f).wdog = p.wdog := rfl
@[simp] theorem Part.modApc_pwr (p : Part) (f : ApcUnit → ApcUnit) : (p.modApc f).pwr = p.pwr := rfl
@[simp] theorem Part.modApc_rules (p : Part) (f : ApcUnit → ApcUnit) : (p.modApc f).rules = p.rules := rfl
@[simp] theorem Part.modApc_key (p : Part) (f : ApcUnit → ApcUnit) : (p.modApc f).key = p.key := rfl
@[simp] theorem Part.modApc_eth (p : Part) (f : ApcUnit → ApcUnit) : (p.modApc f).eth = p.eth := rfl
@[simp] theorem Part.modApc_itk (p : Part) (f : ApcUnit → ApcUnit) : (p.modApc f).itk = p.itk := rfl
@[simp] theorem Part.modApc_sets (p : Part) (f : ApcUnit → ApcUnit) : (p.modApc f).sets = p.sets := rfl
@[simp] theorem Part.modApc_vdc (p : Part) (f : ApcUnit → ApcUnit) : (p.modApc f).vdc = p.vdc := rfl
@[simp] theorem Part.modApc_prn (p : Part) (f : ApcUnit → ApcUnit) : (p.modApc f).prn = p.prn := rfl
@[simp] theorem Part.modApc_jobs (p : Part) (f : ApcUnit → ApcUnit) : (p.modApc f).jobs = p.jobs := rfl
@[simp] theorem Part.modApc_beds (p : Part) (f : ApcUnit → ApcUnit) : (p.modApc f).beds = p.beds := rfl
@[simp] theorem Part.modApc_models (p : Part) (f : ApcUnit → ApcUnit) : (p.modApc f).models = p.models := rfl
@[simp] theorem Part.modApc_brw (p : Part) (f : ApcUnit → ApcUnit) : (p.modApc f).brw = p.brw := rfl
@[simp] theorem Part.modApc_dmc (p : Part) (f : ApcUnit → ApcUnit) : (p.modApc f).dmc = p.dmc := rfl
@[simp] theorem Part.modApc_trl (p : Part) (f : ApcUnit → ApcUnit) : (p.modApc f).trl = p.trl := rfl
@[simp] theorem Part.modApc_mtr (p : Part) (f : ApcUnit → ApcUnit) : (p.modApc f).mtr = p.mtr := rfl
@[simp] theorem Part.modApc_out (p : Part) (f : ApcUnit → ApcUnit) : (p.modApc f).out = p.out := rfl
@[simp] theorem Part.modApc_free (p : Part) (f : ApcUnit → ApcUnit) : (p.modApc f).free = p.free := rfl
@[simp] theorem Part.modApc_reg (p : Part) (f : ApcUnit → ApcUnit) (x : Nat) : (p.modApc f).reg x = p.reg x := rfl
@[simp] theorem Part.modApc_get (p : Part) (f : ApcUnit → ApcUnit) (x : Fld) : (p.modApc f).get x = p.get x := rfl
@[simp] theorem Part.modApc_on (p : Part) (f : ApcUnit → ApcUnit) (x : Fld) : (p.modApc f).on x = p.on x := rfl
@[simp] theorem Part.modApc_byte (p : Part) (f : ApcUnit → ApcUnit) (x : Nat) : (p.modApc f).byte x = p.byte x := rfl
@[simp] theorem Part.modApc_norByte (p : Part) (f : ApcUnit → ApcUnit) (x : Nat) : (p.modApc f).norByte x = p.norByte x := rfl

/-! modPlot -/

@[simp] theorem Part.modPlot_regs (p : Part) (k : Nat) (f : PlotUnit → PlotUnit) : (p.modPlot k f).regs = p.regs := rfl
@[simp] theorem Part.modPlot_mem (p : Part) (k : Nat) (f : PlotUnit → PlotUnit) : (p.modPlot k f).mem = p.mem := rfl
@[simp] theorem Part.modPlot_nor (p : Part) (k : Nat) (f : PlotUnit → PlotUnit) : (p.modPlot k f).nor = p.nor := rfl
@[simp] theorem Part.modPlot_pins (p : Part) (k : Nat) (f : PlotUnit → PlotUnit) : (p.modPlot k f).pins = p.pins := rfl
@[simp] theorem Part.modPlot_sdl (p : Part) (k : Nat) (f : PlotUnit → PlotUnit) : (p.modPlot k f).sdl = p.sdl := rfl
@[simp] theorem Part.modPlot_boot (p : Part) (k : Nat) (f : PlotUnit → PlotUnit) : (p.modPlot k f).boot = p.boot := rfl
@[simp] theorem Part.modPlot_hvs (p : Part) (k : Nat) (f : PlotUnit → PlotUnit) : (p.modPlot k f).hvs = p.hvs := rfl
@[simp] theorem Part.modPlot_nvme (p : Part) (k : Nat) (f : PlotUnit → PlotUnit) : (p.modPlot k f).nvme = p.nvme := rfl
@[simp] theorem Part.modPlot_wdog (p : Part) (k : Nat) (f : PlotUnit → PlotUnit) : (p.modPlot k f).wdog = p.wdog := rfl
@[simp] theorem Part.modPlot_pwr (p : Part) (k : Nat) (f : PlotUnit → PlotUnit) : (p.modPlot k f).pwr = p.pwr := rfl
@[simp] theorem Part.modPlot_rules (p : Part) (k : Nat) (f : PlotUnit → PlotUnit) : (p.modPlot k f).rules = p.rules := rfl
@[simp] theorem Part.modPlot_key (p : Part) (k : Nat) (f : PlotUnit → PlotUnit) : (p.modPlot k f).key = p.key := rfl
@[simp] theorem Part.modPlot_eth (p : Part) (k : Nat) (f : PlotUnit → PlotUnit) : (p.modPlot k f).eth = p.eth := rfl
@[simp] theorem Part.modPlot_itk (p : Part) (k : Nat) (f : PlotUnit → PlotUnit) : (p.modPlot k f).itk = p.itk := rfl
@[simp] theorem Part.modPlot_sets (p : Part) (k : Nat) (f : PlotUnit → PlotUnit) : (p.modPlot k f).sets = p.sets := rfl
@[simp] theorem Part.modPlot_vdc (p : Part) (k : Nat) (f : PlotUnit → PlotUnit) : (p.modPlot k f).vdc = p.vdc := rfl
@[simp] theorem Part.modPlot_prn (p : Part) (k : Nat) (f : PlotUnit → PlotUnit) : (p.modPlot k f).prn = p.prn := rfl
@[simp] theorem Part.modPlot_jobs (p : Part) (k : Nat) (f : PlotUnit → PlotUnit) : (p.modPlot k f).jobs = p.jobs := rfl
@[simp] theorem Part.modPlot_beds (p : Part) (k : Nat) (f : PlotUnit → PlotUnit) : (p.modPlot k f).beds = p.beds := rfl
@[simp] theorem Part.modPlot_apc (p : Part) (k : Nat) (f : PlotUnit → PlotUnit) : (p.modPlot k f).apc = p.apc := rfl
@[simp] theorem Part.modPlot_models (p : Part) (k : Nat) (f : PlotUnit → PlotUnit) : (p.modPlot k f).models = p.models := rfl
@[simp] theorem Part.modPlot_brw (p : Part) (k : Nat) (f : PlotUnit → PlotUnit) : (p.modPlot k f).brw = p.brw := rfl
@[simp] theorem Part.modPlot_dmc (p : Part) (k : Nat) (f : PlotUnit → PlotUnit) : (p.modPlot k f).dmc = p.dmc := rfl
@[simp] theorem Part.modPlot_trl (p : Part) (k : Nat) (f : PlotUnit → PlotUnit) : (p.modPlot k f).trl = p.trl := rfl
@[simp] theorem Part.modPlot_mtr (p : Part) (k : Nat) (f : PlotUnit → PlotUnit) : (p.modPlot k f).mtr = p.mtr := rfl
@[simp] theorem Part.modPlot_out (p : Part) (k : Nat) (f : PlotUnit → PlotUnit) : (p.modPlot k f).out = p.out := rfl
@[simp] theorem Part.modPlot_free (p : Part) (k : Nat) (f : PlotUnit → PlotUnit) : (p.modPlot k f).free = p.free := rfl
@[simp] theorem Part.modPlot_reg (p : Part) (k : Nat) (f : PlotUnit → PlotUnit) (x : Nat) : (p.modPlot k f).reg x = p.reg x := rfl
@[simp] theorem Part.modPlot_get (p : Part) (k : Nat) (f : PlotUnit → PlotUnit) (x : Fld) : (p.modPlot k f).get x = p.get x := rfl
@[simp] theorem Part.modPlot_on (p : Part) (k : Nat) (f : PlotUnit → PlotUnit) (x : Fld) : (p.modPlot k f).on x = p.on x := rfl
@[simp] theorem Part.modPlot_byte (p : Part) (k : Nat) (f : PlotUnit → PlotUnit) (x : Nat) : (p.modPlot k f).byte x = p.byte x := rfl
@[simp] theorem Part.modPlot_norByte (p : Part) (k : Nat) (f : PlotUnit → PlotUnit) (x : Nat) : (p.modPlot k f).norByte x = p.norByte x := rfl

/-! modHv -/

@[simp] theorem Part.modHv_regs (p : Part) (k : Nat) (f : HvsPlot → HvsPlot) : (p.modHv k f).regs = p.regs := rfl
@[simp] theorem Part.modHv_mem (p : Part) (k : Nat) (f : HvsPlot → HvsPlot) : (p.modHv k f).mem = p.mem := rfl
@[simp] theorem Part.modHv_nor (p : Part) (k : Nat) (f : HvsPlot → HvsPlot) : (p.modHv k f).nor = p.nor := rfl
@[simp] theorem Part.modHv_pins (p : Part) (k : Nat) (f : HvsPlot → HvsPlot) : (p.modHv k f).pins = p.pins := rfl
@[simp] theorem Part.modHv_sdl (p : Part) (k : Nat) (f : HvsPlot → HvsPlot) : (p.modHv k f).sdl = p.sdl := rfl
@[simp] theorem Part.modHv_boot (p : Part) (k : Nat) (f : HvsPlot → HvsPlot) : (p.modHv k f).boot = p.boot := rfl
@[simp] theorem Part.modHv_plots (p : Part) (k : Nat) (f : HvsPlot → HvsPlot) : (p.modHv k f).plots = p.plots := rfl
@[simp] theorem Part.modHv_nvme (p : Part) (k : Nat) (f : HvsPlot → HvsPlot) : (p.modHv k f).nvme = p.nvme := rfl
@[simp] theorem Part.modHv_wdog (p : Part) (k : Nat) (f : HvsPlot → HvsPlot) : (p.modHv k f).wdog = p.wdog := rfl
@[simp] theorem Part.modHv_pwr (p : Part) (k : Nat) (f : HvsPlot → HvsPlot) : (p.modHv k f).pwr = p.pwr := rfl
@[simp] theorem Part.modHv_rules (p : Part) (k : Nat) (f : HvsPlot → HvsPlot) : (p.modHv k f).rules = p.rules := rfl
@[simp] theorem Part.modHv_key (p : Part) (k : Nat) (f : HvsPlot → HvsPlot) : (p.modHv k f).key = p.key := rfl
@[simp] theorem Part.modHv_eth (p : Part) (k : Nat) (f : HvsPlot → HvsPlot) : (p.modHv k f).eth = p.eth := rfl
@[simp] theorem Part.modHv_itk (p : Part) (k : Nat) (f : HvsPlot → HvsPlot) : (p.modHv k f).itk = p.itk := rfl
@[simp] theorem Part.modHv_sets (p : Part) (k : Nat) (f : HvsPlot → HvsPlot) : (p.modHv k f).sets = p.sets := rfl
@[simp] theorem Part.modHv_vdc (p : Part) (k : Nat) (f : HvsPlot → HvsPlot) : (p.modHv k f).vdc = p.vdc := rfl
@[simp] theorem Part.modHv_prn (p : Part) (k : Nat) (f : HvsPlot → HvsPlot) : (p.modHv k f).prn = p.prn := rfl
@[simp] theorem Part.modHv_jobs (p : Part) (k : Nat) (f : HvsPlot → HvsPlot) : (p.modHv k f).jobs = p.jobs := rfl
@[simp] theorem Part.modHv_beds (p : Part) (k : Nat) (f : HvsPlot → HvsPlot) : (p.modHv k f).beds = p.beds := rfl
@[simp] theorem Part.modHv_apc (p : Part) (k : Nat) (f : HvsPlot → HvsPlot) : (p.modHv k f).apc = p.apc := rfl
@[simp] theorem Part.modHv_models (p : Part) (k : Nat) (f : HvsPlot → HvsPlot) : (p.modHv k f).models = p.models := rfl
@[simp] theorem Part.modHv_brw (p : Part) (k : Nat) (f : HvsPlot → HvsPlot) : (p.modHv k f).brw = p.brw := rfl
@[simp] theorem Part.modHv_dmc (p : Part) (k : Nat) (f : HvsPlot → HvsPlot) : (p.modHv k f).dmc = p.dmc := rfl
@[simp] theorem Part.modHv_trl (p : Part) (k : Nat) (f : HvsPlot → HvsPlot) : (p.modHv k f).trl = p.trl := rfl
@[simp] theorem Part.modHv_mtr (p : Part) (k : Nat) (f : HvsPlot → HvsPlot) : (p.modHv k f).mtr = p.mtr := rfl
@[simp] theorem Part.modHv_out (p : Part) (k : Nat) (f : HvsPlot → HvsPlot) : (p.modHv k f).out = p.out := rfl
@[simp] theorem Part.modHv_free (p : Part) (k : Nat) (f : HvsPlot → HvsPlot) : (p.modHv k f).free = p.free := rfl
@[simp] theorem Part.modHv_reg (p : Part) (k : Nat) (f : HvsPlot → HvsPlot) (x : Nat) : (p.modHv k f).reg x = p.reg x := rfl
@[simp] theorem Part.modHv_get (p : Part) (k : Nat) (f : HvsPlot → HvsPlot) (x : Fld) : (p.modHv k f).get x = p.get x := rfl
@[simp] theorem Part.modHv_on (p : Part) (k : Nat) (f : HvsPlot → HvsPlot) (x : Fld) : (p.modHv k f).on x = p.on x := rfl
@[simp] theorem Part.modHv_byte (p : Part) (k : Nat) (f : HvsPlot → HvsPlot) (x : Nat) : (p.modHv k f).byte x = p.byte x := rfl
@[simp] theorem Part.modHv_norByte (p : Part) (k : Nat) (f : HvsPlot → HvsPlot) (x : Nat) : (p.modHv k f).norByte x = p.norByte x := rfl

/-! setRule -/

@[simp] theorem Part.setRule_regs (p : Part) (k : Nat) (u : RuleState) : (p.setRule k u).regs = p.regs := rfl
@[simp] theorem Part.setRule_mem (p : Part) (k : Nat) (u : RuleState) : (p.setRule k u).mem = p.mem := rfl
@[simp] theorem Part.setRule_nor (p : Part) (k : Nat) (u : RuleState) : (p.setRule k u).nor = p.nor := rfl
@[simp] theorem Part.setRule_pins (p : Part) (k : Nat) (u : RuleState) : (p.setRule k u).pins = p.pins := rfl
@[simp] theorem Part.setRule_sdl (p : Part) (k : Nat) (u : RuleState) : (p.setRule k u).sdl = p.sdl := rfl
@[simp] theorem Part.setRule_boot (p : Part) (k : Nat) (u : RuleState) : (p.setRule k u).boot = p.boot := rfl
@[simp] theorem Part.setRule_plots (p : Part) (k : Nat) (u : RuleState) : (p.setRule k u).plots = p.plots := rfl
@[simp] theorem Part.setRule_hvs (p : Part) (k : Nat) (u : RuleState) : (p.setRule k u).hvs = p.hvs := rfl
@[simp] theorem Part.setRule_nvme (p : Part) (k : Nat) (u : RuleState) : (p.setRule k u).nvme = p.nvme := rfl
@[simp] theorem Part.setRule_wdog (p : Part) (k : Nat) (u : RuleState) : (p.setRule k u).wdog = p.wdog := rfl
@[simp] theorem Part.setRule_pwr (p : Part) (k : Nat) (u : RuleState) : (p.setRule k u).pwr = p.pwr := rfl
@[simp] theorem Part.setRule_key (p : Part) (k : Nat) (u : RuleState) : (p.setRule k u).key = p.key := rfl
@[simp] theorem Part.setRule_eth (p : Part) (k : Nat) (u : RuleState) : (p.setRule k u).eth = p.eth := rfl
@[simp] theorem Part.setRule_itk (p : Part) (k : Nat) (u : RuleState) : (p.setRule k u).itk = p.itk := rfl
@[simp] theorem Part.setRule_sets (p : Part) (k : Nat) (u : RuleState) : (p.setRule k u).sets = p.sets := rfl
@[simp] theorem Part.setRule_vdc (p : Part) (k : Nat) (u : RuleState) : (p.setRule k u).vdc = p.vdc := rfl
@[simp] theorem Part.setRule_prn (p : Part) (k : Nat) (u : RuleState) : (p.setRule k u).prn = p.prn := rfl
@[simp] theorem Part.setRule_jobs (p : Part) (k : Nat) (u : RuleState) : (p.setRule k u).jobs = p.jobs := rfl
@[simp] theorem Part.setRule_beds (p : Part) (k : Nat) (u : RuleState) : (p.setRule k u).beds = p.beds := rfl
@[simp] theorem Part.setRule_apc (p : Part) (k : Nat) (u : RuleState) : (p.setRule k u).apc = p.apc := rfl
@[simp] theorem Part.setRule_models (p : Part) (k : Nat) (u : RuleState) : (p.setRule k u).models = p.models := rfl
@[simp] theorem Part.setRule_brw (p : Part) (k : Nat) (u : RuleState) : (p.setRule k u).brw = p.brw := rfl
@[simp] theorem Part.setRule_dmc (p : Part) (k : Nat) (u : RuleState) : (p.setRule k u).dmc = p.dmc := rfl
@[simp] theorem Part.setRule_trl (p : Part) (k : Nat) (u : RuleState) : (p.setRule k u).trl = p.trl := rfl
@[simp] theorem Part.setRule_mtr (p : Part) (k : Nat) (u : RuleState) : (p.setRule k u).mtr = p.mtr := rfl
@[simp] theorem Part.setRule_out (p : Part) (k : Nat) (u : RuleState) : (p.setRule k u).out = p.out := rfl
@[simp] theorem Part.setRule_free (p : Part) (k : Nat) (u : RuleState) : (p.setRule k u).free = p.free := rfl
@[simp] theorem Part.setRule_reg (p : Part) (k : Nat) (u : RuleState) (x : Nat) : (p.setRule k u).reg x = p.reg x := rfl
@[simp] theorem Part.setRule_get (p : Part) (k : Nat) (u : RuleState) (x : Fld) : (p.setRule k u).get x = p.get x := rfl
@[simp] theorem Part.setRule_on (p : Part) (k : Nat) (u : RuleState) (x : Fld) : (p.setRule k u).on x = p.on x := rfl
@[simp] theorem Part.setRule_byte (p : Part) (k : Nat) (u : RuleState) (x : Nat) : (p.setRule k u).byte x = p.byte x := rfl
@[simp] theorem Part.setRule_norByte (p : Part) (k : Nat) (u : RuleState) (x : Nat) : (p.setRule k u).norByte x = p.norByte x := rfl

/-! modCtx -/

@[simp] theorem Part.modCtx_regs (p : Part) (k : Nat) (f : ItkCtx → ItkCtx) : (p.modCtx k f).regs = p.regs := rfl
@[simp] theorem Part.modCtx_mem (p : Part) (k : Nat) (f : ItkCtx → ItkCtx) : (p.modCtx k f).mem = p.mem := rfl
@[simp] theorem Part.modCtx_nor (p : Part) (k : Nat) (f : ItkCtx → ItkCtx) : (p.modCtx k f).nor = p.nor := rfl
@[simp] theorem Part.modCtx_pins (p : Part) (k : Nat) (f : ItkCtx → ItkCtx) : (p.modCtx k f).pins = p.pins := rfl
@[simp] theorem Part.modCtx_sdl (p : Part) (k : Nat) (f : ItkCtx → ItkCtx) : (p.modCtx k f).sdl = p.sdl := rfl
@[simp] theorem Part.modCtx_boot (p : Part) (k : Nat) (f : ItkCtx → ItkCtx) : (p.modCtx k f).boot = p.boot := rfl
@[simp] theorem Part.modCtx_plots (p : Part) (k : Nat) (f : ItkCtx → ItkCtx) : (p.modCtx k f).plots = p.plots := rfl
@[simp] theorem Part.modCtx_hvs (p : Part) (k : Nat) (f : ItkCtx → ItkCtx) : (p.modCtx k f).hvs = p.hvs := rfl
@[simp] theorem Part.modCtx_nvme (p : Part) (k : Nat) (f : ItkCtx → ItkCtx) : (p.modCtx k f).nvme = p.nvme := rfl
@[simp] theorem Part.modCtx_wdog (p : Part) (k : Nat) (f : ItkCtx → ItkCtx) : (p.modCtx k f).wdog = p.wdog := rfl
@[simp] theorem Part.modCtx_pwr (p : Part) (k : Nat) (f : ItkCtx → ItkCtx) : (p.modCtx k f).pwr = p.pwr := rfl
@[simp] theorem Part.modCtx_rules (p : Part) (k : Nat) (f : ItkCtx → ItkCtx) : (p.modCtx k f).rules = p.rules := rfl
@[simp] theorem Part.modCtx_key (p : Part) (k : Nat) (f : ItkCtx → ItkCtx) : (p.modCtx k f).key = p.key := rfl
@[simp] theorem Part.modCtx_eth (p : Part) (k : Nat) (f : ItkCtx → ItkCtx) : (p.modCtx k f).eth = p.eth := rfl
@[simp] theorem Part.modCtx_sets (p : Part) (k : Nat) (f : ItkCtx → ItkCtx) : (p.modCtx k f).sets = p.sets := rfl
@[simp] theorem Part.modCtx_vdc (p : Part) (k : Nat) (f : ItkCtx → ItkCtx) : (p.modCtx k f).vdc = p.vdc := rfl
@[simp] theorem Part.modCtx_prn (p : Part) (k : Nat) (f : ItkCtx → ItkCtx) : (p.modCtx k f).prn = p.prn := rfl
@[simp] theorem Part.modCtx_jobs (p : Part) (k : Nat) (f : ItkCtx → ItkCtx) : (p.modCtx k f).jobs = p.jobs := rfl
@[simp] theorem Part.modCtx_beds (p : Part) (k : Nat) (f : ItkCtx → ItkCtx) : (p.modCtx k f).beds = p.beds := rfl
@[simp] theorem Part.modCtx_apc (p : Part) (k : Nat) (f : ItkCtx → ItkCtx) : (p.modCtx k f).apc = p.apc := rfl
@[simp] theorem Part.modCtx_models (p : Part) (k : Nat) (f : ItkCtx → ItkCtx) : (p.modCtx k f).models = p.models := rfl
@[simp] theorem Part.modCtx_brw (p : Part) (k : Nat) (f : ItkCtx → ItkCtx) : (p.modCtx k f).brw = p.brw := rfl
@[simp] theorem Part.modCtx_dmc (p : Part) (k : Nat) (f : ItkCtx → ItkCtx) : (p.modCtx k f).dmc = p.dmc := rfl
@[simp] theorem Part.modCtx_trl (p : Part) (k : Nat) (f : ItkCtx → ItkCtx) : (p.modCtx k f).trl = p.trl := rfl
@[simp] theorem Part.modCtx_mtr (p : Part) (k : Nat) (f : ItkCtx → ItkCtx) : (p.modCtx k f).mtr = p.mtr := rfl
@[simp] theorem Part.modCtx_out (p : Part) (k : Nat) (f : ItkCtx → ItkCtx) : (p.modCtx k f).out = p.out := rfl
@[simp] theorem Part.modCtx_free (p : Part) (k : Nat) (f : ItkCtx → ItkCtx) : (p.modCtx k f).free = p.free := rfl
@[simp] theorem Part.modCtx_reg (p : Part) (k : Nat) (f : ItkCtx → ItkCtx) (x : Nat) : (p.modCtx k f).reg x = p.reg x := rfl
@[simp] theorem Part.modCtx_get (p : Part) (k : Nat) (f : ItkCtx → ItkCtx) (x : Fld) : (p.modCtx k f).get x = p.get x := rfl
@[simp] theorem Part.modCtx_on (p : Part) (k : Nat) (f : ItkCtx → ItkCtx) (x : Fld) : (p.modCtx k f).on x = p.on x := rfl
@[simp] theorem Part.modCtx_byte (p : Part) (k : Nat) (f : ItkCtx → ItkCtx) (x : Nat) : (p.modCtx k f).byte x = p.byte x := rfl
@[simp] theorem Part.modCtx_norByte (p : Part) (k : Nat) (f : ItkCtx → ItkCtx) (x : Nat) : (p.modCtx k f).norByte x = p.norByte x := rfl

/-! setAset -/

@[simp] theorem Part.setAset_regs (p : Part) (k : Nat) (u : ItkSet) : (p.setAset k u).regs = p.regs := rfl
@[simp] theorem Part.setAset_mem (p : Part) (k : Nat) (u : ItkSet) : (p.setAset k u).mem = p.mem := rfl
@[simp] theorem Part.setAset_nor (p : Part) (k : Nat) (u : ItkSet) : (p.setAset k u).nor = p.nor := rfl
@[simp] theorem Part.setAset_pins (p : Part) (k : Nat) (u : ItkSet) : (p.setAset k u).pins = p.pins := rfl
@[simp] theorem Part.setAset_sdl (p : Part) (k : Nat) (u : ItkSet) : (p.setAset k u).sdl = p.sdl := rfl
@[simp] theorem Part.setAset_boot (p : Part) (k : Nat) (u : ItkSet) : (p.setAset k u).boot = p.boot := rfl
@[simp] theorem Part.setAset_plots (p : Part) (k : Nat) (u : ItkSet) : (p.setAset k u).plots = p.plots := rfl
@[simp] theorem Part.setAset_hvs (p : Part) (k : Nat) (u : ItkSet) : (p.setAset k u).hvs = p.hvs := rfl
@[simp] theorem Part.setAset_nvme (p : Part) (k : Nat) (u : ItkSet) : (p.setAset k u).nvme = p.nvme := rfl
@[simp] theorem Part.setAset_wdog (p : Part) (k : Nat) (u : ItkSet) : (p.setAset k u).wdog = p.wdog := rfl
@[simp] theorem Part.setAset_pwr (p : Part) (k : Nat) (u : ItkSet) : (p.setAset k u).pwr = p.pwr := rfl
@[simp] theorem Part.setAset_rules (p : Part) (k : Nat) (u : ItkSet) : (p.setAset k u).rules = p.rules := rfl
@[simp] theorem Part.setAset_key (p : Part) (k : Nat) (u : ItkSet) : (p.setAset k u).key = p.key := rfl
@[simp] theorem Part.setAset_eth (p : Part) (k : Nat) (u : ItkSet) : (p.setAset k u).eth = p.eth := rfl
@[simp] theorem Part.setAset_itk (p : Part) (k : Nat) (u : ItkSet) : (p.setAset k u).itk = p.itk := rfl
@[simp] theorem Part.setAset_vdc (p : Part) (k : Nat) (u : ItkSet) : (p.setAset k u).vdc = p.vdc := rfl
@[simp] theorem Part.setAset_prn (p : Part) (k : Nat) (u : ItkSet) : (p.setAset k u).prn = p.prn := rfl
@[simp] theorem Part.setAset_jobs (p : Part) (k : Nat) (u : ItkSet) : (p.setAset k u).jobs = p.jobs := rfl
@[simp] theorem Part.setAset_beds (p : Part) (k : Nat) (u : ItkSet) : (p.setAset k u).beds = p.beds := rfl
@[simp] theorem Part.setAset_apc (p : Part) (k : Nat) (u : ItkSet) : (p.setAset k u).apc = p.apc := rfl
@[simp] theorem Part.setAset_models (p : Part) (k : Nat) (u : ItkSet) : (p.setAset k u).models = p.models := rfl
@[simp] theorem Part.setAset_brw (p : Part) (k : Nat) (u : ItkSet) : (p.setAset k u).brw = p.brw := rfl
@[simp] theorem Part.setAset_dmc (p : Part) (k : Nat) (u : ItkSet) : (p.setAset k u).dmc = p.dmc := rfl
@[simp] theorem Part.setAset_trl (p : Part) (k : Nat) (u : ItkSet) : (p.setAset k u).trl = p.trl := rfl
@[simp] theorem Part.setAset_mtr (p : Part) (k : Nat) (u : ItkSet) : (p.setAset k u).mtr = p.mtr := rfl
@[simp] theorem Part.setAset_out (p : Part) (k : Nat) (u : ItkSet) : (p.setAset k u).out = p.out := rfl
@[simp] theorem Part.setAset_free (p : Part) (k : Nat) (u : ItkSet) : (p.setAset k u).free = p.free := rfl
@[simp] theorem Part.setAset_reg (p : Part) (k : Nat) (u : ItkSet) (x : Nat) : (p.setAset k u).reg x = p.reg x := rfl
@[simp] theorem Part.setAset_get (p : Part) (k : Nat) (u : ItkSet) (x : Fld) : (p.setAset k u).get x = p.get x := rfl
@[simp] theorem Part.setAset_on (p : Part) (k : Nat) (u : ItkSet) (x : Fld) : (p.setAset k u).on x = p.on x := rfl
@[simp] theorem Part.setAset_byte (p : Part) (k : Nat) (u : ItkSet) (x : Nat) : (p.setAset k u).byte x = p.byte x := rfl
@[simp] theorem Part.setAset_norByte (p : Part) (k : Nat) (u : ItkSet) (x : Nat) : (p.setAset k u).norByte x = p.norByte x := rfl

/-! modDec -/

@[simp] theorem Part.modDec_regs (p : Part) (k : Nat) (f : DecStream → DecStream) : (p.modDec k f).regs = p.regs := rfl
@[simp] theorem Part.modDec_mem (p : Part) (k : Nat) (f : DecStream → DecStream) : (p.modDec k f).mem = p.mem := rfl
@[simp] theorem Part.modDec_nor (p : Part) (k : Nat) (f : DecStream → DecStream) : (p.modDec k f).nor = p.nor := rfl
@[simp] theorem Part.modDec_pins (p : Part) (k : Nat) (f : DecStream → DecStream) : (p.modDec k f).pins = p.pins := rfl
@[simp] theorem Part.modDec_sdl (p : Part) (k : Nat) (f : DecStream → DecStream) : (p.modDec k f).sdl = p.sdl := rfl
@[simp] theorem Part.modDec_boot (p : Part) (k : Nat) (f : DecStream → DecStream) : (p.modDec k f).boot = p.boot := rfl
@[simp] theorem Part.modDec_plots (p : Part) (k : Nat) (f : DecStream → DecStream) : (p.modDec k f).plots = p.plots := rfl
@[simp] theorem Part.modDec_hvs (p : Part) (k : Nat) (f : DecStream → DecStream) : (p.modDec k f).hvs = p.hvs := rfl
@[simp] theorem Part.modDec_nvme (p : Part) (k : Nat) (f : DecStream → DecStream) : (p.modDec k f).nvme = p.nvme := rfl
@[simp] theorem Part.modDec_wdog (p : Part) (k : Nat) (f : DecStream → DecStream) : (p.modDec k f).wdog = p.wdog := rfl
@[simp] theorem Part.modDec_pwr (p : Part) (k : Nat) (f : DecStream → DecStream) : (p.modDec k f).pwr = p.pwr := rfl
@[simp] theorem Part.modDec_rules (p : Part) (k : Nat) (f : DecStream → DecStream) : (p.modDec k f).rules = p.rules := rfl
@[simp] theorem Part.modDec_key (p : Part) (k : Nat) (f : DecStream → DecStream) : (p.modDec k f).key = p.key := rfl
@[simp] theorem Part.modDec_eth (p : Part) (k : Nat) (f : DecStream → DecStream) : (p.modDec k f).eth = p.eth := rfl
@[simp] theorem Part.modDec_itk (p : Part) (k : Nat) (f : DecStream → DecStream) : (p.modDec k f).itk = p.itk := rfl
@[simp] theorem Part.modDec_sets (p : Part) (k : Nat) (f : DecStream → DecStream) : (p.modDec k f).sets = p.sets := rfl
@[simp] theorem Part.modDec_prn (p : Part) (k : Nat) (f : DecStream → DecStream) : (p.modDec k f).prn = p.prn := rfl
@[simp] theorem Part.modDec_jobs (p : Part) (k : Nat) (f : DecStream → DecStream) : (p.modDec k f).jobs = p.jobs := rfl
@[simp] theorem Part.modDec_beds (p : Part) (k : Nat) (f : DecStream → DecStream) : (p.modDec k f).beds = p.beds := rfl
@[simp] theorem Part.modDec_apc (p : Part) (k : Nat) (f : DecStream → DecStream) : (p.modDec k f).apc = p.apc := rfl
@[simp] theorem Part.modDec_models (p : Part) (k : Nat) (f : DecStream → DecStream) : (p.modDec k f).models = p.models := rfl
@[simp] theorem Part.modDec_brw (p : Part) (k : Nat) (f : DecStream → DecStream) : (p.modDec k f).brw = p.brw := rfl
@[simp] theorem Part.modDec_dmc (p : Part) (k : Nat) (f : DecStream → DecStream) : (p.modDec k f).dmc = p.dmc := rfl
@[simp] theorem Part.modDec_trl (p : Part) (k : Nat) (f : DecStream → DecStream) : (p.modDec k f).trl = p.trl := rfl
@[simp] theorem Part.modDec_mtr (p : Part) (k : Nat) (f : DecStream → DecStream) : (p.modDec k f).mtr = p.mtr := rfl
@[simp] theorem Part.modDec_out (p : Part) (k : Nat) (f : DecStream → DecStream) : (p.modDec k f).out = p.out := rfl
@[simp] theorem Part.modDec_free (p : Part) (k : Nat) (f : DecStream → DecStream) : (p.modDec k f).free = p.free := rfl
@[simp] theorem Part.modDec_reg (p : Part) (k : Nat) (f : DecStream → DecStream) (x : Nat) : (p.modDec k f).reg x = p.reg x := rfl
@[simp] theorem Part.modDec_get (p : Part) (k : Nat) (f : DecStream → DecStream) (x : Fld) : (p.modDec k f).get x = p.get x := rfl
@[simp] theorem Part.modDec_on (p : Part) (k : Nat) (f : DecStream → DecStream) (x : Fld) : (p.modDec k f).on x = p.on x := rfl
@[simp] theorem Part.modDec_byte (p : Part) (k : Nat) (f : DecStream → DecStream) (x : Nat) : (p.modDec k f).byte x = p.byte x := rfl
@[simp] theorem Part.modDec_norByte (p : Part) (k : Nat) (f : DecStream → DecStream) (x : Nat) : (p.modDec k f).norByte x = p.norByte x := rfl

/-! modPrnPipe -/

@[simp] theorem Part.modPrnPipe_regs (p : Part) (k : Nat) (f : PrnPipe → PrnPipe) : (p.modPrnPipe k f).regs = p.regs := rfl
@[simp] theorem Part.modPrnPipe_mem (p : Part) (k : Nat) (f : PrnPipe → PrnPipe) : (p.modPrnPipe k f).mem = p.mem := rfl
@[simp] theorem Part.modPrnPipe_nor (p : Part) (k : Nat) (f : PrnPipe → PrnPipe) : (p.modPrnPipe k f).nor = p.nor := rfl
@[simp] theorem Part.modPrnPipe_pins (p : Part) (k : Nat) (f : PrnPipe → PrnPipe) : (p.modPrnPipe k f).pins = p.pins := rfl
@[simp] theorem Part.modPrnPipe_sdl (p : Part) (k : Nat) (f : PrnPipe → PrnPipe) : (p.modPrnPipe k f).sdl = p.sdl := rfl
@[simp] theorem Part.modPrnPipe_boot (p : Part) (k : Nat) (f : PrnPipe → PrnPipe) : (p.modPrnPipe k f).boot = p.boot := rfl
@[simp] theorem Part.modPrnPipe_plots (p : Part) (k : Nat) (f : PrnPipe → PrnPipe) : (p.modPrnPipe k f).plots = p.plots := rfl
@[simp] theorem Part.modPrnPipe_hvs (p : Part) (k : Nat) (f : PrnPipe → PrnPipe) : (p.modPrnPipe k f).hvs = p.hvs := rfl
@[simp] theorem Part.modPrnPipe_nvme (p : Part) (k : Nat) (f : PrnPipe → PrnPipe) : (p.modPrnPipe k f).nvme = p.nvme := rfl
@[simp] theorem Part.modPrnPipe_wdog (p : Part) (k : Nat) (f : PrnPipe → PrnPipe) : (p.modPrnPipe k f).wdog = p.wdog := rfl
@[simp] theorem Part.modPrnPipe_pwr (p : Part) (k : Nat) (f : PrnPipe → PrnPipe) : (p.modPrnPipe k f).pwr = p.pwr := rfl
@[simp] theorem Part.modPrnPipe_rules (p : Part) (k : Nat) (f : PrnPipe → PrnPipe) : (p.modPrnPipe k f).rules = p.rules := rfl
@[simp] theorem Part.modPrnPipe_key (p : Part) (k : Nat) (f : PrnPipe → PrnPipe) : (p.modPrnPipe k f).key = p.key := rfl
@[simp] theorem Part.modPrnPipe_eth (p : Part) (k : Nat) (f : PrnPipe → PrnPipe) : (p.modPrnPipe k f).eth = p.eth := rfl
@[simp] theorem Part.modPrnPipe_itk (p : Part) (k : Nat) (f : PrnPipe → PrnPipe) : (p.modPrnPipe k f).itk = p.itk := rfl
@[simp] theorem Part.modPrnPipe_sets (p : Part) (k : Nat) (f : PrnPipe → PrnPipe) : (p.modPrnPipe k f).sets = p.sets := rfl
@[simp] theorem Part.modPrnPipe_vdc (p : Part) (k : Nat) (f : PrnPipe → PrnPipe) : (p.modPrnPipe k f).vdc = p.vdc := rfl
@[simp] theorem Part.modPrnPipe_jobs (p : Part) (k : Nat) (f : PrnPipe → PrnPipe) : (p.modPrnPipe k f).jobs = p.jobs := rfl
@[simp] theorem Part.modPrnPipe_beds (p : Part) (k : Nat) (f : PrnPipe → PrnPipe) : (p.modPrnPipe k f).beds = p.beds := rfl
@[simp] theorem Part.modPrnPipe_apc (p : Part) (k : Nat) (f : PrnPipe → PrnPipe) : (p.modPrnPipe k f).apc = p.apc := rfl
@[simp] theorem Part.modPrnPipe_models (p : Part) (k : Nat) (f : PrnPipe → PrnPipe) : (p.modPrnPipe k f).models = p.models := rfl
@[simp] theorem Part.modPrnPipe_brw (p : Part) (k : Nat) (f : PrnPipe → PrnPipe) : (p.modPrnPipe k f).brw = p.brw := rfl
@[simp] theorem Part.modPrnPipe_dmc (p : Part) (k : Nat) (f : PrnPipe → PrnPipe) : (p.modPrnPipe k f).dmc = p.dmc := rfl
@[simp] theorem Part.modPrnPipe_trl (p : Part) (k : Nat) (f : PrnPipe → PrnPipe) : (p.modPrnPipe k f).trl = p.trl := rfl
@[simp] theorem Part.modPrnPipe_mtr (p : Part) (k : Nat) (f : PrnPipe → PrnPipe) : (p.modPrnPipe k f).mtr = p.mtr := rfl
@[simp] theorem Part.modPrnPipe_out (p : Part) (k : Nat) (f : PrnPipe → PrnPipe) : (p.modPrnPipe k f).out = p.out := rfl
@[simp] theorem Part.modPrnPipe_free (p : Part) (k : Nat) (f : PrnPipe → PrnPipe) : (p.modPrnPipe k f).free = p.free := rfl
@[simp] theorem Part.modPrnPipe_reg (p : Part) (k : Nat) (f : PrnPipe → PrnPipe) (x : Nat) : (p.modPrnPipe k f).reg x = p.reg x := rfl
@[simp] theorem Part.modPrnPipe_get (p : Part) (k : Nat) (f : PrnPipe → PrnPipe) (x : Fld) : (p.modPrnPipe k f).get x = p.get x := rfl
@[simp] theorem Part.modPrnPipe_on (p : Part) (k : Nat) (f : PrnPipe → PrnPipe) (x : Fld) : (p.modPrnPipe k f).on x = p.on x := rfl
@[simp] theorem Part.modPrnPipe_byte (p : Part) (k : Nat) (f : PrnPipe → PrnPipe) (x : Nat) : (p.modPrnPipe k f).byte x = p.byte x := rfl
@[simp] theorem Part.modPrnPipe_norByte (p : Part) (k : Nat) (f : PrnPipe → PrnPipe) (x : Nat) : (p.modPrnPipe k f).norByte x = p.norByte x := rfl

/-! modGrp -/

@[simp] theorem Part.modGrp_regs (p : Part) (k : Nat) (f : PrnGrp → PrnGrp) : (p.modGrp k f).regs = p.regs := rfl
@[simp] theorem Part.modGrp_mem (p : Part) (k : Nat) (f : PrnGrp → PrnGrp) : (p.modGrp k f).mem = p.mem := rfl
@[simp] theorem Part.modGrp_nor (p : Part) (k : Nat) (f : PrnGrp → PrnGrp) : (p.modGrp k f).nor = p.nor := rfl
@[simp] theorem Part.modGrp_pins (p : Part) (k : Nat) (f : PrnGrp → PrnGrp) : (p.modGrp k f).pins = p.pins := rfl
@[simp] theorem Part.modGrp_sdl (p : Part) (k : Nat) (f : PrnGrp → PrnGrp) : (p.modGrp k f).sdl = p.sdl := rfl
@[simp] theorem Part.modGrp_boot (p : Part) (k : Nat) (f : PrnGrp → PrnGrp) : (p.modGrp k f).boot = p.boot := rfl
@[simp] theorem Part.modGrp_plots (p : Part) (k : Nat) (f : PrnGrp → PrnGrp) : (p.modGrp k f).plots = p.plots := rfl
@[simp] theorem Part.modGrp_hvs (p : Part) (k : Nat) (f : PrnGrp → PrnGrp) : (p.modGrp k f).hvs = p.hvs := rfl
@[simp] theorem Part.modGrp_nvme (p : Part) (k : Nat) (f : PrnGrp → PrnGrp) : (p.modGrp k f).nvme = p.nvme := rfl
@[simp] theorem Part.modGrp_wdog (p : Part) (k : Nat) (f : PrnGrp → PrnGrp) : (p.modGrp k f).wdog = p.wdog := rfl
@[simp] theorem Part.modGrp_pwr (p : Part) (k : Nat) (f : PrnGrp → PrnGrp) : (p.modGrp k f).pwr = p.pwr := rfl
@[simp] theorem Part.modGrp_rules (p : Part) (k : Nat) (f : PrnGrp → PrnGrp) : (p.modGrp k f).rules = p.rules := rfl
@[simp] theorem Part.modGrp_key (p : Part) (k : Nat) (f : PrnGrp → PrnGrp) : (p.modGrp k f).key = p.key := rfl
@[simp] theorem Part.modGrp_eth (p : Part) (k : Nat) (f : PrnGrp → PrnGrp) : (p.modGrp k f).eth = p.eth := rfl
@[simp] theorem Part.modGrp_itk (p : Part) (k : Nat) (f : PrnGrp → PrnGrp) : (p.modGrp k f).itk = p.itk := rfl
@[simp] theorem Part.modGrp_sets (p : Part) (k : Nat) (f : PrnGrp → PrnGrp) : (p.modGrp k f).sets = p.sets := rfl
@[simp] theorem Part.modGrp_vdc (p : Part) (k : Nat) (f : PrnGrp → PrnGrp) : (p.modGrp k f).vdc = p.vdc := rfl
@[simp] theorem Part.modGrp_jobs (p : Part) (k : Nat) (f : PrnGrp → PrnGrp) : (p.modGrp k f).jobs = p.jobs := rfl
@[simp] theorem Part.modGrp_beds (p : Part) (k : Nat) (f : PrnGrp → PrnGrp) : (p.modGrp k f).beds = p.beds := rfl
@[simp] theorem Part.modGrp_apc (p : Part) (k : Nat) (f : PrnGrp → PrnGrp) : (p.modGrp k f).apc = p.apc := rfl
@[simp] theorem Part.modGrp_models (p : Part) (k : Nat) (f : PrnGrp → PrnGrp) : (p.modGrp k f).models = p.models := rfl
@[simp] theorem Part.modGrp_brw (p : Part) (k : Nat) (f : PrnGrp → PrnGrp) : (p.modGrp k f).brw = p.brw := rfl
@[simp] theorem Part.modGrp_dmc (p : Part) (k : Nat) (f : PrnGrp → PrnGrp) : (p.modGrp k f).dmc = p.dmc := rfl
@[simp] theorem Part.modGrp_trl (p : Part) (k : Nat) (f : PrnGrp → PrnGrp) : (p.modGrp k f).trl = p.trl := rfl
@[simp] theorem Part.modGrp_mtr (p : Part) (k : Nat) (f : PrnGrp → PrnGrp) : (p.modGrp k f).mtr = p.mtr := rfl
@[simp] theorem Part.modGrp_out (p : Part) (k : Nat) (f : PrnGrp → PrnGrp) : (p.modGrp k f).out = p.out := rfl
@[simp] theorem Part.modGrp_free (p : Part) (k : Nat) (f : PrnGrp → PrnGrp) : (p.modGrp k f).free = p.free := rfl
@[simp] theorem Part.modGrp_reg (p : Part) (k : Nat) (f : PrnGrp → PrnGrp) (x : Nat) : (p.modGrp k f).reg x = p.reg x := rfl
@[simp] theorem Part.modGrp_get (p : Part) (k : Nat) (f : PrnGrp → PrnGrp) (x : Fld) : (p.modGrp k f).get x = p.get x := rfl
@[simp] theorem Part.modGrp_on (p : Part) (k : Nat) (f : PrnGrp → PrnGrp) (x : Fld) : (p.modGrp k f).on x = p.on x := rfl
@[simp] theorem Part.modGrp_byte (p : Part) (k : Nat) (f : PrnGrp → PrnGrp) (x : Nat) : (p.modGrp k f).byte x = p.byte x := rfl
@[simp] theorem Part.modGrp_norByte (p : Part) (k : Nat) (f : PrnGrp → PrnGrp) (x : Nat) : (p.modGrp k f).norByte x = p.norByte x := rfl

/-! setEngine -/

@[simp] theorem Part.setEngine_regs (p : Part) (e : Nat) (c : Option Cmd) : (p.setEngine e c).regs = p.regs := rfl
@[simp] theorem Part.setEngine_mem (p : Part) (e : Nat) (c : Option Cmd) : (p.setEngine e c).mem = p.mem := rfl
@[simp] theorem Part.setEngine_nor (p : Part) (e : Nat) (c : Option Cmd) : (p.setEngine e c).nor = p.nor := rfl
@[simp] theorem Part.setEngine_pins (p : Part) (e : Nat) (c : Option Cmd) : (p.setEngine e c).pins = p.pins := rfl
@[simp] theorem Part.setEngine_sdl (p : Part) (e : Nat) (c : Option Cmd) : (p.setEngine e c).sdl = p.sdl := rfl
@[simp] theorem Part.setEngine_boot (p : Part) (e : Nat) (c : Option Cmd) : (p.setEngine e c).boot = p.boot := rfl
@[simp] theorem Part.setEngine_plots (p : Part) (e : Nat) (c : Option Cmd) : (p.setEngine e c).plots = p.plots := rfl
@[simp] theorem Part.setEngine_hvs (p : Part) (e : Nat) (c : Option Cmd) : (p.setEngine e c).hvs = p.hvs := rfl
@[simp] theorem Part.setEngine_nvme (p : Part) (e : Nat) (c : Option Cmd) : (p.setEngine e c).nvme = p.nvme := rfl
@[simp] theorem Part.setEngine_wdog (p : Part) (e : Nat) (c : Option Cmd) : (p.setEngine e c).wdog = p.wdog := rfl
@[simp] theorem Part.setEngine_pwr (p : Part) (e : Nat) (c : Option Cmd) : (p.setEngine e c).pwr = p.pwr := rfl
@[simp] theorem Part.setEngine_rules (p : Part) (e : Nat) (c : Option Cmd) : (p.setEngine e c).rules = p.rules := rfl
@[simp] theorem Part.setEngine_key (p : Part) (e : Nat) (c : Option Cmd) : (p.setEngine e c).key = p.key := rfl
@[simp] theorem Part.setEngine_eth (p : Part) (e : Nat) (c : Option Cmd) : (p.setEngine e c).eth = p.eth := rfl
@[simp] theorem Part.setEngine_itk (p : Part) (e : Nat) (c : Option Cmd) : (p.setEngine e c).itk = p.itk := rfl
@[simp] theorem Part.setEngine_sets (p : Part) (e : Nat) (c : Option Cmd) : (p.setEngine e c).sets = p.sets := rfl
@[simp] theorem Part.setEngine_vdc (p : Part) (e : Nat) (c : Option Cmd) : (p.setEngine e c).vdc = p.vdc := rfl
@[simp] theorem Part.setEngine_jobs (p : Part) (e : Nat) (c : Option Cmd) : (p.setEngine e c).jobs = p.jobs := rfl
@[simp] theorem Part.setEngine_beds (p : Part) (e : Nat) (c : Option Cmd) : (p.setEngine e c).beds = p.beds := rfl
@[simp] theorem Part.setEngine_apc (p : Part) (e : Nat) (c : Option Cmd) : (p.setEngine e c).apc = p.apc := rfl
@[simp] theorem Part.setEngine_models (p : Part) (e : Nat) (c : Option Cmd) : (p.setEngine e c).models = p.models := rfl
@[simp] theorem Part.setEngine_brw (p : Part) (e : Nat) (c : Option Cmd) : (p.setEngine e c).brw = p.brw := rfl
@[simp] theorem Part.setEngine_dmc (p : Part) (e : Nat) (c : Option Cmd) : (p.setEngine e c).dmc = p.dmc := rfl
@[simp] theorem Part.setEngine_trl (p : Part) (e : Nat) (c : Option Cmd) : (p.setEngine e c).trl = p.trl := rfl
@[simp] theorem Part.setEngine_mtr (p : Part) (e : Nat) (c : Option Cmd) : (p.setEngine e c).mtr = p.mtr := rfl
@[simp] theorem Part.setEngine_out (p : Part) (e : Nat) (c : Option Cmd) : (p.setEngine e c).out = p.out := rfl
@[simp] theorem Part.setEngine_free (p : Part) (e : Nat) (c : Option Cmd) : (p.setEngine e c).free = p.free := rfl
@[simp] theorem Part.setEngine_reg (p : Part) (e : Nat) (c : Option Cmd) (x : Nat) : (p.setEngine e c).reg x = p.reg x := rfl
@[simp] theorem Part.setEngine_get (p : Part) (e : Nat) (c : Option Cmd) (x : Fld) : (p.setEngine e c).get x = p.get x := rfl
@[simp] theorem Part.setEngine_on (p : Part) (e : Nat) (c : Option Cmd) (x : Fld) : (p.setEngine e c).on x = p.on x := rfl
@[simp] theorem Part.setEngine_byte (p : Part) (e : Nat) (c : Option Cmd) (x : Nat) : (p.setEngine e c).byte x = p.byte x := rfl
@[simp] theorem Part.setEngine_norByte (p : Part) (e : Nat) (c : Option Cmd) (x : Nat) : (p.setEngine e c).norByte x = p.norByte x := rfl

/-! modBed -/

@[simp] theorem Part.modBed_regs (p : Part) (b : Nat) (f : Bed → Bed) : (p.modBed b f).regs = p.regs := rfl
@[simp] theorem Part.modBed_mem (p : Part) (b : Nat) (f : Bed → Bed) : (p.modBed b f).mem = p.mem := rfl
@[simp] theorem Part.modBed_nor (p : Part) (b : Nat) (f : Bed → Bed) : (p.modBed b f).nor = p.nor := rfl
@[simp] theorem Part.modBed_pins (p : Part) (b : Nat) (f : Bed → Bed) : (p.modBed b f).pins = p.pins := rfl
@[simp] theorem Part.modBed_sdl (p : Part) (b : Nat) (f : Bed → Bed) : (p.modBed b f).sdl = p.sdl := rfl
@[simp] theorem Part.modBed_boot (p : Part) (b : Nat) (f : Bed → Bed) : (p.modBed b f).boot = p.boot := rfl
@[simp] theorem Part.modBed_plots (p : Part) (b : Nat) (f : Bed → Bed) : (p.modBed b f).plots = p.plots := rfl
@[simp] theorem Part.modBed_hvs (p : Part) (b : Nat) (f : Bed → Bed) : (p.modBed b f).hvs = p.hvs := rfl
@[simp] theorem Part.modBed_nvme (p : Part) (b : Nat) (f : Bed → Bed) : (p.modBed b f).nvme = p.nvme := rfl
@[simp] theorem Part.modBed_wdog (p : Part) (b : Nat) (f : Bed → Bed) : (p.modBed b f).wdog = p.wdog := rfl
@[simp] theorem Part.modBed_pwr (p : Part) (b : Nat) (f : Bed → Bed) : (p.modBed b f).pwr = p.pwr := rfl
@[simp] theorem Part.modBed_rules (p : Part) (b : Nat) (f : Bed → Bed) : (p.modBed b f).rules = p.rules := rfl
@[simp] theorem Part.modBed_key (p : Part) (b : Nat) (f : Bed → Bed) : (p.modBed b f).key = p.key := rfl
@[simp] theorem Part.modBed_eth (p : Part) (b : Nat) (f : Bed → Bed) : (p.modBed b f).eth = p.eth := rfl
@[simp] theorem Part.modBed_itk (p : Part) (b : Nat) (f : Bed → Bed) : (p.modBed b f).itk = p.itk := rfl
@[simp] theorem Part.modBed_sets (p : Part) (b : Nat) (f : Bed → Bed) : (p.modBed b f).sets = p.sets := rfl
@[simp] theorem Part.modBed_vdc (p : Part) (b : Nat) (f : Bed → Bed) : (p.modBed b f).vdc = p.vdc := rfl
@[simp] theorem Part.modBed_prn (p : Part) (b : Nat) (f : Bed → Bed) : (p.modBed b f).prn = p.prn := rfl
@[simp] theorem Part.modBed_jobs (p : Part) (b : Nat) (f : Bed → Bed) : (p.modBed b f).jobs = p.jobs := rfl
@[simp] theorem Part.modBed_apc (p : Part) (b : Nat) (f : Bed → Bed) : (p.modBed b f).apc = p.apc := rfl
@[simp] theorem Part.modBed_models (p : Part) (b : Nat) (f : Bed → Bed) : (p.modBed b f).models = p.models := rfl
@[simp] theorem Part.modBed_brw (p : Part) (b : Nat) (f : Bed → Bed) : (p.modBed b f).brw = p.brw := rfl
@[simp] theorem Part.modBed_dmc (p : Part) (b : Nat) (f : Bed → Bed) : (p.modBed b f).dmc = p.dmc := rfl
@[simp] theorem Part.modBed_trl (p : Part) (b : Nat) (f : Bed → Bed) : (p.modBed b f).trl = p.trl := rfl
@[simp] theorem Part.modBed_mtr (p : Part) (b : Nat) (f : Bed → Bed) : (p.modBed b f).mtr = p.mtr := rfl
@[simp] theorem Part.modBed_out (p : Part) (b : Nat) (f : Bed → Bed) : (p.modBed b f).out = p.out := rfl
@[simp] theorem Part.modBed_free (p : Part) (b : Nat) (f : Bed → Bed) : (p.modBed b f).free = p.free := rfl
@[simp] theorem Part.modBed_reg (p : Part) (b : Nat) (f : Bed → Bed) (x : Nat) : (p.modBed b f).reg x = p.reg x := rfl
@[simp] theorem Part.modBed_get (p : Part) (b : Nat) (f : Bed → Bed) (x : Fld) : (p.modBed b f).get x = p.get x := rfl
@[simp] theorem Part.modBed_on (p : Part) (b : Nat) (f : Bed → Bed) (x : Fld) : (p.modBed b f).on x = p.on x := rfl
@[simp] theorem Part.modBed_byte (p : Part) (b : Nat) (f : Bed → Bed) (x : Nat) : (p.modBed b f).byte x = p.byte x := rfl
@[simp] theorem Part.modBed_norByte (p : Part) (b : Nat) (f : Bed → Bed) (x : Nat) : (p.modBed b f).norByte x = p.norByte x := rfl

/-! modThread -/

@[simp] theorem Part.modThread_regs (p : Part) (b t : Nat) (f : Thread → Thread) : (p.modThread b t f).regs = p.regs := rfl
@[simp] theorem Part.modThread_mem (p : Part) (b t : Nat) (f : Thread → Thread) : (p.modThread b t f).mem = p.mem := rfl
@[simp] theorem Part.modThread_nor (p : Part) (b t : Nat) (f : Thread → Thread) : (p.modThread b t f).nor = p.nor := rfl
@[simp] theorem Part.modThread_pins (p : Part) (b t : Nat) (f : Thread → Thread) : (p.modThread b t f).pins = p.pins := rfl
@[simp] theorem Part.modThread_sdl (p : Part) (b t : Nat) (f : Thread → Thread) : (p.modThread b t f).sdl = p.sdl := rfl
@[simp] theorem Part.modThread_boot (p : Part) (b t : Nat) (f : Thread → Thread) : (p.modThread b t f).boot = p.boot := rfl
@[simp] theorem Part.modThread_plots (p : Part) (b t : Nat) (f : Thread → Thread) : (p.modThread b t f).plots = p.plots := rfl
@[simp] theorem Part.modThread_hvs (p : Part) (b t : Nat) (f : Thread → Thread) : (p.modThread b t f).hvs = p.hvs := rfl
@[simp] theorem Part.modThread_nvme (p : Part) (b t : Nat) (f : Thread → Thread) : (p.modThread b t f).nvme = p.nvme := rfl
@[simp] theorem Part.modThread_wdog (p : Part) (b t : Nat) (f : Thread → Thread) : (p.modThread b t f).wdog = p.wdog := rfl
@[simp] theorem Part.modThread_pwr (p : Part) (b t : Nat) (f : Thread → Thread) : (p.modThread b t f).pwr = p.pwr := rfl
@[simp] theorem Part.modThread_rules (p : Part) (b t : Nat) (f : Thread → Thread) : (p.modThread b t f).rules = p.rules := rfl
@[simp] theorem Part.modThread_key (p : Part) (b t : Nat) (f : Thread → Thread) : (p.modThread b t f).key = p.key := rfl
@[simp] theorem Part.modThread_eth (p : Part) (b t : Nat) (f : Thread → Thread) : (p.modThread b t f).eth = p.eth := rfl
@[simp] theorem Part.modThread_itk (p : Part) (b t : Nat) (f : Thread → Thread) : (p.modThread b t f).itk = p.itk := rfl
@[simp] theorem Part.modThread_sets (p : Part) (b t : Nat) (f : Thread → Thread) : (p.modThread b t f).sets = p.sets := rfl
@[simp] theorem Part.modThread_vdc (p : Part) (b t : Nat) (f : Thread → Thread) : (p.modThread b t f).vdc = p.vdc := rfl
@[simp] theorem Part.modThread_prn (p : Part) (b t : Nat) (f : Thread → Thread) : (p.modThread b t f).prn = p.prn := rfl
@[simp] theorem Part.modThread_jobs (p : Part) (b t : Nat) (f : Thread → Thread) : (p.modThread b t f).jobs = p.jobs := rfl
@[simp] theorem Part.modThread_apc (p : Part) (b t : Nat) (f : Thread → Thread) : (p.modThread b t f).apc = p.apc := rfl
@[simp] theorem Part.modThread_models (p : Part) (b t : Nat) (f : Thread → Thread) : (p.modThread b t f).models = p.models := rfl
@[simp] theorem Part.modThread_brw (p : Part) (b t : Nat) (f : Thread → Thread) : (p.modThread b t f).brw = p.brw := rfl
@[simp] theorem Part.modThread_dmc (p : Part) (b t : Nat) (f : Thread → Thread) : (p.modThread b t f).dmc = p.dmc := rfl
@[simp] theorem Part.modThread_trl (p : Part) (b t : Nat) (f : Thread → Thread) : (p.modThread b t f).trl = p.trl := rfl
@[simp] theorem Part.modThread_mtr (p : Part) (b t : Nat) (f : Thread → Thread) : (p.modThread b t f).mtr = p.mtr := rfl
@[simp] theorem Part.modThread_out (p : Part) (b t : Nat) (f : Thread → Thread) : (p.modThread b t f).out = p.out := rfl
@[simp] theorem Part.modThread_free (p : Part) (b t : Nat) (f : Thread → Thread) : (p.modThread b t f).free = p.free := rfl
@[simp] theorem Part.modThread_reg (p : Part) (b t : Nat) (f : Thread → Thread) (x : Nat) : (p.modThread b t f).reg x = p.reg x := rfl
@[simp] theorem Part.modThread_get (p : Part) (b t : Nat) (f : Thread → Thread) (x : Fld) : (p.modThread b t f).get x = p.get x := rfl
@[simp] theorem Part.modThread_on (p : Part) (b t : Nat) (f : Thread → Thread) (x : Fld) : (p.modThread b t f).on x = p.on x := rfl
@[simp] theorem Part.modThread_byte (p : Part) (b t : Nat) (f : Thread → Thread) (x : Nat) : (p.modThread b t f).byte x = p.byte x := rfl
@[simp] theorem Part.modThread_norByte (p : Part) (b t : Nat) (f : Thread → Thread) (x : Nat) : (p.modThread b t f).norByte x = p.norByte x := rfl

/-! setCore -/

@[simp] theorem Part.setCore_regs (p : Part) (c : Nat) (a : Option Act) : (p.setCore c a).regs = p.regs := rfl
@[simp] theorem Part.setCore_mem (p : Part) (c : Nat) (a : Option Act) : (p.setCore c a).mem = p.mem := rfl
@[simp] theorem Part.setCore_nor (p : Part) (c : Nat) (a : Option Act) : (p.setCore c a).nor = p.nor := rfl
@[simp] theorem Part.setCore_pins (p : Part) (c : Nat) (a : Option Act) : (p.setCore c a).pins = p.pins := rfl
@[simp] theorem Part.setCore_sdl (p : Part) (c : Nat) (a : Option Act) : (p.setCore c a).sdl = p.sdl := rfl
@[simp] theorem Part.setCore_boot (p : Part) (c : Nat) (a : Option Act) : (p.setCore c a).boot = p.boot := rfl
@[simp] theorem Part.setCore_plots (p : Part) (c : Nat) (a : Option Act) : (p.setCore c a).plots = p.plots := rfl
@[simp] theorem Part.setCore_hvs (p : Part) (c : Nat) (a : Option Act) : (p.setCore c a).hvs = p.hvs := rfl
@[simp] theorem Part.setCore_nvme (p : Part) (c : Nat) (a : Option Act) : (p.setCore c a).nvme = p.nvme := rfl
@[simp] theorem Part.setCore_wdog (p : Part) (c : Nat) (a : Option Act) : (p.setCore c a).wdog = p.wdog := rfl
@[simp] theorem Part.setCore_pwr (p : Part) (c : Nat) (a : Option Act) : (p.setCore c a).pwr = p.pwr := rfl
@[simp] theorem Part.setCore_rules (p : Part) (c : Nat) (a : Option Act) : (p.setCore c a).rules = p.rules := rfl
@[simp] theorem Part.setCore_key (p : Part) (c : Nat) (a : Option Act) : (p.setCore c a).key = p.key := rfl
@[simp] theorem Part.setCore_eth (p : Part) (c : Nat) (a : Option Act) : (p.setCore c a).eth = p.eth := rfl
@[simp] theorem Part.setCore_itk (p : Part) (c : Nat) (a : Option Act) : (p.setCore c a).itk = p.itk := rfl
@[simp] theorem Part.setCore_sets (p : Part) (c : Nat) (a : Option Act) : (p.setCore c a).sets = p.sets := rfl
@[simp] theorem Part.setCore_vdc (p : Part) (c : Nat) (a : Option Act) : (p.setCore c a).vdc = p.vdc := rfl
@[simp] theorem Part.setCore_prn (p : Part) (c : Nat) (a : Option Act) : (p.setCore c a).prn = p.prn := rfl
@[simp] theorem Part.setCore_jobs (p : Part) (c : Nat) (a : Option Act) : (p.setCore c a).jobs = p.jobs := rfl
@[simp] theorem Part.setCore_beds (p : Part) (c : Nat) (a : Option Act) : (p.setCore c a).beds = p.beds := rfl
@[simp] theorem Part.setCore_models (p : Part) (c : Nat) (a : Option Act) : (p.setCore c a).models = p.models := rfl
@[simp] theorem Part.setCore_brw (p : Part) (c : Nat) (a : Option Act) : (p.setCore c a).brw = p.brw := rfl
@[simp] theorem Part.setCore_dmc (p : Part) (c : Nat) (a : Option Act) : (p.setCore c a).dmc = p.dmc := rfl
@[simp] theorem Part.setCore_trl (p : Part) (c : Nat) (a : Option Act) : (p.setCore c a).trl = p.trl := rfl
@[simp] theorem Part.setCore_mtr (p : Part) (c : Nat) (a : Option Act) : (p.setCore c a).mtr = p.mtr := rfl
@[simp] theorem Part.setCore_out (p : Part) (c : Nat) (a : Option Act) : (p.setCore c a).out = p.out := rfl
@[simp] theorem Part.setCore_free (p : Part) (c : Nat) (a : Option Act) : (p.setCore c a).free = p.free := rfl
@[simp] theorem Part.setCore_reg (p : Part) (c : Nat) (a : Option Act) (x : Nat) : (p.setCore c a).reg x = p.reg x := rfl
@[simp] theorem Part.setCore_get (p : Part) (c : Nat) (a : Option Act) (x : Fld) : (p.setCore c a).get x = p.get x := rfl
@[simp] theorem Part.setCore_on (p : Part) (c : Nat) (a : Option Act) (x : Fld) : (p.setCore c a).on x = p.on x := rfl
@[simp] theorem Part.setCore_byte (p : Part) (c : Nat) (a : Option Act) (x : Nat) : (p.setCore c a).byte x = p.byte x := rfl
@[simp] theorem Part.setCore_norByte (p : Part) (c : Nat) (a : Option Act) (x : Nat) : (p.setCore c a).norByte x = p.norByte x := rfl

/-! modRunner -/

@[simp] theorem Part.modRunner_regs (p : Part) (r : Nat) (f : RunnerSt → RunnerSt) : (p.modRunner r f).regs = p.regs := rfl
@[simp] theorem Part.modRunner_mem (p : Part) (r : Nat) (f : RunnerSt → RunnerSt) : (p.modRunner r f).mem = p.mem := rfl
@[simp] theorem Part.modRunner_nor (p : Part) (r : Nat) (f : RunnerSt → RunnerSt) : (p.modRunner r f).nor = p.nor := rfl
@[simp] theorem Part.modRunner_pins (p : Part) (r : Nat) (f : RunnerSt → RunnerSt) : (p.modRunner r f).pins = p.pins := rfl
@[simp] theorem Part.modRunner_sdl (p : Part) (r : Nat) (f : RunnerSt → RunnerSt) : (p.modRunner r f).sdl = p.sdl := rfl
@[simp] theorem Part.modRunner_boot (p : Part) (r : Nat) (f : RunnerSt → RunnerSt) : (p.modRunner r f).boot = p.boot := rfl
@[simp] theorem Part.modRunner_plots (p : Part) (r : Nat) (f : RunnerSt → RunnerSt) : (p.modRunner r f).plots = p.plots := rfl
@[simp] theorem Part.modRunner_hvs (p : Part) (r : Nat) (f : RunnerSt → RunnerSt) : (p.modRunner r f).hvs = p.hvs := rfl
@[simp] theorem Part.modRunner_nvme (p : Part) (r : Nat) (f : RunnerSt → RunnerSt) : (p.modRunner r f).nvme = p.nvme := rfl
@[simp] theorem Part.modRunner_wdog (p : Part) (r : Nat) (f : RunnerSt → RunnerSt) : (p.modRunner r f).wdog = p.wdog := rfl
@[simp] theorem Part.modRunner_pwr (p : Part) (r : Nat) (f : RunnerSt → RunnerSt) : (p.modRunner r f).pwr = p.pwr := rfl
@[simp] theorem Part.modRunner_rules (p : Part) (r : Nat) (f : RunnerSt → RunnerSt) : (p.modRunner r f).rules = p.rules := rfl
@[simp] theorem Part.modRunner_key (p : Part) (r : Nat) (f : RunnerSt → RunnerSt) : (p.modRunner r f).key = p.key := rfl
@[simp] theorem Part.modRunner_eth (p : Part) (r : Nat) (f : RunnerSt → RunnerSt) : (p.modRunner r f).eth = p.eth := rfl
@[simp] theorem Part.modRunner_itk (p : Part) (r : Nat) (f : RunnerSt → RunnerSt) : (p.modRunner r f).itk = p.itk := rfl
@[simp] theorem Part.modRunner_sets (p : Part) (r : Nat) (f : RunnerSt → RunnerSt) : (p.modRunner r f).sets = p.sets := rfl
@[simp] theorem Part.modRunner_vdc (p : Part) (r : Nat) (f : RunnerSt → RunnerSt) : (p.modRunner r f).vdc = p.vdc := rfl
@[simp] theorem Part.modRunner_prn (p : Part) (r : Nat) (f : RunnerSt → RunnerSt) : (p.modRunner r f).prn = p.prn := rfl
@[simp] theorem Part.modRunner_jobs (p : Part) (r : Nat) (f : RunnerSt → RunnerSt) : (p.modRunner r f).jobs = p.jobs := rfl
@[simp] theorem Part.modRunner_beds (p : Part) (r : Nat) (f : RunnerSt → RunnerSt) : (p.modRunner r f).beds = p.beds := rfl
@[simp] theorem Part.modRunner_models (p : Part) (r : Nat) (f : RunnerSt → RunnerSt) : (p.modRunner r f).models = p.models := rfl
@[simp] theorem Part.modRunner_brw (p : Part) (r : Nat) (f : RunnerSt → RunnerSt) : (p.modRunner r f).brw = p.brw := rfl
@[simp] theorem Part.modRunner_dmc (p : Part) (r : Nat) (f : RunnerSt → RunnerSt) : (p.modRunner r f).dmc = p.dmc := rfl
@[simp] theorem Part.modRunner_trl (p : Part) (r : Nat) (f : RunnerSt → RunnerSt) : (p.modRunner r f).trl = p.trl := rfl
@[simp] theorem Part.modRunner_mtr (p : Part) (r : Nat) (f : RunnerSt → RunnerSt) : (p.modRunner r f).mtr = p.mtr := rfl
@[simp] theorem Part.modRunner_out (p : Part) (r : Nat) (f : RunnerSt → RunnerSt) : (p.modRunner r f).out = p.out := rfl
@[simp] theorem Part.modRunner_free (p : Part) (r : Nat) (f : RunnerSt → RunnerSt) : (p.modRunner r f).free = p.free := rfl
@[simp] theorem Part.modRunner_reg (p : Part) (r : Nat) (f : RunnerSt → RunnerSt) (x : Nat) : (p.modRunner r f).reg x = p.reg x := rfl
@[simp] theorem Part.modRunner_get (p : Part) (r : Nat) (f : RunnerSt → RunnerSt) (x : Fld) : (p.modRunner r f).get x = p.get x := rfl
@[simp] theorem Part.modRunner_on (p : Part) (r : Nat) (f : RunnerSt → RunnerSt) (x : Fld) : (p.modRunner r f).on x = p.on x := rfl
@[simp] theorem Part.modRunner_byte (p : Part) (r : Nat) (f : RunnerSt → RunnerSt) (x : Nat) : (p.modRunner r f).byte x = p.byte x := rfl
@[simp] theorem Part.modRunner_norByte (p : Part) (r : Nat) (f : RunnerSt → RunnerSt) (x : Nat) : (p.modRunner r f).norByte x = p.norByte x := rfl

/-! modModel -/

@[simp] theorem Part.modModel_regs (p : Part) (m : Nat) (f : ModelSt → ModelSt) : (p.modModel m f).regs = p.regs := rfl
@[simp] theorem Part.modModel_mem (p : Part) (m : Nat) (f : ModelSt → ModelSt) : (p.modModel m f).mem = p.mem := rfl
@[simp] theorem Part.modModel_nor (p : Part) (m : Nat) (f : ModelSt → ModelSt) : (p.modModel m f).nor = p.nor := rfl
@[simp] theorem Part.modModel_pins (p : Part) (m : Nat) (f : ModelSt → ModelSt) : (p.modModel m f).pins = p.pins := rfl
@[simp] theorem Part.modModel_sdl (p : Part) (m : Nat) (f : ModelSt → ModelSt) : (p.modModel m f).sdl = p.sdl := rfl
@[simp] theorem Part.modModel_boot (p : Part) (m : Nat) (f : ModelSt → ModelSt) : (p.modModel m f).boot = p.boot := rfl
@[simp] theorem Part.modModel_plots (p : Part) (m : Nat) (f : ModelSt → ModelSt) : (p.modModel m f).plots = p.plots := rfl
@[simp] theorem Part.modModel_hvs (p : Part) (m : Nat) (f : ModelSt → ModelSt) : (p.modModel m f).hvs = p.hvs := rfl
@[simp] theorem Part.modModel_nvme (p : Part) (m : Nat) (f : ModelSt → ModelSt) : (p.modModel m f).nvme = p.nvme := rfl
@[simp] theorem Part.modModel_wdog (p : Part) (m : Nat) (f : ModelSt → ModelSt) : (p.modModel m f).wdog = p.wdog := rfl
@[simp] theorem Part.modModel_pwr (p : Part) (m : Nat) (f : ModelSt → ModelSt) : (p.modModel m f).pwr = p.pwr := rfl
@[simp] theorem Part.modModel_rules (p : Part) (m : Nat) (f : ModelSt → ModelSt) : (p.modModel m f).rules = p.rules := rfl
@[simp] theorem Part.modModel_key (p : Part) (m : Nat) (f : ModelSt → ModelSt) : (p.modModel m f).key = p.key := rfl
@[simp] theorem Part.modModel_eth (p : Part) (m : Nat) (f : ModelSt → ModelSt) : (p.modModel m f).eth = p.eth := rfl
@[simp] theorem Part.modModel_itk (p : Part) (m : Nat) (f : ModelSt → ModelSt) : (p.modModel m f).itk = p.itk := rfl
@[simp] theorem Part.modModel_sets (p : Part) (m : Nat) (f : ModelSt → ModelSt) : (p.modModel m f).sets = p.sets := rfl
@[simp] theorem Part.modModel_vdc (p : Part) (m : Nat) (f : ModelSt → ModelSt) : (p.modModel m f).vdc = p.vdc := rfl
@[simp] theorem Part.modModel_prn (p : Part) (m : Nat) (f : ModelSt → ModelSt) : (p.modModel m f).prn = p.prn := rfl
@[simp] theorem Part.modModel_jobs (p : Part) (m : Nat) (f : ModelSt → ModelSt) : (p.modModel m f).jobs = p.jobs := rfl
@[simp] theorem Part.modModel_beds (p : Part) (m : Nat) (f : ModelSt → ModelSt) : (p.modModel m f).beds = p.beds := rfl
@[simp] theorem Part.modModel_apc (p : Part) (m : Nat) (f : ModelSt → ModelSt) : (p.modModel m f).apc = p.apc := rfl
@[simp] theorem Part.modModel_brw (p : Part) (m : Nat) (f : ModelSt → ModelSt) : (p.modModel m f).brw = p.brw := rfl
@[simp] theorem Part.modModel_dmc (p : Part) (m : Nat) (f : ModelSt → ModelSt) : (p.modModel m f).dmc = p.dmc := rfl
@[simp] theorem Part.modModel_trl (p : Part) (m : Nat) (f : ModelSt → ModelSt) : (p.modModel m f).trl = p.trl := rfl
@[simp] theorem Part.modModel_mtr (p : Part) (m : Nat) (f : ModelSt → ModelSt) : (p.modModel m f).mtr = p.mtr := rfl
@[simp] theorem Part.modModel_out (p : Part) (m : Nat) (f : ModelSt → ModelSt) : (p.modModel m f).out = p.out := rfl
@[simp] theorem Part.modModel_free (p : Part) (m : Nat) (f : ModelSt → ModelSt) : (p.modModel m f).free = p.free := rfl
@[simp] theorem Part.modModel_reg (p : Part) (m : Nat) (f : ModelSt → ModelSt) (x : Nat) : (p.modModel m f).reg x = p.reg x := rfl
@[simp] theorem Part.modModel_get (p : Part) (m : Nat) (f : ModelSt → ModelSt) (x : Fld) : (p.modModel m f).get x = p.get x := rfl
@[simp] theorem Part.modModel_on (p : Part) (m : Nat) (f : ModelSt → ModelSt) (x : Fld) : (p.modModel m f).on x = p.on x := rfl
@[simp] theorem Part.modModel_byte (p : Part) (m : Nat) (f : ModelSt → ModelSt) (x : Nat) : (p.modModel m f).byte x = p.byte x := rfl
@[simp] theorem Part.modModel_norByte (p : Part) (m : Nat) (f : ModelSt → ModelSt) (x : Nat) : (p.modModel m f).norByte x = p.norByte x := rfl

/-! modLoadq -/

@[simp] theorem Part.modLoadq_regs (p : Part) (k : Nat) (f : LoadQ → LoadQ) : (p.modLoadq k f).regs = p.regs := rfl
@[simp] theorem Part.modLoadq_mem (p : Part) (k : Nat) (f : LoadQ → LoadQ) : (p.modLoadq k f).mem = p.mem := rfl
@[simp] theorem Part.modLoadq_nor (p : Part) (k : Nat) (f : LoadQ → LoadQ) : (p.modLoadq k f).nor = p.nor := rfl
@[simp] theorem Part.modLoadq_pins (p : Part) (k : Nat) (f : LoadQ → LoadQ) : (p.modLoadq k f).pins = p.pins := rfl
@[simp] theorem Part.modLoadq_sdl (p : Part) (k : Nat) (f : LoadQ → LoadQ) : (p.modLoadq k f).sdl = p.sdl := rfl
@[simp] theorem Part.modLoadq_boot (p : Part) (k : Nat) (f : LoadQ → LoadQ) : (p.modLoadq k f).boot = p.boot := rfl
@[simp] theorem Part.modLoadq_plots (p : Part) (k : Nat) (f : LoadQ → LoadQ) : (p.modLoadq k f).plots = p.plots := rfl
@[simp] theorem Part.modLoadq_hvs (p : Part) (k : Nat) (f : LoadQ → LoadQ) : (p.modLoadq k f).hvs = p.hvs := rfl
@[simp] theorem Part.modLoadq_nvme (p : Part) (k : Nat) (f : LoadQ → LoadQ) : (p.modLoadq k f).nvme = p.nvme := rfl
@[simp] theorem Part.modLoadq_wdog (p : Part) (k : Nat) (f : LoadQ → LoadQ) : (p.modLoadq k f).wdog = p.wdog := rfl
@[simp] theorem Part.modLoadq_pwr (p : Part) (k : Nat) (f : LoadQ → LoadQ) : (p.modLoadq k f).pwr = p.pwr := rfl
@[simp] theorem Part.modLoadq_rules (p : Part) (k : Nat) (f : LoadQ → LoadQ) : (p.modLoadq k f).rules = p.rules := rfl
@[simp] theorem Part.modLoadq_key (p : Part) (k : Nat) (f : LoadQ → LoadQ) : (p.modLoadq k f).key = p.key := rfl
@[simp] theorem Part.modLoadq_eth (p : Part) (k : Nat) (f : LoadQ → LoadQ) : (p.modLoadq k f).eth = p.eth := rfl
@[simp] theorem Part.modLoadq_itk (p : Part) (k : Nat) (f : LoadQ → LoadQ) : (p.modLoadq k f).itk = p.itk := rfl
@[simp] theorem Part.modLoadq_sets (p : Part) (k : Nat) (f : LoadQ → LoadQ) : (p.modLoadq k f).sets = p.sets := rfl
@[simp] theorem Part.modLoadq_vdc (p : Part) (k : Nat) (f : LoadQ → LoadQ) : (p.modLoadq k f).vdc = p.vdc := rfl
@[simp] theorem Part.modLoadq_prn (p : Part) (k : Nat) (f : LoadQ → LoadQ) : (p.modLoadq k f).prn = p.prn := rfl
@[simp] theorem Part.modLoadq_jobs (p : Part) (k : Nat) (f : LoadQ → LoadQ) : (p.modLoadq k f).jobs = p.jobs := rfl
@[simp] theorem Part.modLoadq_beds (p : Part) (k : Nat) (f : LoadQ → LoadQ) : (p.modLoadq k f).beds = p.beds := rfl
@[simp] theorem Part.modLoadq_apc (p : Part) (k : Nat) (f : LoadQ → LoadQ) : (p.modLoadq k f).apc = p.apc := rfl
@[simp] theorem Part.modLoadq_brw (p : Part) (k : Nat) (f : LoadQ → LoadQ) : (p.modLoadq k f).brw = p.brw := rfl
@[simp] theorem Part.modLoadq_dmc (p : Part) (k : Nat) (f : LoadQ → LoadQ) : (p.modLoadq k f).dmc = p.dmc := rfl
@[simp] theorem Part.modLoadq_trl (p : Part) (k : Nat) (f : LoadQ → LoadQ) : (p.modLoadq k f).trl = p.trl := rfl
@[simp] theorem Part.modLoadq_mtr (p : Part) (k : Nat) (f : LoadQ → LoadQ) : (p.modLoadq k f).mtr = p.mtr := rfl
@[simp] theorem Part.modLoadq_out (p : Part) (k : Nat) (f : LoadQ → LoadQ) : (p.modLoadq k f).out = p.out := rfl
@[simp] theorem Part.modLoadq_free (p : Part) (k : Nat) (f : LoadQ → LoadQ) : (p.modLoadq k f).free = p.free := rfl
@[simp] theorem Part.modLoadq_reg (p : Part) (k : Nat) (f : LoadQ → LoadQ) (x : Nat) : (p.modLoadq k f).reg x = p.reg x := rfl
@[simp] theorem Part.modLoadq_get (p : Part) (k : Nat) (f : LoadQ → LoadQ) (x : Fld) : (p.modLoadq k f).get x = p.get x := rfl
@[simp] theorem Part.modLoadq_on (p : Part) (k : Nat) (f : LoadQ → LoadQ) (x : Fld) : (p.modLoadq k f).on x = p.on x := rfl
@[simp] theorem Part.modLoadq_byte (p : Part) (k : Nat) (f : LoadQ → LoadQ) (x : Nat) : (p.modLoadq k f).byte x = p.byte x := rfl
@[simp] theorem Part.modLoadq_norByte (p : Part) (k : Nat) (f : LoadQ → LoadQ) (x : Nat) : (p.modLoadq k f).norByte x = p.norByte x := rfl

/-! modChan -/

@[simp] theorem Part.modChan_regs (p : Part) (c : Nat) (f : Chan → Chan) : (p.modChan c f).regs = p.regs := rfl
@[simp] theorem Part.modChan_mem (p : Part) (c : Nat) (f : Chan → Chan) : (p.modChan c f).mem = p.mem := rfl
@[simp] theorem Part.modChan_nor (p : Part) (c : Nat) (f : Chan → Chan) : (p.modChan c f).nor = p.nor := rfl
@[simp] theorem Part.modChan_pins (p : Part) (c : Nat) (f : Chan → Chan) : (p.modChan c f).pins = p.pins := rfl
@[simp] theorem Part.modChan_sdl (p : Part) (c : Nat) (f : Chan → Chan) : (p.modChan c f).sdl = p.sdl := rfl
@[simp] theorem Part.modChan_boot (p : Part) (c : Nat) (f : Chan → Chan) : (p.modChan c f).boot = p.boot := rfl
@[simp] theorem Part.modChan_plots (p : Part) (c : Nat) (f : Chan → Chan) : (p.modChan c f).plots = p.plots := rfl
@[simp] theorem Part.modChan_hvs (p : Part) (c : Nat) (f : Chan → Chan) : (p.modChan c f).hvs = p.hvs := rfl
@[simp] theorem Part.modChan_nvme (p : Part) (c : Nat) (f : Chan → Chan) : (p.modChan c f).nvme = p.nvme := rfl
@[simp] theorem Part.modChan_wdog (p : Part) (c : Nat) (f : Chan → Chan) : (p.modChan c f).wdog = p.wdog := rfl
@[simp] theorem Part.modChan_pwr (p : Part) (c : Nat) (f : Chan → Chan) : (p.modChan c f).pwr = p.pwr := rfl
@[simp] theorem Part.modChan_rules (p : Part) (c : Nat) (f : Chan → Chan) : (p.modChan c f).rules = p.rules := rfl
@[simp] theorem Part.modChan_key (p : Part) (c : Nat) (f : Chan → Chan) : (p.modChan c f).key = p.key := rfl
@[simp] theorem Part.modChan_eth (p : Part) (c : Nat) (f : Chan → Chan) : (p.modChan c f).eth = p.eth := rfl
@[simp] theorem Part.modChan_itk (p : Part) (c : Nat) (f : Chan → Chan) : (p.modChan c f).itk = p.itk := rfl
@[simp] theorem Part.modChan_sets (p : Part) (c : Nat) (f : Chan → Chan) : (p.modChan c f).sets = p.sets := rfl
@[simp] theorem Part.modChan_vdc (p : Part) (c : Nat) (f : Chan → Chan) : (p.modChan c f).vdc = p.vdc := rfl
@[simp] theorem Part.modChan_prn (p : Part) (c : Nat) (f : Chan → Chan) : (p.modChan c f).prn = p.prn := rfl
@[simp] theorem Part.modChan_jobs (p : Part) (c : Nat) (f : Chan → Chan) : (p.modChan c f).jobs = p.jobs := rfl
@[simp] theorem Part.modChan_beds (p : Part) (c : Nat) (f : Chan → Chan) : (p.modChan c f).beds = p.beds := rfl
@[simp] theorem Part.modChan_apc (p : Part) (c : Nat) (f : Chan → Chan) : (p.modChan c f).apc = p.apc := rfl
@[simp] theorem Part.modChan_models (p : Part) (c : Nat) (f : Chan → Chan) : (p.modChan c f).models = p.models := rfl
@[simp] theorem Part.modChan_dmc (p : Part) (c : Nat) (f : Chan → Chan) : (p.modChan c f).dmc = p.dmc := rfl
@[simp] theorem Part.modChan_trl (p : Part) (c : Nat) (f : Chan → Chan) : (p.modChan c f).trl = p.trl := rfl
@[simp] theorem Part.modChan_mtr (p : Part) (c : Nat) (f : Chan → Chan) : (p.modChan c f).mtr = p.mtr := rfl
@[simp] theorem Part.modChan_out (p : Part) (c : Nat) (f : Chan → Chan) : (p.modChan c f).out = p.out := rfl
@[simp] theorem Part.modChan_free (p : Part) (c : Nat) (f : Chan → Chan) : (p.modChan c f).free = p.free := rfl
@[simp] theorem Part.modChan_reg (p : Part) (c : Nat) (f : Chan → Chan) (x : Nat) : (p.modChan c f).reg x = p.reg x := rfl
@[simp] theorem Part.modChan_get (p : Part) (c : Nat) (f : Chan → Chan) (x : Fld) : (p.modChan c f).get x = p.get x := rfl
@[simp] theorem Part.modChan_on (p : Part) (c : Nat) (f : Chan → Chan) (x : Fld) : (p.modChan c f).on x = p.on x := rfl
@[simp] theorem Part.modChan_byte (p : Part) (c : Nat) (f : Chan → Chan) (x : Nat) : (p.modChan c f).byte x = p.byte x := rfl
@[simp] theorem Part.modChan_norByte (p : Part) (c : Nat) (f : Chan → Chan) (x : Nat) : (p.modChan c f).norByte x = p.norByte x := rfl

/-! modTport -/

@[simp] theorem Part.modTport_regs (p : Part) (k : Nat) (f : TrlPort → TrlPort) : (p.modTport k f).regs = p.regs := rfl
@[simp] theorem Part.modTport_mem (p : Part) (k : Nat) (f : TrlPort → TrlPort) : (p.modTport k f).mem = p.mem := rfl
@[simp] theorem Part.modTport_nor (p : Part) (k : Nat) (f : TrlPort → TrlPort) : (p.modTport k f).nor = p.nor := rfl
@[simp] theorem Part.modTport_pins (p : Part) (k : Nat) (f : TrlPort → TrlPort) : (p.modTport k f).pins = p.pins := rfl
@[simp] theorem Part.modTport_sdl (p : Part) (k : Nat) (f : TrlPort → TrlPort) : (p.modTport k f).sdl = p.sdl := rfl
@[simp] theorem Part.modTport_boot (p : Part) (k : Nat) (f : TrlPort → TrlPort) : (p.modTport k f).boot = p.boot := rfl
@[simp] theorem Part.modTport_plots (p : Part) (k : Nat) (f : TrlPort → TrlPort) : (p.modTport k f).plots = p.plots := rfl
@[simp] theorem Part.modTport_hvs (p : Part) (k : Nat) (f : TrlPort → TrlPort) : (p.modTport k f).hvs = p.hvs := rfl
@[simp] theorem Part.modTport_nvme (p : Part) (k : Nat) (f : TrlPort → TrlPort) : (p.modTport k f).nvme = p.nvme := rfl
@[simp] theorem Part.modTport_wdog (p : Part) (k : Nat) (f : TrlPort → TrlPort) : (p.modTport k f).wdog = p.wdog := rfl
@[simp] theorem Part.modTport_pwr (p : Part) (k : Nat) (f : TrlPort → TrlPort) : (p.modTport k f).pwr = p.pwr := rfl
@[simp] theorem Part.modTport_rules (p : Part) (k : Nat) (f : TrlPort → TrlPort) : (p.modTport k f).rules = p.rules := rfl
@[simp] theorem Part.modTport_key (p : Part) (k : Nat) (f : TrlPort → TrlPort) : (p.modTport k f).key = p.key := rfl
@[simp] theorem Part.modTport_eth (p : Part) (k : Nat) (f : TrlPort → TrlPort) : (p.modTport k f).eth = p.eth := rfl
@[simp] theorem Part.modTport_itk (p : Part) (k : Nat) (f : TrlPort → TrlPort) : (p.modTport k f).itk = p.itk := rfl
@[simp] theorem Part.modTport_sets (p : Part) (k : Nat) (f : TrlPort → TrlPort) : (p.modTport k f).sets = p.sets := rfl
@[simp] theorem Part.modTport_vdc (p : Part) (k : Nat) (f : TrlPort → TrlPort) : (p.modTport k f).vdc = p.vdc := rfl
@[simp] theorem Part.modTport_prn (p : Part) (k : Nat) (f : TrlPort → TrlPort) : (p.modTport k f).prn = p.prn := rfl
@[simp] theorem Part.modTport_jobs (p : Part) (k : Nat) (f : TrlPort → TrlPort) : (p.modTport k f).jobs = p.jobs := rfl
@[simp] theorem Part.modTport_beds (p : Part) (k : Nat) (f : TrlPort → TrlPort) : (p.modTport k f).beds = p.beds := rfl
@[simp] theorem Part.modTport_apc (p : Part) (k : Nat) (f : TrlPort → TrlPort) : (p.modTport k f).apc = p.apc := rfl
@[simp] theorem Part.modTport_models (p : Part) (k : Nat) (f : TrlPort → TrlPort) : (p.modTport k f).models = p.models := rfl
@[simp] theorem Part.modTport_brw (p : Part) (k : Nat) (f : TrlPort → TrlPort) : (p.modTport k f).brw = p.brw := rfl
@[simp] theorem Part.modTport_dmc (p : Part) (k : Nat) (f : TrlPort → TrlPort) : (p.modTport k f).dmc = p.dmc := rfl
@[simp] theorem Part.modTport_mtr (p : Part) (k : Nat) (f : TrlPort → TrlPort) : (p.modTport k f).mtr = p.mtr := rfl
@[simp] theorem Part.modTport_out (p : Part) (k : Nat) (f : TrlPort → TrlPort) : (p.modTport k f).out = p.out := rfl
@[simp] theorem Part.modTport_free (p : Part) (k : Nat) (f : TrlPort → TrlPort) : (p.modTport k f).free = p.free := rfl
@[simp] theorem Part.modTport_reg (p : Part) (k : Nat) (f : TrlPort → TrlPort) (x : Nat) : (p.modTport k f).reg x = p.reg x := rfl
@[simp] theorem Part.modTport_get (p : Part) (k : Nat) (f : TrlPort → TrlPort) (x : Fld) : (p.modTport k f).get x = p.get x := rfl
@[simp] theorem Part.modTport_on (p : Part) (k : Nat) (f : TrlPort → TrlPort) (x : Fld) : (p.modTport k f).on x = p.on x := rfl
@[simp] theorem Part.modTport_byte (p : Part) (k : Nat) (f : TrlPort → TrlPort) (x : Nat) : (p.modTport k f).byte x = p.byte x := rfl
@[simp] theorem Part.modTport_norByte (p : Part) (k : Nat) (f : TrlPort → TrlPort) (x : Nat) : (p.modTport k f).norByte x = p.norByte x := rfl

end Sys2Proof.Machine
end

