-- ==== Sys2Proof/Laws/Access.lean ====
section
/-! SUPPORT. What a register access meets, for plot 0 firmware and for a plot's own page: the one law that a proof about a register
command cites. -/

namespace Sys2Proof.Machine

/-- Plot 0 firmware reaches an implemented register at its own address (R37). -/
theorem Part.hit_firmware (p : Part) {w : Who} {a : Nat} (write : Bool) (hk : w.kind ≠ .host) (hp : w.plot = 0)
    (ha : a < 22 * 0x100000) (h4 : a % 4 = 0) (hi : implemented a = true) : p.hit w (w.addrOf a) 4 write = .reg a := by
  have hpv : w.plot.val = 0 := by rw [hp]; rfl
  have h1 : 0x1020000000 ≤ 0x1020000000 + a ∧ 0x1020000000 + a < 0x1020000000 + 22 * 0x100000 := by omega
  have h2 : (0x1020000000 + a) % 4 = 0 := by omega
  have h3 : 0x1020000000 + a - 0x1020000000 = a := by omega
  unfold Part.hit Who.addrOf
  rw [if_neg hk, if_neg hk, if_pos hpv, if_pos hpv, if_pos h1]
  simp [h2, h3, hi]

/-- A write by plot 0 firmware of a register that is no copy. -/
theorem Part.writeOf_firmware (p : Part) (t : Nat) {w : Who} {a : Nat} (v : Word) (hk : w.kind ≠ .host) (hp : w.plot = 0)
    (ha : a < 22 * 0x100000) (h4 : a % 4 = 0) (hi : implemented a = true) (hc : copyOf a = a) :
    p.writeOf t w a v = p.regStore t w 0 a v := by
  unfold Part.writeOf Part.registerWrite
  rw [p.hit_firmware true hk hp ha h4 hi]
  simp [hc]

/-- A read by plot 0 firmware of a register that is no copy. -/
theorem Part.readOf_firmware (p : Part) (t : Nat) {w : Who} {a : Nat} (hk : w.kind ≠ .host) (hp : w.plot = 0)
    (ha : a < 22 * 0x100000) (h4 : a % 4 = 0) (hi : implemented a = true) (hc : copyOf a = a) :
    p.readOf t w a = (p.regLoad t w a).2.answer w (p.regLoad t w a).1 := by
  unfold Part.readOf Part.registerRead
  rw [p.hit_firmware false hk hp ha h4 hi]
  simp [hc]

/-- A plot reaches a register of its page at the page's address (R27, R30). -/
theorem Part.hit_page (p : Part) {w : Who} {a : Nat} (write : Bool) (hk : w.kind ≠ .host) (hp : w.plot.val ≠ 0)
    (ha : a < 22 * 0x100000) (ho : a % 0x100000 < 0x10000) (h4 : a % 4 = 0)
    (hi : p.pageAt w.plot.val (a / 0x100000) (a % 0x100000) = .reg a) : p.hit w (w.addrOf a) 4 write = .reg a := by
  have e : pageAddr (w.addrOf a) = some (a / 0x100000, a % 0x100000) := by
    unfold pageAddr Who.addrOf
    rw [if_neg hk, if_neg hp]
    have h1 : 0x900000000000 ≤ 0x900000000000 + a / 0x100000 * 0x10000 + a % 0x100000 ∧
      0x900000000000 + a / 0x100000 * 0x10000 + a % 0x100000 < 0x900000000000 + 22 * 0x10000 := by omega
    have e1 : (0x900000000000 + a / 0x100000 * 0x10000 + a % 0x100000 - 0x900000000000) / 0x10000 = a / 0x100000 := by omega
    have e2 : (0x900000000000 + a / 0x100000 * 0x10000 + a % 0x100000 - 0x900000000000) % 0x10000 = a % 0x100000 := by omega
    rw [if_pos h1, e1, e2]
  have h2 : w.addrOf a % 4 = 0 := by
    unfold Who.addrOf; rw [if_neg hk, if_neg hp]; omega
  have h3 : a % 0x100000 / 4 * 4 = a % 0x100000 := by omega
  unfold Part.hit
  rw [if_neg hk, if_neg hp]
  simp only [e, h3, hi]
  simp [h2]

/-- A write by a plot of a register of its page that is no copy. -/
theorem Part.writeOf_page (p : Part) (t : Nat) {w : Who} {a : Nat} (v : Word) (hk : w.kind ≠ .host) (hp : w.plot.val ≠ 0)
    (ha : a < 22 * 0x100000) (ho : a % 0x100000 < 0x10000) (h4 : a % 4 = 0) (hc : copyOf a = a)
    (hi : p.pageAt w.plot.val (a / 0x100000) (a % 0x100000) = .reg a) : p.writeOf t w a v = p.regStore t w 0 a v := by
  unfold Part.writeOf Part.registerWrite
  rw [p.hit_page true hk hp ha ho h4 hi]
  simp [hc]

/-- A read by a plot of a register of its page that is no copy. -/
theorem Part.readOf_page (p : Part) (t : Nat) {w : Who} {a : Nat} (hk : w.kind ≠ .host) (hp : w.plot.val ≠ 0)
    (ha : a < 22 * 0x100000) (ho : a % 0x100000 < 0x10000) (h4 : a % 4 = 0) (hc : copyOf a = a)
    (hi : p.pageAt w.plot.val (a / 0x100000) (a % 0x100000) = .reg a) :
    p.readOf t w a = (p.regLoad t w a).2.answer w (p.regLoad t w a).1 := by
  unfold Part.readOf Part.registerRead
  rw [p.hit_page false hk hp ha ho h4 hi]
  simp [hc]

/-- The host reaches a ring register at its BAR0 offset (R33). -/
theorem Part.hit_ring (p : Part) {a : Nat} (write : Bool) (hl : 0x710000 ≤ a) (hu : a < 0x719000) (h4 : a % 4 = 0)
    (hi : implemented a = true) : p.hit hostWho (hostWho.addrOf a) 4 write = .reg a := by
  have hk : hostWho.kind = .host := rfl
  have h1 : ¬ (0x10000 ≤ a ∧ a < 0x20000) := by omega
  have h2 : (a - 0x610000) % 4 = 0 := by omega
  have h3 : ¬ a - 0x610000 < 0x10000 := by omega
  have h5 : 0x100000 ≤ a - 0x610000 ∧ a - 0x610000 < 0x109000 := by omega
  have h6 : 0x610000 + (a - 0x610000) = a := by omega
  have e : hostWho.addrOf a = a - 0x610000 := by
    unfold Who.addrOf barOf
    rw [if_pos hk, if_neg h1, if_pos ⟨hl, hu⟩]
  have e' : hostHit (a - 0x610000) = .reg a := by
    unfold hostHit
    rw [if_neg h3, if_pos h5, h6, if_pos hi]
  unfold Part.hit
  rw [if_pos hk, e]
  simp [h2, e']

/-- A write of a ring register by the host. -/
theorem Part.writeOf_ring (p : Part) (t : Nat) {a : Nat} (v : Word) (hl : 0x710000 ≤ a) (hu : a < 0x719000) (h4 : a % 4 = 0)
    (hi : implemented a = true) (hc : copyOf a = a) : p.writeOf t hostWho a v = p.regStore t hostWho 0 a v := by
  unfold Part.writeOf Part.registerWrite
  rw [p.hit_ring true hl hu h4 hi]
  simp [hc]

end Sys2Proof.Machine
end

