-- ==== Sys2Proof/Laws/FMap.lean ====
section
/-! SUPPORT. Reading after writing a sparse table, and that every operation on one keeps its canonical form. -/

namespace Sys2Proof.Machine

variable {α : Type}

theorem FMap.get_erase_self (d : Nat → α) (m : FMap α) (k : Nat) : FMap.get d (FMap.erase m k) k = d k := by
  induction m with
  | nil => rfl
  | cons e r ih =>
    obtain ⟨k', v⟩ := e
    by_cases h : k = k' <;> simp [FMap.erase, FMap.get, h] <;> simpa [h] using ih

theorem FMap.get_erase_other (d : Nat → α) (m : FMap α) {k j : Nat} (h : j ≠ k) :
    FMap.get d (FMap.erase m k) j = FMap.get d m j := by
  induction m with
  | nil => rfl
  | cons e r ih =>
    obtain ⟨k', v⟩ := e
    by_cases hk : k = k'
    · subst hk; simp [FMap.erase, FMap.get, h, ih]
    · by_cases hj : j = k' <;> simp [FMap.erase, FMap.get, hk, hj] <;> simpa [hj] using ih

/-- No entry is at key `k`. -/
def FMap.free (m : FMap α) (k : Nat) : Prop := ∀ e ∈ m, e.1 ≠ k

theorem FMap.free_erase (m : FMap α) (k : Nat) : FMap.free (FMap.erase m k) k := by
  induction m with
  | nil => intro e he; cases he
  | cons e r ih =>
    obtain ⟨k', v⟩ := e
    by_cases h : k = k'
    · simpa [FMap.erase, h] using ih
    · intro x hx
      simp only [FMap.erase, if_neg h] at hx
      rcases List.mem_cons.1 hx with rfl | hx
      · exact fun h' => h h'.symm
      · exact ih x hx

theorem FMap.get_ins_self (d : Nat → α) (m : FMap α) (k : Nat) (v : α) (h : FMap.free m k) :
    FMap.get d (FMap.ins m k v) k = v := by
  induction m with
  | nil => simp [FMap.ins, FMap.get]
  | cons e r ih =>
    obtain ⟨k', v'⟩ := e
    by_cases hk : k < k'
    · simp [FMap.ins, FMap.get, hk]
    · have hne : k ≠ k' := fun h' => h (k', v') (List.mem_cons_self) h'.symm
      simp [FMap.ins, FMap.get, hk, hne, ih (fun x hx => h x (List.mem_cons_of_mem _ hx))]

theorem FMap.get_ins_other (d : Nat → α) (m : FMap α) {k j : Nat} (v : α) (h : j ≠ k) :
    FMap.get d (FMap.ins m k v) j = FMap.get d m j := by
  induction m with
  | nil => simp [FMap.ins, FMap.get, h]
  | cons e r ih =>
    obtain ⟨k', v'⟩ := e
    by_cases hk : k < k'
    · simp [FMap.ins, FMap.get, hk, h]
    · by_cases hj : j = k' <;> simp [FMap.ins, FMap.get, hk, hj] <;> simpa [hj] using ih

/-- A read of the key just set gives the value set. -/
@[simp] theorem FMap.get_put_self [DecidableEq α] (d : Nat → α) (m : FMap α) (k : Nat) (v : α) :
    FMap.get d (FMap.put d m k v) k = v := by
  unfold FMap.put
  by_cases h : v = d k
  · rw [if_pos h, FMap.get_erase_self, h]
  · rw [if_neg h]; exact FMap.get_ins_self d _ k v (FMap.free_erase m k)

/-- A read of any other key gives what it gave. -/
theorem FMap.get_put_other [DecidableEq α] (d : Nat → α) (m : FMap α) {k j : Nat} (v : α) (h : j ≠ k) :
    FMap.get d (FMap.put d m k v) j = FMap.get d m j := by
  unfold FMap.put
  by_cases hv : v = d k
  · rw [if_pos hv]; exact FMap.get_erase_other d m h
  · rw [if_neg hv, FMap.get_ins_other d _ v h, FMap.get_erase_other d m h]

theorem FMap.get_put [DecidableEq α] (d : Nat → α) (m : FMap α) (k j : Nat) (v : α) :
    FMap.get d (FMap.put d m k v) j = if j = k then v else FMap.get d m j := by
  by_cases h : j = k
  · subst h; simp
  · rw [if_neg h, FMap.get_put_other d m v h]

/-- A read after a sweep: swept keys read as unlisted ones, the others as before. -/
theorem FMap.get_only (d : Nat → α) (keep : Nat → Bool) (m : FMap α) (j : Nat) :
    FMap.get d (FMap.only keep m) j = if keep j then FMap.get d m j else d j := by
  induction m with
  | nil => simp [FMap.only, FMap.get]
  | cons e r ih =>
    obtain ⟨k', v⟩ := e
    unfold FMap.only at ih ⊢
    by_cases hk : keep k' <;> by_cases hj : j = k' <;> simp_all [FMap.get]

/-! The canonical form. -/

theorem FMap.rising_iff (lo : Option Nat) (m : FMap α) :
    FMap.rising lo m = true ↔ m.Pairwise (fun a b => a.1 < b.1) ∧ ∀ l, lo = some l → ∀ e ∈ m, l < e.1 := by
  induction m generalizing lo with
  | nil => cases lo <;> simp [FMap.rising]
  | cons e r ih =>
    obtain ⟨k, v⟩ := e
    cases lo with
    | none => simp [FMap.rising, ih, and_comm]
    | some l =>
      simp only [FMap.rising, Bool.and_eq_true, decide_eq_true_eq, ih, List.pairwise_cons, List.mem_cons, forall_eq_or_imp,
        Option.some.injEq, forall_eq']
      constructor
      · rintro ⟨h1, h2, h3⟩; exact ⟨⟨fun a ha => h3 a ha, h2⟩, h1, fun a ha => Nat.lt_trans h1 (h3 a ha)⟩
      · rintro ⟨⟨h1, h2⟩, h3, _⟩; exact ⟨h3, h2, fun a ha => h1 a ha⟩

/-- The canonical form, as a statement about the list. -/
theorem FMap.wf_iff [DecidableEq α] (d : Nat → α) (m : FMap α) :
    FMap.wf d m = true ↔ m.Pairwise (fun a b => a.1 < b.1) ∧ ∀ e ∈ m, e.2 ≠ d e.1 := by
  simp [FMap.wf, FMap.rising_iff]

theorem FMap.erase_sublist (m : FMap α) (k : Nat) : (FMap.erase m k).Sublist m := by
  induction m with
  | nil => exact List.Sublist.slnil
  | cons e r ih =>
    obtain ⟨k', v⟩ := e
    by_cases h : k = k'
    · simp only [FMap.erase, if_pos h]; exact ih.cons _
    · simp only [FMap.erase, if_neg h]; exact ih.cons_cons _

theorem FMap.wf_sublist [DecidableEq α] {d : Nat → α} {m n : FMap α} (h : n.Sublist m) (w : FMap.wf d m = true) :
    FMap.wf d n = true := by
  rw [FMap.wf_iff] at *
  exact ⟨w.1.sublist h, fun e he => w.2 e (h.subset he)⟩

theorem FMap.mem_ins {m : FMap α} {k : Nat} {v : α} {e : Nat × α} (h : e ∈ FMap.ins m k v) : e = (k, v) ∨ e ∈ m := by
  induction m with
  | nil => simpa [FMap.ins] using h
  | cons x r ih =>
    obtain ⟨k', v'⟩ := x
    by_cases hk : k < k'
    · simpa [FMap.ins, hk] using h
    · simp only [FMap.ins, if_neg hk, List.mem_cons] at h ⊢
      rcases h with h | h
      · exact .inr (.inl h)
      · exact (ih h).imp id .inr

theorem FMap.ins_pairwise {m : FMap α} {k : Nat} (v : α) (h : m.Pairwise (fun a b => a.1 < b.1)) (hf : FMap.free m k) :
    (FMap.ins m k v).Pairwise (fun a b => a.1 < b.1) := by
  induction m with
  | nil => simp [FMap.ins]
  | cons x r ih =>
    obtain ⟨k', v'⟩ := x
    rw [List.pairwise_cons] at h
    have hne : k' ≠ k := hf (k', v') List.mem_cons_self
    by_cases hk : k < k'
    · simp only [FMap.ins, if_pos hk, List.pairwise_cons, List.mem_cons, forall_eq_or_imp]
      exact ⟨⟨hk, fun a ha => Nat.lt_trans hk (h.1 a ha)⟩, h⟩
    · simp only [FMap.ins, if_neg hk, List.pairwise_cons]
      refine ⟨fun a ha => ?_, ih h.2 (fun e he => hf e (List.mem_cons_of_mem _ he))⟩
      rcases FMap.mem_ins ha with rfl | ha
      · exact Nat.lt_of_le_of_ne (Nat.le_of_not_lt hk) hne
      · exact h.1 a ha

/-- Setting an entry keeps the canonical form. -/
theorem FMap.wf_put [DecidableEq α] (d : Nat → α) (m : FMap α) (k : Nat) (v : α) (w : FMap.wf d m = true) :
    FMap.wf d (FMap.put d m k v) = true := by
  have he := FMap.wf_sublist (FMap.erase_sublist m k) w
  unfold FMap.put
  by_cases h : v = d k
  · rwa [if_pos h]
  · rw [if_neg h]
    rw [FMap.wf_iff] at he ⊢
    refine ⟨FMap.ins_pairwise v he.1 (FMap.free_erase m k), fun e hm => ?_⟩
    rcases FMap.mem_ins hm with rfl | hm
    · exact h
    · exact he.2 e hm

/-- Sweeping keys away keeps the canonical form. -/
theorem FMap.wf_only [DecidableEq α] (d : Nat → α) (keep : Nat → Bool) (m : FMap α) (w : FMap.wf d m = true) :
    FMap.wf d (FMap.only keep m) = true := FMap.wf_sublist List.filter_sublist w

end Sys2Proof.Machine
end

