-- ==== Sys2Proof/Laws/Memory.lean ====
section
/-! SUPPORT. The byte memories: what a read gives after each operation, and that each keeps the canonical form. -/

namespace Sys2Proof.Machine

@[simp] theorem Part.byte_setByte_self (p : Part) (a : Nat) (b : Byte) : (p.setByte a b).byte a = b := by
  simp [Part.byte, Part.setByte]

theorem Part.byte_setByte_other (p : Part) {a k : Nat} (b : Byte) (h : k ≠ a) : (p.setByte a b).byte k = p.byte k := by
  simp [Part.byte, Part.setByte, FMap.get_put_other _ _ _ h]

theorem storeBytes_below (m : List Host.Cell) (a : Nat) (l : List Byte) {k : Nat} (h : k < a) :
    FMap.get memDefault (storeBytes m a l) k = FMap.get memDefault m k := by
  induction l generalizing m a with
  | nil => rfl
  | cons b r ih => rw [storeBytes, ih _ _ (by omega), FMap.get_put_other _ _ _ (by omega)]

theorem storeBytes_get (m : List Host.Cell) (a : Nat) (l : List Byte) (k : Nat) :
    FMap.get memDefault (storeBytes m a l) k =
      if a ≤ k then (l[k - a]?).getD (FMap.get memDefault m k) else FMap.get memDefault m k := by
  induction l generalizing m a with
  | nil => simp [storeBytes]
  | cons b r ih =>
    by_cases h : k < a
    · rw [storeBytes_below m a (b :: r) h, if_neg (by omega)]
    · by_cases he : k = a
      · subst he; simp [storeBytes, storeBytes_below]
      · rw [storeBytes, ih, if_pos (by omega), if_pos (by omega), FMap.get_put_other _ _ _ he]
        have : k - a = (k - (a + 1)) + 1 := by omega
        simp [this]

/-- A byte stored reads back by its place in the list. -/
theorem Part.byte_store (p : Part) (a : Nat) (l : List Byte) (i : Nat) (h : i < l.length) :
    (p.store a l).byte (a + i) = l[i] := by
  simp [Part.byte, Part.store, storeBytes_get, h]

/-- A store leaves every byte outside its own. -/
theorem Part.byte_store_other (p : Part) (a : Nat) (l : List Byte) (k : Nat) (h : k < a ∨ a + l.length ≤ k) :
    (p.store a l).byte k = p.byte k := by
  unfold Part.byte Part.store
  rw [storeBytes_get]
  by_cases hk : a ≤ k
  · rw [if_pos hk, List.getElem?_eq_none (by omega)]; rfl
  · rw [if_neg hk]

/-- A zeroed range reads 0, and nothing else changes. -/
theorem Part.byte_zero (p : Part) (a n k : Nat) :
    (p.zero a n).byte k = if a ≤ k ∧ k < a + n then 0 else p.byte k := by
  unfold Part.byte Part.zero
  rw [FMap.get_only]
  by_cases h : a ≤ k ∧ k < a + n
  · simp [h.1, h.2, memDefault]
  · simp only [if_neg h]
    have : (!(decide (a ≤ k) && decide (k < a + n))) = true := by simp; omega
    rw [this]; rfl

theorem storeBytes_wf (m : List Host.Cell) (a : Nat) (l : List Byte) (w : Memory.wf m = true) :
    Memory.wf (storeBytes m a l) = true := by
  induction l generalizing m a with
  | nil => exact w
  | cons b r ih => exact ih _ _ (FMap.wf_put _ _ _ _ w)

/-- Storing a byte keeps the canonical form. -/
theorem Part.setByte_wf (p : Part) (a : Nat) (b : Byte) (w : Memory.wf p.mem = true) : Memory.wf (p.setByte a b).mem = true :=
  FMap.wf_put _ _ _ _ w

/-- Storing bytes keeps the canonical form. -/
theorem Part.store_wf (p : Part) (a : Nat) (l : List Byte) (w : Memory.wf p.mem = true) : Memory.wf (p.store a l).mem = true :=
  storeBytes_wf _ _ _ w

/-- Zeroing a range keeps the canonical form. -/
theorem Part.zero_wf (p : Part) (a n : Nat) (w : Memory.wf p.mem = true) : Memory.wf (p.zero a n).mem = true :=
  FMap.wf_only memDefault (fun k => !(decide (a ≤ k) && decide (k < a + n))) p.mem w

theorem norProgram_wf (m : List Host.Cell) (a : Nat) (l : List Byte) (w : FMap.wf norDefault m = true) :
    FMap.wf norDefault (norProgram m a l) = true := by
  induction l generalizing m a with
  | nil => exact w
  | cons b r ih => exact ih _ _ (FMap.wf_put _ _ _ _ w)

/-- Programming NOR keeps its canonical form. -/
theorem Part.program_wf (p : Part) (a : Nat) (l : List Byte) (w : FMap.wf norDefault p.nor = true) :
    FMap.wf norDefault (p.program a l).nor = true := norProgram_wf _ _ _ w

/-- Erasing NOR keeps its canonical form. -/
theorem Part.eraseNor_wf (p : Part) (a n : Nat) (w : FMap.wf norDefault p.nor = true) :
    FMap.wf norDefault (p.eraseNor a n).nor = true :=
  FMap.wf_only norDefault (fun k => !(decide (a ≤ k) && decide (k < a + n))) p.nor w

/-- An erased byte of NOR reads 0xFF, and nothing else changes. -/
theorem Part.norByte_eraseNor (p : Part) (a n k : Nat) :
    (p.eraseNor a n).norByte k = if a ≤ k ∧ k < a + n then 0xFF else p.norByte k := by
  unfold Part.norByte Part.eraseNor
  rw [FMap.get_only]
  by_cases h : a ≤ k ∧ k < a + n
  · simp [h.1, h.2, norDefault]
  · simp only [if_neg h]
    have : (!(decide (a ≤ k) && decide (k < a + n))) = true := by simp; omega
    rw [this]; rfl

end Sys2Proof.Machine
end

