-- ==== Sys2Proof/Laws/Regs.lean ====
section
/-! SUPPORT. Registers and their fields: a write, and then a read of the same field, of another field and of another register. -/

namespace Sys2Proof

theorem Word.bits_lt (v : Word) (hi lo : Nat) : v.bits hi lo < 2 ^ (hi + 1 - lo) := Nat.mod_lt _ (Nat.two_pow_pos _)

theorem Word.bits_testBit (v : Word) (hi lo i : Nat) :
    (v.bits hi lo).testBit i = (decide (i < hi + 1 - lo) && v.getLsbD (i + lo)) := by
  simp [Word.bits, Nat.testBit_mod_two_pow, Nat.testBit_div_two_pow, BitVec.getLsbD]

theorem Word.mask_getLsbD (hi lo i : Nat) :
    (Word.mask hi lo).getLsbD i = (decide (i < 32) && decide (lo ≤ i) && decide (i < hi + 1)) := by
  simp only [Word.mask, BitVec.getLsbD_ofNat, Nat.testBit_mul_two_pow, Nat.testBit_two_pow_sub_one, Bool.and_assoc]
  by_cases h : lo ≤ i
  · have e : (i - lo < hi + 1 - lo) = (i < hi + 1) := by apply propext; omega
    simp [h, e]
  · simp [h]

theorem Word.withBits_getLsbD (v : Word) (hi lo n i : Nat) :
    (v.withBits hi lo n).getLsbD i =
      if lo ≤ i ∧ i ≤ hi ∧ i < 32 then n.testBit (i - lo) else v.getLsbD i := by
  simp only [Word.withBits, BitVec.getLsbD_or, BitVec.getLsbD_and, BitVec.getLsbD_not, Word.mask_getLsbD,
    BitVec.getLsbD_ofNat, Nat.testBit_mul_two_pow, Nat.testBit_mod_two_pow]
  by_cases h3 : i < 32
  · by_cases h1 : lo ≤ i <;> by_cases h2 : i ≤ hi
    all_goals first
      | (have e : i - lo < hi + 1 - lo := by omega
         have e' : i < hi + 1 := by omega
         simp [h1, h2, h3, e, e'])
      | (have e' : ¬ i < hi + 1 := by omega
         have e : ¬ i - lo < hi + 1 - lo := by omega
         simp [h1, h2, h3, e, e'])
      | simp [h1, h2, h3]
  · simp [h3, BitVec.getLsbD_of_ge v i (by omega)]

/-- A field just written reads as the low bits of what was written. -/
theorem Word.withBits_bits_self (v : Word) {hi lo : Nat} (n : Nat) (hh : hi < 32) :
    (v.withBits hi lo n).bits hi lo = n % 2 ^ (hi + 1 - lo) := by
  apply Nat.eq_of_testBit_eq
  intro i
  rw [Word.bits_testBit, Word.withBits_getLsbD, Nat.testBit_mod_two_pow]
  by_cases h : i < hi + 1 - lo
  · have : lo ≤ i + lo ∧ i + lo ≤ hi ∧ i + lo < 32 := by omega
    simp [h, this]
  · simp [h]

/-- A field that shares no bit with the one written reads as before. -/
theorem Word.withBits_bits_other (v : Word) {hi lo hi' lo' : Nat} (n : Nat) (h : hi' < lo ∨ hi < lo') :
    (v.withBits hi lo n).bits hi' lo' = v.bits hi' lo' := by
  apply Nat.eq_of_testBit_eq
  intro i
  rw [Word.bits_testBit, Word.bits_testBit, Word.withBits_getLsbD]
  by_cases hi1 : i < hi' + 1 - lo'
  · have : ¬ (lo ≤ i + lo' ∧ i + lo' ≤ hi ∧ i + lo' < 32) := by omega
    simp [this]
  · simp [hi1]

end Sys2Proof

namespace Sys2Proof.Machine

@[simp] theorem Part.reg_setReg_self (p : Part) (a : Nat) (v : Word) : (p.setReg a v).reg a = v := by
  simp [Part.reg, Part.setReg]

theorem Part.reg_setReg (p : Part) (a b : Nat) (v : Word) : (p.setReg a v).reg b = if b = a then v else p.reg b := by
  simp [Part.reg, Part.setReg, FMap.get_put]

theorem Part.reg_setReg_other (p : Part) {a b : Nat} (v : Word) (h : b ≠ a) : (p.setReg a v).reg b = p.reg b := by
  rw [Part.reg_setReg, if_neg h]

/-- A field's write leaves every other register. -/
theorem Part.reg_put_other (p : Part) (f : Fld) (n : Nat) {a : Nat} (h : a ≠ f.reg) : (p.put f n).reg a = p.reg a :=
  Part.reg_setReg_other p _ h

/-- A field just written reads as the low bits of what was written. -/
theorem Part.get_put_self (p : Part) (f : Fld) (n : Nat) (hh : f.hi < 32) :
    (p.put f n).get f = n % 2 ^ (f.hi + 1 - f.lo) := by
  simp [Part.get, Part.put, Word.withBits_bits_self _ n hh]

/-- A field of another register reads as before. -/
theorem Part.get_put_reg (p : Part) (f g : Fld) (n : Nat) (h : g.reg ≠ f.reg) : (p.put f n).get g = p.get g := by
  rw [Part.get, Part.get, Part.reg_put_other p f n h]

/-- A field of the same register that shares no bit reads as before. -/
theorem Part.get_put_disjoint (p : Part) (f g : Fld) (n : Nat) (h : g.hi < f.lo ∨ f.hi < g.lo) :
    (p.put f n).get g = p.get g := by
  by_cases hr : g.reg = f.reg
  · simp only [Part.get, Part.put, hr, Part.reg_setReg_self]; exact Word.withBits_bits_other _ n h
  · exact Part.get_put_reg p f g n hr

theorem Part.get_lt (p : Part) (f : Fld) : p.get f < 2 ^ (f.hi + 1 - f.lo) := Word.bits_lt _ _ _

/-- Resetting registers: the chosen ones hold their Reset value, the others what they held (R8). -/
theorem Part.reg_resetRegs (p : Part) (sel : Nat → Bool) (a : Nat) :
    (p.resetRegs sel).reg a = if sel a then regReset a else p.reg a := by
  unfold Part.reg Part.resetRegs
  rw [FMap.get_only]
  cases sel a <;> rfl

end Sys2Proof.Machine
end

