-- ==== Sys2Proof/Laws/Records.lean ====
section
/-! SUPPORT. What forming a record leaves as it was, for each operation that forms one. -/

namespace Sys2Proof.Machine

theorem Part.RecordsOnly.refl (p : Part) : p.RecordsOnly p := ⟨rfl, fun _ _ => rfl⟩

theorem Part.RecordsOnly.trans {p q r : Part} (h : p.RecordsOnly q) (k : q.RecordsOnly r) : p.RecordsOnly r :=
  ⟨by rw [k.1, h.1], fun a ha => (k.2 a ha).trans (h.2 a ha)⟩

/-- A register outside the HVS block, and every other field, reads as before. -/
theorem Part.RecordsOnly.get {p q : Part} (h : p.RecordsOnly q) (f : Fld) (hf : f.reg / 0x100000 ≠ 7) : q.get f = p.get f := by
  rw [Part.get, Part.get, h.2 f.reg hf]
theorem Part.RecordsOnly.mem {p q : Part} (h : p.RecordsOnly q) : q.mem = p.mem := by rw [h.1]
theorem Part.RecordsOnly.nor {p q : Part} (h : p.RecordsOnly q) : q.nor = p.nor := by rw [h.1]
theorem Part.RecordsOnly.sdl {p q : Part} (h : p.RecordsOnly q) : q.sdl = p.sdl := by rw [h.1]
theorem Part.RecordsOnly.boot {p q : Part} (h : p.RecordsOnly q) : q.boot = p.boot := by rw [h.1]
theorem Part.RecordsOnly.pins {p q : Part} (h : p.RecordsOnly q) : q.pins = p.pins := by rw [h.1]

theorem Part.RecordsOnly.modHv (p : Part) (k : Nat) (f : HvsPlot → HvsPlot) : p.RecordsOnly (p.modHv k f) := ⟨rfl, fun _ _ => rfl⟩
theorem Part.RecordsOnly.modPlot (p : Part) (k : Nat) (f : PlotUnit → PlotUnit) : p.RecordsOnly (p.modPlot k f) := ⟨rfl, fun _ _ => rfl⟩
theorem Part.RecordsOnly.setRule (p : Part) (k : Nat) (u : RuleState) : p.RecordsOnly (p.setRule k u) := ⟨rfl, fun _ _ => rfl⟩
theorem Part.RecordsOnly.put (p : Part) (f : Fld) (n : Nat) (hf : f.reg / 0x100000 = 7) : p.RecordsOnly (p.put f n) :=
  ⟨rfl, fun _ ha => Part.reg_put_other p f n (fun e => ha (e ▸ hf))⟩

theorem Part.RecordsOnly.each (p : Part) (l : List Nat) (f : Part → Nat → Part) (h : ∀ (q : Part) (k : Nat), q.RecordsOnly (f q k)) :
    p.RecordsOnly (p.each l f) := by
  unfold Part.each
  induction l generalizing p with
  | nil => exact .refl p
  | cons k r ih => exact (h p k).trans (ih _)

/-- Closing a crate. -/
theorem Part.RecordsOnly.closeCrate (p : Part) (plot cause : Nat) : p.RecordsOnly (p.closeCrate plot cause) := by
  unfold Part.closeCrate
  cases (p.hv plot).opened with
  | none => exact .refl p
  | some o => exact .modHv p plot _

/-- HVS_P_SEQ of a plot lies in the HVS block. -/
theorem seq_reg (plot : Nat) (h : plot < 9) : (F.HVS_P_SEQ_SEQ plot).reg / 0x100000 = 7 := by
  revert plot; decide

/-- Forming a record. -/
theorem Part.RecordsOnly.form (p : Part) (t plot : Nat) (c : JobCtx) (mk : Nat → List Byte) (h : plot < 9) :
    p.RecordsOnly (p.form t plot c mk) := by
  unfold Part.form
  by_cases hc : p.canForm plot = true
  · rw [if_pos hc]
    extract_lets seq bytes q0 q1 q2
    have h2 : p.RecordsOnly q2 := ((Part.RecordsOnly.put p _ _ (seq_reg plot h)).trans (.modHv _ plot _)).trans (.modPlot _ plot _)
    split
    · split
      · exact h2.trans (.closeCrate _ plot 0)
      · exact h2
    · exact h2
  · rw [if_neg hc]; exact .refl p

theorem Part.RecordsOnly.noteEvent (p : Part) (plot code : Nat) : p.RecordsOnly (p.noteEvent plot code) := by
  unfold Part.noteEvent
  refine .each p _ _ (fun q k => ?_)
  extract_lets
  split
  · exact .setRule q _ _
  · exact .refl q

theorem Part.RecordsOnly.event (p : Part) (t plot ts source code rule : Nat) (data : List Byte) (h : plot < 9) :
    p.RecordsOnly (p.event t plot ts source code rule data) :=
  (Part.RecordsOnly.form p t plot _ _ h).trans (.noteEvent _ _ _)

theorem Part.RecordsOnly.config (p : Part) (t plot kind code model version d0 d1 : Nat) (h : plot < 9) :
    p.RecordsOnly (p.config t plot kind code model version d0 d1) := .form p t plot _ _ h

theorem Part.runningPlots_lt (p : Part) {k : Nat} (h : k ∈ p.runningPlots) : k < 9 := by
  unfold Part.runningPlots at h
  exact List.mem_range.1 (List.mem_filter.1 h).1

/-- The CONFIG TIME records of a rise of TIME_VALID or of a step. -/
theorem Part.RecordsOnly.configTime (p : Part) (t code step : Nat) : p.RecordsOnly (p.configTime t code step) := by
  unfold Part.configTime Part.each
  have hl : ∀ k ∈ 0 :: p.runningPlots, k < 9 := by
    intro k hk
    cases List.mem_cons.1 hk with
    | inl e => subst e; decide
    | inr e => exact p.runningPlots_lt e
  generalize 0 :: p.runningPlots = l at hl
  suffices ∀ q : Part, p.RecordsOnly q → p.RecordsOnly (l.foldl _ q) from this p (.refl p)
  induction l with
  | nil => exact fun q h => h
  | cons k r ih =>
    intro q hq
    exact ih (fun j hj => hl j (List.mem_cons_of_mem _ hj)) _ (hq.trans (.config q t k 8 code _ _ _ _ (hl k List.mem_cons_self)))

end Sys2Proof.Machine
end

