-- ==== Sys2Proof/Tests/Slice0.lean ====
section
/-! SUPPORT. Tests of the model. For each clause of the statements that has hypotheses, a state that meets them together (`met_`); an
ill-formed command for each check of WellFormed; single steps on small states with values taken from the spec's rules or from published
check values (`test_`). The rows of the opcode table have no bits, so there is no decoding to test. -/

set_option Elab.async false
namespace Sys2Proof.Tests

open Sys2Proof Sys2Proof.Machine Sys2Proof.Claim

/-- Fields put, in order. -/
def puts (p : Part) (l : List (Fld × Nat)) : Part := l.foldl (fun q e => q.put e.1 e.2) p
/-- Bytes of an image from `base`: offset, width and value of each field. -/
def cells (base : Nat) (l : List (Nat × Nat × Nat)) : FMap Byte :=
  l.foldl (fun m e => (toLe e.2.1 e.2.2).zipIdx.foldl (fun m b => FMap.put memDefault m (seedBase + base + e.1 + b.2) b.1) m) []
/-- An image of sections: type, count of records, and the fields that are not 0. Section `i` stands at 0x1000 (i + 1). -/
def image (p : Part) (l : List (Nat × Nat × List (Nat × Nat × Nat))) : Part :=
  { p with mem :=
      p.mem.filter (fun e => decide (e.1 < seedBase)) ++ cells 0x0C [(0, 2, l.length)] ++
      (l.zipIdx.map (fun s => cells (0x40 + 16 * s.2) [(0, 2, s.1.1), (4, 4, 0x1000 * (s.2 + 1)), (12, 4, s.1.2.1)])).flatten ++
      (l.zipIdx.map (fun s => cells (0x1000 * (s.2 + 1)) s.1.2.2)).flatten ++ p.mem.filter (fun e => decide (seedBase + 0x1000000 ≤ e.1)) }
/-- Past boot step 13, with every pin as it then is. -/
def run : Part :=
  { Part.init with
    boot := { BootUnit.init with phase := .running }, pins := { Pins.init with porst := true } }
def st (p : Part) (ns : Nat) : State := { sun := BitVec.ofNat 96 (ns * 2 ^ 32), part := p, pending := [] }
def fw : Who := { kind := .shed, plot := 0 }
def app (k : Nat) : Who := { kind := .appCore, plot := Fin.ofNat 9 k }




/-- Links up, plot 1 running. -/
def up : Part := puts run [(F.PEP_LINK_UP, 1), (F.PEP_LINK_MSI, 4), (F.PRP_LINK_UP, 1), (F.PLT_STATE_STATE 1, 2)]
def env : BootEnv := { sfdpOk := true, rngOk := true, eyeOk := true, trainOk := true }
/-- A boot that ended in the bare state. -/
def boot (p : Phase) (q : Part := run) : Part := { q with boot := { q.boot with phase := p } }
def busy : Part := puts up [(F.SHD_MBX_STATUS_BUSY, 1)]

/-- Sections of an image: plot 1 with 4 cores, 16 stakes, 2 queues, beds 0 and 1, channels 0 and 1; stream 2 CSI-2, stream 5 AVC; pipeline 7 on
set 4 with a Pruner stage and a model stage; pipeline 8 on stream 2. -/
def plot1 : Nat × Nat × List (Nat × Nat × Nat) :=
  (3, 1, [(0, 1, 1), (1, 1, 7), (2, 1, 15), (4, 1, 16), (5, 1, 2), (8, 4, 1), (0x10, 8, 3), (0x28, 8, 3), (0x30, 8, 1)])
def streams2 : Nat × Nat × List (Nat × Nat × Nat) :=
  (4, 2, [(0, 1, 2), (1, 1, 1), (4, 1, 1), (5, 1, 1), (8, 2, 32), (10, 2, 2), (12, 4, 30000),
    (64, 1, 5), (65, 1, 1), (66, 1, 2), (67, 1, 1), (72, 2, 32), (74, 2, 32), (76, 4, 30000)])
def set4 : Nat × Nat × List (Nat × Nat × Nat) :=
  (5, 1, [(0, 1, 4), (1, 1, 1), (2, 1, 2), (4, 1, 2), (5, 1, 5), (8, 4, 100)])
def pipes2 : Nat × Nat × List (Nat × Nat × Nat) :=
  (6, 2, [(0, 2, 96), (2, 1, 7), (3, 1, 1), (4, 1, 1), (5, 1, 1), (6, 1, 4), (7, 1, 2), (8, 4, 10000), (13, 1, 1), (14, 1, 1), (0x10, 8, 3), (0x18, 2, 4),
    (68, 4, 0x00040004), (72, 4, 0x200), (80, 1, 1), (82, 2, 9),
    (96, 2, 80), (98, 1, 8), (99, 1, 1), (100, 1, 1), (102, 1, 2), (103, 1, 1), (104, 4, 10000), (109, 1, 1), (0x70, 8, 3), (0x78, 2, 4),
    (164, 4, 0x00040004), (168, 4, 0x300),
    (0x208, 2, 32), (0x20A, 1, 3), (0x20B, 1, 2), (0x20C, 4, 1000), (0x210, 8, 0x8000), (0x218, 4, 0x1000), (0x21C, 2, 1),
    (0x284, 2, 8), (0x286, 2, 2),
    (0x300, 1, 1), (0x308, 2, 32), (0x30A, 1, 4), (0x30B, 1, 2), (0x30C, 4, 1000), (0x310, 8, 0x10000), (0x318, 4, 0x1000), (0x31C, 2, 1),
    (0x384, 2, 8), (0x386, 2, 2)])
def model9 : Nat × Nat × List (Nat × Nat × Nat) :=
  (7, 1, [(0, 2, 9), (2, 1, 1), (4, 2, 1), (8, 4, 1), (12, 4, 3), (0x10, 8, 3), (0x1A, 2, 0xFFFF), (72, 4, 4096), (76, 4, 500), (80, 4, 900)])
def owned (p : Part) : Part :=
  puts p
    [(F.SDL_TMR_OWNER_PLOT 0, 1), (F.BRW_CH_OWNER_PLOT 0, 1), (F.BRW_CH_OWNER_PLOT 1, 1), (F.BED_OWN_LO_BANKS 0 0, 0xFFFFFFFF), (F.BED_OWN_HI_BANKS 0 0, 0xFFFF), (F.BED_OWN_LO_BANKS 1 0, 0xFFFFFFFF), (F.BED_OWN_HI_BANKS 1 0, 0xFFFF), (F.ITK_SET_CTRL_EN 4, 1), (F.ITK_CTRL_EN, 1), (F.PRN_CTRL_EN, 1), (F.VDC_CTRL_EN, 1),
     (F.VDC_STR_CFG_EN 5, 1), (F.VDC_RES_MPIX 1, 100), (F.PRN_RES_MPIX 1, 100)]
def scene : Part := owned (image up [plot1, streams2, set4, pipes2, model9])
/-- Plot 1 alone. -/
def light : Part := owned (image up [plot1])
/-- A job of pipeline 8 on frame 7 of stream 2. -/
def job3 : Job :=
  { handle := 3, plot := 1, pipe := 8, queue := 0, rt := true, prio := 0, id := none, set := 0xFF, ref := 0, ts := 400,
    members := [⟨2, 7, 0, false⟩], tainted := false, bolted := false, reissued := false, noTime := false, stage := 0, left := 1, drills := [],
    crops := [⟨0, 0, 8, 2, 0, 0⟩], steered := false, irq := false, formed := false, check := none, cut := false, ran := none }
def cmdOf (t : Task) (u : Nat) (l : List Nat) : Cmd :=
  { job := some 3, plot := 1, task := t, unit := u, places := l, limit := 500000, seq := none, begun := 0 }
def working (ready : List Cmd) (p : Part := scene) : Part := { p with jobs := { p.jobs with jobs := [job3], ready := ready, next := 4 } }

def hot : State := st { up with pins := { up.pins with thermtrip := true } } 7
theorem met_gen_thermtrip : ∃ s : State, s.part.pins.thermtrip = true ∧ Instr.accept 0 0 ≠ .porstNAssert ∧ Instr.accept 0 0 ≠ .thermtrip :=
  ⟨hot, by decide +kernel⟩
theorem met_gen_thermtrip_por : ∃ s : State, s.part.pins.thermtrip = true :=
  ⟨hot, by decide +kernel⟩
theorem met_gen_moves_forward : ∃ s : State, (match step s with | .next _ => true | _ => false) = true ∧
    s.pending.head? ≠ some .porstNAssert ∧ s.pending ≠ [] ∧ s.part.sdl.step = 0 :=
  ⟨{ st up 7 with pending := [.ppsFall] }, by decide +kernel⟩
theorem met_gen_empty_queue_runs : ∃ s : State, s.pending = [] ∧ s.part.sourceRuns = true ∧ -858993 ≤ s.part.rate ∧ s.part.rate ≤ 858993 :=
  ⟨let p := puts up [(F.SDL_STATUS_SRC, 2), (F.SDL_RATE_RATE, 5)]; st { p with pins := { p.pins with aonRunning := true } } 7, by decide +kernel⟩
theorem met_gen_empty_queue_stopped : ∃ s : State, s.pending = [] ∧ s.part.sourceRuns = false :=
  ⟨st { up with pins := { up.pins with refclk := false } } 7, by decide +kernel⟩
theorem met_boot_por_release_held : ∃ s : State, ReadyAon s ∧ s.part.boot.phase = .porHeld ∧ s.part.pins.refclk = true ∧
    s.part.pins.resetN = false :=
  ⟨st { Part.init with pins := { Pins.init with resetN := false } } 0, by decide +kernel⟩
theorem met_boot_por_release : ∃ s : State, ReadyAon s ∧ s.part.boot.phase = .porHeld ∧ s.part.pins.refclk = true ∧
    s.part.pins.resetN = true :=
  ⟨State.reset, by decide +kernel⟩
theorem met_boot_reset_assert : ∃ s : State, ReadyAon s ∧ s.part.boot.phase ≠ .porHeld ∧ s.part.pins.resetN = true :=
  ⟨st (puts up [(F.SDL_RATE_RATE, 5), (F.PLT_FENCED_PLOT, 2)]) 7, by decide +kernel⟩
theorem met_boot_reset_release : ∃ s : State, ReadyAon s ∧ s.part.boot.phase = .resetHeld ∧ s.part.pins.refclk = true :=
  ⟨st (boot .resetHeld) 7, by decide +kernel⟩
theorem met_boot_link_trained : ∃ s : State, Ready s ∧ s.part.epTrains = true :=
  ⟨st (boot .bare (puts run [(F.SHD_BOOT_STATE_SLOT, 3)])) 7, by decide +kernel⟩
theorem met_boot_nvme_up : ∃ s : State, Ready s ∧ s.part.nvmeAwaited = true :=
  ⟨st (boot .nvme) 7, by decide +kernel⟩
theorem met_boot_admission : ∃ s : State, Ready s ∧ s.part.admissionReady = true :=
  ⟨st (boot .loads) 7, by decide +kernel⟩
theorem met_boot_drain_end : ∃ s : State, Ready s ∧ s.part.drainEnds s.ns = true :=
  ⟨st (puts up [(F.SHD_BOOT_STATE_REPLANT_PENDING, 1)]) 7, by decide +kernel⟩
theorem met_boot_flush_end : ∃ s : State, Ready s ∧ s.part.get F.SHD_BOOT_STATE_REPLANT_PENDING = 1 ∧ s.part.boot.drained = true :=
  ⟨let p := puts up [(F.SHD_BOOT_STATE_REPLANT_PENDING, 1)]; st { p with boot := { p.boot with drained := true } } 7, by decide +kernel⟩
theorem met_boot_session_timeout : ∃ s : State, Ready s ∧ s.part.shedUp = true ∧ s.part.boot.session = some ⟨0, 4096, 1⟩ ∧
    1 + 60000000000 ≤ s.ns :=
  ⟨st { up with boot := { up.boot with session := some ⟨0, 4096, 1⟩ } } 60000000001, by decide +kernel⟩
theorem met_boot_window_end : ∃ s : State, Ready s ∧ s.part.windowOver = true :=
  ⟨st { up with boot := { up.boot with windowOpen := true } } 7, by decide +kernel⟩
theorem met_boot_tick : ∃ s : State, Ready s ∧ s.part.sdl.lastTick < s.ns / 1000000 :=
  ⟨st up 1000000, by decide +kernel⟩
theorem met_boot_mailbox_take : ∃ s : State, Ready s ∧ s.part.get F.PEP_LINK_UP = 1 ∧ s.part.get F.SHD_MBX_STATUS_BUSY = 0 :=
  ⟨st up 7, by decide +kernel⟩
theorem met_boot_mailbox_overrun : ∃ s : State, Ready s ∧ s.part.get F.PEP_LINK_UP = 1 ∧ s.part.get F.SHD_MBX_STATUS_BUSY = 1 :=
  ⟨st busy 7, by decide +kernel⟩
theorem met_boot_served_timeout : ∃ s : State, s.part.get F.SHD_MBX_STATUS_BUSY = 1 ∧ s.part.boot.timedOut = true :=
  ⟨st { busy with boot := { busy.boot with timedOut := true } } 7, by decide +kernel⟩
theorem met_boot_served_session : ∃ s : State, s.part.get F.SHD_MBX_STATUS_BUSY = 1 ∧ s.part.boot.timedOut = false ∧
    s.part.boot.session ≠ none ∧ s.part.get F.SHD_MBX_CMD_OP ≠ 2 ∧ s.part.get F.SHD_MBX_CMD_OP ≠ 3 ∧ s.part.get F.SHD_MBX_CMD_OP ≠ 8 :=
  ⟨st (puts { busy with boot := { busy.boot with session := some ⟨0, 4096, 1⟩ } } [(F.SHD_MBX_CMD_OP, 9)]) 7, by decide +kernel⟩
theorem met_boot_served_free : ∃ s : State, s.part.boot.timedOut = false ∧ s.part.boot.session = none ∧ s.part.boot.phase ≠ .bare ∧
    s.part.boot.windowOpen = false ∧ s.part.get F.SHD_MBX_CMD_OP = 1 ∧ s.part.get (F.SHD_MBX_ARG_ARG 0) = 0 ∧
    s.part.get (F.SHD_MBX_ARG_ARG 1) ≤ 0x1000000 :=
  ⟨st (puts busy [(F.SHD_MBX_CMD_OP, 1), (F.SHD_MBX_ARG_ARG 1, 0x1000000)]) 7, by decide +kernel⟩
theorem met_regs_shape : ∃ s : State, Ready s ∧ s.part.get F.PEP_LINK_UP = 1 ∧ ¬((4 : Nat) = 4 ∧ 0x200001 % 4 = 0) :=
  ⟨st up 5, by decide +kernel⟩
theorem met_regs_word : ∃ s : State, Ready s ∧ s.part.get F.PEP_LINK_UP = 1 ∧ 0x200000 % 4 = 0 :=
  ⟨st up 5, by decide +kernel⟩
theorem met_regs_codes : ∃ s : State, Ready s ∧ Firmware s fw :=
  ⟨st up 5, by decide +kernel⟩
theorem met_regs_reserved : ∃ s : State, Ready s ∧ Firmware s fw ∧ 0x14C < 22 * 0x100000 ∧ implemented 0x14C = false :=
  ⟨st up 5, by decide +kernel⟩
theorem met_regs_misaligned : ∃ s : State, Ready s ∧ Firmware s fw ∧ ¬((8 : Nat) = 4 ∧ R.SDL_STEP_LO % 4 = 0) :=
  ⟨st up 5, by decide +kernel⟩
theorem met_regs_outside : ∃ s : State, Ready s ∧ (app 1).kind ≠ .host ∧ (app 1).plot ≠ 0 ∧ s.part.issues (app 1) = true ∧
    s.part.fenced (app 1).plot = false ∧ pageAddr 0x5000 = none ∧ s.part.memKeys 1 0x5000 4 true = none ∧
    s.part.memKeys 1 0x5000 4 false = none :=
  ⟨st up 5, by decide +kernel⟩
theorem met_regs_link_reset : ∃ s : State, Ready s ∧ s.part.get F.PEP_LINK_UP = 1 :=
  ⟨st up 5, by decide +kernel⟩
theorem met_regs_access : ∃ s : State, Ready s ∧ s.part.issues (app 1) = true :=
  ⟨st up 5, by decide +kernel⟩

/-- The image grants PTP roles: port 0 default, port 1 slave only. -/
def net : Part := puts (image up [(1, 1, [(0x21, 1, 2), (0x51, 1, 1)])]) [(F.ETH_STAT_LINK 0, 1), (F.ETH_STAT_LINK 1, 1)]
/-- Port 0 is a slave. -/
def slave : Part := { net with sdl := { net.sdl with ptp := [.slave, .listening] } }
def locked : Part := puts slave [(F.SDL_STATUS_LOCKED, 1), (F.SDL_STATUS_TIME_VALID, 1)]
/-- In holdover with a curve of two points. -/
def hold : Part := puts { net with sdl := { net.sdl with curve := [(0, 0), (50000, 100)], lockedSincePor := true, rLock := 7, tLock := 1000 } } [(F.SDL_STATUS_HOLDOVER, 1)]
theorem met_sundial_second_outside : ∃ s : State, Ready s ∧ s.part.sdl.lastSec < s.ns / 1000000000 ∧ s.part.live = false :=
  ⟨st (puts (boot .bare) [(F.SDL_CAP_CTRL_PPS_EN, 1)]) 3000000007, by decide +kernel⟩
theorem met_sundial_second : ∃ s : State, Ready s ∧ s.part.sdl.lastSec < s.ns / 1000000000 :=
  ⟨st up 3000000007, by decide +kernel⟩
theorem met_sundial_pps : ∃ s : State, Ready s ∧ s.part.pins.pps = true ∧ 500000000 ≤ s.ns % 1000000000 :=
  ⟨st { up with pins := { up.pins with pps := true } } 1500000000, by decide +kernel⟩
theorem met_sundial_timer : ∃ s : State, Ready s ∧ s.part.timerDue s.ns 63 = true :=
  ⟨st (puts up [(F.SDL_TMR_OWNER_PLOT 63, 1), (F.SDL_TMR_CTRL_EN 63, 1), (F.SDL_TMR_PERIOD_PERIOD 63, 1000), (F.SDL_TMR_CMP_LO_CMP_LO 63, 500)]) 5000, by decide +kernel⟩
theorem met_sundial_ref_loss : ∃ s : State, ReadyAon s ∧ s.part.pins.refclk = true :=
  ⟨st up 5, by decide +kernel⟩
theorem met_sundial_ref_return : ∃ s : State, ReadyAon s ∧ s.part.pins.refclk = false ∧ s.part.pins.refLost = true :=
  ⟨st { up with pins := { up.pins with refclk := false, refLost := true } } 5, by decide +kernel⟩
theorem met_sundial_ptp_state : ∃ s : State, Ready s ∧ s.part.ptpOn 1 .listening = true :=
  ⟨st slave 5, by decide +kernel⟩
theorem met_sundial_ptp_state_gone : ∃ s : State, Ready s ∧ s.part.ptpOn 0 .listening = true :=
  ⟨st slave 5, by decide +kernel⟩
theorem met_sundial_ptp_servo : ∃ s : State, Ready s ∧ s.part.ptpOn 0 .slave = true ∧ (50 : Int) ≤ (s.part.img.stepNs : Int) ∧
    s.part.get F.SDL_STATUS_LOCKED = 1 :=
  ⟨st locked 5, by decide +kernel⟩
theorem met_sundial_lock_gained : ∃ s : State, Ready s ∧ s.part.lockDue s.ns = true ∧ s.part.get F.SDL_STATUS_TIME_VALID = 1 :=
  ⟨st (puts { slave with sdl := { slave.sdl with withinSince := some 6 } } [(F.SDL_STATUS_TIME_VALID, 1), (F.SDL_STATUS_HOLDOVER, 1)]) 64000000006, by decide +kernel⟩
theorem met_sundial_lock_lost : ∃ s : State, Ready s ∧ s.part.shedUp = true ∧ s.part.get F.SDL_STATUS_LOCKED = 1 ∧
    s.part.anySlave = false :=
  ⟨let p := puts net [(F.SDL_STATUS_LOCKED, 1), (F.SDL_STATUS_TIME_VALID, 1), (F.SDL_STATUS_CURVE_VALID, 1)];
    st { p with sdl := { p.sdl with lockedAt := 5 } } 14400000000005, by decide +kernel⟩
theorem met_sundial_slew_end : ∃ s : State, Ready s ∧ s.part.slewDone s.ns = true :=
  ⟨st { up with sdl := { up.sdl with slewSet := true, slewLeft := 100, slew := 50, slewAt := 5 } } 7, by decide +kernel⟩
theorem met_sundial_egress : ∃ s : State, Ready s ∧ s.part.ptpSends 1 = true ∧ s.ns + 30518 < 2 ^ 64 :=
  ⟨st net 700000, by decide +kernel⟩
theorem met_sundial_gpio : ∃ s : State, Ready s ∧ s.part.pins.gpioIn.testBit 7 ≠ true ∧ s.part.live = true ∧
    s.part.wakeFires s.ns (2 + 7) true = false ∧ (s.part.get F.SDL_CAP_CTRL_RISE_EN).testBit 7 = true ∧ s.part.sdl.caps.length < 32 :=
  ⟨st (puts up [(F.SDL_CAP_CTRL_RISE_EN, 128)]) 700, by decide +kernel⟩
theorem met_sundial_rate_low : ∃ s : State, Ready s ∧ Firmware s fw :=
  ⟨st up 700, by decide +kernel⟩
theorem met_sundial_step : ∃ s : State, Ready s ∧ Firmware s fw :=
  ⟨st { up with sdl := { up.sdl with stepLo := 5 } } 700, by decide +kernel⟩
theorem met_sundial_step0 : ∃ s : State, Ready s ∧ Firmware s fw :=
  ⟨st up 700, by decide +kernel⟩
theorem met_sundial_now : ∃ s : State, Ready s ∧ Reaches s (app 1) (app 1).plot.val :=
  ⟨st up 0x500000009, by decide +kernel⟩
theorem met_sundial_cmp_lo : ∃ s : State, Ready s ∧ Reaches s (app 1) (s.part.get (F.SDL_TMR_OWNER_PLOT 63)) :=
  ⟨st (puts up [(F.SDL_TMR_OWNER_PLOT 63, 1)]) 700, by decide +kernel⟩
theorem met_sundial_cmp_hi : ∃ s : State, Ready s ∧ Reaches s fw (s.part.get (F.SDL_TMR_OWNER_PLOT 63)) :=
  ⟨let p := puts up [(F.SDL_TMR_OWNER_PLOT 63, 1)];
    st { p with sdl := { p.sdl with held := FMap.put (fun _ => none) p.sdl.held 63 (some 9) } } 700, by decide +kernel⟩
theorem met_sundial_ctrl : ∃ s : State, Ready s ∧ Reaches s (app 1) (s.part.get (F.SDL_TMR_OWNER_PLOT 0)) ∧ (0x503 : Word).bits 2 1 ≠ 3 ∧
    s.part.chOwner ((0x503 : Word).bits 13 8) = s.part.get (F.SDL_TMR_OWNER_PLOT 0) :=
  ⟨st (puts up [(F.SDL_TMR_OWNER_PLOT 0, 1), (F.BRW_CH_OWNER_PLOT 5, 1)]) 700, by decide +kernel⟩
theorem met_sundial_ctrl_refused : ∃ s : State, Ready s ∧ s.part.chOwner ((0x603 : Word).bits 13 8) ≠ s.part.get (F.SDL_TMR_OWNER_PLOT 0) ∧
    Reaches s (app 1) (s.part.get (F.SDL_TMR_OWNER_PLOT 0)) ∧ (0x603 : Word).bits 2 1 ≠ 0 :=
  ⟨st (puts up [(F.SDL_TMR_OWNER_PLOT 0, 1), (F.BRW_CH_OWNER_PLOT 5, 1)]) 700, by decide +kernel⟩
theorem met_sundial_ctrl_refused3 : ∃ s : State, Ready s ∧ Reaches s (app 1) (s.part.get (F.SDL_TMR_OWNER_PLOT 0)) ∧
    (0x507 : Word).bits 2 1 = 3 :=
  ⟨st (puts up [(F.SDL_TMR_OWNER_PLOT 0, 1), (F.BRW_CH_OWNER_PLOT 5, 1)]) 700, by decide +kernel⟩
theorem met_sundial_missed : ∃ s : State, Ready s ∧ Reaches s (app 1) (s.part.get (F.SDL_TMR_OWNER_PLOT 3)) :=
  ⟨st (puts up [(F.SDL_TMR_OWNER_PLOT 3, 1), (F.SDL_TMR_MISSED_MISSED 3, 12)]) 700, by decide +kernel⟩
theorem met_sundial_cap_empty : ∃ s : State, Ready s ∧ Firmware s fw ∧ s.part.sdl.caps = [] :=
  ⟨st up 700, by decide +kernel⟩
theorem met_sundial_cap_one : ∃ s : State, Ready s ∧ Firmware s fw ∧ s.part.sdl.caps = [⟨5, true, 0x300000004⟩, ⟨5, false, 9⟩] :=
  ⟨st { up with sdl := { up.sdl with caps := [⟨5, true, 0x300000004⟩, ⟨5, false, 9⟩] } } 700, by decide +kernel⟩
theorem met_sundial_holdover : ∃ s : State, Ready s ∧ s.part.holdoverRuns = true ∧ s.part.holdRate 2000 ≠ none :=
  ⟨st hold 700, by decide +kernel⟩
theorem met_sundial_holdover_free : ∃ s : State, Ready s ∧ s.part.holdoverRuns = true ∧ s.part.holdRate 9000 = none :=
  ⟨st hold 700, by decide +kernel⟩

def mtrOn : Part := puts up [(F.MTR_CTRL_EN, 1), (F.MTR_STATUS_CAL_VALID, 1), (F.SDL_STATUS_TIME_VALID, 1)]
def zero7 : List Nat := [0, 0, 0, 0, 0, 0, 0]
def win1 : Part := image up [(3, 1, [(0, 1, 1), (8, 4, 1)])]
def aborted : Part := { win1 with
  nvme := { win1.nvme with cmds := [(3, some ⟨1, 1, 0, 0, 1, 0, 1, 0, 0⟩)] },
  plots := [(1, { PlotUnit.init 1 with fencedAt := some 5 })] }
theorem met_metplot_hour_off : ∃ s : State, Ready s ∧ s.part.shedUp = true ∧ s.part.sdl.lastHour < s.ns / 3600000000000 ∧
    (s.part.metering && s.part.mtrForms) = false :=
  ⟨st up 3600000000000, by decide +kernel⟩
theorem met_metplot_hour : ∃ s : State, Ready s ∧ s.part.shedUp = true ∧ s.part.sdl.lastHour < s.ns / 3600000000000 ∧
    (s.part.metering && s.part.mtrForms) = true :=
  ⟨st mtrOn 3600000000000, by decide +kernel⟩
theorem met_metplot_ten : ∃ s : State, Ready s ∧ s.part.tenDue.isSome = true :=
  ⟨st { mtrOn with mtr := { mtrOn.mtr with ten := [⟨5, true, false⟩, ⟨10000000001, true, false⟩], samples := [⟨20000000001, zero7, 0⟩] } } 20000000000, by decide +kernel⟩
theorem met_metplot_sample : ∃ s : State, Ready s ∧ s.part.metering = true ∧ zero7.length = 7 ∧
    ([1, 2, 3, 4, 5, 6, 7].all fun c => decide ((-0x7FFFFF : Int) < c ∧ c < 0x7FFFFF)) = true ∧ s.part.mtr.samples = [] ∧
    s.part.mtr.crosses = [] :=
  ⟨st mtrOn 1000000, by decide +kernel⟩
theorem met_metplot_hold_same : ∃ s : State, Ready s ∧ s.part.metering = true ∧ (s.part.holdOut 1).request = some false ∧
    s.part.holdFree s.ns 1 = true ∧ s.part.on (holdLevel 1) = false :=
  ⟨st { mtrOn with mtr := { mtrOn.mtr with holds := [(1, ⟨some 5, some false, 3, 6⟩)] } } 60000000000, by decide +kernel⟩
theorem met_metplot_hold_change : ∃ s : State, Ready s ∧ s.part.metering = true ∧ (s.part.holdOut 1).request = some true ∧
    s.part.holdFree s.ns 1 = true ∧ s.part.on (holdLevel 1) ≠ true :=
  ⟨st { mtrOn with mtr := { mtrOn.mtr with holds := [(1, ⟨some 5, some true, 3, 6⟩)] } } 60000000000, by decide +kernel⟩
theorem met_metplot_fallow : ∃ s : State, Ready s ∧ (app 1).kind ≠ .host ∧ (app 1).plot ≠ 0 ∧ s.part.issues (app 1) = true :=
  ⟨st up 7, by decide +kernel⟩
theorem met_metplot_drained : ∃ s : State, Ready s ∧ s.part.shedUp = true ∧ s.part.get (F.PLT_STATE_STATE 1) = 5 ∧ s.part.nvTagged 1 = 0 :=
  ⟨st (puts win1 [(F.PLT_STATE_STATE 1, 5), (F.PLT_FENCED_PLOT, 2)]) 7, by decide +kernel⟩
theorem met_metplot_drained0 : ∃ s : State, Ready s ∧ s.part.shedUp = true ∧ s.part.get (F.PLT_STATE_STATE 0) = 5 ∧ s.part.nvTagged 0 = 0 :=
  ⟨st (puts win1 [(F.PLT_STATE_STATE 0, 5)]) 7, by decide +kernel⟩
theorem met_metplot_zeroed : ∃ s : State, Ready s ∧ s.part.shedUp = true ∧ s.part.get (F.PLT_STATE_STATE 1) = 6 ∧
    s.part.get (F.PLT_STATE_KEY_FAIL 1) = 0 ∧ (s.part.plot 1).reloading = false :=
  ⟨st ((puts win1 [(F.PLT_STATE_STATE 1, 6), (F.PLT_FENCED_PLOT, 2)]).store (winBase 1) [1, 2, 3]) 7, by decide +kernel⟩
theorem met_metplot_retire : ∃ s : State, Ready s ∧ (s.part.plot 1).fencedAt = some 5 ∧ 5 + 200000000 ≤ s.ns ∧ s.part.nvTagged 1 ≠ 0 :=
  ⟨st aborted 200000005, by decide +kernel⟩

/-- Stream 2 of plot 1: CSI-2 port 1, VC 1, YUV422, 32 x 2. -/
def cam : Part :=
  puts (image up [(3, 1, [(0, 1, 1), (8, 4, 1)]), (4, 1, [(0, 1, 2), (1, 1, 1), (2, 1, 0), (4, 1, 1), (5, 1, 1), (6, 1, 0), (8, 2, 32), (10, 2, 2), (12, 4, 30000)])])
    [(F.ITK_CTRL_EN, 1), (F.ITK_PORT_CFG_EN 1, 1), (F.ITK_CTX_CTRL_EN 2, 1), (F.ITK_CTX_STATE_STATE 2, 3), (F.ITK_CTX_MATCH_CSI_PORT 2, 1), (F.ITK_CTX_MATCH_VC 2, 1), (F.ITK_CTX_FRAME_SEQ_SEQ 2, 6)]
def grp : ItkGroup := { base := 0x1000, size := 0x1000, x0 := 0, y0 := 0, w := 0, h := 0 }
def camCtx : ItkCtx := { ItkCtx.init 2 with active := grp, fresh := false }
def camIdle : Part := { cam with itk := [(2, camCtx)] }
def camPend : Part := puts { cam with itk := [(2, { camCtx with pending := some { grp with base := 0x3000 } })] } [(F.ITK_CTX_COMMIT_STAT_PENDING 2, 1), (F.ITK_CTX_RPTR_OFF 2, 64)]
def camFrame (n : Nat) : Part := { cam with itk := [(2, { camCtx with frame := some ⟨9, 7, 400, 0, n, false⟩ })] }
def line64 : List Byte := (List.range 64).map (fun i => BitVec.ofNat 8 (i + 1))
def stage (size : Nat) : Part := puts camPend [(F.ITK_CTX_S_BASE_LO_BASE 2, 0x4000), (F.ITK_CTX_S_SIZE_SIZE 2, size)]
/-- Stream 3 of plot 1: SOURCE 1 on Ethernet. -/
def rtsp : Part := puts (image up [(1, 1, []), (3, 1, [(0, 1, 1), (8, 4, 1)]), (4, 1, [(0, 1, 3), (1, 1, 1), (2, 1, 1), (3, 1, 1), (12, 4, 30000)])]) [(F.ITK_CTX_STATE_STATE 3, 1), (F.ETH_STAT_LINK 1, 1), (F.ETH_CFG_MODE 0, 1), (F.ITK_CTRL_EN, 1)]
def unit : AccessUnit := { rtpTs := 5, group := grp, seq := 4, ts := 77, start := 0, payload := [1, 2, 3, 4], nals := 1, lost := 0, firstSeq := 1, damaged := false, frag := none, abandoned := false }
theorem met_intake_fs_first : ∃ s : State, Ready s ∧ s.part.csiOn 1 = true ∧ s.part.csiCtx 1 1 = some 2 ∧ s.ns + 30518 < 2 ^ 64 ∧
    (s.part.ctx 2).pending = none :=
  ⟨st cam 400, by decide +kernel⟩
theorem met_intake_fs_pending : ∃ s : State, Ready s ∧ s.part.csiOn 1 = true ∧ s.part.csiCtx 1 1 = some 2 ∧ s.ns + 30518 < 2 ^ 64 ∧
    (s.part.ctx 2).pending = some { grp with base := 0x3000 } :=
  ⟨st camPend 400, by decide +kernel⟩
theorem met_intake_line : ∃ s : State, Ready s ∧ s.part.csiOn 1 = true ∧ s.part.csiFrameCtx 1 1 = some 2 ∧
    (s.part.ctx 2).frame = some ⟨9, 7, 400, 0, 1, false⟩ ∧ line64.length = wireBytes 0 32 ∧ s.part.img.streamWidth 2 = 32 ∧
    s.part.img.streamPixfmt 2 = 0 :=
  ⟨st (camFrame 1) 500, by decide +kernel⟩
theorem met_intake_line_short : ∃ s : State, Ready s ∧ s.part.csiOn 1 = true ∧ s.part.csiFrameCtx 1 1 = some 2 ∧
    (s.part.ctx 2).frame = some ⟨9, 7, 400, 0, 1, false⟩ ∧ 1 ≠ wireBytes (s.part.img.streamPixfmt 2) (s.part.img.streamWidth 2) :=
  ⟨st (camFrame 1) 500, by decide +kernel⟩
theorem met_intake_fe : ∃ s : State, Ready s ∧ s.part.csiFrameCtx 1 1 = some 2 ∧ s.part.img.streamHeight 2 = 2 ∧ s.part.csiOn 1 = true ∧
    (s.part.ctx 2).frame = some ⟨9, 7, 400, 0, s.part.img.streamHeight 2, false⟩ :=
  ⟨st (camFrame 2) 500, by decide +kernel⟩
theorem met_intake_fe_number : ∃ s : State, Ready s ∧ s.part.csiOn 1 = true ∧ s.part.csiFrameCtx 1 1 = some 2 ∧
    (s.part.ctx 2).frame = some ⟨9, 7, 400, 0, 2, false⟩ ∧ 8 ≠ 9 :=
  ⟨st (camFrame 2) 500, by decide +kernel⟩
theorem met_intake_commit : ∃ s : State, Ready s ∧ Firmware s fw ∧ s.part.get (F.ITK_CTX_STATE_STATE 2) = 3 ∧
    groupOk s.part.img 2 (s.part.staging 2) = true ∧ s.part.get (F.ITK_CTX_STATE_STATE 2) ≠ 5 :=
  ⟨st (stage 0x1000) 500, by decide +kernel⟩
theorem met_intake_commit_reject : ∃ s : State, Ready s ∧ Firmware s fw ∧ groupOk s.part.img 2 (s.part.staging 2) = false ∧
    s.part.get (F.ITK_CTX_STATE_STATE 2) = 3 :=
  ⟨st (stage 0x1800) 500, by decide +kernel⟩
theorem met_intake_commit_off : ∃ s : State, Ready s ∧ s.part.get (F.ITK_CTX_STATE_STATE 5) = 0 ∧ Firmware s fw :=
  ⟨st (stage 0x1800) 500, by decide +kernel⟩
theorem met_intake_relock : ∃ s : State, Ready s ∧ Firmware s fw :=
  ⟨st (puts rtsp [(F.ITK_CTX_STATE_SSRC_LOCKED 3, 1)]) 500, by decide +kernel⟩
theorem met_intake_fcs : ∃ s : State, Ready s ∧ s.part.ethHears 1 = true :=
  ⟨st rtsp 500, by decide +kernel⟩
theorem met_intake_other : ∃ s : State, Ready s ∧ s.part.addressed 1 [2, 2, 3, 4, 5, 6, 7] = false ∧ s.part.ethHears 1 = true :=
  ⟨st rtsp 500, by decide +kernel⟩
theorem met_intake_au_timeout : ∃ s : State, Ready s ∧ s.part.auTimedOut s.ns 3 = true :=
  ⟨st { rtsp with itk := [(3, { camCtx with au := some unit, seen := [(5, 4, 77, grp)] })] } 100000000, by decide +kernel⟩
theorem met_intake_entry : ∃ s : State, Ready s ∧ s.part.live = true ∧ s.part.get (F.ITK_CTX_STATE_STATE 2) ≠ 5 ∧
    (s.part.ctx 2).entries = [⟨0x1000, 0x1000, 0, 192, 7, 400, 1, (0, 0, 32, 2)⟩] ∧ (s.part.ctx 2).active = grp :=
  ⟨st { cam with itk := [(2, { camCtx with entries := [⟨0x1000, 0x1000, 0, 192, 7, 400, 1, (0, 0, 32, 2)⟩] })] } 600, by decide +kernel⟩
theorem met_intake_stall : ∃ s : State, Ready s ∧ s.part.ctxQuiet s.ns 2 = true :=
  ⟨st camIdle 134000000, by decide +kernel⟩
theorem met_intake_session : ∃ s : State, Ready s ∧ s.part.rtspReady 3 1 5004 = true :=
  ⟨st rtsp 600, by decide +kernel⟩
theorem met_intake_pair : ∃ s : State, Ready s ∧ s.part.pairDue s.ns 4 = true :=
  ⟨let p := puts (image up [(4, 1, [(0, 1, 2), (1, 1, 1)]), (5, 1, [(0, 1, 4), (1, 1, 1), (2, 1, 2), (3, 1, 0), (4, 1, 2), (5, 1, 6), (8, 4, 100)])]) [(F.ITK_SET_CTRL_EN 4, 1)];
    st { p with sets := [(4, { cands := [⟨0, 7, 400, false⟩], refs := [(7, 400)] })] } 600000000000, by decide +kernel⟩
theorem met_intake_link : ∃ s : State, Ready s ∧ s.part.linkChanges 1 false = true :=
  ⟨st rtsp 600, by decide +kernel⟩
theorem met_intake_link_up : ∃ s : State, Ready s ∧ s.part.linkChanges 0 true = true :=
  ⟨st rtsp 600, by decide +kernel⟩

def noted (n : NalNotice) : Part := { scene with itk := [(5, { ItkCtx.init 5 with notices := [n] })] }
/-- Stream 5 decodes, with a slice ready; stream 4 of set 4 is reference. -/
def decs (items : List DecItem) : Part :=
  puts { scene with vdc := { scene.vdc with streams := [(5, { DecStream.init 5 with items := items })] } } [(F.VDC_STR_STATE_STATE 5, 2)]
def slice1 : DecItem := .slice 6 300 1000 true true false true false true
def facts : SliceFacts := { samples := 1024, recovered := true, predicts := false, absentRef := false }
def onCore (u : DecStream) : Part :=
  puts { scene with vdc := { scene.vdc with streams := [(5, u)], cores := [(2, some 5)] } } [(F.VDC_STR_STATE_STATE 5, 2), (F.VDC_CORE_BUSY_BUSY, 4)]
def pic6 : DecPic := { gen := 8, frameSeq := 6, ts := 300, rows := 0, emitted := false, dark := false, tainted := false, voided := false, complete := false, ref := true, buf := 0, allOff := true, early := false }
def done : SliceResult := { ends := .decoded, row := 32, last := true, noCross := false, deblockOff := false, luma := [1], chroma := [2] }
def steer7 (count : Nat) : Part := puts scene [(F.PRN_PIPE_S_LIST_LO_ADDR 7, 0x100), (F.PRN_PIPE_S_COUNT_COUNT 7, count)]
def pipe7 (u : PrnPipe) : Part := { scene with prn := { scene.prn with pipes := [(7, u), (8, { u with pending := none })] } }
def latch : PrnLatch := { stream := 2, frameSeq := 7, gen := 0, ts := 400 }
def crop8 : Crop := ⟨0, 0, 8, 2, 0, 0⟩
/-- Frame 7 of stream 2 is committed in its ring. -/
def framed (p : Part) : Part := { p with itk := [(2, { ItkCtx.init 2 with active := ⟨0x1000, 0x1000, 0, 0, 0, 0⟩, ring := (0x1000, 0x1000), committed := [⟨0x1000, 0x1000, 0, 192, 7, 400, 1, (0, 0, 32, 2)⟩] })] }
def cropping : Part := let p := framed (working []); { p with prn := { p.prn with engines := [(1, some { cmdOf (.crop 0 crop8 false) 1 [0, 1, 2, 3] with seq := some 1, begun := 400 })] } }
def seg1 : Seg := { Seg.none with width := 4, pipe := 8, job := 3, stream := 2, frameSeq := 7 }
def drill : Drill := { seq := 5, slot := 1, segs := [seg1], firstAt := 1000, close := 0, closeTs := 0 }
def drills (u : PrnGrp) : Part := let p := working []; { p with prn := { p.prn with groups := [(groupKey 1 4, u)] } }
theorem met_decprn_nal_off : ∃ s : State, Ready s ∧ s.part.live = true ∧ (s.part.ctx 2).notices = [.auEnd 6 300 false false] ∧
    s.part.decOn 2 = false :=
  ⟨st { scene with itk := [(2, { ItkCtx.init 2 with notices := [.auEnd 6 300 false false] })] } 500, by decide +kernel⟩
theorem met_decprn_nal : ∃ s : State, Ready s ∧ s.part.live = true ∧ (s.part.ctx 5).notices = [.nal 6 300 0x1044 3 [0x65, 0x88, 0x80]] :=
  ⟨st (noted (.nal 6 300 0x1044 3 [0x65, 0x88, 0x80])) 500, by decide +kernel⟩
theorem met_decprn_slice : ∃ s : State, Ready s ∧ s.part.sliceCan s.ns 2 = true ∧ s.part.pickSlice s.ns = some 5 :=
  ⟨st (decs [slice1]) 500, by decide +kernel⟩
theorem met_decprn_slice_end : ∃ s : State, Ready s ∧ s.part.sliceRuns 2 = true :=
  ⟨st (onCore { DecStream.init 5 with pics := [pic6], current := true, bufs := [(0, some ⟨8, [7]⟩)] }) 600, by decide +kernel⟩
theorem met_decprn_slice_gone : ∃ s : State, Ready s ∧ s.part.sliceRuns 2 = true ∧ FMap.get (fun _ => none) s.part.vdc.cores 2 = some 5 ∧
    (s.part.dec 5).cur = none ∧ (s.part.dec 5).items = [] :=
  ⟨st (onCore (DecStream.init 5)) 600, by decide +kernel⟩
theorem met_decprn_void_not : ∃ s : State, (s.part.dec 5).cur = some { pic6 with complete := true } ∧ s.part.voidCurrent 600 5 3 = s.part :=
  ⟨st (onCore { DecStream.init 5 with pics := [{ pic6 with complete := true }], current := true }) 600, by decide +kernel⟩
theorem met_decprn_copying : ∃ s : State, Ready s ∧ Firmware s fw ∧ s.part.get (F.PRN_PIPE_COMMIT_STAT_COPYING 7) = 1 :=
  ⟨st (puts (steer7 2) [(F.PRN_PIPE_COMMIT_STAT_COPYING 7, 1)]) 500, by decide +kernel⟩
theorem met_decprn_bad : ∃ s : State, Ready s ∧ Firmware s fw ∧ s.part.commitBad 7 0x100 5 = true ∧
    s.part.get (F.PRN_PIPE_COMMIT_STAT_COPYING 7) = 0 :=
  ⟨st (steer7 5) 500, by decide +kernel⟩
theorem met_decprn_commit : ∃ s : State, Ready s ∧ Firmware s fw ∧ s.part.commitBad 7 0x100 4 = false ∧
    s.part.get (F.PRN_PIPE_COMMIT_STAT_COPYING 7) = 0 :=
  ⟨st (steer7 4) 500, by decide +kernel⟩
theorem met_decprn_copied : ∃ s : State, Ready s ∧ s.part.live = true ∧ (s.part.prnPipe 7).copying = some (.list 0x100 1) :=
  ⟨st (puts (pipe7 { PrnPipe.init 7 with copying := some (.list 0x100 1), callers := [] }) [(F.PRN_PIPE_COMMIT_STAT_COPYING 7, 1)]) 500, by decide +kernel⟩
theorem met_decprn_latch_set : ∃ s : State, Ready s ∧ s.part.live = true ∧ (s.part.prnPipe 7).latches = [latch] ∧
    s.part.get (F.PLT_STATE_STATE (s.part.img.pipePlot 7)) = 2 ∧ s.part.fenced (s.part.img.pipePlot 7) = false ∧ s.part.img.pipeInputKind 7 ≠ 0 ∧
    s.part.img.prnStage 7 ≠ none :=
  ⟨st (puts (pipe7 { PrnPipe.init 7 with latches := [latch], pending := some ([crop8], true) }) [(F.PRN_PIPE_COMMIT_STAT_PENDING 7, 1)]) 500, by decide +kernel⟩
theorem met_decprn_latch : ∃ s : State, Ready s ∧ s.part.live = true ∧ (s.part.prnPipe 8).latches ≠ [] :=
  ⟨st (pipe7 { PrnPipe.init 7 with latches := [latch], active := [crop8] }) 500, by decide +kernel⟩
theorem met_decprn_crop_start : ∃ s : State, Ready s ∧ s.part.canDispatch 1 1 = true :=
  ⟨st (framed (working [cmdOf (.crop 0 crop8 false) 1 [0, 1, 2, 3]])) 500, by decide +kernel⟩
theorem met_decprn_crop_end : ∃ s : State, Ready s ∧ s.part.live = true ∧ s.part.cropDone 1 = true :=
  ⟨st cropping 600, by decide +kernel⟩
theorem met_decprn_waited : ∃ s : State, Ready s ∧ s.part.live = true ∧ s.part.drillWaited s.ns (groupKey 1 4) = true ∧
    (s.part.grp (groupKey 1 4)).opened = some drill :=
  ⟨st (drills { PrnGrp.init 0 with opened := some drill }) 2000, by decide +kernel⟩
theorem met_decprn_notice : ∃ s : State, Ready s ∧ s.part.live = true ∧ s.part.noticeDue (groupKey 1 4) = true :=
  ⟨st (drills { PrnGrp.init 0 with closed := [{ drill with close := 1, closeTs := 2000 }] }) 2000, by decide +kernel⟩
theorem met_decprn_slot : ∃ s : State, Ready s ∧ s.part.live = true ∧ s.part.slotIdle (groupKey 1 4) = true :=
  ⟨st (drills { PrnGrp.init 0 with used := [(drill, 0)] }) 2000, by decide +kernel⟩

def kern : BedCmd := { cmd := { cmdOf .tracker 0 [] with seq := some 1 }, started := true, startAt := 5, aper := 0 , stripes := 0 }
def th0 (l : List (Nat × Word)) : Thread := { l.foldl (fun u e => setX u e.1 e.2) (Thread.init 0) with wait := .ready, pc := 0x100 }
/-- Bed 0 runs a command of plot 1 with these threads. -/
def bedRuns (ths : List (Nat × Thread)) (f : Bed → Bed := id) : Part :=
  let p := working [] light
  { p with beds := [(0, f { Bed.init 0 with cmd := some kern, threads := ths })] }
def thr (l : List (Nat × Word)) (f : Bed → Bed := id) : State := st (bedRuns [(0, th0 l)] f) 500
def w32 (n : Nat) : Word := BitVec.ofNat 32 n
/-- A descriptor of a walk of 4 INT8 elements at 0x80000100. -/
def agd4 : List Byte := toLe 4 0x80000100 ++ toLe 1 1 ++ [0, 0, 0] ++ toLe 2 4 ++ toLe 2 1 ++ toLe 2 1 ++ toLe 2 1 ++ toLe 4 1 ++ List.replicate 44 0
def vec (v : FMap Byte) : State := let p := bedRuns [(0, { th0 [(1, 0x80000000)] with vl := 4, vtype := 0, v := v })]
  st ((p.store (bedBase 0) agd4).store (bedBase 0 + 0x100) [9, 8, 7, 6]) 500
theorem met_beds_start : ∃ s : State, Ready s ∧ s.part.bedAwaits 0 = true ∧
    (s.part.bed 0).cmd = some { kern with started := false, startAt := 0 } ∧ s.part.taskThreads .tracker ≤ 64 :=
  ⟨let p := working [] light;
    st { p with beds := [(0, { Bed.init 0 with cmd := some { kern with started := false, startAt := 0 }, acc := [(0, 5)] })] } 500, by decide +kernel⟩
theorem met_beds_end : ∃ s : State, Ready s ∧ s.part.live = true ∧ s.part.bedIdle 0 = true :=
  ⟨st (bedRuns []) 500, by decide +kernel⟩
theorem met_beds_reset : ∃ s : State, Ready s ∧ Firmware s fw :=
  ⟨let p := bedRuns [(0, th0 [])] (fun d => { d with tputs := [⟨0, 1, 2, 3⟩] });
    st (puts p [(F.BED_FAULT_VALID 0, 1), (F.BED_FAULT_PC_PC 0, 3)]) 500, by decide +kernel⟩
theorem met_beds_reset_done : ∃ s : State, Ready s ∧ s.part.live = true ∧ s.part.on (F.BED_STATUS_RESETTING 0) = true :=
  ⟨st (puts light [(F.BED_STATUS_RESETTING 0, 1)]) 500, by decide +kernel⟩
theorem met_beds_add : ∃ s : State, Ready s ∧ s.part.threadReady 0 0 = true ∧ (w32 (mkR 0 2 1 0 3 0x33)).toNat % 128 = 0x33 :=
  ⟨thr [(1, 5), (2, 7)], by decide +kernel⟩
theorem met_beds_add_x0 : ∃ s : State, s.part.threadReady 0 0 = true ∧ (w32 (mkR 1 2 1 3 0 0x33)).toNat % 128 = 0x33 ∧
    iF7 (w32 (mkR 1 2 1 3 0 0x33)).toNat = 1 ∧ iF3 (w32 (mkR 1 2 1 3 0 0x33)).toNat = 3 ∧ iRd (w32 (mkR 1 2 1 3 0 0x33)).toNat = 0 :=
  ⟨thr [(1, 0xFFFFFFFF), (2, 0xFFFFFFFF)], by decide +kernel⟩
theorem met_beds_mulhu : ∃ s : State, s.part.threadReady 0 0 = true ∧ (w32 (mkR 1 2 1 3 4 0x33)).toNat % 128 = 0x33 ∧
    iF7 (w32 (mkR 1 2 1 3 4 0x33)).toNat = 1 ∧ iF3 (w32 (mkR 1 2 1 3 4 0x33)).toNat = 3 ∧ iRd (w32 (mkR 1 2 1 3 4 0x33)).toNat = 4 :=
  ⟨thr [(1, 0xFFFFFFFF), (2, 0xFFFFFFFF)], by decide +kernel⟩
theorem met_beds_slt : ∃ s : State, s.part.threadReady 0 0 = true ∧ (w32 (mkR 0 2 1 2 4 0x33)).toNat % 128 = 0x33 ∧
    iF7 (w32 (mkR 0 2 1 2 4 0x33)).toNat = 0 ∧ iF3 (w32 (mkR 0 2 1 2 4 0x33)).toNat = 2 :=
  ⟨thr [(1, 0xFFFFFFFF), (2, 3)], by decide +kernel⟩
theorem met_beds_sra : ∃ s : State, s.part.threadReady 0 0 = true ∧ (w32 (mkR 0x20 2 1 5 4 0x33)).toNat % 128 = 0x33 ∧
    iF7 (w32 (mkR 0x20 2 1 5 4 0x33)).toNat = 0x20 ∧ iF3 (w32 (mkR 0x20 2 1 5 4 0x33)).toNat = 5 :=
  ⟨thr [(1, 0x80000000), (2, 35)], by decide +kernel⟩
theorem met_beds_remu0 : ∃ s : State, s.part.threadReady 0 0 = true ∧ (w32 (mkR 1 2 1 7 4 0x33)).toNat % 128 = 0x33 ∧
    iF7 (w32 (mkR 1 2 1 7 4 0x33)).toNat = 1 ∧ iF3 (w32 (mkR 1 2 1 7 4 0x33)).toNat = 7 ∧
    xReg (s.part.thread 0 0) (iRs2 (w32 (mkR 1 2 1 7 4 0x33)).toNat) = 0 :=
  ⟨thr [(1, 0x80000000), (2, 0)], by decide +kernel⟩
theorem met_beds_addi : ∃ s : State, s.part.threadReady 0 0 = true ∧ (w32 (mkI (-3) 1 0 4 0x13)).toNat % 128 = 0x13 ∧
    iF3 (w32 (mkI (-3) 1 0 4 0x13)).toNat = 0 ∧ immI (w32 (mkI (-3) 1 0 4 0x13)).toNat = -3 :=
  ⟨thr [(1, 1)], by decide +kernel⟩
theorem met_beds_lui : ∃ s : State, s.part.threadReady 0 0 = true ∧ (w32 (0xFFFFF000 + 4 * 128 + 0x37)).toNat % 128 = 0x37 ∧
    (w32 (0xFFFFF000 + 4 * 128 + 0x37)).toNat / 4096 = 0xFFFFF :=
  ⟨thr [(1, 1)], by decide +kernel⟩
theorem met_beds_auipc : ∃ s : State, s.part.threadReady 0 0 = true ∧ (w32 (0xFFFFF000 + 4 * 128 + 0x17)).toNat % 128 = 0x17 ∧
    (w32 (0xFFFFF000 + 4 * 128 + 0x17)).toNat / 4096 = 0xFFFFF :=
  ⟨thr [(1, 1)], by decide +kernel⟩
theorem met_beds_fence : ∃ s : State, s.part.threadReady 0 0 = true :=
  ⟨thr [], by decide +kernel⟩
theorem met_beds_blt : ∃ s : State, s.part.threadReady 0 0 = true ∧ (w32 (mkB (-8) 2 1 4)).toNat % 128 = 0x63 ∧
    iF3 (w32 (mkB (-8) 2 1 4)).toNat = 4 ∧ immB (w32 (mkB (-8) 2 1 4)).toNat = -8 ∧
    (xReg (s.part.thread 0 0) 1).slt (xReg (s.part.thread 0 0) 2) = true :=
  ⟨thr [(1, 0xFFFFFFFF)], by decide +kernel⟩
theorem met_beds_bgeu : ∃ s : State, s.part.threadReady 0 0 = true ∧ (w32 (mkB (-8) 2 1 7)).toNat % 128 = 0x63 ∧
    iF3 (w32 (mkB (-8) 2 1 7)).toNat = 7 ∧ (xReg (s.part.thread 0 0) 1).ult (xReg (s.part.thread 0 0) 2) = true :=
  ⟨thr [(2, 0xFFFFFFFF)], by decide +kernel⟩
theorem met_beds_jal : ∃ s : State, s.part.threadReady 0 0 = true ∧ (w32 (mkJ (-8) 1)).toNat % 128 = 0x6F ∧ iRd (w32 (mkJ (-8) 1)).toNat = 1 ∧
    immJ (w32 (mkJ (-8) 1)).toNat = -8 :=
  ⟨thr [(1, 9)], by decide +kernel⟩
theorem met_beds_jalr : ∃ s : State, s.part.threadReady 0 0 = true ∧ (w32 (mkI 4 1 0 1 0x67)).toNat % 128 = 0x67 ∧
    iF3 (w32 (mkI 4 1 0 1 0x67)).toNat = 0 ∧ iRd (w32 (mkI 4 1 0 1 0x67)).toNat = iRs1 (w32 (mkI 4 1 0 1 0x67)).toNat :=
  ⟨thr [(1, 9)], by decide +kernel⟩
theorem met_beds_lb_own : ∃ s : State, Ready s ∧ inPages 0x80000104 = false ∧ (s.part.thOf s.ns 0 0 false).own 0x80000104 1 = true ∧
    (s.part.thRead (s.part.thOf s.ns 0 0 false) 0x80000104 1).toOption = some [0x80] ∧ s.part.threadReady 0 0 = true :=
  ⟨let t := thr [(1, 0x80000100)]; { t with part := t.part.store (bedBase 0 + 0x104) [0x80] }, by decide +kernel⟩
theorem met_beds_lw_dram : ∃ s : State, Ready s ∧ (s.part.thOf s.ns 0 0 false).own 0x104 4 = false ∧
    (s.part.thRead (s.part.thOf s.ns 0 0 false) 0x104 4).toOption = some [0, 0, 0, 0] ∧ s.part.threadReady 0 0 = true :=
  ⟨thr [(1, 0x100)], by decide +kernel⟩
theorem met_beds_lw_return : ∃ s : State, Ready s ∧ s.part.awaitsData 0 0 = true ∧
    (s.part.thread 0 0).wait = .load (w32 (mkI 4 1 2 3 0x03)) 0x104 ∧
    (s.part.thRead (s.part.thOf s.ns 0 0 false) 0x104 4).toOption = some [1, 2, 3, 4] :=
  ⟨let p := bedRuns [(0, { th0 [(1, 0x100)] with wait := .load (w32 (mkI 4 1 2 3 0x03)) 0x104 })];
    st (p.store (winBase 1 + 0x104) [1, 2, 3, 4]) 500, by decide +kernel⟩
theorem met_beds_sh : ∃ s : State, Ready s ∧ inPages 0x800000FE = false ∧ s.part.threadReady 0 0 = true ∧
    s.part.threadKeys 1 0 0x800000FE 2 = some [bedBase 0 + 0xFE, bedBase 0 + 0xFF] :=
  ⟨thr [(1, 0x80000100), (2, 0x12345678)], by decide +kernel⟩
theorem met_beds_illegal : ∃ s : State, Ready s ∧ s.part.threadReady 0 0 = true ∧ (s.part.bed 0).cmd = some kern ∧ s.part.fenced 1 = false ∧
    4 ≤ (4 : Fin 32).val :=
  ⟨thr [], by decide +kernel⟩
theorem met_beds_tzero : ∃ s : State, s.part.threadReady 0 0 = true ∧ (3 : Fin 32).val < 4 ∧ (s.part.bed 0).queue.length < 16 :=
  ⟨thr [], by decide +kernel⟩
theorem met_beds_tmma : ∃ s : State, s.part.threadReady 0 0 = true ∧ (3 : Fin 32).val < 4 ∧ (s.part.bed 0).queue.length < 16 :=
  ⟨thr [(1, 64), (2, 128)], by decide +kernel⟩
theorem met_beds_trq_full : ∃ s : State, 16 ≤ (s.part.bed 0).queue.length ∧ s.part.threadReady 0 0 = true ∧ (3 : Fin 32).val < 4 :=
  ⟨thr [(1, 64), (2, 128)] (fun d => { d with queue := List.replicate 16 ⟨0, 0, 0, 0, .zero⟩ }), by decide +kernel⟩
theorem met_beds_tcfg : ∃ s : State, s.part.threadReady 0 0 = true :=
  ⟨thr [(1, 0x111)], by decide +kernel⟩
theorem met_beds_twait_on : ∃ s : State, s.part.threadReady 0 0 = true ∧ (s.part.bed 0).engineOps 0 ≤ (1 : Fin 32) :=
  ⟨thr [] (fun d => { d with queue := [⟨0, 0, 0, 0, .zero⟩] }), by decide +kernel⟩
theorem met_beds_twait_blocks : ∃ s : State, s.part.threadReady 0 0 = true ∧ (0 : Fin 32).val < (s.part.bed 0).engineOps 0 :=
  ⟨thr [] (fun d => { d with queue := [⟨0, 0, 0, 0, .zero⟩] }), by decide +kernel⟩
theorem met_beds_tfence : ∃ s : State, s.part.threadReady 0 0 = true ∧ (7 : Fin 32).val < 8 ∧ (s.part.bed 0).engineOps 0 = 0 ∧
    (s.part.bed 0).copies 0 = 0 :=
  ⟨thr [], by decide +kernel⟩
theorem met_beds_texit : ∃ s : State, s.part.threadReady 0 0 = true :=
  ⟨thr [], by decide +kernel⟩
theorem met_beds_tbolt : ∃ s : State, s.part.threadReady 0 0 = true ∧ (xReg (s.part.thread 0 0) 1).toNat < 32 ∧
    16 ≤ (xReg (s.part.thread 0 0) 1).toNat :=
  ⟨thr [(1, 19)] (fun d => { d with bolts := [(3, 77), (4, 1)] }), by decide +kernel⟩
theorem met_beds_tbar_first : ∃ s : State, s.part.threadReady 0 0 = true ∧ xReg (s.part.thread 0 0) 1 = BitVec.ofNat 32 (2 * 256 + 2) ∧
    (FMap.get Barrier.init (s.part.bed 0).barriers 2).arrived = [] :=
  ⟨thr [(1, 0x202)], by decide +kernel⟩
theorem met_beds_tbar_last : ∃ s : State, s.part.threadReady 0 0 = true ∧ xReg (s.part.thread 0 0) 1 = BitVec.ofNat 32 (2 * 256 + 2) ∧
    (FMap.get Barrier.init (s.part.bed 0).barriers 2).count = 2 ∧ 2 ≤ (FMap.get Barrier.init (s.part.bed 0).barriers 2).arrived.length + 1 :=
  ⟨st (bedRuns [(0, th0 [(1, 0x202)]), (1, { th0 [] with wait := .tbar 2 })] (fun d => { d with barriers := [(2, ⟨2, [1]⟩)] })) 500, by decide +kernel⟩
theorem met_beds_tput : ∃ s : State, (s.part.thOf s.ns 0 0 false).own 0x80000040 16 = true ∧
    (s.part.thRead (s.part.thOf s.ns 0 0 false) 0x80000100 64).toOption.isSome = true ∧ (s.part.threadKeys 1 0 0x80200000 64).isSome = true ∧
    s.part.threadReady 0 0 = true :=
  ⟨let t := thr [(1, 0x80000040)]; { t with part := t.part.store (bedBase 0 + 0x40) (toLe 4 0x80000100 ++ toLe 4 0x80200000 ++ toLe 4 64) }, by decide +kernel⟩
theorem met_beds_tvld : ∃ s : State, Ready s ∧ s.part.threadReady 0 0 = true ∧
    (s.part.walkOf (s.part.thOf s.ns 0 0 false) { s.part.thread 0 0 with pc := 0x104 } (tilthWord 2 0 1 2 8)).toOption.isSome = true :=
  ⟨vec [], by decide +kernel⟩
theorem met_beds_tvst : ∃ s : State, Ready s ∧ s.part.threadReady 0 0 = true ∧
    (s.part.walkOf (s.part.thOf s.ns 0 0 false) { s.part.thread 0 0 with pc := 0x104 } (tilthWord 3 0 1 2 8)).toOption.isSome = true :=
  ⟨vec [(8 * 128, 1), (8 * 128 + 3, 4)], by decide +kernel⟩
theorem met_beds_engine_zero : ∃ s : State, Ready s ∧ s.part.live = true ∧ (s.part.bed 0).queue = [⟨0, 0, 0, 2, .zero⟩] ∧
    tcReserved 0 = false ∧ ((s.part.bed 0).cmd).isSome = true :=
  ⟨thr [] (fun d => { d with queue := [⟨0, 0, 0, 2, .zero⟩], acc := [(accAt 2 3 4, 9), (accAt 1 0 0, 8)] }), by decide +kernel⟩
theorem met_beds_copy : ∃ s : State, Ready s ∧ (s.part.bed 0).tputs[0]? = some ⟨0, 0x1000000100, 0x1000200000, 64⟩ ∧ s.part.live = true :=
  ⟨let t := thr [] (fun d => { d with tputs := [⟨0, 0x1000000100, 0x1000200000, 64⟩] }); { t with part := t.part.store 0x1000000100 [1, 2] }, by decide +kernel⟩

def layerCmd : Cmd := cmdOf (.layer 6 0) 0 [0, 1]
def infer6 : Infer := { handle := 6, jobs := [3], plot := 1, pipe := 8, named := 9, model := 9, drill := none, segs := [], entered := true, layer := 0, left := 1, bolts := 0, reruns := 0, rerun := false, wideIn := false, wideSpan := none, fetched := 1, bolted := false }
def inferring (ready : List Cmd) : Part := let p := puts (working ready) [(F.DSP_CTRL_EN, 1)]; { p with jobs := { p.jobs with infers := [infer6] } }
def queued (head : Nat) (en : Nat) : Part := puts scene [(F.DSP_Q_SIZE_BYTES 0 1, 4096), (F.DSP_Q_BASE_LO_BASE 0 1, 0x20000), (F.DSP_Q_HEAD_OFF 0 1, head), (F.DSP_Q_CTRL_EN 0 1, en), (F.DSP_Q_TAIL_OFF 0 1, head)]
/-- Models 9 and 10 of plot 1: 10 grafts on 9; with 2 layers each. -/
def grafts (m : Nat → ModelSt) : Part :=
  let p := image light [plot1, (7, 2, [(0, 2, 9), (2, 1, 1), (4, 2, 2), (0x10, 8, 3), (0x1A, 2, 0xFFFF),
    (192, 2, 10), (194, 1, 1), (196, 2, 2), (0xD0, 8, 3), (0xD8, 1, 4), (0xD9, 1, 4), (0xDA, 2, 9)])]
  { p with models := { p.models with models := [(9, m 9), (10, m 10)] } }
def loading : Part :=
  let p := grafts (fun m => { ModelSt.init m with state := if m = 9 then 1 else 0, ordered := true })
  { p with models := { p.models with loads := [(1, { cur := some ⟨false, 9, 0, 5⟩, queue := [] })] } }
/-- The blobs of model `m`'s two layers, and the Gardeners' copies of their heads, hold these fields. -/
def described (p : Part) (m : Nat) (l : List (Nat × Nat × Nat)) : Part :=
  let q := l.foldl (fun q e => q.store (winBase 1 + p.img.blobBase m 0 + e.1) (toLe e.2.1 e.2.2)) p
  let h := (List.range 0xC0).map (fun o => q.byte (winBase 1 + p.img.blobBase m 0 + o))
  (q.copyHead m 0 h).copyHead m 1 h
def unitDesc : List (Nat × Nat × Nat) :=
  [(8, 8, 1), (0x42, 4, 0x01010101), (0x46, 2, 0x0101), (0x50, 2, 1), (0x52, 2, 1), (0x54, 2, 1), (0x56, 2, 1), (0x58, 8, 0x800000000000), (0x70, 8, 0x800000001000), (0x80, 4, 0x2000), (0x84, 4, 0x3000), (0x88, 4, 0x4000), (0x8C, 4, 0x1000)]
theorem met_sched_head_bad : ∃ s : State, Ready s ∧ Reaches s (app 1) 1 ∧ 1 < s.part.img.queues 1 ∧ (65 : Word).toNat % 64 ≠ 0 :=
  ⟨st (queued 0 1) 500, by decide +kernel⟩
theorem met_sched_head_size : ∃ s : State, Ready s ∧ Reaches s (app 1) 1 ∧ 1 < s.part.img.queues 1 ∧
    s.part.qSize 1 1 ≤ (4096 : Word).toNat :=
  ⟨st (queued 0 1) 500, by decide +kernel⟩
theorem met_sched_head_off : ∃ s : State, Ready s ∧ s.part.on (F.DSP_Q_CTRL_EN (1 - 1) 1) = false ∧ (128 : Word).toNat < s.part.qSize 1 1 ∧
    Reaches s (app 1) 1 ∧ 1 < s.part.img.queues 1 ∧ (128 : Word).toNat % 64 = 0 :=
  ⟨st (queued 0 0) 500, by decide +kernel⟩
theorem met_sched_dispatch : ∃ s : State, Ready s ∧ s.part.canDispatch 0 0 = true ∧
    s.part.pick (s.part.jobs.ready.filter (fun c => s.part.fits c 0 0)) 0 = some { layerCmd with seq := some 4, begun := 300 } :=
  ⟨st (inferring [{ layerCmd with seq := some 4, begun := 300 }]) 500, by decide +kernel⟩
theorem met_sched_stripe : ∃ s : State, Ready s ∧ s.part.live = true ∧ s.part.stripeReady 0 = true :=
  ⟨let p := described (inferring []) 9 unitDesc;
    st { p with beds := [(0, { Bed.init 0 with cmd := some { cmd := { layerCmd with seq := some 4, begun := 300, places := [0] }, started := true, startAt := 300, aper := 0, stripes := 0 } })] } 500, by decide +kernel⟩
theorem met_sched_limit : ∃ s : State, Ready s ∧ s.part.live = true ∧ s.part.overLimit s.ns 0 0 = true ∧
    s.part.placeCmd 0 0 = some { layerCmd with seq := some 4, begun := 300, places := [0] } ∧
    s.part.jobs.faults.any (fun f => f.job == some 3) = false :=
  ⟨let p := inferring [layerCmd];
    st { p with beds := [(0, { Bed.init 0 with cmd := some { cmd := { layerCmd with seq := some 4, begun := 300, places := [0] }, started := true, startAt := 300, aper := 0, stripes := 0 } })] } 500300, by decide +kernel⟩
theorem met_sched_teardown : ∃ s : State, Ready s ∧ s.part.live = true ∧ s.part.jobs.faults ≠ [] :=
  ⟨let p := inferring []; st { p with jobs := { p.jobs with faults := [⟨some 3, 1, 9, 4⟩] } } 500, by decide +kernel⟩
theorem met_sched_take : ∃ s : State, Ready s ∧ Reaches s (app 1) (s.part.img.stakeOwner 15) ∧ s.part.get (F.STK_TAKE_TAKE 15) = 0 :=
  ⟨st scene 500, by decide +kernel⟩
theorem met_sched_take_held : ∃ s : State, Ready s ∧ Reaches s (app 1) (s.part.img.stakeOwner 15) ∧ s.part.get (F.STK_TAKE_TAKE 15) = 1 :=
  ⟨st (puts scene [(F.STK_TAKE_TAKE 15, 1), (F.STK_OWNER_CTX 15, 7), (F.STK_STAT_CONTEND 15, 65535)]) 500, by decide +kernel⟩
theorem met_sched_take_255 : ∃ s : State, Ready s ∧ Reaches s fw (s.part.img.stakeOwner 255) ∧ s.part.get (F.STK_TAKE_TAKE 255) = 0 :=
  ⟨st scene 500, by decide +kernel⟩
theorem met_sched_rel : ∃ s : State, Ready s ∧ s.part.get (F.STK_TAKE_TAKE 15) = 1 ∧ s.part.get (F.STK_OWNER_CTX 15) = 7 ∧
    Reaches s (app 1) (s.part.img.stakeOwner 15) :=
  ⟨st (puts scene [(F.STK_TAKE_TAKE 15, 1), (F.STK_OWNER_CTX 15, 7), (F.STK_STAT_CONTEND 15, 2), (F.STK_STAT_BLIGHTED 15, 1)]) 500, by decide +kernel⟩
theorem met_sched_rel_other : ∃ s : State, Ready s ∧ Reaches s (app 1) (s.part.img.stakeOwner 15) ∧ s.part.get (F.STK_OWNER_CTX 15) ≠ 8 :=
  ⟨st (puts scene [(F.STK_TAKE_TAKE 15, 1), (F.STK_OWNER_CTX 15, 7), (F.STK_STAT_BLIGHTED 15, 1)]) 500, by decide +kernel⟩
theorem met_sched_rel_free : ∃ s : State, Ready s ∧ Reaches s (app 1) (s.part.img.stakeOwner 15) ∧ s.part.get (F.STK_TAKE_TAKE 15) = 0 :=
  ⟨st scene 500, by decide +kernel⟩
theorem met_sched_read_fails : ∃ s : State, Ready s ∧ s.part.readAwaited 1 = true ∧
    s.part.loadq 1 = { cur := some ⟨false, 9, 0, 5⟩, queue := [] } :=
  ⟨st loading 500, by decide +kernel⟩
theorem met_sched_read_digest : ∃ s : State, Ready s ∧ Crypto.sha256 [1] ≠ s.part.img.layerSha 9 0 ∧ s.part.readAwaited 1 = true ∧
    s.part.loadq 1 = { cur := some ⟨false, 9, 0, 5⟩, queue := [] } :=
  ⟨st loading 500, by decide +kernel⟩
theorem met_sched_placed : ∃ s : State, Ready s ∧ s.part.storing = true ∧ s.part.placing 9 1 = true :=
  ⟨st (grafts (fun m => { ModelSt.init m with state := if m = 9 then 1 else 0, placing := m == 9 })) 500, by decide +kernel⟩
theorem met_sched_fetch : ∃ s : State, Ready s ∧ s.part.live = true ∧ s.part.fetchReady 6 = true :=
  ⟨let p := image (inferring []) [plot1, streams2, set4, pipes2, (7, 1, [(0, 2, 9), (2, 1, 1), (3, 1, 1), (4, 2, 1)])];
    st { p with jobs := { p.jobs with infers := [{ infer6 with fetched := 0, entered := false, left := 0 }] } } 500, by decide +kernel⟩
theorem met_sched_staged_bad : ∃ s : State, Ready s ∧ s.part.storing = true ∧ s.part.placing 10 3 = true ∧ s.part.stagingReady 10 = true :=
  ⟨st (grafts (fun m => { ModelSt.init m with state := if m = 9 then 6 else 3, placing := m == 10, ordered := m == 10 })) 500, by decide +kernel⟩
theorem met_sched_swap_first : ∃ s : State, Ready s ∧ s.part.live = true ∧ s.part.swapReady 10 = true ∧
    (s.part.model 10).swapped + 1 < s.part.img.modelLayers 10 :=
  ⟨st (grafts (fun m => { ModelSt.init m with state := if m = 9 then 6 else 5 })) 500, by decide +kernel⟩
theorem met_sched_swap_last : ∃ s : State, Ready s ∧ s.part.live = true ∧ s.part.swapReady 10 = true ∧
    (s.part.model 10).swapped + 1 = s.part.img.modelLayers 10 ∧ s.part.img.graftOf 10 ≠ 10 :=
  ⟨st (grafts (fun m => { ModelSt.init m with state := if m = 9 then 6 else 5, swapped := if m = 10 then 1 else 0 })) 500, by decide +kernel⟩
theorem met_sched_staged_good : ∃ s : State, Ready s ∧ s.part.storing = true ∧ s.part.placing 10 3 = true ∧ s.part.stagingReady 10 = true ∧
    (List.range (s.part.img.modelLayers 10)).any (s.part.mismatch 10 (s.part.familyLive 10)) = false :=
  ⟨st (described (grafts (fun m => { ModelSt.init m with state := if m = 9 then 6 else 3, placing := m == 10, ordered := m == 10 })) 10 [(0x80, 4, 0x20000), (0x84, 4, 0x20000)]) 500, by decide +kernel⟩

/-- A descriptor at index 1 of channel 0's ring: a copy of 64 bytes from 0x50000 to 0x60000, OWN as given, TICKET 5. -/
def descBytes (own : Nat) : List Byte :=
  toLe 2 own ++ toLe 2 5 ++ toLe 4 0 ++ toLe 8 0x50000 ++ toLe 8 0x60000 ++ toLe 4 64 ++ toLe 2 1 ++ List.replicate 34 0
def desc1 : Desc := readBrw 1 (descBytes 1)
/-- Channel 0 of plot 1 in a state, with its ring at 0x40000. -/
def chan0 (stt : Nat) (l : List (Fld × Nat) := []) (u : Chan := Chan.init 0) (own : Nat := 1) : State :=
  let p := puts light ([(F.BRW_CH_STATE_STATE 0, stt), (F.BRW_CH_RING_SIZE_LOG2 0, 2), (F.BRW_CH_RING_LO_BASE 0, 0x40000)] ++ l)
  st { p.store (winBase 1 + 0x40040) (descBytes own) with brw := [(0, u)] } 500
def en0 : List (Fld × Nat) := [(F.BRW_CH_CTRL_EN 0, 1), (F.BRW_CH_HEAD_INDEX 0, 1)]
def run1 (running begun : Bool) (row : Nat) : BrwRun := { d := desc1, running := running, row := row, off := 0, begun := begun, bytes := 64 * row, sent := [] }
def fin1 (phase : Nat) (settled : Bool) : BrwFin := { d := desc1, status := 1, bytes := 64, doneTs := 490, phase := phase, settled := settled }
def with_ (u : Option BrwRun) (f : List BrwFin) : Chan := { Chan.init 0 with run := u, fins := f, next := 1 }
theorem met_barrow_en : ∃ s : State, Ready s ∧ Reaches s (app 1) (s.part.chOwner 0) ∧ s.part.chState 0 = 0 ∧ s.part.ringValid 0 = true ∧
    s.part.get (F.BRW_CH_STATE_DB_PEND 0) = 0 :=
  ⟨chan0 0 [(F.BRW_CH_HEAD_INDEX 0, 1), (F.BRW_CH_STATE_HYST_ON 0, 1)], by decide +kernel⟩
theorem met_barrow_en_bad : ∃ s : State, Ready s ∧ s.part.ringValid 0 = false ∧ Reaches s (app 1) (s.part.chOwner 0) ∧
    s.part.chState 0 = 0 :=
  ⟨chan0 0 [(F.BRW_CH_RING_SIZE_LOG2 0, 0)], by decide +kernel⟩
theorem met_barrow_dis : ∃ s : State, Ready s ∧ Reaches s (app 1) (s.part.chOwner 0) ∧ s.part.chState 0 ∈ [1, 2, 4, 5] :=
  ⟨chan0 4 en0 (with_ (some (run1 false true 0)) []), by decide +kernel⟩
theorem met_barrow_dis_run : ∃ s : State, Ready s ∧ Reaches s (app 1) (s.part.chOwner 0) ∧ s.part.chState 0 ∈ [3, 6] :=
  ⟨chan0 3 en0 (with_ (some (run1 true true 0)) []), by decide +kernel⟩
theorem met_barrow_pause : ∃ s : State, Ready s ∧ Reaches s (app 1) (s.part.chOwner 0) ∧ s.part.get (F.BRW_CH_CTRL_EN 0) = 1 ∧
    s.part.chState 0 ≠ 0 :=
  ⟨chan0 3 en0 (with_ (some (run1 true true 0)) []), by decide +kernel⟩
theorem met_barrow_resume : ∃ s : State, Ready s ∧ Reaches s (app 1) (s.part.chOwner 0) ∧ s.part.get (F.BRW_CH_CTRL_EN 0) = 1 ∧
    s.part.chState 0 = 4 ∧ (s.part.chan 0).run = some (run1 false true 0) ∧ s.part.get F.BRW_CTRL_PAUSE = 0 :=
  ⟨chan0 4 (en0 ++ [(F.BRW_CH_CTRL_PAUSE 0, 1)]) (with_ (some (run1 false true 0)) []), by decide +kernel⟩
theorem met_barrow_pause_all : ∃ s : State, Ready s ∧ Firmware s fw :=
  ⟨chan0 3 en0 (with_ (some (run1 true true 0)) []), by decide +kernel⟩
theorem met_barrow_paused : ∃ s : State, Ready s ∧ s.part.live = true ∧ s.part.pauseReady 0 = true :=
  ⟨chan0 3 (en0 ++ [(F.BRW_CH_CTRL_PAUSE 0, 1)]) (with_ (some (run1 true true 0)) []), by decide +kernel⟩
theorem met_barrow_bell_none : ∃ s : State, Ready s ∧ Reaches s (app 1) (s.part.chOwner 0) ∧ s.part.chState 0 = 1 ∧
    s.part.chPaused 0 = false ∧ (s.part.chan 0).fins = [] ∧ s.part.ringBytes 0 1 0 64 = some (descBytes 0) ∧ s.part.get (F.BRW_CH_CTRL_EN 0) = 1 ∧
    s.part.get (F.BRW_CH_STATE_DB_PEND 0) = 0 :=
  ⟨chan0 1 en0 (with_ none []) 0, by decide +kernel⟩
theorem met_barrow_bell : ∃ s : State, Ready s ∧ s.part.ringBytes 0 1 0 64 = some (descBytes 1) ∧ (s.part.chan 0).next < 4096 ∧
    Reaches s (app 1) (s.part.chOwner 0) ∧ s.part.get (F.BRW_CH_CTRL_EN 0) = 1 ∧ s.part.chState 0 = 1 ∧ s.part.chPaused 0 = false ∧
    (s.part.chan 0).fins = [] ∧ s.part.get (F.BRW_CH_STATE_DB_PEND 0) = 0 :=
  ⟨chan0 1 en0 (with_ none []), by decide +kernel⟩
theorem met_barrow_bell_pend : ∃ s : State, Ready s ∧ Reaches s (app 1) (s.part.chOwner 0) ∧ s.part.get (F.BRW_CH_CTRL_EN 0) = 1 ∧
    s.part.chState 0 ∈ [2, 3, 5, 6] :=
  ⟨chan0 3 en0 (with_ (some (run1 true true 0)) []), by decide +kernel⟩
theorem met_barrow_level : ∃ s : State, Ready s ∧ (s.part.get (F.BRW_CH_IRQ_EN_EN 0)).testBit 2 = false ∧
    Reaches s (app 1) (s.part.chOwner 0) :=
  ⟨chan0 1 [(F.BRW_CH_LEVEL_BYTES 0, 2), (F.BRW_CH_HIGH_BYTES 0, 100)], by decide +kernel⟩
theorem met_barrow_trig : ∃ s : State, Ready s ∧ (0x050102 : Word).bits 1 0 = 2 ∧
    s.part.chOwner ((0x050102 : Word).bits 13 8) = s.part.chOwner 0 ∧ Reaches s (app 1) (s.part.chOwner 0) :=
  ⟨chan0 1, by decide +kernel⟩
theorem met_barrow_trig_bad : ∃ s : State, Ready s ∧ s.part.chOwner ((0x050702 : Word).bits 13 8) ≠ s.part.chOwner 0 ∧
    Reaches s (app 1) (s.part.chOwner 0) ∧ (0x050702 : Word).bits 1 0 = 2 :=
  ⟨chan0 1, by decide +kernel⟩
theorem met_barrow_event : ∃ s : State, Ready s ∧ s.part.live = true ∧ s.part.trigTakes 0 none = true ∧ s.part.chState 0 ≠ 6 ∧
    s.part.get (F.BRW_CH_CTRL_PACE 0) = 2 ∧ (s.part.chan 0).due = [none, some 3] :=
  ⟨chan0 2 [(F.BRW_CH_TRIG_SRC 0, 1), (F.BRW_CH_TRIG_RUN 0, 200), (F.BRW_CH_CREDIT_CREDIT 0, 55), (F.BRW_CH_CTRL_PACE 0, 2)] { Chan.init 0 with due := [none, some 3] }, by decide +kernel⟩
theorem met_barrow_event_lost : ∃ s : State, Ready s ∧ s.part.trigTakes 0 none = false ∧ s.part.live = true ∧
    (s.part.chan 0).due = [none, some 3] :=
  ⟨chan0 2 [(F.BRW_CH_TRIG_SRC 0, 2)] { Chan.init 0 with due := [none, some 3] }, by decide +kernel⟩
theorem met_barrow_reread_gone : ∃ s : State, Ready s ∧ s.part.live = true ∧ s.part.rereadReady 0 = true ∧
    s.part.ringBytes 0 1 0 64 = some (descBytes 0) ∧ (s.part.chan 0).run = some (run1 false false 0) :=
  ⟨chan0 2 en0 (with_ (some (run1 false false 0)) []) 0, by decide +kernel⟩
theorem met_barrow_reread : ∃ s : State, s.part.rereadReady 0 = true ∧ desc1.ok 0 = true ∧ (readBrw 1 (descBytes 1)).ticket = desc1.ticket ∧
    s.part.live = true ∧ (s.part.chan 0).run = some (run1 false false 0) ∧ s.part.ringBytes 0 1 0 64 = some (descBytes 1) ∧
    s.part.get (F.BRW_CH_CTRL_PACE 0) ≠ 2 :=
  ⟨chan0 2 en0 (with_ (some (run1 false false 0)) []), by decide +kernel⟩
theorem met_barrow_reread_resume : ∃ s : State, s.part.rereadReady 0 = true ∧ s.part.live = true ∧
    (s.part.chan 0).run = some (run1 false true 0) ∧ s.part.ringBytes 0 1 0 64 = some (descBytes 1) :=
  ⟨chan0 3 en0 (with_ (some (run1 false true 0)) []), by decide +kernel⟩
theorem met_barrow_beat : ∃ s : State, Ready s ∧ s.part.beatReady 0 = true ∧ (s.part.memKeys 1 0x50000 64 false).isSome = true ∧
    (s.part.memKeys 1 0x60000 64 true).isSome = true ∧ s.part.live = true ∧ (s.part.chan 0).run = some (run1 true true 0) ∧
    desc1.dstSpace = 0 :=
  ⟨let t := chan0 3 en0 (with_ (some (run1 true true 0)) []); { t with part := t.part.store (winBase 1 + 0x50000) [7, 8] }, by decide +kernel⟩
theorem met_barrow_complete : ∃ s : State, Ready s ∧ s.part.completeReady 0 = true ∧ desc1.kind ≠ 1 ∧ 4 ≤ s.ns ∧ s.part.live = true ∧
    (s.part.chan 0).run = some (run1 true true 1) :=
  ⟨chan0 3 en0 (with_ (some (run1 true true 1)) []), by decide +kernel⟩
theorem met_barrow_status : ∃ s : State, Ready s ∧ (s.part.memKeys 1 (s.part.descAt 0 1 + 0x30) 16 true).isSome = true ∧ s.part.live = true ∧
    (s.part.chan 0).fins = [fin1 2 false] ++ fin1 1 false :: [] :=
  ⟨chan0 1 en0 (with_ none [fin1 2 false, fin1 1 false]), by decide +kernel⟩
theorem met_barrow_own : ∃ s : State, Ready s ∧ (fin1 2 false).bad = false ∧ desc1.event = false ∧ desc1.irq = false ∧
    (s.part.memKeys 1 (s.part.descAt 0 1 + 0) 4 true).isSome = true ∧ s.part.live = true ∧
    (s.part.chan 0).fins = [] ++ fin1 2 false :: [fin1 1 false] :=
  ⟨chan0 1 en0 (with_ none [fin1 2 false, fin1 1 false]), by decide +kernel⟩
theorem met_barrow_settled : ∃ s : State, Ready s ∧ s.part.live = true ∧ (s.part.chan 0).fins = [] ++ fin1 3 false :: [fin1 1 false] ∧
    (fin1 3 false).settled = false ∧ desc1.event = false ∧ desc1.irq = false :=
  ⟨chan0 1 en0 (with_ none [fin1 3 false, fin1 1 false]), by decide +kernel⟩

/-- The DRAM section: 4 GiB, one rank. The controller runs. -/
def dram1 : Nat × Nat × List (Nat × Nat × Nat) := (2, 1, [(0, 2, 4), (2, 1, 1)])
def dmc (l : List (Fld × Nat) := []) (u : DmcUnit := DmcUnit.init) : State :=
  st { puts (image up [dram1, plot1]) ([(F.DMC_CTRL_EN, 1)] ++ l) with dmc := u } 5000000
def wr : Writer := { kind := .barrow, plot := 1, stream := 0, gen := 0, job := none, cmdSeq := 0, refStore := false }
def touched1 : DmcUnit := { DmcUnit.init with touched := List.range 8 }
theorem met_dram_dram_write : ∃ s : State, Ready s ∧ s.part.writeFits wr none 0x1FE [1, 2] = true ∧
    s.part.memKeys 1 0x1FE 2 true = some [winBase 1 + 0x1FE, winBase 1 + 0x1FF] :=
  ⟨dmc, by decide +kernel⟩
theorem met_dram_dram_write_bad : ∃ s : State, Ready s ∧ s.part.writeFits { wr with plot := 0 } none 0x80 [1] = true ∧
    s.part.dmc.touched.contains (dramAt s.part.dmcRanks (s.part.sysAddr 0 0x80)).q = true :=
  ⟨dmc [] touched1, by decide +kernel⟩
theorem met_dram_dram_read : ∃ s : State, Ready s ∧ s.part.readFits ⟨.bed, 1, some 2⟩ 0x40 = true :=
  ⟨dmc, by decide +kernel⟩
theorem met_dram_dram_read_ce : ∃ s : State, Ready s ∧ s.part.readFits ⟨.bed, 0, some 12⟩ 0x40 = true :=
  ⟨dmc [(F.DMC_CE_COUNT_COUNT, 65535)] touched1, by decide +kernel⟩
theorem met_dram_refresh : ∃ s : State, Ready s ∧ s.part.rankRuns 3 0 = true :=
  ⟨dmc [(owedFld 3 0, 3)], by decide +kernel⟩
theorem met_dram_refresh_wilt : ∃ s : State, Ready s ∧ s.part.rankRuns 3 1 = true :=
  ⟨dmc [(owedFld 3 1, 3), (F.DMC_CFG_RANKS, 1)], by decide +kernel⟩
theorem met_dram_refresh_forced : ∃ s : State, Ready s ∧ s.part.rankRuns 0 0 = true ∧ s.part.get (owedFld 0 0) < 8 :=
  ⟨dmc [(owedFld 0 0, 7), (F.DMC_REF_FORCED_COUNT, 0xFFFFFFFF)], by decide +kernel⟩
theorem met_dram_zq : ∃ s : State, Ready s ∧ s.part.dmcOn = true :=
  ⟨dmc [(F.DMC_CFG_RANKS, 1)], by decide +kernel⟩
theorem met_dram_osc : ∃ s : State, Ready s ∧ s.part.dmcTime 17 < 5 ∧ s.part.dmcOn = true :=
  ⟨dmc, by decide +kernel⟩
theorem met_dram_weed : ∃ s : State, Ready s ∧ s.part.weedDue s.ns = true ∧ s.part.get F.DMC_WEED_POS_Q + 1 < s.part.dmcGroups :=
  ⟨dmc [(F.DMC_CTRL_WEED_EN, 1)], by decide +kernel⟩
theorem met_dram_weed_last : ∃ s : State, Ready s ∧ s.part.weedDue s.ns = true ∧ s.part.dmcGroups ≤ s.part.get F.DMC_WEED_POS_Q + 1 :=
  ⟨{ dmc [(F.DMC_CTRL_WEED_EN, 1), (F.DMC_WEED_POS_Q, 4 * 2 ^ 21 - 1), (F.DMC_WEED_PASSES_COUNT, 0xFFFFFFFF)] with sun := BitVec.ofNat 96 (90000000000000 * 2 ^ 32) }, by decide +kernel⟩
theorem met_dram_wilt : ∃ s : State, Ready s ∧ s.part.wiltRises 18 80 = true ∧ (s.part.dmcBucket s.ns 1).denied = false :=
  ⟨dmc [(F.DMC_RT_WILT_ON 18, 75), (F.DMC_RT_WILT_OFF 18, 50)], by decide +kernel⟩
theorem met_dram_wilt_denied : ∃ s : State, Ready s ∧ s.part.wiltRises 0 80 = true ∧ (s.part.dmcBucket s.ns 1).denied = true :=
  ⟨dmc [(F.DMC_RT_WILT_ON 0, 75)] { DmcUnit.init with buckets := [(1, { milli := -5000, at_ := 0, denied := true })] }, by decide +kernel⟩
theorem met_dram_wilt_drop : ∃ s : State, Ready s ∧ s.part.wiltFalls 0 10 = true ∧ s.part.get (F.DMC_RT_WILT_ASSERTED 1) = 1 :=
  ⟨dmc [(F.DMC_RT_WILT_ASSERTED 0, 1), (F.DMC_RT_WILT_ASSERTED 1, 1), (F.DMC_RT_WILT_ON 0, 75), (F.DMC_RT_WILT_OFF 0, 50)], by decide +kernel⟩
theorem met_dram_nbrk : ∃ s : State, Ready s ∧ Firmware s fw :=
  ⟨dmc, by decide +kernel⟩

/-- Plot 1 with all three sinks and a Cellar ring of 4 slots on namespace 2. -/
def plot1h : Nat × Nat × List (Nat × Nat × Nat) := (3, 1, plot1.2.2 ++ [(0x38, 8, 64), (0x40, 8, 4), (0x48, 4, 2)])
def hv1 (u : HvsPlot) (l : List (Fld × Nat) := []) (nv : NvmeUnit := NvmeUnit.init) : State :=
  st { puts (image up [plot1h]) l with hvs := [(1, u)], nvme := nv } 5000000
def hv0 : HvsPlot := FMap.get HvsPlot.init [] 1
def ring1 : List (Fld × Nat) := [(F.HR_STAT_READY 1, 1), (F.HR_SIZE_LOG2 1, 4), (F.HR_BASE_LO_ADDR 1, 0x10000)]
def on1 : List (Fld × Nat) := ring1 ++ [(F.HR_CTRL_EN 1, 1), (F.HR_PROD_INDEX 1, 20), (F.HR_CONS_INDEX 1, 10)]
def nv2 (c : Option NvmeCmd := none) : NvmeUnit :=
  { NvmeUnit.init with namespaces := [⟨2, 4096, 1000, false⟩], cmds := if c = none then [] else [(0, c)] }
def cwrite : NvmeCmd := { op := 2, plot := 1, a := 7, b := 1, nsid := 2, lba := 67, blocks := 1, tries := 0, progressAt := 0 }
def cread : NvmeCmd := { op := 3, plot := 1, a := 3, b := 0, nsid := 2, lba := 67, blocks := 1, tries := 0, progressAt := 0 }
theorem met_harvest_wait : ∃ s : State, Ready s ∧ s.part.live = true ∧ (s.part.hv 1).opened = some ⟨[[1, 2]], 1000⟩ ∧
    1000 + s.part.get (F.HVS_P_WAIT_US 1) * 1000 ≤ s.ns :=
  ⟨hv1 { hv0 with opened := some ⟨[[1, 2]], 1000⟩ } [(F.HVS_P_WAIT_US 1, 100)], by decide +kernel⟩
theorem met_harvest_wait_write : ∃ s : State, Ready s ∧ Reaches s (app 1) 1 :=
  ⟨hv1 hv0, by decide +kernel⟩
theorem met_harvest_wait_write0 : ∃ s : State, Ready s ∧ Reaches s fw 0 :=
  ⟨hv1 hv0, by decide +kernel⟩
theorem met_harvest_sealed : ∃ s : State, Ready s ∧ s.part.live = true ∧ (s.part.hv 1).closed = [⟨[[1, 2]], 1, 4, 0⟩] ∧
    (s.part.hv 1).cellarOut = none :=
  ⟨hv1 { hv0 with closed := [⟨[[1, 2]], 1, 4, 0⟩], ringSlots := 4 } (on1 ++ [(F.HVS_P_CRATE_LO_SEQ 1, 0xFFFFFFFF)]), by decide +kernel⟩
theorem met_harvest_holdoff : ∃ s : State, Ready s ∧ s.part.live = true ∧ s.part.holdoffOver s.ns 1 = true ∧
    s.part.get (F.HR_CTRL_IRQ_EN 1) = 1 ∧ s.part.get F.PEP_LINK_UP = 1 ∧ s.part.get F.PEP_LINK_MSI ≠ 0 :=
  ⟨hv1 { hv0 with msiOwed := true, msiAfter := 5 } (on1 ++ [(F.HR_CTRL_IRQ_EN 1, 1), (F.HR_HOLDOFF_US 1, 3)]), by decide +kernel⟩
theorem met_harvest_hr_notready : ∃ s : State, Ready s ∧ s.part.get F.PEP_LINK_UP = 1 ∧ ¬ s.part.get (F.HR_STAT_READY 1) = 1 :=
  ⟨hv1 hv0, by decide +kernel⟩
theorem met_harvest_hr_off : ∃ s : State, Ready s ∧ s.part.get (F.HR_STAT_READY 1) = 1 ∧ s.part.get F.PEP_LINK_UP = 1 :=
  ⟨hv1 hv0 on1, by decide +kernel⟩
theorem met_harvest_hr_bad : ∃ s : State, Ready s ∧ s.part.get (F.HR_STAT_READY 1) = 1 ∧ s.part.get (F.HR_CTRL_EN 1) = 0 ∧
    16 < s.part.get (F.HR_SIZE_LOG2 1) ∧ s.part.get F.PEP_LINK_UP = 1 :=
  ⟨hv1 hv0 (ring1 ++ [(F.HR_SIZE_LOG2 1, 17)]), by decide +kernel⟩
theorem met_harvest_hr_on : ∃ s : State, Ready s ∧ s.part.get (F.HR_STAT_READY 1) = 1 ∧
    s.part.get64 (F.HR_BASE_LO_ADDR 1) (F.HR_BASE_HI_ADDR 1) % 4096 = 0 ∧ s.part.get (F.HR_SIZE_LOG2 1) = 4 ∧ s.part.get F.PEP_LINK_UP = 1 ∧
    s.part.get (F.HR_CTRL_EN 1) = 0 :=
  ⟨hv1 hv0 ring1, by decide +kernel⟩
theorem met_harvest_cons_off : ∃ s : State, Ready s ∧ s.part.get F.PEP_LINK_UP = 1 ∧ s.part.get (F.HR_STAT_READY 1) = 1 ∧
    s.part.get (F.HR_CTRL_EN 1) ≠ 1 :=
  ⟨hv1 hv0 ring1, by decide +kernel⟩
theorem met_harvest_cons : ∃ s : State, Ready s ∧ s.part.get (F.HR_CTRL_EN 1) = 1 ∧
    (s.part.reg (R.HR_PROD 1) - 4).toNat ≤ 2 ^ s.part.get (F.HR_SIZE_LOG2 1) ∧ s.part.get F.PEP_LINK_UP = 1 ∧
    s.part.get (F.HR_STAT_READY 1) = 1 :=
  ⟨hv1 hv0 on1, by decide +kernel⟩
theorem met_harvest_cons_bad : ∃ s : State, Ready s ∧ 2 ^ s.part.get (F.HR_SIZE_LOG2 1) < (s.part.reg (R.HR_PROD 1) - 21).toNat ∧
    s.part.get F.PEP_LINK_UP = 1 ∧ s.part.get (F.HR_STAT_READY 1) = 1 ∧ s.part.get (F.HR_CTRL_EN 1) = 1 :=
  ⟨hv1 hv0 on1, by decide +kernel⟩
theorem met_harvest_cellar_issue : ∃ s : State, Ready s ∧ s.part.live = true ∧ s.part.cellarReady 1 = true ∧ s.part.nvCmd 1 = none ∧
    s.part.nvCmd 0 ≠ none :=
  ⟨hv1 { hv0 with staged := [⟨7, 0, [1]⟩, ⟨8, 0, [2]⟩], curCellar := 7, ringSlots := 4 } [(F.PRP_NVME_READY, 1), (F.HVS_P_CELLAR_HEAD_SLOT 1, 3)] (nv2 (some cread)), by decide +kernel⟩
theorem met_harvest_cellar_done : ∃ s : State, Ready s ∧ s.part.live = true ∧ s.part.cellarBusy 1 = true :=
  ⟨hv1 { hv0 with cellarOut := some (7, 1, 3), curCellar := 7, ringSlots := 4 } [(F.PRP_CMDS_COUNT, 0xFFFFFFFF), (F.HVS_P_CELLAR_HEAD_SLOT 1, 3)] (nv2 (some cwrite)), by decide +kernel⟩
theorem met_harvest_replay_go : ∃ s : State, Ready s ∧ Reaches s (app 1) 1 :=
  ⟨hv1 { hv0 with ringSlots := 4, cellarKeys := [(2, some (1, 5)), (3, some (1, 6))] } [(F.HVS_P_REPLAY_BOOT_SEQ 1, 1), (F.HVS_P_REPLAY_CRATE_LO_SEQ 1, 4)] (nv2), by decide +kernel⟩
theorem met_harvest_replay_none : ∃ s : State, Ready s ∧ Reaches s (app 1) 1 ∧ (s.part.hv 1).ringSlots = 0 :=
  ⟨hv1 hv0, by decide +kernel⟩
theorem met_harvest_replay_host : ∃ s : State, Ready s ∧ s.part.issues ⟨.host, 0⟩ = true ∧ s.part.get (F.HR_STAT_READY 1) = 1 :=
  ⟨hv1 { hv0 with ringSlots := 4, cellarKeys := [(2, some (1, 5)), (3, some (1, 6))] } on1 (nv2), by decide +kernel⟩
theorem met_harvest_replay_crate : ∃ s : State, Ready s ∧ s.part.live = true ∧ (s.part.hv 1).replay false = some ⟨3, 0⟩ ∧
    (3 + 1) % max 1 (s.part.hv 1).ringSlots = 0 :=
  ⟨hv1 { hv0 with ringSlots := 4, cellarKeys := [(2, some (1, 5)), (3, some (1, 6))], hostReplay := some ⟨3, 0⟩ } (on1 ++ [(F.HR_REPLAY_CTRL_BUSY 1, 1)]) (nv2 (some cread)), by decide +kernel⟩

/-- Node 1 of a ring of 3, with port 0 in a state. -/
def trl (stt : Nat) (l : List (Fld × Nat) := []) (u : TrlPort := TrlPort.init 0) (w : List TrlFrame := []) : State :=
  st { puts light ([(F.TRL_CTRL_NODE, 1), (F.TRL_CTRL_RING, 3), (F.TRL_P_STAT_STATE 0, stt), (F.TRL_P_CTRL_EN 0, 1), (F.TRL_P_STAT_STATE 1, 2)] ++ l)
    with trl := { TrlUnit.init with ports := [(0, u)], waiting := w } } 500
def held1 : TrlPort := { TrlPort.init 0 with held := [⟨4095, 4, 1, [1]⟩, ⟨0, 4, 1, [2]⟩], nextLseq := 1, expect := 9 }
def sending1 : TrlPort := { held1 with sending := [(1, some ⟨[[1]], 1, false⟩)], partialRx := [(2, some (List.replicate 52 3))] }
def frame1 : TrlFrame := { bytes := List.replicate 60 1, vc := 1, dst := 2, plot := 1, transit := false, crate := false }
/-- A peer that says what port 0 expects. -/
theorem met_trellis_ident : (trl 1).part.identCause 0 2 3 1 Config.orderCode.toNat = 0 := by
  have h1 : (trl 1).part.trlRing = 3 := by decide +kernel
  have h2 : (trl 1).part.trlNode = 1 := by decide +kernel
  have h3 : (trl 1).part.get F.TRL_CTRL_RING = 3 := by decide +kernel
  simp [Part.identCause, h1, h2, h3]
theorem met_trellis_en : ∃ s : State, Ready s ∧ Firmware s fw ∧ s.part.trlState 0 = 0 :=
  ⟨trl 0 [(F.TRL_P_CTRL_EN 0, 0)], by decide +kernel⟩
theorem met_trellis_en_again : ∃ s : State, Ready s ∧ s.part.trlState 0 ≠ 0 :=
  ⟨trl 4, by decide +kernel⟩
theorem met_trellis_dis_off : ∃ s : State, Ready s ∧ Firmware s fw ∧ s.part.trlState 0 = 0 :=
  ⟨trl 0, by decide +kernel⟩
theorem met_trellis_dis : ∃ s : State, Ready s ∧ Firmware s fw ∧ s.part.trlState 0 ≠ 0 :=
  ⟨trl 2 [(F.TRL_P_STAT_LOCKED 0, 15), (F.TRL_P_STAT_PEER_VALID 0, 1), (creditFld 0 1, 5)] sending1, by decide +kernel⟩
theorem met_trellis_retrain : ∃ s : State, Ready s ∧ s.part.get (F.TRL_P_CTRL_EN 0) = 1 ∧ s.part.trlState 0 = 2 ∧ Firmware s fw :=
  ⟨trl 2 [(F.TRL_P_RETRAINS_COUNT 0, 65535)], by decide +kernel⟩
theorem met_trellis_retrain_no : ∃ s : State, Ready s ∧ Firmware s fw ∧ s.part.get (F.TRL_P_CTRL_EN 0) = 1 ∧ s.part.trlState 0 = 3 :=
  ⟨trl 3, by decide +kernel⟩
theorem met_trellis_trained : ∃ s : State, Ready s ∧ s.part.live = true ∧ s.part.trlState 0 = 1 :=
  ⟨trl 1, by decide +kernel⟩
theorem met_trellis_trained_resync : ∃ s : State, Ready s ∧ s.part.live = true ∧ s.part.trlState 0 = 3 ∧ (s.part.tport 0).resync = some 1 :=
  ⟨trl 3 [] { held1 with resync := some 1 } [frame1], by decide +kernel⟩
theorem met_trellis_trained_bad : ∃ s : State, Ready s ∧ s.part.identCause 0 2 4 1 7 ≠ 0 ∧ s.part.live = true ∧ s.part.trlState 0 = 1 :=
  ⟨trl 1, by decide +kernel⟩
theorem met_trellis_timeout : ∃ s : State, Ready s ∧ s.part.live = true ∧ s.part.trlState 0 = 1 :=
  ⟨trl 1, by decide +kernel⟩
theorem met_trellis_timeout_re : ∃ s : State, Ready s ∧ s.part.trlState 0 = 3 ∧ (s.part.tport 0).failures < 2 ∧ s.part.live = true :=
  ⟨trl 3 [] { held1 with failures := 1 }, by decide +kernel⟩
theorem met_trellis_timeout_re3 : ∃ s : State, Ready s ∧ 2 ≤ (s.part.tport 0).failures ∧ s.part.live = true ∧ s.part.trlState 0 = 3 :=
  ⟨trl 3 [] { held1 with failures := 2 }, by decide +kernel⟩
theorem met_trellis_down : ∃ s : State, Ready s ∧ s.part.trlState 0 = 4 ∧ s.part.get (F.TRL_P_CTRL_EN 0) = 1 ∧ s.part.live = true :=
  ⟨trl 4, by decide +kernel⟩
theorem met_trellis_lock : ∃ s : State, Ready s ∧ s.part.live = true ∧ s.part.trlState 0 = 2 :=
  ⟨trl 2 [(F.TRL_P_STAT_LOCKED 0, 15)], by decide +kernel⟩
theorem met_trellis_rx_bad : ∃ s : State, Ready s ∧ Crypto.crc32c (List.replicate 60 1) ≠ leNat (List.replicate 4 1) ∧ s.part.live = true ∧
    s.part.trlState 0 = 2 :=
  ⟨trl 2 [] held1, by decide +kernel⟩
theorem met_trellis_resend : ∃ s : State, Ready s ∧ (s.part.tport 0).held ≠ [] ∧ (s.part.tport 0).resends < 7 ∧ s.part.live = true ∧
    s.part.trlState 0 = 2 :=
  ⟨trl 2 [] held1, by decide +kernel⟩
theorem met_trellis_resend8 : ∃ s : State, Ready s ∧ s.part.live = true ∧ s.part.trlState 0 = 2 ∧ (s.part.tport 0).held ≠ [] ∧
    7 ≤ (s.part.tport 0).resends :=
  ⟨trl 2 [] { held1 with resends := 7 }, by decide +kernel⟩
theorem met_trellis_stall : ∃ s : State, Ready s ∧ s.part.live = true ∧ s.part.vcStalled 0 1 = true ∧ s.part.trlState 0 = 2 :=
  ⟨trl 2 [(F.TRL_P_CRED_GEN_GEN 0, 65535)] sending1 [frame1], by decide +kernel⟩
theorem met_trellis_stall_re : ∃ s : State, Ready s ∧ s.part.vcStalled 0 1 = true ∧ s.part.live = true ∧ s.part.trlState 0 = 3 :=
  ⟨trl 3 [] sending1 [frame1], by decide +kernel⟩
theorem met_trellis_resync : ∃ s : State, Ready s ∧ s.part.live = true ∧ s.part.trlState 0 = 2 ∧ (s.part.tport 0).awaiting = true :=
  ⟨trl 2 [] { held1 with awaiting := true }, by decide +kernel⟩
theorem met_trellis_tx_ctl : ∃ s : State, Ready s ∧ (s.part.tport 0).control = [[1, 9, 0], [1, 10, 0]] ∧ s.part.live = true ∧
    s.part.trlState 0 = 2 :=
  ⟨trl 2 [] { held1 with control := [[1, 9, 0], [1, 10, 0]] }, by decide +kernel⟩

/-- Runner 6 of plot 1, real-time. -/
def runner6 : Nat × Nat × List (Nat × Nat × Nat) := (9, 1, [(0, 1, 6), (1, 1, 1), (2, 1, 1)])
/-- Pipeline 7, steered, with up to 4 crops. -/
def pipes1 : Nat × Nat × List (Nat × Nat × Nat) := (6, 1, [(2, 1, 7), (3, 1, 1), (14, 1, 1), (0x18, 2, 4)])
def act6 (j : Option Nat := none) : Act :=
  { cmd := { job := j, plot := 1, task := .runner 6, unit := 2, places := [0, 1, 2, 3, 4, 5, 6, 7], limit := 1000000, seq := some 5, begun := 300 }, runner := 6, rt := false, startAt := 300 }
def run6 (l : List (Fld × Nat)) (u : RunnerSt) : List (Nat × RunnerSt) × Part :=
  ([(6, u)], puts (image light [plot1, streams2, pipes1, model9, runner6]) ([(F.APC_CTRL_EN, 1), (F.APC_RUN_STAT_STATE 6, 2), (F.APC_RUN_STAT_PLOT 6, 1)] ++ l))
def live6 : RunnerSt := { RunnerSt.init 6 with live := true, mask := 6 }
/-- Runner 6 runs on core 3. -/
def calling (l : List (Fld × Nat) := []) (j : Option Nat := none) (u : RunnerSt := live6) (latched : Nat := 0) : State :=
  let p := (run6 ([(F.APC_CORE_STAT_BUSY 3, 1), (F.APC_CORE_STAT_PLOT 3, 1), (F.APC_CORE_STAT_RUNNER 3, 6)] ++ l) u).2
  st { p with apc := { p.apc with cores := [(3, some (act6 j))], runners := [(6, u)], latched := [(1, latched)] }, jobs := { p.jobs with jobs := [job3] } } 500
def waiting6 : State :=
  let p := (run6 [] live6).2
  st { p with apc := { p.apc with runners := [(6, { live6 with fresh := true })] }, jobs := { p.jobs with ready := [{ (act6).cmd with seq := none }] } } 500
def withModel (m : ModelSt) (f : LoadQ := { cur := none, queue := [] }) (s : State := calling) : State :=
  { s with part := { s.part with models := { s.part.models with models := [(9, m)], loads := [(1, f)] } } }
theorem met_apps_start : ∃ s : State, Ready s ∧ s.part.canDispatch 2 3 = true ∧
    s.part.pick (s.part.jobs.ready.filter (fun x => s.part.fits x 2 3)) 2 = some { (act6).cmd with seq := none } ∧
    (act6).cmd.task = .runner 6 :=
  ⟨waiting6, by decide +kernel⟩
theorem met_apps_wait0 : ∃ s : State, Ready s ∧ Calls s 3 (act6) :=
  ⟨calling, by decide +kernel⟩
theorem met_apps_wait : ∃ s : State, Ready s ∧ Calls s 3 (act6) ∧ s.part.actHolds 3 (act6) = false :=
  ⟨calling [] none live6 10, by decide +kernel⟩
theorem met_apps_wait_held : ∃ s : State, Ready s ∧ Calls s 3 (act6) ∧ s.part.actHolds 3 (act6) = true :=
  ⟨let s := calling; { s with part := { s.part with apc := { s.part.apc with holds := [⟨1, 1, 3, 4⟩] } } }, by decide +kernel⟩
theorem met_apps_exit : ∃ s : State, Ready s ∧ Calls s 3 (act6) ∧ s.part.actHolds 3 (act6) = false ∧ (s.part.runner 6).jobs = [] :=
  ⟨calling, by decide +kernel⟩
theorem met_apps_exit_held : ∃ s : State, Ready s ∧ Calls s 3 (act6) ∧ s.part.actHolds 3 (act6) = true :=
  ⟨let s := calling; { s with part := { s.part with apc := { s.part.apc with holds := [⟨1, 1, 3, 4⟩] } } }, by decide +kernel⟩
theorem met_apps_trap : ∃ s : State, Ready s ∧ Calls s 3 (act6) ∧ (act6).cmd.job = none :=
  ⟨calling, by decide +kernel⟩
theorem met_apps_time : ∃ s : State, Ready s ∧ Calls s 3 (act6) :=
  ⟨calling [(F.SDL_STATUS_TIME_VALID, 1)], by decide +kernel⟩
theorem met_apps_sseq : ∃ s : State, Ready s ∧ s.part.img.pipeRec 7 ≠ none ∧ s.part.img.pipePlot 7 = 1 ∧ Calls s 3 (act6) :=
  ⟨calling [(F.PRN_PIPE_LATCHED_SEQ_SEQ 7, 5)], by decide +kernel⟩
theorem met_apps_sseq_no : ∃ s : State, Ready s ∧ Calls s 3 (act6) ∧ s.part.img.pipeRec 6 = none :=
  ⟨calling, by decide +kernel⟩
theorem met_apps_mstate : ∃ s : State, Ready s ∧ s.part.img.modelRec 9 ≠ none ∧ s.part.img.modelPlot 9 = 1 ∧ Calls s 3 (act6) :=
  ⟨withModel { ModelSt.init 9 with state := 7, cause := 3 }, by decide +kernel⟩
theorem met_apps_input_none : ∃ s : State, Ready s ∧ Calls s 3 (act6) ∧ (act6).cmd.job = none :=
  ⟨calling, by decide +kernel⟩
theorem met_apps_input : ∃ s : State, Ready s ∧ Calls s 3 (act6 (some 3)) ∧ s.part.job? 3 = some job3 ∧
    0x1FFFC0 + 64 ≤ s.part.img.window 1 :=
  ⟨calling [] (some 3), by decide +kernel⟩
theorem met_apps_submit0 : ∃ s : State, Ready s ∧ Calls s 3 (act6) :=
  ⟨calling, by decide +kernel⟩
theorem met_apps_submit64 : ∃ s : State, Ready s ∧ Calls s 3 (act6) :=
  ⟨calling, by decide +kernel⟩
theorem met_apps_submit_out : ∃ s : State, Ready s ∧ Calls s 3 (act6) ∧ s.part.img.window 1 < 0x1FFFC1 + 64 :=
  ⟨calling, by decide +kernel⟩
theorem met_apps_submit_bad : ∃ s : State, Ready s ∧ s.part.submitOk 3 (s.part.load (winBase 1 + 0) 64) = false ∧ Calls s 3 (act6) ∧
    64 ≤ s.part.img.window 1 :=
  ⟨calling, by decide +kernel⟩
theorem met_apps_submit : ∃ s : State, Ready s ∧ Calls s 3 (act6) ∧ s.part.submitOk 3 (s.part.load (winBase 1 + 0) 64) = true ∧
    64 ≤ s.part.img.window 1 :=
  ⟨let s := calling; { s with part := s.part.store (winBase 1) [2] }, by decide +kernel⟩
theorem met_apps_steer : ∃ s : State, Ready s ∧ s.part.img.pipePlot 7 = 1 ∧ s.part.get (F.PRN_PIPE_COMMIT_STAT_COPYING 7) = 0 ∧
    s.part.commitBad 7 0x1000 4 = false ∧ Calls s 3 (act6) ∧ s.part.img.pipeRec 7 ≠ none ∧ 0x1000 + 16 * 4 ≤ s.part.img.window 1 :=
  ⟨let s := calling; { s with part := image s.part [plot1, pipes1] }, by decide +kernel⟩
theorem met_apps_steer_bad : ∃ s : State, Ready s ∧ s.part.commitBad 7 0x1000 1000 = true ∧ Calls s 3 (act6) ∧ s.part.img.pipePlot 7 = 1 ∧
    s.part.get (F.PRN_PIPE_COMMIT_STAT_COPYING 7) = 0 ∧ 0x1000 + 16 * 1000 ≤ s.part.img.window 1 :=
  ⟨calling, by decide +kernel⟩
theorem met_apps_load_bad : ∃ s : State, Ready s ∧ Calls s 3 (act6) ∧ s.part.img.modelPlot 9 = 1 ∧ (s.part.model 9).state = 6 :=
  ⟨withModel { ModelSt.init 9 with state := 6 }, by decide +kernel⟩
theorem met_apps_load_many : ∃ s : State, Ready s ∧ Calls s 3 (act6) ∧ s.part.img.modelPlot 9 = 1 ∧ (s.part.model 9).state = 0 ∧
    8 ≤ (s.part.loadq 1).queue.length :=
  ⟨withModel (ModelSt.init 9) { cur := some ⟨false, 9, 0, 5⟩, queue := List.replicate 8 (false, 9) }, by decide +kernel⟩
theorem met_apps_load : ∃ s : State, Ready s ∧ Calls s 3 (act6) ∧ s.part.img.modelPlot 9 = 1 ∧ s.part.img.modelRec 9 ≠ none ∧
    (s.part.model 9).state = 7 ∧ (s.part.loadq 1).queue.length < 8 ∧ (s.part.loadq 1).cur ≠ none :=
  ⟨withModel { ModelSt.init 9 with state := 7 } { cur := some ⟨false, 9, 0, 5⟩, queue := List.replicate 7 (false, 9) }, by decide +kernel⟩
theorem met_apps_unload : ∃ s : State, Ready s ∧ Calls s 3 (act6) ∧ s.part.img.modelPlot 9 = 1 ∧ (s.part.model 9).state = 2 :=
  ⟨withModel { ModelSt.init 9 with state := 2 }, by decide +kernel⟩
theorem met_apps_unload_bad : ∃ s : State, Ready s ∧ ¬((s.part.model 9).state = 2 ∨ ((s.part.model 9).state = 6 ∧
    s.part.img.modelResidency 9 = 1)) ∧ Calls s 3 (act6) ∧ s.part.img.modelPlot 9 = 1 :=
  ⟨withModel { ModelSt.init 9 with state := 6 }, by decide +kernel⟩
theorem met_apps_graft_bad : ∃ s : State, Ready s ∧ s.part.familyLive 9 = 9 ∧ Calls s 3 (act6) ∧ s.part.img.modelPlot 9 = 1 :=
  ⟨withModel { ModelSt.init 9 with state := 4 }, by decide +kernel⟩
theorem met_apps_graft : ∃ s : State, Ready s ∧ Calls s 3 (act6) ∧ s.part.img.modelPlot 10 = 1 ∧ s.part.familyWave 10 = false ∧
    s.part.familyLive 10 = 9 ∧ s.part.img.graftOf 10 = 9 ∧ (s.part.model 10).state = 4 :=
  ⟨let s := calling;
    let p := image s.part [plot1, (7, 2, [(0, 2, 9), (2, 1, 1), (4, 2, 2), (0x10, 8, 3), (0x1A, 2, 0xFFFF), (192, 2, 10), (194, 1, 1), (196, 2, 2), (0xD0, 8, 3), (0xD8, 1, 4), (0xD9, 1, 4), (0xDA, 2, 9)])];
    { s with part := { p with models := { p.models with models := [(9, { ModelSt.init 9 with state := 6 }), (10, { ModelSt.init 10 with state := 4, swapped := 3 })] } } }, by decide +kernel⟩
theorem met_apps_reserve_down : ∃ s : State, Ready s ∧ Calls s 3 (act6) ∧ s.part.trlState 1 ≠ 2 :=
  ⟨calling, by decide +kernel⟩
theorem met_apps_reserve_few : ∃ s : State, Ready s ∧ Calls s 3 (act6) ∧ s.part.trlState 1 = 2 ∧
    s.part.get (creditFld 1 1) < s.part.reservedBy 1 (fun _ => true) + 64 :=
  ⟨calling [(F.TRL_P_STAT_STATE 1, 2), (creditFld 1 1, 63)], by decide +kernel⟩
theorem met_apps_reserve : ∃ s : State, Ready s ∧ Calls s 3 (act6) ∧ s.part.trlState 1 = 2 ∧
    s.part.reservedBy 1 (fun _ => true) + 64 ≤ s.part.get (creditFld 1 1) :=
  ⟨calling [(F.TRL_P_STAT_STATE 1, 2), (creditFld 1 1, 64)], by decide +kernel⟩
theorem met_apps_release : ∃ s : State, Ready s ∧ Calls s 3 (act6) :=
  ⟨let s := calling; { s with part := { s.part with apc := { s.part.apc with holds := [⟨1, 1, 3, 4⟩, ⟨0, 1, 3, 4⟩] } } }, by decide +kernel⟩
theorem met_apps_fwd_perm : ∃ s : State, Ready s ∧ Calls s 3 (act6) ∧ s.part.get (F.TRL_FWD_CTRL_EN 127) = 1 ∧
    s.part.get (F.TRL_FWD_CTRL_PLOT 127) ≠ 1 :=
  ⟨calling [(F.TRL_FWD_CTRL_EN 127, 1), (F.TRL_FWD_CTRL_PLOT 127, 2)], by decide +kernel⟩
theorem met_apps_fwd : ∃ s : State, Ready s ∧ Calls s 3 (act6) ∧ s.part.img.streamRec 5 ≠ none ∧ s.part.img.streamPlot 5 = 1 ∧
    s.part.img.streamSource 5 = 2 :=
  ⟨calling [(F.ITK_CTX_MATCH_UDP_PORT 5, 77)], by decide +kernel⟩
theorem met_apps_cfwd : ∃ s : State, Ready s ∧ Calls s 3 (act6) :=
  ⟨calling, by decide +kernel⟩
theorem met_apps_tracker : ∃ s : State, Ready s ∧ s.part.live = true ∧ s.part.trackerHere true 0 = true :=
  ⟨let s := calling;
    { s with part := { s.part with beds := [(0, { Bed.init 0 with cmd := some { cmd := { job := some 3, plot := 1, task := .tracker, unit := 0, places := [0], limit := 1000000, seq := some 5, begun := 300 }, started := true, startAt := 300, aper := 0, stripes := 0 }, threads := [(0, { Thread.init 0 with wait := .ready })] })] } }, by decide +kernel⟩

/-- In a power state, with what Dormancy has chosen. -/
def pw (stt : Nat) (u : PwrUnit → PwrUnit := id) (l : List (Fld × Nat) := []) (q : Part → Part := id) : State :=
  let p := puts light ([(F.PWR_STATE_STATE, stt)] ++ l)
  st (q { p with pwr := u p.pwr }) 60000000
def aon (p : Part) : Part := p.modPins (fun u => { u with aonRunning := true })
theorem met_power_pending : ∃ s : State, Ready s ∧ Firmware s fw ∧ s.part.live = true ∧ s.part.get F.SHD_BOOT_STATE_REPLANT_PENDING = 1 :=
  ⟨pw 0 (fun u => { u with ordered := 2 }) [(F.SHD_BOOT_STATE_REPLANT_PENDING, 1)], by decide +kernel⟩
theorem met_power_dorm : ∃ s : State, Ready s ∧ Firmware s fw ∧ s.part.live = true ∧ s.part.power = 0 ∧
    s.part.get F.SHD_BOOT_STATE_REPLANT_PENDING = 0 :=
  ⟨pw 0, by decide +kernel⟩
theorem met_power_dorm_leaving : ∃ s : State, Ready s ∧ Firmware s fw ∧ s.part.live = true ∧ s.part.get F.SHD_BOOT_STATE_REPLANT_PENDING = 0 ∧
    s.part.power = 3 :=
  ⟨pw 3, by decide +kernel⟩
theorem met_power_dorm_in : ∃ s : State, Ready s ∧ Firmware s fw ∧ s.part.live = true ∧ s.part.get F.SHD_BOOT_STATE_REPLANT_PENDING = 0 ∧
    s.part.power = 2 :=
  ⟨pw 2 (fun u => { u with ordered := 3 }), by decide +kernel⟩
theorem met_power_frost : ∃ s : State, Ready s ∧ s.part.inFallow = false ∧ s.part.live = true ∧ Firmware s fw ∧
    s.part.get F.SHD_BOOT_STATE_REPLANT_PENDING = 0 ∧ s.part.power = 2 :=
  ⟨pw 2, by decide +kernel⟩
theorem met_power_frost_fallow : ∃ s : State, Ready s ∧ s.part.inFallow = true ∧ Firmware s fw ∧ s.part.live = true ∧
    s.part.get F.SHD_BOOT_STATE_REPLANT_PENDING = 0 ∧ s.part.power = 0 :=
  ⟨pw 0 id [(F.PLT_STATE_STATE 2, 5)], by decide +kernel⟩
theorem met_power_frost_wait : ∃ s : State, Ready s ∧ Firmware s fw ∧ s.part.live = true ∧ s.part.get F.SHD_BOOT_STATE_REPLANT_PENDING = 0 ∧
    s.part.power = 1 :=
  ⟨pw 1, by decide +kernel⟩
theorem met_power_run : ∃ s : State, Ready s ∧ Firmware s fw ∧ s.part.live = true ∧ s.part.get F.SHD_BOOT_STATE_REPLANT_PENDING = 0 ∧
    s.part.power = 2 :=
  ⟨pw 2, by decide +kernel⟩
theorem met_power_run_wait : ∃ s : State, Ready s ∧ Firmware s fw ∧ s.part.live = true ∧ s.part.get F.SHD_BOOT_STATE_REPLANT_PENDING = 0 ∧
    s.part.power = 1 :=
  ⟨pw 1, by decide +kernel⟩
theorem met_power_run_run : ∃ s : State, Ready s ∧ Firmware s fw ∧ s.part.live = true ∧ s.part.get F.SHD_BOOT_STATE_REPLANT_PENDING = 0 ∧
    s.part.power = 0 :=
  ⟨pw 0 (fun u => { u with ordered := 1 }), by decide +kernel⟩
theorem met_power_gated : ∃ s : State, Ready s ∧ s.part.live = true ∧ s.part.dormIdle = true :=
  ⟨pw 1 (fun u => { u with beds := 2 ^ 63 + 1, cores := 2 }), by decide +kernel⟩
theorem met_power_powered : ∃ s : State, Ready s ∧ s.part.live = true ∧ s.part.power = 3 ∧ s.part.pwr.stepDone = false :=
  ⟨pw 3 (fun u => { u with beds := 1 }) [(F.BED_STATUS_GATED 0, 1), (F.PWR_CORES_STOPPED_CORES, 2)] (fun p => p.store (bedBase 0 + 0x17FFFE) [1, 2, 3]), by decide +kernel⟩
theorem met_power_drained : ∃ s : State, Ready s ∧ s.part.frostReady s.ns = true ∧ s.part.pwr.latchedWake = 0 :=
  ⟨pw 4 id [] aon, by decide +kernel⟩
theorem met_power_drained_wake : ∃ s : State, s.part.frostReady s.ns = true ∧ s.part.pwr.latchedWake ≠ 0 :=
  ⟨pw 4 (fun u => { u with latchedWake := 4 }) [] aon, by decide +kernel⟩
theorem met_power_wake_dorm : ∃ s : State, ReadyAon s ∧ s.part.wakeFires s.ns 0 false = true ∧ s.part.power = 1 ∧
    s.part.pwr.frozen = false :=
  ⟨pw 1, by decide +kernel⟩
theorem met_power_wake_entry : ∃ s : State, ReadyAon s ∧ s.part.power = 4 ∧ s.part.pwr.frozen = false :=
  ⟨pw 4 (fun u => { u with latchedWake := 4 }), by decide +kernel⟩
theorem met_power_wake_frost : ∃ s : State, ReadyAon s ∧ s.part.wakeFires s.ns 3 true = true :=
  ⟨pw 4 (fun u => { u with frozen := true }) [(F.PWR_WAKE_EN_GPIO, 2)] aon, by decide +kernel⟩
theorem met_power_exit_ready : ∃ s : State, Ready s ∧ s.part.exitReady = true :=
  ⟨pw 5 (fun u => { u with frozen := true, nvDone := true }), by decide +kernel⟩
theorem met_power_aon : ∃ s : State, ReadyAon s ∧ s.part.pins.aonRunning = false :=
  ⟨pw 0, by decide +kernel⟩

def nvc (op tries : Nat) : NvmeCmd := { op := op, plot := 1, a := 9, b := 0, nsid := 2, lba := 67, blocks := 1, tries := tries, progressAt := 0 }
/-- Slots 0 and 65 hold commands. -/
def nvs (c d : NvmeCmd) (g : Nat := 0xFFFF) : State :=
  let p := puts light [(F.PRP_NVME_READY, 1)]
  st { p with nvme := { NvmeUnit.init with cmds := [(0, some c), (65, some d)], gens := [(0, g)] } } 200000000
def dog (l : List (Fld × Nat)) (u : WdogUnit → WdogUnit) : State := let p := puts light l; st { p with wdog := u p.wdog } 500
theorem met_faults_stale : ∃ s : State, Ready s ∧ s.part.get F.PRP_LINK_UP = 1 ∧ s.part.nvCmd 0 ≠ none ∧ 0xFF ≠ s.part.nvGen 0 :=
  ⟨nvs (nvc 1 0) (nvc 2 0), by decide +kernel⟩
theorem met_faults_stale_none : ∃ s : State, Ready s ∧ s.part.get F.PRP_LINK_UP = 1 ∧ s.part.nvCmd 255 = none :=
  ⟨nvs (nvc 1 0) (nvc 2 0), by decide +kernel⟩
theorem met_faults_timeout1 : ∃ s : State, Ready s ∧ s.part.nvCmd 0 = some (nvc 1 0) ∧ (nvc 1 0).progressAt + 200000000 ≤ s.ns ∧
    (nvc 1 0).op ≠ 4 ∧ (nvc 1 0).tries = 0 :=
  ⟨nvs (nvc 1 0) (nvc 2 0), by decide +kernel⟩
theorem met_faults_timeout2 : ∃ s : State, Ready s ∧ s.part.nvCmd 0 = some (nvc 1 1) ∧ (nvc 1 1).progressAt + 200000000 ≤ s.ns ∧
    (nvc 1 1).tries ≠ 0 :=
  ⟨nvs (nvc 1 1) (nvc 4 0), by decide +kernel⟩
theorem met_faults_timeout3 : ∃ s : State, Ready s ∧ s.part.nvCmd 65 = some (nvc 4 0) ∧ (nvc 4 0).op = 4 ∧
    (nvc 4 0).progressAt + 200000000 ≤ s.ns :=
  ⟨nvs (nvc 2 1) (nvc 4 0), by decide +kernel⟩
theorem met_faults_load_tmo : ∃ s : State, Ready s ∧ s.part.loadTimedOut s.ns 1 = true ∧
    s.part.loadq 1 = { cur := some ⟨false, 9, 0, 5⟩, queue := [] } ∧ (⟨false, 9, 0, 5⟩ : LoadRun).kernel = false :=
  ⟨let p := puts light [];
    st { p with models := { p.models with models := [(9, { ModelSt.init 9 with state := 1 })], loads := [(1, { cur := some ⟨false, 9, 0, 5⟩, queue := [] })] } } 6000000005, by decide +kernel⟩
theorem met_faults_recov : ∃ s : State, Ready s ∧ s.part.get F.PRP_LINK_UP = 1 :=
  ⟨st light 5, by decide +kernel⟩
theorem met_faults_dog : ∃ s : State, Ready s ∧ s.part.wdog.stage1 = none ∧ s.part.wdog.armed = true ∧ s.part.wdog.paused = false ∧
    s.part.get F.FLT_WDOG_STAT_REMAIN = 0 ∧ s.part.boot.windowOpen = false ∧ s.part.boot.order = none :=
  ⟨dog [] (fun w => { w with armed := true }), by decide +kernel⟩
theorem met_faults_exc : ∃ s : State, Ready s ∧ s.part.shedUp = true ∧ s.part.wdog.stage1 = none :=
  ⟨dog [] id, by decide +kernel⟩
theorem met_faults_exc2 : ∃ s : State, Ready s ∧ s.part.shedUp = true ∧ s.part.wdog.stage1 ≠ none :=
  ⟨dog [] (fun w => { w with stage1 := some 3 }), by decide +kernel⟩
theorem met_faults_stage2 : ∃ s : State, Ready s ∧ s.part.stage2Due = true :=
  ⟨dog [] (fun w => { w with stage1 := some 100 }), by decide +kernel⟩
theorem met_faults_trip : ∃ s : State, s.part.sdl.step = 0 :=
  ⟨dog [] id, by decide +kernel⟩
theorem met_faults_temp : ∃ s : State, Ready s ∧ s.part.boot.phase ≠ .porHeld :=
  ⟨dog [] id, by decide +kernel⟩
theorem met_faults_tap_reset : ∃ s : State, s.part.pins.thermtrip = false ∧ s.part.sdl.step = 0 :=
  ⟨dog [] id, by decide +kernel⟩

/-! Single steps on small states. The expected values are worked out by hand from the rule named, or are check values that the named
standards publish. -/

/-- What `f` shows of the part after one step that takes `c`. -/
def after {α : Type} (c : Instr) (s : State) (f : Part → α) : Option α :=
  match step { s with pending := [c] } with
  | .next t => some (f t.part)
  | _ => none

/-- R53: a rate below the range is clamped to -858 993. -/
theorem test_rate_clamped : after (.sdlRateWrite fw 0xFFF00000) (st up 700) (·.rate) = some (-858993) := by decide +kernel
/-- R65: STEP_HI 1 with STEP_LO 5 adds 2^32 + 5 nanoseconds. -/
theorem test_step_forward :
    (match step { st { up with sdl := { up.sdl with stepLo := 5 } } 700 with pending := [.sundialStep fw 1] } with
      | .next t => t.ns
      | _ => 0) = 4294968001 := by decide +kernel
/-- R51: at source 1 (REFCLK, 25 MHz) an edge adds 40 ns times 1 + RATE / 2^32; RATE 0. -/
theorem test_edge_refclk :
    (match step (st (puts up [(F.SDL_STATUS_SRC, 1)]) 7) with
      | .next t => t.ns
      | _ => 0) = 47 := by decide +kernel
/-- R690: the falling edge of PPS changes the pin and nothing else. -/
theorem test_pps_falls : after .ppsFall (st { up with pins := { up.pins with pps := true } } 1500000000) (·.pins.pps) = some false := by
  decide +kernel
/-- R130: a mailbox command while BUSY is discarded with OVERRUN. -/
theorem test_mailbox_overrun : after (.accept 7 5) (st busy 7) (fun p => (p.get F.SHD_MBX_STATUS_OVERRUN, p.get F.SHD_MBX_CMD_TAG)) =
    some (1, 0) := by decide +kernel
/-- R34: a read of another shape is counted and completed with Completer Abort. -/
theorem test_bar_shape : after (.registerRead hostWho 0x200001 4) (st up 5) (fun p => (p.get F.PEP_ERR_SHAPE_COUNT, p.out)) =
    some (1, [.completerAbort]) := by decide +kernel
/-- R6: a read of an RC count returns it and leaves 0. -/
theorem test_read_clears : after (.registerRead fw (0x1020000000 + R.FLT_STALE_NVME) 4) (st (puts up [(F.FLT_STALE_NVME_COUNT, 7)]) 5)
    (fun p => (p.out, p.get F.FLT_STALE_NVME_COUNT)) = some ([.readData fw 7], 0) := by decide +kernel
/-- R7: a W1C write clears the bits written as 1. -/
theorem test_write_one_clears : after (.registerWrite fw 0 (0x1020000000 + R.FLT_EVENTS) 4 5) (st (puts up [(F.FLT_EVENTS_EVT, 7)]) 5)
    (·.get F.FLT_EVENTS_EVT) = some 2 := by decide +kernel
/-- R401, R402: a stake shows the context that took it; another context cannot release it. -/
theorem test_stake_taken : after (.stkTake (app 1) 0xF00D 15) (st light 500) (·.get (F.STK_OWNER_CTX 15)) = some 0xF00D := by decide +kernel
theorem test_stake_kept : after (.stkRel (app 1) 8 15) (st (puts light [(F.STK_TAKE_TAKE 15, 1), (F.STK_OWNER_CTX 15, 7)]) 500)
    (fun p => (p.get (F.STK_TAKE_TAKE 15), p.get (F.STK_STAT_CONTEND 15))) = some (1, 1) := by decide +kernel
/-- R431: LEVEL saturates at 0xFFFF FFFF with LEVEL_OVF. -/
theorem test_level_saturates : after (.brwChLevelAdd (app 1) 0 0xFFFFFFFF) (chan0 1 [(F.BRW_CH_LEVEL_BYTES 0, 2), (F.BRW_CH_HIGH_BYTES 0, 100)])
    (fun p => (p.get (F.BRW_CH_LEVEL_BYTES 0), p.get (F.BRW_CH_IRQ_LEVEL_OVF 0))) = some (0xFFFFFFFF, 1) := by decide +kernel
/-- R422: a doorbell that finds OWN 1 takes the descriptor; the channel is WAITING (2). -/
theorem test_doorbell : after (.brwChDoorbell (app 1) 0) (chan0 1 en0 (with_ none [])) (·.chState 0) = some 2 := by decide +kernel
/-- R416: one beat copies 64 bytes. -/
theorem test_beat : after (.barrowReadReturn 0 false)
    (let t := chan0 3 en0 (with_ (some (run1 true true 0)) []); { t with part := t.part.store (winBase 1 + 0x50000) [7, 8] })
    (fun p => p.load (winBase 1 + 0x60000) 3) = some [7, 8, 0] := by decide +kernel
/-- R195: a payload CRC error sets bit 2 of ITK_PORT_ERR and drops the frame. -/
theorem test_line_crc : after (.csi2LongPacket 1 1 63 [1] false false .good false) (st (camFrame 1) 500)
    (fun p => (p.get (F.ITK_PORT_ERR_ERR 1), p.get (F.ITK_CTX_DROPS_COUNT 2))) = some (4, 1) := by decide +kernel
/-- R237: a list of more crops than the pipeline has is rejected. -/
theorem test_commit_rejected : after (.prnPipeCommit fw 7) (st (steer7 5) 500)
    (fun p => (p.get (F.PRN_PIPE_COMMIT_STAT_REJECT 7), p.get (F.PRN_PIPE_COMMIT_STAT_COPYING 7))) = some (1, 0) := by decide +kernel
/-- R268: 0xFFFFFFFF * 0xFFFFFFFF has the high word 0xFFFFFFFE. -/
theorem test_mulhu : after (.rv32Instruction 0 0 (w32 (mkR 1 2 1 3 4 0x33))) (thr [(1, 0xFFFFFFFF), (2, 0xFFFFFFFF)])
    (fun p => xReg (p.thread 0 0) 4) = some 0xFFFFFFFE := by decide +kernel
/-- R268: 0x80000000 shifted right by 35 mod 32 keeps its sign; a remainder by 0 is the dividend. -/
theorem test_sra : after (.rv32Instruction 0 0 (w32 (mkR 0x20 2 1 5 4 0x33))) (thr [(1, 0x80000000), (2, 35)])
    (fun p => xReg (p.thread 0 0) 4) = some 0xF0000000 := by decide +kernel
theorem test_remu_zero : after (.rv32Instruction 0 0 (w32 (mkR 1 2 1 7 4 0x33))) (thr [(1, 0x80000000), (2, 0)])
    (fun p => xReg (p.thread 0 0) 4) = some 0x80000000 := by decide +kernel
/-- R268: JALR reads rs1 before it writes the same register. -/
theorem test_jalr_same : after (.rv32Instruction 0 0 (w32 (mkI 4 1 0 1 0x67))) (thr [(1, 9)])
    (fun p => ((p.thread 0 0).pc, xReg (p.thread 0 0) 1)) = some (12, 0x104) := by decide +kernel
/-- R280: reading bolt counter 3 as index 19 clears it and no other. -/
theorem test_bolt_clears : after (.tbolt 0 0 5 1) (thr [(1, 19)] (fun d => { d with bolts := [(3, 77), (4, 1)] }))
    (fun p => (xReg (p.thread 0 0) 5, (p.bed 0).bolts)) = some (77, [(4, 1)]) := by decide +kernel
/-- R280: TVLD reads the elements of its walk. -/
theorem test_tvld : after (.tvld 0 0 8 1) (vec []) (fun p => vElem (p.thread 0 0).v 8 8 3) = some 6 := by decide +kernel
/-- R294: an accumulator over 3 is ILLEGAL, cause 1, and reports the job fault. -/
theorem test_illegal : after (.tzero 0 0 4) (thr []) (fun p => (p.get (F.BED_FAULT_CAUSE 0), p.jobs.faults.length)) = some (1, 1) := by
  decide +kernel
/-- R377: the last layer's swap makes the graft READY (6) and its predecessor LOADED (2). -/
theorem test_swap_last : after (.graftLayerSwap 10)
    (st (grafts (fun m => { ModelSt.init m with state := if m = 9 then 6 else 5, swapped := if m = 10 then 1 else 0 })) 500)
    (fun p => ((p.model 10).state, (p.model 9).state)) = some (6, 2) := by decide +kernel
/-- R467: the eighth owed refresh goes ahead of Wilt; 7 stay owed, and the count wraps. -/
theorem test_refresh_forced : after (.refreshDue 0 0 true) (dmc [(owedFld 0 0, 7), (F.DMC_REF_FORCED_COUNT, 0xFFFFFFFF)])
    (fun p => (p.get (owedFld 0 0), p.get F.DMC_REF_FORCED_COUNT)) = some (7, 0) := by decide +kernel
/-- R472: NBR_K does not take 15. -/
theorem test_nbr_k : after (.dmcNbrKWrite fw 15) dmc (·.get F.DMC_CTRL_NBR_K) = some 11 := by decide +kernel
/-- R494: a crate whose wait is over closes with CLOSE 1. -/
theorem test_crate_wait : after (.crateWaitExpiry 1) (hv1 { hv0 with opened := some ⟨[[1, 2]], 1000⟩ } [(F.HVS_P_WAIT_US 1, 100)])
    (fun p => (p.hv 1).closed.map (·.close)) = some [1] := by decide +kernel
/-- R506: the head of a ring of 4 slots wraps. -/
theorem test_cellar_wraps : after (.cellarWriteComplete 1)
    (hv1 { hv0 with cellarOut := some (7, 1, 3), curCellar := 7, ringSlots := 4 } [(F.HVS_P_CELLAR_HEAD_SLOT 1, 3)] (nv2 (some cwrite)))
    (·.get (F.HVS_P_CELLAR_HEAD_SLOT 1)) = some 0 := by decide +kernel
/-- R499: with PROD 20 and a ring of 16, CONS 3 is 17 behind: CONS_ERR. -/
theorem test_cons_err : after (.hrConsWrite 1 3) (hv1 hv0 on1) (fun p => (p.get (F.HR_STAT_CONS_ERR 1), p.get (F.HR_CONS_INDEX 1))) =
    some (1, 10) := by decide +kernel
/-- R522: a flit with a CRC error asks for a replay from EXPECT 9: a control body of code 1. -/
theorem test_flit_nak : after (.flitRx 0 (List.replicate 64 1)) (trl 2 [] held1) (fun p => (p.tport 0).control) = some [[1, 9, 0]] := by
  decide +kernel
/-- R585, R584: WAIT with mask 0 is INVAL, -1. -/
theorem test_wait_zero : after (.wait 3 0) calling (·.out) = some [.syscall 6 0xFFFFFFFFFFFFFFFF 0] := by decide +kernel
/-- R583: EXIT shows the status and counts the end; without RESTART the plot is ordered into Fallow. -/
theorem test_exit : after (.exit 3 0xFFFFFFFF) calling
    (fun p => (p.get (F.APC_RUN_EXIT_STATUS 6), p.get (F.APC_RUN_ENDS_COUNT 6), (p.plot 1).ordered != 0)) = some (0xFFFFFFFF, 1, true) := by
  decide +kernel
/-- R600: Dormancy keeps core 0. -/
theorem test_dormancy : after (.pwrReqDormancy fw) (pw 0) (fun p => (p.power, p.pwr.cores.testBit 0, p.pwr.cores.testBit 7)) =
    some (1, false, true) := by decide +kernel
/-- R624: a write with another generation is stale. -/
theorem test_nvme_stale : after (.nvmeCompletion false 0 0xFF) (nvs (nvc 1 0) (nvc 2 0)) (·.get F.FLT_STALE_NVME_COUNT) = some 1 := by
  decide +kernel
/-- R622: a first timeout reissues the command under the next generation, which wraps, and sends an Abort. -/
theorem test_nvme_timeout : after (.nvmeCommandTimeout 0 true) (nvs (nvc 1 0) (nvc 2 0))
    (fun p => (p.nvGen 0, (p.nvCmd 0).map (·.tries), (p.nvCmd 1).map (·.op))) = some (0, some 1, some 4) := by decide +kernel
/-- R630: stage 1 asserts FAULT_N and the NMI. -/
theorem test_watchdog : after (.watchdogExpiry true) (dog [] (fun w => { w with armed := true }))
    (fun p => (p.get F.FLT_STATUS_FAULT_N, p.out)) = some (1, [.nmi]) := by decide +kernel
/-- R686: IDCODE of revision B1. -/
theorem test_idcode : after (.jtagTapUpdate .scan) (dog [] id) (·.out) = some [.tdo 0x29600967] := by decide +kernel
/-- R633: after THERMTRIP_N the model faults. -/
theorem test_thermtrip : after (.accept 0 0) hot (·.out) = none := by decide +kernel

/-- The published check values of SHA-256 of "abc" and of CRC-32C of "123456789". -/
theorem test_sha256 : (Crypto.sha256 [0x61, 0x62, 0x63]).take 4 = [0xba, 0x78, 0x16, 0xbf] := by decide +kernel
theorem test_crc32c : Crypto.crc32c [0x31, 0x32, 0x33, 0x34, 0x35, 0x36, 0x37, 0x38, 0x39] = 0xE3069283 := by decide +kernel
/-- IEEE 754 binary32: 1.5 + 2.25 = 3.75, and 0.1 * 3 rounds to 0x3E99999A. -/
theorem test_f32_add : f32Add 0x3FC00000 0x40100000 = 0x40700000 := by decide +kernel
theorem test_f32_mul : f32Mul 0x3DCCCCCD 0x40400000 = 0x3E99999A := by decide +kernel


/-! One ill-formed command for each check of WellFormed, just outside the range; and the last value within it. -/

def illFormed0 : List Instr :=
  [.pcieEpLinkTrained 8 0 0, .pcieEpLinkTrained 0 16 0, .pcieEpLinkTrained 0 0 32, .stageBegin 65536 0 0, .stageWrite 65536 0 0,
   .stageEnd 65536 0, .replant 65536, .rollback 65536, .accept 65536 0, .setTime 65536 0 0, .ledgerRead 65536 0, .managementTick 65536 0,
   .managementTick 0 64, .sdlTmrCmpLoWrite fw 64 0, .sdlTmrCmpHiWrite fw 64 0, .sdlTmrCtrlWrite fw 64 0, .sdlTmrMissedRead fw 64,
   .timerFire 64, .gpioEdgeCapture 8 true, .ptpMessageRx 2 .slave none, .fallowDrainEnd 9 true, .fallowZeroDone 9,
   .csi2FrameStart 8 0 0 .good true, .csi2FrameStart 0 4 0 .good true, .csi2FrameStart 0 0 65536 .good true,
   .csi2LongPacket 8 0 0 [] true true .good true, .csi2LongPacket 0 4 0 [] true true .good true,
   .csi2LongPacket 0 0 64 [] true true .good true, .csi2FrameEnd 8 0 0 .good true, .csi2FrameEnd 0 4 0 .good true,
   .csi2FrameEnd 0 0 65536 .good true, .ethFrameRx 2 [] true true]
theorem test_illFormed0 : illFormed0.all (fun c => !c.wf) = true := by decide
def illFormed1 : List Instr :=
  [.accessUnitTimeout 128, .entryCommit 128, .contextStall 128, .itkCtxCommit fw 128, .itkCtxRelock fw 128, .itkCtxEnWrite fw 128 true,
   .rtspSessionSetup 128 0 0 0 0, .rtspSessionSetup 0 2 0 0 0, .rtspSessionSetup 0 0 65536 0 0, .rtspSessionSetup 0 0 0 4294967296 0,
   .rtspSessionSetup 0 0 0 0 128, .pairChoiceFinal 32, .nalUnitHandoff 128 ⟨true, false, false⟩, .sliceStart 6 facts, .sliceEnd 6 done,
   .prnPipeCommit fw 64, .steerCopyDone 64, .prunerLatch 64, .cropStart 4, .cropEnd 4, .drillWaitExpiry 9 0, .drillWaitExpiry 0 16,
   .drillReadyNotice 9 0, .drillReadyNotice 0 16, .drillSlotFree 9 0, .drillSlotFree 0 16, .bedCommandStart 64, .bedCommandEnd 64,
   .rv32Instruction 64 0 0, .rv32Instruction 0 64 0, .bedLoadReturn 64 0 true, .bedLoadReturn 0 64 true]
theorem test_illFormed1 : illFormed1.all (fun c => !c.wf) = true := by decide
def illFormed2 : List Instr :=
  [.bedFence 64 0, .bedFence 0 64]
theorem test_illFormed2 : illFormed2.all (fun c => !c.wf) = true := by decide
def wellFormed0 : List Instr :=
  [.pcieEpLinkTrained 7 0 0, .pcieEpLinkTrained 0 15 0, .pcieEpLinkTrained 0 0 31, .stageBegin 65535 0 0, .stageWrite 65535 0 0,
   .stageEnd 65535 0, .replant 65535, .rollback 65535, .accept 65535 0, .setTime 65535 0 0, .ledgerRead 65535 0, .managementTick 65535 0,
   .managementTick 0 63, .sdlTmrCmpLoWrite fw 63 0, .sdlTmrCmpHiWrite fw 63 0, .sdlTmrCtrlWrite fw 63 0, .sdlTmrMissedRead fw 63,
   .timerFire 63, .gpioEdgeCapture 7 true, .ptpMessageRx 1 .slave none, .fallowDrainEnd 8 true, .fallowZeroDone 8,
   .csi2FrameStart 7 0 0 .good true, .csi2FrameStart 0 3 0 .good true, .csi2FrameStart 0 0 65535 .good true,
   .csi2LongPacket 7 0 0 [] true true .good true, .csi2LongPacket 0 3 0 [] true true .good true,
   .csi2LongPacket 0 0 63 [] true true .good true, .csi2FrameEnd 7 0 0 .good true, .csi2FrameEnd 0 3 0 .good true,
   .csi2FrameEnd 0 0 65535 .good true, .ethFrameRx 1 [] true true]
theorem test_wellFormed0 : wellFormed0.all (fun c => c.wf) = true := by decide
def wellFormed1 : List Instr :=
  [.accessUnitTimeout 127, .entryCommit 127, .contextStall 127, .itkCtxCommit fw 127, .itkCtxRelock fw 127, .itkCtxEnWrite fw 127 true,
   .rtspSessionSetup 127 0 0 0 0, .rtspSessionSetup 0 1 0 0 0, .rtspSessionSetup 0 0 65535 0 0, .rtspSessionSetup 0 0 0 4294967295 0,
   .rtspSessionSetup 0 0 0 0 127, .pairChoiceFinal 31, .nalUnitHandoff 127 ⟨true, false, false⟩, .sliceStart 5 facts, .sliceEnd 5 done,
   .prnPipeCommit fw 63, .steerCopyDone 63, .prunerLatch 63, .cropStart 3, .cropEnd 3, .drillWaitExpiry 8 0, .drillWaitExpiry 0 15,
   .drillReadyNotice 8 0, .drillReadyNotice 0 15, .drillSlotFree 8 0, .drillSlotFree 0 15, .bedCommandStart 63, .bedCommandEnd 63,
   .rv32Instruction 63 0 0, .rv32Instruction 0 63 0, .bedLoadReturn 63 0 true, .bedLoadReturn 0 63 true]
theorem test_wellFormed1 : wellFormed1.all (fun c => c.wf) = true := by decide
def wellFormed2 : List Instr :=
  [.bedFence 63 0, .bedFence 0 63]
theorem test_wellFormed2 : wellFormed2.all (fun c => c.wf) = true := by decide

end Sys2Proof.Tests
end

section
/-! SUPPORT. How a command can end, and the state right after reset: the statements of the spec's scope (00_scope.md). -/

namespace Sys2Proof.Machine

/-- What leaves the conditions of the always-on domain leaves those of the units that run from a PLL (R43, R633, R685). -/
theorem Part.outside_pll_of_outside_aon {p : Part} (h : p.outside false = true) : p.outside true = true := by
  simp only [Part.outside, Bool.or_eq_true, Bool.false_and, Bool.false_eq_true, or_false] at h ⊢
  exact .inl h

/-- After THERMTRIP_N every unit is outside its operating conditions (R633). -/
theorem Part.outside_of_thermtrip {p : Part} (h : p.pins.thermtrip = true) (pll : Bool) : p.outside pll = true := by
  simp [Part.outside, h]

/-- The outcomes of a guarded effect, whichever of the four kinds of operating conditions its units need: each kind lies within the widest,
that of the units that run from a PLL. -/
theorem Guarded.next_or_outside {s : State} {r : Result} (h : Guarded s r) :
    (∃ t, r = .next t ∧ t.pending = s.pending) ∨ (r = .fault .outsideConditions ∧ s.part.outside true = true) := by
  obtain ⟨bad, can, eff, rfl, hbad⟩ := h
  rcases State.runIf_cases s bad can eff with ⟨hb, hr⟩ | ⟨-, -, hr⟩ | ⟨-, -, hr⟩
  · refine .inr ⟨hr, ?_⟩
    subst hb
    rcases hbad with hfalse | htrip | haon | hpll
    · cases hfalse
    · exact Part.outside_of_thermtrip htrip.symm true
    · exact Part.outside_pll_of_outside_aon haon.symm
    · exact hpll.symm
  · exact .inl ⟨_, hr, State.settle_pending _ _⟩
  · exact .inl ⟨s, hr, rfl⟩

/-- Settles O2: PORST_N asserted always gives the power-on reset, and every other command is a guarded effect. That leaving the
operating conditions ends in a fault is the model's choice (assumption 63), as is the unchanged state of a command without its
occasion (assumption 1). -/
theorem commandsNeverRefused : Obligations.CommandsNeverRefused := by
  intro c s
  rcases exec_shape c s with ⟨hpor, -⟩ | hguarded
  · exact .inl ⟨s.powerOn, hpor, State.powerOn_pending s⟩
  · exact hguarded.next_or_outside

/-- A register that nothing has written reads as its Reset value (R8). -/
theorem Part.reg_init (a : Nat) : Part.init.reg a = regReset a := rfl

/-- NOR flash that nothing has programmed reads as erased (assumption 6). -/
theorem Part.norByte_init (a : Nat) : Part.init.norByte a = 0xFF := rfl

/-! The Reset values that the register tables give the fields which the statement of the reset state names. -/

theorem Part.get_init_sdlTimeValid : Part.init.get F.SDL_STATUS_TIME_VALID = 0 := by decide
theorem Part.get_init_shdRev : Part.init.get F.SHD_REV_REV = 0xB1 := by decide
theorem Part.get_init_shdBootSlot : Part.init.get F.SHD_BOOT_STATE_SLOT = 3 := by decide
theorem Part.get_init_fltFaultN : Part.init.get F.FLT_STATUS_FAULT_N = 0 := by decide

/-- Neither byte memory lists a byte right after reset, so both are in their canonical form. -/
theorem State.memWf_reset : State.memWf State.reset := ⟨rfl, rfl⟩

/-- Right after reset no unit is outside its operating conditions. -/
theorem Part.outside_init (pll : Bool) : Part.init.outside pll = false := by
  cases pll <;> rfl

/-- Settles O8, by the Reset value of each register that it names and the empty tables of the other parts. The empty memory, NOR
erased everywhere, and the pins and the units' phases at reset are the model's choice (assumptions 5, 6 and 7). -/
theorem resetState : Obligations.ResetState := by
  refine ⟨?sun, ?count, ?queue, Part.reg_init, Part.get_init_sdlTimeValid, Part.get_init_shdRev, Part.get_init_shdBootSlot,
    Part.get_init_fltFaultN, ?phase, ?porst, Part.outside_init true, ?step, State.memWf_reset, Part.norByte_init, ?sent⟩
  case count => simp [State.reset, State.ns]
  all_goals rfl

end Sys2Proof.Machine
end

section
/-! SUPPORT. The access log of the fault unit (R35, R693), and what a plot's access outside its map does. -/

namespace Sys2Proof.Machine

open Sys2Proof.Claim

/-- A command that leaves no step of the Sundial completes in the state with the part that its effect leaves. -/
theorem completes_of_still {c : Instr} {s : State} {p : Part} {Q : State → Prop} (he : exec c s = .next (s.settle p))
    (hstep : p.sdl.step = 0) (hq : Q { s with part := p }) : Completes c s Q :=
  ⟨_, by rw [he, State.settle_still s p hstep], hq⟩

/-- `q` is `p` but for registers of the fault unit and what leaves the Frexia. -/
def Part.FaultUnitOnly (p q : Part) : Prop :=
  q = { p with regs := q.regs, out := q.out } ∧ ∀ a, a / 0x100000 ≠ 18 → q.reg a = p.reg a

theorem Part.FaultUnitOnly.refl (p : Part) : p.FaultUnitOnly p := ⟨rfl, fun _ _ => rfl⟩

theorem Part.FaultUnitOnly.trans {p q r : Part} (h : p.FaultUnitOnly q) (k : q.FaultUnitOnly r) : p.FaultUnitOnly r :=
  ⟨by rw [k.1, h.1], fun a ha => (k.2 a ha).trans (h.2 a ha)⟩

theorem Part.FaultUnitOnly.sdl {p q : Part} (h : p.FaultUnitOnly q) : q.sdl = p.sdl := by rw [h.1]

theorem Part.FaultUnitOnly.setReg (p : Part) {a : Nat} (v : Word) (ha : a / 0x100000 = 18) : p.FaultUnitOnly (p.setReg a v) :=
  ⟨rfl, fun _ hb => Part.reg_setReg_other p v (fun e => hb (e ▸ ha))⟩

theorem Part.FaultUnitOnly.put (p : Part) (f : Fld) (n : Nat) (hf : f.reg / 0x100000 = 18) : p.FaultUnitOnly (p.put f n) :=
  .setReg p _ hf

theorem Part.FaultUnitOnly.emit (p : Part) (o : Out) : p.FaultUnitOnly (p.emit o) := ⟨rfl, fun _ _ => rfl⟩

/-! Events. -/

/-- An MSI changes no register. -/
@[simp] theorem Part.msi_reg (p : Part) (v a : Nat) : (p.msi v).reg a = p.reg a := by
  unfold Part.msi
  extract_lets n
  split <;> rfl

theorem Part.FaultUnitOnly.msi (p : Part) (v : Nat) : p.FaultUnitOnly (p.msi v) := by
  unfold Part.msi
  extract_lets n
  split
  · exact .emit p _
  · exact .refl p

theorem Part.FaultUnitOnly.fltEvent (p : Part) (i : Nat) : p.FaultUnitOnly (p.fltEvent i) := by
  unfold Part.fltEvent
  extract_lets q
  have hq : p.FaultUnitOnly q := .put p _ _ rfl
  split
  · exact .refl p
  · split
    · exact hq.trans (.msi q 10)
    · exact hq

/-- An event changes no register but FLT_EVENTS. -/
theorem Part.fltEvent_reg_other (p : Part) (i : Nat) {a : Nat} (ha : a ≠ R.FLT_EVENTS) : (p.fltEvent i).reg a = p.reg a := by
  unfold Part.fltEvent
  extract_lets q
  have hq : q.reg a = p.reg a := Part.reg_put_other p _ _ ha
  split
  · rfl
  · split
    · rw [Part.msi_reg, hq]
    · exact hq

/-- An event that is raised stands. -/
theorem Part.fltEvent_stands (p : Part) {i : Nat} (hi : i < 8) : ((p.fltEvent i).get F.FLT_EVENTS_EVT).testBit i = true := by
  unfold Part.fltEvent
  extract_lets q
  have hq : (q.get F.FLT_EVENTS_EVT).testBit i = true := by
    have e : q.get F.FLT_EVENTS_EVT = (p.get F.FLT_EVENTS_EVT ||| 2 ^ i) % 2 ^ 8 := Part.get_put_self p _ _ (by decide)
    rw [e, Nat.testBit_mod_two_pow, Nat.testBit_or, Nat.testBit_two_pow_self]
    simp [hi]
  split
  · assumption
  · split
    · rw [Part.get, Part.msi_reg]; exact hq
    · exact hq

/-! The words of a log entry. -/

/-- An entry's words leave every register that is none of them. -/
theorem Part.reg_logWords_other (p : Part) (reg : Nat → Nat) (base : Nat) (l : List Nat) {a : Nat}
    (ha : ∀ k < l.length, a ≠ reg (base + k)) : (p.logWords reg base l).reg a = p.reg a := by
  induction l generalizing p base with
  | nil => rfl
  | cons x r ih =>
    have hr : ∀ k < r.length, a ≠ reg (base + 1 + k) := fun k hk => by
      have := ha (k + 1) (by simpa using hk)
      rwa [Nat.add_assoc, Nat.add_comm 1 k]
    rw [Part.logWords, ih _ _ hr]
    exact Part.reg_setReg_other p _ (ha 0 (by simp))

/-- A word of the entry stands at its place from the base. -/
theorem Part.reg_logWords (p : Part) {reg : Nat → Nat} (hinj : Function.Injective reg) (base : Nat) (l : List Nat) {k : Nat}
    (hk : k < l.length) : (p.logWords reg base l).reg (reg (base + k)) = BitVec.ofNat 32 l[k] := by
  induction l generalizing p base k with
  | nil => simp at hk
  | cons x r ih =>
    rw [Part.logWords]
    cases k with
    | zero =>
      rw [Part.reg_logWords_other _ reg _ _ (fun j _ e => by have := hinj e; omega)]
      exact Part.reg_setReg_self p _ _
    | succ k =>
      have := ih (p.setReg (reg base) (BitVec.ofNat 32 x)) (base + 1) (Nat.lt_of_succ_lt_succ hk)
      rwa [Nat.add_assoc, Nat.add_comm 1 k] at this

theorem Part.FaultUnitOnly.logWords (p : Part) (reg : Nat → Nat) (base : Nat) (l : List Nat)
    (h : ∀ k < l.length, reg (base + k) / 0x100000 = 18) : p.FaultUnitOnly (p.logWords reg base l) := by
  induction l generalizing p base with
  | nil => exact .refl p
  | cons x r ih =>
    have hr : ∀ k < r.length, reg (base + 1 + k) / 0x100000 = 18 := fun k hk => by
      rw [Nat.add_assoc, Nat.add_comm 1 k]
      exact h (k + 1) (by simpa using hk)
    exact (Part.FaultUnitOnly.setReg p _ (h 0 (by simp))).trans (ih _ _ hr)

/-! The access log. -/

/-- The words of an access-log entry (R693). -/
def accWords (t : Nat) (w : Who) (write : Bool) (outcome addr : Nat) : List Nat :=
  [w.plot.val + 16 * w.kind.code + (if write then 256 else 0) + 512 * outcome, addr, addr / 2 ^ 32 % 2 ^ 16, 0, t, t / 2 ^ 32, 0, 0]

/-- The part with the next entry of the access log written and counted, before its events. -/
def Part.accEntry (p : Part) (t : Nat) (w : Who) (write : Bool) (outcome addr : Nat) : Part :=
  (p.logWords R.FLT_ACC_LOG (p.get F.FLT_ACC_HEAD_COUNT % 32 * 8) (accWords t w write outcome addr)).add F.FLT_ACC_HEAD_COUNT 1

/-- An access of a plot that is not fenced is logged, and raises event 7 where it overwrites an entry, and event 0. -/
theorem Part.accLog_unfenced (p : Part) (t : Nat) {w : Who} (write : Bool) (outcome addr : Nat) (hf : p.fenced w.plot.val = false) :
    p.accLog t w write outcome addr =
      ((p.accEntry t w write outcome addr).iff (decide (32 ≤ p.get F.FLT_ACC_HEAD_COUNT)) (·.fltEvent 7)).fltEvent 0 := by
  unfold Part.accLog
  rw [hf, Bool.and_false]
  rfl

theorem flt_acc_log_injective : Function.Injective R.FLT_ACC_LOG := fun a b h => by
  unfold R.FLT_ACC_LOG at h; omega

/-- Each word of an entry is a register of the fault unit, apart from its head and its events. -/
theorem flt_acc_log_place (head : Nat) {k : Nat} (hk : k < 8) :
    R.FLT_ACC_LOG (head % 32 * 8 + k) / 0x100000 = 18 ∧ R.FLT_ACC_LOG (head % 32 * 8 + k) ≠ R.FLT_ACC_HEAD ∧
      R.FLT_ACC_LOG (head % 32 * 8 + k) ≠ R.FLT_EVENTS := by
  unfold R.FLT_ACC_LOG R.FLT_ACC_HEAD R.FLT_EVENTS; omega

/-- The events of an entry leave every register but FLT_EVENTS. -/
theorem Part.accLog_reg (p : Part) (t : Nat) {w : Who} (write : Bool) (outcome addr : Nat) (hf : p.fenced w.plot.val = false)
    {a : Nat} (ha : a ≠ R.FLT_EVENTS) :
    (p.accLog t w write outcome addr).reg a = (p.accEntry t w write outcome addr).reg a := by
  rw [p.accLog_unfenced t write outcome addr hf, Part.fltEvent_reg_other _ _ ha]
  unfold Part.iff
  split
  · exact Part.fltEvent_reg_other _ _ ha
  · rfl

/-- The log's count goes up by one. -/
theorem Part.accLog_head (p : Part) (t : Nat) {w : Who} (write : Bool) (outcome addr : Nat) (hf : p.fenced w.plot.val = false) :
    (p.accLog t w write outcome addr).get F.FLT_ACC_HEAD_COUNT = (p.get F.FLT_ACC_HEAD_COUNT + 1) % 2 ^ 32 := by
  have hw : (p.logWords R.FLT_ACC_LOG (p.get F.FLT_ACC_HEAD_COUNT % 32 * 8) (accWords t w write outcome addr)).get F.FLT_ACC_HEAD_COUNT =
      p.get F.FLT_ACC_HEAD_COUNT :=
    congrArg (fun v : Word => v.bits 31 0)
      (Part.reg_logWords_other p _ _ _ (fun k hk => ((flt_acc_log_place _ hk).2.1).symm))
  rw [Part.get, p.accLog_reg t write outcome addr hf (by decide)]
  refine (Part.get_put_self _ F.FLT_ACC_HEAD_COUNT _ (by decide)).trans ?_
  rw [hw]
  rfl

/-- Word `k` of the entry stands at the place that the count before it names. -/
theorem Part.accLog_word (p : Part) (t : Nat) {w : Who} (write : Bool) (outcome addr : Nat) (hf : p.fenced w.plot.val = false)
    {k : Nat} (hk : k < (accWords t w write outcome addr).length) :
    (p.accLog t w write outcome addr).reg (R.FLT_ACC_LOG (p.get F.FLT_ACC_HEAD_COUNT % 32 * 8 + k)) =
      BitVec.ofNat 32 (accWords t w write outcome addr)[k] := by
  obtain ⟨-, hhead, hevents⟩ := flt_acc_log_place (p.get F.FLT_ACC_HEAD_COUNT) (k := k) hk
  rw [p.accLog_reg t write outcome addr hf hevents, Part.accEntry, Part.add, Part.reg_put_other _ _ _ hhead]
  exact Part.reg_logWords p flt_acc_log_injective _ _ hk

/-- A logged access raises event 0. -/
theorem Part.accLog_event (p : Part) (t : Nat) {w : Who} (write : Bool) (outcome addr : Nat) (hf : p.fenced w.plot.val = false) :
    ((p.accLog t w write outcome addr).get F.FLT_EVENTS_EVT).testBit 0 = true := by
  rw [p.accLog_unfenced t write outcome addr hf]
  exact Part.fltEvent_stands _ (by decide)

theorem Part.FaultUnitOnly.accLog (p : Part) (t : Nat) {w : Who} (write : Bool) (outcome addr : Nat)
    (hf : p.fenced w.plot.val = false) : p.FaultUnitOnly (p.accLog t w write outcome addr) := by
  rw [p.accLog_unfenced t write outcome addr hf]
  have hentry : p.FaultUnitOnly (p.accEntry t w write outcome addr) :=
    (Part.FaultUnitOnly.logWords p _ _ _ (fun k hk => (flt_acc_log_place _ hk).1)).trans (.put _ _ _ rfl)
  refine (hentry.trans ?_).trans (.fltEvent _ 0)
  unfold Part.iff
  split
  · exact .fltEvent _ 7
  · exact .refl _

/-! A plot's access outside its map. -/

/-- An address of a plot that is neither on a register page nor in its memory is outside its map (R35, R37). -/
theorem Part.hit_outside (p : Part) {w : Who} {addr bytes : Nat} {write : Bool} (hk : w.kind ≠ .host) (hp : w.plot.val ≠ 0)
    (hpage : pageAddr addr = none) (hmem : p.memKeys w.plot.val addr bytes write = none) :
    p.hit w addr bytes write = .outside := by
  unfold Part.hit
  simp [hk, hp, hpage, hmem]

/-- A refused access of a plot: it is logged with outcome 1. -/
theorem Part.denied_write (p : Part) (t : Nat) {w : Who} (addr : Nat) (hp : w.plot.val ≠ 0) :
    p.denied t w true addr = p.accLog t w true 1 addr := by
  simp [Part.denied, hp]

/-- A refused read of a plot answers an access fault too. -/
theorem Part.denied_read (p : Part) (t : Nat) {w : Who} (addr : Nat) (hp : w.plot.val ≠ 0) :
    p.denied t w false addr = (p.accLog t w false 1 addr).emit (.accessFault w) := by
  simp [Part.denied, hp]

/-- `t` is `s` with a denied access of `w` logged: the entry at the count's place, its event, and nothing outside the fault unit but
what leaves the Frexia. -/
def DeniedEntry (w : Who) (addr : Nat) (write : Bool) (s t : State) : Prop :=
  let i := s.part.get F.FLT_ACC_HEAD_COUNT % 32 * 8
  t.part.get F.FLT_ACC_HEAD_COUNT = (s.part.get F.FLT_ACC_HEAD_COUNT + 1) % 2 ^ 32 ∧
  t.part.reg (R.FLT_ACC_LOG i) = BitVec.ofNat 32 (w.plot.val + 16 * w.kind.code + 256 * write.toNat + 512) ∧
  t.part.reg (R.FLT_ACC_LOG (i + 1)) = BitVec.ofNat 32 addr ∧
  t.part.reg (R.FLT_ACC_LOG (i + 2)) = BitVec.ofNat 32 (addr / 2 ^ 32 % 2 ^ 16) ∧
  (t.part.get F.FLT_EVENTS_EVT).testBit 0 = true ∧
  (∀ r, r / 0x100000 ≠ 18 → t.part.reg r = s.part.reg r) ∧
  t = { s with part := { s.part with regs := t.part.regs, out := t.part.out } }

/-- The entry of a denied access, and whatever leaves the Frexia with it. -/
theorem deniedEntry_of_accLog {w : Who} {addr : Nat} {write : Bool} {s : State} {q : Part} (hf : s.part.fenced w.plot.val = false)
    (hregs : q.regs = (s.part.accLog s.ns w write 1 addr).regs) (hframe : s.part.FaultUnitOnly q) :
    DeniedEntry w addr write s { s with part := q } := by
  have hreg : ∀ a, q.reg a = (s.part.accLog s.ns w write 1 addr).reg a := fun a => by rw [Part.reg, Part.reg, hregs]
  have hget : ∀ f, q.get f = (s.part.accLog s.ns w write 1 addr).get f := fun f => by rw [Part.get, Part.get, hreg]
  have hword := fun k (hk : k < 8) => (hreg _).trans (s.part.accLog_word s.ns write 1 addr hf (k := k) hk)
  refine ⟨?head, ?info, hword 1 (by decide), hword 2 (by decide), ?event, hframe.2, by rw [← hframe.1]⟩
  case head => exact (hget _).trans (s.part.accLog_head s.ns write 1 addr hf)
  case info => cases write <;> exact hword 0 (by decide)
  case event => exact (congrArg (·.testBit 0) (hget _)).trans (s.part.accLog_event s.ns write 1 addr hf)

/-- Settles O15: the access meets nothing in the plot's map, so it is denied, and what a denial leaves is what the access log's
entry leaves; a read adds its answer. -/
theorem outsideAccessRefused : Obligations.OutsideAccessRefused := by
  intro w ctx addr bytes v s ⟨hin, hstep⟩ hctx hbytes hk hp hissues hf hpage
  have hp' : w.plot.val ≠ 0 := fun h => hp (Fin.ext h)
  refine ⟨fun hmem => ?write, fun hmem => ?read⟩
  case write =>
    have he := next_registerWrite w ctx addr bytes v s hin (by simpa [Instr.wf, hissues, hbytes] using hctx)
    simp only [Part.registerWrite, Part.hit_outside _ hk hp' hpage hmem, Part.denied_write _ _ _ hp'] at he
    have hlog := Part.FaultUnitOnly.accLog s.part s.ns true 1 addr hf
    exact completes_of_still he ((congrArg SdlUnit.step hlog.sdl).trans hstep) (deniedEntry_of_accLog hf rfl hlog)
  case read =>
    have he := next_registerRead w addr bytes s hin (by simp [Instr.wf, hissues, hbytes])
    simp only [Part.registerRead, Part.hit_outside _ hk hp' hpage hmem, Part.denied_read _ _ _ hp'] at he
    have hlog := (Part.FaultUnitOnly.accLog s.part s.ns false 1 addr hf).trans (.emit _ (.accessFault w))
    exact completes_of_still he ((congrArg SdlUnit.step hlog.sdl).trans hstep)
      ⟨deniedEntry_of_accLog hf rfl hlog, List.mem_cons_self⟩

end Sys2Proof.Machine
end

section
/-! SUPPORT. What the host's write of a ring's control register does (R40, R498, R499). -/

namespace Sys2Proof

/-- The whole word, as a number. -/
@[simp] theorem Word.bits_full (v : Word) : v.bits 31 0 = v.toNat := by
  have := v.isLt
  simp only [Word.bits]
  omega

/-- A field of the whole word holds what was written. -/
@[simp] theorem Word.withBits_full (v : Word) (n : Nat) : v.withBits 31 0 n = BitVec.ofNat 32 n := by
  apply BitVec.eq_of_toNat_eq
  rw [← Word.bits_full (v.withBits 31 0 n), Word.withBits_bits_self v n (by decide), BitVec.toNat_ofNat]

/-- `k` bytes of a number are `k` bytes. -/
@[simp] theorem toLe_length (k n : Nat) : (toLe k n).length = k := by
  induction k generalizing n with
  | zero => rfl
  | succ k ih => rw [toLe, List.length_cons, ih]

end Sys2Proof

namespace Sys2Proof.Machine

open Sys2Proof.Claim

theorem Part.on_iff (p : Part) (f : Fld) : p.on f = true ↔ p.get f = 1 := by
  simp [Part.on]

theorem Part.on_eq_false (p : Part) {f : Fld} (h : p.get f ≠ 1) : p.on f = false := by
  simp [Part.on, h]

/-- A field of one bit that is not 1 is 0. -/
theorem Part.get_bit_eq_zero (p : Part) (a i : Nat) (h : p.get ⟨a, i, i⟩ ≠ 1) : p.get ⟨a, i, i⟩ = 0 := by
  have := p.get_lt ⟨a, i, i⟩
  rw [show i + 1 - i = 1 by omega] at this
  omega

/-- A field of one bit just written holds the lowest bit of what was written. -/
theorem Part.get_put_bit (p : Part) (a i n : Nat) (hi : i < 32) : (p.put ⟨a, i, i⟩ n).get ⟨a, i, i⟩ = n % 2 := by
  rw [Part.get_put_self p _ n hi, show i + 1 - i = 1 by omega, Nat.pow_one]

/-- A part that differs from a state's in some registers alone. -/
theorem regsOnly_of_regs {l : List Nat} {s : State} {q : Part} (hq : q = { s.part with regs := q.regs })
    (hreg : ∀ a, a ∉ l → q.reg a = s.part.reg a) : RegsOnly l s { s with part := q } :=
  ⟨hreg, by rw [← hq]⟩

/-- As `regsOnly_of_regs`, where something leaves the Frexia too. -/
theorem regsOnly_emit {l : List Nat} {s : State} {q : Part} (o : Out) (hq : q = { s.part with regs := q.regs })
    (hreg : ∀ a, a ∉ l → q.reg a = s.part.reg a) :
    RegsOnly l { s with part := { s.part with out := (q.emit o).out } } { s with part := q.emit o } := by
  refine ⟨hreg, ?_⟩
  generalize q.regs = regs at hq
  subst hq
  rfl

/-! The orders of a ring. -/

/-- While READY is 0 a write of HR_CTRL is discarded (R40). -/
theorem Part.ringControl_shut (p : Part) (ring : Nat) (en irq : Bool) (h : ¬ p.on (F.HR_STAT_READY ring) = true) :
    p.ringControl ring en irq = p := if_neg h

/-- EN written 0 stops the ring (R498). -/
theorem Part.ringControl_stop (p : Part) (ring : Nat) (irq : Bool) (h : p.on (F.HR_STAT_READY ring) = true) :
    p.ringControl ring false irq = (p.put (F.HR_CTRL_IRQ_EN ring) irq.toNat).clr (F.HR_CTRL_EN ring) := by
  cases irq <;> simp [Part.ringControl, h]

/-- An enable with SIZE or BASE out of range is refused (R498). -/
theorem Part.ringControl_refused (p : Part) (ring : Nat) (irq : Bool) (h : p.on (F.HR_STAT_READY ring) = true)
    (hoff : p.on (F.HR_CTRL_EN ring) = false)
    (hbad : p.get (F.HR_SIZE_LOG2 ring) < 4 ∨ 16 < p.get (F.HR_SIZE_LOG2 ring) ∨ p.get (F.HR_BASE_LO_ADDR ring) % 4096 ≠ 0) :
    p.ringControl ring true irq = (p.put (F.HR_CTRL_IRQ_EN ring) irq.toNat).set (F.HR_STAT_CFG_ERR ring) := by
  cases irq <;> simp only [Part.ringControl, h, hoff, hbad, if_true] <;> rfl

/-- An enable that is accepted restarts the ring (R498). -/
theorem Part.ringControl_start (p : Part) (ring : Nat) (irq : Bool) (h : p.on (F.HR_STAT_READY ring) = true)
    (hoff : p.on (F.HR_CTRL_EN ring) = false)
    (hgood : ¬ (p.get (F.HR_SIZE_LOG2 ring) < 4 ∨ 16 < p.get (F.HR_SIZE_LOG2 ring) ∨ p.get (F.HR_BASE_LO_ADDR ring) % 4096 ≠ 0)) :
    p.ringControl ring true irq = ((p.put (F.HR_CTRL_IRQ_EN ring) irq.toNat).set (F.HR_CTRL_EN ring)).ringRestart ring := by
  cases irq <;> simp only [Part.ringControl, h, hoff, hgood, if_true, if_false] <;> rfl

/-- While READY or EN is 0 a write of HR_CONS is ignored (R40, R499). -/
theorem Part.consWrite_shut (p : Part) (ring v : Nat)
    (h : ¬ (p.on (F.HR_STAT_READY ring) && p.on (F.HR_CTRL_EN ring)) = true) : p.consWrite ring v = p := if_neg h

/-- A write of HR_CONS of a running ring: taken where the crates between it and PROD fit the ring, an error where not (R499). -/
theorem Part.consWrite_running (p : Part) (ring : Nat) (v : Word)
    (h : (p.on (F.HR_STAT_READY ring) && p.on (F.HR_CTRL_EN ring)) = true) :
    p.consWrite ring v.toNat =
      if (p.reg (R.HR_PROD ring) - v).toNat ≤ 2 ^ p.get (F.HR_SIZE_LOG2 ring) then p.put (F.HR_CONS_INDEX ring) v.toNat
      else p.set (F.HR_STAT_CONS_ERR ring) := by
  have hprod : p.get (F.HR_PROD_INDEX ring) = (p.reg (R.HR_PROD ring)).toNat := Word.bits_full _
  have hv := v.isLt
  have hdist : (p.get (F.HR_PROD_INDEX ring) + 2 ^ 32 - v.toNat % 2 ^ 32) % 2 ^ 32 = (p.reg (R.HR_PROD ring) - v).toNat := by
    rw [hprod, BitVec.toNat_sub]
    omega
  rw [Part.consWrite, if_pos h, hdist]

/-! The registers of a ring. -/

/-- HR_CTRL of a ring is the ring's own copy of its row. -/
theorem regAt_hrCtrl {ring : Nat} (h : ring < 9) : ∃ l, regAt (R.HR_CTRL ring) = some (⟨0x10000, 9, 0x1000, 1, 0, l⟩, ring, 0) := by
  match ring, h with
  | 0, _ | 1, _ | 2, _ | 3, _ | 4, _ | 5, _ | 6, _ | 7, _ | 8, _ => exact ⟨_, rfl⟩

theorem regAt_hrCons {ring : Nat} (h : ring < 9) : ∃ l, regAt (R.HR_CONS ring) = some (⟨0x10018, 9, 0x1000, 1, 0, l⟩, ring, 0) := by
  match ring, h with
  | 0, _ | 1, _ | 2, _ | 3, _ | 4, _ | 5, _ | 6, _ | 7, _ | 8, _ => exact ⟨_, rfl⟩

/-- A write of a ring's control register is discarded while READY is 0 (R40), and else is the ring's own. -/
theorem Part.regStore_ring (p : Part) (t : Nat) (w : Who) (ctx : Nat) {ring a : Nat} (v : Word) {r : RegRow} {j : Nat} (h : ring < 9)
    (hl : 0x710000 + ring * 0x1000 ≤ a) (hu : a < 0x710000 + ring * 0x1000 + 0x1000) (hr : regAt a = some (r, ring, j)) :
    p.regStore t w ctx a v =
      if p.on (F.HR_STAT_READY ring) then (p.writeOut t (0x700000 + r.off) ring v).getD (p.writeFields a v r.fields) else p := by
  have hblk : a / 0x100000 = 7 := by omega
  have hring : (a - 0x710000) / 0x1000 = ring := by omega
  have hin : isHostRing a = true := by simp only [isHostRing, Bool.and_eq_true, decide_eq_true_eq]; omega
  have hgated : p.gatedReg a = false := by simp [Part.gatedReg, hblk, blkBED]
  have hshut : p.ringShut a = !p.on (F.HR_STAT_READY ring) := by rw [Part.ringShut, hin, hring, Bool.true_and]
  unfold Part.regStore
  rw [hr]
  simp only [hgated, hshut, hblk, rowKey]
  cases p.on (F.HR_STAT_READY ring) <;> rfl

/-- A write of the control register orders what HR_CTRL orders (R498). -/
theorem Part.writeOut_hrCtrl (p : Part) (t i : Nat) (v : Word) :
    p.writeOut t (R.HR_CTRL 0) i v = some (p.ringControl i (v.bits 0 0 == 1) (v.bits 1 1 == 1)) := by
  simp [Part.writeOut, R.HVS_P_WAIT, R.HVS_P_REPLAY_CTRL, R.HR_CTRL]

/-- A write of the consumer index is checked against the ring (R499). -/
theorem Part.writeOut_hrCons (p : Part) (t i : Nat) (v : Word) :
    p.writeOut t (R.HR_CONS 0) i v = some (p.consWrite i v.toNat) := by
  simp [Part.writeOut, R.HVS_P_WAIT, R.HVS_P_REPLAY_CTRL, R.HR_CTRL, R.HR_BASE_LO, R.HR_BASE_HI, R.HR_SIZE, R.HR_CONS]

/-- The host's write of HR_CTRL, at its BAR0 offset. -/
theorem Part.writeOf_hrCtrl (p : Part) (t : Nat) {ring : Nat} (v : Word) (h : ring < 9) :
    p.writeOf t hostWho (R.HR_CTRL ring) v = p.ringControl ring (v.bits 0 0 == 1) (v.bits 1 1 == 1) := by
  obtain ⟨l, hrow⟩ := regAt_hrCtrl h
  have hcopy : copyOf (R.HR_CTRL ring) = R.HR_CTRL ring := if_neg (by unfold R.HR_CTRL; omega)
  have himp : implemented (R.HR_CTRL ring) = true := by rw [implemented, hcopy, hrow]; rfl
  rw [p.writeOf_ring t v (by unfold R.HR_CTRL; omega) (by unfold R.HR_CTRL; omega) (by unfold R.HR_CTRL; omega) himp hcopy,
    p.regStore_ring t hostWho 0 v h (by unfold R.HR_CTRL; omega) (by unfold R.HR_CTRL; omega) hrow]
  rw [show 0x700000 + 0x10000 = R.HR_CTRL 0 from rfl, Part.writeOut_hrCtrl, Option.getD_some]
  split
  · rfl
  · next hshut => exact (p.ringControl_shut ring _ _ hshut).symm

/-- The host's write of HR_CONS, at its BAR0 offset. -/
theorem Part.writeOf_hrCons (p : Part) (t : Nat) {ring : Nat} (v : Word) (h : ring < 9) :
    p.writeOf t hostWho (R.HR_CONS ring) v = p.consWrite ring v.toNat := by
  obtain ⟨l, hrow⟩ := regAt_hrCons h
  have hcopy : copyOf (R.HR_CONS ring) = R.HR_CONS ring := if_neg (by unfold R.HR_CONS; omega)
  have himp : implemented (R.HR_CONS ring) = true := by rw [implemented, hcopy, hrow]; rfl
  rw [p.writeOf_ring t v (by unfold R.HR_CONS; omega) (by unfold R.HR_CONS; omega) (by unfold R.HR_CONS; omega) himp hcopy,
    p.regStore_ring t hostWho 0 v h (by unfold R.HR_CONS; omega) (by unfold R.HR_CONS; omega) hrow]
  rw [show 0x700000 + 0x10018 = R.HR_CONS 0 from rfl, Part.writeOut_hrCons, Option.getD_some]
  split
  · rfl
  · next hshut => exact (p.consWrite_shut ring _ (by simp [hshut])).symm

/-! What the host's two commands leave. -/

/-- The host's write of HR_CTRL leaves what the ring's own order leaves. -/
theorem completes_hrCtrlEn {ring : Nat} {en irq : Bool} {s : State} {q : Part} {Q : State → Prop} (hs : Ready s) (h : ring < 9)
    (hlink : s.part.get F.PEP_LINK_UP = 1) (hctl : s.part.ringControl ring en irq = q) (hsdl : q.sdl = s.part.sdl)
    (hq : Q { s with part := q }) : Completes (.hrCtrlEn ring en irq) s Q := by
  have he := next_hrCtrlEn ring en irq s hs.1 (by simp [Instr.wf, h, Part.hostUp, Part.on, hlink])
  have hen : (Word.bits (BitVec.ofNat 32 (en.toNat + 2 * irq.toNat)) 0 0 == 1) = en := by cases en <;> cases irq <;> rfl
  have hirq : (Word.bits (BitVec.ofNat 32 (en.toNat + 2 * irq.toNat)) 1 1 == 1) = irq := by cases en <;> cases irq <;> rfl
  rw [Part.writeOf_hrCtrl _ _ _ h, hen, hirq, hctl] at he
  exact completes_of_still he ((congrArg SdlUnit.step hsdl).trans hs.2) hq

/-- The host's write of HR_CONS leaves what the ring's own check leaves. -/
theorem completes_hrConsWrite {ring : Nat} {v : Word} {s : State} {q : Part} {Q : State → Prop} (hs : Ready s) (h : ring < 9)
    (hlink : s.part.get F.PEP_LINK_UP = 1) (hctl : s.part.consWrite ring v.toNat = q) (hsdl : q.sdl = s.part.sdl)
    (hq : Q { s with part := q }) : Completes (.hrConsWrite ring v) s Q := by
  have he := next_hrConsWrite ring v s hs.1 (by simp [Instr.wf, h, Part.hostUp, Part.on, hlink])
  rw [Part.writeOf_hrCons _ _ _ h, hctl] at he
  exact completes_of_still he ((congrArg SdlUnit.step hsdl).trans hs.2) hq

/-- A stopped ring has EN 0, and IRQ_EN as written. -/
theorem ringStopped (ring : Nat) (irq : Bool) (s : State) (p : Part)
    (hp : p = (s.part.put (F.HR_CTRL_IRQ_EN ring) irq.toNat).clr (F.HR_CTRL_EN ring)) :
    p.get (F.HR_CTRL_EN ring) = 0 ∧ p.get (F.HR_CTRL_IRQ_EN ring) = irq.toNat ∧
      RegsOnly [R.HR_CTRL ring] s { s with part := p } := by
  subst hp
  refine ⟨Part.get_put_bit _ _ 0 0 (by decide), ?irq, regsOnly_of_regs rfl fun a ha => ?frame⟩
  case irq =>
    refine (Part.get_put_disjoint _ _ _ _ (.inr Nat.zero_lt_one)).trans ((Part.get_put_bit _ _ 1 _ (by decide)).trans ?_)
    cases irq <;> rfl
  case frame =>
    have hctrl : a ≠ R.HR_CTRL ring := List.ne_of_not_mem_cons ha
    exact (Part.reg_put_other _ _ _ hctrl).trans (Part.reg_put_other _ _ _ hctrl)

/-- A refused enable leaves EN 0, sets CFG_ERR and keeps READY. -/
theorem ringRefused (ring : Nat) (irq : Bool) (s : State) (p : Part) (hready : s.part.get (F.HR_STAT_READY ring) = 1)
    (hoff : s.part.get (F.HR_CTRL_EN ring) ≠ 1)
    (hp : p = (s.part.put (F.HR_CTRL_IRQ_EN ring) irq.toNat).set (F.HR_STAT_CFG_ERR ring)) :
    p.get (F.HR_CTRL_EN ring) = 0 ∧ p.get (F.HR_STAT_CFG_ERR ring) = 1 ∧ p.get (F.HR_STAT_READY ring) = 1 ∧
      RegsOnly [R.HR_CTRL ring, R.HR_STAT ring] s { s with part := p } := by
  subst hp
  have hne : R.HR_CTRL ring ≠ R.HR_STAT ring := by unfold R.HR_CTRL R.HR_STAT; omega
  refine ⟨?en, Part.get_put_bit _ _ 2 1 (by decide), ?ready, regsOnly_of_regs rfl fun a ha => ?frame⟩
  case en =>
    calc _ = (s.part.put (F.HR_CTRL_IRQ_EN ring) irq.toNat).get (F.HR_CTRL_EN ring) :=
          Part.get_put_reg _ (F.HR_STAT_CFG_ERR ring) _ 1 hne
      _ = s.part.get (F.HR_CTRL_EN ring) := Part.get_put_disjoint _ _ _ _ (.inl Nat.zero_lt_one)
      _ = 0 := s.part.get_bit_eq_zero _ 0 hoff
  case ready =>
    calc _ = (s.part.put (F.HR_CTRL_IRQ_EN ring) irq.toNat).get (F.HR_STAT_READY ring) :=
          Part.get_put_disjoint _ (F.HR_STAT_CFG_ERR ring) _ 1 (.inl Nat.zero_lt_two)
      _ = s.part.get (F.HR_STAT_READY ring) := Part.get_put_reg _ _ _ _ hne.symm
      _ = 1 := hready
  case frame =>
    simp only [List.mem_cons, List.not_mem_nil, or_false, not_or] at ha
    exact (Part.reg_put_other _ _ _ ha.2).trans (Part.reg_put_other _ _ _ ha.1)

/-- The part of a ring that an accepted enable restarts, before its status line leaves. -/
def Part.ringStarted (p : Part) (ring : Nat) (irq : Bool) : Part :=
  (((p.put (F.HR_CTRL_IRQ_EN ring) irq.toNat).set (F.HR_CTRL_EN ring)).put (F.HR_PROD_INDEX ring) 0).put (F.HR_CONS_INDEX ring) 0

/-- An accepted enable changes registers alone. -/
theorem Part.ringStarted_rest (p : Part) (ring : Nat) (irq : Bool) :
    p.ringStarted ring irq = { p with regs := (p.ringStarted ring irq).regs } := rfl

/-- An accepted enable changes no register but HR_CTRL, HR_PROD and HR_CONS. -/
theorem Part.ringStarted_reg (p : Part) (ring : Nat) (irq : Bool) {a : Nat}
    (ha : a ∉ [R.HR_CTRL ring, R.HR_PROD ring, R.HR_CONS ring]) : (p.ringStarted ring irq).reg a = p.reg a := by
  simp only [List.mem_cons, List.not_mem_nil, or_false, not_or] at ha
  obtain ⟨hctrl, hprod, hcons⟩ := ha
  calc _ = _ := Part.reg_put_other _ _ _ hcons
    _ = _ := Part.reg_put_other _ _ _ hprod
    _ = _ := Part.reg_put_other _ _ _ hctrl
    _ = _ := Part.reg_put_other _ _ _ hctrl

/-- An accepted enable sets EN, and PROD and CONS are 0. -/
theorem Part.ringStarted_fields (p : Part) (ring : Nat) (irq : Bool) :
    (p.ringStarted ring irq).get (F.HR_CTRL_EN ring) = 1 ∧ (p.ringStarted ring irq).get (F.HR_PROD_INDEX ring) = 0 ∧
      (p.ringStarted ring irq).get (F.HR_CONS_INDEX ring) = 0 := by
  have hprod : R.HR_CTRL ring ≠ R.HR_PROD ring := by unfold R.HR_CTRL R.HR_PROD; omega
  have hcons : R.HR_CTRL ring ≠ R.HR_CONS ring := by unfold R.HR_CTRL R.HR_CONS; omega
  have hpc : R.HR_PROD ring ≠ R.HR_CONS ring := by unfold R.HR_PROD R.HR_CONS; omega
  refine ⟨?_, ?_, Part.get_put_self _ _ 0 (show 31 < 32 by decide)⟩
  · exact (Part.get_put_reg _ _ _ _ hcons).trans
      ((Part.get_put_reg _ _ _ _ hprod).trans (Part.get_put_bit _ _ 0 1 (by decide)))
  · exact (Part.get_put_reg _ _ _ _ hpc).trans (Part.get_put_self _ _ 0 (show 31 < 32 by decide))

/-- The bytes of a ring's status line (R498). -/
def Part.statusBytes (p : Part) (ring : Nat) : List Byte :=
  toLe 4 (p.get (F.HR_PROD_INDEX ring)) ++ toLe 4 (p.get (F.HR_LOST_COUNT ring)) ++ toLe 4 p.boot.bootSeq ++ List.replicate 52 0

/-- The status line stands behind the ring's slots. -/
theorem Part.statusLine_eq (p : Part) (ring : Nat) :
    p.statusLine ring = p.emit (.hostWrite
      (p.get64 (F.HR_BASE_LO_ADDR ring) (F.HR_BASE_HI_ADDR ring) + 2 ^ p.get (F.HR_SIZE_LOG2 ring) * 4096) (p.statusBytes ring)) := rfl

theorem Part.statusBytes_length (p : Part) (ring : Nat) : (p.statusBytes ring).length = 64 := by
  simp [Part.statusBytes]

/-- The line begins with PROD. -/
theorem Part.statusBytes_take (p : Part) (ring : Nat) : (p.statusBytes ring).take 4 = toLe 4 (p.get (F.HR_PROD_INDEX ring)) := by
  simp [Part.statusBytes, List.append_assoc]

/-- The ring's place and size are not among what an accepted enable changes. -/
theorem Part.ringStarted_place (p : Part) (ring : Nat) (irq : Bool) :
    (p.ringStarted ring irq).get64 (F.HR_BASE_LO_ADDR ring) (F.HR_BASE_HI_ADDR ring) =
        p.get64 (F.HR_BASE_LO_ADDR ring) (F.HR_BASE_HI_ADDR ring) ∧
      (p.ringStarted ring irq).get (F.HR_SIZE_LOG2 ring) = p.get (F.HR_SIZE_LOG2 ring) := by
  have hkept : ∀ f : Fld, f.reg ∉ [R.HR_CTRL ring, R.HR_PROD ring, R.HR_CONS ring] → (p.ringStarted ring irq).get f = p.get f :=
    fun f hf => by rw [Part.get, Part.get, p.ringStarted_reg ring irq hf]
  have hlo := hkept (F.HR_BASE_LO_ADDR ring) (by simp [F.HR_BASE_LO_ADDR, R.HR_BASE_LO, R.HR_CTRL, R.HR_PROD, R.HR_CONS])
  have hhi := hkept (F.HR_BASE_HI_ADDR ring) (by simp [F.HR_BASE_HI_ADDR, R.HR_BASE_HI, R.HR_CTRL, R.HR_PROD, R.HR_CONS])
  exact ⟨by rw [Part.get64, Part.get64, hlo, hhi],
    hkept (F.HR_SIZE_LOG2 ring) (by simp [F.HR_SIZE_LOG2, R.HR_SIZE, R.HR_CTRL, R.HR_PROD, R.HR_CONS])⟩

/-- BASE is a multiple of 4 096 where its low word is. -/
theorem Part.get64_mod_4096 (p : Part) (lo hi : Fld) : p.get64 lo hi % 4096 = p.get lo % 4096 := by
  unfold Part.get64; omega

/-- Settles O48, clause by clause: the branches of the ring's own orders, and what each leaves. -/
theorem hostRingControl : Obligations.HostRingControl := by
  intro ring s hs h hlink
  extract_lets ready on size base
  have hReady : ready → s.part.on (F.HR_STAT_READY ring) = true := (s.part.on_iff _).2
  have hRun : ready → on → (s.part.on (F.HR_STAT_READY ring) && s.part.on (F.HR_CTRL_EN ring)) = true := fun hr ho => by
    rw [hReady hr, (s.part.on_iff _).2 ho, Bool.and_true]
  have hLo : base % 4096 = s.part.get (F.HR_BASE_LO_ADDR ring) % 4096 := Part.get64_mod_4096 _ _ _
  refine ⟨fun en irq hr => ?shut, fun irq hr => ?stop, fun irq hr ho hbad => ?refused, fun irq hr ho hmin hmax hbase => ?start,
    fun v hr => ?ignored, fun v hr ho hfit => ?taken, fun v hr ho hover => ?consErr⟩
  case shut =>
    have hctl := s.part.ringControl_shut ring en irq (fun hon => hr ((s.part.on_iff _).1 hon))
    exact completes_hrCtrlEn hs h hlink hctl rfl rfl
  case stop =>
    exact completes_hrCtrlEn hs h hlink (s.part.ringControl_stop ring irq (hReady hr)) rfl (ringStopped ring irq s _ rfl)
  case refused =>
    rw [hLo] at hbad
    exact completes_hrCtrlEn hs h hlink (s.part.ringControl_refused ring irq (hReady hr) (s.part.on_eq_false ho) hbad) rfl
      (ringRefused ring irq s _ hr ho rfl)
  case start =>
    have hgood : ¬ (size < 4 ∨ 16 < size ∨ s.part.get (F.HR_BASE_LO_ADDR ring) % 4096 ≠ 0) := by omega
    have hctl : s.part.ringControl ring true irq = (s.part.ringStarted ring irq).statusLine ring :=
      s.part.ringControl_start ring irq (hReady hr) (s.part.on_eq_false ho) hgood
    obtain ⟨hen, hprod, hcons⟩ := s.part.ringStarted_fields ring irq
    obtain ⟨hbase', hsize⟩ := s.part.ringStarted_place ring irq
    have hline : ((s.part.ringStarted ring irq).statusBytes ring).take 4 = [0, 0, 0, 0] := by
      rw [Part.statusBytes_take, hprod]; rfl
    rw [Part.statusLine_eq, hbase', hsize] at hctl
    refine completes_hrCtrlEn hs h hlink hctl rfl ⟨?_, ?_, ?_, ⟨_, Part.statusBytes_length _ ring, hline, rfl⟩,
      regsOnly_emit _ (s.part.ringStarted_rest ring irq) fun a ha => s.part.ringStarted_reg ring irq ha⟩
    · rw [Part.emit_get, hen]
    · rw [Part.emit_get, hprod]
    · rw [Part.emit_get, hcons]
  case ignored =>
    have hctl := s.part.consWrite_shut ring v.toNat (fun hon => by
      rw [Bool.and_eq_true, s.part.on_iff, s.part.on_iff] at hon
      exact hr.elim (· hon.1) (· hon.2))
    exact completes_hrConsWrite hs h hlink hctl rfl rfl
  case taken =>
    have hctl := s.part.consWrite_running ring v (hRun hr ho)
    rw [if_pos hfit] at hctl
    refine completes_hrConsWrite hs h hlink hctl rfl ⟨?_, regsOnly_of_regs rfl fun a ha => ?_⟩
    · exact (Part.reg_setReg_self _ _ _).trans ((Word.withBits_full _ _).trans ((BitVec.ofNat_toNat 32 v).trans (BitVec.setWidth_eq v)))
    · exact Part.reg_put_other _ _ _ (List.ne_of_not_mem_cons ha)
  case consErr =>
    have hctl := s.part.consWrite_running ring v (hRun hr ho)
    rw [if_neg (Nat.not_le.2 hover)] at hctl
    exact completes_hrConsWrite hs h hlink hctl rfl ⟨Part.get_put_bit _ _ 1 1 (by decide),
      regsOnly_of_regs rfl fun a ha => Part.reg_put_other _ _ _ (List.ne_of_not_mem_cons ha)⟩

end Sys2Proof.Machine
end

section
/-! SUPPORT. Accesses of BAR0 (R33, R34): which registers the host reaches, and which a read or a write of one DW can change. -/

namespace Sys2Proof.Machine

open Sys2Proof.Claim

/-- No register of `q` outside block `b` differs from `p`'s. -/
def Part.BlockOnly (b : Nat) (p q : Part) : Prop := ∀ a, a / 0x100000 ≠ b → q.reg a = p.reg a

theorem Part.BlockOnly.refl {b : Nat} (p : Part) : p.BlockOnly b p := fun _ _ => rfl

theorem Part.BlockOnly.trans {b : Nat} {p q r : Part} (h : p.BlockOnly b q) (k : q.BlockOnly b r) : p.BlockOnly b r :=
  fun a ha => (k a ha).trans (h a ha)

theorem Part.BlockOnly.of_regs {b : Nat} {p q : Part} (h : q.regs = p.regs) : p.BlockOnly b q :=
  fun a _ => by rw [Part.reg, Part.reg, h]

theorem Part.BlockOnly.put {b : Nat} (p : Part) (f : Fld) (n : Nat) (hf : f.reg / 0x100000 = b) : p.BlockOnly b (p.put f n) :=
  fun _ ha => Part.reg_put_other p f n (fun e => ha (e ▸ hf))

/-- A fold of updates that each stay in the block does so as well. -/
theorem Part.BlockOnly.foldl {α : Type} {b : Nat} (p : Part) (l : List α) (f : Part → α → Part)
    (h : ∀ q x, Part.BlockOnly b q (f q x)) : p.BlockOnly b (l.foldl f p) := by
  induction l generalizing p with
  | nil => exact .refl p
  | cons x r ih => exact (h p x).trans (ih _)

/-! The register table. -/

theorem RegRow.find_some {r : RegRow} {o i j : Nat} (h : r.find o = some (i, j)) : r.off ≤ o ∧ i < r.cnt := by
  unfold RegRow.find at h
  split at h
  · cases h
  · next hoff =>
    extract_lets d x y e z at h
    split at h
    · next hfit =>
      obtain ⟨rfl, -⟩ := Prod.mk.inj (Option.some.inj h)
      exact ⟨Nat.le_of_not_lt hoff, hfit.1⟩
    · cases h

theorem findRow_some {l : List RegRow} {o i j : Nat} {r : RegRow} (h : findRow l o = some (r, i, j)) :
    r ∈ l ∧ r.off ≤ o ∧ i < r.cnt := by
  induction l with
  | nil => cases h
  | cons x xs ih =>
    rw [findRow] at h
    split at h
    · next hfind =>
      cases h
      exact ⟨List.mem_cons_self, RegRow.find_some hfind⟩
    · obtain ⟨hmem, hrest⟩ := ih h
      exact ⟨List.mem_cons_of_mem _ hmem, hrest⟩

/-- The row of a register lies in the register's block. -/
theorem rowKey_block {a i j : Nat} {r : RegRow} (h : regAt a = some (r, i, j)) : rowKey a r / 0x100000 = a / 0x100000 := by
  obtain ⟨-, hoff, -⟩ := findRow_some h
  unfold rowKey
  omega

/-- No register of Harvest repeats more than nine times: once for each plot, or each ring. -/
theorem regsHVS_cnt : ∀ r ∈ regsHVS, r.cnt ≤ 9 := by decide

theorem hvs_index_lt {a i j : Nat} {r : RegRow} (hb : a / 0x100000 = 7) (h : regAt a = some (r, i, j)) : i < 9 := by
  rw [regAt, hb] at h
  obtain ⟨hmem, -, hi⟩ := findRow_some h
  exact Nat.lt_of_lt_of_le hi (regsHVS_cnt r hmem)

/-- A ring's registers lie in the block of Harvest. -/
theorem ring_block {base ring : Nat} (hl : 0x710000 ≤ base) (hu : base < 0x711000) (h : ring < 9) :
    (base + ring * 0x1000) / 0x100000 = 7 := by omega

/-- The registers of a plot's Harvest page lie in the block of Harvest. -/
theorem page_block {base plot : Nat} (hl : 0x700000 ≤ base) (hu : base < 0x700100) (h : plot < 10) :
    (base + plot * 0x100) / 0x100000 = 7 := by omega

/-! Writes. -/

theorem Part.BlockOnly.writeFields (p : Part) (a : Nat) (v : Word) (l : List FieldSpec) :
    p.BlockOnly (a / 0x100000) (p.writeFields a v l) := by
  refine .foldl p l _ fun q f => ?_
  unfold Part.writeField
  extract_lets n old
  split
  case h_1 | h_2 | h_3 => exact .put q _ _ rfl
  all_goals exact .refl q

/-- A command in the mailbox changes the mailbox alone. -/
theorem Part.BlockOnly.mbxWrite (p : Part) (op tag : Nat) : p.BlockOnly 0 (p.mbxWrite op tag []) := by
  unfold Part.mbxWrite
  split
  · exact .put p _ _ rfl
  · have hcmd := (Part.BlockOnly.put p F.SHD_MBX_CMD_OP op rfl).trans (.put _ F.SHD_MBX_CMD_TAG tag rfl)
    exact hcmd.trans (.put _ F.SHD_MBX_STATUS_BUSY 1 rfl)

theorem Part.BlockOnly.ringControl (p : Part) {ring : Nat} (en irq : Bool) (h : ring < 9) :
    p.BlockOnly 7 (p.ringControl ring en irq) := by
  have hctrl : R.HR_CTRL ring / 0x100000 = 7 := ring_block (by decide) (by decide) h
  have hstat : R.HR_STAT ring / 0x100000 = 7 := ring_block (by decide) (by decide) h
  have hprod : R.HR_PROD ring / 0x100000 = 7 := ring_block (by decide) (by decide) h
  have hcons : R.HR_CONS ring / 0x100000 = 7 := ring_block (by decide) (by decide) h
  unfold Part.ringControl
  split
  · extract_lets q n
    have hq : p.BlockOnly 7 q := .put p _ _ hctrl
    split
    · exact hq.trans (.put q _ _ hctrl)
    · split
      · exact hq
      · split
        · exact hq.trans (.put q _ _ hstat)
        · have hen := hq.trans (.put q (F.HR_CTRL_EN ring) 1 hctrl)
          have hzero := (hen.trans (.put _ (F.HR_PROD_INDEX ring) 0 hprod)).trans (.put _ (F.HR_CONS_INDEX ring) 0 hcons)
          exact hzero.trans (.of_regs rfl)
  · exact .refl p

theorem Part.BlockOnly.consWrite (p : Part) {ring : Nat} (v : Nat) (h : ring < 9) : p.BlockOnly 7 (p.consWrite ring v) := by
  unfold Part.consWrite
  split
  · split
    · exact .put p _ _ (ring_block (by decide) (by decide) h)
    · exact .put p _ _ (ring_block (by decide) (by decide) h)
  · exact .refl p

theorem Part.BlockOnly.waitWrite (p : Part) {plot : Nat} (us : Nat) (h : plot < 10) : p.BlockOnly 7 (p.waitWrite plot us) := by
  unfold Part.waitWrite
  generalize (if plot = 0 then 1000000 else 100000) = most
  split
  · exact .put p _ _ (page_block (by decide) (by decide) h)
  · exact .refl p

/-- An NVMe command that is issued changes no register. -/
theorem Part.nvIssue_regs (p : Part) (t : Nat) (c : NvmeCmd) (data : List Byte) : (p.nvIssue t c data).regs = p.regs := by
  unfold Part.nvIssue
  split <;> rfl

/-- The order's registers lie in the block of Harvest. -/
theorem replayRegs_block {plot : Nat} (udp : Bool) (h : plot < 9) :
    (replayRegs plot udp).busy.reg / 0x100000 = 7 ∧ (replayRegs plot udp).gap.reg / 0x100000 = 7 := by
  cases udp
  · exact ⟨ring_block (by decide) (by decide) h, ring_block (by decide) (by decide) h⟩
  · exact ⟨page_block (by decide) (by decide) (by omega), page_block (by decide) (by decide) (by omega)⟩

theorem Part.BlockOnly.replayGo (p : Part) (t : Nat) {plot : Nat} (udp : Bool) (h : plot < 9) :
    p.BlockOnly 7 (p.replayGo t plot udp) := by
  obtain ⟨hbusy, hgap⟩ := replayRegs_block udp h
  unfold Part.replayGo
  extract_lets g pair l q
  split
  · exact .refl p
  · have hq : p.BlockOnly 7 q := by
      unfold q
      split
      · split
        · exact .put p _ _ hgap
        · exact .refl p
      · exact .refl p
    split
    · exact hq
    · exact (hq.trans (.of_regs rfl)).trans ((Part.BlockOnly.put _ g.busy 1 hbusy).trans (.of_regs (Part.nvIssue_regs _ _ _ _)))

/-- A write in the SHD block has a rule of its own for the mailbox's command alone. -/
theorem Part.writeFront_shd (p : Part) (t : Nat) (w : Who) {key : Nat} (i : Nat) (v : Word) (hk : key / 0x100000 = 0) :
    p.writeFront t w key i v = if key = R.SHD_MBX_CMD then some (p.mbxWrite (v.bits 7 0) (v.bits 23 8) []) else none := by
  have hne : ∀ b, 0x100000 ≤ b → key ≠ b := fun b hb => by omega
  unfold Part.writeFront
  rw [if_neg (hne R.SDL_RATE (by decide)), if_neg (hne R.SDL_STEP_LO (by decide)), if_neg (hne R.SDL_STEP_HI (by decide)),
    if_neg (hne R.SDL_CAP_CTRL (by decide)), if_neg (hne (R.SDL_TMR_CMP_LO 0) (by decide)),
    if_neg (hne (R.SDL_TMR_CMP_HI 0) (by decide)), if_neg (hne (R.SDL_TMR_CTRL 0) (by decide)),
    if_neg (hne (R.ITK_CTX_CTRL 0) (by decide)), if_neg (hne (R.ITK_CTX_COMMIT 0) (by decide))]

/-- A write in the SHD block changes no other block (R33). -/
theorem Part.BlockOnly.regStore_shd (p : Part) (t : Nat) (w : Who) (ctx : Nat) {a : Nat} (v : Word) (ha : a / 0x100000 = 0) :
    p.BlockOnly 0 (p.regStore t w ctx a v) := by
  have hgated : p.gatedReg a = false := by simp [Part.gatedReg, ha, blkBED]
  unfold Part.regStore
  split
  · exact .refl p
  · next r i j hr =>
    have hkey : rowKey a r / 0x100000 = 0 := (rowKey_block hr).trans ha
    have hfields : p.BlockOnly 0 (p.writeFields a v r.fields) := ha ▸ .writeFields p a v r.fields
    simp only [hgated, ha, Part.writeFront_shd p t w i v hkey]
    by_cases hshut : p.ringShut a = true
    · simpa [hshut] using .refl p
    · by_cases hcmd : rowKey a r = R.SHD_MBX_CMD
      · simpa [hshut, hcmd] using .mbxWrite p _ _
      · simpa [hshut, hcmd] using hfields

/-- The part that a write with a rule of its own leaves, where it has one, differs from `p` in block `b` alone. -/
def Part.OwnBlockOnly (b : Nat) (p : Part) (own : Option Part) : Prop := ∀ q, own = some q → p.BlockOnly b q

theorem Part.OwnBlockOnly.none {b : Nat} (p : Part) : p.OwnBlockOnly b .none := fun _ h => nomatch h

theorem Part.OwnBlockOnly.some {b : Nat} {p q : Part} (h : p.BlockOnly b q) : p.OwnBlockOnly b (.some q) :=
  fun _ hq => Option.some.inj hq ▸ h

theorem Part.OwnBlockOnly.ite {b : Nat} {p : Part} {c : Prop} [Decidable c] {x y : Option Part} (hx : p.OwnBlockOnly b x)
    (hy : p.OwnBlockOnly b y) : p.OwnBlockOnly b (if c then x else y) := by
  split
  · exact hx
  · exact hy

/-- Where no rule of its own serves the register, its access codes do. -/
theorem Part.OwnBlockOnly.getD {b : Nat} {p q : Part} {own : Option Part} (h : p.OwnBlockOnly b own) (hq : p.BlockOnly b q) :
    p.BlockOnly b (own.getD q) := by
  cases own with
  | none => exact hq
  | some r => exact h r rfl

/-- A write of a replay order clears GAP where it says so, and starts the replay where it says so. -/
theorem Part.BlockOnly.replayWrite (p : Part) (t : Nat) {plot : Nat} (udp gap : Bool) (go : Prop) [Decidable go]
    (h : plot < 9) :
    let q := p.iff gap (·.clr (replayRegs plot udp).gap)
    p.BlockOnly 7 (if go then q.replayGo t plot udp else q) := by
  intro q
  have hq : p.BlockOnly 7 q := by
    cases gap
    · exact .refl p
    · exact .put p _ _ (replayRegs_block udp h).2
  split
  · exact hq.trans (.replayGo q t udp h)
  · exact hq

/-- What a write with a rule of its own in the block of Harvest orders, it orders in that block. -/
theorem Part.OwnBlockOnly.writeOut_hvs (p : Part) (t : Nat) {key i : Nat} (v : Word) (hk : key / 0x100000 = 7) (hi : i < 9) :
    p.OwnBlockOnly 7 (p.writeOut t key i v) := by
  have hne : ∀ b, 0x800000 ≤ b → key ≠ b := fun b hb => by omega
  unfold Part.writeOut
  rw [if_neg (hne R.TRL_CTRL (by decide)), if_neg (hne (R.TRL_P_CTRL 0) (by decide))]
  refine .ite (.some (.waitWrite p _ (by decide))) ?_
  refine .ite (.some (.waitWrite p _ (by omega))) ?_
  refine .ite (.some (.replayWrite p t true _ _ hi)) ?_
  refine .ite (.some (.ringControl p _ _ hi)) ?_
  refine .ite (.ite (.some (.refl p)) (.none p)) ?_
  refine .ite (.some (.consWrite p _ hi)) ?_
  exact .ite (.some (.replayWrite p t false _ _ hi)) (.none p)

/-- A write in the block of Harvest changes no other block (R33). -/
theorem Part.BlockOnly.regStore_hvs (p : Part) (t : Nat) (w : Who) (ctx : Nat) {a : Nat} (v : Word) (ha : a / 0x100000 = 7) :
    p.BlockOnly 7 (p.regStore t w ctx a v) := by
  have hgated : p.gatedReg a = false := by simp [Part.gatedReg, ha, blkBED]
  unfold Part.regStore
  split
  · exact .refl p
  · next r i j hr =>
    have hown := Part.OwnBlockOnly.writeOut_hvs p t v ((rowKey_block hr).trans ha) (hvs_index_lt ha hr)
    have hwrite := hown.getD (ha ▸ Part.BlockOnly.writeFields p a v r.fields)
    by_cases hshut : p.ringShut a = true
    · simpa [hgated, hshut] using .refl p
    · simpa [hgated, hshut, ha] using hwrite

/-! Reads. -/

/-- What holds of the part that either of two reads leaves holds of the one taken. -/
theorem snd_ite {P : Part → Prop} {c : Prop} [Decidable c] {x y : Word × Part} (hx : c → P x.2) (hy : ¬ c → P y.2) :
    P (if c then x else y).2 := by
  split
  · next h => exact hx h
  · next h => exact hy h

/-- A read clears fields of the register read alone. -/
theorem Part.BlockOnly.clearRc (p : Part) (a : Nat) (l : List FieldSpec) : p.BlockOnly (a / 0x100000) (p.clearRc a l) := by
  refine .foldl p l _ fun q f => ?_
  split
  · exact .put q _ _ rfl
  · exact .refl q

/-- A read of SDL_CAP_INFO changes the Sundial's block alone. -/
theorem Part.BlockOnly.takeCap (p : Part) : p.BlockOnly 1 p.takeCap := by
  unfold Part.takeCap
  split
  · exact .refl p
  · next c r _ =>
    have hcaps : p.BlockOnly 1 (p.modSdl (fun u => { u with caps := r })) := .of_regs rfl
    exact (hcaps.trans (.put _ F.SDL_CAP_LO_STAMP_LO _ rfl)).trans (.put _ F.SDL_CAP_HI_STAMP_HI _ rfl)

/-- A read of a register that is no bed's changes no block but the register's. -/
theorem Part.BlockOnly.regLoad (p : Part) (t : Nat) (w : Who) {a : Nat} (ha : a / 0x100000 ≠ 19) :
    p.BlockOnly (a / 0x100000) (p.regLoad t w a).2 := by
  have hgated : p.gatedReg a = false := by simp [Part.gatedReg, ha, blkBED]
  have hsame : ∀ q : Part, q.regs = p.regs → p.BlockOnly (a / 0x100000) q := fun q hq => .of_regs hq
  unfold Part.regLoad
  extract_lets plain
  split
  · exact .refl p
  · next r i j hr =>
    extract_lets key
    refine snd_ite (fun h => absurd h (by simp [hgated])) fun _ => ?_
    refine snd_ite (fun _ => .refl p) fun _ => ?_
    refine snd_ite (fun _ => hsame _ rfl) fun _ => ?_
    refine snd_ite (fun _ => .refl p) fun _ => ?_
    refine snd_ite (fun _ => .refl p) fun _ => ?_
    refine snd_ite (fun _ => .refl p) fun _ => ?_
    refine snd_ite (fun hcap => ?_) fun _ => ?_
    · have hblk : a / 0x100000 = 1 := (rowKey_block hr).symm.trans (congrArg (· / 0x100000) hcap)
      exact hblk ▸ .takeCap p
    refine snd_ite (fun _ => .refl p) fun _ => ?_
    refine snd_ite (fun _ => .refl p) fun _ => ?_
    refine snd_ite (fun _ => hsame _ rfl) fun _ => ?_
    refine snd_ite (fun _ => .refl p) fun _ => ?_
    refine snd_ite (fun _ => hsame _ rfl) fun _ => ?_
    exact snd_ite (fun _ => .refl p) fun _ => .clearRc p a r.fields

/-- A read through a mirror changes at most the reader's shadow, which is no register. -/
theorem Part.BlockOnly.mirrorLoad (p : Part) (t : Nat) (w : Who) (a : Nat) : p.BlockOnly 1 (p.mirrorLoad t w a).2 := by
  unfold Part.mirrorLoad
  extract_lets x
  dsimp only
  split
  · next hnow =>
    subst hnow
    exact .regLoad p t w (a := R.SDL_NOW_LO) (by decide)
  · exact .refl p

/-! BAR0. -/

/-- A copy in the mailbox stands for a register of the same block (R132). -/
theorem copyOf_block (a : Nat) : copyOf a / 0x100000 = a / 0x100000 := by
  unfold copyOf
  split <;> omega

/-- One DW of BAR0 is a register of SHD or of Harvest, one seen through a mirror, or reserved (R33). -/
theorem hostHit_cases (a : Nat) :
    (∃ r, hostHit a = .reg r ∧ (r / 0x100000 = 0 ∨ r / 0x100000 = 7)) ∨ (∃ r, hostHit a = .mirror r) ∨
      hostHit a = .hostReserved := by
  unfold hostHit
  split
  · split
    · exact .inl ⟨_, rfl, .inl (by omega)⟩
    · exact .inr (.inr rfl)
  · split
    · split
      · exact .inl ⟨_, rfl, .inr (by omega)⟩
      · exact .inr (.inr rfl)
    · split
      · exact .inr (.inl ⟨_, rfl⟩)
      · split
        · exact .inr (.inl ⟨_, rfl⟩)
        · exact .inr (.inr rfl)

/-- One aligned DW from the host is judged by its BAR0 offset. -/
theorem Part.hit_hostWord (p : Part) {addr : Nat} (write : Bool) (h : addr % 4 = 0) : p.hit hostWho addr 4 write = hostHit addr := by
  simp [Part.hit, hostWho, h]

/-- Any other shape from the host is refused (R34). -/
theorem Part.hit_hostShape (p : Part) {addr bytes : Nat} (write : Bool) (h : ¬ (bytes = 4 ∧ addr % 4 = 0)) :
    p.hit hostWho addr bytes write = .shape := by
  have hword : (bytes == 4 && addr % 4 == 0) = false := by simpa using h
  simp [Part.hit, hostWho, hword]

/-- PEP_ERR_SHAPE lies in none of the blocks that BAR0 shows. -/
theorem errShape_kept {b : Nat} {p q : Part} (h : p.BlockOnly b q) (hb : b = 0 ∨ b = 7 ∨ b = 1) :
    q.reg R.PEP_ERR_SHAPE = p.reg R.PEP_ERR_SHAPE :=
  h _ (by rcases hb with rfl | rfl | rfl <;> decide)

/-- A read of one DW by the host answers a value, and PEP_ERR_SHAPE does not count it. -/
theorem Part.registerRead_hostWord (p : Part) (t : Nat) {addr : Nat} (h : addr % 4 = 0) :
    ∃ (v : Word) (q : Part), p.registerRead t hostWho addr 4 = q.answer hostWho v ∧ q.reg R.PEP_ERR_SHAPE = p.reg R.PEP_ERR_SHAPE := by
  have hreserved : (p.addSat F.PEP_ERR_RSVD_COUNT 1).reg R.PEP_ERR_SHAPE = p.reg R.PEP_ERR_SHAPE :=
    Part.reg_put_other p _ _ (by decide)
  unfold Part.registerRead
  rw [p.hit_hostWord false h]
  rcases hostHit_cases addr with ⟨r, hr, hblk⟩ | ⟨r, hr⟩ | hr
  · have hload := Part.BlockOnly.regLoad p t hostWho (a := copyOf r) (by rw [copyOf_block]; omega)
    rw [hr]
    exact ⟨_, _, rfl, errShape_kept hload (by rw [copyOf_block]; omega)⟩
  · rw [hr]
    exact ⟨_, _, rfl, errShape_kept (.mirrorLoad p t hostWho r) (.inr (.inr rfl))⟩
  · rw [hr]
    exact ⟨_, _, rfl, hreserved⟩

/-- A write of one DW by the host is not counted by PEP_ERR_SHAPE. -/
theorem Part.registerWrite_hostWord (p : Part) (t ctx : Nat) {addr : Nat} (v : Word) (h : addr % 4 = 0) :
    (p.registerWrite t hostWho ctx addr 4 v).reg R.PEP_ERR_SHAPE = p.reg R.PEP_ERR_SHAPE := by
  have hreserved : (p.addSat F.PEP_ERR_RSVD_COUNT 1).reg R.PEP_ERR_SHAPE = p.reg R.PEP_ERR_SHAPE :=
    Part.reg_put_other p _ _ (by decide)
  unfold Part.registerWrite
  rw [p.hit_hostWord true h]
  rcases hostHit_cases addr with ⟨r, hr, hblk⟩ | ⟨r, hr⟩ | hr
  · rw [hr]
    dsimp only
    split
    · rcases hblk with hshd | hhvs
      · exact errShape_kept (.regStore_shd p t hostWho ctx v hshd) (.inl rfl)
      · exact errShape_kept (.regStore_hvs p t hostWho ctx v hhvs) (.inr (.inl rfl))
    · rfl
  · rw [hr]; exact hreserved
  · rw [hr]; exact hreserved

/-- A refused shape is counted, up to the most that the count holds. -/
theorem Part.get_errShape_counted (p : Part) :
    (p.addSat F.PEP_ERR_SHAPE_COUNT 1).get F.PEP_ERR_SHAPE_COUNT = min (p.get F.PEP_ERR_SHAPE_COUNT + 1) 65535 := by
  refine (Part.get_put_self p F.PEP_ERR_SHAPE_COUNT _ (by decide)).trans (Nat.mod_eq_of_lt ?_)
  exact Nat.lt_of_le_of_lt (Nat.min_le_right _ _) (by decide)

/-- A refused shape that is counted changes PEP_ERR_SHAPE alone. -/
theorem errShape_regsOnly (s : State) :
    RegsOnly [R.PEP_ERR_SHAPE] s { s with part := s.part.addSat F.PEP_ERR_SHAPE_COUNT 1 } :=
  regsOnly_of_regs rfl fun _ ha => Part.reg_put_other _ _ _ (List.ne_of_not_mem_cons ha)

/-- A refused read, which is completed with Completer Abort, changes no register but PEP_ERR_SHAPE. -/
theorem errShape_abort_regsOnly (s : State) :
    let q := (s.part.addSat F.PEP_ERR_SHAPE_COUNT 1).emit .completerAbort
    RegsOnly [R.PEP_ERR_SHAPE] { s with part := { s.part with out := q.out } } { s with part := q } :=
  regsOnly_emit _ rfl fun _ ha => Part.reg_put_other _ _ _ (List.ne_of_not_mem_cons ha)

/-- Settles O13: every shape but one aligned DW meets the refusal, and what one DW meets in BAR0 lies outside PEP_ERR_SHAPE. -/
theorem barShape : Obligations.BarShape := by
  intro s ⟨hin, hstep⟩ hlink
  have hup : s.part.on F.PEP_LINK_UP = true := (s.part.on_iff _).2 hlink
  have hissues : s.part.issues hostWho = true := hup
  have hread : ∀ addr bytes, bytes < 9 → exec (.registerRead hostWho addr bytes) s =
      .next (s.settle (s.part.registerRead s.ns hostWho addr bytes)) := fun addr bytes hb =>
    next_registerRead hostWho addr bytes s hin (by simp [Instr.wf, hissues, hb])
  have hwrite : ∀ ctx addr bytes v, ctx < 2 ^ 32 → bytes < 9 → exec (.registerWrite hostWho ctx addr bytes v) s =
      .next (s.settle (s.part.registerWrite s.ns hostWho ctx addr bytes v)) := fun ctx addr bytes v hc hb =>
    next_registerWrite hostWho ctx addr bytes v s hin (by simpa [Instr.wf, hissues, hb] using hc)
  have hcount := s.part.get_errShape_counted
  refine ⟨fun addr bytes hb hshape => ⟨?shapeRead, fun ctx v hc => ?shapeWrite⟩, fun read => ?tlp, fun addr h4 =>
    ⟨?answers, ?readKept, fun ctx v hc => ?writeKept⟩⟩
  case shapeRead =>
    have he := hread addr bytes hb
    rw [Part.registerRead, Part.hit_hostShape _ _ hshape] at he
    exact completes_of_still he hstep ⟨hcount, rfl, errShape_abort_regsOnly s⟩
  case shapeWrite =>
    have he := hwrite ctx addr bytes v hc hb
    rw [Part.registerWrite, Part.hit_hostShape _ _ hshape] at he
    exact completes_of_still he hstep ⟨hcount, errShape_regsOnly s⟩
  case tlp =>
    have he := next_bar0TlpRefused read s hin hup
    cases read with
    | true => exact completes_of_still he hstep ⟨hcount, rfl, errShape_abort_regsOnly s⟩
    | false => exact completes_of_still he hstep ⟨hcount, rfl, errShape_regsOnly s⟩
  case answers =>
    obtain ⟨v, q, hq, -⟩ := s.part.registerRead_hostWord s.ns h4
    have he := hread addr 4 (by decide)
    rw [hq] at he
    exact ⟨v, _, he, List.mem_cons_self⟩
  case readKept =>
    obtain ⟨v, q, hq, hkept⟩ := s.part.registerRead_hostWord s.ns h4
    have he := hread addr 4 (by decide)
    rw [hq] at he
    exact ⟨_, he, (State.settle_reg _ _ _).trans hkept⟩
  case writeKept =>
    exact ⟨_, hwrite ctx addr 4 v hc (by decide),
      (State.settle_reg _ _ _).trans (s.part.registerWrite_hostWord s.ns ctx v h4)⟩

end Sys2Proof.Machine
end

section
/-! SUPPORT. What a step leaves: no forward step of the Sundial half applied (R65), and, on an empty queue, nothing but the Sundial's
count and the counters of the time that passed (R51, R148). -/

namespace Sys2Proof.Machine

/-- What a command leaves is settled: the step that it ordered is applied. -/
@[simp] theorem State.settle_step (s : State) (p : Part) : (s.settle p).part.sdl.step = 0 := rfl

/-- A guarded effect that ends in a next state leaves no step outstanding, where none was. -/
theorem State.runIf_step {s t : State} {bad : Bool} {can : Nat → Part → Bool} {eff : Nat → Part → Part}
    (hs : s.part.sdl.step = 0) (h : s.runIf bad can eff = .next t) : t.part.sdl.step = 0 := by
  rcases State.runIf_cases s bad can eff with ⟨-, hr⟩ | ⟨-, -, hr⟩ | ⟨-, -, hr⟩
  · rw [hr] at h; cases h
  · rw [hr] at h; cases h; exact State.settle_step _ _
  · rw [hr] at h; cases h; exact hs

/-- A command that ends in a next state leaves no step outstanding, where none was, and the queue as it was. -/
theorem exec_step_pending {c : Instr} {s t : State} (hs : s.part.sdl.step = 0) (h : exec c s = .next t) :
    t.part.sdl.step = 0 ∧ t.pending = s.pending := by
  rcases exec_shape c s with ⟨hpor, -⟩ | ⟨bad, can, eff, hrun, -⟩
  · rw [hpor] at h; cases h; exact ⟨rfl, State.powerOn_pending s⟩
  · rw [hrun] at h; exact ⟨State.runIf_step hs h, State.runIf_pending h⟩

/-- Changes to the plots' counters alone leave the rest of the part. -/
theorem Part.each_modPlot (p : Part) (l : List Nat) (f : Part → Nat → PlotUnit → PlotUnit) :
    p.each l (fun q k => q.modPlot k (f q k)) = { p with plots := (p.each l (fun q k => q.modPlot k (f q k))).plots } := by
  unfold Part.each
  induction l generalizing p with
  | nil => rfl
  | cons k r ih => exact ih (p.modPlot k (f p k))

/-- Time that passes changes the plots' counters alone (R148). -/
theorem Part.passTime_rest (p : Part) (ns : Nat) : p.passTime ns = { p with plots := (p.passTime ns).plots } := by
  unfold Part.passTime
  split
  · rfl
  · exact p.each_modPlot _ _

/-- An edge changes the plots' counters alone beside the Sundial's count. -/
theorem State.edge_part (s : State) : s.edge.part = { s.part with plots := s.edge.part.plots } := by
  unfold State.edge
  split
  · exact Part.passTime_rest _ _
  · rfl

/-- On an empty queue a step is an edge of the Sundial's source. -/
theorem step_nil {s : State} (h : s.pending = []) : step s = .next s.edge := by
  unfold step
  rw [h]

/-- Settles O6: an edge changes nothing of the Sundial's unit, and a command's step is applied as it settles. -/
theorem noStepOutstanding : Obligations.NoStepOutstanding := by
  intro s t hs h
  cases hq : s.pending with
  | nil =>
    rw [step_nil hq] at h
    cases h
    exact ⟨by rw [State.edge_part]; exact hs, by rw [State.edge_pending, hq, List.tail_nil]⟩
  | cons c rest =>
    unfold step at h
    rw [hq] at h
    exact exec_step_pending (s := { s with pending := rest }) hs h

/-! The increment of an edge (R51). -/

/-- SDL_RATE is a 32-bit number in two's complement. -/
theorem Part.rate_lower (p : Part) : -(2 ^ 31) ≤ p.rate := by
  unfold Part.rate sext
  split <;> omega

/-- The increment of R51 for a rate in effect, rounded down to 2^-32 ns. -/
theorem sdlIncrement_eq (src : Nat) {rate : Int} (h : -(2 ^ 31) ≤ rate) :
    (sdlIncrement src rate : Int) =
      if src = 0 then 2 ^ 32 + rate else if src = 1 then 40 * (2 ^ 32 + rate) else (2 ^ 32 + rate) * 1953125 / 64 := by
  unfold sdlIncrement
  extract_lets k
  have hk : (k : Int) = 2 ^ 32 + rate := Int.toNat_of_nonneg (by omega)
  rw [← hk]
  split
  · rfl
  · split <;> omega

/-- While the source does not run, an edge is none. -/
theorem State.edge_stopped {s : State} (h : s.part.sourceRuns = false) : s.edge = s := by
  simp [State.edge, h]

/-- An edge of the source adds the increment, modulo 2^96 (R69). -/
theorem State.edge_sun {s : State} (h : s.part.sourceRuns = true) :
    s.edge.sun.toNat = (s.sun.toNat + sdlIncrement (s.part.get F.SDL_STATUS_SRC) s.part.rate) % 2 ^ 96 := by
  unfold State.edge
  rw [if_pos h]
  exact State.advance_sun _ _

/-- Settles O7: what an edge adds, and that it changes nothing else but the plots' counters. That time passes so on an empty queue is
the model's choice (assumption 2), as is the fraction of 32 bits (assumption 64). -/
theorem emptyQueueEdge : Obligations.EmptyQueueEdge := by
  intro s hq
  refine ⟨fun hstop => by rw [step_nil hq, State.edge_stopped hstop], fun hruns => ⟨s.edge, step_nil hq, ?sun, ?_⟩⟩
  case sun =>
    have hinc := sdlIncrement_eq (s.part.get F.SDL_STATUS_SRC) s.part.rate_lower
    rw [State.edge_sun hruns, Int.natCast_emod, Int.natCast_add, hinc]
    rfl
  · rw [State.edge_part, State.edge_pending, hq]
    exact ⟨rfl, rfl, rfl, rfl, rfl, rfl, rfl⟩

end Sys2Proof.Machine
end

section
/-! SUPPORT. Numbers in two's complement, and the rate of the Sundial (R53, R689). -/

namespace Sys2Proof

/-- A word read as an integer is its number read as two's complement. -/
theorem Word.sext_toNat (v : Word) : sext 32 v.toNat = v.toInt := by
  have hv := v.isLt
  rw [BitVec.toInt_eq_toNat_cond, sext, Nat.mod_eq_of_lt hv]
  split <;> split <;> omega

/-- An integer of 32 bits comes back from its two's complement. -/
theorem sext_twos {i : Int} (hl : -(2 ^ 31) ≤ i) (hu : i < 2 ^ 31) : sext 32 (twos 32 i) = i := by
  unfold sext twos
  split <;> omega

theorem le_clampInt {lo hi : Int} (h : lo ≤ hi) (i : Int) : lo ≤ clampInt lo hi i := by
  unfold clampInt
  split
  · exact Int.le_refl lo
  · split <;> omega

theorem clampInt_le {lo hi : Int} (h : lo ≤ hi) (i : Int) : clampInt lo hi i ≤ hi := by
  unfold clampInt
  split
  · exact h
  · split <;> omega

/-- A clamp leaves what lies in its range. -/
theorem clampInt_of_mem {lo hi i : Int} (hl : lo ≤ i) (hu : i ≤ hi) : clampInt lo hi i = i := by
  rw [clampInt, if_neg (by omega), if_neg (by omega)]

end Sys2Proof

namespace Sys2Proof.Machine

/-- A field of 32 bits just written holds the number written. -/
theorem Part.get_put_word (p : Part) (a : Nat) {n : Nat} (h : n < 2 ^ 32) : (p.put ⟨a, 31, 0⟩ n).get ⟨a, 31, 0⟩ = n :=
  (Part.get_put_self p _ n (show 31 < 32 by decide)).trans (Nat.mod_eq_of_lt h)

/-- SDL_RATE depends on its own register alone. -/
theorem Part.rate_congr {p q : Part} (h : q.reg R.SDL_RATE = p.reg R.SDL_RATE) : q.rate = p.rate := by
  rw [Part.rate, Part.rate, Part.get, Part.get, show F.SDL_RATE_RATE.reg = R.SDL_RATE from rfl, h]

/-- SDL_RATE in effect is the register's word. -/
theorem Part.rate_eq_toInt (p : Part) : p.rate = (p.reg R.SDL_RATE).toInt := by
  rw [← Word.sext_toNat]
  exact congrArg (sext 32) (Word.bits_full _)

/-- The rate written is in effect, clamped (R53). -/
@[simp] theorem Part.rate_writeRate (p : Part) (r : Int) : (p.writeRate r).rate = clampInt (-rateClamp) rateClamp r := by
  have hl := le_clampInt (lo := -rateClamp) (hi := rateClamp) (by decide) r
  have hu := clampInt_le (lo := -rateClamp) (hi := rateClamp) (by decide) r
  generalize hc : clampInt (-rateClamp) rateClamp r = c at hl hu ⊢
  unfold rateClamp at hl hu
  have hword : twos 32 c < 2 ^ 32 := by unfold twos; omega
  unfold Part.rate Part.writeRate
  rw [hc]
  exact (congrArg (sext 32) (Part.get_put_word p R.SDL_RATE hword)).trans (sext_twos (by omega) (by omega))

theorem Part.writeRate_reg_other (p : Part) (r : Int) {a : Nat} (h : a ≠ R.SDL_RATE) : (p.writeRate r).reg a = p.reg a :=
  Part.reg_put_other p _ _ h

end Sys2Proof.Machine
end

section
/-! SUPPORT. The registers of the Sundial's block but the timers': what a write and a read of each does (R53, R54, R65). -/

namespace Sys2Proof.Machine

open Sys2Proof.Claim

/-- No register of the Sundial's block is a bed's or a ring's. -/
theorem Part.gatedReg_sdl (p : Part) {a : Nat} (h : a / 0x100000 = 1) : p.gatedReg a = false := by
  simp [Part.gatedReg, h, blkBED]

theorem Part.ringShut_sdl (p : Part) {a : Nat} (h : a / 0x100000 = 1) : p.ringShut a = false := by
  have : ¬ (0x710000 ≤ a) := by omega
  simp [Part.ringShut, isHostRing, this]

/-- A write in the Sundial's block follows the register's own rule, or else its access codes. -/
theorem Part.regStore_sdl (p : Part) (t : Nat) (w : Who) (ctx : Nat) {a i j : Nat} {r : RegRow} (v : Word) (h : a / 0x100000 = 1)
    (hr : regAt a = some (r, i, j)) :
    p.regStore t w ctx a v = (p.writeFront t w (0x100000 + r.off) i v).getD (p.writeFields a v r.fields) := by
  unfold Part.regStore
  rw [hr]
  simp only [p.gatedReg_sdl h, p.ringShut_sdl h, h, rowKey]
  rfl

/-- Plot 0 firmware issues its accesses while the Shed runs. -/
theorem issues_firmware {s : State} {w : Who} (h : Firmware s w) : s.part.issues w = true := by
  obtain ⟨hk, hp, hup⟩ := h
  simp [Part.issues, hk, hp, hup]

/-! SDL_RATE (R53). -/

/-- A write of SDL_RATE by plot 0 firmware takes the clamped value into effect. -/
theorem Part.writeOf_rate (p : Part) (t : Nat) {w : Who} (v : Word) (hk : w.kind ≠ .host) (hp : w.plot = 0) :
    p.writeOf t w R.SDL_RATE v = p.rateWrite v := by
  rw [p.writeOf_firmware t v hk hp (by decide) (by decide) (by decide) (by decide)]
  exact p.regStore_sdl t w 0 (a := R.SDL_RATE) v (by decide) rfl

theorem Part.rateWrite_rate (p : Part) (v : Word) : (p.rateWrite v).rate = clampInt (-rateClamp) rateClamp v.toInt := by
  have hmem := le_clampInt (lo := -rateClamp) (hi := rateClamp) (by decide) v.toInt
  have hmem' := clampInt_le (lo := -rateClamp) (hi := rateClamp) (by decide) v.toInt
  rw [Part.rateWrite, Word.sext_toNat]
  exact (Part.rate_writeRate _ _).trans (clampInt_of_mem hmem hmem')

/-- A read of SDL_RATE returns the register's word. -/
theorem Part.regLoad_rate (p : Part) (t : Nat) (w : Who) : (p.regLoad t w R.SDL_RATE).1 = p.reg R.SDL_RATE := by
  have hread : (p.regLoad t w R.SDL_RATE).1 = BitVec.ofNat 32 (readFields (p.reg R.SDL_RATE) [⟨31, 0, .rw, 0⟩]) := rfl
  rw [hread]
  simp [readFields]

/-- Settles O17: what is written is clamped before it is stored. -/
theorem rateIsClamped : Obligations.RateIsClamped := by
  intro w v s ⟨hin, hstep⟩ hfw
  have he := next_sdlRateWrite w v s hin (issues_firmware hfw)
  rw [s.part.writeOf_rate s.ns v hfw.1 hfw.2.1] at he
  refine completes_of_still he hstep ⟨s.part.rateWrite_rate v, fun n => ?read, fun a ha => ?frame, rfl⟩
  case read => rw [Part.regLoad_rate, Part.rate_eq_toInt]
  case frame => exact Part.writeRate_reg_other _ _ ha

/-! Forward steps (R65). -/

/-- A step of 0 changes nothing. -/
@[simp] theorem Part.stepBy_zero (p : Part) (t : Nat) : p.stepBy t 0 = p := rfl

/-- A step of `n` is ordered as `n`. -/
theorem Part.stepBy_step (p : Part) (t : Nat) {n : Nat} (h : n ≠ 0) : (p.stepBy t n).sdl.step = n := by
  rw [Part.stepBy, if_neg h, (Part.RecordsOnly.configTime _ _ _ _).sdl]
  rfl

/-- A step is shown by STEPPED. -/
theorem Part.stepBy_stepped (p : Part) (t : Nat) {n : Nat} (h : n ≠ 0) : (p.stepBy t n).get F.SDL_EVENTS_STEPPED = 1 := by
  rw [Part.stepBy, if_neg h, (Part.RecordsOnly.configTime _ _ _ _).get _ (by decide)]
  exact Part.get_put_self _ F.SDL_EVENTS_STEPPED 1 (by decide)

/-- The rule of SDL_STEP_HI. -/
theorem Part.writeFront_stepHi (p : Part) (t : Nat) (w : Who) (hi : Word) :
    p.writeFront t w R.SDL_STEP_HI 0 hi = some (p.stepBy t (hi.toNat * 2 ^ 32 + p.sdl.stepLo.toNat)) := by
  unfold Part.writeFront
  rw [if_neg (by decide), if_neg (by decide), if_neg (by decide), if_pos rfl]

/-- A write of SDL_STEP_HI by plot 0 firmware orders the step of both halves. -/
theorem Part.writeOf_stepHi (p : Part) (t : Nat) {w : Who} (hi : Word) (hk : w.kind ≠ .host) (hp : w.plot = 0) :
    p.writeOf t w R.SDL_STEP_HI hi = p.stepBy t (hi.toNat * 2 ^ 32 + p.sdl.stepLo.toNat) := by
  rw [p.writeOf_firmware t hi hk hp (by decide) (by decide) (by decide) (by decide),
    p.regStore_sdl t w 0 hi (by decide) (r := ⟨0x18, 1, 0x0, 1, 0x0, [⟨31, 0, .wo, 0⟩]⟩) (i := 0) (j := 0) rfl]
  rw [show 0x100000 + 0x18 = R.SDL_STEP_HI from rfl, Part.writeFront_stepHi, Option.getD_some]

/-- Settles O18: a step of 0 is none, and any other one is applied as the command settles. -/
theorem stepMovesSundial : Obligations.StepMovesSundial := by
  intro w hi s ⟨hin, hstep⟩ hfw
  extract_lets n
  have he := next_sundialStep w hi s hin (issues_firmware hfw)
  rw [s.part.writeOf_stepHi s.ns hi hfw.1 hfw.2.1] at he
  change exec _ _ = .next (s.settle (s.part.stepBy s.ns n)) at he
  refine ⟨_, he, ?_⟩
  by_cases hn : n = 0
  · have hstill : s.settle (s.part.stepBy s.ns n) = s := by
      rw [hn, Part.stepBy_zero, State.settle_still s s.part hstep]
    rw [hstill, hn]
    exact ⟨by have := s.sun.isLt; omega, hstep, fun _ => rfl, fun h => absurd rfl h⟩
  · refine ⟨?_, State.settle_step _ _, fun h => absurd h hn, fun _ => ?_⟩
    · rw [State.settle_sun, s.part.stepBy_step s.ns hn]
    · rw [State.settle_get, s.part.stepBy_stepped s.ns hn]

/-! SDL_NOW (R54). -/

/-- A read of SDL_NOW_LO answers the low half and latches the high half into the reader's shadow. -/
theorem Part.regLoad_nowLo (p : Part) (t : Nat) (w : Who) :
    p.regLoad t w R.SDL_NOW_LO = (BitVec.ofNat 32 t, p.latchShadow w 0 (BitVec.ofNat 32 (t / 2 ^ 32))) := rfl

/-- A read of SDL_NOW_HI answers the reader's shadow. -/
theorem Part.regLoad_nowHi (p : Part) (t : Nat) (w : Who) : p.regLoad t w R.SDL_NOW_HI = (p.shadow w 0, p) := rfl

/-- A shadow just latched holds what was latched. -/
theorem Part.shadow_latchShadow (p : Part) (w : Who) (k : Nat) (v : Word) : (p.latchShadow w k v).shadow w k = v :=
  FMap.get_put_self _ _ _ _

/-- Another shadow stays. -/
theorem Part.shadow_latchShadow_other (p : Part) {w w' : Who} {k k' : Nat} (v : Word) (h : w'.shadow k' ≠ w.shadow k) :
    (p.latchShadow w k v).shadow w' k' = p.shadow w' k' :=
  FMap.get_put_other _ _ _ h

/-- Every initiator but the host reads SDL_NOW_LO in the same way: plot 0 firmware at the register's own address, a plot on its page
(R30, R37). -/
theorem Part.readOf_nowLo (p : Part) (t : Nat) {w : Who} (hk : w.kind ≠ .host) :
    p.readOf t w R.SDL_NOW_LO = (p.latchShadow w 0 (BitVec.ofNat 32 (t / 2 ^ 32))).answer w (BitVec.ofNat 32 t) := by
  by_cases hp : w.plot = 0
  · rw [p.readOf_firmware t hk hp (by decide) (by decide) (by decide) (by decide), Part.regLoad_nowLo]
  · have hp' : w.plot.val ≠ 0 := fun h => hp (Fin.ext h)
    rw [p.readOf_page t hk hp' (by decide) (by decide) (by decide) (by decide) rfl, Part.regLoad_nowLo]

/-! The capture queue (R54). -/

/-- A read of SDL_CAP_INFO by plot 0 firmware shows the oldest capture and takes it. -/
theorem Part.readOf_capInfo (p : Part) (t : Nat) {w : Who} (hk : w.kind ≠ .host) (hp : w.plot = 0) :
    p.readOf t w R.SDL_CAP_INFO = p.takeCap.answer w (BitVec.ofNat 32 p.sdl.capInfo) :=
  p.readOf_firmware t hk hp (by decide) (by decide) (by decide) (by decide)

theorem SdlUnit.capInfo_nil {u : SdlUnit} (h : u.caps = []) : u.capInfo = 0 := by
  rw [SdlUnit.capInfo, h]

theorem Part.takeCap_nil {p : Part} (h : p.sdl.caps = []) : p.takeCap = p := by
  rw [Part.takeCap, h]

theorem Part.takeCap_cons {p : Part} {c : Capture} {r : List Capture} (h : p.sdl.caps = c :: r) :
    p.takeCap = (p.modSdl (fun u => { u with caps := r })).put64 F.SDL_CAP_LO_STAMP_LO F.SDL_CAP_HI_STAMP_HI c.stamp := by
  rw [Part.takeCap, h]

/-- The fields of SDL_CAP_INFO while the queue holds an entry. -/
theorem SdlUnit.capInfo_fields {u : SdlUnit} {c : Capture} {r : List Capture} (h : u.caps = c :: r) (hg : c.gpio < 8)
    (hr : r.length < 32) :
    Word.bits (BitVec.ofNat 32 u.capInfo) 2 0 = c.gpio ∧ Word.bits (BitVec.ofNat 32 u.capInfo) 3 3 = c.rising.toNat ∧
      Word.bits (BitVec.ofNat 32 u.capInfo) 9 4 = r.length + 1 ∧ Word.bits (BitVec.ofNat 32 u.capInfo) 31 31 = 1 := by
  have hinfo : u.capInfo = c.gpio + 8 * c.rising.toNat + 16 * (r.length + 1) + 2 ^ 31 := by
    simp only [SdlUnit.capInfo, h]
    cases c.rising <;> simp
  have hb : c.rising.toNat < 2 := Bool.toNat_lt _
  simp only [Word.bits, BitVec.toNat_ofNat, hinfo]
  omega

/-- A 64-bit value just written in two registers of 32 bits reads back. -/
theorem Part.get64_put64 (p : Part) {a b n : Nat} (hab : a ≠ b) (hn : n < 2 ^ 64) :
    (p.put64 ⟨a, 31, 0⟩ ⟨b, 31, 0⟩ n).get64 ⟨a, 31, 0⟩ ⟨b, 31, 0⟩ = n := by
  have hlo : (p.put64 ⟨a, 31, 0⟩ ⟨b, 31, 0⟩ n).get ⟨a, 31, 0⟩ = n % 2 ^ 32 :=
    (Part.get_put_reg _ _ _ _ hab).trans (Part.get_put_self p _ n (show 31 < 32 by decide))
  have hhi : (p.put64 ⟨a, 31, 0⟩ ⟨b, 31, 0⟩ n).get ⟨b, 31, 0⟩ = n / 2 ^ 32 := Part.get_put_word _ _ (by omega)
  rw [Part.get64, hlo, hhi]
  omega

theorem Part.reg_put64_other (p : Part) (lo hi : Fld) (n : Nat) {a : Nat} (h : a ∉ [lo.reg, hi.reg]) :
    (p.put64 lo hi n).reg a = p.reg a := by
  simp only [List.mem_cons, List.not_mem_nil, or_false, not_or] at h
  exact (Part.reg_put_other _ _ _ h.2).trans (Part.reg_put_other _ _ _ h.1)

/-- Settles O19: each read answers from the count or the queue, and what it leaves is the reader's shadow or the queue's rest. -/
theorem sundialReads : Obligations.SundialReads := by
  refine ⟨fun w s ⟨hin, hstep⟩ ⟨hk, hissues, _⟩ => ?now, fun w s ⟨hin, hstep⟩ hfw => ?captures⟩
  case now =>
    have he := next_sdlNowLoRead w s hin hissues
    rw [s.part.readOf_nowLo s.ns hk] at he
    refine completes_of_still he hstep ⟨rfl, fun n => ?_, fun w' k hne => ?_, rfl⟩
    · rw [Part.regLoad_nowHi]
      exact Part.shadow_latchShadow _ _ _ _
    · exact Part.shadow_latchShadow_other _ _ hne
  case captures =>
    have he := next_sdlCapInfoRead w s hin (issues_firmware hfw)
    rw [s.part.readOf_capInfo s.ns hfw.1 hfw.2.1] at he
    refine ⟨fun hnil => ?_, fun c r hcons hg hr hstamp => ?_⟩
    · rw [Part.takeCap_nil hnil, SdlUnit.capInfo_nil hnil] at he
      exact completes_of_still he hstep rfl
    · rw [Part.takeCap_cons hcons] at he
      refine completes_of_still he hstep ⟨rfl, ⟨_, rfl, SdlUnit.capInfo_fields hcons hg hr⟩, ?_, fun a ha => ?_⟩
      · exact Part.get64_put64 _ (by decide) hstamp
      · exact Part.reg_put64_other _ _ _ _ ha

end Sys2Proof.Machine
end

section
/-! SUPPORT. The registers of the event timers (R62, R64, R66, R67): where each stands, who reaches it, and what a write and a read of it
does. -/

namespace Sys2Proof.Machine

open Sys2Proof.Claim

/-! Their rows in the register table. -/

/-- A row of one register stands at its own offset alone. -/
theorem findRow_one {off o : Nat} (l : List FieldSpec) (rs : List RegRow) (h : o ≠ off) :
    findRow (⟨off, 1, 0, 1, 0, l⟩ :: rs) o = findRow rs o := by
  have hfind : RegRow.find ⟨off, 1, 0, 1, 0, l⟩ o = none := by
    simp [RegRow.find]
    omega
  rw [findRow, hfind]

/-- A row of 64 that stand 0x20 apart has no register between two of them. -/
theorem findRow_timer_other {off o n : Nat} (l : List FieldSpec) (rs : List RegRow) (hn : n < 64) (hl : off + n * 0x20 < o)
    (hu : o < off + n * 0x20 + 0x20) : findRow (⟨off, 64, 0x20, 1, 0, l⟩ :: rs) o = findRow rs o := by
  have hfind : RegRow.find ⟨off, 64, 0x20, 1, 0, l⟩ o = none := by
    have hi : (o - off) / 0x20 = n := by omega
    have h64 : ¬ 64 ≤ n := by omega
    simp [RegRow.find, hi, h64]
    omega
  rw [findRow, hfind]

/-- A row of 64 that stand 0x20 apart has its register `n` at its offset and `n` times 0x20. -/
theorem findRow_timer {off n : Nat} (l : List FieldSpec) (rs : List RegRow) (hn : n < 64) :
    findRow (⟨off, 64, 0x20, 1, 0, l⟩ :: rs) (off + n * 0x20) = some (⟨off, 64, 0x20, 1, 0, l⟩, n, 0) := by
  have hfind : RegRow.find ⟨off, 64, 0x20, 1, 0, l⟩ (off + n * 0x20) = some (n, 0) := by
    have h64 : ¬ 64 ≤ n := by omega
    simp [RegRow.find, h64, hn]
  rw [findRow, hfind]

/-- From offset 0x1000 of the Sundial's block on there are the timers' rows alone. -/
theorem regAt_timers {a o : Nat} (ha : a = 0x100000 + o) (hl : 0x1000 ≤ o) (hu : o < 0x1800) :
    regAt a = findRow (regsSDL.drop 13) o := by
  have hblk : a / 0x100000 = 1 := by omega
  have hoff : a % 0x100000 = o := by omega
  have hne : ∀ off < 0x1000, o ≠ off := by omega
  rw [regAt, hblk, hoff]
  simp only [regsOf, regsSDL, List.cons_append, List.nil_append]
  iterate 13 rw [findRow_one _ _ (hne _ (by decide))]
  rfl

theorem regAt_tmrCmpLo {n : Nat} (h : n < 64) :
    regAt (R.SDL_TMR_CMP_LO n) = some (⟨0x1000, 64, 0x20, 1, 0, [⟨31, 0, .rw, 0⟩]⟩, n, 0) := by
  rw [regAt_timers (o := 0x1000 + n * 0x20) (by unfold R.SDL_TMR_CMP_LO; omega) (by omega) (by omega)]
  exact findRow_timer _ _ h

theorem regAt_tmrCmpHi {n : Nat} (h : n < 64) :
    regAt (R.SDL_TMR_CMP_HI n) = some (⟨0x1004, 64, 0x20, 1, 0, [⟨31, 0, .rw, 0⟩]⟩, n, 0) := by
  rw [regAt_timers (o := 0x1004 + n * 0x20) (by unfold R.SDL_TMR_CMP_HI; omega) (by omega) (by omega)]
  exact (findRow_timer_other _ _ h (by omega) (by omega)).trans (findRow_timer _ _ h)

theorem regAt_tmrCtrl {n : Nat} (h : n < 64) :
    regAt (R.SDL_TMR_CTRL n) = some (⟨0x100c, 64, 0x20, 1, 0, [⟨0, 0, .rw, 0⟩, ⟨2, 1, .rw, 0⟩, ⟨13, 8, .rw, 0⟩]⟩, n, 0) := by
  rw [regAt_timers (o := 0x100c + n * 0x20) (by unfold R.SDL_TMR_CTRL; omega) (by omega) (by omega)]
  iterate 3 refine (findRow_timer_other _ _ h (by omega) (by omega)).trans ?_
  exact findRow_timer _ _ h

theorem regAt_tmrMissed {n : Nat} (h : n < 64) :
    regAt (R.SDL_TMR_MISSED n) = some (⟨0x1014, 64, 0x20, 1, 0, [⟨15, 0, .rc, 0⟩]⟩, n, 0) := by
  rw [regAt_timers (o := 0x1014 + n * 0x20) (by unfold R.SDL_TMR_MISSED; omega) (by omega) (by omega)]
  iterate 5 refine (findRow_timer_other _ _ h (by omega) (by omega)).trans ?_
  exact findRow_timer _ _ h

/-! Who reaches them (R30, R37). -/

/-- `a` is the address of a register of timer `n`. -/
def IsTimerReg (n a : Nat) : Prop :=
  n < 64 ∧ 0x101000 + n * 0x20 ≤ a ∧ a < 0x101000 + n * 0x20 + 0x20 ∧ a % 4 = 0 ∧ (regAt a).isSome = true

/-- A row of 64 that stand 0x20 apart has one register in each timer's 0x20 bytes. -/
theorem IsTimerReg.of_row {n base : Nat} {row : RegRow × Nat × Nat} (h : n < 64) (hl : 0x101000 ≤ base) (hu : base < 0x101020)
    (h4 : base % 4 = 0) (hrow : regAt (base + n * 0x20) = some row) : IsTimerReg n (base + n * 0x20) :=
  ⟨h, by omega, by omega, by omega, by rw [hrow]; rfl⟩

theorem IsTimerReg.cmpLo {n : Nat} (h : n < 64) : IsTimerReg n (R.SDL_TMR_CMP_LO n) :=
  .of_row h (by decide) (by decide) (by decide) (regAt_tmrCmpLo h)
theorem IsTimerReg.cmpHi {n : Nat} (h : n < 64) : IsTimerReg n (R.SDL_TMR_CMP_HI n) :=
  .of_row h (by decide) (by decide) (by decide) (regAt_tmrCmpHi h)
theorem IsTimerReg.ctrl {n : Nat} (h : n < 64) : IsTimerReg n (R.SDL_TMR_CTRL n) :=
  .of_row h (by decide) (by decide) (by decide) (regAt_tmrCtrl h)
theorem IsTimerReg.missed {n : Nat} (h : n < 64) : IsTimerReg n (R.SDL_TMR_MISSED n) :=
  .of_row h (by decide) (by decide) (by decide) (regAt_tmrMissed h)

/-- A timer's registers are none of the mailbox's copies. -/
theorem IsTimerReg.copyOf {n a : Nat} (h : IsTimerReg n a) : copyOf a = a := by
  obtain ⟨-, hl, -⟩ := h
  exact if_neg (by omega)

/-- The owner of a timer finds its registers on its page (R30, R62). -/
theorem IsTimerReg.pageAt {n a : Nat} (h : IsTimerReg n a) (p : Part) :
    p.pageAt (p.get (F.SDL_TMR_OWNER_PLOT n)) (a / 0x100000) (a % 0x100000) = .reg a := by
  obtain ⟨hn, hl, hu, -, hrow⟩ := h
  have hblk : a / 0x100000 = 1 := by omega
  have haddr : 1 * 0x100000 + a % 0x100000 = a := by omega
  have hindex : (a % 0x100000 - 0x1000) / 0x20 = n := by omega
  have hfirst : ¬ a % 0x100000 < 0x0C := by omega
  have htimers : 0x1000 ≤ a % 0x100000 ∧ a % 0x100000 < 0x1800 := by omega
  rw [Part.pageAt, hblk]
  simp only [haddr, hindex, hfirst, htimers, slotHit, hrow]
  simp

/-- Plot 0 firmware, or the timer's owner, reaches a register of the timer. -/
theorem IsTimerReg.hit {n a : Nat} (h : IsTimerReg n a) {s : State} {w : Who}
    (hw : Reaches s w (s.part.get (F.SDL_TMR_OWNER_PLOT n))) (write : Bool) : s.part.hit w (w.addrOf a) 4 write = .reg a := by
  have hpage := h.pageAt s.part
  have hcopy := h.copyOf
  obtain ⟨hn, hl, hu, h4, hrow⟩ := h
  obtain ⟨hk, -, hplot⟩ := hw
  by_cases hp : w.plot = 0
  · exact s.part.hit_firmware write hk hp (by omega) h4 (by rw [implemented, hcopy]; exact hrow)
  · have howner := hplot.resolve_left hp
    have hp' : w.plot.val ≠ 0 := fun h => hp (Fin.ext h)
    exact s.part.hit_page write hk hp' (by omega) (by omega) h4 (by rw [howner]; exact hpage)

theorem IsTimerReg.writeOf {n a : Nat} (h : IsTimerReg n a) {s : State} {w : Who}
    (hw : Reaches s w (s.part.get (F.SDL_TMR_OWNER_PLOT n))) (v : Word) :
    s.part.writeOf s.ns w a v = s.part.regStore s.ns w 0 a v := by
  rw [Part.writeOf, Part.registerWrite, h.hit hw true]
  exact if_pos h.copyOf

theorem IsTimerReg.readOf {n a : Nat} (h : IsTimerReg n a) {s : State} {w : Who}
    (hw : Reaches s w (s.part.get (F.SDL_TMR_OWNER_PLOT n))) :
    s.part.readOf s.ns w a = (s.part.regLoad s.ns w a).2.answer w (s.part.regLoad s.ns w a).1 := by
  rw [Part.readOf, Part.registerRead, h.hit hw false]
  simp only [h.copyOf]

theorem IsTimerReg.block {n a : Nat} (h : IsTimerReg n a) : a / 0x100000 = 1 := by
  obtain ⟨hn, hl, hu, -⟩ := h
  omega

/-! What a write does. -/

/-- The rules of the timers' registers among those of the Sundial's block. -/
theorem Part.writeFront_tmrCmpLo (p : Part) (t : Nat) (w : Who) (i : Nat) (v : Word) :
    p.writeFront t w (R.SDL_TMR_CMP_LO 0) i v =
      some (p.modSdl (fun u => { u with held := FMap.put (fun _ => none) u.held i (some v) })) := by
  unfold Part.writeFront
  iterate 5 rw [if_neg (by decide)]
  exact if_pos rfl

theorem Part.writeFront_tmrCmpHi (p : Part) (t : Nat) (w : Who) (i : Nat) (v : Word) :
    p.writeFront t w (R.SDL_TMR_CMP_HI 0) i v = some (p.tmrCommit i v) := by
  unfold Part.writeFront
  iterate 6 rw [if_neg (by decide)]
  exact if_pos rfl

theorem Part.writeFront_tmrCtrl (p : Part) (t : Nat) (w : Who) (i : Nat) (v : Word) :
    p.writeFront t w (R.SDL_TMR_CTRL 0) i v = if p.tmrRefused i v then some (p.refused t w (R.SDL_TMR_CTRL i)) else none := by
  unfold Part.writeFront
  iterate 7 rw [if_neg (by decide)]
  exact if_pos rfl

/-- A write of CMP_LO is held until CMP_HI is written (R66). -/
theorem Part.regStore_tmrCmpLo (p : Part) (t : Nat) (w : Who) {n : Nat} (v : Word) (h : n < 64) :
    p.regStore t w 0 (R.SDL_TMR_CMP_LO n) v =
      p.modSdl (fun u => { u with held := FMap.put (fun _ => none) u.held n (some v) }) := by
  rw [p.regStore_sdl t w 0 v (IsTimerReg.cmpLo h).block (regAt_tmrCmpLo h),
    show 0x100000 + 0x1000 = R.SDL_TMR_CMP_LO 0 from rfl, Part.writeFront_tmrCmpLo, Option.getD_some]

/-- A write of CMP_HI takes both halves into effect (R66). -/
theorem Part.regStore_tmrCmpHi (p : Part) (t : Nat) (w : Who) {n : Nat} (v : Word) (h : n < 64) :
    p.regStore t w 0 (R.SDL_TMR_CMP_HI n) v = p.tmrCommit n v := by
  rw [p.regStore_sdl t w 0 v (IsTimerReg.cmpHi h).block (regAt_tmrCmpHi h),
    show 0x100000 + 0x1004 = R.SDL_TMR_CMP_HI 0 from rfl, Part.writeFront_tmrCmpHi, Option.getD_some]

/-- A write of CTRL sets its three fields, or is refused as a whole (R64). -/
theorem Part.regStore_tmrCtrl (p : Part) (t : Nat) (w : Who) {n : Nat} (v : Word) (h : n < 64) :
    p.regStore t w 0 (R.SDL_TMR_CTRL n) v =
      if p.tmrRefused n v then p.refused t w (R.SDL_TMR_CTRL n)
      else ((p.put (F.SDL_TMR_CTRL_EN n) (v.bits 0 0)).put (F.SDL_TMR_CTRL_TARGET n) (v.bits 2 1)).put
        (F.SDL_TMR_CTRL_CHANNEL n) (v.bits 13 8) := by
  rw [p.regStore_sdl t w 0 v (IsTimerReg.ctrl h).block (regAt_tmrCtrl h),
    show 0x100000 + 0x100c = R.SDL_TMR_CTRL 0 from rfl, Part.writeFront_tmrCtrl]
  split <;> rfl

/-- A field written with the bits of a word at its own place holds them. -/
theorem Part.get_put_bits (p : Part) (f : Fld) (v : Word) (h : f.hi < 32) : (p.put f (v.bits f.hi f.lo)).get f = v.bits f.hi f.lo :=
  (Part.get_put_self p f _ h).trans (Nat.mod_eq_of_lt (Word.bits_lt v _ _))

/-- When R64 refuses a write of CTRL. -/
theorem Part.tmrRefused_iff (p : Part) (n : Nat) (v : Word) :
    p.tmrRefused n v = true ↔
      v.bits 2 1 = 3 ∨ (v.bits 2 1 ≠ 0 ∧ p.chOwner (v.bits 13 8) ≠ p.get (F.SDL_TMR_OWNER_PLOT n)) := by
  simp [Part.tmrRefused, Part.tmrOwner]

/-- An entry of the access log changes no register but the fault unit's; for a fenced plot it is counted with the plot's registers. -/
theorem Part.accLog_reg_outside (p : Part) (t : Nat) (w : Who) (write : Bool) (outcome addr : Nat) {a : Nat}
    (hplt : a / 0x100000 ≠ 10) (hflt : a / 0x100000 ≠ 18) : (p.accLog t w write outcome addr).reg a = p.reg a := by
  by_cases hf : p.fenced w.plot.val = true ∧ w.plot.val ≠ 0
  · obtain ⟨hfenced, hplot⟩ := hf
    have hcounted : p.accLog t w write outcome addr = p.drainFault w.plot.val := by
      simp [Part.accLog, hfenced, hplot]
    have hlt := w.plot.isLt
    rw [hcounted]
    exact Part.reg_put_other _ _ _ (show a ≠ 0xa00018 + w.plot.val * 0x100 by omega)
  · have hlogged : p.accLog t w write outcome addr =
        ((p.accEntry t w write outcome addr).iff (decide (32 ≤ p.get F.FLT_ACC_HEAD_COUNT)) (·.fltEvent 7)).fltEvent 0 := by
      have hcond : (decide (w.plot.val ≠ 0) && p.fenced w.plot.val) = false := by
        cases hb : p.fenced w.plot.val <;> simp_all
      unfold Part.accLog
      rw [hcond]
      rfl
    have hentry : p.FaultUnitOnly (p.accEntry t w write outcome addr) :=
      (Part.FaultUnitOnly.logWords p _ _ _ (fun k hk => (flt_acc_log_place _ hk).1)).trans (.put _ _ _ rfl)
    have hne : a ≠ R.FLT_EVENTS := fun e => hflt (by rw [e]; rfl)
    rw [hlogged, Part.fltEvent_reg_other _ _ hne, Part.iff]
    split
    · exact (Part.fltEvent_reg_other _ _ hne).trans (hentry.2 a hflt)
    · exact hentry.2 a hflt

/-! What a read does. -/

/-- A read of MISSED answers the count and clears it (R67). -/
theorem Part.regLoad_tmrMissed (p : Part) (t : Nat) (w : Who) {n : Nat} (h : n < 64) :
    p.regLoad t w (R.SDL_TMR_MISSED n) =
      (BitVec.ofNat 32 (p.get (F.SDL_TMR_MISSED_MISSED n)), p.put (F.SDL_TMR_MISSED_MISSED n) 0) := by
  have hblk := (IsTimerReg.missed h).block
  have hplain : p.regPlain (R.SDL_TMR_MISSED n) = p.get (F.SDL_TMR_MISSED_MISSED n) := by
    rw [Part.regPlain, regAt_tmrMissed h]
    simp [readFields, Part.get, F.SDL_TMR_MISSED_MISSED]
  unfold Part.regLoad
  rw [regAt_tmrMissed h, hplain]
  simp only [p.gatedReg_sdl hblk, p.ringShut_sdl hblk, hblk, rowKey]
  rfl

/-- Settles O20: what each register's own rule leaves, for plot 0 firmware and the timer's owner alike. -/
theorem timerRegisters : Obligations.TimerRegisters := by
  intro w n v s ⟨hin, hstep⟩ hn hreach
  have hcan : (decide (n < 64) && s.part.issues w) = true := by simp [hn, hreach.2.1]
  have hctrl := next_sdlTmrCtrlWrite w n v s hin hcan
  rw [(IsTimerReg.ctrl hn).writeOf hreach, s.part.regStore_tmrCtrl s.ns w v hn] at hctrl
  refine ⟨?cmpLo, ?cmpHi, fun htarget hchannel => ?ctrl, fun hrefused => ?refused, ?missed⟩
  case cmpLo =>
    have he := next_sdlTmrCmpLoWrite w n v s hin hcan
    rw [(IsTimerReg.cmpLo hn).writeOf hreach, s.part.regStore_tmrCmpLo s.ns w v hn] at he
    exact completes_of_still he hstep ⟨rfl, FMap.get_put_self (fun _ => none) s.part.sdl.held n (some v),
      fun i hi => FMap.get_put_other (fun _ => none) s.part.sdl.held (some v) hi, rfl⟩
  case cmpHi =>
    have he := next_sdlTmrCmpHiWrite w n v s hin hcan
    rw [(IsTimerReg.cmpHi hn).writeOf hreach, s.part.regStore_tmrCmpHi s.ns w v hn] at he
    have hne : R.SDL_TMR_CMP_LO n ≠ R.SDL_TMR_CMP_HI n := by unfold R.SDL_TMR_CMP_LO R.SDL_TMR_CMP_HI; omega
    refine completes_of_still he hstep ⟨Part.reg_setReg_self _ _ _, ?_,
      FMap.get_put_self (fun _ => none) s.part.sdl.held n none, fun a ha => ?_⟩
    · exact (Part.reg_setReg_other _ _ hne).trans (Part.reg_setReg_self _ _ _)
    · simp only [List.mem_cons, List.not_mem_nil, or_false, not_or] at ha
      exact (Part.reg_setReg_other _ _ ha.2).trans (Part.reg_setReg_other _ _ ha.1)
  case ctrl =>
    have hgood : ¬ s.part.tmrRefused n v = true := by
      rw [Part.tmrRefused_iff]
      exact fun h => h.elim htarget (fun hc => hc.2 (hchannel hc.1))
    rw [if_neg hgood] at hctrl
    refine completes_of_still hctrl hstep ⟨?_, ?_, Part.get_put_bits _ (F.SDL_TMR_CTRL_CHANNEL n) v (show 13 < 32 by decide),
      regsOnly_of_regs rfl fun a ha => ?_⟩
    · calc _ = _ := Part.get_put_disjoint _ (F.SDL_TMR_CTRL_CHANNEL n) (F.SDL_TMR_CTRL_EN n) _ (.inl (show 0 < 8 by decide))
        _ = _ := Part.get_put_disjoint _ (F.SDL_TMR_CTRL_TARGET n) (F.SDL_TMR_CTRL_EN n) _ (.inl (show 0 < 1 by decide))
        _ = _ := Part.get_put_bits _ (F.SDL_TMR_CTRL_EN n) v (show 0 < 32 by decide)
    · calc _ = _ := Part.get_put_disjoint _ (F.SDL_TMR_CTRL_CHANNEL n) (F.SDL_TMR_CTRL_TARGET n) _ (.inl (show 2 < 8 by decide))
        _ = _ := Part.get_put_bits _ (F.SDL_TMR_CTRL_TARGET n) v (show 2 < 32 by decide)
    · have hne : a ≠ R.SDL_TMR_CTRL n := List.ne_of_not_mem_cons ha
      calc _ = _ := Part.reg_put_other _ _ _ hne
        _ = _ := Part.reg_put_other _ _ _ hne
        _ = _ := Part.reg_put_other _ _ _ hne
  case refused =>
    rw [if_pos ((s.part.tmrRefused_iff n v).2 hrefused)] at hctrl
    have hblk := (IsTimerReg.ctrl hn).block
    exact ⟨_, hctrl, (State.settle_reg _ _ _).trans (s.part.accLog_reg_outside s.ns w true 3 _ (by omega) (by omega))⟩
  case missed =>
    have he := next_sdlTmrMissedRead w n s hin hcan
    rw [(IsTimerReg.missed hn).readOf hreach, s.part.regLoad_tmrMissed s.ns w hn] at he
    exact completes_of_still he hstep
      ⟨rfl, Part.get_put_self _ (F.SDL_TMR_MISSED_MISSED n) 0 (show 15 < 32 by decide), fun a ha => Part.reg_put_other _ _ _ ha⟩

end Sys2Proof.Machine
end

section
/-! SUPPORT. The two parts of the rate (R689), and the update of a second in holdover (R59, R60). -/

namespace Sys2Proof.Machine

open Sys2Proof.Claim

/-! Which registers an operation changes. -/

/-- No register of `q` differs from `p`'s but those listed. -/
def Part.RegsWithin (l : List Nat) (p q : Part) : Prop := ∀ a, a ∉ l → q.reg a = p.reg a

theorem Part.RegsWithin.refl (l : List Nat) (p : Part) : p.RegsWithin l p := fun _ _ => rfl

theorem Part.RegsWithin.trans {l : List Nat} {p q r : Part} (h : p.RegsWithin l q) (k : q.RegsWithin l r) : p.RegsWithin l r :=
  fun a ha => (k a ha).trans (h a ha)

/-- One more write of a field whose register is listed. -/
theorem Part.RegsWithin.put {l : List Nat} {p q : Part} (h : p.RegsWithin l q) (f : Fld) (n : Nat) (hf : f.reg ∈ l) :
    p.RegsWithin l (q.put f n) :=
  fun a ha => (Part.reg_put_other q f n (a := a) (by rintro rfl; exact ha hf)).trans (h a ha)

/-! The rate and its parts. -/

/-- The rate in effect is the sum of its two parts, clamped. -/
@[simp] theorem Part.setRates_rate (p : Part) (base slew : Int) :
    (p.setRates base slew).rate = clampInt (-rateClamp) rateClamp (base + slew) :=
  (Part.rate_congr (Part.reg_put_other _ _ _ (by decide))).trans (Part.rate_writeRate _ _)

theorem Part.RegsWithin.setRates (p : Part) (base slew : Int) :
    p.RegsWithin [R.SDL_RATE, R.SDL_STATUS] (p.setRates base slew) :=
  ((Part.RegsWithin.refl _ p).put F.SDL_RATE_RATE _ (by decide)).put F.SDL_STATUS_SLEWING _ (by decide)

/-- A new base rate comes with a correction: that of before, or what a SET_TIME slew in progress needs. -/
theorem Part.setBase_cases (p : Part) (t : Nat) (base : Int) :
    ∃ (u : SdlUnit) (slew : Int), u.step = p.sdl.step ∧ p.setBase t base = { p with sdl := u }.setRates base slew := by
  unfold Part.setBase
  split
  · exact ⟨{ p.sdl with slewLeft := p.sdl.leftAt t, slewAt := t }, _, rfl, rfl⟩
  · exact ⟨p.sdl, _, rfl, rfl⟩

/-! Holdover. -/

/-- What a holdover update leaves once the base rate is chosen. -/
def Part.holdoverTo (p : Part) (t : Nat) (T base : Int) (free : Nat) : Part :=
  (({ p with free := free }.setBase t base).modSdl (fun u => { u with boundedSoFar := p.stillBounded t T })).put
    F.SDL_STATUS_HOLD_BOUNDED (if p.stillBounded t T && p.on F.SDL_STATUS_HOLDOVER then 1 else 0)

/-- The base rate of a holdover update is the curve's where it has a value. -/
theorem Part.holdover_eq (p : Part) (t : Nat) (T : Int) :
    ∃ base free, p.holdover t T = p.holdoverTo t T base free ∧ ∀ r, p.holdRate T = some r → base = r ∧ free = p.free := by
  unfold Part.holdover
  cases hr : p.holdRate T with
  | some r => exact ⟨r, p.free, rfl, fun _ h => ⟨Option.some.inj h, rfl⟩⟩
  | none => exact ⟨_, p.free + 1, rfl, fun _ h => nomatch h⟩

/-- Settles O21: the branches of the curve's value and of the correction, and what setting the two parts of the rate leaves. -/
theorem holdoverFollowsCurve : Obligations.HoldoverFollowsCurve := by
  intro temp s ⟨hin, hstep⟩ hruns
  have he := next_holdoverRateUpdate temp s hin hruns
  obtain ⟨base, free, hto, hcurve⟩ := s.part.holdover_eq s.ns temp
  obtain ⟨u, slew, hu, hbase⟩ := Part.setBase_cases { s.part with free := free } s.ns base
  rw [hto, Part.holdoverTo, hbase] at he
  refine completes_of_still he (hu.trans hstep) ⟨hcurve, ?rate, ?bounded, ?frame, rfl⟩
  case rate => exact (Part.rate_congr (Part.reg_put_other _ _ _ (by decide))).trans (Part.setRates_rate _ base slew)
  case bounded =>
    refine (Part.get_put_self _ F.SDL_STATUS_HOLD_BOUNDED _ (by decide)).trans ?_
    cases s.part.stillBounded s.ns temp && s.part.on F.SDL_STATUS_HOLDOVER <;> rfl
  case frame =>
    exact (Part.RegsWithin.setRates { s.part with free := free, sdl := u } base slew).put F.SDL_STATUS_HOLD_BOUNDED _ (by decide)

end Sys2Proof.Machine
end

section
/-! SUPPORT. The events of the Sundial (R43, R55, R58, R61, R689, R690): what each leaves, and the bound on a captured stamp. -/

namespace Sys2Proof.Machine

open Sys2Proof.Claim

/-! The second and the PPS ball (R61, R690). -/

/-- A second outside the running phase takes the sample and raises PPS, and does no more. -/
theorem Part.second_idle (p : Part) (t : Nat) (hottest tcxo : Int) (h : p.live = false) :
    p.second t hottest tcxo =
      { p with
        pins := { p.pins with pps := p.pins.pps || p.on F.SDL_CAP_CTRL_PPS_EN },
        sdl := { p.sdl with
          lastSec := t / 1000000000, temps := ((t / 1000000000, tcxo) :: p.sdl.temps).take 3601 } } := by
  unfold Part.second
  extract_lets sec q q'
  have hlive : q'.live = false := by
    unfold q' Part.iff
    split <;> exact h
  rw [if_neg (by simp [hlive])]
  unfold q' Part.iff
  cases p.on F.SDL_CAP_CTRL_PPS_EN
  · rw [Bool.or_false]; rfl
  · rw [Bool.or_true]; rfl

/-! REFCLK (R43). -/

theorem Part.RegsWithin.refLoss (p : Part) : p.RegsWithin [R.SDL_STATUS, R.SDL_EVENTS] p.refLoss :=
  (((Part.RegsWithin.refl _ p).put F.SDL_STATUS_SRC 2 (by decide)).put F.SDL_EVENTS_REF_LOST 1 (by decide)).put
    F.SDL_STATUS_HOLD_BOUNDED 0 (by decide)

theorem Part.refLoss_fields (p : Part) :
    p.refLoss.get F.SDL_STATUS_SRC = 2 ∧ p.refLoss.get F.SDL_EVENTS_REF_LOST = 1 ∧
      p.refLoss.get F.SDL_STATUS_HOLD_BOUNDED = 0 := by
  simp (disch := decide) only [Part.refLoss, Part.set, Part.clr, Part.modSdl_get, Part.get_put_self, Part.get_put_disjoint,
    Part.get_put_reg]
  decide

/-- REFCLK's return after its loss is shown by REF_RESTORED. -/
theorem Part.refReturn_lost {p : Part} (h : p.pins.refLost = true) :
    p.refReturn = (p.modPins (fun u => { u with refclk := true })).set F.SDL_EVENTS_REF_RESTORED := by
  rw [Part.refReturn, h]
  rfl

/-! The servo (R57, R58, R689). -/

/-- A message without an estimate changes the port's state, and may end the time for which the estimate has stayed within bounds. -/
theorem Part.ptpMessage_none (p : Part) (t n : Nat) (st : PtpState) :
    ∃ since, p.ptpMessage t n st none = { p with sdl := { p.sdl with ptp := p.sdl.ptp.set n st, withinSince := since } } := by
  unfold Part.ptpMessage
  extract_lets q
  dsimp only
  split
  · exact ⟨p.sdl.withinSince, rfl⟩
  · exact ⟨none, rfl⟩

/-- While LOCKED, an estimate that asks for no step sets the base rate and a correction that keeps their sum within the clamp. -/
theorem Part.ptpMessage_locked (p : Part) (t n : Nat) {off : Int} (freq slew : Int) (hoff : off ≤ (p.img.stepNs : Int))
    (hlock : p.get F.SDL_STATUS_LOCKED = 1) :
    ∃ u : SdlUnit, p.ptpMessage t n .slave (some (off, freq, slew)) =
      { p with sdl := u }.setRates freq (clampInt (-rateClamp - freq) (rateClamp - freq) slew) ∧ u.step = p.sdl.step := by
  have hon : p.on F.SDL_STATUS_LOCKED = true := (p.on_iff _).2 hlock
  have hstep : ¬ ((p.img.stepNs : Int) < off) := by omega
  simp only [Part.ptpMessage, if_true, Part.servo, Part.modSdl_on, hon]
  rw [if_neg (show ¬ (((p.modSdl _).img.stepNs : Int) < off) from hstep), if_neg (by simp)]
  exact ⟨_, rfl, rfl⟩

/-- A correction chosen for a base rate within the clamp keeps the sum within it. -/
theorem clampInt_sum {base : Int} (slew : Int) (hl : -rateClamp ≤ base) (hu : base ≤ rateClamp) :
    clampInt (-rateClamp) rateClamp (base + clampInt (-rateClamp - base) (rateClamp - base) slew) =
      base + clampInt (-rateClamp - base) (rateClamp - base) slew := by
  have hle : -rateClamp - base ≤ rateClamp - base := by omega
  have h1 := le_clampInt hle slew
  have h2 := clampInt_le hle slew
  exact clampInt_of_mem (by omega) (by omega)

/-- While TIME_VALID is 1 it does not rise. -/
theorem Part.timeValid_valid {p : Part} (t : Nat) (h : p.get F.SDL_STATUS_TIME_VALID = 1) : p.timeValid t = p := by
  rw [Part.timeValid, if_pos ((p.on_iff _).2 h)]

/-- The registers and the unit of the Sundial as LOCKED rises. -/
def Part.lockRisen (p : Part) (t : Nat) : Part :=
  ((((p.set F.SDL_STATUS_LOCKED).set F.SDL_EVENTS_LOCK_GAINED).clr F.SDL_STATUS_HOLDOVER).clr F.SDL_STATUS_HOLD_BOUNDED).modSdl
    (fun u => { u with lockedSincePor := true, lockedAt := t, slewSet := false, slewLeft := 0 })

/-- With TIME_VALID 1 already, a gained lock counts its metric and does no more. -/
theorem Part.lockGained_valid {p : Part} (t : Nat) (h : p.get F.SDL_STATUS_TIME_VALID = 1) :
    p.lockGained t = (p.lockRisen t).metric 9 0 1 := by
  have hvalid : (p.lockRisen t).get F.SDL_STATUS_TIME_VALID = 1 := by
    simp (disch := decide) only [Part.lockRisen, Part.set, Part.clr, Part.modSdl_get, Part.get_put_disjoint, h]
  exact congrArg (fun q : Part => q.metric 9 0 1) (Part.timeValid_valid t hvalid)

theorem Part.lockRisen_fields (p : Part) (t : Nat) :
    (p.lockRisen t).get F.SDL_STATUS_LOCKED = 1 ∧ (p.lockRisen t).get F.SDL_EVENTS_LOCK_GAINED = 1 ∧
      (p.lockRisen t).get F.SDL_STATUS_HOLDOVER = 0 ∧ (p.lockRisen t).get F.SDL_STATUS_HOLD_BOUNDED = 0 := by
  simp (disch := decide) only [Part.lockRisen, Part.set, Part.clr, Part.modSdl_get, Part.get_put_self, Part.get_put_disjoint,
    Part.get_put_reg]
  decide

theorem Part.RegsWithin.lockRisen (p : Part) (t : Nat) : p.RegsWithin [R.SDL_STATUS, R.SDL_EVENTS] (p.lockRisen t) :=
  ((((Part.RegsWithin.refl _ p).put F.SDL_STATUS_LOCKED 1 (by decide)).put F.SDL_EVENTS_LOCK_GAINED 1 (by decide)).put
    F.SDL_STATUS_HOLDOVER 0 (by decide)).put F.SDL_STATUS_HOLD_BOUNDED 0 (by decide)

/-- The registers of a lock that is lost: LOCKED clears, and holdover begins. -/
def Part.lockFallen (p : Part) (t : Nat) : Part :=
  (((p.clr F.SDL_STATUS_LOCKED).set F.SDL_STATUS_HOLDOVER).set F.SDL_EVENTS_LOCK_LOST).put F.SDL_STATUS_HOLD_BOUNDED
    (if p.boundStarts t then 1 else 0)

/-- A lock that is lost changes its registers and the Sundial's unit, and orders no step. -/
theorem Part.lockLost_locked {p : Part} (t : Nat) (h : p.get F.SDL_STATUS_LOCKED = 1) :
    ∃ u : SdlUnit, p.lockLost t = { p.lockFallen t with sdl := u } ∧ u.step = p.sdl.step := by
  unfold Part.lockLost
  rw [(p.on_iff _).2 h]
  exact ⟨_, rfl, rfl⟩

theorem Part.lockFallen_fields (p : Part) (t : Nat) :
    (p.lockFallen t).get F.SDL_STATUS_LOCKED = 0 ∧ (p.lockFallen t).get F.SDL_STATUS_HOLDOVER = 1 ∧
      (p.lockFallen t).get F.SDL_EVENTS_LOCK_LOST = 1 ∧
      (p.lockFallen t).get F.SDL_STATUS_HOLD_BOUNDED = (p.boundStarts t).toNat := by
  simp (disch := decide) only [Part.lockFallen, Part.set, Part.clr, Part.get_put_self, Part.get_put_disjoint, Part.get_put_reg]
  cases p.boundStarts t <;> decide

theorem Part.RegsWithin.lockFallen (p : Part) (t : Nat) : p.RegsWithin [R.SDL_STATUS, R.SDL_EVENTS] (p.lockFallen t) :=
  ((((Part.RegsWithin.refl _ p).put F.SDL_STATUS_LOCKED 0 (by decide)).put F.SDL_STATUS_HOLDOVER 1 (by decide)).put
    F.SDL_EVENTS_LOCK_LOST 1 (by decide)).put F.SDL_STATUS_HOLD_BOUNDED _ (by decide)

/-- The end of a slew leaves no correction. -/
theorem Part.slewEnd_eq (p : Part) :
    p.slewEnd = { p with sdl := { p.sdl with slewSet := false, slewLeft := 0 } }.setRates p.sdl.baseRate 0 := rfl

theorem Part.setRates_slewing_zero (p : Part) (base : Int) : (p.setRates base 0).get F.SDL_STATUS_SLEWING = 0 :=
  Part.get_put_self _ F.SDL_STATUS_SLEWING _ (by decide)

/-! Captured stamps (R55). -/

/-- A captured stamp lies within the bound of the Sundial's source. -/
theorem Part.captured_bound (p : Part) (t : Nat) :
    t ≤ (p.captured t).1 + p.capError ∧ (p.captured t).1 ≤ t + p.capError := by
  have hdraw : (Config.freeValue p.free).toNat % (2 * p.capError + 1) < 2 * p.capError + 1 := Nat.mod_lt _ (by omega)
  have hstamp : (p.captured t).1 = t + (Config.freeValue p.free).toNat % (2 * p.capError + 1) - p.capError := rfl
  omega

/-- The bound is at most a period of 32.768 kHz. -/
theorem Part.capError_le (p : Part) : p.capError ≤ 30518 := by
  unfold Part.capError
  split
  · decide
  · split <;> decide

/-- An egress stamp in its registers, and the free value that it drew. -/
theorem Part.egressStamp_eq (p : Part) (t n seq : Nat) :
    p.egressStamp t n seq =
      (({ p with free := p.free + 1 }.put64 (F.ETH_TX_TS_LO_TS n) (F.ETH_TX_TS_HI_TS n) (p.captured t).1).put
        (F.ETH_TX_TS_ID_SEQ_ID n) seq).set (F.ETH_TX_TS_ID_VALID n) := rfl

/-- The registers of an egress stamp of a port. -/
def egressRegs (n : Nat) : List Nat := [R.ETH_TX_TS_LO n, R.ETH_TX_TS_HI n, R.ETH_TX_TS_ID n]

theorem Part.RegsWithin.egressStamp (p : Part) (t n seq : Nat) : p.RegsWithin (egressRegs n) (p.egressStamp t n seq) :=
  ((((Part.RegsWithin.refl _ p).put (F.ETH_TX_TS_LO_TS n) _ List.mem_cons_self).put (F.ETH_TX_TS_HI_TS n) _
    (List.mem_cons_of_mem _ List.mem_cons_self)).put (F.ETH_TX_TS_ID_SEQ_ID n) _
    (List.mem_cons_of_mem _ (List.mem_cons_of_mem _ List.mem_cons_self))).put (F.ETH_TX_TS_ID_VALID n) _
    (List.mem_cons_of_mem _ (List.mem_cons_of_mem _ List.mem_cons_self))

/-- What the registers of an egress stamp show. -/
theorem Part.egressStamp_fields (p : Part) (t n : Nat) {seq : Nat} (hseq : seq < 65536) (ht : t + 30518 < 2 ^ 64) :
    (p.egressStamp t n seq).get (F.ETH_TX_TS_ID_SEQ_ID n) = seq ∧ (p.egressStamp t n seq).get (F.ETH_TX_TS_ID_VALID n) = 1 ∧
      (p.egressStamp t n seq).get64 (F.ETH_TX_TS_LO_TS n) (F.ETH_TX_TS_HI_TS n) = (p.captured t).1 := by
  have hlohi : R.ETH_TX_TS_LO n ≠ R.ETH_TX_TS_HI n := by unfold R.ETH_TX_TS_LO R.ETH_TX_TS_HI; omega
  have hloid : R.ETH_TX_TS_LO n ≠ R.ETH_TX_TS_ID n := by unfold R.ETH_TX_TS_LO R.ETH_TX_TS_ID; omega
  have hhiid : R.ETH_TX_TS_HI n ≠ R.ETH_TX_TS_ID n := by unfold R.ETH_TX_TS_HI R.ETH_TX_TS_ID; omega
  have hstamp : (p.captured t).1 < 2 ^ 64 := by
    have := (p.captured_bound t).2
    have := p.capError_le
    omega
  rw [Part.egressStamp_eq]
  refine ⟨?seqId, Part.get_put_self _ (F.ETH_TX_TS_ID_VALID n) 1 (show 31 < 32 by decide), ?stamp⟩
  case seqId =>
    calc _ = _ := Part.get_put_disjoint _ (F.ETH_TX_TS_ID_VALID n) (F.ETH_TX_TS_ID_SEQ_ID n) _ (.inl (show 15 < 31 by decide))
      _ = _ := Part.get_put_self _ (F.ETH_TX_TS_ID_SEQ_ID n) seq (show 15 < 32 by decide)
      _ = seq := Nat.mod_eq_of_lt hseq
  case stamp =>
    refine Eq.trans ?_ (Part.get64_put64 { p with free := p.free + 1 } hlohi hstamp)
    have hkept : ∀ (q : Part) (f : Fld), f.reg ≠ R.ETH_TX_TS_ID n →
        ((q.put (F.ETH_TX_TS_ID_SEQ_ID n) seq).set (F.ETH_TX_TS_ID_VALID n)).get f = q.get f := fun q f hf =>
      (Part.get_put_reg _ (F.ETH_TX_TS_ID_VALID n) f 1 hf).trans (Part.get_put_reg q (F.ETH_TX_TS_ID_SEQ_ID n) f seq hf)
    rw [Part.get64, hkept _ (F.ETH_TX_TS_LO_TS n) hloid, hkept _ (F.ETH_TX_TS_HI_TS n) hhiid]
    rfl

/-! GPIO edges (R55). -/

/-- Adding a bit that is 0 sets it and leaves the others. -/
theorem testBit_add_two_pow {x g : Nat} (h : x.testBit g = false) :
    (x + 2 ^ g).testBit g = true ∧ ∀ i, i ≠ g → (x + 2 ^ g).testBit i = x.testBit i := by
  rw [Nat.add_comm]
  refine ⟨by rw [Nat.testBit_two_pow_add_eq, h]; rfl, fun i hi => ?_⟩
  rcases Nat.lt_or_gt_of_ne hi with hlt | hgt
  · exact Nat.testBit_two_pow_add_gt hlt x
  · have heven : x / 2 ^ g % 2 = 0 := by
      rw [Nat.testBit_eq_decide_div_mod_eq, decide_eq_false_iff_not] at h
      omega
    have hhigh : ∀ y : Nat, y.testBit i = (y / 2 ^ g / 2).testBit (i - g - 1) := fun y => by
      rw [Nat.div_div_eq_div_mul, ← Nat.pow_succ, Nat.testBit_div_two_pow]
      congr 1
      omega
    rw [hhigh, hhigh, Nat.add_comm, Nat.add_div_right _ (Nat.two_pow_pos g)]
    congr 1
    omega

/-- Taking away a bit that is 1 clears it and leaves the others. -/
theorem testBit_sub_two_pow {x g : Nat} (h : x.testBit g = true) :
    (x - 2 ^ g).testBit g = false ∧ ∀ i, i ≠ g → (x - 2 ^ g).testBit i = x.testBit i := by
  have hx : x = 2 ^ g + (x - 2 ^ g) := by have := Nat.ge_two_pow_of_testBit h; omega
  have hbit : (x - 2 ^ g).testBit g = false := by
    rw [hx, Nat.testBit_two_pow_add_eq] at h
    simpa using h
  refine ⟨hbit, fun i hi => ?_⟩
  have hadd := (testBit_add_two_pow hbit).2 i hi
  rw [Nat.add_comm, ← hx] at hadd
  exact hadd.symm

/-- The board's level on a GPIO, and the other levels as before. -/
theorem Part.setGpio_levels (p : Part) (g : Nat) (high : Bool) :
    (p.setGpio g high).pins.gpioIn.testBit g = high ∧
      ∀ i, i ≠ g → (p.setGpio g high).pins.gpioIn.testBit i = p.pins.gpioIn.testBit i := by
  unfold Part.setGpio Part.modPins
  dsimp only
  split
  · next hsame => exact ⟨hsame, fun _ _ => rfl⟩
  · next hdiff =>
    cases high with
    | true => exact testBit_add_two_pow (by simpa using hdiff)
    | false => exact testBit_sub_two_pow (by simpa using hdiff)

/-- Changes to the Shed's rules alone leave the rest of the part. -/
theorem Part.each_rules (p : Part) (l : List Nat) (f : Part → Nat → Part) (h : ∀ q k, ∃ rules, f q k = { q with rules := rules }) :
    ∃ rules, p.each l f = { p with rules := rules } := by
  unfold Part.each
  induction l generalizing p with
  | nil => exact ⟨p.rules, rfl⟩
  | cons k r ih =>
    obtain ⟨rules, hk⟩ := h p k
    obtain ⟨rules', hr⟩ := ih (f p k)
    exact ⟨rules', by rw [List.foldl_cons, hr, hk]⟩

/-- An enabled edge, while the queue has room, is captured; beside the level and the rules that see it nothing changes. -/
theorem Part.gpioEdge_captures (p : Part) (t g : Nat) (rising : Bool) (hlive : p.live = true)
    (hen : (if rising then p.get F.SDL_CAP_CTRL_RISE_EN else p.get F.SDL_CAP_CTRL_FALL_EN).testBit g = true)
    (hroom : p.sdl.caps.length < 32) :
    ∃ rules, p.gpioEdge t g rising =
      { p with
        pins := (p.setGpio g rising).pins, free := p.free + 1, rules := rules,
        sdl := { p.sdl with caps := p.sdl.caps ++ [{ gpio := g, rising := rising, stamp := (p.captured t).1 }] } } := by
  unfold Part.gpioEdge
  extract_lets q en x q' rules
  have hq : q.live = true := hlive
  have hen' : en.testBit g = true := hen
  have hq' : q' = { p with
      pins := (p.setGpio g rising).pins, free := p.free + 1,
      sdl := { p.sdl with caps := p.sdl.caps ++ [{ gpio := g, rising := rising, stamp := (p.captured t).1 }] } } := by
    unfold q'
    rw [if_pos hen']
    exact if_pos hroom
  rw [hq, if_neg (by simp)]
  refine (q'.each_rules (List.range rules.length) _ fun r i => ?_).imp fun after hafter => hafter.trans (by rw [hq'])
  split
  · split
    · exact ⟨_, rfl⟩
    · exact ⟨r.rules, rfl⟩
  · exact ⟨r.rules, rfl⟩

/-- Settles O16, event by event. That the stamps under SRC 1 and SRC 2 keep the bounds of their own clocks is the model's reading
(assumption 8); R55 states the bound under SRC 0. -/
theorem sundialEvents : Obligations.SundialEvents := by
  refine ⟨⟨fun hottest tcxo s ⟨hin, hstep⟩ hdue hidle => ?idle, fun hottest tcxo s ⟨hin, _⟩ hdue => ?second,
    fun s ⟨hin, hstep⟩ hpps hhalf => ?ppsFall, fun n s ⟨hin, _⟩ hn hdue => ?timer, fun s ⟨hin, hstep⟩ hclk => ?refLoss,
    fun s ⟨hin, hstep⟩ hclk hlost => ?refReturn, fun n st s ⟨hin, hstep⟩ hn hptp => ?ptpState,
    fun n off freq slew s ⟨hin, hstep⟩ hn hptp hoff hlock => ?ptpLocked, fun s ⟨hin, hstep⟩ hdue hvalid => ?gained,
    fun s ⟨hin, hstep⟩ hup hlock hslave => ?lost, fun s ⟨hin, hstep⟩ hdone => ?slewEnd,
    fun n seq s ⟨hin, hstep⟩ hn hseq hptp hroom => ?egress⟩,
    fun g rising s ⟨hin, hstep⟩ hg hedge hlive hwake hen hroom => ?gpio⟩
  case idle =>
    have he := next_secondBoundary hottest tcxo s hin (decide_eq_true hdue)
    rw [s.part.second_idle s.ns hottest tcxo hidle] at he
    exact completes_of_still he hstep ⟨rfl, rfl, rfl⟩
  case second => exact next_secondBoundary hottest tcxo s hin (decide_eq_true hdue)
  case ppsFall =>
    rw [next_ppsFall s hin (by simp [Part.ppsFallDue, hpps, hhalf])]
    exact congrArg _ (State.settle_still s _ hstep)
  case timer => exact next_timerFire n s hin (by simp [Instr.wf, hn, hdue])
  case refLoss =>
    obtain ⟨hsrc, hevent, hbounded⟩ := s.part.refLoss_fields
    exact completes_of_still (next_refclkLoss s hin hclk) hstep ⟨rfl, hsrc, hevent, hbounded, Part.RegsWithin.refLoss s.part, rfl⟩
  case refReturn =>
    have he := next_refclkReturn s hin (by simp [hclk])
    rw [Part.refReturn_lost hlost] at he
    exact completes_of_still he hstep ⟨rfl, Part.get_put_self _ F.SDL_EVENTS_REF_RESTORED 1 (by decide),
      fun a ha => Part.reg_put_other _ _ _ ha, rfl⟩
  case ptpState =>
    have he := next_ptpMessageRx n st none s hin (by simp [Instr.wf, hn, hptp])
    obtain ⟨since, hmessage⟩ := s.part.ptpMessage_none s.ns n st
    rw [hmessage] at he
    exact completes_of_still he hstep ⟨rfl, rfl⟩
  case ptpLocked =>
    have he := next_ptpMessageRx n .slave (some (off, freq, slew)) s hin (by simp [Instr.wf, hn, hptp])
    obtain ⟨u, hmessage, hu⟩ := s.part.ptpMessage_locked s.ns n freq slew hoff hlock
    rw [hmessage] at he
    have hrate := Part.setRates_rate { s.part with sdl := u } freq (clampInt (-rateClamp - freq) (rateClamp - freq) slew)
    refine completes_of_still he (hu.trans hstep) ⟨rfl, ?_, ?_, fun hl hh => ?_, rfl,
      Part.RegsWithin.setRates { s.part with sdl := u } _ _⟩
    · exact hrate ▸ le_clampInt (by decide) _
    · exact hrate ▸ clampInt_le (by decide) _
    · exact hrate.trans (clampInt_sum slew hl hh)
  case gained =>
    have he := next_servoLockGained s hin hdue
    rw [Part.lockGained_valid s.ns hvalid] at he
    obtain ⟨hlocked, hevent, hhold, hbounded⟩ := s.part.lockRisen_fields s.ns
    exact completes_of_still he hstep ⟨hlocked, hevent, hhold, hbounded, rfl, Part.RegsWithin.lockRisen s.part s.ns, rfl⟩
  case lost =>
    have he := next_servoLockLost s hin (by simp [Part.lockGone, Part.on, hup, hlock, hslave])
    obtain ⟨u, hfallen, hu⟩ := Part.lockLost_locked s.ns hlock
    rw [hfallen] at he
    obtain ⟨hlocked, hhold, hevent, hbounded⟩ := s.part.lockFallen_fields s.ns
    exact completes_of_still he (hu.trans hstep) ⟨hlocked, hhold, hevent, hbounded, Part.RegsWithin.lockFallen s.part s.ns, rfl⟩
  case slewEnd =>
    have he := next_slewEnd s hin hdone
    rw [Part.slewEnd_eq] at he
    refine completes_of_still he hstep ⟨?_, Part.setRates_slewing_zero _ _, Part.RegsWithin.setRates _ _ _, rfl⟩
    exact (Part.setRates_rate _ _ 0).trans (by rw [Int.add_zero]; rfl)
  case egress =>
    have he := next_ethEgressTimestamp n seq s hin (by simp [Instr.wf, hn, hseq, hptp])
    obtain ⟨hid, hvalid, hstamp⟩ := s.part.egressStamp_fields s.ns n hseq hroom
    refine completes_of_still he hstep ⟨hid, hvalid, ?_, Part.RegsWithin.egressStamp s.part s.ns n seq, rfl⟩
    have hbound := s.part.captured_bound s.ns
    rw [← hstamp] at hbound
    exact hbound
  case gpio =>
    have he := next_gpioEdgeCapture g rising s hin (by simp [Instr.wf, Part.edgeIs, hg, hedge])
    obtain ⟨rules, hcaptures⟩ := s.part.gpioEdge_captures s.ns g rising hlive hen hroom
    rw [Part.gpioChange, hwake, hcaptures] at he
    obtain ⟨hlevel, hothers⟩ := s.part.setGpio_levels g rising
    obtain ⟨hlow, hhigh⟩ := s.part.captured_bound s.ns
    exact completes_of_still he hstep ⟨hlevel, hothers, ⟨_, rfl, rfl, rfl, hlow, hhigh⟩, rfl, rfl, rfl⟩

end Sys2Proof.Machine
end

section
/-! SUPPORT. The mailbox (R111, R116 to R119, R123, R128, R130, R689): how a command is completed, which state serves it, and what each
opcode that the statement names leaves. -/

namespace Sys2Proof.Machine

/-! Completion. -/

/-- A completed command changes registers and what leaves the Frexia. -/
theorem Part.mbxDone_rest (p : Part) (result ret : Nat) :
    p.mbxDone result ret = { p with regs := (p.mbxDone result ret).regs, out := (p.mbxDone result ret).out } :=
  (Part.FaultUnitOnly.msi _ 9).1

@[simp] theorem Part.mbxDone_nor (p : Part) (result ret : Nat) : (p.mbxDone result ret).nor = p.nor := by
  rw [Part.mbxDone_rest]
@[simp] theorem Part.mbxDone_boot (p : Part) (result ret : Nat) : (p.mbxDone result ret).boot = p.boot := by
  rw [Part.mbxDone_rest]
@[simp] theorem Part.mbxDone_sdl (p : Part) (result ret : Nat) : (p.mbxDone result ret).sdl = p.sdl := by
  rw [Part.mbxDone_rest]
@[simp] theorem Part.mbxDone_norByte (p : Part) (result ret a : Nat) : (p.mbxDone result ret).norByte a = p.norByte a := by
  rw [Part.norByte, Part.norByte, Part.mbxDone_nor]

/-- An MSI changes no field of a register. -/
@[simp] theorem Part.msi_get (p : Part) (v : Nat) (f : Fld) : (p.msi v).get f = p.get f := by
  rw [Part.get, Part.get, Part.msi_reg]

/-- A completed command is no longer in service. -/
@[simp] theorem Part.mbxDone_busy (p : Part) (result ret : Nat) : (p.mbxDone result ret).get F.SHD_MBX_STATUS_BUSY = 0 := by
  rw [Part.mbxDone, Part.msi_get]
  exact Part.get_put_self _ F.SHD_MBX_STATUS_BUSY 0 (by decide)

/-- RESULT shows the result. -/
theorem Part.mbxDone_result (p : Part) {result : Nat} (ret : Nat) (h : result < 8) :
    (p.mbxDone result ret).get F.SHD_MBX_STATUS_RESULT = result := by
  rw [Part.mbxDone, Part.msi_get]
  simp (disch := decide) only [Part.clr, Part.get_put_self, Part.get_put_disjoint, Part.get_put_reg]
  exact Nat.mod_eq_of_lt h

/-- A register other than the mailbox's status and return value reads as before. -/
theorem Part.mbxDone_get_other (p : Part) (result ret : Nat) (f : Fld) (hs : f.reg ≠ R.SHD_MBX_STATUS) (hr : f.reg ≠ R.SHD_MBX_RET) :
    (p.mbxDone result ret).get f = p.get f := by
  rw [Part.mbxDone, Part.msi_get]
  calc _ = _ := Part.get_put_reg _ F.SHD_MBX_STATUS_BUSY f _ hs
    _ = _ := Part.get_put_reg _ F.SHD_MBX_STATUS_TAG f _ hs
    _ = _ := Part.get_put_reg _ F.SHD_MBX_RET_RET f _ hr
    _ = _ := Part.get_put_reg _ F.SHD_MBX_STATUS_RESULT f _ hs

/-! Every command is completed. -/

/-- The part is one that the completion of a command leaves. -/
def Part.Served (q : Part) : Prop := ∃ p result ret, q = Part.mbxDone p result ret

theorem Part.Served.done (p : Part) (result ret : Nat) : (p.mbxDone result ret).Served := ⟨p, result, ret, rfl⟩

theorem Part.Served.busy {q : Part} (h : q.Served) : q.get F.SHD_MBX_STATUS_BUSY = 0 := by
  obtain ⟨p, result, ret, rfl⟩ := h
  exact p.mbxDone_busy result ret

theorem Part.Served.ite {c : Prop} [Decidable c] {x y : Part} (hx : x.Served) (hy : y.Served) : (if c then x else y).Served := by
  split
  · exact hx
  · exact hy

theorem Part.Served.stageBegin (p : Part) (t a0 a1 : Nat) : (p.stageBegin t a0 a1).Served :=
  .ite (.done _ _ _) (.ite (.done _ _ _) (.done _ _ _))

theorem Part.Served.stageWrite (p : Part) (s : Session) (a0 a1 : Nat) : (p.stageWrite s a0 a1).Served :=
  .ite (.done _ _ _) (.done _ _ _)

theorem Part.Served.stageEnd (p : Part) (t : Nat) (s : Session) (a0 : Nat) : (p.stageEnd t s a0).Served := by
  refine .ite (.done _ _ _) (.ite ?_ (.ite (.done _ _ _) (.done _ _ _)))
  dsimp only
  split
  · exact .done _ _ _
  · exact .done _ _ _

theorem Part.Served.accept (p : Part) (a0 : Nat) : (p.accept a0).Served := .ite (.done _ _ _) (.done _ _ _)

theorem Part.Served.ledgerRead (p : Part) (a0 : Nat) : (p.ledgerRead a0).Served := .done _ _ _

/-- Whatever the opcode, the command is completed (R116). -/
theorem Part.Served.mbxCommand (p : Part) (t op a0 a1 : Nat) : (p.mbxCommand t op a0 a1).Served := by
  refine .ite (.done _ _ _) ?_
  split
  case h_1 => exact .stageBegin p t a0 a1
  case h_2 =>
    split
    · exact .stageWrite _ _ a0 a1
    · exact .done _ _ _
  case h_3 =>
    split
    · exact .stageEnd _ t _ a0
    · exact .done _ _ _
  case h_4 => exact .ite (.done _ _ _) (.done _ _ _)
  case h_5 => exact .done _ _ _
  case h_6 => exact .accept p a0
  case h_7 => exact .ite (.done _ _ _) (.done _ _ _)
  case h_8 => exact .ledgerRead _ a0
  case h_9 => exact .done _ _ _

/-! Which state serves which opcode. -/

/-- After a session has timed out the waiting command receives 6 (R118). -/
theorem Part.mbxService_timedOut {p : Part} (t : Nat) (hbusy : p.get F.SHD_MBX_STATUS_BUSY = 1) (h : p.boot.timedOut = true) :
    p.mbxService t = (p.modBoot (fun b => { b with timedOut := false })).mbxDone 6 0 := by
  rw [Part.mbxService, if_pos ((p.on_iff _).2 hbusy), if_pos h]

/-- Otherwise the waiting command is carried out. -/
theorem Part.mbxService_command {p : Part} (t : Nat) (hbusy : p.get F.SHD_MBX_STATUS_BUSY = 1) (h : p.boot.timedOut = false) :
    p.mbxService t = p.mbxCommand t (p.get F.SHD_MBX_CMD_OP) (p.get (F.SHD_MBX_ARG_ARG 0)) (p.get (F.SHD_MBX_ARG_ARG 1)) := by
  rw [Part.mbxService, if_pos ((p.on_iff _).2 hbusy), h]
  rfl

/-- A state that does not serve the opcode answers 3. -/
theorem Part.mbxCommand_refused {p : Part} (t : Nat) {op : Nat} (a0 a1 : Nat) (h : p.mbxServes op = false) :
    p.mbxCommand t op a0 a1 = p.mbxDone 3 0 := by
  unfold Part.mbxCommand
  rw [h]
  rfl

/-- An open session refuses every opcode but its own and LEDGER_READ (R118). -/
theorem Part.mbxServes_session {p : Part} {op : Nat} (h : p.boot.session ≠ none) (h2 : op ≠ 2) (h3 : op ≠ 3) (h8 : op ≠ 8) :
    p.mbxServes op = false := by
  rw [Part.mbxServes, if_pos (Option.isSome_iff_ne_none.2 h)]
  simp [h2, h3, h8]

/-- Without a session, and out of the bare state, every opcode is served. -/
theorem Part.mbxServes_free {p : Part} (op : Nat) (hs : p.boot.session = none) (hp : p.boot.phase ≠ .bare) : p.mbxServes op = true := by
  simp [Part.mbxServes, hs, hp]

/-! The opcodes, where they are served. -/

section
variable {p : Part} (t a0 a1 : Nat)

theorem Part.mbxCommand_stageBegin (h : p.mbxServes 1 = true) : p.mbxCommand t 1 a0 a1 = p.stageBegin t a0 a1 := by
  unfold Part.mbxCommand
  rw [h]; rfl
theorem Part.mbxCommand_replant (h : p.mbxServes 4 = true) (hpending : p.get F.SHD_BOOT_STATE_REPLANT_PENDING = 0) :
    p.mbxCommand t 4 a0 a1 = (p.orderReplant { rank := 3, code := 2 }).mbxDone 0 0 := by
  unfold Part.mbxCommand
  rw [h, if_neg (show ¬ (!true) = true by decide)]
  exact if_neg (by simp [Part.on, hpending])
theorem Part.mbxCommand_accept (h : p.mbxServes 6 = true) : p.mbxCommand t 6 a0 a1 = p.accept a0 := by
  unfold Part.mbxCommand
  rw [h]; rfl
theorem Part.mbxCommand_setTime_locked (h : p.mbxServes 7 = true) (hlock : p.get F.SDL_STATUS_LOCKED = 1) :
    p.mbxCommand t 7 a0 a1 = p.mbxDone 3 0 := by
  unfold Part.mbxCommand
  rw [h, if_neg (show ¬ (!true) = true by decide)]
  exact if_pos ((p.on_iff _).2 hlock)
theorem Part.mbxCommand_unknown {op : Nat} (h : p.mbxServes op = true) (hop : op = 0 ∨ 8 < op) :
    p.mbxCommand t op a0 a1 = p.mbxDone 1 0 := by
  unfold Part.mbxCommand
  rw [h, if_neg (show ¬ (!true) = true by decide)]
  split
  case h_9 => rfl
  all_goals omega
end

/-- STAGE_BEGIN on a slot is refused while the window is open (R119). -/
theorem Part.stageBegin_window {p : Part} (t a1 : Nat) (h : p.boot.windowOpen = true) : p.stageBegin t 0 a1 = p.mbxDone 3 0 := by
  rw [Part.stageBegin, if_pos ⟨rfl, h⟩]

/-- STAGE_BEGIN on a slot erases the staged size there and opens the session (R116). -/
theorem Part.stageBegin_slot {p : Part} (t : Nat) {a1 : Nat} (h : p.boot.windowOpen = false) (ha : a1 ≤ 0x1000000) :
    p.stageBegin t 0 a1 =
      (((p.eraseNor (slotBase p.inactive) (roundSector a1)).modBoot (fun b =>
        { b with session := some { target := 0, size := a1, lastAt := t } })).set F.SHD_BOOT_STATE_STAGING).mbxDone 0 0 := by
  rw [Part.stageBegin, if_neg (by simp [h]), if_neg (by omega)]
  rfl

/-- The first order of a tick stands (R129). -/
theorem Part.orderReplant_first {p : Part} (o : Order) (hpending : p.get F.SHD_BOOT_STATE_REPLANT_PENDING = 0)
    (h : p.boot.order = none) : p.orderReplant o = { p with boot := { p.boot with order := some o } } := by
  rw [Part.orderReplant, if_neg (by simp [Part.on, hpending])]
  simp only [Part.modBoot, h]

/-- ACCEPT within the window, naming the running image (R123). -/
theorem Part.accept_window {p : Part} {a0 : Nat} (hw : p.boot.windowOpen = true) (ha : a0 = p.runSeq) :
    p.accept a0 = ((p.modBoot (fun b => { b with accepted := true })).clr F.SHD_BOOT_STATE_ACCEPT_DUE).mbxDone 0 0 := by
  rw [Part.accept, if_pos (by simp [hw, ha])]

/-- ACCEPT outside the window, or naming another image (R123). -/
theorem Part.accept_refused {p : Part} {a0 : Nat} (h : p.boot.windowOpen = false ∨ a0 ≠ p.runSeq) : p.accept a0 = p.mbxDone 3 0 := by
  rw [Part.accept, if_neg]
  rcases h with h | h <;> simp [h]

/-- Settles O12: which state serves the opcode, what the opcode does there, and that each command is completed. -/
theorem mailboxServed : Obligations.MailboxServed := by
  intro t p hbusy
  extract_lets op a0 a1 q result free
  have hcommand : p.boot.timedOut = false → q = p.mbxCommand t op a0 a1 := Part.mbxService_command t hbusy
  have hfree : free → p.mbxServes op = true ∧ q = p.mbxCommand t op a0 a1 := fun ⟨ht, hs, hp⟩ =>
    ⟨Part.mbxServes_free op hs hp, hcommand ht⟩
  have hresult : ∀ (r : Part) (n : Nat), n < 8 → q = r.mbxDone n 0 → result = n := fun r n hn hq =>
    (congrArg (·.get F.SHD_MBX_STATUS_RESULT) hq).trans (r.mbxDone_result 0 hn)
  have hrefused : ∀ n < 8, q = p.mbxDone n 0 → result = n ∧ q.nor = p.nor ∧ q.boot = p.boot := fun n hn hq =>
    ⟨hresult p n hn hq, by rw [hq, Part.mbxDone_nor], by rw [hq, Part.mbxDone_boot]⟩
  refine ⟨?busy, fun ht => ?timedOut, fun ht hs h2 h3 h8 => ?session, fun hf h1 h0 hw => ?beginRefused, fun hf h1 h0 hw ha => ?begin,
    fun hf h4 hpending horder => ?replant, fun hf h6 hw ha => ?accept, fun hf h6 hout => ?acceptRefused,
    fun hf h7 hlock => ?setTime, fun hf hop => ?unknown⟩
  case busy =>
    cases ht : p.boot.timedOut with
    | true => exact (congrArg (·.get F.SHD_MBX_STATUS_BUSY) (Part.mbxService_timedOut t hbusy ht)).trans (Part.mbxDone_busy _ 6 0)
    | false => exact (congrArg (·.get F.SHD_MBX_STATUS_BUSY) (hcommand ht)).trans (Part.Served.mbxCommand p t op a0 a1).busy
  case timedOut =>
    have hq : q = (p.modBoot (fun b => { b with timedOut := false })).mbxDone 6 0 := Part.mbxService_timedOut t hbusy ht
    exact ⟨hresult _ _ (by decide) hq, by rw [hq, Part.mbxDone_boot]; rfl⟩
  case session =>
    exact hrefused 3 (by decide) ((hcommand ht).trans (Part.mbxCommand_refused t a0 a1 (Part.mbxServes_session hs h2 h3 h8)))
  case beginRefused =>
    obtain ⟨hserves, hq⟩ := hfree hf
    rw [h1] at hserves hq
    rw [Part.mbxCommand_stageBegin t a0 a1 hserves, h0, Part.stageBegin_window t a1 hw] at hq
    exact hrefused 3 (by decide) hq
  case begin =>
    obtain ⟨hserves, hq⟩ := hfree hf
    rw [h1] at hserves hq
    rw [Part.mbxCommand_stageBegin t a0 a1 hserves, h0, Part.stageBegin_slot t hw ha] at hq
    refine ⟨?_, ?_, ?_, fun a => ?_⟩
    · exact hresult _ _ (by decide) hq
    · rw [hq, Part.mbxDone_boot]; rfl
    · rw [hq, Part.mbxDone_get_other _ 0 0 F.SHD_BOOT_STATE_STAGING (by decide) (by decide)]
      exact Part.get_put_self _ F.SHD_BOOT_STATE_STAGING 1 (by decide)
    · rw [hq, Part.mbxDone_norByte]
      exact Part.norByte_eraseNor p (slotBase p.inactive) (roundSector a1) a
  case replant =>
    obtain ⟨hserves, hq⟩ := hfree hf
    rw [h4] at hserves hq
    rw [Part.mbxCommand_replant t a0 a1 hserves hpending, Part.orderReplant_first _ hpending horder] at hq
    exact ⟨hresult _ _ (by decide) hq, by rw [hq, Part.mbxDone_nor], by rw [hq, Part.mbxDone_boot]⟩
  case accept =>
    obtain ⟨hserves, hq⟩ := hfree hf
    rw [h6] at hserves hq
    rw [Part.mbxCommand_accept t a0 a1 hserves, Part.accept_window hw ha] at hq
    exact ⟨hresult _ _ (by decide) hq, by rw [hq, Part.mbxDone_nor]; rfl, by rw [hq, Part.mbxDone_boot]; rfl⟩
  case acceptRefused =>
    obtain ⟨hserves, hq⟩ := hfree hf
    rw [h6] at hserves hq
    rw [Part.mbxCommand_accept t a0 a1 hserves, Part.accept_refused hout] at hq
    exact hrefused 3 (by decide) hq
  case setTime =>
    obtain ⟨hserves, hq⟩ := hfree hf
    rw [h7] at hserves hq
    rw [Part.mbxCommand_setTime_locked t a0 a1 hserves hlock] at hq
    obtain ⟨hthree, hnor, hboot⟩ := hrefused 3 (by decide) hq
    exact ⟨hthree, by rw [hq, Part.mbxDone_sdl], hnor, hboot⟩
  case unknown =>
    obtain ⟨hserves, hq⟩ := hfree hf
    exact hrefused 1 (by decide) (hq.trans (Part.mbxCommand_unknown t a0 a1 hserves hop))

end Sys2Proof.Machine
end

section
/-! SUPPORT. The reset pins, the steps of the boot and of the Replant (R105, R118, R121, R607, R610, R657). -/

namespace Sys2Proof.Machine

open Sys2Proof.Claim

/-! Where a boot ends (R105, R111). -/

/-- A boot has come to its end: the bare state, or the wait for the NVMe step or for the boot loads. -/
def Part.Booted (p : Part) : Prop := p.boot.phase = .bare ∨ p.boot.phase = .nvme ∨ p.boot.phase = .loads

theorem Part.enterBare_phase (p : Part) : p.enterBare.boot.phase = .bare := rfl

theorem Part.Booted.enterBare (p : Part) : p.enterBare.Booted := .inl p.enterBare_phase

/-- What passes step 9 goes on to the NVMe step where the image has NVMe on, and to the boot loads where not (R504). -/
theorem Part.Booted.step9 (p : Part) (nvme : Bool) :
    (p.modBoot (fun b => { b with phase := if nvme then .nvme else .loads })).Booted := by
  cases nvme
  · exact .inr (.inr rfl)
  · exact .inr (.inl rfl)

/-- Whatever a boot meets on its way, it ends in the bare state or passes step 9. -/
theorem Part.Booted.bootFrom (p : Part) (t code : Nat) (env : BootEnv) : (p.bootFrom t code env).Booted := by
  unfold Part.bootFrom
  extract_lets
  split
  · exact .enterBare _
  · split
    case h_1 => exact .enterBare _
    case h_2 =>
      extract_lets
      split
      · exact .enterBare _
      · split
        · exact .enterBare _
        · exact .step9 _ _

/-- A command whose effect is a boot completes at a boot's end. -/
theorem completes_booted {c : Instr} {s : State} {p : Part} (he : exec c s = .next (s.settle p)) (hp : p.Booted) :
    Completes c s (fun t => t.part.boot.phase = .bare ∨ t.part.boot.phase = .nvme ∨ t.part.boot.phase = .loads) :=
  ⟨_, he, hp⟩

/-! PORST_N (R105, R607). -/

/-- With RESET_N low the release of PORST_N reads the fuses, and the Frexia stays in reset. -/
theorem Part.porRelease_held {p : Part} (t : Nat) (env : BootEnv) (h : p.pins.resetN = false) :
    p.porRelease t env = ((p.modPins (fun u => { u with porst := true })).setReg R.KEY_FUSES (Config.fuses.setWidth 32)).modBoot
      (fun b => { b with phase := .resetHeld }) :=
  if_neg (ne_true_of_eq_false h)

/-- With RESET_N high it starts a boot. -/
theorem Part.Booted.porRelease {p : Part} (t : Nat) (env : BootEnv) (h : p.pins.resetN = true) : (p.porRelease t env).Booted := by
  unfold Part.porRelease
  extract_lets q
  rw [if_pos (show q.pins.resetN = true from h)]
  exact .bootFrom q t 0 env

/-! RESET_N (R607, R608, R610). -/

/-- The loss of lock changes registers and the Sundial's unit. -/
theorem Part.lockLost_rest (p : Part) (t : Nat) :
    p.lockLost t = { p with regs := (p.lockLost t).regs, sdl := (p.lockLost t).sdl } := by
  unfold Part.lockLost Part.iff
  extract_lets
  split
  · rfl
  · rfl

/-- So does what a reset does to the Sundial. -/
theorem Part.sdlAfterReset_rest (p : Part) (t : Nat) :
    p.sdlAfterReset t = { p with regs := (p.sdlAfterReset t).regs, sdl := (p.sdlAfterReset t).sdl } := by
  unfold Part.sdlAfterReset
  rw [p.lockLost_rest t]
  rfl

/-- RESET_N keeps NOR flash and memory, and the pins but itself. -/
theorem Part.resetAssert_kept (p : Part) (t : Nat) :
    (p.resetAssert t).nor = p.nor ∧ (p.resetAssert t).mem = p.mem ∧ (p.resetAssert t).pins = { p.pins with resetN := false } := by
  unfold Part.resetAssert Part.resetTo
  rw [p.sdlAfterReset_rest t]
  exact ⟨rfl, rfl, rfl⟩

/-- What the survival table does not keep returns to Reset, but for the cause of the reset. -/
theorem Part.resetAssert_reg (p : Part) (t : Nat) {a : Nat} (hk : keptByReset a = false) (hc : a ≠ R.PWR_RESET_CAUSE) :
    (p.resetAssert t).reg a = regReset a := by
  refine (Part.reg_put_other _ F.PWR_RESET_CAUSE_LAST 1 hc).trans ?_
  show FMap.get regReset (FMap.only (fun b => keptByReset b || (false && keptByReplant b)) (p.sdlAfterReset t).regs) a = regReset a
  rw [FMap.get_only, hk]
  rfl

/-- The cause of the reset is RESET_N. -/
theorem Part.resetAssert_cause (p : Part) (t : Nat) : (p.resetAssert t).get F.PWR_RESET_CAUSE_LAST = 1 :=
  Part.get_put_self _ F.PWR_RESET_CAUSE_LAST 1 (by decide)

/-- The release of RESET_N starts a boot again. -/
theorem Part.Booted.resetRelease (p : Part) (t : Nat) (env : BootEnv) : (p.resetRelease t env).Booted := by
  unfold Part.resetRelease
  extract_lets
  exact .bootFrom _ t _ env

/-- Settles O9, pin by pin: what each leaves, and that a boot ends. That the byte memory lists nothing after a power-on reset is the
model's choice (assumption 5), and that PORST_N released while RESET_N is low leaves the Frexia in reset is its reading (assumption
29). R612 has DRAM's contents lost where RESET_N asserts in Frost; that the bytes stay there too is the model's own choice. -/
theorem resetPinsComplete : Obligations.ResetPinsComplete := by
  refine ⟨fun s => ?por, fun env s ⟨hin, hstep⟩ hphase hclk hreset => ?held, fun env s ⟨hin, _⟩ hphase hclk hreset => ?released,
    fun s ⟨hin, _⟩ hphase hreset => ?assert, fun env s ⟨hin, _⟩ hphase hclk => ?reboot⟩
  case por =>
    exact ⟨s.powerOn, rfl, rfl, Part.reg_init, Part.get_init_sdlTimeValid, rfl, rfl, rfl, rfl, rfl, rfl⟩
  case held =>
    have he := next_porstNRelease env s hin (by simp [Part.porReleasable, hphase, hclk])
    rw [Part.porRelease_held s.ns env hreset] at he
    exact completes_of_still he hstep ⟨Part.reg_setReg_self _ _ _, fun a ha => Part.reg_setReg_other _ _ ha, rfl⟩
  case released =>
    exact completes_booted (next_porstNRelease env s hin (by simp [Part.porReleasable, hphase, hclk])) (.porRelease s.ns env hreset)
  case assert =>
    obtain ⟨hnor, hmem, hpins⟩ := s.part.resetAssert_kept s.ns
    refine ⟨_, next_resetNAssert s hin (by simp [Part.resetAssertable, hphase, hreset]), rfl, ?_, s.part.resetAssert_cause s.ns, rfl, rfl,
      fun a hk hc => s.part.resetAssert_reg s.ns hk hc, hnor, hmem, State.settle_pending _ _⟩
    rw [State.settle_pins, hpins]
  case reboot =>
    exact completes_booted (next_resetNRelease env s hin (by simp [Part.resetReleasable, hphase, hclk])) (.resetRelease _ _ _)

/-! The endpoint's link, and a staging session that times out (R105, R118, R497). -/

/-- The link trains with the speed, the width and the number of MSI vectors granted. -/
theorem Part.epUp_fields (p : Part) {speed width msi : Nat} (hspeed : speed < 8) (hwidth : width < 16) (hmsi : msi < 32) :
    (p.epUp speed width msi).get F.PEP_LINK_UP = 1 ∧ (p.epUp speed width msi).get F.PEP_LINK_SPEED = speed ∧
      (p.epUp speed width msi).get F.PEP_LINK_WIDTH = width ∧ (p.epUp speed width msi).get F.PEP_LINK_MSI = msi := by
  simp (disch := decide) only [Part.epUp, Part.set, Part.get_put_self, Part.get_put_disjoint]
  exact ⟨rfl, Nat.mod_eq_of_lt hspeed, Nat.mod_eq_of_lt hwidth, Nat.mod_eq_of_lt hmsi⟩

theorem Part.RegsWithin.epUp (p : Part) (speed width msi : Nat) : p.RegsWithin [R.PEP_LINK] (p.epUp speed width msi) :=
  ((((Part.RegsWithin.refl _ p).put F.PEP_LINK_UP 1 (by decide)).put F.PEP_LINK_SPEED speed (by decide)).put
    F.PEP_LINK_WIDTH width (by decide)).put F.PEP_LINK_MSI msi (by decide)

/-- A session is old 60 s after its last command, where the Shed runs. -/
theorem Part.sessionOld_of {p : Part} {t : Nat} {x : Session} (hup : p.shedUp = true) (hx : p.boot.session = some x)
    (hold : x.lastAt + 60000000000 ≤ t) : p.sessionOld t = true := by
  simp [Part.sessionOld, hup, hx, hold]

/-- A Replant ends in a boot (R121). -/
theorem Part.Booted.replant (p : Part) (t : Nat) (env : BootEnv) : (p.replant t env).Booted := by
  unfold Part.replant
  extract_lets
  exact .bootFrom _ t _ env

/-- Settles O10, step by step: the effect of each, and for those with fields named, what their operation leaves. -/
theorem bootStepsComplete : Obligations.BootStepsComplete := by
  refine ⟨fun speed width msi s ⟨hin, hstep⟩ hspeed hwidth hmsi htrains => ?linked,
    fun a s ⟨hin, _⟩ hdue => next_nvmeBringUp a s hin hdue, fun s ⟨hin, _⟩ hdue => next_bootAdmission s hin hdue,
    fun s ⟨hin, _⟩ hdue => ?drained, fun env s ⟨hin, _⟩ hpending hdrained => ?flushed,
    fun x s ⟨hin, hstep⟩ hup hx hold => ?timeout, fun s ⟨hin, _⟩ hdue => next_hardeningWindowEnd s hin hdue,
    fun watts checkins s ⟨hin, _⟩ hwatts hcheckins hdue => ?tick⟩
  case linked =>
    have he := next_pcieEpLinkTrained speed width msi s hin (by simp [Instr.wf, hspeed, hwidth, hmsi, htrains])
    obtain ⟨hlink, hsp, hwd, hms⟩ := s.part.epUp_fields hspeed hwidth hmsi
    exact completes_of_still he hstep ⟨hlink, hsp, hwd, hms, regsOnly_of_regs rfl (Part.RegsWithin.epUp s.part speed width msi)⟩
  case drained => exact ⟨_, next_replantJobDrainEnd s hin hdue, rfl, rfl, rfl, rfl⟩
  case flushed =>
    exact completes_booted (next_replantFlushEnd env s hin (by simp [Part.flushEnds, Part.on, hpending, hdrained])) (.replant _ _ _)
  case timeout =>
    have he := next_stagingSessionTimeout s hin (Part.sessionOld_of hup hx hold)
    exact completes_of_still he hstep ⟨rfl, Part.get_put_self _ F.SHD_BOOT_STATE_STAGING 0 (by decide),
      fun a ha => Part.reg_put_other _ _ _ ha, rfl⟩
  case tick => exact next_managementTick watts checkins s hin (by simp [Instr.wf, Part.tickDue, hwatts, hcheckins, hdue])

end Sys2Proof.Machine
end

section
/-! SUPPORT. The host's write of a mailbox command (R116, R130): which commands there are, and what a free and a busy mailbox make of
one. -/

namespace Sys2Proof.Machine

open Sys2Proof.Claim

/-- The mailbox commands of R116 with tag `tag`, each with its opcode and the arguments that it takes. -/
def mbxCommandList (tag : Nat) (a0 a1 : Word) : List (Instr × Nat × List Word) :=
  [(.stageBegin tag a0 a1, 1, [a0, a1]), (.stageWrite tag a0 a1, 2, [a0, a1]), (.stageEnd tag a0, 3, [a0]), (.replant tag, 4, []),
    (.rollback tag, 5, []), (.accept tag a0, 6, [a0]), (.setTime tag a0 a1, 7, [a0, a1]), (.ledgerRead tag a0, 8, [a0])]

/-- Opcodes fit their field, and no command takes more than two arguments. -/
theorem mbxCommandList_bounds (tag : Nat) (a0 a1 : Word) :
    ∀ e ∈ mbxCommandList tag a0 a1, e.2.1 < 256 ∧ e.2.2.length ≤ 2 := by
  simp [mbxCommandList]

/-- While the endpoint's link is up, each mailbox command is the host's write of its opcode, tag and arguments. -/
theorem exec_mailboxCommand {tag : Nat} {a0 a1 : Word} {s : State} (hs : Ready s) (htag : tag < 65536)
    (hlink : s.part.get F.PEP_LINK_UP = 1) {c : Instr} {op : Nat} {args : List Word} (h : (c, op, args) ∈ mbxCommandList tag a0 a1) :
    exec c s = .next (s.settle (s.part.mbxWrite op tag args)) := by
  have hgo (i : Instr) (hwf : i.wf = decide (tag < 65536)) : (i.wf && s.part.hostUp) = true := by
    simp [hwf, htag, Part.hostUp, Part.on, hlink]
  simp only [mbxCommandList, List.mem_cons, Prod.mk.injEq, List.not_mem_nil, or_false] at h
  rcases h with ⟨rfl, rfl, rfl⟩ | ⟨rfl, rfl, rfl⟩ | ⟨rfl, rfl, rfl⟩ | ⟨rfl, rfl, rfl⟩ | ⟨rfl, rfl, rfl⟩ | ⟨rfl, rfl, rfl⟩ |
    ⟨rfl, rfl, rfl⟩ | ⟨rfl, rfl, rfl⟩
  · exact next_stageBegin tag a0 a1 s hs.1 (hgo _ rfl)
  · exact next_stageWrite tag a0 a1 s hs.1 (hgo _ rfl)
  · exact next_stageEnd tag a0 s hs.1 (hgo _ rfl)
  · exact next_replant tag s hs.1 (hgo _ rfl)
  · exact next_rollback tag s hs.1 (hgo _ rfl)
  · exact next_accept tag a0 s hs.1 (hgo _ rfl)
  · exact next_setTime tag a0 a1 s hs.1 (hgo _ rfl)
  · exact next_ledgerRead tag a0 s hs.1 (hgo _ rfl)

/-! The arguments. -/

/-- The first `n` arguments stored in SHD_MBX_ARG. -/
def Part.mbxArgs (p : Part) (args : List Word) (n : Nat) : Part :=
  (List.range n).foldl (fun q i => q.setReg (R.SHD_MBX_ARG i) (args.getD i 0)) p

theorem Part.mbxArgs_succ (p : Part) (args : List Word) (n : Nat) :
    p.mbxArgs args (n + 1) = (p.mbxArgs args n).setReg (R.SHD_MBX_ARG n) (args.getD n 0) := by
  simp [Part.mbxArgs, List.range_succ]

/-- The arguments change registers alone. -/
theorem Part.mbxArgs_rest (p : Part) (args : List Word) (n : Nat) : p.mbxArgs args n = { p with regs := (p.mbxArgs args n).regs } := by
  induction n with
  | zero => rfl
  | succ n ih => rw [Part.mbxArgs_succ, ih]; rfl

theorem mbx_arg_injective : Function.Injective R.SHD_MBX_ARG := fun i j h => by
  unfold R.SHD_MBX_ARG at h
  omega

/-- An argument's register holds the argument. -/
theorem Part.reg_mbxArgs (p : Part) (args : List Word) {i n : Nat} (h : i < n) :
    (p.mbxArgs args n).reg (R.SHD_MBX_ARG i) = args.getD i 0 := by
  induction n with
  | zero => omega
  | succ n ih =>
    rw [Part.mbxArgs_succ, Part.reg_setReg]
    by_cases hi : i = n
    · rw [if_pos (congrArg _ hi), hi]
    · rw [if_neg (mt (@mbx_arg_injective i n) hi), ih (by omega)]

theorem Part.RegsWithin.mbxArgs (p : Part) (args : List Word) (n : Nat) :
    p.RegsWithin ((List.range n).map R.SHD_MBX_ARG) (p.mbxArgs args n) := by
  induction n with
  | zero => exact .refl _ p
  | succ n ih =>
    intro a ha
    rw [List.range_succ, List.map_append, List.mem_append, not_or] at ha
    obtain ⟨hbefore, hlast⟩ := ha
    rw [Part.mbxArgs_succ, Part.reg_setReg_other _ _ (by simpa using hlast), ih a hbefore]

/-! A command written. -/

/-- A free mailbox takes the command: arguments, opcode, tag, and BUSY. -/
theorem Part.mbxWrite_free {p : Part} (op tag : Nat) (args : List Word) (h : p.get F.SHD_MBX_STATUS_BUSY = 0) :
    p.mbxWrite op tag args =
      (((p.mbxArgs args args.length).put F.SHD_MBX_CMD_OP op).put F.SHD_MBX_CMD_TAG tag).set F.SHD_MBX_STATUS_BUSY :=
  if_neg (ne_true_of_eq_false (p.on_eq_false (by omega)))

/-- A busy one discards it and sets OVERRUN (R130). -/
theorem Part.mbxWrite_busy {p : Part} (op tag : Nat) (args : List Word) (h : p.get F.SHD_MBX_STATUS_BUSY = 1) :
    p.mbxWrite op tag args = p.set F.SHD_MBX_STATUS_OVERRUN :=
  if_pos ((p.on_iff _).2 h)

/-- The fields that the taken command shows. -/
theorem Part.mbxWrite_fields {p : Part} {op tag : Nat} (args : List Word) (h : p.get F.SHD_MBX_STATUS_BUSY = 0) (hop : op < 256)
    (htag : tag < 65536) :
    (p.mbxWrite op tag args).get F.SHD_MBX_CMD_OP = op ∧ (p.mbxWrite op tag args).get F.SHD_MBX_CMD_TAG = tag ∧
      (p.mbxWrite op tag args).get F.SHD_MBX_STATUS_BUSY = 1 := by
  rw [Part.mbxWrite_free op tag args h]
  simp (disch := decide) only [Part.set, Part.get_put_self, Part.get_put_disjoint, Part.get_put_reg]
  exact ⟨Nat.mod_eq_of_lt hop, Nat.mod_eq_of_lt htag, rfl⟩

/-- The registers of the first two arguments are neither the command's nor the status's. -/
theorem mbx_arg_ne {i : Nat} (h : i < 2) : R.SHD_MBX_ARG i ≠ R.SHD_MBX_CMD ∧ R.SHD_MBX_ARG i ≠ R.SHD_MBX_STATUS := by
  revert i; decide

/-- The taken command's arguments stand in their registers. -/
theorem Part.mbxWrite_args {p : Part} (op tag : Nat) {args : List Word} (h : p.get F.SHD_MBX_STATUS_BUSY = 0) (hlen : args.length ≤ 2)
    {i : Nat} (hi : i < args.length) : args[i]? = some ((p.mbxWrite op tag args).reg (R.SHD_MBX_ARG i)) := by
  obtain ⟨hcmd, hstatus⟩ := mbx_arg_ne (Nat.lt_of_lt_of_le hi hlen)
  rw [Part.mbxWrite_free op tag args h, Part.set, Part.reg_put_other _ _ _ hstatus, Part.reg_put_other _ _ _ hcmd,
    Part.reg_put_other _ _ _ hcmd, Part.reg_mbxArgs p args hi]
  simp [hi]

/-- Beside them only the command's and the status's registers change. -/
theorem Part.RegsWithin.mbxWrite {p : Part} (op tag : Nat) (args : List Word) (h : p.get F.SHD_MBX_STATUS_BUSY = 0) :
    p.RegsWithin (R.SHD_MBX_CMD :: R.SHD_MBX_STATUS :: (List.range args.length).map R.SHD_MBX_ARG) (p.mbxWrite op tag args) := by
  have hargs : p.RegsWithin (R.SHD_MBX_CMD :: R.SHD_MBX_STATUS :: (List.range args.length).map R.SHD_MBX_ARG)
      (p.mbxArgs args args.length) :=
    fun a ha => Part.RegsWithin.mbxArgs p args _ a fun hm => ha (List.mem_cons_of_mem _ (List.mem_cons_of_mem _ hm))
  rw [Part.mbxWrite_free op tag args h]
  exact ((hargs.put F.SHD_MBX_CMD_OP op List.mem_cons_self).put F.SHD_MBX_CMD_TAG tag List.mem_cons_self).put
    F.SHD_MBX_STATUS_BUSY 1 (List.mem_cons_of_mem _ List.mem_cons_self)

theorem Part.mbxWrite_rest (p : Part) (op tag : Nat) (args : List Word) :
    p.mbxWrite op tag args = { p with regs := (p.mbxWrite op tag args).regs } := by
  by_cases h : p.get F.SHD_MBX_STATUS_BUSY = 1
  · rw [Part.mbxWrite_busy op tag args h]; rfl
  · rw [Part.mbxWrite_free op tag args (p.get_bit_eq_zero _ _ h), p.mbxArgs_rest args]; rfl

/-- Settles O11: each command is the write of its opcode, tag and arguments, which a free mailbox takes and a busy one discards. -/
theorem mailboxCommands : Obligations.MailboxCommands := by
  refine ⟨fun tag a0 a1 s hs htag hlink hfree c op args hc => ?taken, fun tag a0 a1 s hs htag hlink hbusy c hc => ?discarded⟩
  case taken =>
    obtain ⟨hop, hlen⟩ := mbxCommandList_bounds tag a0 a1 _ hc
    obtain ⟨hcmd, htagged, hset⟩ := Part.mbxWrite_fields args hfree hop htag
    have hrest := s.part.mbxWrite_rest op tag args
    exact completes_of_still (exec_mailboxCommand hs htag hlink hc) (by rw [hrest]; exact hs.2)
      ⟨hcmd, htagged, hset, fun i hi => Part.mbxWrite_args op tag hfree hlen hi,
        regsOnly_of_regs hrest (Part.RegsWithin.mbxWrite op tag args hfree)⟩
  case discarded =>
    obtain ⟨⟨_, op, args⟩, hmem, rfl⟩ := List.mem_map.1 (show c ∈ (mbxCommandList tag a0 a1).map Prod.fst from hc)
    have he := exec_mailboxCommand hs htag hlink hmem
    rw [Part.mbxWrite_busy op tag args hbusy] at he
    exact completes_of_still he hs.2 ⟨Part.get_put_self _ F.SHD_MBX_STATUS_OVERRUN 1 (by decide),
      (Part.get_put_disjoint _ _ _ 1 (by decide)).trans hbusy,
      regsOnly_of_regs rfl fun a ha => Part.reg_put_other _ _ _ (List.ne_of_not_mem_cons ha)⟩

end Sys2Proof.Machine
end

section
/-! SUPPORT. A plot's order of its own Fallow (R153): the write of PLT_CTRL on the plot's page, and what it leaves. -/

namespace Sys2Proof.Machine

open Sys2Proof.Claim

/-- A plot's unit reads as it was just changed. -/
theorem Part.plot_modPlot_self (p : Part) (k : Nat) (f : PlotUnit → PlotUnit) : (p.modPlot k f).plot k = f (p.plot k) := by
  simp [Part.plot, Part.modPlot, Part.setPlot]

theorem Part.plot_modPlot_other (p : Part) {k j : Nat} (f : PlotUnit → PlotUnit) (h : j ≠ k) : (p.modPlot k f).plot j = p.plot j := by
  simp [Part.plot, Part.modPlot, Part.setPlot, FMap.get_put_other _ _ _ h]

/-- PLT_CTRL of a plot is the plot's own copy of its row. -/
theorem regAt_pltCtrl {k : Nat} (h : k < 9) : ∃ l, regAt (R.PLT_CTRL k) = some (⟨0x4, 9, 0x100, 1, 0, l⟩, k, 0) := by
  match k, h with
  | 0, _ | 1, _ | 2, _ | 3, _ | 4, _ | 5, _ | 6, _ | 7, _ | 8, _ => exact ⟨_, rfl⟩

/-- A plot finds its PLT_CTRL on its page (R30). -/
theorem Part.pageAt_pltCtrl (p : Part) {k : Nat} (h : k < 9) :
    p.pageAt k (R.PLT_CTRL k / 0x100000) (R.PLT_CTRL k % 0x100000) = .reg (R.PLT_CTRL k) := by
  obtain ⟨l, hrow⟩ := regAt_pltCtrl h
  have hblk : R.PLT_CTRL k / 0x100000 = 10 := by unfold R.PLT_CTRL; omega
  have haddr : 10 * 0x100000 + R.PLT_CTRL k % 0x100000 = R.PLT_CTRL k := by unfold R.PLT_CTRL; omega
  have hplots : R.PLT_CTRL k % 0x100000 < 0x900 := by unfold R.PLT_CTRL; omega
  have howner : R.PLT_CTRL k % 0x100000 / 0x100 = k := by unfold R.PLT_CTRL; omega
  rw [Part.pageAt, hblk]
  simp only [haddr, hplots, howner, slotHit, hrow]
  simp

/-- A 1 in bit 0 of a plot's PLT_CTRL orders its Fallow with cause 2 (R153). -/
theorem Part.writeBack_pltCtrl (p : Part) (t ctx j : Nat) {k : Nat} (h0 : k ≠ 0) :
    p.writeBack t ctx (R.PLT_CTRL 0) k j 1 = some (p.orderFallow k 2) := by
  unfold Part.writeBack
  rw [if_pos rfl, if_pos ⟨by decide, h0⟩]

theorem Part.regStore_pltCtrl (p : Part) (t : Nat) (w : Who) (ctx : Nat) {k : Nat} (h : k < 9) (h0 : k ≠ 0) :
    p.regStore t w ctx (R.PLT_CTRL k) 1 = p.orderFallow k 2 := by
  obtain ⟨l, hrow⟩ := regAt_pltCtrl h
  have hblk : R.PLT_CTRL k / 0x100000 = 10 := by unfold R.PLT_CTRL; omega
  have hgated : p.gatedReg (R.PLT_CTRL k) = false := by simp [Part.gatedReg, hblk, blkBED]
  have hring : isHostRing (R.PLT_CTRL k) = false := by
    have hpast : ¬ R.PLT_CTRL k < 0x719000 := by unfold R.PLT_CTRL; omega
    rw [isHostRing, decide_eq_false hpast, Bool.and_false]
  have hshut : p.ringShut (R.PLT_CTRL k) = false := by rw [Part.ringShut, hring, Bool.false_and]
  unfold Part.regStore
  rw [hrow]
  simp only [hgated, hshut, hblk, rowKey]
  iterate 6 rw [if_neg (by decide)]
  rw [show 10 * 0x100000 + 0x4 = R.PLT_CTRL 0 from rfl, p.writeBack_pltCtrl t ctx 0 h0, Option.getD_some]

/-- A plot's write of its PLT_CTRL, at its page's address. -/
theorem Part.writeOf_pltCtrl (p : Part) (t : Nat) {w : Who} (hk : w.kind ≠ .host) (hp : w.plot.val ≠ 0) :
    p.writeOf t w (R.PLT_CTRL w.plot.val) 1 = p.orderFallow w.plot.val 2 := by
  have hw := w.plot.isLt
  have hcopy : copyOf (R.PLT_CTRL w.plot.val) = R.PLT_CTRL w.plot.val := if_neg (by unfold R.PLT_CTRL; omega)
  rw [p.writeOf_page t 1 hk hp (by unfold R.PLT_CTRL; omega) (by unfold R.PLT_CTRL; omega) (by unfold R.PLT_CTRL; omega) hcopy
    (p.pageAt_pltCtrl hw), p.regStore_pltCtrl t w 0 hw hp]

/-- A plot that issues an access is RUNNING (R154). -/
theorem Part.running_of_issues {p : Part} {w : Who} (hk : w.kind ≠ .host) (hp : w.plot.val ≠ 0) (h : p.issues w = true) :
    p.get (F.PLT_STATE_STATE w.plot.val) = 2 := by
  rw [Part.issues, if_neg hk, if_neg hp, Bool.and_eq_true, beq_iff_eq] at h
  exact h.2

/-- A running plot takes an order of Fallow, and keeps the first one (R153). -/
theorem Part.orderFallow_running {p : Part} {k : Nat} (cause : Nat) (h : p.get (F.PLT_STATE_STATE k) = 2) :
    p.orderFallow k cause = p.modPlot k (fun u => { u with ordered := if u.ordered = 0 then cause else u.ordered }) :=
  if_pos (.inl h)

/-- A running plot's write of its PLT_CTRL completes with the order standing. -/
theorem completes_pltCtrlFallow {w : Who} {s : State} {Q : State → Prop} (hs : Ready s) (hk : w.kind ≠ .host) (hp : w.plot ≠ 0)
    (hi : s.part.issues w = true)
    (hq : Q { s with part := s.part.modPlot w.plot.val (fun u => { u with ordered := if u.ordered = 0 then 2 else u.ordered }) }) :
    Completes (.pltCtrlFallow w) s Q := by
  have hp' : w.plot.val ≠ 0 := fun h => hp (Fin.ext h)
  have he := next_pltCtrlFallow w s hs.1 hi
  rw [s.part.writeOf_pltCtrl s.ns hk hp', Part.orderFallow_running 2 (Part.running_of_issues hk hp' hi)] at he
  exact completes_of_still he hs.2 hq

end Sys2Proof.Machine
end

section
/-! SUPPORT. The end of a Fallow's drain (R140, R154 step 5): the state that it reaches, and what becomes of the memory key. -/

namespace Sys2Proof.Machine

/-- A bit just set in a field stands. -/
theorem Part.testBit_setBit (p : Part) (f : Fld) {i : Nat} (hf : f.hi < 32) (hi : i < f.hi + 1 - f.lo) :
    ((p.setBit f i).get f).testBit i = true := by
  rw [Part.setBit, Part.get_put_self p f _ hf, Nat.testBit_mod_two_pow, Nat.testBit_or, Nat.testBit_two_pow_self]
  simp [hi]

/-- A bit just cleared in a field is 0. -/
theorem Part.testBit_clrBit (p : Part) (f : Fld) (i : Nat) (hf : f.hi < 32) : ((p.clrBit f i).get f).testBit i = false := by
  rw [Part.clrBit, Part.get_put_self p f _ hf, Nat.testBit_mod_two_pow]
  split
  · next hset => rw [(testBit_sub_two_pow hset).1, Bool.and_false]
  · next hclear => rw [eq_false_of_ne_true hclear, Bool.and_false]

/-- Drawing a free value leaves the registers. -/
theorem Part.fresh_regs (p : Part) : p.fresh.2.regs = p.regs := rfl

/-- In the registers a derivation sets the plot's bit of KEY_MEM_LOADED, and then counts in its KEY_MEM_GEN (R139). -/
theorem Part.deriveMemKey_eq (p : Part) (k : Nat) : ∃ q : Part, q.regs = p.regs ∧
    p.deriveMemKey k = (q.setBit F.KEY_MEM_LOADED_PLOT k).add (F.KEY_MEM_GEN_GEN k) 1 := by
  unfold Part.deriveMemKey
  extract_lets a b c d salt q
  refine ⟨q, ?_, rfl⟩
  calc q.regs = d.2.regs := Part.modPlot_regs _ _ _
    _ = p.regs := by iterate 4 rw [Part.fresh_regs]

/-- A derived memory key is loaded. -/
theorem Part.deriveMemKey_loaded (p : Part) {k : Nat} (h : k < 9) :
    ((p.deriveMemKey k).get F.KEY_MEM_LOADED_PLOT).testBit k = true := by
  obtain ⟨q, -, he⟩ := p.deriveMemKey_eq k
  have hgen : R.KEY_MEM_LOADED ≠ R.KEY_MEM_GEN k := by unfold R.KEY_MEM_LOADED R.KEY_MEM_GEN; omega
  rw [he, Part.add, Part.get_put_reg _ (F.KEY_MEM_GEN_GEN k) F.KEY_MEM_LOADED_PLOT _ hgen]
  exact q.testBit_setBit F.KEY_MEM_LOADED_PLOT (by decide) h

/-- Deriving a memory key leaves every register but KEY_MEM_LOADED and the plot's KEY_MEM_GEN. -/
theorem Part.deriveMemKey_reg_other (p : Part) (k : Nat) {a : Nat} (hl : a ≠ R.KEY_MEM_LOADED) (hg : a ≠ R.KEY_MEM_GEN k) :
    (p.deriveMemKey k).reg a = p.reg a := by
  obtain ⟨q, hregs, he⟩ := p.deriveMemKey_eq k
  rw [he, Part.add, Part.reg_put_other _ (F.KEY_MEM_GEN_GEN k) _ hg, Part.setBit, Part.reg_put_other q F.KEY_MEM_LOADED_PLOT _ hl,
    Part.reg, hregs, Part.reg]

/-- The drain ends in ZEROING, and there the key is derived, or RNG_FAIL and KEY_FAIL are set. -/
theorem Part.fallowDrained_eq (p : Part) (t k : Nat) (rngOk : Bool) : ∃ q : Part, q.get (F.PLT_STATE_STATE k) = 6 ∧
    p.fallowDrained t k rngOk = if rngOk then q.deriveMemKey k else (q.set F.KEY_ERR_RNG_FAIL).set (F.PLT_STATE_KEY_FAIL k) := by
  unfold Part.fallowDrained
  extract_lets culls closed q
  exact ⟨q, Part.get_put_self _ (F.PLT_STATE_STATE k) 6 (show 2 < 32 by decide), rfl⟩

/-- With the random number generator well, the plot is in ZEROING with its key loaded. -/
theorem Part.fallowDrained_keyed (p : Part) (t : Nat) {k : Nat} (h : k < 9) :
    (p.fallowDrained t k true).get (F.PLT_STATE_STATE k) = 6 ∧
      ((p.fallowDrained t k true).get F.KEY_MEM_LOADED_PLOT).testBit k = true := by
  obtain ⟨q, hstate, he⟩ := p.fallowDrained_eq t k true
  have hloaded : R.PLT_STATE k ≠ R.KEY_MEM_LOADED := by unfold R.PLT_STATE R.KEY_MEM_LOADED; omega
  have hgen : R.PLT_STATE k ≠ R.KEY_MEM_GEN k := by unfold R.PLT_STATE R.KEY_MEM_GEN; omega
  have hkept : (q.deriveMemKey k).get (F.PLT_STATE_STATE k) = q.get (F.PLT_STATE_STATE k) :=
    congrArg (·.bits 2 0) (q.deriveMemKey_reg_other k hloaded hgen)
  rw [he, if_pos rfl]
  exact ⟨hkept.trans hstate, q.deriveMemKey_loaded h⟩

/-- Where it fails, the plot is in ZEROING with KEY_FAIL, and KEY_ERR shows the failure. -/
theorem Part.fallowDrained_failed (p : Part) (t k : Nat) :
    (p.fallowDrained t k false).get (F.PLT_STATE_STATE k) = 6 ∧ (p.fallowDrained t k false).get (F.PLT_STATE_KEY_FAIL k) = 1 ∧
      (p.fallowDrained t k false).get F.KEY_ERR_RNG_FAIL = 1 := by
  obtain ⟨q, hstate, he⟩ := p.fallowDrained_eq t k false
  have hreg : R.PLT_STATE k ≠ R.KEY_ERR := by unfold R.PLT_STATE R.KEY_ERR; omega
  rw [he, if_neg Bool.false_ne_true]
  refine ⟨?_, Part.get_put_bit _ (R.PLT_STATE k) 3 1 (by decide), ?_⟩
  · rw [Part.set, Part.get_put_disjoint _ (F.PLT_STATE_KEY_FAIL k) (F.PLT_STATE_STATE k) 1 (.inl (show 2 < 3 by decide)), Part.set,
      Part.get_put_reg q F.KEY_ERR_RNG_FAIL (F.PLT_STATE_STATE k) 1 hreg, hstate]
  · rw [Part.set, Part.get_put_reg _ (F.PLT_STATE_KEY_FAIL k) F.KEY_ERR_RNG_FAIL 1 hreg.symm]
    exact Part.get_put_bit q R.KEY_ERR 0 1 (by decide)

end Sys2Proof.Machine
end

section
/-! SUPPORT. The zeroing of a plot (R154 steps 6 and 7): bytes once zero stay so, as zeroing writes nothing but zeros and what follows
it leaves the memory. -/

namespace Sys2Proof.Machine

/-- A fold of updates that each leave the memory does so as well. -/
theorem Part.each_mem (p : Part) (l : List Nat) (f : Part → Nat → Part) (h : ∀ q k, (f q k).mem = q.mem) : (p.each l f).mem = p.mem := by
  unfold Part.each
  induction l generalizing p with
  | nil => rfl
  | cons k r ih => exact (ih _).trans (h p k)

/-! The registers and units of a plot return to their image values without a change of the memory. -/

theorem Part.clearUnits_mem (p : Part) (k : Nat) : (p.clearUnits k).mem = p.mem := by
  unfold Part.clearUnits
  extract_lets r q1 q2 q3
  have h1 : q1.mem = p.mem := p.each_mem _ _ fun _ _ => rfl
  have h2 : q2.mem = q1.mem := q1.each_mem _ _ fun _ _ => rfl
  exact h2.trans h1

theorem Part.clearModels_mem (p : Part) (k : Nat) : (p.clearModels k).mem = p.mem := by
  unfold Part.clearModels
  extract_lets r ms q1 q2
  have hmodels : q1.mem = p.mem := p.each_mem ms _ fun _ _ => rfl
  clear_value q1
  exact hmodels

theorem Part.loadCtx_mem (p : Part) (s : Nat) : (p.loadCtx s).mem = p.mem := by
  have hctx (u : ItkCtx) : (p.setCtx s u).mem = p.mem := rfl
  unfold Part.loadCtx
  dsimp only
  split <;> simp only [Part.set, Part.put64, Part.put_mem, hctx]

theorem Part.loadDec_mem (p : Part) (s : Nat) : (p.loadDec s).mem = p.mem := by
  unfold Part.loadDec
  extract_lets
  split <;> rfl

theorem Part.loadPipe_mem (p : Part) (k : Nat) : (p.loadPipe k).mem = p.mem := by
  unfold Part.loadPipe
  extract_lets
  split <;> rfl

theorem Part.loadGroups_mem (p : Part) (k : Nat) : (p.loadGroups k).mem = p.mem := by
  unfold Part.loadGroups
  refine p.each_mem _ _ fun q i => ?_
  extract_lets
  split <;> rfl

theorem Part.loadBanks_mem (p : Part) (k : Nat) : (p.loadBanks k).mem = p.mem := by
  unfold Part.loadBanks
  split
  · rfl
  · exact p.each_mem _ _ fun _ _ => rfl

theorem Part.loadPlot_mem (p : Part) (k : Nat) : (p.loadPlot k).mem = p.mem := by
  unfold Part.loadPlot
  extract_lets r q1 q2 q3 q4 q5 q6 q7
  have hstreams : q1.mem = p.mem := p.each_mem _ _ fun q s => ((q.loadCtx s).loadDec_mem s).trans (q.loadCtx_mem s)
  have hsets : q2.mem = q1.mem := q1.each_mem _ _ fun _ _ => rfl
  have hpipes : q3.mem = q2.mem := (Part.loadGroups_mem _ k).trans (q2.each_mem _ _ Part.loadPipe_mem)
  have hbanks : q6.mem = q3.mem := (q5.loadBanks_mem k).trans (by simp only [q4, q5, Part.put_mem])
  have hchannels : q7.mem = q6.mem := q6.each_mem _ _ fun _ _ => rfl
  have htimers := q7.each_mem ((List.range 64).filter (fun c => r.timerOwner c == k)) (fun q c => q.put (F.SDL_TMR_OWNER_PLOT c) k)
    fun _ _ => rfl
  exact htimers.trans (hchannels.trans (hbanks.trans (hpipes.trans (hsets.trans hstreams))))

/-! Bytes that are zero. -/

/-- The `n` bytes from address `a` are 0. -/
def Part.ZeroAt (a n : Nat) (p : Part) : Prop := ∀ i, a ≤ i → i < a + n → p.byte i = 0

/-- A range just zeroed is 0. -/
theorem Part.ZeroAt.self (p : Part) (a n : Nat) : (p.zero a n).ZeroAt a n := fun i hl hu => by
  rw [Part.byte_zero, if_pos ⟨hl, hu⟩]

/-- Zeroing another range keeps the zeros. -/
theorem Part.ZeroAt.zero {a n : Nat} {p : Part} (h : p.ZeroAt a n) (b m : Nat) : (p.zero b m).ZeroAt a n := fun i hl hu => by
  rw [Part.byte_zero]
  split
  · rfl
  · exact h i hl hu

theorem Part.ZeroAt.of_mem {a n : Nat} {p q : Part} (h : p.ZeroAt a n) (hm : q.mem = p.mem) : q.ZeroAt a n := fun i hl hu => by
  rw [Part.byte, hm]
  exact h i hl hu

theorem Part.ZeroAt.each {a n : Nat} {p : Part} (h : p.ZeroAt a n) (l : List Nat) (f : Part → Nat → Part)
    (hf : ∀ q k, Part.ZeroAt a n q → Part.ZeroAt a n (f q k)) : (p.each l f).ZeroAt a n := by
  unfold Part.each
  induction l generalizing p with
  | nil => exact h
  | cons k r ih => exact ih (hf p k h)

/-- The zeroing leaves the plot's window 0 (R154). -/
theorem Part.ZeroAt.fallowZeroed (p : Part) (k : Nat) : (p.fallowZeroed k).ZeroAt (winBase k) (p.img.window k) := by
  unfold Part.fallowZeroed
  extract_lets window banks regs units
  have hwindow : window.ZeroAt (winBase k) (p.img.window k) := .of_mem (.self p _ _) rfl
  have hbanks : banks.ZeroAt (winBase k) (p.img.window k) := hwindow.each _ _ fun _ _ h => h.each _ _ fun _ _ h => h.zero _ _
  have hregs : regs.ZeroAt (winBase k) (p.img.window k) := hbanks.of_mem rfl
  have hunits : units.mem = regs.mem :=
    (Part.loadPlot_mem _ k).trans ((Part.clearModels_mem _ k).trans (Part.clearUnits_mem _ k))
  exact (hregs.of_mem hunits).of_mem rfl

/-- It lifts the fence and lets the reload begin. -/
theorem Part.fallowZeroed_unfenced (p : Part) (k : Nat) :
    ((p.fallowZeroed k).get F.PLT_FENCED_PLOT).testBit k = false ∧ ((p.fallowZeroed k).plot k).fencedAt = none ∧
      ((p.fallowZeroed k).plot k).reloading = true := by
  unfold Part.fallowZeroed
  extract_lets window banks regs units
  refine ⟨units.testBit_clrBit F.PLT_FENCED_PLOT k (by decide), ?_, ?_⟩
  all_goals rw [Part.plot_modPlot_self]

end Sys2Proof.Machine
end

section
/-! SUPPORT. Retiring the NVMe commands that a pick names (R637): none of them is left in a slot. -/

namespace Sys2Proof.Machine

/-- Retire the command of a slot where `mine` picks it. -/
def Part.nvRetireIf (mine : NvmeCmd → Bool) (p : Part) (s : Nat) : Part :=
  match p.nvCmd s with
  | some c => if mine c then p.nvRetire s else p
  | none => p

theorem Part.nvRetireAll_eq (p : Part) (mine : NvmeCmd → Bool) : p.nvRetireAll mine = p.each p.nvSlots (Part.nvRetireIf mine) := rfl

/-- The slot holds no command that `mine` picks. -/
def Part.NoneAt (mine : NvmeCmd → Bool) (s : Nat) (p : Part) : Prop := ∀ c, p.nvCmd s = some c → mine c = false

/-- A slot's command is retired, or it is none that `mine` picks. -/
theorem Part.nvRetireIf_cases (mine : NvmeCmd → Bool) (p : Part) (s : Nat) :
    p.nvRetireIf mine s = p.nvRetire s ∨ p.nvRetireIf mine s = p ∧ p.NoneAt mine s := by
  unfold Part.nvRetireIf Part.NoneAt
  cases p.nvCmd s with
  | none => exact .inr ⟨rfl, fun _ h => nomatch h⟩
  | some c =>
    cases hc : mine c with
    | true => exact .inl (if_pos hc)
    | false => exact .inr ⟨if_neg (ne_true_of_eq_false hc), fun _ h => Option.some.inj h ▸ hc⟩

/-- A retired slot is empty, and the others hold what they held. -/
theorem Part.nvCmd_nvRetire (p : Part) (s j : Nat) : (p.nvRetire s).nvCmd j = if j = s then none else p.nvCmd j := by
  simp [Part.nvCmd, Part.nvRetire, Part.setNvCmd, Part.bumpGen, FMap.get_put]

theorem Part.nvRetireIf_mem (mine : NvmeCmd → Bool) (p : Part) (s : Nat) : (p.nvRetireIf mine s).mem = p.mem := by
  rcases p.nvRetireIf_cases mine s with h | ⟨h, -⟩ <;> rw [h]
  rfl

/-- The slot just seen to holds no picked command. -/
theorem Part.NoneAt.self (mine : NvmeCmd → Bool) (p : Part) (s : Nat) : (p.nvRetireIf mine s).NoneAt mine s := by
  rcases p.nvRetireIf_cases mine s with h | ⟨h, hnone⟩
  · rw [h]
    intro c hc
    rw [Part.nvCmd_nvRetire, if_pos rfl] at hc
    cases hc
  · rw [h]
    exact hnone

/-- Seeing to one slot puts no command into another. -/
theorem Part.NoneAt.nvRetireIf {mine : NvmeCmd → Bool} {p : Part} {j : Nat} (h : p.NoneAt mine j) (s : Nat) :
    (p.nvRetireIf mine s).NoneAt mine j := by
  rcases p.nvRetireIf_cases mine s with he | ⟨he, -⟩ <;> rw [he]
  · intro c hc
    rw [Part.nvCmd_nvRetire] at hc
    split at hc
    · cases hc
    · exact h c hc
  · exact h

theorem Part.NoneAt.each {mine : NvmeCmd → Bool} {p : Part} {j : Nat} (h : p.NoneAt mine j) (l : List Nat) :
    (p.each l (Part.nvRetireIf mine)).NoneAt mine j := by
  unfold Part.each
  induction l generalizing p with
  | nil => exact h
  | cons s r ih => exact ih (h.nvRetireIf s)

/-- A pass over slots leaves no picked command in any of them. -/
theorem Part.NoneAt.of_mem {mine : NvmeCmd → Bool} {j : Nat} {l : List Nat} (h : j ∈ l) (p : Part) :
    (p.each l (Part.nvRetireIf mine)).NoneAt mine j := by
  induction l generalizing p with
  | nil => cases h
  | cons s r ih =>
    rcases List.mem_cons.1 h with rfl | hr
    · exact (Part.NoneAt.self mine p j).each r
    · exact ih hr _

/-- After all that `mine` picks are retired, no slot holds one. -/
theorem Part.NoneAt.nvRetireAll (mine : NvmeCmd → Bool) (p : Part) {s : Nat} (hs : s < 256) : (p.nvRetireAll mine).NoneAt mine s := by
  rw [Part.nvRetireAll_eq]
  by_cases h : s ∈ p.nvSlots
  · exact .of_mem h p
  · have hempty : p.nvCmd s = none := by simpa [Part.nvSlots, hs] using h
    exact Part.NoneAt.each (fun c hc => by rw [hempty] at hc; cases hc) _

/-- A fenced plot's retired commands leave its tagged counter at zero (R637). -/
theorem Part.fenceRetire_nvTagged (p : Part) (k : Nat) : (p.fenceRetire k).nvTagged k = 0 := by
  unfold Part.nvTagged
  rw [List.length_eq_zero_iff, List.filter_eq_nil_iff]
  intro s hs htagged
  have hs : s < 256 := List.mem_range.1 (List.mem_filter.1 hs).1
  have hnone : (p.fenceRetire k).NoneAt (fun c => c.op == 1 && c.plot == k) s := .nvRetireAll _ p hs
  cases hc : (p.fenceRetire k).nvCmd s with
  | none => rw [hc] at htagged; cases htagged
  | some c => rw [hc] at htagged; exact absurd htagged (ne_true_of_eq_false (hnone c hc))

theorem Part.fenceRetire_mem (p : Part) (k : Nat) : (p.fenceRetire k).mem = p.mem := by
  rw [Part.fenceRetire, Part.nvRetireAll_eq]
  exact p.each_mem _ _ (Part.nvRetireIf_mem _)

end Sys2Proof.Machine
end

section
/-! SUPPORT. The steps of a Fallow (R153, R154, R158, R637). -/

namespace Sys2Proof.Machine

open Sys2Proof.Claim

@[simp] theorem State.settle_plot (s : State) (p : Part) (k : Nat) : (s.settle p).part.plot k = p.plot k := by
  rw [Part.plot, State.settle_plots, Part.plot]

@[simp] theorem State.settle_nvTagged (s : State) (p : Part) (k : Nat) : (s.settle p).part.nvTagged k = p.nvTagged k := rfl

/-- A plot in DRAINING with nothing tagged is past its drain (R158). -/
theorem completes_fallowDrainEnd {k : Nat} {rngOk : Bool} {s : State} {Q : State → Prop} (hs : Ready s) (hk : k < 9)
    (hup : s.part.shedUp = true) (hstate : s.part.get (F.PLT_STATE_STATE k) = 5) (htagged : s.part.nvTagged k = 0)
    (hq : Q (s.settle (s.part.fallowDrained s.ns k rngOk))) : Completes (.fallowDrainEnd k rngOk) s Q :=
  ⟨_, next_fallowDrainEnd k rngOk s hs.1 (by simp [Instr.wf, Part.drainReady, hk, hup, hstate, htagged]), hq⟩

/-- Settles O23, step by step: the order that a running plot's page takes, the key that the drain's end derives or misses, the zeros
that nothing after the zeroing overwrites, and the slots that the fence's time limit empties. -/
theorem fallowStepsComplete : Obligations.FallowStepsComplete := by
  refine ⟨fun w s hs hkind hplot hissues => ?order, fun k s hs hk hup hstate htagged => ?keyed,
    fun k s hs hk hup hstate htagged => ?failed, fun k s hs hk hup hstate hkey hreload => ?zeroed,
    fun k at_ s hs hk hfence hold htagged => ?retired⟩
  case order =>
    refine completes_pltCtrlFallow hs hkind hplot hissues ⟨?_, fun k hk => Part.plot_modPlot_other _ _ hk, rfl⟩
    rw [Part.plot_modPlot_self]
  case keyed =>
    refine completes_fallowDrainEnd hs hk hup hstate htagged ?_
    simpa only [State.settle_get] using s.part.fallowDrained_keyed s.ns hk
  case failed =>
    refine completes_fallowDrainEnd hs hk hup hstate htagged ?_
    simpa only [State.settle_get] using s.part.fallowDrained_failed s.ns k
  case zeroed =>
    have hready : s.part.zeroReady k = true := by simp [Part.zeroReady, Part.on, hstate, hkey, hreload]
    refine ⟨_, next_fallowZeroDone k s hs.1 (by simp [Instr.wf, hk, hup, hready]), ?_⟩
    obtain ⟨hlifted, hfence, hreloading⟩ := s.part.fallowZeroed_unfenced k
    simp only [State.settle_get, State.settle_plot, State.settle_byte]
    exact ⟨hlifted, hfence, hreloading, Part.ZeroAt.fallowZeroed s.part k⟩
  case retired =>
    have hlate : s.part.fenceOld s.ns k = true := by simp [Part.fenceOld, hfence, hold, htagged]
    exact ⟨_, next_fenceNvmeRetire k s hs.1 (by simp [Instr.wf, hk, hlate]), s.part.fenceRetire_nvTagged k, s.part.fenceRetire_mem k⟩

end Sys2Proof.Machine
end

section
/-! SUPPORT. The choice of a set's member (R191): the walk over the open candidates keeps the nearest to the reference time, and of two
equally near ones the earlier. -/

namespace Sys2Proof.Machine

/-- `b` is chosen over `c` for the reference time `t`, or is as good. -/
def Candidate.AtLeastAsNear (t : Nat) (b c : Candidate) : Prop :=
  distance b.ts t < distance c.ts t ∨ (distance b.ts t = distance c.ts t ∧ b.ts ≤ c.ts)

theorem Candidate.AtLeastAsNear.refl (t : Nat) (b : Candidate) : b.AtLeastAsNear t b := .inr ⟨rfl, Nat.le_refl _⟩

theorem Candidate.AtLeastAsNear.trans {t : Nat} {a b c : Candidate} (h : a.AtLeastAsNear t b) (k : b.AtLeastAsNear t c) :
    a.AtLeastAsNear t c := by
  unfold Candidate.AtLeastAsNear at *
  omega

/-- What the walk keeps of the best so far and the next candidate. -/
def Candidate.nearer (t : Nat) (b c : Candidate) : Candidate :=
  if distance c.ts t < distance b.ts t ∨ (distance c.ts t = distance b.ts t ∧ c.ts < b.ts) then c else b

/-- It keeps one of the two, and one that is at least as near as either. -/
theorem Candidate.nearer_cases (t : Nat) (b c : Candidate) :
    (b.nearer t c = b ∨ b.nearer t c = c) ∧ (b.nearer t c).AtLeastAsNear t b ∧ (b.nearer t c).AtLeastAsNear t c := by
  unfold Candidate.nearer
  split
  · next hc => exact ⟨.inr rfl, by unfold Candidate.AtLeastAsNear; omega, .refl t c⟩
  · next hb => exact ⟨.inl rfl, .refl t b, by unfold Candidate.AtLeastAsNear; omega⟩

/-- The walk from `b` ends at `b` or at a candidate of the list, at least as near as each of them. -/
theorem Candidate.foldl_nearer (t : Nat) (b : Candidate) (l : List Candidate) :
    l.foldl (Candidate.nearer t) b ∈ b :: l ∧ ∀ d ∈ b :: l, (l.foldl (Candidate.nearer t) b).AtLeastAsNear t d := by
  induction l generalizing b with
  | nil => exact ⟨List.mem_cons_self, fun d hd => List.mem_singleton.1 hd ▸ .refl t b⟩
  | cons c r ih =>
    obtain ⟨hkept, hb, hc⟩ := b.nearer_cases t c
    obtain ⟨hmem, hbest⟩ := ih (b.nearer t c)
    have hfirst := hbest _ List.mem_cons_self
    rw [List.foldl_cons]
    refine ⟨?_, fun d hd => ?_⟩
    · rcases List.mem_cons.1 hmem with h | h
      · rw [h]
        rcases hkept with h | h <;> simp [h]
      · exact List.mem_cons_of_mem _ (List.mem_cons_of_mem _ h)
    · rcases List.mem_cons.1 hd with rfl | hd
      · exact hfirst.trans hb
      · rcases List.mem_cons.1 hd with rfl | hd
        · exact hfirst.trans hc
        · exact hbest d (List.mem_cons_of_mem _ hd)

/-- A member's candidates that lie within the window and that no pair has used, in the set's order. -/
def ItkSet.openCands (u : ItkSet) (member t window : Nat) : List Candidate :=
  u.cands.filter (fun c => c.member == member && !c.used && decide (distance c.ts t ≤ window))

theorem ItkSet.mem_openCands (u : ItkSet) (member t window : Nat) (c : Candidate) :
    c ∈ u.openCands member t window ↔
      c ∈ u.cands ∧ c.member = member ∧ c.used = false ∧ c.ts ≤ t + window ∧ t ≤ c.ts + window := by
  have hwindow : distance c.ts t ≤ window ↔ c.ts ≤ t + window ∧ t ≤ c.ts + window := by
    unfold distance
    split <;> omega
  simp [ItkSet.openCands, hwindow, and_assoc]

/-- The walk's step, where there may be no best so far. -/
def Candidate.pick (t : Nat) (best : Option Candidate) (c : Candidate) : Option Candidate := some (best.elim c (·.nearer t c))

theorem choose_eq_foldl (u : ItkSet) (member t window : Nat) :
    choose u member t window = (u.openCands member t window).foldl (Candidate.pick t) none := by
  unfold choose ItkSet.openCands
  congr 1
  funext best c
  cases best with
  | none => rfl
  | some b => exact (apply_ite some _ c b).symm

theorem Candidate.foldl_pick (t : Nat) (b : Candidate) (l : List Candidate) :
    l.foldl (Candidate.pick t) (some b) = some (l.foldl (Candidate.nearer t) b) := by
  induction l generalizing b with
  | nil => rfl
  | cons c r ih => exact ih (b.nearer t c)

/-- Settles O27: the open candidates are those of R191, and the walk over them ends at one that is at least as near as each. -/
theorem pairChoosesNearest : Obligations.PairChoosesNearest := by
  intro u member t window open_
  have hopen : ∀ c, c ∈ u.openCands member t window ↔ open_ c := u.mem_openCands member t window
  rw [choose_eq_foldl]
  cases h : u.openCands member t window with
  | nil => exact fun d hd => List.not_mem_nil (h ▸ (hopen d).2 hd)
  | cons b r =>
    rw [h] at hopen
    rw [List.foldl_cons, show Candidate.pick t none b = some b from rfl, Candidate.foldl_pick]
    obtain ⟨hmem, hbest⟩ := Candidate.foldl_nearer t b r
    exact ⟨(hopen _).1 hmem, fun d hd => hbest d ((hopen d).2 hd)⟩

end Sys2Proof.Machine
end

section
/-! SUPPORT. The registers and the state of a stream context: what a change of one leaves of the others, the register rows of a context,
and what the writes of its COMMIT and CTRL leave (R174, R177, R185, R188, R197). -/

namespace Sys2Proof.Machine

open Sys2Proof.Claim

/-! A context's state. -/

@[simp] theorem Part.ctx_setCtx_self (p : Part) (k : Nat) (u : ItkCtx) : (p.setCtx k u).ctx k = u :=
  FMap.get_put_self ItkCtx.init p.itk k u

theorem Part.ctx_setCtx_other (p : Part) {k j : Nat} (u : ItkCtx) (h : j ≠ k) : (p.setCtx k u).ctx j = p.ctx j :=
  FMap.get_put_other ItkCtx.init p.itk u h

@[simp] theorem Part.ctx_modCtx_self (p : Part) (k : Nat) (f : ItkCtx → ItkCtx) : (p.modCtx k f).ctx k = f (p.ctx k) :=
  Part.ctx_setCtx_self p k _

theorem Part.ctx_modCtx_other (p : Part) {k j : Nat} (f : ItkCtx → ItkCtx) (h : j ≠ k) : (p.modCtx k f).ctx j = p.ctx j :=
  Part.ctx_setCtx_other p _ h

/-- A write of a register leaves the contexts. -/
@[simp] theorem Part.ctx_put (p : Part) (f : Fld) (n j : Nat) : (p.put f n).ctx j = p.ctx j := rfl

/-- A store leaves the contexts. -/
@[simp] theorem Part.store_ctx (p : Part) (a : Nat) (l : List Byte) (j : Nat) : (p.store a l).ctx j = p.ctx j := rfl

/-- A field whose register is not listed reads as before. -/
theorem Part.RegsWithin.get {l : List Nat} {p q : Part} (h : p.RegsWithin l q) {f : Fld} (hf : f.reg ∉ l) : q.get f = p.get f := by
  rw [Part.get, Part.get, h f.reg hf]

/-- A field of one bit, as the number of its being on. -/
theorem Part.toNat_on (p : Part) (a i : Nat) : (p.on ⟨a, i, i⟩).toNat = p.get ⟨a, i, i⟩ := by
  by_cases h : p.get ⟨a, i, i⟩ = 1
  · rw [(p.on_iff _).2 h, h]; rfl
  · rw [p.on_eq_false h, p.get_bit_eq_zero a i h]; rfl

/-! The registers of the contexts in the register table. -/

/-- A row of one register for each port ends before the contexts. -/
theorem findRow_port {off o : Nat} (l : List FieldSpec) (rs : List RegRow) (hoff : off < 0x200) (ho : 0x10000 ≤ o) :
    findRow (⟨off, 8, 0x20, 1, 0, l⟩ :: rs) o = findRow rs o := by
  have hfind : RegRow.find ⟨off, 8, 0x20, 1, 0, l⟩ o = none := by
    have hpast : 8 ≤ (o - off) / 0x20 := by omega
    simp [RegRow.find, hpast]
    omega
  rw [findRow, hfind]

/-- A row of one register for each context has no register between two of them. -/
theorem findRow_ctx_other {off o k : Nat} (l : List FieldSpec) (rs : List RegRow) (hk : k < 128) (hl : off + k * 0x80 < o)
    (hu : o < off + k * 0x80 + 0x80) : findRow (⟨off, 128, 0x80, 1, 0, l⟩ :: rs) o = findRow rs o := by
  have hfind : RegRow.find ⟨off, 128, 0x80, 1, 0, l⟩ o = none := by
    have hi : (o - off) / 0x80 = k := by omega
    have hin : ¬ 128 ≤ k := by omega
    simp [RegRow.find, hi, hin]
    omega
  rw [findRow, hfind]

/-- Such a row has the register of context `k` at its offset and `k` times 0x80. -/
theorem findRow_ctx {off k : Nat} (l : List FieldSpec) (rs : List RegRow) (hk : k < 128) :
    findRow (⟨off, 128, 0x80, 1, 0, l⟩ :: rs) (off + k * 0x80) = some (⟨off, 128, 0x80, 1, 0, l⟩, k, 0) := by
  have hfind : RegRow.find ⟨off, 128, 0x80, 1, 0, l⟩ (off + k * 0x80) = some (k, 0) := by
    have hin : ¬ 128 ≤ k := by omega
    simp [RegRow.find, hin, hk]
  rw [findRow, hfind]

/-- From offset 0x10000 of Intake's block on the rows of the block itself and of its ports are past. -/
theorem regAt_contexts {a o : Nat} (ha : a = 0x200000 + o) (hl : 0x10000 ≤ o) (hu : o < 0x20000) :
    regAt a = findRow (regsITK.drop 5) o := by
  have hblk : a / 0x100000 = 2 := by omega
  have hoff : a % 0x100000 = o := by omega
  rw [regAt, hblk, hoff]
  simp only [regsOf, regsITK, List.cons_append, List.nil_append]
  rw [findRow_one _ _ (by omega)]
  iterate 4 rw [findRow_port _ _ (by decide) hl]
  rfl

theorem regAt_ctxCtrl {k : Nat} (h : k < 128) :
    regAt (R.ITK_CTX_CTRL k) = some (⟨0x10000, 128, 0x80, 1, 0, [⟨0, 0, .rw, 0⟩, ⟨1, 1, .wo, 0⟩]⟩, k, 0) := by
  rw [regAt_contexts (o := 0x10000 + k * 0x80) (by unfold R.ITK_CTX_CTRL; omega) (by omega) (by omega)]
  exact findRow_ctx _ _ h

theorem regAt_ctxCommit {k : Nat} (h : k < 128) :
    regAt (R.ITK_CTX_COMMIT k) = some (⟨0x1002c, 128, 0x80, 1, 0, [⟨0, 0, .wo, 0⟩]⟩, k, 0) := by
  rw [regAt_contexts (o := 0x1002c + k * 0x80) (by unfold R.ITK_CTX_COMMIT; omega) (by omega) (by omega)]
  iterate 11 refine (findRow_ctx_other _ _ h (by omega) (by omega)).trans ?_
  exact findRow_ctx _ _ h

/-! What a write of them orders. -/

/-- A write in Intake's block follows the register's own rule, or else its access codes. -/
theorem Part.regStore_itk (p : Part) (t : Nat) (w : Who) (ctx : Nat) {a i j : Nat} {r : RegRow} (v : Word) (h : a / 0x100000 = 2)
    (hr : regAt a = some (r, i, j)) :
    p.regStore t w ctx a v = (p.writeFront t w (0x200000 + r.off) i v).getD (p.writeFields a v r.fields) := by
  have hgated : p.gatedReg a = false := by simp [Part.gatedReg, h, blkBED]
  have hshut : p.ringShut a = false := by
    have : ¬ (0x710000 ≤ a) := by omega
    simp [Part.ringShut, isHostRing, this]
  unfold Part.regStore
  rw [hr]
  simp only [hgated, hshut, h, rowKey]
  rfl

theorem Part.writeFront_ctxCtrl (p : Part) (t : Nat) (w : Who) (i : Nat) (v : Word) :
    p.writeFront t w (R.ITK_CTX_CTRL 0) i v =
      some (if v.bits 1 1 = 1 then (p.ctxEnable i (v.bits 0 0 == 1)).ctxRelock i else p.ctxEnable i (v.bits 0 0 == 1)) := by
  unfold Part.writeFront
  iterate 8 rw [if_neg (by decide)]
  exact if_pos rfl

theorem Part.writeFront_ctxCommit (p : Part) (t : Nat) (w : Who) (i : Nat) (v : Word) :
    p.writeFront t w (R.ITK_CTX_COMMIT 0) i v = if v.bits 0 0 = 1 then some (p.itkCommit i) else none := by
  unfold Part.writeFront
  iterate 9 rw [if_neg (by decide)]
  exact if_pos rfl

/-- Plot 0 firmware reaches the registers of every context. -/
theorem Part.writeOf_ctx (p : Part) (t : Nat) {w : Who} {a i j : Nat} {r : RegRow} (v : Word) (hk : w.kind ≠ .host) (hp : w.plot = 0)
    (hl : 0x210000 ≤ a) (hu : a < 0x220000) (h4 : a % 4 = 0) (hr : regAt a = some (r, i, j)) :
    p.writeOf t w a v = (p.writeFront t w (0x200000 + r.off) i v).getD (p.writeFields a v r.fields) := by
  have hcopy : copyOf a = a := if_neg (by omega)
  rw [p.writeOf_firmware t v hk hp (by omega) h4 (by rw [implemented, hcopy, hr]; rfl) hcopy,
    p.regStore_itk t w 0 v (by omega) hr]

/-- A write of CTRL sets EN, and releases the SSRC lock where RELOCK is written 1. -/
theorem Part.writeOf_ctxCtrl (p : Part) (t : Nat) {w : Who} {k : Nat} (v : Word) (hw : w.kind ≠ .host) (hp : w.plot = 0)
    (h : k < 128) :
    p.writeOf t w (R.ITK_CTX_CTRL k) v =
      if v.bits 1 1 = 1 then (p.ctxEnable k (v.bits 0 0 == 1)).ctxRelock k else p.ctxEnable k (v.bits 0 0 == 1) := by
  rw [p.writeOf_ctx t v hw hp (by unfold R.ITK_CTX_CTRL; omega) (by unfold R.ITK_CTX_CTRL; omega) (by unfold R.ITK_CTX_CTRL; omega)
    (regAt_ctxCtrl h), show 0x200000 + 0x10000 = R.ITK_CTX_CTRL 0 from rfl, Part.writeFront_ctxCtrl, Option.getD_some]

/-- A write of 1 to COMMIT is the group's commit. -/
theorem Part.writeOf_ctxCommit (p : Part) (t : Nat) {w : Who} {k : Nat} (hw : w.kind ≠ .host) (hp : w.plot = 0) (h : k < 128) :
    p.writeOf t w (R.ITK_CTX_COMMIT k) 1 = p.itkCommit k := by
  rw [p.writeOf_ctx t 1 hw hp (by unfold R.ITK_CTX_COMMIT; omega) (by unfold R.ITK_CTX_COMMIT; omega)
    (by unfold R.ITK_CTX_COMMIT; omega) (regAt_ctxCommit h), show 0x200000 + 0x1002c = R.ITK_CTX_COMMIT 0 from rfl,
    Part.writeFront_ctxCommit, if_pos (by decide), Option.getD_some]

/-! The commit of a group (R185, R188, R197). -/

/-- In OFF and FENCED a commit is ignored. -/
theorem Part.itkCommit_ignored {p : Part} {k : Nat}
    (h : p.get (F.ITK_CTX_STATE_STATE k) = 0 ∨ p.get (F.ITK_CTX_STATE_STATE k) = 5) : p.itkCommit k = p := if_pos h

/-- A group that is not acceptable only sets REJECT. -/
theorem Part.itkCommit_rejected {p : Part} {k : Nat} (h0 : p.get (F.ITK_CTX_STATE_STATE k) ≠ 0)
    (h5 : p.get (F.ITK_CTX_STATE_STATE k) ≠ 5) (hbad : groupOk p.img k (p.staging k) = false) :
    p.itkCommit k = p.set (F.ITK_CTX_COMMIT_STAT_REJECT k) := by
  simp [Part.itkCommit, h0, h5, hbad]

/-- The part with COMMIT_STAT showing that a pending group is superseded, where there is one. -/
def Part.supersede (p : Part) (k : Nat) : Part :=
  p.iff (p.on (F.ITK_CTX_COMMIT_STAT_PENDING k)) (·.set (F.ITK_CTX_COMMIT_STAT_SUPERSEDED k))

/-- An acceptable group waits as the pending one. -/
theorem Part.itkCommit_accepted {p : Part} {k : Nat} (h0 : p.get (F.ITK_CTX_STATE_STATE k) ≠ 0)
    (h5 : p.get (F.ITK_CTX_STATE_STATE k) ≠ 5) (hok : groupOk p.img k (p.staging k) = true) :
    p.itkCommit k = ((p.supersede k).modCtx k (fun u => { u with pending := some (p.staging k) })).put
      (F.ITK_CTX_COMMIT_STAT_PENDING k) 1 := by
  simp [Part.itkCommit, Part.supersede, Part.set, h0, h5, hok]

/-- Superseding a group changes COMMIT_STAT alone, and there SUPERSEDED where a group was pending. -/
theorem Part.supersede_spec (p : Part) (k : Nat) :
    p.supersede k = { p with regs := (p.supersede k).regs } ∧ p.RegsWithin [R.ITK_CTX_COMMIT_STAT k] (p.supersede k) ∧
    (p.supersede k).get (F.ITK_CTX_COMMIT_STAT_SUPERSEDED k) =
      if p.get (F.ITK_CTX_COMMIT_STAT_PENDING k) = 1 then 1 else p.get (F.ITK_CTX_COMMIT_STAT_SUPERSEDED k) := by
  unfold Part.supersede Part.iff
  by_cases h : p.get (F.ITK_CTX_COMMIT_STAT_PENDING k) = 1
  · rw [if_pos ((p.on_iff _).2 h), if_pos h]
    exact ⟨rfl, (Part.RegsWithin.refl _ p).put _ _ List.mem_cons_self, Part.get_put_bit p _ 2 1 (by decide)⟩
  · rw [p.on_eq_false h, if_neg h]
    exact ⟨rfl, .refl _ p, rfl⟩

/-! A context's control (R174, R177). -/

/-- What a write of EN makes of a context's STATE. -/
def Part.enabledState (p : Part) (k : Nat) (on : Bool) : Nat :=
  let st := p.get (F.ITK_CTX_STATE_STATE k)
  if on then (if st = 1 then 2 else st)
  else if st = 0 ∨ st = 5 then st else if p.img.streamSource k = 1 then 1 else 2

theorem ctx_ctrl_ne_state (k : Nat) : R.ITK_CTX_STATE k ≠ R.ITK_CTX_CTRL k := by
  unfold R.ITK_CTX_STATE R.ITK_CTX_CTRL; omega

/-- STATE and the SSRC lock share a register and no bit. -/
theorem Part.state_put_locked (p : Part) (k n : Nat) :
    (p.put (F.ITK_CTX_STATE_SSRC_LOCKED k) n).get (F.ITK_CTX_STATE_STATE k) = p.get (F.ITK_CTX_STATE_STATE k) :=
  Part.get_put_disjoint p _ _ n (.inl (show 2 < 3 by decide))

theorem Part.state_put (p : Part) (k : Nat) {n : Nat} (h : n < 8) :
    (p.put (F.ITK_CTX_STATE_STATE k) n).get (F.ITK_CTX_STATE_STATE k) = n :=
  (Part.get_put_self p (F.ITK_CTX_STATE_STATE k) n (show 2 < 32 by decide)).trans (Nat.mod_eq_of_lt h)

/-- `q` is `p` but for CTRL and STATE of context `k`, which show this EN and this state. -/
def Part.CtxShows (k en st : Nat) (p q : Part) : Prop :=
  q = { p with regs := q.regs } ∧ p.RegsWithin [R.ITK_CTX_CTRL k, R.ITK_CTX_STATE k] q ∧
  q.get (F.ITK_CTX_CTRL_EN k) = en ∧ q.get (F.ITK_CTX_STATE_STATE k) = st

theorem Part.CtxShows.en (p : Part) (k : Nat) (on : Bool) :
    p.CtxShows k on.toNat (p.get (F.ITK_CTX_STATE_STATE k)) (p.put (F.ITK_CTX_CTRL_EN k) (if on then 1 else 0)) := by
  refine ⟨rfl, (Part.RegsWithin.refl _ p).put _ _ List.mem_cons_self, ?_, Part.get_put_reg p _ _ _ (ctx_ctrl_ne_state k)⟩
  refine (Part.get_put_bit p _ 0 _ (by decide)).trans ?_
  cases on <;> rfl

/-- Releasing the SSRC lock leaves EN and the state. -/
theorem Part.CtxShows.unlock {k en st : Nat} {p q : Part} (h : p.CtxShows k en st q) :
    p.CtxShows k en st (q.clr (F.ITK_CTX_STATE_SSRC_LOCKED k)) := by
  obtain ⟨hrest, hregs, hen, hst⟩ := h
  refine ⟨?_, hregs.put _ _ (by simp [F.ITK_CTX_STATE_SSRC_LOCKED]), ?_, (q.state_put_locked k 0).trans hst⟩
  · rw [hrest]; rfl
  · exact (Part.get_put_reg q _ _ 0 (ctx_ctrl_ne_state k).symm).trans hen

theorem Part.CtxShows.state {k en st : Nat} {p q : Part} (h : p.CtxShows k en st q) {n : Nat} (hn : n < 8) :
    p.CtxShows k en n (q.put (F.ITK_CTX_STATE_STATE k) n) := by
  obtain ⟨hrest, hregs, hen, -⟩ := h
  refine ⟨?_, hregs.put _ _ (by simp [F.ITK_CTX_STATE_STATE]), ?_, q.state_put k hn⟩
  · rw [hrest]; rfl
  · exact (Part.get_put_reg q _ _ n (ctx_ctrl_ne_state k).symm).trans hen

/-- What a write of EN leaves. -/
theorem Part.CtxShows.ctxEnable (p : Part) (k : Nat) (on : Bool) :
    p.CtxShows k on.toNat (p.enabledState k on) (p.ctxEnable k on) := by
  have hen := Part.CtxShows.en p k on
  cases on with
  | true =>
    have hunlocked : p.CtxShows k 1 (p.get (F.ITK_CTX_STATE_STATE k))
        (if p.on (F.ITK_CTX_CTRL_EN k) then p.put (F.ITK_CTX_CTRL_EN k) 1
          else (p.put (F.ITK_CTX_CTRL_EN k) 1).clr (F.ITK_CTX_STATE_SSRC_LOCKED k)) := by
      split
      · exact hen
      · exact hen.unlock
    by_cases hst : p.get (F.ITK_CTX_STATE_STATE k) = 1
    · simpa [Part.ctxEnable, Part.enabledState, hst] using hunlocked.state (n := 2) (by decide)
    · simpa [Part.ctxEnable, Part.enabledState, hst] using hunlocked
  | false =>
    by_cases hst : p.get (F.ITK_CTX_STATE_STATE k) = 0 ∨ p.get (F.ITK_CTX_STATE_STATE k) = 5
    · simpa [Part.ctxEnable, Part.enabledState, hst] using hen
    · have hn : (if p.img.streamSource k = 1 then 1 else 2) < 8 := by split <;> decide
      simpa [Part.ctxEnable, Part.enabledState, hst] using hen.state hn

/-- What plot 0 firmware's write of CTRL leaves, with RELOCK or without. -/
theorem Part.CtxShows.writeOf (p : Part) (t : Nat) {w : Who} {k : Nat} (v : Word) (hw : w.kind ≠ .host) (hp : w.plot = 0)
    (h : k < 128) :
    p.CtxShows k (v.bits 0 0 == 1).toNat (p.enabledState k (v.bits 0 0 == 1)) (p.writeOf t w (R.ITK_CTX_CTRL k) v) := by
  have hshown := Part.CtxShows.ctxEnable p k (v.bits 0 0 == 1)
  rw [p.writeOf_ctxCtrl t v hw hp h]
  split
  · exact hshown.unlock
  · exact hshown

theorem Part.CtxShows.regsOnly {k en st : Nat} {s : State} {q : Part} (h : s.part.CtxShows k en st q) :
    RegsOnly [R.ITK_CTX_CTRL k, R.ITK_CTX_STATE k] s { s with part := q } := regsOnly_of_regs h.1 h.2.1

/-- Settles O25: the commit's three outcomes, and what the writes of RELOCK and EN show in CTRL and STATE. -/
theorem streamContexts : Obligations.StreamContexts := by
  refine ⟨fun w k s ⟨hin, hstep⟩ hfw hk => ?commit, fun w k s ⟨hin, hstep⟩ hfw hk => ?control⟩
  case commit =>
    extract_lets st
    have he := next_itkCtxCommit w k s hin (by simp [Instr.wf, hk, issues_firmware hfw])
    rw [s.part.writeOf_ctxCommit s.ns hfw.1 hfw.2.1 hk] at he
    refine ⟨fun h0 h5 hok => ?accepted, fun h0 h5 hbad => ?rejected, fun hoff => ?ignored⟩
    case accepted =>
      rw [Part.itkCommit_accepted h0 h5 hok] at he
      obtain ⟨hrest, hregs, hsuper⟩ := s.part.supersede_spec k
      have hctx : (s.part.supersede k).ctx k = s.part.ctx k := by rw [hrest]; rfl
      have hsdl : (s.part.supersede k).sdl = s.part.sdl := by rw [hrest]
      refine completes_of_still he ?_ ⟨?_, ?_, Part.get_put_bit _ _ 0 1 (by decide), ?_, fun a ha => ?_, ?_⟩
      · exact (congrArg SdlUnit.step hsdl).trans hstep
      · rw [Part.ctx_put, Part.ctx_modCtx_self]
      · rw [Part.ctx_put, Part.ctx_modCtx_self, hctx]
      · exact (Part.get_put_disjoint _ (F.ITK_CTX_COMMIT_STAT_PENDING k) (F.ITK_CTX_COMMIT_STAT_SUPERSEDED k) 1
          (.inr (show 0 < 2 by decide))).trans hsuper
      · exact (hregs.put (F.ITK_CTX_COMMIT_STAT_PENDING k) 1 List.mem_cons_self) a (by simpa using ha)
      · rw [hrest]; rfl
    case rejected =>
      rw [Part.itkCommit_rejected h0 h5 hbad] at he
      exact completes_of_still he hstep ⟨Part.get_put_bit _ _ 1 1 (by decide),
        regsOnly_of_regs rfl ((Part.RegsWithin.refl _ s.part).put _ _ List.mem_cons_self)⟩
    case ignored =>
      rw [he, Part.itkCommit_ignored hoff, State.settle_still s s.part hstep]
  case control =>
    extract_lets st
    have hwf : (decide (k < 128) && s.part.issues w) = true := by simp [hk, issues_firmware hfw]
    have hset : ∀ v, s.part.CtxShows k _ _ (s.part.writeOf s.ns w (R.ITK_CTX_CTRL k) v) := fun v =>
      .writeOf s.part s.ns v hfw.1 hfw.2.1 hk
    have hkeeps : ∀ {en st : Nat} {q : Part}, s.part.CtxShows k en st q → q.sdl.step = 0 := fun h => by rw [h.1]; exact hstep
    refine ⟨?relock, ?enable, ?disable⟩
    case relock =>
      have hv := hset ((s.part.reg (R.ITK_CTX_CTRL k)).withBits 1 1 1)
      rw [Word.withBits_bits_other _ _ (.inl (by decide))] at hv
      refine completes_of_still (next_itkCtxRelock w k s hin hwf) (hkeeps hv) ⟨?_, hv.2.2.1.trans ?_, hv.regsOnly⟩
      · have hrelock : ((s.part.reg (R.ITK_CTX_CTRL k)).withBits 1 1 1).bits 1 1 = 1 := Word.withBits_bits_self _ 1 (by decide)
        rw [s.part.writeOf_ctxCtrl s.ns _ hfw.1 hfw.2.1 hk, if_pos hrelock]
        exact Part.get_put_bit _ _ 3 0 (by decide)
      · exact s.part.toNat_on _ 0
    case enable =>
      have hv := hset ((s.part.reg (R.ITK_CTX_CTRL k)).withBits 0 0 true.toNat)
      rw [Word.withBits_bits_self _ _ (by decide)] at hv
      exact completes_of_still (next_itkCtxEnWrite w k true s hin hwf) (hkeeps hv) ⟨hv.2.2.1, hv.2.2.2, hv.regsOnly⟩
    case disable =>
      have hv := hset ((s.part.reg (R.ITK_CTX_CTRL k)).withBits 0 0 false.toNat)
      rw [Word.withBits_bits_self _ _ (by decide)] at hv
      exact completes_of_still (next_itkCtxEnWrite w k false s hin hwf) (hkeeps hv) ⟨hv.2.2.1, hv.2.2.2, hv.regsOnly⟩

end Sys2Proof.Machine
end

section
/-! SUPPORT. The frame in progress of a CSI-2 context: what counts as a change of it alone, how it is dropped, what a line and a Frame End
make of it (R169, R195), and the latch of a frame that starts (R178, R186, R198). -/

namespace Sys2Proof.Machine

open Sys2Proof.Claim

/-! Changes of the frame in progress alone. -/

theorem Part.RegsWithin.mono {l l' : List Nat} {p q : Part} (h : p.RegsWithin l q) (hl : l ⊆ l') : p.RegsWithin l' q :=
  fun a ha => h a (fun hm => ha (hl hm))

/-- Of the registers only those listed differ, and of the contexts only the frame in progress of context `k` and its count of drops; no
step of the Sundial is ordered. -/
def Part.FrameOnly (l : List Nat) (k : Nat) (p q : Part) : Prop :=
  p.RegsWithin l q ∧ q.sdl = p.sdl ∧ (∀ j, j ≠ k → q.ctx j = p.ctx j) ∧
    ∃ fr n, q.ctx k = { p.ctx k with frame := fr, dropped := n }

/-- A change that leaves the contexts. -/
theorem Part.FrameOnly.of_itk {l : List Nat} {k : Nat} {p q : Part} (hregs : p.RegsWithin l q) (hsdl : q.sdl = p.sdl)
    (hitk : q.itk = p.itk) : p.FrameOnly l k q := by
  have hctx : ∀ j, q.ctx j = p.ctx j := fun j => by rw [Part.ctx, Part.ctx, hitk]
  exact ⟨hregs, hsdl, fun j _ => hctx j, (p.ctx k).frame, (p.ctx k).dropped, hctx k⟩

theorem Part.FrameOnly.refl (l : List Nat) (k : Nat) (p : Part) : p.FrameOnly l k p := .of_itk (.refl l p) rfl rfl

theorem Part.FrameOnly.trans {l : List Nat} {k : Nat} {p q r : Part} (h : p.FrameOnly l k q) (h' : q.FrameOnly l k r) :
    p.FrameOnly l k r := by
  obtain ⟨hregs, hsdl, hother, fr, n, hctx⟩ := h
  obtain ⟨hregs', hsdl', hother', fr', n', hctx'⟩ := h'
  exact ⟨hregs.trans hregs', hsdl'.trans hsdl, fun j hj => (hother' j hj).trans (hother j hj), fr', n', by rw [hctx', hctx]⟩

theorem Part.FrameOnly.mono {l l' : List Nat} {k : Nat} {p q : Part} (h : p.FrameOnly l k q) (hl : l ⊆ l') : p.FrameOnly l' k q :=
  ⟨h.1.mono hl, h.2⟩

theorem Part.FrameOnly.put {l : List Nat} {k : Nat} {p q : Part} (h : p.FrameOnly l k q) (f : Fld) (n : Nat) (hf : f.reg ∈ l) :
    p.FrameOnly l k (q.put f n) :=
  h.trans (.of_itk ((Part.RegsWithin.refl l q).put f n hf) rfl rfl)

theorem Part.FrameOnly.setFrame {l : List Nat} {k : Nat} {p q : Part} (h : p.FrameOnly l k q) (fr : Option CsiFrame) :
    p.FrameOnly l k (q.modCtx k (fun u => { u with frame := fr })) :=
  h.trans ⟨.refl l q, rfl, fun _ hj => Part.ctx_modCtx_other q _ hj, fr, (q.ctx k).dropped, Part.ctx_modCtx_self q k _⟩

theorem Part.FrameOnly.dropEntry {l : List Nat} {k : Nat} {p q : Part} (h : p.FrameOnly l k q) (hl : R.ITK_CTX_DROPS k ∈ l) :
    p.FrameOnly l k (q.dropEntry k) :=
  (h.put (F.ITK_CTX_DROPS_COUNT k) _ hl).trans
    ⟨.refl l _, rfl, fun _ hj => Part.ctx_modCtx_other _ _ hj, (q.ctx k).frame, (q.ctx k).dropped + 1, Part.ctx_modCtx_self _ k _⟩

theorem Part.FrameOnly.dropFrame {l : List Nat} {k : Nat} {p q : Part} (h : p.FrameOnly l k q) (hl : R.ITK_CTX_DROPS k ∈ l) :
    p.FrameOnly l k (q.dropFrame k) := by
  unfold Part.dropFrame
  split
  · exact h
  · split
    · exact h
    · exact (h.dropEntry hl).setFrame _

/-! The drop of a frame. -/

/-- A counter of 16 bits that saturates. -/
theorem Part.get_addSat16 (p : Part) (a n : Nat) : (p.addSat ⟨a, 15, 0⟩ n).get ⟨a, 15, 0⟩ = min (p.get ⟨a, 15, 0⟩ + n) 65535 := by
  refine (Part.get_put_self p _ _ (show 15 < 32 by decide)).trans (Nat.mod_eq_of_lt ?_)
  show min _ (2 ^ 16 - 1) < 2 ^ 16
  omega

/-- What a drop leaves of the frame in progress, of the context's count and of everything else. -/
theorem Part.dropFrame_spec {p : Part} {k : Nat} {f : CsiFrame} (h : (p.ctx k).frame = some f) (hd : f.dropped = false) :
    ((p.dropFrame k).ctx k).frame = some { f with dropped := true } ∧ ((p.dropFrame k).ctx k).entries = (p.ctx k).entries ∧
    (p.dropFrame k).get (F.ITK_CTX_DROPS_COUNT k) = min (p.get (F.ITK_CTX_DROPS_COUNT k) + 1) 65535 ∧
    p.RegsWithin [R.ITK_CTX_DROPS k] (p.dropFrame k) ∧ (p.dropFrame k).mem = p.mem ∧ (p.dropFrame k).sdl = p.sdl := by
  have heq : p.dropFrame k = (p.dropEntry k).modCtx k (fun u => { u with frame := some { f with dropped := true } }) := by
    simp [Part.dropFrame, h, hd]
  rw [heq]
  refine ⟨by rw [Part.ctx_modCtx_self], ?_, p.get_addSat16 _ 1, (Part.RegsWithin.refl _ p).put _ _ List.mem_cons_self, rfl, rfl⟩
  rw [Part.ctx_modCtx_self, Part.dropEntry, Part.ctx_modCtx_self]
  rfl

/-! Lines and the Frame End. -/

theorem ctx_drops_ne_portErr (k port : Nat) : R.ITK_CTX_DROPS k ≠ R.ITK_PORT_ERR port := by
  unfold R.ITK_CTX_DROPS R.ITK_PORT_ERR; omega

theorem ctx_drops_ne_portCrc (k : Nat) {port : Nat} (h : port < 8) : R.ITK_CTX_DROPS k ≠ R.ITK_PORT_CRC_CNT port := by
  unfold R.ITK_CTX_DROPS R.ITK_PORT_CRC_CNT; omega

section

variable {p : Part} {port vc k : Nat} {f : CsiFrame}

/-- A line of the stream's type joins the frame in progress. -/
theorem Part.csiLongPacket_line (d : List Byte) (hctx : p.csiFrameCtx port vc = some k) (hf : (p.ctx k).frame = some f) :
    p.csiLongPacket port vc (dataType (p.img.streamPixfmt k)) d true false .good false = p.frameLine port k f d := by
  have hhead : p.csiHead port .good false = p := rfl
  have hdt : dataType (p.img.streamPixfmt k) ≠ 0x12 := by
    unfold dataType
    split
    · decide
    · split <;> decide
  simp [Part.csiLongPacket, hhead, hctx, hf, hdt]

/-- A CRC error is counted, and drops the frame in progress. -/
theorem Part.csiLongPacket_crc (dt : Nat) (d : List Byte) (hctx : p.csiFrameCtx port vc = some k) :
    p.csiLongPacket port vc dt d false false .good false =
      ((p.portErr port 2).addSat (F.ITK_PORT_CRC_CNT_COUNT port) 1).dropFrame k := by
  have hhead : p.csiHead port .good false = p := rfl
  simp [Part.csiLongPacket, hhead, hctx]

theorem Part.csiFrameEnd_open (number : Nat) (hctx : p.csiFrameCtx port vc = some k) (hf : (p.ctx k).frame = some f) :
    p.csiFrameEnd port vc number .good false = p.frameEnd port k number f := by
  have hhead : p.csiHead port .good false = p := rfl
  simp [Part.csiFrameEnd, hhead, hctx, hf]

/-- A line of another length is an error that drops the frame. -/
theorem Part.frameLine_length {d : List Byte} (hd : f.dropped = false)
    (hlen : d.length ≠ wireBytes (p.img.streamPixfmt k) (p.img.streamWidth k)) :
    p.frameLine port k f d = (p.portErr port 8).dropFrame k := by
  simp [Part.frameLine, hd, hlen]

/-- The bytes of a line that its window keeps. -/
def Part.linePixels (p : Part) (k : Nat) (d : List Byte) : List Byte :=
  let fmt := p.img.streamPixfmt k
  let win := (p.ctx k).active.window p.img k
  ((storedLine fmt d).drop (win.1 * pixBytes fmt)).take (win.2.2.1 * pixBytes fmt)

/-- Where the next line of a frame goes. -/
def Part.lineAddr (p : Part) (k : Nat) (f : CsiFrame) : Nat :=
  let win := (p.ctx k).active.window p.img k
  p.ringAddr k (p.ctx k).active.base (f.start + 64 + (f.lines - win.2.1) * pitchOf (p.img.streamPixfmt k) win.2.2.1)

/-- A line of the stream's length is counted, and stored where its number lies in the window. -/
theorem Part.frameLine_counted {d : List Byte} (hd : f.dropped = false)
    (hlen : d.length = wireBytes (p.img.streamPixfmt k) (p.img.streamWidth k)) :
    p.frameLine port k f d =
      let win := (p.ctx k).active.window p.img k
      let q := p.modCtx k (fun u => { u with frame := some { f with lines := f.lines + 1 } })
      if win.2.1 ≤ f.lines ∧ f.lines < win.2.1 + win.2.2.2 then q.store (p.lineAddr k f) (p.linePixels k d) else q := by
  unfold Part.frameLine
  rw [hd, if_neg (by decide), if_neg (not_not_intro hlen)]
  rfl

/-- A Frame End of another number is an error that drops the frame, and closes it. -/
theorem Part.frameEnd_number {number : Nat} (hd : f.dropped = false) (hn : number ≠ f.number) :
    p.frameEnd port k number f = ((p.portErr port 3).dropFrame k).modCtx k (fun u => { u with frame := none }) := by
  simp [Part.frameEnd, hd, hn]

/-- The Frame End of a whole frame writes its header, and the frame waits as an entry for its commit. -/
theorem Part.frameEnd_whole (hd : f.dropped = false) (hlines : f.lines = p.img.streamHeight k) :
    ∃ (head : List Byte) (e : RingEntry) (stop : Nat), head.length = 64 ∧
      (e.seq = f.seq ∧ e.ts = f.ts ∧ e.start = f.start ∧ e.win = (p.ctx k).active.window p.img k) ∧
      p.frameEnd port k f.number f = (p.store (p.ringAddr k (p.ctx k).active.base f.start) head).modCtx k (fun v => { v with
        frame := none, tail := stop, ring := ((p.ctx k).active.base, (p.ctx k).active.size), dropped := 0,
        entries := v.entries ++ [e] }) := by
  unfold Part.frameEnd
  rw [hd, if_neg (by decide), if_neg (fun h => h rfl), if_neg (not_not_intro hlines)]
  refine ⟨_, _, _, ?_, ⟨?_, ?_, ?_, ?_⟩, rfl⟩
  · simp [entryHead]
  all_goals rfl

end

end Sys2Proof.Machine
end

section
/-! SUPPORT. The start of a CSI-2 frame (R178, R186, R198, R238): the latch, what stands around it, and what all of it shows. -/

namespace Sys2Proof.Machine

open Sys2Proof.Claim

/-! The latch. -/

/-- The FRAME_SEQ of a context's next latch (R178). -/
def Part.nextSeq (p : Part) (k : Nat) : Nat :=
  if (p.ctx k).fresh then 0 else (p.get (F.ITK_CTX_FRAME_SEQ_SEQ k) + 1) % 2 ^ 32

theorem Part.nextSeq_lt (p : Part) (k : Nat) : p.nextSeq k < 2 ^ 32 := by
  unfold Part.nextSeq
  split <;> omega

/-- The registers that every latch writes. -/
def Part.latched (p : Part) (k t : Nat) : Part :=
  ((p.put (F.ITK_CTX_FRAME_SEQ_SEQ k) (p.nextSeq k)).put (F.ITK_CTX_STATE_STATE k) 3).put64 (F.ITK_CTX_TS_LO_TS k)
    (F.ITK_CTX_TS_HI_TS k) t

/-- A context that has latched at `t`, with `g` its active group. -/
def ItkCtx.latched (u : ItkCtx) (t : Nat) (g : ItkGroup) : ItkCtx :=
  { u with fresh := false, latchedAt := t, active := g, pending := none }

/-- A context without a pending group latches with the group that is active. -/
theorem ItkCtx.latched_active {u : ItkCtx} (t : Nat) (h : u.pending = none) :
    { u with fresh := false, latchedAt := t } = u.latched t u.active := by
  cases u
  cases h
  rfl

theorem Part.latch_none {p : Part} {k : Nat} (t : Nat) (h : (p.ctx k).pending = none) :
    p.latch k t = (p.latched k t).setCtx k ((p.ctx k).latched t (p.ctx k).active) := by
  rw [← ItkCtx.latched_active t h, Part.latch]
  simp only [h]
  rfl

theorem Part.latch_some {p : Part} {k : Nat} (t : Nat) {g : ItkGroup} (h : (p.ctx k).pending = some g) :
    p.latch k t =
      (((p.latched k t).setCtx k ((p.ctx k).latched t g)).put (F.ITK_CTX_COMMIT_STAT_PENDING k) 0).put
        (F.ITK_CTX_LATCHED_SEQ_SEQ k) (p.nextSeq k) := by
  simp only [Part.latch, h]
  rfl

/-- The registers in which a latch of context `k` shows. -/
def latchRegs (k : Nat) : List Nat :=
  [R.ITK_CTX_FRAME_SEQ k, R.ITK_CTX_STATE k, R.ITK_CTX_TS_LO k, R.ITK_CTX_TS_HI k, R.ITK_CTX_COMMIT_STAT k, R.ITK_CTX_LATCHED_SEQ k]

/-- They are six registers. -/
theorem latchRegs_nodup (k : Nat) : (latchRegs k).Nodup := by
  simp [latchRegs, R.ITK_CTX_FRAME_SEQ, R.ITK_CTX_STATE, R.ITK_CTX_TS_LO, R.ITK_CTX_TS_HI, R.ITK_CTX_COMMIT_STAT,
    R.ITK_CTX_LATCHED_SEQ]

/-- What `q` shows of a latch of context `k` with the stamp `t`, from `p`. -/
def Part.Latched (k t : Nat) (p q : Part) : Prop :=
  q.get (F.ITK_CTX_FRAME_SEQ_SEQ k) = p.nextSeq k ∧ q.get (F.ITK_CTX_STATE_STATE k) = 3 ∧
  q.get64 (F.ITK_CTX_TS_LO_TS k) (F.ITK_CTX_TS_HI_TS k) = t ∧
  (∀ g, (p.ctx k).pending = some g → (q.ctx k).active = g ∧ (q.ctx k).pending = none ∧
    q.get (F.ITK_CTX_COMMIT_STAT_PENDING k) = 0 ∧ q.get (F.ITK_CTX_LATCHED_SEQ_SEQ k) = p.nextSeq k) ∧
  ((p.ctx k).pending = none → (q.ctx k).active = (p.ctx k).active ∧
    q.get (F.ITK_CTX_LATCHED_SEQ_SEQ k) = p.get (F.ITK_CTX_LATCHED_SEQ_SEQ k)) ∧
  ∀ j, j ≠ k → q.ctx j = p.ctx j

/-- The fields that every latch writes. -/
theorem Part.latched_fields (p : Part) (k : Nat) {t : Nat} (ht : t < 2 ^ 64) :
    (p.latched k t).get (F.ITK_CTX_FRAME_SEQ_SEQ k) = p.nextSeq k ∧ (p.latched k t).get (F.ITK_CTX_STATE_STATE k) = 3 ∧
    (p.latched k t).get64 (F.ITK_CTX_TS_LO_TS k) (F.ITK_CTX_TS_HI_TS k) = t := by
  have hne := latchRegs_nodup k
  simp only [latchRegs, List.nodup_cons, List.mem_cons, List.not_mem_nil, or_false, not_or] at hne
  obtain ⟨⟨hseqState, hseqLo, hseqHi, -, -⟩, ⟨hstateLo, hstateHi, -, -⟩, ⟨hlohi, -, -⟩, -⟩ := hne
  refine ⟨?seq, ?state, Part.get64_put64 _ hlohi ht⟩
  case seq =>
    calc _ = _ := Part.get_put_reg _ (F.ITK_CTX_TS_HI_TS k) (F.ITK_CTX_FRAME_SEQ_SEQ k) _ hseqHi
      _ = _ := Part.get_put_reg _ (F.ITK_CTX_TS_LO_TS k) (F.ITK_CTX_FRAME_SEQ_SEQ k) _ hseqLo
      _ = _ := Part.get_put_reg _ (F.ITK_CTX_STATE_STATE k) (F.ITK_CTX_FRAME_SEQ_SEQ k) _ hseqState
      _ = _ := Part.get_put_word p _ (p.nextSeq_lt k)
  case state =>
    calc _ = _ := Part.get_put_reg _ (F.ITK_CTX_TS_HI_TS k) (F.ITK_CTX_STATE_STATE k) _ hstateHi
      _ = _ := Part.get_put_reg _ (F.ITK_CTX_TS_LO_TS k) (F.ITK_CTX_STATE_STATE k) _ hstateLo
      _ = _ := Part.state_put _ k (by decide)

theorem Part.RegsWithin.latched (p : Part) (k t : Nat) :
    p.RegsWithin [R.ITK_CTX_FRAME_SEQ k, R.ITK_CTX_STATE k, R.ITK_CTX_TS_LO k, R.ITK_CTX_TS_HI k] (p.latched k t) :=
  ((((Part.RegsWithin.refl _ p).put (F.ITK_CTX_FRAME_SEQ_SEQ k) _ (by simp [F.ITK_CTX_FRAME_SEQ_SEQ])).put
    (F.ITK_CTX_STATE_STATE k) _ (by simp [F.ITK_CTX_STATE_STATE])).put (F.ITK_CTX_TS_LO_TS k) _ (by simp [F.ITK_CTX_TS_LO_TS])).put
    (F.ITK_CTX_TS_HI_TS k) _ (by simp [F.ITK_CTX_TS_HI_TS])

/-- What the registers that every latch writes show with them written, and that the rest of a latch finds as before. -/
def Part.Stamped (k t : Nat) (p q : Part) : Prop :=
  q.get (F.ITK_CTX_FRAME_SEQ_SEQ k) = p.nextSeq k ∧ q.get (F.ITK_CTX_STATE_STATE k) = 3 ∧
  q.get64 (F.ITK_CTX_TS_LO_TS k) (F.ITK_CTX_TS_HI_TS k) = t ∧
  q.get (F.ITK_CTX_LATCHED_SEQ_SEQ k) = p.get (F.ITK_CTX_LATCHED_SEQ_SEQ k) ∧ ∀ j, q.ctx j = p.ctx j

theorem Part.Stamped.latched (p : Part) (k : Nat) {t : Nat} (ht : t < 2 ^ 64) : p.Stamped k t (p.latched k t) := by
  obtain ⟨hseq, hstate, hts⟩ := p.latched_fields k ht
  refine ⟨hseq, hstate, hts, ?_, fun j => ?_⟩
  · refine (Part.RegsWithin.latched p k t).get (f := F.ITK_CTX_LATCHED_SEQ_SEQ k) ?_
    simp [F.ITK_CTX_LATCHED_SEQ_SEQ, R.ITK_CTX_FRAME_SEQ, R.ITK_CTX_STATE, R.ITK_CTX_TS_LO, R.ITK_CTX_TS_HI, R.ITK_CTX_LATCHED_SEQ]
  · rw [Part.latched, Part.put64, Part.ctx_put, Part.ctx_put, Part.ctx_put, Part.ctx_put]

section

variable {p q : Part} {k t : Nat} {u : ItkCtx}

/-- Without a pending group the active one stays. -/
theorem Part.Stamped.setCtx (h : p.Stamped k t q) (hp : (p.ctx k).pending = none) (hactive : u.active = (p.ctx k).active) :
    p.Latched k t (q.setCtx k u) := by
  obtain ⟨hseq, hstate, hts, hlatched, hctx⟩ := h
  refine ⟨hseq, hstate, hts, fun g hg => (nomatch hp.symm.trans hg), fun _ => ⟨?_, hlatched⟩,
    fun j hj => (Part.ctx_setCtx_other q u hj).trans (hctx j)⟩
  rw [Part.ctx_setCtx_self, hactive]

/-- A pending group becomes the active one, which COMMIT_STAT and LATCHED_SEQ show. -/
theorem Part.Stamped.setCtx_put {g : ItkGroup} (h : p.Stamped k t q) (hp : (p.ctx k).pending = some g) (hactive : u.active = g)
    (hpending : u.pending = none) :
    p.Latched k t (((q.setCtx k u).put (F.ITK_CTX_COMMIT_STAT_PENDING k) 0).put (F.ITK_CTX_LATCHED_SEQ_SEQ k) (p.nextSeq k)) := by
  obtain ⟨hseq, hstate, hts, -, hctx⟩ := h
  have hne := latchRegs_nodup k
  simp only [latchRegs, List.nodup_cons, List.mem_cons, List.not_mem_nil, or_false, not_or] at hne
  obtain ⟨⟨-, -, -, hseqStat, hseqLatched⟩, ⟨-, -, hstateStat, hstateLatched⟩, ⟨-, hloStat, hloLatched⟩, ⟨hhiStat, hhiLatched⟩,
    hstatLatched, -⟩ := hne
  have hkept : ∀ f : Fld, f.reg ≠ R.ITK_CTX_COMMIT_STAT k → f.reg ≠ R.ITK_CTX_LATCHED_SEQ k →
      (((q.setCtx k u).put (F.ITK_CTX_COMMIT_STAT_PENDING k) 0).put (F.ITK_CTX_LATCHED_SEQ_SEQ k) (p.nextSeq k)).get f = q.get f :=
    fun f hs hl => (Part.get_put_reg _ (F.ITK_CTX_LATCHED_SEQ_SEQ k) f _ hl).trans
      (Part.get_put_reg (q.setCtx k u) (F.ITK_CTX_COMMIT_STAT_PENDING k) f _ hs)
  rw [Part.Latched, Part.get64, hkept (F.ITK_CTX_FRAME_SEQ_SEQ k) hseqStat hseqLatched,
    hkept (F.ITK_CTX_STATE_STATE k) hstateStat hstateLatched, hkept (F.ITK_CTX_TS_LO_TS k) hloStat hloLatched,
    hkept (F.ITK_CTX_TS_HI_TS k) hhiStat hhiLatched]
  simp only [Part.ctx_put]
  refine ⟨hseq, hstate, hts, fun g' hg => ⟨?_, ?_, ?_, Part.get_put_word _ _ (p.nextSeq_lt k)⟩,
    fun hg => (nomatch hp.symm.trans hg), fun j hj => (Part.ctx_setCtx_other q u hj).trans (hctx j)⟩
  · rw [Part.ctx_setCtx_self, hactive, ← Option.some.inj (hp.symm.trans hg)]
  · rw [Part.ctx_setCtx_self, hpending]
  · exact (Part.get_put_reg _ (F.ITK_CTX_LATCHED_SEQ_SEQ k) (F.ITK_CTX_COMMIT_STAT_PENDING k) _ hstatLatched).trans
      (Part.get_put_bit _ _ 0 0 (by decide))

end

theorem Part.Latched.latch (p : Part) (k : Nat) {t : Nat} (ht : t < 2 ^ 64) : p.Latched k t (p.latch k t) := by
  have hstamped := Part.Stamped.latched p k ht
  cases hp : (p.ctx k).pending with
  | none =>
    rw [Part.latch_none t hp]
    exact hstamped.setCtx hp rfl
  | some g =>
    rw [Part.latch_some t hp]
    exact hstamped.setCtx_put hp rfl rfl

/-- What stands around a latch, and changes neither its registers nor the contexts beside the frame in progress, leaves what it shows. -/
theorem Part.Latched.around {l l' : List Nat} {k t : Nat} {p p' q q' : Part} (h : p'.Latched k t q) (before : p.FrameOnly l k p')
    (after : q.FrameOnly l' k q') (hl : ∀ a ∈ latchRegs k, a ∉ l) (hl' : ∀ a ∈ latchRegs k, a ∉ l') : p.Latched k t q' := by
  obtain ⟨hregs, -, hother, fr, n, hctx⟩ := before
  obtain ⟨hregs', -, hother', fr', n', hctx'⟩ := after
  have hget : ∀ f : Fld, f.reg ∈ latchRegs k → p'.get f = p.get f := fun f hf => hregs.get (hl _ hf)
  have hget' : ∀ f : Fld, f.reg ∈ latchRegs k → q'.get f = q.get f := fun f hf => hregs'.get (hl' _ hf)
  have hseq : p'.nextSeq k = p.nextSeq k := by
    rw [Part.nextSeq, Part.nextSeq, hctx, hget _ (by simp [latchRegs, F.ITK_CTX_FRAME_SEQ_SEQ])]
  unfold Part.Latched at h
  rw [hseq, hctx, hget (F.ITK_CTX_LATCHED_SEQ_SEQ k) (by simp [latchRegs, F.ITK_CTX_LATCHED_SEQ_SEQ])] at h
  obtain ⟨hframe, hstate, hts, hsome, hnone, hctxs⟩ := h
  unfold Part.Latched
  rw [Part.get64, hctx', hget' (F.ITK_CTX_FRAME_SEQ_SEQ k) (by simp [latchRegs, F.ITK_CTX_FRAME_SEQ_SEQ]),
    hget' (F.ITK_CTX_STATE_STATE k) (by simp [latchRegs, F.ITK_CTX_STATE_STATE]),
    hget' (F.ITK_CTX_TS_LO_TS k) (by simp [latchRegs, F.ITK_CTX_TS_LO_TS]),
    hget' (F.ITK_CTX_TS_HI_TS k) (by simp [latchRegs, F.ITK_CTX_TS_HI_TS]),
    hget' (F.ITK_CTX_COMMIT_STAT_PENDING k) (by simp [latchRegs, F.ITK_CTX_COMMIT_STAT_PENDING]),
    hget' (F.ITK_CTX_LATCHED_SEQ_SEQ k) (by simp [latchRegs, F.ITK_CTX_LATCHED_SEQ_SEQ])]
  exact ⟨hframe, hstate, hts, hsome, hnone, fun j hj => (hother' j hj).trans ((hctxs j hj).trans (hother j hj))⟩

/-! What stands around it. -/

/-- The packet's header changes the port's errors alone. -/
theorem Part.csiHead_spec (p : Part) (port : Nat) (ecc : Ecc) (sot : Bool) :
    p.csiHead port ecc sot = { p with regs := (p.csiHead port ecc sot).regs } ∧
    p.RegsWithin [R.ITK_PORT_ERR port] (p.csiHead port ecc sot) := by
  have hsot : p.iff sot (·.portErr port 6) = { p with regs := (p.iff sot (·.portErr port 6)).regs } ∧
      p.RegsWithin [R.ITK_PORT_ERR port] (p.iff sot (·.portErr port 6)) := by
    cases sot with
    | false => exact ⟨rfl, .refl _ p⟩
    | true => exact ⟨rfl, (Part.RegsWithin.refl _ p).put _ _ List.mem_cons_self⟩
  obtain ⟨hrest, hregs⟩ := hsot
  unfold Part.csiHead
  cases ecc with
  | good => exact ⟨hrest, hregs⟩
  | corrected => exact ⟨by rw [hrest]; rfl, hregs.put (F.ITK_PORT_ERR_ERR port) _ List.mem_cons_self⟩
  | bad => exact ⟨by rw [hrest]; rfl, hregs.put (F.ITK_PORT_ERR_ERR port) _ List.mem_cons_self⟩

theorem Part.FrameOnly.csiHead (p : Part) (k port : Nat) (ecc : Ecc) (sot : Bool) :
    p.FrameOnly [R.ITK_PORT_ERR port] k (p.csiHead port ecc sot) := by
  obtain ⟨hrest, hregs⟩ := p.csiHead_spec port ecc sot
  exact .of_itk hregs (by rw [hrest]) (by rw [hrest])

/-- A frame left open is an error at the next Frame Start, and dropped. -/
def Part.abandonOpen (p : Part) (port k : Nat) : Part :=
  if (p.ctx k).frame.isSome then (p.portErr port 3).dropFrame k else p

theorem Part.FrameOnly.abandonOpen (p : Part) (port k : Nat) :
    p.FrameOnly [R.ITK_PORT_ERR port, R.ITK_CTX_DROPS k] k (p.abandonOpen port k) := by
  unfold Part.abandonOpen
  split
  · exact ((Part.FrameOnly.refl _ k p).put (F.ITK_PORT_ERR_ERR port) _ List.mem_cons_self).dropFrame (by simp)
  · exact .refl _ k p

theorem Part.FrameOnly.latchRing (p : Part) (k : Nat) (old : ItkGroup) :
    p.FrameOnly [R.ITK_CTX_WPTR k, R.ITK_CTX_RPTR k, R.ITK_CTX_DROPS k] k (p.latchRing k old) := by
  unfold Part.latchRing
  dsimp only
  split
  · exact .refl _ k p
  · exact ((Part.FrameOnly.refl _ k p).put (F.ITK_CTX_WPTR_OFF k) 0 (by simp [F.ITK_CTX_WPTR_OFF])).put (F.ITK_CTX_RPTR_OFF k) 0
      (by simp [F.ITK_CTX_RPTR_OFF])

theorem Part.FrameOnly.store (l : List Nat) (k : Nat) (p : Part) (a : Nat) (d : List Byte) : p.FrameOnly l k (p.store a d) :=
  .of_itk (fun _ _ => rfl) rfl rfl

theorem Part.FrameOnly.writeWrap (p : Part) (l : List Nat) (k : Nat) (wrap : Bool) (g : ItkGroup) (w : Nat) :
    p.FrameOnly l k (p.iff wrap (fun x => x.writeWrap k g w)) := by
  cases wrap with
  | false => exact .refl l k p
  | true => exact .store l k p _ _

/-- A frame that starts is a latch, before it the drop of a frame left open, and after it a place in the ring or a drop. -/
theorem Part.frameStart_spec (p : Part) (t port k number : Nat) :
    ((p.abandonOpen port k).latch k t).FrameOnly [R.ITK_CTX_WPTR k, R.ITK_CTX_RPTR k, R.ITK_CTX_DROPS k] k
      (p.frameStart t port k number) ∧ ((p.frameStart t port k number).ctx k).frame.isSome = true := by
  have hring := Part.FrameOnly.latchRing ((p.abandonOpen port k).latch k t) k ((p.abandonOpen port k).ctx k).active
  unfold Part.frameStart
  extract_lets q old q' u r w len f
  change ((p.abandonOpen port k).latch k t).FrameOnly _ k q' at hring
  split
  · exact ⟨(hring.dropEntry (by simp)).setFrame _, by rw [Part.ctx_modCtx_self]; rfl⟩
  · exact ⟨(hring.trans (.writeWrap q' _ k _ _ _)).setFrame _, by rw [Part.ctx_modCtx_self]; rfl⟩

/-- Changes to the Pruner alone, one after another, leave the rest of the part. -/
theorem Part.each_prn (p : Part) (l : List Nat) (f : Part → Nat → Part) (h : ∀ q k, ∃ prn, f q k = { q with prn := prn }) :
    ∃ prn, p.each l f = { p with prn := prn } := by
  unfold Part.each
  induction l generalizing p with
  | nil => exact ⟨p.prn, rfl⟩
  | cons k r ih =>
    obtain ⟨prn, hprn⟩ := h p k
    rw [List.foldl_cons, hprn]
    exact ih { p with prn := prn }

/-- The Pruner's latch changes the Pruner alone. -/
theorem Part.putLatches_prn (p : Part) (s seq gen ts : Nat) :
    ∃ prn, p.putLatches s seq gen ts = { p with prn := prn } := by
  unfold Part.putLatches
  extract_lets r
  refine p.each_prn _ _ (fun q k => ?_)
  extract_lets mine
  split
  · exact ⟨_, rfl⟩
  · exact ⟨q.prn, rfl⟩

/-- The context that a Frame Start finds does not depend on the port's errors. -/
theorem Part.csiCtx_csiHead (p : Part) {port : Nat} (vc : Nat) (ecc : Ecc) (sot : Bool) (hport : port < 8) :
    (p.csiHead port ecc sot).csiCtx port vc = p.csiCtx port vc := by
  obtain ⟨hrest, hregs⟩ := p.csiHead_spec port ecc sot
  generalize p.csiHead port ecc sot = q at hrest hregs
  have himg : q.img = p.img := by rw [hrest]; rfl
  have hlive : q.live = p.live := by rw [hrest]; rfl
  have hget : ∀ f : Fld, f.reg ≠ R.ITK_PORT_ERR port → q.get f = p.get f := fun f hf => hregs.get (by simpa using hf)
  have hctx : ∀ s off, off < 0x80 → 0x210000 + off + s * 0x80 ≠ R.ITK_PORT_ERR port := by unfold R.ITK_PORT_ERR; omega
  have hstate := fun s => hget (F.ITK_CTX_STATE_STATE s) (hctx s 0x04 (by decide))
  have hen := fun s => hget (F.ITK_CTX_CTRL_EN s) (hctx s 0x00 (by decide))
  have hport := fun s => hget (F.ITK_CTX_MATCH_CSI_PORT s) (hctx s 0x08 (by decide))
  have hvc := fun s => hget (F.ITK_CTX_MATCH_VC s) (hctx s 0x08 (by decide))
  have hon := hget F.ITK_CTRL_EN (show R.ITK_CTRL ≠ _ by unfold R.ITK_CTRL R.ITK_PORT_ERR; omega)
  have hreplant := hget F.SHD_BOOT_STATE_REPLANT_PENDING (show R.SHD_BOOT_STATE ≠ _ by unfold R.SHD_BOOT_STATE R.ITK_PORT_ERR; omega)
  have hpower := hget F.PWR_STATE_STATE (show R.PWR_STATE ≠ _ by unfold R.PWR_STATE R.ITK_PORT_ERR; omega)
  simp only [Part.csiCtx, Part.ctxTakes, Part.admits, Part.on, himg, hlive, hstate, hen, hport, hvc, hon, hreplant, hpower]

theorem Part.latch_sdl (p : Part) (k t : Nat) : (p.latch k t).sdl = p.sdl := by
  have hlatched : (p.latched k t).sdl = p.sdl := by
    rw [Part.latched, Part.put64, Part.put_sdl, Part.put_sdl, Part.put_sdl, Part.put_sdl]
  have hset : ∀ (q : Part) (u : ItkCtx), (q.setCtx k u).sdl = q.sdl := fun _ _ => rfl
  cases hp : (p.ctx k).pending with
  | none => rw [Part.latch_none t hp, hset, hlatched]
  | some g => rw [Part.latch_some t hp, Part.put_sdl, Part.put_sdl, hset, hlatched]

/-- The Frame Start of a context: the header's errors, the captured stamp, the frame's start, and the Pruner's latch. -/
theorem Part.csiFrameStart_eq (p : Part) (t : Nat) {port vc k : Nat} (number : Nat) {ecc : Ecc} (sot : Bool) (hport : port < 8)
    (hecc : ecc ≠ .bad) (hctx : p.csiCtx port vc = some k) :
    ∃ seq, p.csiFrameStart t port vc number ecc sot =
      (((p.csiHead port ecc sot).captured t).2.frameStart ((p.csiHead port ecc sot).captured t).1 port k number).putLatches k seq 0
        ((p.csiHead port ecc sot).captured t).1 := by
  have hfound := (p.csiCtx_csiHead vc ecc sot hport).trans hctx
  exact ⟨_, by rw [Part.csiFrameStart]; simp only [hecc, if_false, hfound]; rfl⟩

/-- The registers in which no latch shows, of those that stand around it. -/
theorem latchRegs_around (k : Nat) {port : Nat} (hport : port < 8) :
    (∀ a ∈ latchRegs k, a ∉ [R.ITK_PORT_ERR port, R.ITK_CTX_DROPS k]) ∧
    ∀ a ∈ latchRegs k, a ∉ [R.ITK_CTX_WPTR k, R.ITK_CTX_RPTR k, R.ITK_CTX_DROPS k] := by
  constructor
  all_goals
    intro a ha
    simp only [latchRegs, List.mem_cons, List.not_mem_nil, or_false, not_or, R.ITK_PORT_ERR, R.ITK_CTX_DROPS, R.ITK_CTX_WPTR,
      R.ITK_CTX_RPTR, R.ITK_CTX_FRAME_SEQ, R.ITK_CTX_STATE, R.ITK_CTX_TS_LO, R.ITK_CTX_TS_HI, R.ITK_CTX_COMMIT_STAT,
      R.ITK_CTX_LATCHED_SEQ] at ha ⊢
    omega

/-- What a Frame Start shows, for the context of its port and virtual channel: the latch at the captured stamp, and a frame in progress. -/
theorem Part.csiFrameStart_spec (p : Part) (t : Nat) {port vc k : Nat} (number : Nat) {ecc : Ecc} (sot : Bool) (hport : port < 8)
    (hecc : ecc ≠ .bad) (hctx : p.csiCtx port vc = some k) (ht : t + 30518 < 2 ^ 64) :
    ∃ ts, (t ≤ ts + p.capError ∧ ts ≤ t + p.capError) ∧ p.Latched k ts (p.csiFrameStart t port vc number ecc sot) ∧
      ((p.csiFrameStart t port vc number ecc sot).ctx k).frame.isSome = true ∧
      (p.csiFrameStart t port vc number ecc sot).sdl = p.sdl := by
  obtain ⟨seq, heq⟩ := p.csiFrameStart_eq t number sot hport hecc hctx
  have hhead := Part.FrameOnly.csiHead p k port ecc sot
  have hbound := (p.csiHead port ecc sot).captured_bound t
  have herror : (p.csiHead port ecc sot).capError = p.capError := by
    rw [Part.capError, Part.capError, hhead.1.get (f := F.SDL_STATUS_SRC)]
    simp only [List.mem_singleton, F.SDL_STATUS_SRC, R.SDL_STATUS, R.ITK_PORT_ERR]
    omega
  have hdrawn : (p.csiHead port ecc sot).FrameOnly [R.ITK_PORT_ERR port] k ((p.csiHead port ecc sot).captured t).2 :=
    .of_itk (fun _ _ => rfl) rfl rfl
  rw [heq]
  rw [herror] at hbound
  generalize ((p.csiHead port ecc sot).captured t) = x at hbound hdrawn
  have hts : x.1 < 2 ^ 64 := by
    have := p.capError_le
    omega
  have before : p.FrameOnly [R.ITK_PORT_ERR port, R.ITK_CTX_DROPS k] k (x.2.abandonOpen port k) :=
    ((hhead.trans hdrawn).mono (by simp)).trans (.abandonOpen x.2 port k)
  obtain ⟨hplaced, hframe⟩ := x.2.frameStart_spec x.1 port k number
  generalize x.2.frameStart x.1 port k number = q at hplaced hframe
  obtain ⟨prn, hprn⟩ := q.putLatches_prn k seq 0 x.1
  rw [hprn]
  have after := hplaced.trans (.of_itk (q := { q with prn := prn }) (fun _ _ => rfl) rfl rfl)
  obtain ⟨hlow, hhigh⟩ := latchRegs_around k hport
  refine ⟨x.1, hbound, (Part.Latched.latch _ k hts).around before after hlow hhigh, hframe, ?_⟩
  exact after.2.1.trans ((Part.latch_sdl _ k x.1).trans before.2.1)

/-! The commands. -/

/-- A long packet of a port that receives leaves what it makes of the frame in progress. -/
theorem completes_csi2LongPacket {port vc dt : Nat} {d : List Byte} {crcOk : Bool} {s : State} {q : Part} {Q : State → Prop}
    (hs : Ready s) (hport : port < 8) (hvc : vc < 4) (hdt : dt < 64) (hon : s.part.csiOn port = true)
    (heq : s.part.csiLongPacket port vc dt d crcOk false .good false = q) (hsdl : q.sdl = s.part.sdl)
    (hq : Q { s with part := q }) : Completes (.csi2LongPacket port vc dt d crcOk false .good false) s Q := by
  subst heq
  exact completes_of_still (next_csi2LongPacket port vc dt d crcOk false .good false s hs.1 (by simp [Instr.wf, hport, hvc, hdt, hon]))
    ((congrArg SdlUnit.step hsdl).trans hs.2) hq

/-- As `completes_csi2LongPacket`, for a Frame End. -/
theorem completes_csi2FrameEnd {port vc number : Nat} {s : State} {q : Part} {Q : State → Prop}
    (hs : Ready s) (hport : port < 8) (hvc : vc < 4) (hnumber : number < 65536) (hon : s.part.csiOn port = true)
    (heq : s.part.csiFrameEnd port vc number .good false = q) (hsdl : q.sdl = s.part.sdl)
    (hq : Q { s with part := q }) : Completes (.csi2FrameEnd port vc number .good false) s Q := by
  subst heq
  exact completes_of_still (next_csi2FrameEnd port vc number .good false s hs.1 (by simp [Instr.wf, hport, hvc, hnumber, hon]))
    ((congrArg SdlUnit.step hsdl).trans hs.2) hq

theorem dataType_lt (fmt : Nat) : dataType fmt < 64 := by
  unfold dataType
  split
  · decide
  · split <;> decide

/-- A port error stands, and changes no other register. -/
theorem Part.portErr_spec (p : Part) (port : Nat) {i : Nat} (hi : i < 9) :
    ((p.portErr port i).get (F.ITK_PORT_ERR_ERR port)).testBit i = true ∧ p.RegsWithin [R.ITK_PORT_ERR port] (p.portErr port i) :=
  ⟨p.testBit_setBit _ (show 8 < 32 by decide) hi, (Part.RegsWithin.refl _ p).put _ _ List.mem_cons_self⟩

/-- A frame dropped once the port's errors are noted: what shows in the frame, in the context's count and in the other registers. -/
theorem Part.dropFrame_after {l : List Nat} {p p' : Part} {k : Nat} {f : CsiFrame} (hregs : p.RegsWithin l p')
    (hl : R.ITK_CTX_DROPS k ∉ l) (h : (p'.ctx k).frame = some f) (hd : f.dropped = false) :
    ((p'.dropFrame k).ctx k).frame = some { f with dropped := true } ∧ ((p'.dropFrame k).ctx k).entries = (p'.ctx k).entries ∧
    (p'.dropFrame k).get (F.ITK_CTX_DROPS_COUNT k) = min (p.get (F.ITK_CTX_DROPS_COUNT k) + 1) 65535 ∧
    p.RegsWithin (l ++ [R.ITK_CTX_DROPS k]) (p'.dropFrame k) ∧
    (∀ g : Fld, g.reg ≠ R.ITK_CTX_DROPS k → (p'.dropFrame k).get g = p'.get g) ∧
    (p'.dropFrame k).mem = p'.mem ∧ (p'.dropFrame k).sdl = p'.sdl := by
  obtain ⟨hframe, hentries, hdrops, hdropped, hmem, hsdl⟩ := Part.dropFrame_spec h hd
  exact ⟨hframe, hentries, by rw [hdrops, hregs.get (f := F.ITK_CTX_DROPS_COUNT k) hl],
    (hregs.mono (by simp)).trans (hdropped.mono (by simp)), fun g hg => hdropped.get (fun hm => hg (List.mem_singleton.1 hm)),
    hmem, hsdl⟩

/-- Settles O24: the latch of a Frame Start and what stands around it; and, for the frame in progress, its lines, its errors and its
end. The stamp's bound beside SRC 0, and that a start-of-transmission error has no other effect, are the model's choice
(assumptions 8 and 11). -/
theorem csi2Frames : Obligations.Csi2Frames := by
  refine ⟨fun port vc number k ecc sot s hs hport hvc hnumber hecc hon hctx hk ht => ?start,
    fun port vc k f s hs hport hvc hon hctx hk hf hd => ?frame⟩
  case start =>
    obtain ⟨ts, hbound, hlatched, hframe, hsdl⟩ := s.part.csiFrameStart_spec s.ns number sot hport hecc hctx ht
    obtain ⟨hseq, hstate, hts, hsome, hnone, hother⟩ := hlatched
    have he := next_csi2FrameStart port vc number ecc sot s hs.1 (by simp [Instr.wf, hport, hvc, hnumber, hon])
    refine completes_of_still he ((congrArg SdlUnit.step hsdl).trans hs.2) ⟨hseq, hstate, ?_, fun g hg => ?_, hnone, hframe, hother⟩
    · rw [hts]
      exact hbound
    · obtain ⟨hactive, hpending, hstat, hlatchedSeq⟩ := hsome g hg
      exact ⟨hactive, hpending, hstat, hlatchedSeq.trans hseq.symm⟩
  case frame =>
    extract_lets r fmt win
    have hneErr := ctx_drops_ne_portErr k port
    have hneCrc : R.ITK_PORT_CRC_CNT port ≠ R.ITK_PORT_ERR port := by unfold R.ITK_PORT_CRC_CNT R.ITK_PORT_ERR; omega
    refine ⟨fun d hlen => ?line, fun d hlen => ?length, fun dt d hdt => ?crc, fun hnumber hlines => ?whole,
      fun number hnumber hne => ?number⟩
    case line =>
      have heq := (Part.csiLongPacket_line d hctx hf).trans (Part.frameLine_counted hd hlen)
      by_cases hin : win.2.1 ≤ f.lines ∧ f.lines < win.2.1 + win.2.2.2
      · refine completes_csi2LongPacket hs hport hvc (dataType_lt fmt) hon (heq.trans (if_pos hin)) rfl ⟨?_, rfl, ?_⟩
        · rw [Part.store_ctx, Part.ctx_modCtx_self]
        · rw [if_pos hin]
          exact ⟨fun i hi => Part.byte_store _ _ _ i hi, fun a ha => Part.byte_store_other _ _ _ a ha⟩
      · refine completes_csi2LongPacket hs hport hvc (dataType_lt fmt) hon (heq.trans (if_neg hin)) rfl ⟨?_, rfl, ?_⟩
        · rw [Part.ctx_modCtx_self]
        · rw [if_neg hin]
          rfl
    case length =>
      obtain ⟨herr, hregs⟩ := s.part.portErr_spec port (i := 8) (by decide)
      obtain ⟨hframe, -, hdrops, hall, hget, hmem, hsdl⟩ :=
        Part.dropFrame_after hregs (fun h => hneErr (List.mem_singleton.1 h)) hf hd
      refine completes_csi2LongPacket hs hport hvc (dataType_lt fmt) hon
        ((Part.csiLongPacket_line d hctx hf).trans (Part.frameLine_length hd hlen)) hsdl ⟨hframe, ?_, hdrops, hall, hmem⟩
      rw [hget _ hneErr.symm]
      exact herr
    case crc =>
      obtain ⟨herr, hregs⟩ := s.part.portErr_spec port (i := 2) (by decide)
      have hcrc := hregs.get (f := F.ITK_PORT_CRC_CNT_COUNT port) (fun h => hneCrc (List.mem_singleton.1 h))
      have hboth : s.part.RegsWithin [R.ITK_PORT_ERR port, R.ITK_PORT_CRC_CNT port]
          ((s.part.portErr port 2).addSat (F.ITK_PORT_CRC_CNT_COUNT port) 1) :=
        (hregs.mono (by simp)).put (F.ITK_PORT_CRC_CNT_COUNT port) _ (List.mem_cons_of_mem _ List.mem_cons_self)
      obtain ⟨hframe, -, hdrops, hall, hget, hmem, hsdl⟩ :=
        Part.dropFrame_after hboth (by simp [hneErr, ctx_drops_ne_portCrc k hport]) hf hd
      refine completes_csi2LongPacket hs hport hvc hdt hon (Part.csiLongPacket_crc dt d hctx) hsdl
        ⟨hframe, ?_, ?_, hdrops, hall, hmem⟩
      · refine (congrArg (Nat.testBit · 2) ?_).trans herr
        exact (hget _ hneErr.symm).trans (Part.get_put_reg _ (F.ITK_PORT_CRC_CNT_COUNT port) (F.ITK_PORT_ERR_ERR port) _ hneCrc.symm)
      · refine (hget _ (ctx_drops_ne_portCrc k hport).symm).trans ?_
        rw [← hcrc]
        exact Part.get_addSat16 _ _ 1
    case whole =>
      obtain ⟨head, e, stop, hhead, hentry, heq⟩ := Part.frameEnd_whole (port := port) hd hlines
      refine completes_csi2FrameEnd hs hport hvc hnumber hon ((Part.csiFrameEnd_open _ hctx hf).trans heq) rfl
        ⟨?_, rfl, ?_, ⟨e, ?_, hentry⟩, fun a ha => ?_⟩
      · rw [Part.ctx_modCtx_self]
      · rw [Part.ctx_modCtx_self]
      · rw [Part.ctx_modCtx_self]
        rfl
      · exact Part.byte_store_other _ _ _ a (by rw [hhead]; exact ha)
    case number =>
      obtain ⟨herr, hregs⟩ := s.part.portErr_spec port (i := 3) (by decide)
      obtain ⟨-, hentries, hdrops, -, hget, hmem, hsdl⟩ :=
        Part.dropFrame_after hregs (fun h => hneErr (List.mem_singleton.1 h)) hf hd
      refine completes_csi2FrameEnd hs hport hvc hnumber hon
        ((Part.csiFrameEnd_open _ hctx hf).trans (Part.frameEnd_number hd hne)) hsdl ⟨?_, ?_, ?_, hdrops, hmem⟩
      · rw [Part.ctx_modCtx_self]
      · rw [Part.ctx_modCtx_self]
        exact hentries
      · refine (congrArg (Nat.testBit · 3) ?_).trans herr
        exact hget _ hneErr.symm

end Sys2Proof.Machine
end

section
/-! SUPPORT. What else reaches Intake: Ethernet frames that no stream sees (R173), the end of an access unit (R176), the commit of an entry
(R182), and what the registers of a context and of a link show of a session and of a change (R173, R177). -/

namespace Sys2Proof

/-- Byte `i` of a number stored in `k` bytes. -/
theorem toLe_getElem (k n i : Nat) (h : i < (toLe k n).length) : (toLe k n)[i] = BitVec.ofNat 8 (n / 256 ^ i) := by
  induction k generalizing n i with
  | zero => simp at h
  | succ k ih =>
    cases i with
    | zero => exact BitVec.eq_of_toNat_eq (by simp [toLe])
    | succ i =>
      rw [toLe, List.length_cons] at h
      simp only [toLe, List.getElem_cons_succ]
      rw [ih _ _ (by omega), Nat.div_div_eq_div_mul, Nat.pow_succ, Nat.mul_comm]

end Sys2Proof

namespace Sys2Proof.Machine

open Sys2Proof.Claim

/-! Ethernet frames. -/

/-- A frame with an FCS error is only counted. -/
theorem Part.ethFrameIn_fcs (p : Part) (t port : Nat) (frame : List Byte) (full : Bool) :
    p.ethFrameIn t port frame false full = { p with free := p.free + 1 }.addSat (F.ETH_RX_ERR_COUNT port) 1 := rfl

/-- Counting frames leaves the station address. -/
theorem Part.addressed_add (p : Part) (port : Nat) (frame : List Byte) :
    ({ p with free := p.free + 1 }.add (F.ETH_RX_FRAMES_COUNT port) 1).addressed port frame = p.addressed port frame := by
  have hkept : ∀ f : Fld, f.reg ≠ R.ETH_RX_FRAMES port →
      ({ p with free := p.free + 1 }.add (F.ETH_RX_FRAMES_COUNT port) 1).get f = p.get f :=
    fun f hf => Part.get_put_reg { p with free := p.free + 1 } (F.ETH_RX_FRAMES_COUNT port) f _ hf
  rw [Part.addressed, Part.addressed, Part.mac, Part.mac, Part.get64, Part.get64,
    hkept (F.ETH_MAC_LO_MAC port) (show R.ETH_MAC_LO port ≠ _ by unfold R.ETH_MAC_LO R.ETH_RX_FRAMES; omega),
    hkept (F.ETH_MAC_HI_MAC port) (show R.ETH_MAC_HI port ≠ _ by unfold R.ETH_MAC_HI R.ETH_RX_FRAMES; omega)]

/-- A frame for another address is only counted. -/
theorem Part.ethFrameIn_other {p : Part} (t : Nat) {port : Nat} {frame : List Byte} (full : Bool) (h : p.addressed port frame = false) :
    p.ethFrameIn t port frame true full = { p with free := p.free + 1 }.add (F.ETH_RX_FRAMES_COUNT port) 1 := by
  have haddr := (p.addressed_add port frame).trans h
  have hdrawn : (p.captured t).2 = { p with free := p.free + 1 } := rfl
  rw [Part.ethFrameIn, Part.ethRx]
  simp only [hdrawn, haddr]
  rfl

/-! The end of an access unit (R176). -/

/-- The access unit of context `k` is over; no other context and no step of the Sundial is touched. -/
def Part.AuOver (k : Nat) (p q : Part) : Prop :=
  (q.ctx k).au = none ∧ (q.ctx k).seen.length ≤ (p.ctx k).seen.length ∧ (∀ j, j ≠ k → q.ctx j = p.ctx j) ∧ q.sdl = p.sdl

/-- A change that leaves the contexts. -/
theorem Part.AuOver.of_itk {k : Nat} {p q r : Part} (h : p.AuOver k q) (hitk : r.itk = q.itk) (hsdl : r.sdl = q.sdl) :
    p.AuOver k r := by
  have hctx : ∀ j, r.ctx j = q.ctx j := fun j => by rw [Part.ctx, Part.ctx, hitk]
  rw [Part.AuOver, hctx k, hsdl]
  obtain ⟨hau, hseen, hother, hsdl⟩ := h
  exact ⟨hau, hseen, fun j hj => (hctx j).trans (hother j hj), hsdl⟩

/-- A change of the context beside its access unit and the timestamps that it has seen. -/
theorem Part.AuOver.modCtx {k : Nat} {p q : Part} (h : p.AuOver k q) {f : ItkCtx → ItkCtx} (hau : ∀ u, (f u).au = u.au)
    (hseen : ∀ u, (f u).seen = u.seen) : p.AuOver k (q.modCtx k f) := by
  obtain ⟨hover, hfewer, hother, hsdl⟩ := h
  refine ⟨?_, ?_, fun j hj => (Part.ctx_modCtx_other q f hj).trans (hother j hj), hsdl⟩
  · rw [Part.ctx_modCtx_self, hau, hover]
  · rw [Part.ctx_modCtx_self, hseen]
    exact hfewer

theorem Part.AuOver.notice {k : Nat} {p q : Part} (h : p.AuOver k q) (n : NalNotice) : p.AuOver k (q.notice k n) :=
  h.modCtx (fun _ => rfl) (fun _ => rfl)

theorem Part.AuOver.dropEntry {k : Nat} {p q : Part} (h : p.AuOver k q) : p.AuOver k (q.dropEntry k) :=
  (h.of_itk (r := q.addSat (F.ITK_CTX_DROPS_COUNT k) 1) rfl rfl).modCtx (fun _ => rfl) (fun _ => rfl)

/-- A fragment left open is omitted with a notice, which leaves what the context has seen. -/
theorem Part.omitOpen_spec (p : Part) (k : Nat) (a : AccessUnit) :
    let x := if a.frag.isSome then p.omitNal k a else (p, a)
    (x.1.ctx k).seen = (p.ctx k).seen ∧ (∀ j, j ≠ k → x.1.ctx j = p.ctx j) ∧ x.1.sdl = p.sdl := by
  intro x
  by_cases h : a.frag.isSome = true
  · have hx : x.1 = p.notice k (.omitted a.seq a.ts) := by simp only [x, if_pos h]; rfl
    rw [hx, Part.notice]
    exact ⟨by rw [Part.ctx_modCtx_self], fun j hj => Part.ctx_modCtx_other p _ hj, rfl⟩
  · have hx : x.1 = p := by simp only [x, if_neg h]
    rw [hx]
    exact ⟨rfl, fun _ _ => rfl, rfl⟩

theorem Part.AuOver.store {k : Nat} {p q : Part} (h : p.AuOver k q) (a : Nat) (d : List Byte) : p.AuOver k (q.store a d) :=
  h.of_itk rfl rfl

/-- The end of an access unit, on any of its ways, leaves the context without one. -/
theorem Part.AuOver.endAu {p : Part} {k : Nat} {a : AccessUnit} (timeout : Bool) (h : (p.ctx k).au = some a) :
    p.AuOver k (p.endAu k timeout) := by
  obtain ⟨hseen, hother, hsdl⟩ := p.omitOpen_spec k a
  unfold Part.endAu
  rw [h]
  dsimp -zeta only
  extract_lets x b u q bare len flags head stop q'
  have hq : p.AuOver k q := by
    refine ⟨by rw [Part.ctx_modCtx_self], ?_, fun j hj => (Part.ctx_modCtx_other x.1 _ hj).trans (hother j hj), hsdl⟩
    rw [Part.ctx_modCtx_self, ← hseen]
    exact List.length_filter_le _ _
  split
  · exact hq
  · split
    · exact hq.dropEntry.notice _
    · exact ((hq.store _ head).notice _).modCtx (fun _ => rfl) (fun _ => rfl)

/-! The commit of an entry (R182). -/

/-- Changes to the alignment sets alone, one after another, leave the rest of the part. -/
theorem Part.foldl_sets {α : Type} (p : Part) (l : List α) (f : Part → α → Part)
    (h : ∀ q a, ∃ sets, f q a = { q with sets := sets }) : ∃ sets, l.foldl f p = { p with sets := sets } := by
  induction l generalizing p with
  | nil => exact ⟨p.sets, rfl⟩
  | cons a r ih =>
    obtain ⟨sets, hsets⟩ := h p a
    rw [List.foldl_cons, hsets]
    exact ih { p with sets := sets }

/-- Offering a frame to the alignment sets changes them alone. -/
theorem Part.offer_sets (p : Part) (k seq ts : Nat) : ∃ sets, p.offer k seq ts = { p with sets := sets } := by
  refine Part.foldl_sets p _ _ (fun q set => ?_)
  dsimp only
  split
  · exact ⟨q.sets, rfl⟩
  · exact Part.foldl_sets q _ _ (fun _ _ => ⟨_, rfl⟩)

/-- A context whose oldest entry, `e`, is committed. -/
def ItkCtx.commit (u : ItkCtx) (e : RingEntry) : ItkCtx :=
  { u with entries := u.entries.drop 1, committed := if e.kind = 1 then (e :: u.committed).take 64 else u.committed }

/-- The part with an entry of the active ring committed, before it is offered to the sets: COMMIT_TS, WPTR, and the context's entries. -/
def Part.entryCommitted (p : Part) (k t : Nat) (e : RingEntry) : Part :=
  ((p.store (p.ringAddr k e.base (e.start + 0x18)) (toLe 8 t)).put (F.ITK_CTX_WPTR_OFF k) e.stop).modCtx k (·.commit e)

theorem Part.commitEntry_active {p : Part} {k : Nat} (t : Nat) {e : RingEntry} (hbase : e.base = (p.ctx k).active.base)
    (hsize : e.size = (p.ctx k).active.size) : ∃ sets, p.commitEntry k t e = { p.entryCommitted k t e with sets := sets } := by
  obtain ⟨sets, hsets⟩ := Part.offer_sets (p.entryCommitted k t e) k e.seq e.ts
  refine ⟨sets, Eq.trans ?_ hsets⟩
  simp only [Part.commitEntry, Part.entryCommitted, hbase, hsize, BEq.rfl, Bool.and_self, Part.iff, if_true, ItkCtx.commit]

theorem Part.entryCommitted_entries (p : Part) (k t : Nat) (e : RingEntry) :
    ((p.entryCommitted k t e).ctx k).entries = (p.ctx k).entries.drop 1 := by
  rw [Part.entryCommitted, Part.ctx_modCtx_self, Part.ctx_put, Part.store_ctx]
  rfl

/-! Sessions and links. -/

/-- A change of registers alone, after another. -/
theorem Part.regs_trans {p q r : Part} (h : q = { p with regs := q.regs }) (h' : r = { q with regs := r.regs }) :
    r = { p with regs := r.regs } := by
  rw [h', h]

/-- The registers in which a session's fields stand. -/
theorem Part.rtspSetup_fields (p : Part) {k port udp ip pt : Nat} (hport : port < 2) (hudp : udp < 65536) (hip : ip < 4294967296)
    (hpt : pt < 128) :
    let q := (((p.put (F.ITK_CTX_MATCH_ETH_PORT k) port).put (F.ITK_CTX_MATCH_UDP_PORT k) udp).put (F.ITK_CTX_SRC_IP_IP k) ip).put
      (F.ITK_CTX_RTP_PT k) pt
    q.get (F.ITK_CTX_MATCH_ETH_PORT k) = port ∧ q.get (F.ITK_CTX_MATCH_UDP_PORT k) = udp ∧ q.get (F.ITK_CTX_SRC_IP_IP k) = ip ∧
    q.get (F.ITK_CTX_RTP_PT k) = pt ∧ p.RegsWithin [R.ITK_CTX_MATCH k, R.ITK_CTX_SRC_IP k, R.ITK_CTX_RTP k] q ∧
    q = { p with regs := q.regs } := by
  intro q
  have hmatchIp : R.ITK_CTX_MATCH k ≠ R.ITK_CTX_SRC_IP k := by unfold R.ITK_CTX_MATCH R.ITK_CTX_SRC_IP; omega
  have hmatchRtp : R.ITK_CTX_MATCH k ≠ R.ITK_CTX_RTP k := by unfold R.ITK_CTX_MATCH R.ITK_CTX_RTP; omega
  have hipRtp : R.ITK_CTX_SRC_IP k ≠ R.ITK_CTX_RTP k := by unfold R.ITK_CTX_SRC_IP R.ITK_CTX_RTP; omega
  refine ⟨?port, ?udp, ?ip, ?pt, ?regs, rfl⟩
  case port =>
    calc _ = _ := Part.get_put_reg _ (F.ITK_CTX_RTP_PT k) (F.ITK_CTX_MATCH_ETH_PORT k) _ hmatchRtp
      _ = _ := Part.get_put_reg _ (F.ITK_CTX_SRC_IP_IP k) (F.ITK_CTX_MATCH_ETH_PORT k) _ hmatchIp
      _ = _ := Part.get_put_disjoint _ (F.ITK_CTX_MATCH_UDP_PORT k) (F.ITK_CTX_MATCH_ETH_PORT k) _ (.inl (show 5 < 16 by decide))
      _ = _ := Part.get_put_bit p _ 5 _ (by decide)
      _ = port := Nat.mod_eq_of_lt hport
  case udp =>
    calc _ = _ := Part.get_put_reg _ (F.ITK_CTX_RTP_PT k) (F.ITK_CTX_MATCH_UDP_PORT k) _ hmatchRtp
      _ = _ := Part.get_put_reg _ (F.ITK_CTX_SRC_IP_IP k) (F.ITK_CTX_MATCH_UDP_PORT k) _ hmatchIp
      _ = _ := Part.get_put_self _ (F.ITK_CTX_MATCH_UDP_PORT k) _ (show 31 < 32 by decide)
      _ = udp := Nat.mod_eq_of_lt hudp
  case ip =>
    exact (Part.get_put_reg _ (F.ITK_CTX_RTP_PT k) (F.ITK_CTX_SRC_IP_IP k) _ hipRtp).trans (Part.get_put_word _ _ hip)
  case pt =>
    exact (Part.get_put_self _ (F.ITK_CTX_RTP_PT k) _ (show 6 < 32 by decide)).trans (Nat.mod_eq_of_lt hpt)
  case regs =>
    exact ((((Part.RegsWithin.refl _ p).put (F.ITK_CTX_MATCH_ETH_PORT k) _ List.mem_cons_self).put (F.ITK_CTX_MATCH_UDP_PORT k) _
      List.mem_cons_self).put (F.ITK_CTX_SRC_IP_IP k) _ (List.mem_cons_of_mem _ List.mem_cons_self)).put (F.ITK_CTX_RTP_PT k) _
      (List.mem_cons_of_mem _ (List.mem_cons_of_mem _ List.mem_cons_self))

/-- What the setup of a session leaves of a context that waits for it. -/
theorem Part.rtspSetup_spec {p : Part} {k port udp ip pt : Nat} (hport : port < 2) (hudp : udp < 65536) (hip : ip < 4294967296)
    (hpt : pt < 128) (hstate : p.get (F.ITK_CTX_STATE_STATE k) = 1) :
    let q := p.rtspSetup k port udp ip pt
    (q.get (F.ITK_CTX_MATCH_ETH_PORT k) = port ∧ q.get (F.ITK_CTX_MATCH_UDP_PORT k) = udp ∧ q.get (F.ITK_CTX_SRC_IP_IP k) = ip ∧
      q.get (F.ITK_CTX_RTP_PT k) = pt ∧ q.get (F.ITK_CTX_CTRL_EN k) = 1 ∧ q.get (F.ITK_CTX_STATE_STATE k) = 2) ∧
    p.RegsWithin [R.ITK_CTX_MATCH k, R.ITK_CTX_SRC_IP k, R.ITK_CTX_RTP k, R.ITK_CTX_CTRL k, R.ITK_CTX_STATE k] q ∧
    q = { p with regs := q.regs } := by
  obtain ⟨hport, hudp, hip, hpt, hset, hrest⟩ := p.rtspSetup_fields (k := k) hport hudp hip hpt
  rw [Part.rtspSetup]
  generalize (((p.put (F.ITK_CTX_MATCH_ETH_PORT k) port).put (F.ITK_CTX_MATCH_UDP_PORT k) udp).put (F.ITK_CTX_SRC_IP_IP k) ip).put
    (F.ITK_CTX_RTP_PT k) pt = r at *
  have hwaits : r.get (F.ITK_CTX_STATE_STATE k) = 1 := by
    refine (hset.get (f := F.ITK_CTX_STATE_STATE k) ?_).trans hstate
    simp [F.ITK_CTX_STATE_STATE, R.ITK_CTX_STATE, R.ITK_CTX_MATCH, R.ITK_CTX_SRC_IP, R.ITK_CTX_RTP]
  have hstarted : r.enabledState k true = 2 := by simp [Part.enabledState, hwaits]
  obtain ⟨hkeeps, hregs, hen, hst⟩ := Part.CtxShows.ctxEnable r k true
  have hget : ∀ f : Fld, f.reg ∈ [R.ITK_CTX_MATCH k, R.ITK_CTX_SRC_IP k, R.ITK_CTX_RTP k] → (r.ctxEnable k true).get f = r.get f := by
    intro f hf
    refine hregs.get ?_
    simp only [List.mem_cons, List.not_mem_nil, or_false, not_or, R.ITK_CTX_MATCH, R.ITK_CTX_SRC_IP, R.ITK_CTX_RTP, R.ITK_CTX_CTRL,
      R.ITK_CTX_STATE] at hf ⊢
    omega
  refine ⟨⟨?_, ?_, ?_, ?_, hen, hst.trans hstarted⟩, (hset.mono (by simp)).trans (hregs.mono (by simp)), ?_⟩
  · exact (hget _ List.mem_cons_self).trans hport
  · exact (hget _ List.mem_cons_self).trans hudp
  · exact (hget _ (List.mem_cons_of_mem _ List.mem_cons_self)).trans hip
  · exact (hget _ (List.mem_cons_of_mem _ (List.mem_cons_of_mem _ List.mem_cons_self))).trans hpt
  · exact Part.regs_trans hrest hkeeps

/-- What a change of a link shows in its status. -/
theorem Part.ethLink_spec (p : Part) (n : Nat) (up blockLock anDone : Bool) :
    let q := p.ethLink n up blockLock anDone
    (q.get (F.ETH_STAT_LINK n) = up.toNat ∧ q.get (F.ETH_STAT_BLOCK_LOCK n) = blockLock.toNat ∧
      q.get (F.ETH_STAT_AN_DONE n) = anDone.toNat ∧
      (p.get (F.ETH_STAT_LINK n) ≠ up.toNat → q.get (F.ETH_STAT_LINK_CHG n) = 1)) ∧
    p.RegsWithin [R.ETH_STAT n] q ∧ q = { p with regs := q.regs } := by
  have hbit : ∀ b : Bool, (if b then 1 else 0) % 2 = b.toNat := by decide
  unfold Part.ethLink
  extract_lets q q'
  have hset : p.RegsWithin [R.ETH_STAT n] q ∧ q = { p with regs := q.regs } :=
    ⟨((Part.RegsWithin.refl _ p).put (F.ETH_STAT_BLOCK_LOCK n) _ List.mem_cons_self).put (F.ETH_STAT_AN_DONE n) _ List.mem_cons_self,
      rfl⟩
  have hlock : q.get (F.ETH_STAT_BLOCK_LOCK n) = blockLock.toNat :=
    calc _ = _ := Part.get_put_disjoint _ (F.ETH_STAT_AN_DONE n) (F.ETH_STAT_BLOCK_LOCK n) _ (.inl (show 1 < 2 by decide))
      _ = _ := Part.get_put_bit p _ 1 _ (by decide)
      _ = _ := hbit blockLock
  have hdone : q.get (F.ETH_STAT_AN_DONE n) = anDone.toNat := (Part.get_put_bit _ _ 2 _ (by decide)).trans (hbit anDone)
  have hchanged : (p.get (F.ETH_STAT_LINK n) ≠ up.toNat → q'.get (F.ETH_STAT_LINK_CHG n) = 1) ∧
      (∀ g : Fld, g.hi < 3 → q'.get g = q.get g) ∧ q.RegsWithin [R.ETH_STAT n] q' ∧ q' = { q with regs := q'.regs } := by
    by_cases h : p.on (F.ETH_STAT_LINK n) = up
    · have hq : q' = q := if_pos (by simpa using h)
      rw [hq]
      exact ⟨fun hne => absurd (p.toNat_on _ 0).symm (h ▸ hne), fun _ _ => rfl, .refl _ q, rfl⟩
    · have hq : q' = q.set (F.ETH_STAT_LINK_CHG n) := if_neg (by simpa using h)
      rw [hq]
      exact ⟨fun _ => Part.get_put_bit q _ 3 1 (by decide), fun g hg => Part.get_put_disjoint q _ g 1 (.inl hg),
        (Part.RegsWithin.refl _ q).put (F.ETH_STAT_LINK_CHG n) _ List.mem_cons_self, rfl⟩
  obtain ⟨hchg, hkept, hregs, hrest⟩ := hchanged
  have hlink : ∀ g : Fld, 0 < g.lo → (q'.put (F.ETH_STAT_LINK n) (if up then 1 else 0)).get g = q'.get g := fun g hg =>
    Part.get_put_disjoint q' (F.ETH_STAT_LINK n) g _ (.inr hg)
  refine ⟨⟨(Part.get_put_bit q' _ 0 _ (by decide)).trans (hbit up), ?_, ?_, fun hne => ?_⟩,
    (hset.1.trans hregs).put (F.ETH_STAT_LINK n) _ List.mem_cons_self, ?_⟩
  · rw [hlink _ (show 0 < 1 by decide), hkept _ (show 1 < 3 by decide), hlock]
  · rw [hlink _ (show 0 < 2 by decide), hkept _ (show 2 < 3 by decide), hdone]
  · rw [hlink _ (show 0 < 3 by decide), hchg hne]
  · exact Part.regs_trans (Part.regs_trans hset.2 hrest) rfl

/-- A context that is ready for a session waits for it: its STATE is WAIT_SESSION. -/
theorem Part.rtspReady_state {p : Part} {k port udp : Nat} (h : p.rtspReady k port udp = true) :
    p.get (F.ITK_CTX_STATE_STATE k) = 1 := by
  simp only [Part.rtspReady, Bool.and_eq_true, beq_iff_eq] at h
  exact h.1.1.2

/-- Settles O26, event by event: the counts of a frame that no stream sees, the context that an ended access unit or a committed
entry leaves, and the fields in which a stall, a session and a change of a link show. -/
theorem intakeEventsComplete : Obligations.IntakeEventsComplete := by
  refine ⟨fun port frame full s ⟨hin, hstep⟩ hport hhears => ?fcs, fun port frame full s ⟨hin, hstep⟩ hport hhears hother => ?other,
    fun port frame fcsOk full s ⟨hin, hstep⟩ hport hhears => next_ethFrameRx port frame fcsOk full s hin (by simp [Instr.wf, hport, hhears]),
    fun k s ⟨hin, hstep⟩ hk hdue => ?timeout, fun k e r s ⟨hin, hstep⟩ hk hlive hfenced hentries hstop hbase hsize => ?commit,
    fun k s ⟨hin, hstep⟩ hk hquiet => ?stall, fun k port udp ip pt s ⟨hin, hstep⟩ hk hport hudp hip hpt hready => ?session,
    fun k s ⟨hin, hstep⟩ hk hdue => next_pairChoiceFinal k s hin (by simp [Instr.wf, hk, hdue]),
    fun n up blockLock anDone s ⟨hin, hstep⟩ hn hchanges => ?link⟩
  case fcs =>
    have he := next_ethFrameRx port frame false full s hin (by simp [Instr.wf, hport, hhears])
    rw [Part.ethFrameIn_fcs] at he
    exact completes_of_still he hstep ⟨Part.get_addSat16 _ _ 1, fun a ha => Part.reg_put_other _ _ _ ha, rfl⟩
  case other =>
    have he := next_ethFrameRx port frame true full s hin (by simp [Instr.wf, hport, hhears])
    rw [Part.ethFrameIn_other s.ns full hother] at he
    exact completes_of_still he hstep ⟨Part.get_put_self _ (F.ETH_RX_FRAMES_COUNT port) _ (show 31 < 32 by decide),
      fun a ha => Part.reg_put_other _ _ _ ha, rfl⟩
  case timeout =>
    have he := next_accessUnitTimeout k s hin (by simp [Instr.wf, hk, hdue])
    simp only [Part.auTimedOut, Bool.and_eq_true, Option.isSome_iff_exists] at hdue
    obtain ⟨⟨-, a, hau⟩, -⟩ := hdue
    obtain ⟨hover, hseen, hothers, hsdl⟩ := Part.AuOver.endAu true hau
    exact completes_of_still he ((congrArg SdlUnit.step hsdl).trans hstep) ⟨hover, hseen, rfl, hothers⟩
  case commit =>
    have he := next_entryCommit k s hin (by simp [Instr.wf, Part.entryReady, hk, hlive, hentries, hfenced])
    obtain ⟨sets, hcommit⟩ := Part.commitEntry_active s.ns hbase hsize
    have hentry : s.part.entryCommit s.ns k = s.part.commitEntry k s.ns e := by
      rw [Part.entryCommit, hentries]
    rw [hentry, hcommit] at he
    refine completes_of_still he hstep ⟨?_, Part.get_put_word _ _ hstop, fun a ha => Part.reg_put_other _ _ _ ha, fun i hi => ?_,
      fun a ha => ?_⟩
    · exact (s.part.entryCommitted_entries k s.ns e).trans (by rw [hentries]; rfl)
    · have hlen : i < (toLe 8 s.ns).length := by simpa using hi
      exact (Part.byte_store s.part _ _ i hlen).trans (toLe_getElem 8 s.ns i hlen)
    · exact Part.byte_store_other s.part _ _ a (by simpa using ha)
  case stall =>
    have he := next_contextStall k s hin (by simp [Instr.wf, hk, hquiet])
    exact completes_of_still he hstep ⟨s.part.state_put k (by decide),
      regsOnly_of_regs rfl ((Part.RegsWithin.refl _ s.part).put _ _ List.mem_cons_self)⟩
  case session =>
    have he := next_rtspSessionSetup k port udp ip pt s hin (by simp [Instr.wf, hk, hport, hudp, hip, hpt, hready])
    obtain ⟨⟨heth, hudpPort, hsource, htype, hen, hst⟩, hregs, hrest⟩ :=
      Part.rtspSetup_spec hport hudp hip hpt (Part.rtspReady_state hready)
    exact completes_of_still he (by rw [hrest]; exact hstep) ⟨heth, hudpPort, hsource, htype, hen, hst, regsOnly_of_regs hrest hregs⟩
  case link =>
    have he := next_ethLinkChange n up blockLock anDone s hin (by simp [Instr.wf, hn, hchanges])
    obtain ⟨⟨hlink, hlock, hdone, hchg⟩, hregs, hrest⟩ := s.part.ethLink_spec n up blockLock anDone
    exact completes_of_still he (by rw [hrest]; exact hstep) ⟨hlink, hlock, hdone, hchg, regsOnly_of_regs hrest hregs⟩

end Sys2Proof.Machine
end

section
/-! SUPPORT. The Pruner's pipelines and groups: where the commit register of a pipeline stands, what a commit, the end of a copy and a
latch leave (R237, R238), and what a drill's closing and a slot's release leave of a group (R249, R253). -/

namespace Sys2Proof.Machine

open Sys2Proof.Claim

/-! The state of a pipeline and of a group. -/

@[simp] theorem Part.prnPipe_setPrnPipe_self (p : Part) (k : Nat) (u : PrnPipe) : (p.setPrnPipe k u).prnPipe k = u :=
  FMap.get_put_self PrnPipe.init p.prn.pipes k u

theorem Part.prnPipe_setPrnPipe_other (p : Part) {k j : Nat} (u : PrnPipe) (h : j ≠ k) : (p.setPrnPipe k u).prnPipe j = p.prnPipe j :=
  FMap.get_put_other PrnPipe.init p.prn.pipes u h

@[simp] theorem Part.prnPipe_modPrnPipe_self (p : Part) (k : Nat) (f : PrnPipe → PrnPipe) :
    (p.modPrnPipe k f).prnPipe k = f (p.prnPipe k) :=
  Part.prnPipe_setPrnPipe_self p k _

theorem Part.prnPipe_modPrnPipe_other (p : Part) {k j : Nat} (f : PrnPipe → PrnPipe) (h : j ≠ k) :
    (p.modPrnPipe k f).prnPipe j = p.prnPipe j :=
  Part.prnPipe_setPrnPipe_other p _ h

/-- A write of a register leaves the pipelines. -/
@[simp] theorem Part.prnPipe_put (p : Part) (f : Fld) (n j : Nat) : (p.put f n).prnPipe j = p.prnPipe j := rfl

@[simp] theorem Part.grp_modGrp_self (p : Part) (g : Nat) (f : PrnGrp → PrnGrp) : (p.modGrp g f).grp g = f (p.grp g) :=
  FMap.get_put_self PrnGrp.init p.prn.groups g _

/-- A write of a register leaves the groups. -/
@[simp] theorem Part.grp_put (p : Part) (f : Fld) (n g : Nat) : (p.put f n).grp g = p.grp g := rfl

/-! Changes of the Pruner and of listed registers alone. -/

/-- `q` is `p` but for the Pruner's state, and of the registers only those listed differ. -/
def Part.PrunerOnly (l : List Nat) (p q : Part) : Prop :=
  p.RegsWithin l q ∧ q = { p with regs := q.regs, prn := q.prn }

theorem Part.PrunerOnly.refl (l : List Nat) (p : Part) : p.PrunerOnly l p := ⟨.refl l p, rfl⟩

theorem Part.PrunerOnly.trans {l : List Nat} {p q r : Part} (h : p.PrunerOnly l q) (h' : q.PrunerOnly l r) : p.PrunerOnly l r :=
  ⟨h.1.trans h'.1, h'.2.trans (congrArg (fun x : Part => { x with regs := r.regs, prn := r.prn }) h.2)⟩

theorem Part.PrunerOnly.put {l : List Nat} {p q : Part} (h : p.PrunerOnly l q) (f : Fld) (n : Nat) (hf : f.reg ∈ l) :
    p.PrunerOnly l (q.put f n) :=
  ⟨h.1.put f n hf, congrArg (fun x : Part => { x with regs := (q.put f n).regs }) h.2⟩

theorem Part.PrunerOnly.modPrnPipe {l : List Nat} {p q : Part} (h : p.PrunerOnly l q) (k : Nat) (f : PrnPipe → PrnPipe) :
    p.PrunerOnly l (q.modPrnPipe k f) :=
  ⟨h.1, congrArg (fun x : Part => { x with prn := (q.modPrnPipe k f).prn }) h.2⟩

theorem Part.PrunerOnly.modGrp {l : List Nat} {p q : Part} (h : p.PrunerOnly l q) (g : Nat) (f : PrnGrp → PrnGrp) :
    p.PrunerOnly l (q.modGrp g f) :=
  ⟨h.1, congrArg (fun x : Part => { x with prn := (q.modGrp g f).prn }) h.2⟩

theorem Part.PrunerOnly.mem {l : List Nat} {p q : Part} (h : p.PrunerOnly l q) : q.mem = p.mem := by rw [h.2]

theorem Part.PrunerOnly.sdl {l : List Nat} {p q : Part} (h : p.PrunerOnly l q) : q.sdl = p.sdl := by rw [h.2]

/-- No step of the Sundial is ordered where none was. -/
theorem Part.PrunerOnly.still {l : List Nat} {p q : Part} (h : p.PrunerOnly l q) (hstep : p.sdl.step = 0) : q.sdl.step = 0 :=
  (congrArg SdlUnit.step h.sdl).trans hstep

theorem Part.PrunerOnly.regsOnly {l : List Nat} {s : State} {q : Part} (h : s.part.PrunerOnly l q) :
    RegsOnly l { s with part := { s.part with prn := q.prn } } { s with part := q } :=
  ⟨h.1, congrArg (fun p => { s with part := p }) h.2⟩

/-! The commit register in the register table. -/

/-- A row finds an offset only where one of its registers stands. -/
theorem RegRow.find_place {r : RegRow} {o i j : Nat} (h : r.find o = some (i, j)) : o = r.off + i * r.str + j * r.str2 := by
  obtain ⟨hoff, -⟩ := RegRow.find_some h
  unfold RegRow.find at h
  rw [if_neg (by omega)] at h
  extract_lets d n n' e m at h
  obtain ⟨hin, hpair⟩ := Option.ite_none_right_eq_some.1 h
  obtain ⟨rfl, rfl⟩ := Prod.mk.inj (Option.some.inj hpair)
  have hfirst : n * r.str ≤ d := by
    by_cases hstr : r.str = 0
    · simp [hstr]
    · simpa only [n, if_neg hstr] using Nat.div_mul_le_self d r.str
  have hplace : n' * r.str ≤ d := by
    have hclamped : n' ≤ n := by
      simp only [n']
      split <;> omega
    exact Nat.le_trans (Nat.mul_le_mul_right r.str hclamped) hfirst
  omega

/-- A row none of whose registers stands at the offset is passed over. -/
theorem findRow_absent {off cnt str o : Nat} (l : List FieldSpec) (rs : List RegRow) (h : ∀ i < cnt, o ≠ off + i * str) :
    findRow (⟨off, cnt, str, 1, 0, l⟩ :: rs) o = findRow rs o := by
  have hfind : RegRow.find ⟨off, cnt, str, 1, 0, l⟩ o = none := by
    refine Option.eq_none_iff_forall_ne_some.2 fun ⟨i, j⟩ hf => h i (RegRow.find_some hf).2 ?_
    simpa using RegRow.find_place hf
  rw [findRow, hfind]

theorem regAt_prnCommit {k : Nat} (h : k < 64) :
    regAt (R.PRN_PIPE_COMMIT k) = some (⟨0x10010, 64, 0x40, 1, 0, [⟨0, 0, .wo, 0⟩]⟩, k, 0) := by
  have hblk : R.PRN_PIPE_COMMIT k / 0x100000 = 4 := by unfold R.PRN_PIPE_COMMIT; omega
  have hoff : R.PRN_PIPE_COMMIT k % 0x100000 = 0x10010 + k * 0x40 := by unfold R.PRN_PIPE_COMMIT; omega
  have hfind : RegRow.find ⟨0x10010, 64, 0x40, 1, 0, [⟨0, 0, .wo, 0⟩]⟩ (0x10010 + k * 0x40) = some (k, 0) := by
    have hin : ¬ 64 ≤ k := by omega
    simp [RegRow.find, hin, h]
  rw [regAt, hblk, hoff]
  simp only [regsOf, regsPRN, List.cons_append, List.nil_append]
  iterate 8 rw [findRow_absent _ _ (by omega)]
  rw [findRow, hfind]

/-- A write in the Pruner's block follows the register's own rule, or else its access codes. -/
theorem Part.regStore_prn (p : Part) (t : Nat) (w : Who) (ctx : Nat) {a i j : Nat} {r : RegRow} (v : Word) (h : a / 0x100000 = 4)
    (hr : regAt a = some (r, i, j)) :
    p.regStore t w ctx a v = (p.writeMid t w (0x400000 + r.off) i v).getD (p.writeFields a v r.fields) := by
  have hgated : p.gatedReg a = false := by simp [Part.gatedReg, h, blkBED]
  have hshut : p.ringShut a = false := by
    have hbelow : ¬ 0x710000 ≤ a := by omega
    simp [Part.ringShut, isHostRing, hbelow]
  unfold Part.regStore
  rw [hr]
  simp only [hgated, hshut, h, rowKey]
  rfl

/-- Plot 0 firmware's write of 1 to COMMIT is the pipeline's commit. -/
theorem Part.writeOf_prnCommit (p : Part) (t : Nat) {w : Who} {k : Nat} (hk : w.kind ≠ .host) (hp : w.plot = 0) (h : k < 64) :
    p.writeOf t w (R.PRN_PIPE_COMMIT k) 1 = p.prnCommit k := by
  have hrow := regAt_prnCommit h
  have hcopy : copyOf (R.PRN_PIPE_COMMIT k) = R.PRN_PIPE_COMMIT k := if_neg (by unfold R.PRN_PIPE_COMMIT; omega)
  rw [p.writeOf_firmware t 1 hk hp (by unfold R.PRN_PIPE_COMMIT; omega) (by unfold R.PRN_PIPE_COMMIT; omega)
    (by rw [implemented, hcopy, hrow]; rfl) hcopy, p.regStore_prn t w 0 1 (by unfold R.PRN_PIPE_COMMIT; omega) hrow]
  have hown : p.writeMid t w (R.PRN_PIPE_COMMIT 0) k 1 = some (p.prnCommit k) := by
    rw [Part.writeMid, if_pos rfl, if_pos (by decide)]
  rw [show 0x400000 + 0x10010 = R.PRN_PIPE_COMMIT 0 from rfl, hown, Option.getD_some]

/-! Commits and copies (R237). -/

theorem Part.prnCopy_free {p : Part} {k : Nat} (src : CopySrc) (h : p.get (F.PRN_PIPE_COMMIT_STAT_COPYING k) = 0) :
    p.prnCopy k src = (p.set (F.PRN_PIPE_COMMIT_STAT_COPYING k)).modPrnPipe k (fun u => { u with copying := some src }) := by
  simp [Part.prnCopy, Part.on, h]

/-- A commit while a list is being copied is superseded. -/
theorem Part.prnCommit_copying {p : Part} {k : Nat} (h : p.get (F.PRN_PIPE_COMMIT_STAT_COPYING k) = 1) :
    p.prnCommit k = p.set (F.PRN_PIPE_COMMIT_STAT_SUPERSEDED k) := by
  simp [Part.prnCommit, Part.on, h]

theorem Part.prnCommit_rejected {p : Part} {k : Nat} (h : p.get (F.PRN_PIPE_COMMIT_STAT_COPYING k) = 0)
    (hbad : p.commitBad k (p.get64 (F.PRN_PIPE_S_LIST_LO_ADDR k) (F.PRN_PIPE_S_LIST_HI_ADDR k))
      (p.get (F.PRN_PIPE_S_COUNT_COUNT k)) = true) :
    p.prnCommit k = p.set (F.PRN_PIPE_COMMIT_STAT_REJECT k) := by
  simp [Part.prnCommit, Part.on, h, hbad]

theorem Part.prnCommit_accepted {p : Part} {k : Nat} (h : p.get (F.PRN_PIPE_COMMIT_STAT_COPYING k) = 0)
    (hok : p.commitBad k (p.get64 (F.PRN_PIPE_S_LIST_LO_ADDR k) (F.PRN_PIPE_S_LIST_HI_ADDR k))
      (p.get (F.PRN_PIPE_S_COUNT_COUNT k)) = false) :
    p.prnCommit k = p.prnCopy k (.list (p.get64 (F.PRN_PIPE_S_LIST_LO_ADDR k) (F.PRN_PIPE_S_LIST_HI_ADDR k))
      (p.get (F.PRN_PIPE_S_COUNT_COUNT k))) := by
  simp [Part.prnCommit, Part.on, h, hok]

/-- A copy that starts shows COPYING and keeps where the list comes from. -/
theorem Part.prnCopy_spec {p : Part} {k : Nat} (src : CopySrc) (h : p.get (F.PRN_PIPE_COMMIT_STAT_COPYING k) = 0) :
    (p.prnCopy k src).get (F.PRN_PIPE_COMMIT_STAT_COPYING k) = 1 ∧
    (p.prnCopy k src).prnPipe k = { p.prnPipe k with copying := some src } ∧
    (∀ j, j ≠ k → (p.prnCopy k src).prnPipe j = p.prnPipe j) ∧ p.PrunerOnly [R.PRN_PIPE_COMMIT_STAT k] (p.prnCopy k src) := by
  rw [Part.prnCopy_free src h]
  exact ⟨Part.get_put_bit p _ 0 1 (by decide), Part.prnPipe_modPrnPipe_self _ k _, fun j hj => Part.prnPipe_modPrnPipe_other _ _ hj,
    ((Part.PrunerOnly.refl _ p).put (F.PRN_PIPE_COMMIT_STAT_COPYING k) 1 List.mem_cons_self).modPrnPipe k _⟩

/-- What leaves the Frexia, one after another, leaves the rest of the part. -/
theorem Part.each_emit (p : Part) (l : List Nat) (o : Nat → Out) :
    ∃ out, p.each l (fun q n => q.emit (o n)) = { p with out := out } := by
  unfold Part.each
  induction l generalizing p with
  | nil => exact ⟨p.out, rfl⟩
  | cons n r ih => exact ih (p.emit (o n))

/-- A list that still waits as another copy ends is superseded. -/
def Part.prnSupersede (p : Part) (k : Nat) : Part :=
  p.iff (p.on (F.PRN_PIPE_COMMIT_STAT_PENDING k)) (·.set (F.PRN_PIPE_COMMIT_STAT_SUPERSEDED k))

theorem Part.PrunerOnly.prnSupersede {l : List Nat} (p : Part) (k : Nat) (hl : R.PRN_PIPE_COMMIT_STAT k ∈ l) :
    p.PrunerOnly l (p.prnSupersede k) := by
  unfold Part.prnSupersede Part.iff
  split
  · exact (Part.PrunerOnly.refl l p).put (F.PRN_PIPE_COMMIT_STAT_SUPERSEDED k) 1 hl
  · exact .refl l p

theorem Part.prnPipe_prnSupersede (p : Part) (k j : Nat) : (p.prnSupersede k).prnPipe j = p.prnPipe j := by
  unfold Part.prnSupersede Part.iff
  split <;> rfl

/-- The part once a copy has ended: `bad` invalid entries were counted, and list `l` waits for the latch. -/
def Part.listCopied (p : Part) (k bad : Nat) (l : List Crop × Bool) : Part :=
  ((((p.prnSupersede k).addSat (F.PRN_PIPE_BADCROP_COUNT k) bad).modPrnPipe k (fun u => { u with
    copying := none, callers := [], pending := some l })).clr (F.PRN_PIPE_COMMIT_STAT_COPYING k)).set (F.PRN_PIPE_COMMIT_STAT_PENDING k)

/-- A write of a register leaves what has left the Frexia. -/
theorem Part.put_withOut (p : Part) (out : List Out) (f : Fld) (n : Nat) :
    ({ p with out := out } : Part).put f n = { p.put f n with out := out } := rfl

/-- Beside that, the calls that waited for the copy return. -/
theorem Part.prnCopyDone_eq {p : Part} {k : Nat} {src : CopySrc} (h : (p.prnPipe k).copying = some src) :
    ∃ bad l out, p.prnCopyDone k = { p.listCopied k bad l with out := out } := by
  unfold Part.prnCopyDone
  rw [h]
  dsimp only
  generalize List.length (List.filter _ _) = bad
  generalize List.map _ _ = crops
  generalize (src != .again) = steered
  obtain ⟨out, hout⟩ := Part.each_emit (((p.prnSupersede k).addSat (F.PRN_PIPE_BADCROP_COUNT k) bad).modPrnPipe k (fun u => { u with
    copying := none, callers := [], pending := some (crops, steered) }))
    ((p.prnPipe k).callers.filter (fun n => p.get (F.APC_RUN_STAT_STATE n) == 2)) (fun n => .syscall n 0 0)
  rw [← Part.prnSupersede, hout, Part.clr, Part.put_withOut, Part.set, Part.put_withOut]
  exact ⟨bad, (crops, steered), out, rfl⟩

/-- `q` is `p` with a copy of pipeline `k` ended: list `l` waits for the latch, and COMMIT_STAT says so. -/
def Part.CopyEnded (k : Nat) (l : List Crop × Bool) (p q : Part) : Prop :=
  q.get (F.PRN_PIPE_COMMIT_STAT_COPYING k) = 0 ∧ q.get (F.PRN_PIPE_COMMIT_STAT_PENDING k) = 1 ∧
  q.prnPipe k = { p.prnPipe k with copying := none, callers := [], pending := some l } ∧
  p.RegsWithin [R.PRN_PIPE_COMMIT_STAT k, R.PRN_PIPE_BADCROP k] q ∧ q.mem = p.mem ∧ q.sdl = p.sdl

theorem Part.CopyEnded.withOut {k : Nat} {l : List Crop × Bool} {p q : Part} (h : p.CopyEnded k l q) (out : List Out) :
    p.CopyEnded k l { q with out := out } := h

theorem Part.CopyEnded.listCopied (p : Part) (k bad : Nat) (l : List Crop × Bool) : p.CopyEnded k l (p.listCopied k bad l) := by
  unfold Part.listCopied
  generalize hq : (p.prnSupersede k).addSat (F.PRN_PIPE_BADCROP_COUNT k) bad = q
  have hpipe : q.prnPipe k = p.prnPipe k := by
    rw [← hq]
    exact p.prnPipe_prnSupersede k k
  have honly : p.PrunerOnly [R.PRN_PIPE_COMMIT_STAT k, R.PRN_PIPE_BADCROP k] q := by
    rw [← hq]
    exact (Part.PrunerOnly.prnSupersede p k List.mem_cons_self).put _ _ (List.mem_cons_of_mem _ List.mem_cons_self)
  have hended := ((honly.modPrnPipe k (fun u => { u with copying := none, callers := [], pending := some l })).put
    (F.PRN_PIPE_COMMIT_STAT_COPYING k) 0 List.mem_cons_self).put (F.PRN_PIPE_COMMIT_STAT_PENDING k) 1 List.mem_cons_self
  refine ⟨?copying, Part.get_put_bit _ _ 1 1 (by decide), ?pipe, hended.1, hended.mem, hended.sdl⟩
  case copying =>
    exact (Part.get_put_disjoint _ (F.PRN_PIPE_COMMIT_STAT_PENDING k) (F.PRN_PIPE_COMMIT_STAT_COPYING k) 1
      (.inl (show 0 < 1 by decide))).trans (Part.get_put_bit _ _ 0 0 (by decide))
  case pipe => rw [Part.set, Part.prnPipe_put, Part.clr, Part.prnPipe_put, Part.prnPipe_modPrnPipe_self, hpipe]

theorem Part.CopyEnded.prnCopyDone {p : Part} {k : Nat} {src : CopySrc} (h : (p.prnPipe k).copying = some src) :
    ∃ l, p.CopyEnded k l (p.prnCopyDone k) := by
  obtain ⟨bad, l, out, hdone⟩ := Part.prnCopyDone_eq h
  rw [hdone]
  exact ⟨l, (Part.CopyEnded.listCopied p k bad l).withOut out⟩

/-! The latch (R238). -/

/-- A pipeline once its oldest frame has latched and the frames of `r` wait: a list that waited is the active one. -/
def PrnPipe.latched (u : PrnPipe) (r : List PrnLatch) : PrnPipe :=
  { u with active := (u.pending.map (·.1)).getD u.active, steered := (u.pending.map (·.2)).getD u.steered, pending := none, latches := r }

theorem PrnPipe.latched_idle {u : PrnPipe} (r : List PrnLatch) (h : u.pending = none) : u.latched r = { u with latches := r } := by
  simp [PrnPipe.latched, h]

theorem PrnPipe.latched_list {u : PrnPipe} (r : List PrnLatch) {l : List Crop × Bool} (h : u.pending = some l) :
    u.latched r = { u with active := l.1, steered := l.2, pending := none, latches := r } := by
  simp [PrnPipe.latched, h]

/-- What a latch shows: no list waits, this frame latched, and the active list has `n` entries. -/
def Part.latchShown (p : Part) (k seq n : Nat) : Part :=
  ((p.clr (F.PRN_PIPE_COMMIT_STAT_PENDING k)).put (F.PRN_PIPE_LATCHED_SEQ_SEQ k) seq).put (F.PRN_PIPE_ACTIVE_COUNT_COUNT k) n

/-- Where a pipeline takes its frames from a set, a latch issues no job: it keeps the list for the frame's pair. -/
theorem Part.prunerLatch_set {p : Part} {k : Nat} {e : PrnLatch} {r : List PrnLatch} (t : Nat) (hlatch : (p.prnPipe k).latches = e :: r)
    (hstate : p.get (F.PLT_STATE_STATE (p.img.pipePlot k)) = 2) (hfence : p.fenced (p.img.pipePlot k) = false)
    (hkind : p.img.pipeInputKind k ≠ 0) (hstage : p.img.prnStage k ≠ none) :
    let u := (p.prnPipe k).latched r
    p.prunerLatch t k = ((p.setPrnPipe k u).latchShown k e.frameSeq u.active.length).modPrnPipe k
      (fun v => { v with snaps := v.snaps ++ [(e.frameSeq, u.active, u.steered)] }) := by
  have hhas : (p.img.prnStage k).isSome = true := Option.isSome_iff_ne_none.2 hstage
  have hruns : ¬ (p.get (F.PLT_STATE_STATE (p.img.pipePlot k)) ≠ 2 ∨ p.fenced (p.img.pipePlot k) = true) := by simp [hstate, hfence]
  intro u
  unfold Part.prunerLatch
  simp only [hlatch]
  rw [if_neg hruns, if_neg hkind, hhas]
  cases hpending : (p.prnPipe k).pending with
  | none =>
    simp only [u, PrnPipe.latched_idle r hpending, Part.latchShown, Part.iff, if_true, Part.modPrnPipe, hpending,
      Part.prnPipe_setPrnPipe_self]
  | some l =>
    simp only [u, PrnPipe.latched_list r hpending, Part.latchShown, Part.iff, if_true, Part.modPrnPipe, hpending,
      Part.prnPipe_setPrnPipe_self]

/-- The registers in which a latch shows. -/
def prnLatchRegs (k : Nat) : List Nat := [R.PRN_PIPE_COMMIT_STAT k, R.PRN_PIPE_LATCHED_SEQ k, R.PRN_PIPE_ACTIVE_COUNT k]

theorem prnLatchRegs_nodup (k : Nat) : (prnLatchRegs k).Nodup := by
  simp only [prnLatchRegs, List.nodup_cons, List.mem_cons, List.not_mem_nil, or_false, List.nodup_nil, not_or, not_false_eq_true,
    and_true, R.PRN_PIPE_COMMIT_STAT, R.PRN_PIPE_LATCHED_SEQ, R.PRN_PIPE_ACTIVE_COUNT]
  omega

theorem Part.latchShown_spec (p : Part) (k n : Nat) {seq : Nat} (hseq : seq < 2 ^ 32) :
    (p.latchShown k seq n).get (F.PRN_PIPE_LATCHED_SEQ_SEQ k) = seq ∧
    (p.latchShown k seq n).get (F.PRN_PIPE_COMMIT_STAT_PENDING k) = 0 ∧
    (∀ j, (p.latchShown k seq n).prnPipe j = p.prnPipe j) ∧ p.PrunerOnly (prnLatchRegs k) (p.latchShown k seq n) := by
  have hregs := prnLatchRegs_nodup k
  simp only [prnLatchRegs, List.nodup_cons, List.mem_cons, List.not_mem_nil, or_false, not_or] at hregs
  obtain ⟨⟨hstatSeq, hstatCount⟩, hseqCount, -⟩ := hregs
  unfold Part.latchShown
  refine ⟨?seq, ?pending, fun j => rfl, ?only⟩
  case seq =>
    exact (Part.get_put_reg _ (F.PRN_PIPE_ACTIVE_COUNT_COUNT k) (F.PRN_PIPE_LATCHED_SEQ_SEQ k) n hseqCount).trans
      (Part.get_put_word _ _ hseq)
  case pending =>
    calc _ = _ := Part.get_put_reg _ (F.PRN_PIPE_ACTIVE_COUNT_COUNT k) (F.PRN_PIPE_COMMIT_STAT_PENDING k) n hstatCount
      _ = _ := Part.get_put_reg _ (F.PRN_PIPE_LATCHED_SEQ_SEQ k) (F.PRN_PIPE_COMMIT_STAT_PENDING k) seq hstatSeq
      _ = 0 := Part.get_put_bit p _ 1 0 (by decide)
  case only =>
    exact (((Part.PrunerOnly.refl _ p).put (F.PRN_PIPE_COMMIT_STAT_PENDING k) 0 List.mem_cons_self).put (F.PRN_PIPE_LATCHED_SEQ_SEQ k)
      seq (List.mem_cons_of_mem _ List.mem_cons_self)).put (F.PRN_PIPE_ACTIVE_COUNT_COUNT k) n
      (List.mem_cons_of_mem _ (List.mem_cons_of_mem _ List.mem_cons_self))

/-- What such a latch leaves of the pipeline, and what it shows. -/
theorem Part.prunerLatch_set_spec {p : Part} {k : Nat} {e : PrnLatch} {r : List PrnLatch} (t : Nat)
    (hlatch : (p.prnPipe k).latches = e :: r) (hseq : e.frameSeq < 2 ^ 32)
    (hstate : p.get (F.PLT_STATE_STATE (p.img.pipePlot k)) = 2) (hfence : p.fenced (p.img.pipePlot k) = false)
    (hkind : p.img.pipeInputKind k ≠ 0) (hstage : p.img.prnStage k ≠ none) :
    let u := (p.prnPipe k).latched r
    (p.prunerLatch t k).prnPipe k = { u with snaps := u.snaps ++ [(e.frameSeq, u.active, u.steered)] } ∧
    (p.prunerLatch t k).get (F.PRN_PIPE_LATCHED_SEQ_SEQ k) = e.frameSeq ∧
    (p.prunerLatch t k).get (F.PRN_PIPE_COMMIT_STAT_PENDING k) = 0 ∧ p.PrunerOnly (prnLatchRegs k) (p.prunerLatch t k) := by
  intro u
  obtain ⟨hseqShown, hpending, hpipes, honly⟩ := (p.setPrnPipe k u).latchShown_spec k u.active.length hseq
  rw [Part.prunerLatch_set t hlatch hstate hfence hkind hstage, Part.modPrnPipe_get, Part.modPrnPipe_get,
    Part.prnPipe_modPrnPipe_self, hpipes, Part.prnPipe_setPrnPipe_self]
  have hset : p.PrunerOnly (prnLatchRegs k) (p.setPrnPipe k u) := (Part.PrunerOnly.refl _ p).modPrnPipe k (fun _ => u)
  exact ⟨rfl, hseqShown, hpending, (hset.trans honly).modPrnPipe k _⟩

/-! Drills (R249, R253). -/

theorem prn_grp_seq_ne_timed (g : Nat) : R.PRN_GRP_SEQ g ≠ R.PRN_GRP_TIMED g := by
  unfold R.PRN_GRP_SEQ R.PRN_GRP_TIMED; omega

/-- A drill that has waited closes with cause 1, and its group counts it. -/
theorem Part.closeDrill_timed {p : Part} {g : Nat} {d : Drill} (t : Nat) (h : (p.grp g).opened = some d) :
    p.closeDrill t g 1 = ((p.modGrp g (fun u => { u with
      opened := none, closed := u.closed ++ [{ d with close := 1, closeTs := t }] })).put (F.PRN_GRP_SEQ_SEQ (g - 16)) d.seq).add
        (F.PRN_GRP_TIMED_COUNT (g - 16)) 1 := by
  simp only [Part.closeDrill, h]
  rfl

theorem Part.closeDrill_timed_spec {p : Part} {g : Nat} {d : Drill} (t : Nat) (h : (p.grp g).opened = some d) (hseq : d.seq < 2 ^ 32) :
    let q := p.closeDrill t g 1
    q.grp g = { p.grp g with opened := none, closed := (p.grp g).closed ++ [{ d with close := 1, closeTs := t }] } ∧
    q.get (F.PRN_GRP_SEQ_SEQ (g - 16)) = d.seq ∧
    q.get (F.PRN_GRP_TIMED_COUNT (g - 16)) = (p.get (F.PRN_GRP_TIMED_COUNT (g - 16)) + 1) % 2 ^ 32 ∧
    p.PrunerOnly [R.PRN_GRP_SEQ (g - 16), R.PRN_GRP_TIMED (g - 16)] q := by
  intro q
  have hne := prn_grp_seq_ne_timed (g - 16)
  simp only [q, Part.closeDrill_timed t h]
  unfold Part.add
  refine ⟨?grp, ?seq, ?timed, ?only⟩
  case grp => rw [Part.grp_put, Part.grp_put, Part.grp_modGrp_self]
  case seq =>
    exact (Part.get_put_reg _ (F.PRN_GRP_TIMED_COUNT (g - 16)) (F.PRN_GRP_SEQ_SEQ (g - 16)) _ hne).trans (Part.get_put_word _ _ hseq)
  case timed =>
    have hkept := Part.get_put_reg (p.modGrp g (fun u => { u with
      opened := none, closed := u.closed ++ [{ d with close := 1, closeTs := t }] })) (F.PRN_GRP_SEQ_SEQ (g - 16))
      (F.PRN_GRP_TIMED_COUNT (g - 16)) d.seq hne.symm
    rw [hkept, Part.modGrp_get]
    exact Part.get_put_self _ (F.PRN_GRP_TIMED_COUNT (g - 16)) _ (show 31 < 32 by decide)
  case only =>
    exact (((Part.PrunerOnly.refl _ p).modGrp g _).put (F.PRN_GRP_SEQ_SEQ (g - 16)) d.seq List.mem_cons_self).put
      (F.PRN_GRP_TIMED_COUNT (g - 16)) _ (List.mem_cons_of_mem _ List.mem_cons_self)

/-- A group without the drills whose consumers have all ended, but for the open one. -/
def PrnGrp.freed (u : PrnGrp) : PrnGrp :=
  { u with used := u.used.filter (fun e => e.2 != 0 || (u.opened.map (·.seq)) == some e.1.seq) }

theorem Part.slotFree_spec (p : Part) (g : Nat) :
    (p.slotFree g).grp g = (p.grp g).freed ∧ p.PrunerOnly [R.PRN_GRP_FREE (g - 16)] (p.slotFree g) := by
  have hfreed : (p.modGrp g PrnGrp.freed).grp g = (p.grp g).freed ∧ p.PrunerOnly [R.PRN_GRP_FREE (g - 16)] (p.modGrp g PrnGrp.freed) :=
    ⟨Part.grp_modGrp_self p g _, (Part.PrunerOnly.refl _ p).modGrp g _⟩
  unfold Part.slotFree
  extract_lets q
  split
  · exact ⟨hfreed.1, hfreed.2.put (F.PRN_GRP_FREE_SLOTS (g - 16)) _ List.mem_cons_self⟩
  · exact hfreed

/-- None of a group's drills waits to be freed once it has been. -/
theorem Part.slotIdle_freed {p q : Part} {g : Nat} (h : q.grp g = (p.grp g).freed) : q.slotIdle g = false := by
  rw [Part.slotIdle, h, List.any_eq_false]
  intro e he
  have hkept := (List.mem_filter.1 he).2
  simp only [PrnGrp.freed, Bool.or_eq_true, bne_iff_ne, beq_iff_eq, ne_eq, Bool.and_eq_true, not_and, Decidable.not_not] at hkept ⊢
  exact hkept.resolve_left ∘ not_not_intro

/-- Settles O30, command by command: the three outcomes of a commit, what the end of a copy and a latch leave of the pipeline, and what
an expiry and a freed slot leave of the group. -/
theorem prunerCommands : Obligations.PrunerCommands := by
  refine ⟨⟨fun w k s ⟨hin, hstep⟩ hfw hk => ?commit, fun k src s ⟨hin, hstep⟩ hk hlive hcopying => ?copied⟩,
    fun k s ⟨hin, hstep⟩ hk hlive hlatches => next_prunerLatch k s hin (by simp [Instr.wf, hk, hlive, hlatches]),
    fun k e r s ⟨hin, hstep⟩ hk hlive hlatches hseq hstate hfence hkind hstage => ?latch,
    fun e s ⟨hin, hstep⟩ he hfree => next_cropStart e s hin (by simp [Instr.wf, he, hfree]),
    fun e s ⟨hin, hstep⟩ he hlive hdone => next_cropEnd e s hin (by simp [Instr.wf, he, hlive, hdone]),
    fun plot group d s ⟨hin, hstep⟩ hpos hplot hgroup hlive hwaited hopened hseq => ?expiry,
    fun plot group s ⟨hin, hstep⟩ hplot hgroup hlive hdue =>
      next_drillReadyNotice plot group s hin (by simp [Instr.wf, hplot, hgroup, hlive, hdue]),
    fun plot group s ⟨hin, hstep⟩ hpos hplot hgroup hlive hidle => ?freed⟩
  case commit =>
    extract_lets addr count copying
    have he := next_prnPipeCommit w k s hin (by simp [Instr.wf, hk, issues_firmware hfw])
    rw [s.part.writeOf_prnCommit s.ns hfw.1 hfw.2.1 hk] at he
    refine ⟨fun h => ?superseded, fun h hbad => ?rejected, fun h hok => ?accepted⟩
    case superseded =>
      rw [Part.prnCommit_copying h] at he
      exact completes_of_still he hstep ⟨Part.get_put_bit _ _ 3 1 (by decide),
        regsOnly_of_regs rfl ((Part.RegsWithin.refl _ s.part).put _ _ List.mem_cons_self)⟩
    case rejected =>
      rw [Part.prnCommit_rejected h hbad] at he
      exact completes_of_still he hstep ⟨Part.get_put_bit _ _ 2 1 (by decide),
        regsOnly_of_regs rfl ((Part.RegsWithin.refl _ s.part).put _ _ List.mem_cons_self)⟩
    case accepted =>
      rw [Part.prnCommit_accepted h hok] at he
      obtain ⟨hshown, hpipe, hothers, honly⟩ := Part.prnCopy_spec (.list addr count) h
      exact completes_of_still he (honly.still hstep) ⟨hshown, congrArg PrnPipe.copying hpipe, hothers,
        fun a ha => honly.1 a (by simpa using ha), honly.mem⟩
  case copied =>
    have he := next_steerCopyDone k s hin (by simp [Instr.wf, hk, hlive, hcopying])
    obtain ⟨l, hcopyingBit, hpendingBit, hpipe, hregs, hmem, hsdl⟩ := Part.CopyEnded.prnCopyDone hcopying
    exact completes_of_still he ((congrArg SdlUnit.step hsdl).trans hstep) ⟨hcopyingBit, hpendingBit, congrArg PrnPipe.copying hpipe,
      congrArg (fun u : PrnPipe => u.pending.isSome) hpipe, (congrArg PrnPipe.active hpipe :), hregs, hmem⟩
  case latch =>
    have he := next_prunerLatch k s hin (by simp [Instr.wf, hk, hlive, hlatches])
    obtain ⟨hpipe, hseqShown, hpending, honly⟩ :=
      Part.prunerLatch_set_spec s.ns hlatches hseq hstate hfence hkind hstage
    refine completes_of_still he (honly.still hstep) ⟨congrArg PrnPipe.latches hpipe, hseqShown, hpending, fun l st hwait => ?_,
      fun hwait => ?_, honly.1, honly.mem⟩
    · rw [PrnPipe.latched_list r hwait] at hpipe
      exact ⟨congrArg PrnPipe.active hpipe, congrArg PrnPipe.pending hpipe⟩
    · rw [PrnPipe.latched_idle r hwait] at hpipe
      rw [hpipe]
  case expiry =>
    have he := next_drillWaitExpiry plot group s hin (by simp [Instr.wf, hplot, hgroup, hlive, hwaited])
    obtain ⟨hgrp, hseqShown, htimed, honly⟩ := Part.closeDrill_timed_spec s.ns hopened hseq
    exact completes_of_still he (honly.still hstep) ⟨congrArg PrnGrp.opened hgrp, congrArg PrnGrp.closed hgrp, hseqShown, htimed, honly.1,
      congrArg (fun q => { s with part := q }) honly.2⟩
  case freed =>
    have he := next_drillSlotFree plot group s hin (by simp [Instr.wf, hplot, hgroup, hlive, hidle])
    obtain ⟨hgrp, honly⟩ := s.part.slotFree_spec (groupKey plot group)
    exact completes_of_still he (honly.still hstep) ⟨Part.slotIdle_freed hgrp, (congrArg PrnGrp.opened hgrp :),
      fun a ha => honly.1 a (by simpa using ha), congrArg (fun q => { s with part := q }) honly.2⟩

end Sys2Proof.Machine
end

section
/-! SUPPORT. System calls about crop lists and models: what a call returns to its Runner, and what STEER (R237) and the model calls (R363,
R367, R381) leave of the Pruner and of the models. -/

namespace Sys2Proof.Machine

open Sys2Proof.Claim

/-! The calling activation. -/

/-- The plot that a call acts for is its activation's. -/
theorem Part.caller_of_core {p : Part} {c : Nat} {a : Act} (h : p.core c = some a) : p.caller c = a.cmd.plot := by
  simp [Part.caller, h]

/-- A call's values go to the Runner of the activation. -/
theorem Part.ret_of_core {p : Part} {c : Nat} {a : Act} (h : p.core c = some a) (a0 : Int) (a1 : Nat) :
    p.ret c a0 a1 = p.emit (.syscall a.runner (twos 64 a0) a1) := by
  rw [Part.ret, h]

/-- A call whose effect on the part leaves memory and the cores, changes the registers listed alone and lets nothing else out has
returned its values. -/
theorem answered_ret {c : Nat} {a : Act} {s : State} {q : Part} {l : List Nat} (a0 : Int) (a1 : Nat) (hcore : q.core c = some a)
    (hregs : s.part.RegsWithin l q) (hout : q.out = s.part.out) (hmem : q.mem = s.part.mem) (hnor : q.nor = s.part.nor) :
    Answered a a0 a1 l s { s with part := q.ret c a0 a1 } := by
  rw [Part.ret_of_core hcore]
  exact ⟨congrArg _ hout, hregs, hmem, hnor, rfl, rfl⟩

theorem Part.ret_sdl (p : Part) (c : Nat) (a0 : Int) (a1 : Nat) : (p.ret c a0 a1).sdl = p.sdl := by
  unfold Part.ret
  split <;> rfl

theorem Part.ret_get (p : Part) (c : Nat) (a0 : Int) (a1 : Nat) (f : Fld) : (p.ret c a0 a1).get f = p.get f := by
  unfold Part.ret
  split <;> rfl

/-! STEER (R237). -/

section
variable {p : Part} {c pipe : Nat} (addr count : Nat) (hrec : p.img.pipeRec pipe ≠ none)
include hrec

theorem Part.callSteer_foreign (h : p.img.pipePlot pipe ≠ p.caller c) : p.callSteer c pipe addr count = p.ret c (-2) 0 := by
  simp [Part.callSteer, hrec, h]

theorem Part.callSteer_rejected (hplot : p.img.pipePlot pipe = p.caller c) (hfree : p.get (F.PRN_PIPE_COMMIT_STAT_COPYING pipe) = 0)
    (hin : addr + 16 * count ≤ p.img.window (p.caller c)) (hbad : p.commitBad pipe addr count = true) :
    p.callSteer c pipe addr count = (p.set (F.PRN_PIPE_COMMIT_STAT_REJECT pipe)).ret c (-1) 0 := by
  simp [Part.callSteer, hrec, hplot, Part.on, hfree, Part.inWindow, hin, hbad]

theorem Part.callSteer_accepted {a : Act} (hcore : p.core c = some a) (hplot : p.img.pipePlot pipe = p.caller c)
    (hfree : p.get (F.PRN_PIPE_COMMIT_STAT_COPYING pipe) = 0) (hin : addr + 16 * count ≤ p.img.window (p.caller c))
    (hok : p.commitBad pipe addr count = false) :
    p.callSteer c pipe addr count = (p.prnCopy pipe (.list addr count)).modPrnPipe pipe (fun u => { u with callers := [a.runner] }) := by
  simp [Part.callSteer, hrec, hplot, Part.on, hfree, Part.inWindow, hin, hok, hcore]

end

/-! The models' tables. -/

theorem Part.model_modModel_self (p : Part) (m : Nat) (f : ModelSt → ModelSt) : (p.modModel m f).model m = f (p.model m) :=
  FMap.get_put_self ModelSt.init p.models.models m _

theorem Part.model_modModel_other (p : Part) {m n : Nat} (f : ModelSt → ModelSt) (h : n ≠ m) : (p.modModel m f).model n = p.model n :=
  FMap.get_put_other ModelSt.init p.models.models _ h

theorem Part.model_setModel_self (p : Part) (m : Nat) (u : ModelSt) : (p.setModel m u).model m = u :=
  FMap.get_put_self ModelSt.init p.models.models m u

theorem Part.model_setModel_other (p : Part) {m n : Nat} (u : ModelSt) (h : n ≠ m) : (p.setModel m u).model n = p.model n :=
  FMap.get_put_other ModelSt.init p.models.models u h

theorem Part.loadq_modLoadq_self (p : Part) (k : Nat) (f : LoadQ → LoadQ) : (p.modLoadq k f).loadq k = f (p.loadq k) :=
  FMap.get_put_self LoadQ.init p.models.loads k _

/-! The model calls. -/

/-- With a load in progress no other starts (R363). -/
theorem Part.nextLoad_busy {p : Part} {k : Nat} (t : Nat) (h : (p.loadq k).cur ≠ none) : p.nextLoad t k = p := by
  obtain ⟨x, hx⟩ := Option.ne_none_iff_exists'.1 h
  simp [Part.nextLoad, hx]

theorem Part.callLoad_state {p : Part} {m : Nat} (t k : Nat) (h0 : (p.model m).state ≠ 0) (h7 : (p.model m).state ≠ 7) :
    p.callLoad t k m = (-5, p) := by
  simp [Part.callLoad, h0, h7]

section
variable {p : Part} {k m : Nat} (t : Nat) (hst : (p.model m).state = 0 ∨ (p.model m).state = 7)
include hst

theorem Part.callLoad_full (h : 8 ≤ (p.loadq k).queue.length) : p.callLoad t k m = (-4, p) := by
  have hloads : ¬ ((p.model m).state ≠ 0 ∧ (p.model m).state ≠ 7) := by omega
  rw [Part.callLoad, if_neg hloads, if_pos h]

theorem Part.callLoad_queued (h : (p.loadq k).queue.length < 8) (hbusy : (p.loadq k).cur ≠ none) :
    p.callLoad t k m = (0, p.modLoadq k (fun u => { u with queue := u.queue ++ [(false, m)] })) := by
  have hloads : ¬ ((p.model m).state ≠ 0 ∧ (p.model m).state ≠ 7) := by omega
  have hstands : ((p.modLoadq k (fun u => { u with queue := u.queue ++ [(false, m)] })).loadq k).cur ≠ none := by
    rwa [Part.loadq_modLoadq_self]
  rw [Part.callLoad, if_neg hloads, if_neg (by omega), Part.queueLoad, Part.nextLoad_busy t hstands]

end

theorem Part.callUnload_done {p : Part} {m : Nat}
    (h : (p.model m).state = 2 ∨ ((p.model m).state = 6 ∧ p.img.modelResidency m = 1)) :
    p.callUnload m = (0, p.setModel m (ModelSt.init m)) := if_pos h

theorem Part.callUnload_refused {p : Part} {m : Nat}
    (h : ¬ ((p.model m).state = 2 ∨ ((p.model m).state = 6 ∧ p.img.modelResidency m = 1))) : p.callUnload m = (-5, p) := if_neg h

theorem Part.callGraft_refused {p : Part} {m : Nat} (t : Nat) (h : p.familyWave m = true ∨ p.familyLive m = m ∨
    p.img.graftOf m ≠ p.familyLive m ∨ (p.model m).state = 7) : p.callGraft t m = (-5, p) := if_pos h

/-- The graft of a STAGED model starts its wave at once: no layer has been swapped (R377 step 1). -/
theorem Part.callGraft_staged {p : Part} {m : Nat} (t : Nat) (hwave : p.familyWave m = false) (hlive : p.familyLive m ≠ m)
    (hgraft : p.img.graftOf m = p.familyLive m) (hst : (p.model m).state = 4) :
    p.callGraft t m = (0, (p.modModel m (fun u => { u with ordered := true })).modModel m (fun u => { u with
      state := 5, swapped := 0, ordered := false })) := by
  have hordered : ((p.modModel m (fun u => { u with ordered := true })).model m).state = 4 ∧
      ((p.modModel m (fun u => { u with ordered := true })).model m).ordered = true := by
    rw [Part.model_modModel_self]
    exact ⟨hst, rfl⟩
  simp [Part.callGraft, hwave, hlive, hgraft, hst, Part.startWave, hordered]

/-- A call about a model of the caller's own plot returns its answer, where its effect is on the models alone. -/
theorem completes_modelCall {i : Instr} {c m : Nat} {a : Act} {s : State} {f : Int × Part} {Q : State → Prop} (hs : Ready s)
    (hc : Calls s c a) (hrec : s.part.img.modelRec m ≠ none) (hplot : s.part.img.modelPlot m = a.cmd.plot)
    (he : exec i s = .next (s.settle (s.part.modelCall c m f))) (hf : f.2 = { s.part with models := f.2.models })
    (hQ : ∀ t : State, t.part.models = f.2.models → Answered a f.1 0 [] s t → Q t) : Completes i s Q := by
  obtain ⟨hcore, -, -⟩ := hc
  have hcall : s.part.modelCall c m f = f.2.ret c f.1 0 := by simp [Part.modelCall, hrec, hplot, Part.caller_of_core hcore]
  rw [hcall] at he
  have hkept : f.2.core c = some a := by rw [hf]; exact hcore
  refine completes_of_still he ?_ (hQ _ ?_ (answered_ret _ _ hkept ?_ ?_ ?_ ?_))
  · rw [Part.ret_sdl, hf]; exact hs.2
  · rw [Part.ret_of_core hkept]; rfl
  · rw [hf]; exact .refl _ _
  all_goals rw [hf]

/-- Settles O54, call by call: the list that STEER starts to copy or rejects, and the models and loads that a call about a model leaves. -/
theorem steerAndModelCalls : Obligations.SteerAndModelCalls := by
  intro c a s hs hc
  have hcore : s.part.core c = some a := hc.1
  have hcalls : s.part.calls c = true := hc.2.1
  have hcaller := Part.caller_of_core hcore
  have hcan : (decide (c < 8) && s.part.calls c) = true := by
    have hlt : c < 8 := by
      simp only [Part.calls, Bool.and_eq_true, decide_eq_true_eq] at hcalls
      exact hcalls.1
    simp [hlt, hcalls]
  extract_lets k
  refine ⟨fun pipe addr count _ hrec => ?steer, fun m hrec hplot => ?model⟩
  case steer =>
    have he := next_steer c pipe addr count s hs.1 hcan
    refine ⟨fun hforeign => ?foreign, fun hplot hfree hin => ⟨fun hok => ?accepted, fun hbad => ?rejected⟩⟩
    case foreign =>
      rw [Part.callSteer_foreign addr count hrec (hcaller ▸ hforeign)] at he
      exact completes_of_still he ((congrArg SdlUnit.step (Part.ret_sdl ..)).trans hs.2) (answered_ret _ _ hcore (.refl _ _) rfl rfl rfl)
    case accepted =>
      rw [Part.callSteer_accepted addr count hrec hcore (hcaller ▸ hplot) hfree (hcaller ▸ hin) hok] at he
      obtain ⟨hshown, hpipe, -, honly⟩ := Part.prnCopy_spec (.list addr count) hfree
      have hcopied := honly.modPrnPipe pipe (fun u => { u with callers := [a.runner] })
      have hstarted := Part.prnPipe_modPrnPipe_self (s.part.prnCopy pipe (.list addr count)) pipe
        (fun u => { u with callers := [a.runner] })
      rw [hpipe] at hstarted
      exact completes_of_still he (hcopied.still hs.2) ⟨hshown, congrArg PrnPipe.copying hstarted, congrArg PrnPipe.callers hstarted,
        (congrArg PrnPipe.active hstarted :), hcopied.regsOnly⟩
    case rejected =>
      rw [Part.callSteer_rejected addr count hrec (hcaller ▸ hplot) hfree (hcaller ▸ hin) hbad] at he
      exact completes_of_still he ((congrArg SdlUnit.step (Part.ret_sdl ..)).trans hs.2)
        ⟨(Part.ret_get ..).trans (Part.get_put_bit s.part _ 2 1 (by decide)),
          answered_ret _ _ hcore ((Part.RegsWithin.refl _ s.part).put _ _ List.mem_cons_self) rfl rfl rfl⟩
  case model =>
    intro st
    have hload := next_modelLoad c m s hs.1 hcan
    have hunload := next_modelUnload c m s hs.1 hcan
    have hgraft := next_modelGraft c m s hs.1 hcan
    rw [hcaller] at hload
    refine ⟨fun h0 h7 => ?loadState, fun hst hfull => ?loadFull, fun hst hroom hbusy => ?loadQueued, fun hst => ?unloaded,
      fun hst => ?unloadRefused, fun hbar => ?graftRefused, fun hwave hlive hof hst => ?grafted⟩
    case loadState =>
      rw [Part.callLoad_state _ _ h0 h7] at hload
      exact completes_modelCall hs hc hrec hplot hload rfl fun t _ hans => hans
    case loadFull =>
      rw [Part.callLoad_full _ hst hfull] at hload
      exact completes_modelCall hs hc hrec hplot hload rfl fun t _ hans => hans
    case loadQueued =>
      rw [Part.callLoad_queued _ hst hroom hbusy] at hload
      refine completes_modelCall hs hc hrec hplot hload rfl fun t hmodels hans => ⟨?_, fun n => ?_, hans⟩
      · rw [Part.loadq, hmodels]; exact Part.loadq_modLoadq_self ..
      · rw [Part.model, hmodels]; rfl
    case unloaded =>
      rw [Part.callUnload_done hst] at hunload
      refine completes_modelCall hs hc hrec hplot hunload rfl fun t hmodels hans => ⟨?_, fun n hn => ?_, hans⟩
      · rw [Part.model, hmodels]; exact congrArg ModelSt.state (Part.model_setModel_self ..)
      · rw [Part.model, hmodels]; exact Part.model_setModel_other _ _ hn
    case unloadRefused =>
      rw [Part.callUnload_refused hst] at hunload
      exact completes_modelCall hs hc hrec hplot hunload rfl fun t _ hans => hans
    case graftRefused =>
      rw [Part.callGraft_refused _ hbar] at hgraft
      exact completes_modelCall hs hc hrec hplot hgraft rfl fun t hmodels hans => ⟨fun n => by rw [Part.model, hmodels]; rfl, hans⟩
    case grafted =>
      rw [Part.callGraft_staged _ hwave hlive hof hst] at hgraft
      refine completes_modelCall hs hc hrec hplot hgraft rfl fun t hmodels hans => ⟨?_, ?_, fun n hn => ?_, hans⟩
      · rw [Part.model, hmodels]; exact congrArg ModelSt.state (Part.model_modModel_self ..)
      · rw [Part.model, hmodels]; exact congrArg ModelSt.swapped (Part.model_modModel_self ..)
      · rw [Part.model, hmodels]
        exact (Part.model_modModel_other _ _ hn).trans (Part.model_modModel_other _ _ hn)

end Sys2Proof.Machine
end

section
/-! SUPPORT. The state of the beds: what a bed and its threads hold after each update, and which changes keep to one bed, to its threads or to
one thread of it. -/

namespace Sys2Proof.Machine

open Sys2Proof.Claim

/-! Beds and their threads in the part. -/

@[simp] theorem Part.bed_modBed_self (p : Part) (b : Nat) (f : Bed → Bed) : (p.modBed b f).bed b = f (p.bed b) :=
  FMap.get_put_self Bed.init p.beds b _

theorem Part.bed_modBed_other (p : Part) {b c : Nat} (f : Bed → Bed) (h : c ≠ b) : (p.modBed b f).bed c = p.bed c :=
  FMap.get_put_other Bed.init p.beds _ h

/-- A change of a bed that keeps its threads keeps every thread. -/
theorem Part.thread_modBed (p : Part) (b th : Nat) {f : Bed → Bed} (h : (f (p.bed b)).threads = (p.bed b).threads) :
    (p.modBed b f).thread b th = p.thread b th := by
  rw [Part.thread, Part.bed_modBed_self, h, Part.thread]

@[simp] theorem Part.bed_setThread_self (p : Part) (b th : Nat) (u : Thread) :
    (p.setThread b th u).bed b = { p.bed b with threads := FMap.put Thread.init (p.bed b).threads th u } :=
  Part.bed_modBed_self p b _

@[simp] theorem Part.thread_setThread_self (p : Part) (b th : Nat) (u : Thread) : (p.setThread b th u).thread b th = u := by
  rw [Part.thread, Part.bed_setThread_self, FMap.get_put_self]

theorem Part.thread_setThread_other (p : Part) (b : Nat) {th i : Nat} (u : Thread) (h : i ≠ th) :
    (p.setThread b th u).thread b i = p.thread b i := by
  rw [Part.thread, Part.bed_setThread_self, FMap.get_put_other _ _ _ h, Part.thread]

/-- BED_STATUS follows the bed; nothing else changes. -/
theorem Part.bedStatus_rest (p : Part) (b : Nat) : p.bedStatus b = { p with regs := (p.bedStatus b).regs } := rfl

@[simp] theorem Part.bed_bedStatus (p : Part) (b c : Nat) : (p.bedStatus b).bed c = p.bed c := rfl

theorem Part.RegsWithin.bedStatus (p : Part) (b : Nat) : p.RegsWithin [R.BED_STATUS b] (p.bedStatus b) :=
  ((((Part.RegsWithin.refl _ p).put (F.BED_STATUS_BUSY b) _ List.mem_cons_self).put (F.BED_STATUS_PLOT b) _ List.mem_cons_self).put
    (F.BED_STATUS_THREADS b) _ List.mem_cons_self).put (F.BED_STATUS_ENGQ b) _ List.mem_cons_self

/-! Changes of one bed alone. -/

/-- `q` is `p` but for bed `b`, its BED_STATUS and memory. -/
def Part.BedOnly (b : Nat) (p q : Part) : Prop :=
  p.RegsWithin [R.BED_STATUS b] q ∧ (∀ c, c ≠ b → q.bed c = p.bed c) ∧ q = { p with regs := q.regs, beds := q.beds, mem := q.mem }

theorem Part.BedOnly.refl (b : Nat) (p : Part) : p.BedOnly b p := ⟨.refl _ p, fun _ _ => rfl, rfl⟩

theorem Part.BedOnly.trans {b : Nat} {p q r : Part} (h : p.BedOnly b q) (k : q.BedOnly b r) : p.BedOnly b r :=
  ⟨h.1.trans k.1, fun c hc => (k.2.1 c hc).trans (h.2.1 c hc),
    k.2.2.trans (congrArg (fun x : Part => { x with regs := r.regs, beds := r.beds, mem := r.mem }) h.2.2)⟩

theorem Part.BedOnly.modBed (p : Part) (b : Nat) (f : Bed → Bed) : p.BedOnly b (p.modBed b f) :=
  ⟨fun _ _ => rfl, fun _ hc => Part.bed_modBed_other p f hc, rfl⟩

theorem Part.BedOnly.storeAt (p : Part) (b : Nat) (ks : List Nat) (l : List Byte) : p.BedOnly b (p.storeAt ks l) :=
  ⟨fun _ _ => rfl, fun _ _ => rfl, rfl⟩

theorem Part.BedOnly.store (p : Part) (b a : Nat) (l : List Byte) : p.BedOnly b (p.store a l) :=
  ⟨fun _ _ => rfl, fun _ _ => rfl, rfl⟩

theorem Part.BedOnly.bedStatus (p : Part) (b : Nat) : p.BedOnly b (p.bedStatus b) :=
  ⟨.bedStatus p b, fun c _ => p.bed_bedStatus b c, p.bedStatus_rest b⟩

theorem Part.BedOnly.bed_other {b : Nat} {p q : Part} (h : p.BedOnly b q) : ∀ c, c ≠ b → q.bed c = p.bed c := h.2.1

theorem Part.BedOnly.sdl {b : Nat} {p q : Part} (h : p.BedOnly b q) : q.sdl = p.sdl := by rw [h.2.2]

/-- A register that is not the bed's BED_STATUS reads as before. -/
theorem Part.BedOnly.reg {b : Nat} {p q : Part} (h : p.BedOnly b q) : ∀ a, a ≠ R.BED_STATUS b → q.reg a = p.reg a :=
  fun a ha => h.1 a (by simpa using ha)

/-- With the other threads as they were, this is what the statements call the rest of the bed. -/
theorem Part.BedOnly.bedRest {b th : Nat} {s : State} {q : Part} (h : s.part.BedOnly b q)
    (hthreads : ∀ i, i ≠ th → q.thread b i = s.part.thread b i) : BedRest b th s { s with part := q } :=
  ⟨hthreads, h.bed_other, h.reg, congrArg (fun p => { s with part := p }) h.2.2⟩

/-- `q` is `p` but for the threads of bed `b` and its BED_STATUS. -/
def Part.ThreadsOnly (b : Nat) (p q : Part) : Prop :=
  p.BedOnly b q ∧ q.mem = p.mem ∧ q.bed b = { p.bed b with threads := (q.bed b).threads }

theorem Part.ThreadsOnly.refl (b : Nat) (p : Part) : p.ThreadsOnly b p := ⟨.refl b p, rfl, rfl⟩

theorem Part.ThreadsOnly.trans {b : Nat} {p q r : Part} (h : p.ThreadsOnly b q) (k : q.ThreadsOnly b r) : p.ThreadsOnly b r :=
  ⟨h.1.trans k.1, k.2.1.trans h.2.1, k.2.2.trans (congrArg (fun d : Bed => { d with threads := (r.bed b).threads }) h.2.2)⟩

theorem Part.ThreadsOnly.setThread (p : Part) (b th : Nat) (u : Thread) : p.ThreadsOnly b (p.setThread b th u) :=
  ⟨.modBed p b _, rfl, by rw [Part.bed_setThread_self]⟩

theorem Part.ThreadsOnly.bedStatus (p : Part) (b : Nat) : p.ThreadsOnly b (p.bedStatus b) := ⟨.bedStatus p b, rfl, rfl⟩

theorem Part.ThreadsOnly.bedOnly {b : Nat} {p q : Part} (h : p.ThreadsOnly b q) : p.BedOnly b q := h.1

theorem Part.ThreadsOnly.mem {b : Nat} {p q : Part} (h : p.ThreadsOnly b q) : q.mem = p.mem := h.2.1

/-- Whatever of the bed its threads do not decide is as it was. -/
theorem Part.ThreadsOnly.bed {α : Type} {b : Nat} {p q : Part} (h : p.ThreadsOnly b q) (f : Bed → α)
    (hf : ∀ d t, f { d with threads := t } = f d) : f (q.bed b) = f (p.bed b) := by
  rw [h.2.2, hf]

/-- One change of the threads after another. -/
theorem Part.ThreadsOnly.each {b : Nat} (p : Part) (l : List Nat) {f : Part → Nat → Part} (h : ∀ (q : Part) n, q.ThreadsOnly b (f q n)) :
    p.ThreadsOnly b (p.each l f) := by
  unfold Part.each
  induction l generalizing p with
  | nil => exact .refl b p
  | cons n r ih => exact (h p n).trans (ih (f p n))

/-- With the other threads as they were, only one thread differs. -/
theorem Part.ThreadsOnly.threadOnly {b th : Nat} {s : State} {q : Part} (h : s.part.ThreadsOnly b q)
    (hthreads : ∀ i, i ≠ th → q.thread b i = s.part.thread b i) : ThreadOnly b th s { s with part := q } :=
  ⟨h.bedOnly.bedRest hthreads, h.mem, h.2.2⟩

/-! One thread's next state. -/

/-- Thread `th` of bed `b` is now `u`, and BED_STATUS shows it. -/
def Part.showThread (p : Part) (b th : Nat) (u : Thread) : Part := (p.setThread b th u).bedStatus b

theorem Part.ThreadsOnly.showThread (p : Part) (b th : Nat) (u : Thread) : p.ThreadsOnly b (p.showThread b th u) :=
  (Part.ThreadsOnly.setThread p b th u).trans (.bedStatus _ b)

@[simp] theorem Part.thread_showThread_self (p : Part) (b th : Nat) (u : Thread) : (p.showThread b th u).thread b th = u :=
  Part.thread_setThread_self p b th u

theorem Part.thread_showThread_other (p : Part) (b : Nat) {th i : Nat} (u : Thread) (h : i ≠ th) :
    (p.showThread b th u).thread b i = p.thread b i :=
  Part.thread_setThread_other p b u h

/-- The bed but for its threads. -/
theorem Part.bed_showThread (p : Part) (b th : Nat) (u : Thread) :
    (p.showThread b th u).bed b = { p.bed b with threads := ((p.showThread b th u).bed b).threads } :=
  (Part.ThreadsOnly.showThread p b th u).2.2

@[simp] theorem Part.showThread_sdl (p : Part) (b th : Nat) (u : Thread) : (p.showThread b th u).sdl = p.sdl := rfl

/-- A thread's next state is all that differs. -/
theorem threadOnly_showThread (s : State) (b th : Nat) (u : Thread) :
    ThreadOnly b th s { s with part := s.part.showThread b th u } :=
  (Part.ThreadsOnly.showThread s.part b th u).threadOnly fun _ hi => Part.thread_showThread_other s.part b u hi

/-- A thread's next state after a change of its bed or of memory that left the other threads. -/
theorem bedRest_showThread {b th : Nat} {s : State} {q : Part} (u : Thread) (h : s.part.BedOnly b q)
    (hthreads : ∀ i, q.thread b i = s.part.thread b i) : BedRest b th s { s with part := q.showThread b th u } :=
  (h.trans (Part.ThreadsOnly.showThread q b th u).bedOnly).bedRest fun i hi => (Part.thread_showThread_other q b u hi).trans (hthreads i)

/-! Registers of a thread. -/

/-- A write of an x register changes the x registers alone. -/
theorem setX_rest (u : Thread) (r : Nat) (v : Word) : setX u r v = { u with x := (setX u r v).x } := by
  unfold setX
  split <;> rfl

/-- What the x registers read after one is written: x0 discards the write and reads 0. -/
theorem xReg_setX (u : Thread) (rd r : Nat) (v : Word) :
    xReg (setX u rd v) r = if r = 0 then 0 else if r = rd then v else xReg u r := by
  unfold xReg setX
  by_cases hr : r = 0
  · simp [hr]
  · by_cases hrd : rd = 0
    · have hne : r ≠ rd := by omega
      simp [hr, hrd]
    · simp [hr, hrd, FMap.get_put]

/-- Only its x registers decide what a thread's x registers read. -/
theorem xReg_congr {u w : Thread} (h : w.x = u.x) (r : Nat) : xReg w r = xReg u r := by
  rw [xReg, xReg, h]

/-- An instruction that writes rd and goes on with the next one. -/
theorem retired_setX (u : Thread) (rd : Nat) (v : Word) (len : Nat) :
    Retired rd v len u { setX { u with pc := u.pc + BitVec.ofNat 32 len } rd v with instret := u.instret + 1 } := by
  refine ⟨fun r _ => (xReg_congr rfl r).trans (xReg_setX { u with pc := u.pc + BitVec.ofNat 32 len } rd r v), ?_⟩
  rw [setX_rest]

end Sys2Proof.Machine
end

section
/-! SUPPORT. The reset register of a bed (R295) in the register table, and what plot 0 firmware's write of it does while the bed is power-gated
(R35, R298). -/

namespace Sys2Proof.Machine

open Sys2Proof.Claim

theorem regAt_bedCtrl {b : Nat} (h : b < 64) :
    regAt (R.BED_CTRL b) = some (⟨0, 64, 0x100, 1, 0, [⟨0, 0, .wo, 0⟩]⟩, b, 0) := by
  have hblk : R.BED_CTRL b / 0x100000 = 19 := by unfold R.BED_CTRL; omega
  have hoff : R.BED_CTRL b % 0x100000 = b * 0x100 := by unfold R.BED_CTRL; omega
  have hfind : RegRow.find ⟨0, 64, 0x100, 1, 0, [⟨0, 0, .wo, 0⟩]⟩ (b * 0x100) = some (b, 0) := by
    have hin : ¬ 64 ≤ b := by omega
    simp [RegRow.find, hin, h]
  rw [regAt, hblk, hoff]
  simp only [regsOf, regsBED]
  rw [findRow, hfind]

/-- Every register of a power-gated bed but BED_STATUS refuses its access, and so does the register that orders the bed's reset. -/
theorem Part.gatedReg_bedCtrl {p : Part} {b : Nat} (hb : b < 64) (h : p.on (F.BED_STATUS_GATED b) = true) :
    p.gatedReg (R.BED_CTRL b) = true := by
  have hblk : R.BED_CTRL b / 0x100000 = blkBED := by unfold R.BED_CTRL blkBED; omega
  have hbed : R.BED_CTRL b % 0x100000 / 0x100 = b := by unfold R.BED_CTRL; omega
  have hoff : R.BED_CTRL b % 0x100 = 0 := by unfold R.BED_CTRL; omega
  simp [Part.gatedReg, hblk, hbed, hoff, h]

/-- The order to reset a power-gated bed is logged as refused, and does nothing else. -/
theorem Part.writeOf_bedCtrl_gated {p : Part} (t : Nat) {w : Who} {b : Nat} (v : Word) (hk : w.kind ≠ .host) (hp : w.plot = 0)
    (hb : b < 64) (h : p.on (F.BED_STATUS_GATED b) = true) :
    p.writeOf t w (R.BED_CTRL b) v = p.accLog t w true 2 (w.addrOf (R.BED_CTRL b)) := by
  have hrow := regAt_bedCtrl hb
  have hcopy : copyOf (R.BED_CTRL b) = R.BED_CTRL b := if_neg (by unfold R.BED_CTRL; omega)
  rw [p.writeOf_firmware t v hk hp (by unfold R.BED_CTRL; omega) (by unfold R.BED_CTRL; omega)
    (by rw [implemented, hcopy, hrow]; rfl) hcopy]
  unfold Part.regStore
  rw [hrow]
  exact if_pos (Part.gatedReg_bedCtrl hb h)

/-- So RESETTING stays as it was. -/
theorem Part.writeOf_bedCtrl_gated_resetting {p : Part} (t : Nat) {w : Who} {b : Nat} (v : Word) (hk : w.kind ≠ .host)
    (hp : w.plot = 0) (hb : b < 64) (h : p.on (F.BED_STATUS_GATED b) = true) :
    (p.writeOf t w (R.BED_CTRL b) v).get (F.BED_STATUS_RESETTING b) = p.get (F.BED_STATUS_RESETTING b) := by
  have hblk : R.BED_STATUS b / 0x100000 = 19 := by unfold R.BED_STATUS; omega
  rw [Part.writeOf_bedCtrl_gated t v hk hp hb h, Part.get, Part.get]
  exact congrArg (·.bits 2 2) (Part.accLog_reg_outside p t w true 2 _ (by rw [hblk]; decide) (by rw [hblk]; decide))

/-- The plots run, and bed 0 is power-gated (R298): its BED_STATUS shows GATED and nothing else. -/
def gatedBed : State :=
  { State.reset with part := { Part.init with
      boot := { BootUnit.init with phase := .running }, regs := [(R.BED_STATUS 0, 2)] } }

theorem gatedBed_gated : gatedBed.part.on (F.BED_STATUS_GATED 0) = true := by decide
theorem gatedBed_resetting : gatedBed.part.get (F.BED_STATUS_RESETTING 0) = 0 := by decide
theorem gatedBed_ready : Ready gatedBed := ⟨rfl, rfl⟩
theorem gatedBed_firmware : Firmware gatedBed shed := ⟨by decide, rfl, by decide⟩

/-- Refutes O31: its clause about BED_CTRL.RESET asks nothing of the bed's power. While bed 0 is power-gated, the write of plot 0 firmware is
refused and logged (R35, R298), and RESETTING stays 0. -/
theorem not_bedCommands : ¬ Obligations.BedCommands := by
  intro h
  obtain ⟨⟨-, -, hreset, -⟩, -⟩ := h
  obtain ⟨t, hexec, hresetting, -⟩ := hreset shed 0 gatedBed gatedBed_ready gatedBed_firmware (by decide)
  have hrefused := next_bedCtrlReset shed 0 gatedBed gatedBed_ready.1 (by decide)
  obtain rfl := Host.Outcome.next.inj (hrefused.symm.trans hexec)
  rw [State.settle_get, Part.writeOf_bedCtrl_gated_resetting _ 1 gatedBed_firmware.1 rfl (by decide) gatedBed_gated,
    gatedBed_resetting] at hresetting
  exact absurd hresetting (by decide)

end Sys2Proof.Machine
end

section
/-! SUPPORT. How a bed thread issues an instruction (R263, R264): when it can, what its end leaves, and the fields of a Tilth word (R279). -/

namespace Sys2Proof.Machine

open Sys2Proof.Claim

/-! When a thread can issue, and when the data that it waits for can return. -/

theorem Part.threadReady_bounds {p : Part} {b th : Nat} (h : p.threadReady b th = true) : b < 64 ∧ th < 64 := by
  simp only [Part.threadReady, Bool.and_eq_true, decide_eq_true_eq] at h
  obtain ⟨⟨⟨⟨⟨-, hb⟩, hth⟩, -⟩, -⟩, -⟩ := h
  exact ⟨hb, hth⟩

theorem Part.threadReady_wait {p : Part} {b th : Nat} (h : p.threadReady b th = true) : (p.thread b th).wait = .ready := by
  simp only [Part.threadReady, Bool.and_eq_true, beq_iff_eq] at h
  exact h.2

/-- A ready thread's instruction is well-formed, and its occasion is given. -/
theorem Part.threadReady_guard {p : Part} {b th : Nat} (h : p.threadReady b th = true) :
    (decide (b < 64) && decide (th < 64) && p.threadReady b th) = true := by
  obtain ⟨hb, hth⟩ := Part.threadReady_bounds h
  simp [hb, hth, h]

/-- The same of a thread that waits for data. -/
theorem Part.awaitsData_guard {p : Part} {b th : Nat} (h : p.awaitsData b th = true) :
    (decide (b < 64) && decide (th < 64) && p.awaitsData b th) = true := by
  have hbounds : b < 64 ∧ th < 64 := by
    simp only [Part.awaitsData, Bool.and_eq_true, decide_eq_true_eq] at h
    obtain ⟨⟨⟨-, hb⟩, hth⟩, -⟩ := h
    exact ⟨hb, hth⟩
  simp [hbounds.1, hbounds.2, h]

/-! What an instruction's end leaves of its thread. -/

/-- Thread `u` once its instruction has left `v` of it: one more instruction is counted, unless the thread waits to issue it again. -/
def Thread.ended (u v : Thread) : Thread := if v.wait = .engine then v else { v with instret := u.instret + 1 }

theorem Thread.ended_counted {u v : Thread} (h : v.wait ≠ .engine) : u.ended v = { v with instret := u.instret + 1 } := if_neg h

/-- A thread that was ready is counted when its instruction leaves it ready. -/
theorem Thread.ended_ready {u v : Thread} (h : v.wait = .ready) : u.ended v = { v with instret := u.instret + 1 } :=
  Thread.ended_counted (by rw [h]; decide)

theorem Part.thEnd_done (p q : Part) (x : Th) (u v : Thread) (word : Nat) :
    p.thEnd x u word (.done q v) = q.showThread x.b x.th (u.ended v) := rfl

/-- An instruction that ends: the command completes in what the instruction left, with its thread as it ended. -/
theorem completes_of_done {c : Instr} {s : State} {b th word : Nat} {q : Part} {v : Thread} {Q : State → Prop} (hs : Ready s)
    (he : exec c s = .next (s.settle (s.part.issue s.ns b th word)))
    (hrun : s.part.thRun (s.part.thOf s.ns b th false) (s.part.thread b th) word = .done q v) (hsdl : q.sdl = s.part.sdl)
    (hq : Q { s with part := q.showThread b th ((s.part.thread b th).ended v) }) : Completes c s Q := by
  have hissue : s.part.issue s.ns b th word = q.showThread b th ((s.part.thread b th).ended v) := by
    rw [Part.issue, hrun, Part.thEnd_done]
    rfl
  refine completes_of_still he ?_ (hissue ▸ hq)
  rw [hissue, Part.showThread_sdl, hsdl, hs.2]

/-- An instruction that writes rd and goes on with the next one. -/
theorem retired_ended {u : Thread} (rd : Nat) (v : Word) (len : Nat) (h : u.wait = .ready) :
    Retired rd v len u (u.ended (setX { u with pc := u.pc + BitVec.ofNat 32 len } rd v)) := by
  have hwait : (setX { u with pc := u.pc + BitVec.ofNat 32 len } rd v).wait = .ready := by rw [setX_rest]; exact h
  rw [Thread.ended_ready hwait]
  exact retired_setX u rd v len

/-! The fields of a Tilth word. -/

section

variable {f7 rs2 rs1 f3 rd : Nat}

theorem tilthWord_op (f7 rs2 rs1 f3 rd : Nat) : tilthWord f7 rs2 rs1 f3 rd % 128 = 0x0B := by
  unfold tilthWord mkR; omega

@[simp] theorem iRd_tilthWord (h : rd < 32) : iRd (tilthWord f7 rs2 rs1 f3 rd) = rd := by
  unfold iRd ib tilthWord mkR; omega

@[simp] theorem iF3_tilthWord (h3 : f3 < 8) (hd : rd < 32) : iF3 (tilthWord f7 rs2 rs1 f3 rd) = f3 := by
  unfold iF3 ib tilthWord mkR; omega

@[simp] theorem iRs1_tilthWord (h1 : rs1 < 32) (h3 : f3 < 8) (hd : rd < 32) : iRs1 (tilthWord f7 rs2 rs1 f3 rd) = rs1 := by
  unfold iRs1 ib tilthWord mkR; omega

@[simp] theorem iRs2_tilthWord (h2 : rs2 < 32) (h1 : rs1 < 32) (h3 : f3 < 8) (hd : rd < 32) :
    iRs2 (tilthWord f7 rs2 rs1 f3 rd) = rs2 := by
  unfold iRs2 ib tilthWord mkR; omega

@[simp] theorem iF7_tilthWord (h7 : f7 < 128) (h2 : rs2 < 32) (h1 : rs1 < 32) (h3 : f3 < 8) (hd : rd < 32) :
    iF7 (tilthWord f7 rs2 rs1 f3 rd) = f7 := by
  unfold iF7 ib tilthWord mkR; omega

end

/-- A thread runs a Tilth word as the Tilth instruction that it encodes. -/
@[simp] theorem Part.thRun_tilth (p : Part) (x : Th) (u : Thread) (f7 rs2 rs1 f3 rd : Nat) :
    p.thRun x u (tilthWord f7 rs2 rs1 f3 rd) = p.tilth x u (tilthWord f7 rs2 rs1 f3 rd) := by
  have hop := tilthWord_op f7 rs2 rs1 f3 rd
  unfold Part.thRun
  rw [if_neg (by omega)]
  simp only [hop]

end Sys2Proof.Machine
end

section
/-! SUPPORT. The Tilth instructions (R280), each by its word: what it makes of its thread, and what it leaves beside it. -/

namespace Sys2Proof.Machine

open Sys2Proof.Claim

/-- Reading bolt counter `x`: from 16 on the read clears the counter of index `x` - 16. -/
def Part.boltRead (p : Part) (b x : Nat) : Part :=
  if x < 16 then p else p.modBed b (fun d => { d with bolts := FMap.put (fun _ => 0) d.bolts (x % 16) 0 })

section

variable (p : Part) (k : Th) (u : Thread) (rd rs1 rs2 : Fin 32)

/-! What each word is. -/

theorem Part.thRun_tzero {a : Fin 32} (h : a.val < 4) :
    p.thRun k u (tilthWord 1 0 0 0 a) = p.enqueue k u { u with pc := u.pc + 4 } a .zero := by
  simp [Part.tilth, h]

theorem Part.thRun_tmma {a : Fin 32} (h : a.val < 4) :
    p.thRun k u (tilthWord 2 rs2 rs1 0 a) =
      p.enqueue k u { u with pc := u.pc + 4 } a (.mma (xReg u rs1).toNat (xReg u rs2).toNat) := by
  simp [Part.tilth, h]

theorem Part.thRun_tldacc {a : Fin 32} (h : a.val < 4) :
    p.thRun k u (tilthWord 3 0 rs1 0 a) = p.enqueue k u { u with pc := u.pc + 4 } a (.ldacc (xReg u rs1).toNat) := by
  simp [Part.tilth, h]

theorem Part.thRun_tstacc {a : Fin 32} (h : a.val < 4) :
    p.thRun k u (tilthWord 4 0 rs1 0 a) = p.enqueue k u { u with pc := u.pc + 4 } a (.stacc (xReg u rs1).toNat) := by
  simp [Part.tilth, h]

theorem Part.thRun_trq {a : Fin 32} (h : a.val < 4) :
    p.thRun k u (tilthWord 5 rs2 rs1 0 a) =
      p.enqueue k u { u with pc := u.pc + 4 } a (.rq (xReg u rs1).toNat (xReg u rs2).toNat) := by
  simp [Part.tilth, h]

theorem Part.thRun_tcfg :
    p.thRun k u (tilthWord 0 0 rs1 0 rd) = .done p { setX { u with pc := u.pc + 4 } rd u.tcfg with tcfg := xReg u rs1 } := by
  simp [Part.tilth]

theorem Part.thRun_twait (n : Fin 32) :
    p.thRun k u (tilthWord 0 n 0 1 rd) = .done p (Sys2Proof.Machine.wake (p.bed k.b) k.th { u with pc := u.pc + 4, wait := .twait rd n }) := by
  simp [Part.tilth]

theorem Part.thRun_tfence {m : Fin 32} (h : m.val < 8) :
    p.thRun k u (tilthWord 1 m 0 1 0) = .done p (Sys2Proof.Machine.wake (p.bed k.b) k.th { u with pc := u.pc + 4, wait := .tfence m }) := by
  simp [Part.tilth, h]

theorem Part.thRun_tbar : p.thRun k u (tilthWord 2 0 rs1 1 0) = p.tbar k { u with pc := u.pc + 4 } (xReg u rs1).toNat := by
  simp [Part.tilth]

theorem Part.thRun_texit : p.thRun k u (tilthWord 3 0 0 1 0) = .done p { u with pc := u.pc + 4, wait := .exited } := by
  simp [Part.tilth]

theorem Part.thRun_tbolt {rs1 : Fin 32} (h : (xReg u rs1).toNat < 32) :
    p.thRun k u (tilthWord 0 0 rs1 2 rd) =
      .done (p.boltRead k.b (xReg u rs1).toNat)
        (setX { u with pc := u.pc + 4 } rd (FMap.get (fun _ => 0) (p.bed k.b).bolts ((xReg u rs1).toNat % 16))) := by
  simp [Part.tilth, Part.boltRead, Nat.not_le.2 h]

theorem Part.thRun_tput :
    p.thRun k u (tilthWord 1 0 rs1 2 rd) = p.tput k { u with pc := u.pc + 4 } (tilthWord 1 0 rs1 2 rd) := by
  simp [Part.tilth]

theorem Part.thRun_tvld :
    p.thRun k u (tilthWord 2 0 rs1 2 rd) = p.tvld k { u with pc := u.pc + 4 } (tilthWord 2 0 rs1 2 rd) := by
  simp [Part.tilth]

theorem Part.thRun_tvst :
    p.thRun k u (tilthWord 3 0 rs1 2 rd) = p.tvst k { u with pc := u.pc + 4 } (tilthWord 3 0 rs1 2 rd) := by
  simp [Part.tilth]

end

end Sys2Proof.Machine
end

section
/-! SUPPORT. The engine's queue and the mesh copies (R271, R280, R283): how an operation enters the queue, and what its end and a copy's end
leave. -/

namespace Sys2Proof.Machine

open Sys2Proof.Claim

/-! Entering the queue. -/

/-- With 16 operations queued the thread waits for a place. -/
theorem Part.enqueue_full {p : Part} {k : Th} (u v : Thread) (acc : Nat) (kind : EngKind) (h : 16 ≤ (p.bed k.b).queue.length) :
    p.enqueue k u v acc kind = .done p { u with wait := .engine } := if_pos h

/-- With a place free the operation is the queue's last. -/
theorem Part.enqueue_room {p : Part} {k : Th} (u v : Thread) (acc : Nat) (kind : EngKind) (h : (p.bed k.b).queue.length < 16) :
    p.enqueue k u v acc kind = .done (p.modBed k.b (fun d => { d with
      queue := d.queue ++ [{ thread := k.th, pc := u.pc, tcfg := u.tcfg, acc := acc, kind := kind }] })) v := if_neg (Nat.not_le.2 h)

/-- An engine instruction of thread `th` of bed `b`: its command issues a word that puts this operation into the queue. -/
def Enqueues (b th : Nat) (s : State) (c : Instr) (acc : Nat) (kind : EngKind) : Prop :=
  ∃ word, exec c s = .next (s.settle (s.part.issue s.ns b th word)) ∧
    s.part.thRun (s.part.thOf s.ns b th false) (s.part.thread b th) word = s.part.enqueue (s.part.thOf s.ns b th false)
      (s.part.thread b th) { s.part.thread b th with pc := (s.part.thread b th).pc + 4 } acc kind

theorem Enqueues.room {b th acc : Nat} {kind : EngKind} {s : State} {c : Instr} (h : Enqueues b th s c acc kind) (hs : Ready s)
    (hready : s.part.threadReady b th = true) (hroom : (s.part.bed b).queue.length < 16) :
    let u := s.part.thread b th
    Completes c s (fun t => BedRest b th s t ∧ t.part.mem = s.part.mem ∧ RetiredAs id u (t.part.thread b th) ∧
      (t.part.bed b).queue = (s.part.bed b).queue ++ [{ thread := th, pc := u.pc, tcfg := u.tcfg, acc := acc, kind := kind }] ∧
      t.part.bed b = { s.part.bed b with threads := (t.part.bed b).threads, queue := (t.part.bed b).queue }) := by
  obtain ⟨word, he, hrun⟩ := h
  intro u
  refine completes_of_done hs he (hrun.trans (Part.enqueue_room _ _ acc kind hroom)) rfl
    ⟨bedRest_showThread _ (.modBed _ b _) fun i => Part.thread_modBed _ b i rfl, rfl, ?_, ?_, ?_⟩
  · rw [Part.thread_showThread_self, Thread.ended_ready (v := { u with pc := u.pc + 4 }) (Part.threadReady_wait hready)]
    rfl
  · rw [Part.bed_showThread]
    exact congrArg Bed.queue (Part.bed_modBed_self _ b _)
  · rw [Part.bed_showThread]
    simp only [Part.thOf, Part.bed_modBed_self]

theorem Enqueues.full {b th acc : Nat} {kind : EngKind} {s : State} {c : Instr} (h : Enqueues b th s c acc kind) (hs : Ready s)
    (hfull : 16 ≤ (s.part.bed b).queue.length) :
    Completes c s (fun t => ThreadOnly b th s t ∧ t.part.thread b th = { s.part.thread b th with wait := .engine }) := by
  obtain ⟨word, he, hrun⟩ := h
  exact completes_of_done hs he (hrun.trans (Part.enqueue_full _ _ acc kind hfull)) rfl
    ⟨threadOnly_showThread s b th _, Part.thread_showThread_self _ b th _⟩

/-- The five engine instructions, on an accumulator that there is. -/
theorem enqueues_of_mem {b th : Nat} {a rs1 rs2 : Fin 32} {s : State} (hs : Ready s) (hready : s.part.threadReady b th = true)
    (ha : a.val < 4) {c : Instr} {kind : EngKind} (h :
      let x := (xReg (s.part.thread b th) rs1).toNat
      let y := (xReg (s.part.thread b th) rs2).toNat
      (c, kind) ∈ [(.tzero b th a, .zero), (.tmma b th a rs1 rs2, .mma x y), (.tldacc b th a rs1, .ldacc x),
        (.tstacc b th a rs1, .stacc x), (.trq b th a rs1 rs2, .rq x y)]) : Enqueues b th s c a kind := by
  have hguard := Part.threadReady_guard hready
  simp only [List.mem_cons, Prod.mk.injEq, List.not_mem_nil, or_false] at h
  rcases h with ⟨rfl, rfl⟩ | ⟨rfl, rfl⟩ | ⟨rfl, rfl⟩ | ⟨rfl, rfl⟩ | ⟨rfl, rfl⟩
  · exact ⟨_, next_tzero b th a s hs.1 hguard, Part.thRun_tzero _ _ _ ha⟩
  · exact ⟨_, next_tmma b th a rs1 rs2 s hs.1 hguard, Part.thRun_tmma _ _ _ rs1 rs2 ha⟩
  · exact ⟨_, next_tldacc b th a rs1 s hs.1 hguard, Part.thRun_tldacc _ _ _ rs1 ha⟩
  · exact ⟨_, next_tstacc b th a rs1 s hs.1 hguard, Part.thRun_tstacc _ _ _ rs1 ha⟩
  · exact ⟨_, next_trq b th a rs1 rs2 s hs.1 hguard, Part.thRun_trq _ _ _ rs1 rs2 ha⟩

/-! The waits of a bed's threads. -/

/-- Waking a bed's threads changes them alone. -/
theorem Part.ThreadsOnly.wakeAll (p : Part) (b : Nat) : p.ThreadsOnly b (p.wakeAll b) := by
  refine Part.ThreadsOnly.trans (.each p (List.range 64) fun q t => ?_) (.bedStatus _ b)
  dsimp only
  split
  · exact .refl b q
  · exact .setThread q b t _

/-! TZERO (R280). -/

/-- The place of an accumulator's element, by its number in the accumulator. -/
theorem accAt_div_mod (a j : Nat) : accAt a (j / 64) (j % 64) = a * 2048 + j := by
  unfold accAt; omega

/-- A bed with accumulator `a` cleared. -/
def Bed.cleared (d : Bed) (a : Nat) : Bed := (List.range 2048).foldl (fun d j => d.accPut a (j / 64) (j % 64) 0) d

theorem Bed.foldl_accPut_zero (a : Nat) (l : List Nat) (d : Bed) :
    let e := l.foldl (fun d j => d.accPut a (j / 64) (j % 64) 0) d
    e = { d with acc := e.acc } ∧
    ∀ k, FMap.get (fun _ => (0 : Word)) e.acc k = if ∃ j ∈ l, k = a * 2048 + j then 0 else FMap.get (fun _ => 0) d.acc k := by
  induction l generalizing d with
  | nil => exact ⟨rfl, fun k => by simp⟩
  | cons j r ih =>
    obtain ⟨hrest, hget⟩ := ih (d.accPut a (j / 64) (j % 64) 0)
    refine ⟨hrest, fun k => (hget k).trans ?_⟩
    simp only [Bed.accPut, accAt_div_mod, FMap.get_put, List.mem_cons, exists_eq_or_imp]
    by_cases hk : k = a * 2048 + j <;> simp [hk]

/-- Every element of the accumulator is 0, and the other accumulators are as they were. -/
theorem Bed.accGet_cleared (d : Bed) {a c m n : Nat} (hm : m < 32) (hn : n < 64) :
    (d.cleared c).accGet a m n = if a = c then 0 else d.accGet a m n := by
  have hplace : (∃ j ∈ List.range 2048, accAt a m n = c * 2048 + j) ↔ a = c := by
    simp only [List.mem_range, accAt]
    exact ⟨fun ⟨j, hj, he⟩ => by omega, fun h => ⟨64 * m + n, by omega, by omega⟩⟩
  have hget := (Bed.foldl_accPut_zero c (List.range 2048) d).2 (accAt a m n)
  simp only [hplace] at hget
  unfold Bed.accGet Bed.cleared
  rw [hget]
  split <;> rfl

theorem Part.runEngine_zero {p : Part} (k b : Nat) {o : EngOp} (hkind : o.kind = .zero) (htcfg : tcReserved o.tcfg = false) :
    p.runEngine k b o = (p.modBed b (fun d => d.cleared o.acc), none) := by
  simp only [Part.runEngine, htcfg, hkind, Bed.cleared, Bool.false_eq_true, if_false]

/-- The end of TZERO: the accumulator is cleared, the queue goes on, and threads that wait for it wake. -/
theorem Part.engineDone_zero {p : Part} (t : Nat) {b : Nat} {o : EngOp} {r : List EngOp} (hqueue : (p.bed b).queue = o :: r)
    (hcmd : (p.bed b).cmd ≠ none) (hkind : o.kind = .zero) (htcfg : tcReserved o.tcfg = false) :
    p.engineDone t b = ((p.modBed b (fun d => d.cleared o.acc)).modBed b (fun d => { d with queue := r })).wakeAll b := by
  obtain ⟨c, hc⟩ := Option.ne_none_iff_exists'.1 hcmd
  simp only [Part.engineDone, hqueue, Part.bedCmd, hc, Option.map_some, Part.runEngine_zero _ _ hkind htcfg]

theorem Part.engineDone_zero_spec {p : Part} (t : Nat) {b : Nat} {o : EngOp} {r : List EngOp} (hqueue : (p.bed b).queue = o :: r)
    (hcmd : (p.bed b).cmd ≠ none) (hkind : o.kind = .zero) (htcfg : tcReserved o.tcfg = false) :
    p.BedOnly b (p.engineDone t b) ∧ (p.engineDone t b).mem = p.mem ∧ ((p.engineDone t b).bed b).queue = r ∧
    ((p.engineDone t b).bed b).acc = ((p.bed b).cleared o.acc).acc := by
  rw [Part.engineDone_zero t hqueue hcmd hkind htcfg]
  have hwake := Part.ThreadsOnly.wakeAll ((p.modBed b (fun d => d.cleared o.acc)).modBed b (fun d => { d with queue := r })) b
  have hbed : ((p.modBed b (fun d => d.cleared o.acc)).modBed b (fun d => { d with queue := r })).bed b =
      { (p.bed b).cleared o.acc with queue := r } := by
    rw [Part.bed_modBed_self, Part.bed_modBed_self]
  refine ⟨((Part.BedOnly.modBed p b _).trans (.modBed _ b _)).trans hwake.bedOnly, ?_, ?_, ?_⟩
  · rw [hwake.mem, Part.modBed_mem, Part.modBed_mem]
  · rw [hwake.bed Bed.queue fun _ _ => rfl, hbed]
  · rw [hwake.bed Bed.acc fun _ _ => rfl, hbed]

/-! Mesh copies (R283). -/

theorem Part.load_length (p : Part) (a n : Nat) : (p.load a n).length = n := by simp [Part.load]

/-- The end of a mesh copy: it leaves the list of copies, and its bytes stand at the destination. -/
theorem Part.tputDone_spec {p : Part} {b j : Nat} {c : Tput} (h : (p.bed b).tputs[j]? = some c) :
    p.BedOnly b (p.tputDone b j) ∧ ((p.tputDone b j).bed b).tputs = (p.bed b).tputs.eraseIdx j ∧
    (∀ i, i < c.len → (p.tputDone b j).byte (c.dst + i) = p.byte (c.src + i)) ∧
    ∀ a, a < c.dst ∨ c.dst + c.len ≤ a → (p.tputDone b j).byte a = p.byte a := by
  have hdone : p.tputDone b j =
      ((p.modBed b (fun d => { d with tputs := d.tputs.eraseIdx j })).store c.dst (p.load c.src c.len)).wakeAll b := by
    simp only [Part.tputDone, h]
    rfl
  have hwake := Part.ThreadsOnly.wakeAll
    ((p.modBed b (fun d => { d with tputs := d.tputs.eraseIdx j })).store c.dst (p.load c.src c.len)) b
  have hbyte : ∀ a, (p.tputDone b j).byte a = (p.store c.dst (p.load c.src c.len)).byte a := fun a => by
    rw [hdone]
    exact congrArg (FMap.get memDefault · a) hwake.mem
  refine ⟨?_, ?_, fun i hi => ?_, fun a ha => ?_⟩
  · rw [hdone]
    exact ((Part.BedOnly.modBed p b _).trans (.store _ b _ _)).trans hwake.bedOnly
  · rw [hdone, hwake.bed Bed.tputs fun _ _ => rfl]
    exact congrArg Bed.tputs (Part.bed_modBed_self p b (fun d => { d with tputs := d.tputs.eraseIdx j }))
  · have hlen : i < (p.load c.src c.len).length := by rwa [Part.load_length]
    rw [hbyte, Part.byte_store p c.dst _ i hlen]
    simp [Part.load]
  · rw [hbyte]
    exact Part.byte_store_other p c.dst _ a (by rwa [Part.load_length])

/-- Settles O34, operation by operation: what a free and a full queue make of an engine instruction, and what the end of an operation and of a
copy leave. -/
theorem engineOperations : Obligations.EngineOperations := by
  refine ⟨?issue, ?done, ?zero, ?copy⟩
  case issue =>
    intro b th a rs1 rs2 s hs hready ha u x y c kind hmem
    have henqueues := enqueues_of_mem hs hready ha hmem
    exact ⟨henqueues.room hs hready, henqueues.full hs⟩
  case done =>
    intro b s hs hb hlive hqueue
    exact next_engineOpDone b s hs.1 (by simp [Instr.wf, hb, hlive, hqueue])
  case zero =>
    intro b o r s hs hb hlive hqueue hcmd hkind htcfg _
    obtain ⟨honly, hmem, hrest, hacc⟩ := Part.engineDone_zero_spec s.ns hqueue hcmd hkind htcfg
    refine completes_of_still (next_engineOpDone b s hs.1 (by simp [Instr.wf, hb, hlive, hqueue]))
      ((congrArg SdlUnit.step honly.sdl).trans hs.2) ⟨hrest, fun a m n _ hm hn => ?_, honly.bed_other, hmem, honly.reg⟩
    rw [← Bed.accGet_cleared _ hm hn, Bed.accGet, hacc, Bed.accGet]
  case copy =>
    intro b j c s hs hb hlive hcopy
    obtain ⟨honly, hcopies, hbytes, hothers⟩ := Part.tputDone_spec hcopy
    obtain ⟨hj, -⟩ := List.getElem?_eq_some_iff.1 hcopy
    exact completes_of_still (next_tputComplete b j s hs.1 (by simp [Instr.wf, hb, hlive, hj]))
      ((congrArg SdlUnit.step honly.sdl).trans hs.2) ⟨hcopies, hbytes, hothers, honly.bed_other, honly.reg⟩

end Sys2Proof.Machine
end

section
/-! SUPPORT. The Tilth instructions that a thread carries out itself (R280, R283, R287, R289): TCFG, TWAIT, TFENCE, TEXIT, TBOLT, TBAR and
TPUT. -/

namespace Sys2Proof.Machine

open Sys2Proof.Claim

/-! What the waits come to. -/

/-- TWAIT with no more than `n` operations queued: the thread goes on, with their number in rd. -/
theorem wake_twait_over {d : Bed} {t rd n : Nat} {u : Thread} (hu : u.wait = .ready) (h : d.engineOps t ≤ n) :
    wake d t { u with wait := .twait rd n } = setX u rd (BitVec.ofNat 32 (d.engineOps t)) := by
  simp only [wake, h, if_true]
  unfold setX
  split <;> simp [← hu]

theorem wake_twait_waits {d : Bed} {t rd n : Nat} (u : Thread) (h : n < d.engineOps t) :
    wake d t { u with wait := .twait rd n } = { u with wait := .twait rd n } := by
  simp only [wake, Nat.not_le.2 h, if_false]

/-- TFENCE with nothing outstanding of what it selects: the thread goes on. -/
theorem wake_tfence_over {d : Bed} {t m : Nat} {u : Thread} (hu : u.wait = .ready) (hops : m % 2 = 1 → d.engineOps t = 0)
    (hcopies : m / 2 % 2 = 1 → d.copies t = 0) : wake d t { u with wait := .tfence m } = u := by
  have hnone : ¬ ((m % 2 = 1 ∧ d.engineOps t ≠ 0) ∨ (m / 2 % 2 = 1 ∧ d.copies t ≠ 0)) := by
    rintro (⟨hm, hne⟩ | ⟨hm, hne⟩)
    · exact hne (hops hm)
    · exact hne (hcopies hm)
  simp only [wake, hnone, if_false, ← hu]

/-! Bolt counters (R280). -/

/-- The read leaves the counter that it names at 0 where it clears it, and every other counter as it was. -/
theorem Part.bolts_boltRead (p : Part) (b x c : Nat) :
    FMap.get (fun _ => 0) ((p.boltRead b x).bed b).bolts c =
      if 16 ≤ x ∧ c = x % 16 then 0 else FMap.get (fun _ => 0) (p.bed b).bolts c := by
  unfold Part.boltRead
  by_cases hx : x < 16
  · simp [hx, Nat.not_le.2 hx]
  · simp [hx, Nat.le_of_not_lt hx, FMap.get_put]

/-- Beside its bolt counters the bed is as it was, and nothing else changes. -/
theorem Part.boltRead_rest (p : Part) (b x : Nat) :
    p.BedOnly b (p.boltRead b x) ∧ (p.boltRead b x).mem = p.mem ∧
    (p.boltRead b x).bed b = { p.bed b with bolts := ((p.boltRead b x).bed b).bolts } := by
  unfold Part.boltRead
  split
  · exact ⟨.refl b p, rfl, rfl⟩
  · exact ⟨.modBed p b _, rfl, by rw [Part.bed_modBed_self]⟩

/-! Barriers (R289). -/

/-- Barrier `i` of bed `b` is now `r`. -/
def Part.setBarrier (p : Part) (b i : Nat) (r : Barrier) : Part :=
  p.modBed b (fun d => { d with barriers := FMap.put Barrier.init d.barriers i r })

theorem Part.barrier_setBarrier (p : Part) (b i : Nat) (r : Barrier) :
    FMap.get Barrier.init ((p.setBarrier b i r).bed b).barriers i = r := by
  rw [Part.setBarrier, Part.bed_modBed_self, FMap.get_put_self]

/-- The threads of `l` go on from the barrier. -/
def Part.release (p : Part) (b : Nat) (l : List Nat) : Part := p.each l (fun q t => q.modThread b t (fun y => { y with wait := .ready }))

theorem Part.ThreadsOnly.release (p : Part) (b : Nat) (l : List Nat) : p.ThreadsOnly b (p.release b l) :=
  .each p l fun q t => .setThread q b t _

theorem Part.wait_release {b i : Nat} {l : List Nat} {p : Part} (h : i ∈ l ∨ (p.thread b i).wait = .ready) :
    ((p.release b l).thread b i).wait = .ready := by
  unfold Part.release Part.each
  induction l generalizing p with
  | nil => simpa using h
  | cons t r ih =>
    refine ih ?_
    by_cases ht : i = t
    · subst ht
      exact .inr (congrArg Thread.wait (Part.thread_setThread_self p b i _))
    · have hother := congrArg Thread.wait (Part.thread_setThread_other p b { p.thread b t with wait := .ready } ht)
      exact h.imp (fun hi => (List.mem_cons.1 hi).resolve_left ht) hother.trans

section

variable {p : Part} {k : Th} {i n : Nat} (u : Thread) (hi : i < 8) (hn : 0 < n) (hn' : n ≤ 64)
  (hcount : (FMap.get Barrier.init (p.bed k.b).barriers i).arrived = [] ∨ (FMap.get Barrier.init (p.bed k.b).barriers i).count = n)

include hi hn hn' hcount

/-- An arrival that names the barrier's count, or the first one: the last frees all, and any other waits. -/
theorem Part.tbar_arrives :
    let r := FMap.get Barrier.init (p.bed k.b).barriers i
    p.tbar k u (n * 256 + i) =
      if n ≤ r.arrived.length + 1 then .done ((p.setBarrier k.b i (Barrier.init i)).release k.b r.arrived) u
      else .done (p.setBarrier k.b i { count := n, arrived := r.arrived ++ [k.th] }) { u with wait := .tbar i } := by
  have hcode : (n * 256 + i) / 256 % 128 = n ∧ (n * 256 + i) % 8 = i := by omega
  have hoperand : ¬ (n = 0 ∨ 64 < n) := by omega
  have hsame : ¬ ((FMap.get Barrier.init (p.bed k.b).barriers i).arrived ≠ [] ∧
      (FMap.get Barrier.init (p.bed k.b).barriers i).count ≠ n) := fun h => hcount.elim h.1 h.2
  simp only [Part.tbar, hcode.1, hcode.2, ne_eq, not_true_eq_false, false_or, hoperand, if_false]
  exact if_neg hsame

end

/-! TPUT (R283). -/

/-- A good descriptor of a copy: the copy is queued, and rd gets its number. -/
theorem Part.tput_queues {p : Part} {k : Th} {u : Thread} {w a src dst len : Nat} {l : List Byte}
    (ha : (xReg u (iRs1 w)).toNat = a) (hown : k.own a 16 = true) (hread : p.thRead k a 16 = .ok l)
    (hsrc : leNat (l.take 4) = src) (hdst : leNat ((l.drop 4).take 4) = dst) (hlen : leNat ((l.drop 8).take 4) = len)
    (hrest : leNat ((l.drop 12).take 4) = 0) (hunit : len % 64 = 0) (hmax : len ≤ 65536)
    (hfrom : ownBase k.b ≤ src ∧ src + len ≤ ownBase k.b + 0x180000) (hto : 0x80000000 ≤ dst ∧ dst + len ≤ 0x88000000)
    (hsource : ∃ m, p.thRead k src len = .ok m) (hdest : ∃ ks, p.threadKeys k.k k.aper dst len = some ks) :
    p.tput k u w = .done (p.modBed k.b (fun d => { d with
        tputs := d.tputs ++ [⟨k.th, 0x1000000000 + (src - 0x80000000), 0x1000000000 + (dst - 0x80000000), len⟩] }))
      (setX { u with tputs := (u.tputs + 1) % 65536 } (iRd w) (BitVec.ofNat 32 u.tputs)) := by
  subst ha hsrc hdst hlen
  obtain ⟨m, hm⟩ := hsource
  obtain ⟨ks, hks⟩ := hdest
  simp [Part.tput, hown, hread, hrest, hunit, Nat.not_lt.2 hmax, hfrom, hto, hm, hks, Except.toOption]

section

variable {b th : Nat} {s : State} (hs : Ready s) (hready : s.part.threadReady b th = true)

include hs hready

/-! TCFG, TWAIT, TFENCE and TEXIT. -/

theorem completes_tcfg (rd rs1 : Fin 32) :
    let u := s.part.thread b th
    Completes (.tcfg b th rd rs1) s (fun t => ThreadOnly b th s t ∧
      Retired rd u.tcfg 4 { u with tcfg := xReg u rs1 } (t.part.thread b th)) := by
  intro u
  refine completes_of_done hs (next_tcfg b th rd rs1 s hs.1 (Part.threadReady_guard hready)) (Part.thRun_tcfg _ _ _ rd rs1) rfl
    ⟨threadOnly_showThread s b th _, ?_⟩
  have hset : { setX { u with pc := u.pc + 4 } rd u.tcfg with tcfg := xReg u rs1 } =
      setX { u with pc := u.pc + 4, tcfg := xReg u rs1 } rd u.tcfg := by
    unfold setX
    split <;> rfl
  rw [Part.thread_showThread_self, hset]
  exact retired_ended (u := { u with tcfg := xReg u rs1 }) rd u.tcfg 4 (Part.threadReady_wait hready)

theorem completes_twait_over (rd : Fin 32) {n : Fin 32} (h : (s.part.bed b).engineOps th ≤ n) :
    Completes (.twait b th rd n) s (fun t => ThreadOnly b th s t ∧
      Retired rd (BitVec.ofNat 32 ((s.part.bed b).engineOps th)) 4 (s.part.thread b th) (t.part.thread b th)) := by
  have hwait := Part.threadReady_wait hready
  refine completes_of_done hs (next_twait b th rd n s hs.1 (Part.threadReady_guard hready)) (Part.thRun_twait _ _ _ rd n) rfl
    ⟨threadOnly_showThread s b th _, ?_⟩
  rw [Part.thread_showThread_self]
  exact wake_twait_over (u := { s.part.thread b th with pc := (s.part.thread b th).pc + 4 }) hwait h ▸ retired_ended rd _ 4 hwait

theorem completes_twait_waits (rd : Fin 32) {n : Fin 32} (h : n.val < (s.part.bed b).engineOps th) :
    Completes (.twait b th rd n) s (fun t => ThreadOnly b th s t ∧
      RetiredAs (fun v => { v with wait := .twait rd n }) (s.part.thread b th) (t.part.thread b th)) := by
  refine completes_of_done hs (next_twait b th rd n s hs.1 (Part.threadReady_guard hready)) (Part.thRun_twait _ _ _ rd n) rfl
    ⟨threadOnly_showThread s b th _, ?_⟩
  rw [Part.thread_showThread_self]
  exact congrArg (Thread.ended _)
    (wake_twait_waits { s.part.thread b th with pc := (s.part.thread b th).pc + 4 } h)

theorem completes_tfence {m : Fin 32} (hm : m.val < 8) (hops : m.val % 2 = 1 → (s.part.bed b).engineOps th = 0)
    (hcopies : m.val / 2 % 2 = 1 → (s.part.bed b).copies th = 0) :
    Completes (.tfence b th m) s (fun t => ThreadOnly b th s t ∧ RetiredAs id (s.part.thread b th) (t.part.thread b th)) := by
  have hwait := Part.threadReady_wait hready
  refine completes_of_done hs (next_tfence b th m s hs.1 (Part.threadReady_guard hready)) (Part.thRun_tfence _ _ _ hm) rfl
    ⟨threadOnly_showThread s b th _, ?_⟩
  rw [Part.thread_showThread_self]
  exact (congrArg (Thread.ended _) (wake_tfence_over (u := { s.part.thread b th with pc := (s.part.thread b th).pc + 4 }) hwait hops
    hcopies)).trans (Thread.ended_ready hwait)

theorem completes_texit : Completes (.texit b th) s (fun t => ThreadOnly b th s t ∧
    RetiredAs (fun v => { v with wait := .exited }) (s.part.thread b th) (t.part.thread b th)) := by
  refine completes_of_done hs (next_texit b th s hs.1 (Part.threadReady_guard hready)) (Part.thRun_texit _ _ _) rfl
    ⟨threadOnly_showThread s b th _, ?_⟩
  rw [Part.thread_showThread_self]
  rfl

/-! TBOLT, TBAR and TPUT. -/

theorem completes_tbolt (rd : Fin 32) {rs1 : Fin 32} (hx : (xReg (s.part.thread b th) rs1).toNat < 32) :
    let x := (xReg (s.part.thread b th) rs1).toNat
    let d := s.part.bed b
    Completes (.tbolt b th rd rs1) s (fun t => BedRest b th s t ∧ t.part.mem = s.part.mem ∧
      Retired rd (FMap.get (fun _ => 0) d.bolts (x % 16)) 4 (s.part.thread b th) (t.part.thread b th) ∧
      (∀ c, c < 16 → FMap.get (fun _ => 0) (t.part.bed b).bolts c =
        if 16 ≤ x ∧ c = x % 16 then 0 else FMap.get (fun _ => 0) d.bolts c) ∧
      t.part.bed b = { d with threads := (t.part.bed b).threads, bolts := (t.part.bed b).bolts }) := by
  intro x d
  obtain ⟨honly, hmem, hbed⟩ := Part.boltRead_rest s.part b x
  have hthreads : ∀ i, (s.part.boltRead b x).thread b i = s.part.thread b i := fun i => by
    rw [Part.thread, hbed, Part.thread]
  have hrun : s.part.thRun (s.part.thOf s.ns b th false) (s.part.thread b th) (tilthWord 0 0 rs1 2 rd) =
      .done (s.part.boltRead b x) _ := Part.thRun_tbolt _ _ _ rd hx
  refine completes_of_done hs (next_tbolt b th rd rs1 s hs.1 (Part.threadReady_guard hready)) hrun honly.sdl
    ⟨bedRest_showThread _ honly hthreads, hmem, ?_, fun c _ => ?_, ?_⟩
  · rw [Part.thread_showThread_self]
    exact retired_ended rd _ 4 (Part.threadReady_wait hready)
  · rw [(Part.ThreadsOnly.showThread _ b th _).bed Bed.bolts fun _ _ => rfl]
    exact Part.bolts_boltRead s.part b x c
  · rw [Part.bed_showThread, hbed]

section

variable {i n : Nat} {rs1 : Fin 32} (hi : i < 8) (hn : 0 < n) (hn' : n ≤ 64)
  (hx : xReg (s.part.thread b th) rs1 = BitVec.ofNat 32 (n * 256 + i))
  (hcount : (FMap.get Barrier.init (s.part.bed b).barriers i).arrived = [] ∨
    (FMap.get Barrier.init (s.part.bed b).barriers i).count = n)

include hi hn hn' hx hcount

omit hs hready in
theorem thRun_tbar_arrives :
    let r := FMap.get Barrier.init (s.part.bed b).barriers i
    let v := { s.part.thread b th with pc := (s.part.thread b th).pc + 4 }
    s.part.thRun (s.part.thOf s.ns b th false) (s.part.thread b th) (tilthWord 2 0 rs1 1 0) =
      if n ≤ r.arrived.length + 1 then .done ((s.part.setBarrier b i (Barrier.init i)).release b r.arrived) v
      else .done (s.part.setBarrier b i { count := n, arrived := r.arrived ++ [th] }) { v with wait := .tbar i } := by
  have hcode : (xReg (s.part.thread b th) rs1).toNat = n * 256 + i := by
    rw [hx, BitVec.toNat_ofNat]
    omega
  rw [Part.thRun_tbar, hcode]
  exact Part.tbar_arrives (k := s.part.thOf s.ns b th false) _ hi hn hn' hcount

theorem completes_tbar_waits :
    let r := FMap.get Barrier.init (s.part.bed b).barriers i
    r.arrived.length + 1 < n → Completes (.tbar b th rs1) s (fun t => BedRest b th s t ∧ t.part.mem = s.part.mem ∧
      RetiredAs (fun v => { v with wait := .tbar i }) (s.part.thread b th) (t.part.thread b th) ∧
      FMap.get Barrier.init (t.part.bed b).barriers i = { count := n, arrived := r.arrived ++ [th] }) := by
  intro r hfew
  refine completes_of_done hs (next_tbar b th rs1 s hs.1 (Part.threadReady_guard hready))
    ((thRun_tbar_arrives hi hn hn' hx hcount).trans (if_neg (Nat.not_le.2 hfew))) rfl
    ⟨bedRest_showThread _ (.modBed _ b _) fun j => Part.thread_modBed _ b j rfl, rfl, ?_, ?_⟩
  · rw [Part.thread_showThread_self]
    rfl
  · rw [(Part.ThreadsOnly.showThread _ b th _).bed Bed.barriers fun _ _ => rfl]
    exact Part.barrier_setBarrier s.part b i _

theorem completes_tbar_last :
    let r := FMap.get Barrier.init (s.part.bed b).barriers i
    n ≤ r.arrived.length + 1 → th ∉ r.arrived → Completes (.tbar b th rs1) s (fun t => t.part.mem = s.part.mem ∧
      RetiredAs id (s.part.thread b th) (t.part.thread b th) ∧ (∀ j ∈ r.arrived, (t.part.thread b j).wait = .ready) ∧
      FMap.get Barrier.init (t.part.bed b).barriers i = Barrier.init i) := by
  intro r hall hfresh
  have hrelease := Part.ThreadsOnly.release (s.part.setBarrier b i (Barrier.init i)) b r.arrived
  refine completes_of_done hs (next_tbar b th rs1 s hs.1 (Part.threadReady_guard hready))
    ((thRun_tbar_arrives hi hn hn' hx hcount).trans (if_pos hall)) hrelease.bedOnly.sdl ⟨hrelease.mem, ?_, fun j hj => ?_, ?_⟩
  · rw [Part.thread_showThread_self]
    exact Thread.ended_ready (Part.threadReady_wait hready)
  · rw [Part.thread_showThread_other _ b _ (show j ≠ th from fun h => hfresh (h ▸ hj))]
    exact Part.wait_release (.inl hj)
  · rw [(hrelease.trans (.showThread _ b th _)).bed Bed.barriers fun _ _ => rfl]
    exact Part.barrier_setBarrier s.part b i _

end

theorem completes_tput (rd rs1 : Fin 32) {l : List Byte} :
    let u := s.part.thread b th
    let k := s.part.thOf s.ns b th false
    let src := leNat (l.take 4)
    let dst := leNat ((l.drop 4).take 4)
    let len := leNat ((l.drop 8).take 4)
    k.own (xReg u rs1).toNat 16 = true → s.part.thRead k (xReg u rs1).toNat 16 = .ok l →
    leNat ((l.drop 12).take 4) = 0 → len % 64 = 0 → len ≤ 65536 → ownBase b ≤ src → src + len ≤ ownBase b + 0x180000 →
    0x80000000 ≤ dst → dst + len ≤ 0x88000000 → (∃ m, s.part.thRead k src len = .ok m) →
    (∃ ks, s.part.threadKeys k.k k.aper dst len = some ks) →
    Completes (.tput b th rd rs1) s (fun t => BedRest b th s t ∧ t.part.mem = s.part.mem ∧
      Retired rd (BitVec.ofNat 32 u.tputs) 4 { u with tputs := (u.tputs + 1) % 65536 } (t.part.thread b th) ∧
      (t.part.bed b).tputs = (s.part.bed b).tputs ++
        [⟨th, 0x1000000000 + (src - 0x80000000), 0x1000000000 + (dst - 0x80000000), len⟩]) := by
  intro u k src dst len hown hread hrest hunit hmax hfrom hfrom' hto hto' hsource hdest
  have haddr : (xReg { u with pc := u.pc + 4 } (iRs1 (tilthWord 1 0 rs1 2 rd))).toNat = (xReg u rs1).toNat := by
    rw [iRs1_tilthWord rs1.isLt (by decide) rd.isLt]
    rfl
  have hrd : iRd (tilthWord 1 0 rs1 2 rd) = rd := iRd_tilthWord rd.isLt
  have hrun := Part.tput_queues (k := k) haddr hown hread rfl rfl rfl hrest hunit hmax ⟨hfrom, hfrom'⟩ ⟨hto, hto'⟩ hsource hdest
  refine completes_of_done hs (next_tput b th rd rs1 s hs.1 (Part.threadReady_guard hready))
    ((Part.thRun_tput _ _ _ rd rs1).trans hrun) rfl
    ⟨bedRest_showThread _ (.modBed _ b _) fun j => Part.thread_modBed _ b j rfl, rfl, ?_, ?_⟩
  · rw [Part.thread_showThread_self, hrd]
    exact retired_ended (u := { u with tputs := (u.tputs + 1) % 65536 }) rd _ 4 (Part.threadReady_wait hready)
  · rw [(Part.ThreadsOnly.showThread _ b th _).bed Bed.tputs fun _ _ => rfl]
    exact congrArg Bed.tputs (Part.bed_modBed_self s.part b _)

end

/-- Settles O35, instruction by instruction. That TFENCE finds no posted write outstanding, so that bit 2 ends at once, is the model's choice
(assumption 18). -/
theorem tilthThreadOperations : Obligations.TilthThreadOperations := by
  intro b th rd rs1 s hs hready
  exact ⟨completes_tcfg hs hready rd rs1, fun n => completes_twait_over hs hready rd, fun n => completes_twait_waits hs hready rd,
    fun m => completes_tfence hs hready, completes_texit hs hready, completes_tbolt hs hready rd,
    fun i n hi hn hn' hx hcount => ⟨completes_tbar_waits hs hready hi hn hn' hx hcount, completes_tbar_last hs hready hi hn hn' hx hcount⟩,
    fun l => completes_tput hs hready rd rs1⟩

end Sys2Proof.Machine
end

section
/-! SUPPORT. Loads and stores of a bed thread (R266, R268): what a load's word gives, at once or when its data return, and which bytes a store
writes. -/

namespace Sys2Proof.Machine

open Sys2Proof.Claim

/-! Bytes at a list of keys. -/

theorem length_of_mapM {α β : Type} {f : α → Option β} {l : List α} {r : List β} (h : l.mapM f = some r) : r.length = l.length := by
  induction l generalizing r with
  | nil => simp_all
  | cons a l ih =>
    simp only [List.mapM_cons, Option.bind_eq_bind, Option.bind_eq_some_iff, Option.pure_def, Option.some.injEq] at h
    obtain ⟨x, -, y, hy, rfl⟩ := h
    simp [ih hy]

theorem storeKeys_other (m : List Host.Cell) (ks : List Nat) (l : List Byte) {a : Nat} (h : a ∉ ks) :
    FMap.get memDefault (storeKeys m ks l) a = FMap.get memDefault m a := by
  induction ks generalizing m l with
  | nil => rfl
  | cons k ks ih =>
    cases l with
    | nil => rfl
    | cons x r =>
      rw [storeKeys, ih _ r (List.not_mem_of_not_mem_cons h), FMap.get_put_other _ _ _ (List.ne_of_not_mem_cons h)]

/-- Keys that are all different hold the bytes stored there, each its own. -/
theorem storeKeys_get (m : List Host.Cell) {ks : List Nat} {l : List Byte} {i k : Nat} {x : Byte} (hnodup : ks.Nodup)
    (hk : ks[i]? = some k) (hx : l[i]? = some x) : FMap.get memDefault (storeKeys m ks l) k = x := by
  induction ks generalizing m l i with
  | nil => simp at hk
  | cons k' ks ih =>
    obtain ⟨hnot, hnodup'⟩ := List.nodup_cons.1 hnodup
    cases l with
    | nil => simp at hx
    | cons x' r =>
      cases i with
      | zero =>
        obtain rfl : k' = k := by simpa using hk
        obtain rfl : x' = x := by simpa using hx
        rw [storeKeys, storeKeys_other _ ks r hnot, FMap.get_put_self]
      | succ i => exact ih _ hnodup' (by simpa using hk) (by simpa using hx)

/-! The words of loads and stores. -/

theorem Part.thRun_load (p : Part) (k : Th) (u : Thread) {w size : Nat} {signed : Bool} (hop : w % 128 = 0x03)
    (hform : loadForm (iF3 w) = some (size, signed)) :
    p.thRun k u w =
      p.thLoad k { u with pc := u.pc + 4 } (iRd w) (xReg u (iRs1 w) + BitVec.ofInt 32 (immI w)).toNat size signed := by
  unfold Part.thRun
  rw [if_neg (by omega)]
  simp only [hop, Part.scalar, hform]
  rfl

theorem Part.thRun_store (p : Part) (k : Th) (u : Thread) {w : Nat} (hop : w % 128 = 0x23) (hform : iF3 w ≤ 2) :
    p.thRun k u w = p.thStore k { u with pc := u.pc + 4 } (xReg u (iRs1 w) + BitVec.ofInt 32 (immS w)).toNat
      (toLe (2 ^ iF3 w) (xReg u (iRs2 w)).toNat) := by
  unfold Part.thRun
  rw [if_neg (by omega)]
  simp only [hop, Part.scalar, hform, if_true]
  rfl

/-- The widths of RV32's loads. -/
theorem loadForm_of_mem {f3 size : Nat} {signed : Bool}
    (h : (f3, size, signed) ∈ [(0, 1, true), (1, 2, true), (2, 4, false), (4, 1, false), (5, 2, false)]) :
    loadForm f3 = some (size, signed) := by
  simp only [List.mem_cons, Prod.mk.injEq, List.not_mem_nil, or_false] at h
  rcases h with ⟨rfl, rfl, rfl⟩ | ⟨rfl, rfl, rfl⟩ | ⟨rfl, rfl, rfl⟩ | ⟨rfl, rfl, rfl⟩ | ⟨rfl, rfl, rfl⟩ <;> rfl

/-- An aligned element outside the register window is no fault by its address. -/
theorem elemBad_aligned {a n : Nat} (hpage : inPages a = false) (halign : a % n = 0) : elemBad a n = none := by
  simp [elemBad, hpage, halign]

section

variable {p : Part} {k : Th} {a n : Nat} {l : List Byte} (u : Thread) (rd : Nat) (signed : Bool) (hpage : inPages a = false)
  (halign : a % n = 0) (hread : p.thRead k a n = .ok l)

include hpage halign hread

/-- Data of the own store, or data that have returned, go to rd. -/
theorem Part.thLoad_here (h : (k.own a n || k.back) = true) :
    p.thLoad k u rd a n signed = .done p (setX u rd (loadValue n signed l)) := by
  simp only [Part.thLoad, hpage, elemBad_aligned hpage halign, hread, h, if_true, Bool.false_eq_true, if_false]

/-- Other data are waited for. -/
theorem Part.thLoad_away (h : (k.own a n || k.back) = false) : p.thLoad k u rd a n signed = .data a := by
  simp only [Part.thLoad, hpage, elemBad_aligned hpage halign, hread, h, Bool.false_eq_true, if_false]

end

theorem Part.thStore_aligned {p : Part} {k : Th} {a : Nat} {l : List Byte} {ks : List Nat} (u : Thread) (hpage : inPages a = false)
    (halign : a % l.length = 0) (hkeys : p.threadKeys k.k k.aper a l.length = some ks) :
    p.thStore k u a l = .done (p.storeAt ks l) u := by
  simp only [Part.thStore, hpage, elemBad_aligned hpage halign, Part.thWrite, hkeys, Bool.false_eq_true, if_false]

/-! A thread that waits for data. -/

/-- An instruction that needs data from elsewhere: the thread waits, and nothing else changes. -/
theorem completes_of_data {c : Instr} {s : State} {b th a : Nat} {w : Word} (hs : Ready s)
    (he : exec c s = .next (s.settle (s.part.issue s.ns b th w.toNat)))
    (hrun : s.part.thRun (s.part.thOf s.ns b th false) (s.part.thread b th) w.toNat = .data a) :
    let v := { s.part.thread b th with wait := .load w a }
    Completes c s (fun t => t.part.thread b th = v ∧ t = { s with part := s.part.setThread b th v }) := by
  intro v
  have hissue : s.part.issue s.ns b th w.toNat = s.part.setThread b th v := by
    rw [Part.issue, hrun, Part.thEnd, BitVec.ofNat_toNat, BitVec.setWidth_eq]
    rfl
  refine completes_of_still he ?_ ?_
  · rw [hissue]
    exact hs.2
  · rw [hissue]
    exact ⟨Part.thread_setThread_self _ b th v, rfl⟩

/-- Its data return: the instruction ends as it would at issue, from what the addresses then hold. -/
theorem completes_bedLoadReturn {s : State} {b th a : Nat} {w : Word} {q : Part} {v : Thread} {Q : State → Prop} (hs : Ready s)
    (hawaits : s.part.awaitsData b th = true) (hwait : (s.part.thread b th).wait = .load w a)
    (hrun : s.part.thRun (s.part.thOf s.ns b th true) { s.part.thread b th with wait := .ready } w.toNat = .done q v)
    (hsdl : q.sdl = s.part.sdl) (hq : Q { s with part := q.showThread b th ((s.part.thread b th).ended v) }) :
    Completes (.bedLoadReturn b th false) s Q := by
  have hreturn : s.part.loadReturn s.ns b th false = q.showThread b th ((s.part.thread b th).ended v) := by
    simp only [Part.loadReturn, hwait, Bool.false_and, Bool.false_eq_true, if_false, hrun]
    rfl
  refine completes_of_still (next_bedLoadReturn b th false s hs.1 (Part.awaitsData_guard hawaits)) ?_ (hreturn ▸ hq)
  rw [hreturn, Part.showThread_sdl, hsdl, hs.2]

/-! The loads and the stores. -/

section

variable {b th : Nat} {s : State} (hs : Ready s) {w : Word} {size a : Nat} {signed : Bool} {l : List Byte}
  (hop : w.toNat % 128 = 0x03) (hform : loadForm (iF3 w.toNat) = some (size, signed))
  (ha : (xReg (s.part.thread b th) (iRs1 w.toNat) + BitVec.ofInt 32 (immI w.toNat)).toNat = a) (hpage : inPages a = false)
  (halign : a % size = 0) (hread : s.part.thRead (s.part.thOf s.ns b th false) a size = .ok l)

include hs hop hform ha hpage halign hread

theorem completes_load_own (hready : s.part.threadReady b th = true) (hown : (s.part.thOf s.ns b th false).own a size = true) :
    Completes (.rv32Instruction b th w) s (fun t => ThreadOnly b th s t ∧
      Retired (iRd w.toNat) (loadValue size signed l) 4 (s.part.thread b th) (t.part.thread b th)) := by
  subst ha
  refine completes_of_done hs (next_rv32Instruction b th w s hs.1 (Part.threadReady_guard hready))
    ((Part.thRun_load _ _ _ hop hform).trans (Part.thLoad_here _ _ _ hpage halign hread (Bool.or_eq_true_iff.2 (.inl hown)))) rfl
    ⟨threadOnly_showThread s b th _, ?_⟩
  rw [Part.thread_showThread_self]
  exact retired_ended _ _ 4 (Part.threadReady_wait hready)

theorem completes_load_away (hready : s.part.threadReady b th = true) (hown : (s.part.thOf s.ns b th false).own a size = false) :
    let v := { s.part.thread b th with wait := .load w a }
    Completes (.rv32Instruction b th w) s (fun t => t.part.thread b th = v ∧ t = { s with part := s.part.setThread b th v }) := by
  subst ha
  exact completes_of_data hs (next_rv32Instruction b th w s hs.1 (Part.threadReady_guard hready))
    ((Part.thRun_load _ _ _ hop hform).trans (Part.thLoad_away _ _ _ hpage halign hread (Bool.or_eq_false_iff.2 ⟨hown, rfl⟩)))

theorem completes_load_return (hawaits : s.part.awaitsData b th = true) (hwait : (s.part.thread b th).wait = .load w a) :
    Completes (.bedLoadReturn b th false) s (fun t => ThreadOnly b th s t ∧
      Retired (iRd w.toNat) (loadValue size signed l) 4 { s.part.thread b th with wait := .ready } (t.part.thread b th)) := by
  subst ha
  refine completes_bedLoadReturn hs hawaits hwait ((Part.thRun_load _ _ _ hop hform).trans
    (Part.thLoad_here (k := s.part.thOf s.ns b th true) _ _ _ hpage halign hread (Bool.or_eq_true_iff.2 (.inr rfl)))) rfl
    ⟨threadOnly_showThread s b th _, ?_⟩
  rw [Part.thread_showThread_self]
  exact retired_ended (u := { s.part.thread b th with wait := .ready }) _ _ 4 rfl

end

theorem completes_store {b th a size : Nat} {s : State} {w : Word} {ks : List Nat} (hs : Ready s)
    (hready : s.part.threadReady b th = true) (hop : w.toNat % 128 = 0x23) (hform : iF3 w.toNat ≤ 2) (hsize : 2 ^ iF3 w.toNat = size)
    (ha : (xReg (s.part.thread b th) (iRs1 w.toNat) + BitVec.ofInt 32 (immS w.toNat)).toNat = a) (hpage : inPages a = false)
    (halign : a % size = 0) (hkeys : s.part.threadKeys (s.part.thOf s.ns b th false).k (s.part.thOf s.ns b th false).aper a size = some ks)
    (hnodup : ks.Nodup) :
    Completes (.rv32Instruction b th w) s (fun t => BedRest b th s t ∧ Retired 0 0 4 (s.part.thread b th) (t.part.thread b th) ∧
      (∀ i k : Nat, ks[i]? = some k →
        t.part.byte k = BitVec.ofNat 8 ((xReg (s.part.thread b th) (iRs2 w.toNat)).toNat / 256 ^ i)) ∧
      ∀ x, x ∉ ks → t.part.byte x = s.part.byte x) := by
  subst ha hsize
  generalize hl : toLe (2 ^ iF3 w.toNat) (xReg (s.part.thread b th) (iRs2 w.toNat)).toNat = l
  have hlen : l.length = 2 ^ iF3 w.toNat := by rw [← hl, toLe_length]
  rw [← hlen] at halign hkeys
  have hrun := Part.thRun_store s.part (s.part.thOf s.ns b th false) (s.part.thread b th) hop hform
  rw [hl, Part.thStore_aligned _ hpage halign hkeys] at hrun
  refine completes_of_done hs (next_rv32Instruction b th w s hs.1 (Part.threadReady_guard hready)) hrun rfl
    ⟨bedRest_showThread _ (.storeAt _ b _ _) fun _ => rfl, ?_, fun i k hk => ?_, fun x hx => storeKeys_other _ _ _ hx⟩
  · rw [Part.thread_showThread_self]
    exact retired_ended 0 0 4 (Part.threadReady_wait hready)
  · have hkeysLength : ks.length = l.length := by rw [length_of_mapM hkeys, List.length_range]
    have hi : i < l.length := hkeysLength ▸ (List.getElem?_eq_some_iff.1 hk).1
    have hbyte : l[i] = BitVec.ofNat 8 ((xReg (s.part.thread b th) (iRs2 w.toNat)).toNat / 256 ^ i) := by
      subst hl
      exact toLe_getElem _ _ i hi
    rw [← hbyte]
    exact storeKeys_get _ hnodup hk (List.getElem?_eq_getElem hi)

/-- Settles O33: a load whose data are at hand ends, one whose data lie elsewhere waits for their return, and a store's bytes go to the keys
that its addresses map to. -/
theorem bedLoadsAndStores : Obligations.BedLoadsAndStores := by
  intro b th s hs w size signed l n u at_ dest own
  refine ⟨fun hop hmem hpage halign hread => ?load, fun ks hop hform hpage halign hready hkeys hnodup => ?store⟩
  case load =>
    have hform := loadForm_of_mem hmem
    exact ⟨completes_load_own hs hop hform rfl hpage halign hread, completes_load_away hs hop hform rfl hpage halign hread,
      completes_load_return hs hop hform rfl hpage halign hread⟩
  case store =>
    have hplot : (s.part.thOf s.ns b th false).k = ((s.part.bedCmd b).map (·.plot)).getD 0 := by
      rw [Part.bedCmd, Option.map_map]
      rfl
    exact completes_store hs hready hop hform rfl rfl hpage halign (hplot ▸ hkeys) hnodup

end Sys2Proof.Machine
end

section
/-! SUPPORT. TVLD and TVST (R280): where the walk of their descriptor is good, what the one reads into its vector group and what the other
writes to memory. -/

namespace Sys2Proof.Machine

open Sys2Proof.Claim

/-- Stored elements change memory alone. -/
theorem Part.vWriteAll_rest (k : Th) (n : Nat) (val : Nat → Nat → Nat) (l : List (Nat × Nat × Nat)) (p : Part) (b : Nat) :
    p.BedOnly b (Part.vWriteAll k n val l p).1 ∧ ∀ c, (Part.vWriteAll k n val l p).1.bed c = p.bed c := by
  induction l generalizing p with
  | nil => exact ⟨.refl b p, fun _ => rfl⟩
  | cons e r ih =>
    obtain ⟨i, f, a⟩ := e
    unfold Part.vWriteAll Part.thWrite
    split
    · exact ⟨.refl b p, fun _ => rfl⟩
    · split
      · exact ⟨.refl b p, fun _ => rfl⟩
      · next q hwrite =>
        split at hwrite
        · cases hwrite
        · next ks _ =>
          cases hwrite
          obtain ⟨honly, hbeds⟩ := ih (p.storeAt ks (toLe n (val f i)))
          exact ⟨(Part.BedOnly.storeAt p b ks _).trans honly, hbeds⟩

section

variable {p : Part} {k : Th} {u : Thread} {w a : Nat} {c : VCfg} {g : Agd} {segs : List (Nat × Nat)}
  (ha : (xReg u (iRs1 w)).toNat = a) (hwalk : p.walkOf k u w = .ok (c, g, segs)) (hown : k.own a 64 = true)
  (hseg : g.segEn = true → k.own g.segtab (4 * g.segn) = true)

include ha hwalk hown hseg

/-- A walk that can be read: its elements, and PADVAL for padding, go to the vector group. -/
theorem Part.tvld_reads {r : List (Nat × Nat × Nat)} (hread : p.vRead k (c.sew / 8) (g.accesses segs u.vl) = (r, none))
    (haway : k.away (c.sew / 8) (g.accesses segs u.vl) = none) :
    p.tvld k u w = .done { p with free := p.free + 1024 } { u with
      v := c.write u.v (c.grp (iRd w) 8) (fun i => ((r.find? (fun y => y.1 == i)).map (·.2.2)).getD (g.padval % 2 ^ c.sew)) } := by
  subst ha
  have hnear : k.own (xReg u (iRs1 w)).toNat 64 = true ∧ ((!g.segEn) = true ∨ k.own g.segtab (4 * g.segn) = true) := by
    refine ⟨hown, ?_⟩
    cases hen : g.segEn
    · exact .inl rfl
    · exact .inr (hseg hen)
  have hfault : (p.vRead k (c.sew / 8) (g.accesses segs u.vl)).2 = none := by rw [hread]
  have helems : (p.vRead k (c.sew / 8) (g.accesses segs u.vl)).1 = r := by rw [hread]
  unfold Part.tvld
  rw [hwalk]
  dsimp only
  rw [hfault, if_pos hnear, haway, helems]

/-- A walk that can be written: the group's elements are stored along it. -/
theorem Part.tvst_writes {q : Part}
    (hwrite : Part.vWriteAll k (c.sew / 8) (fun _ i => vElem u.v (iRd w) c.sew i) (g.accesses segs u.vl) p = (q, none)) :
    p.tvst k u w = .done q u := by
  subst ha
  have hnear : (k.own (xReg u (iRs1 w)).toNat 64 && (!g.segEn || k.own g.segtab (4 * g.segn))) = true := by
    cases hen : g.segEn
    · simp [hown]
    · simp [hown, hseg hen]
  simp only [Part.tvst, hwalk, hwrite, hnear]
  simp

end

/-- Settles O36: a good walk is read into the vector group or written from it, and the thread goes on. -/
theorem tilthVectorWalks : Obligations.TilthVectorWalks := by
  intro b th vd rs1 s hs hready u k x v
  have hguard := Part.threadReady_guard hready
  refine ⟨fun c g segs r hwalk hread hown hseg haway => ?tvld, fun c g segs q hwalk hown hseg hwrite => ?tvst⟩
  case tvld =>
    have haddr : (xReg v (iRs1 (tilthWord 2 0 rs1 2 vd))).toNat = x := by
      rw [iRs1_tilthWord rs1.isLt (by decide) vd.isLt]
      rfl
    have hrun := (Part.thRun_tvld s.part k u vd rs1).trans (Part.tvld_reads haddr hwalk hown hseg hread haway)
    rw [iRd_tilthWord vd.isLt] at hrun
    have hended : ∀ e, (s.part.thread b th).ended { v with v := e } = { v with instret := u.instret + 1, v := e } := fun e =>
      Thread.ended_ready (v := { v with v := e }) (Part.threadReady_wait hready)
    refine completes_of_done hs (next_tvld b th vd rs1 s hs.1 hguard) hrun rfl
      ⟨?_, ?_, fun i hi => Part.thread_showThread_other _ b _ hi, rfl, (Part.ThreadsOnly.showThread _ b th _).bedOnly.reg⟩
    all_goals rw [Part.thread_showThread_self, hended]
  case tvst =>
    have haddr : (xReg v (iRs1 (tilthWord 3 0 rs1 2 vd))).toNat = x := by
      rw [iRs1_tilthWord rs1.isLt (by decide) vd.isLt]
      rfl
    have hrd : iRd (tilthWord 3 0 rs1 2 vd) = vd := iRd_tilthWord vd.isLt
    have hrun := (Part.thRun_tvst s.part k u vd rs1).trans (Part.tvst_writes haddr hwalk hown hseg (hrd.symm ▸ hwrite))
    obtain ⟨honly, hbeds⟩ := Part.vWriteAll_rest k (c.sew / 8) (fun _ i => vElem u.v vd c.sew i) (g.accesses segs u.vl) s.part b
    rw [hwrite] at honly hbeds
    refine completes_of_done hs (next_tvst b th vd rs1 s hs.1 hguard) hrun honly.sdl
      ⟨bedRest_showThread _ honly fun i => congrArg (fun d : Bed => FMap.get Thread.init d.threads i) (hbeds b), ?_, rfl⟩
    rw [Part.thread_showThread_self]
    exact Thread.ended_ready (v := v) (Part.threadReady_wait hready)

end Sys2Proof.Machine
end

section
/-! SUPPORT. A write of DSP_Q_HEAD (R391): the register in the table and on the page of its plot, and what a bad offset and a stopped queue
make of the write. -/

namespace Sys2Proof.Machine

open Sys2Proof.Claim

/-- A row of the queues' registers has no register at another place of their 0x20 bytes. -/
theorem findRow_queue_other {off o : Nat} (l : List FieldSpec) (rs : List RegRow) (h : o % 0x20 ≠ off % 0x20) :
    findRow (⟨off, 8, 0x1000, 8, 0x20, l⟩ :: rs) o = findRow rs o := by
  have hfind : RegRow.find ⟨off, 8, 0x1000, 8, 0x20, l⟩ o = none := by
    refine Option.eq_none_iff_forall_ne_some.2 fun ⟨i, j⟩ hf => ?_
    have hplace : o = off + i * 0x1000 + j * 0x20 := RegRow.find_place hf
    omega
  rw [findRow, hfind]

theorem regAt_dspQHead {k q : Nat} (hk : k < 8) (hq : q < 8) :
    regAt (R.DSP_Q_HEAD k q) = some (⟨0x1010, 8, 0x1000, 8, 0x20, [⟨31, 0, .rw, 0⟩]⟩, k, q) := by
  have hblk : R.DSP_Q_HEAD k q / 0x100000 = 21 := by unfold R.DSP_Q_HEAD; omega
  have hoff : R.DSP_Q_HEAD k q % 0x100000 = 0x1010 + k * 0x1000 + q * 0x20 := by unfold R.DSP_Q_HEAD; omega
  have hfind : RegRow.find ⟨0x1010, 8, 0x1000, 8, 0x20, [⟨31, 0, .rw, 0⟩]⟩ (0x1010 + k * 0x1000 + q * 0x20) = some (k, q) := by
    have hpast : ¬ 0x1010 + k * 0x1000 + q * 0x20 < 0x1010 := by omega
    have hplot : (0x1010 + k * 0x1000 + q * 0x20 - 0x1010) / 0x1000 = k := by omega
    have hrest : 0x1010 + k * 0x1000 + q * 0x20 - 0x1010 - k * 0x1000 = q * 0x20 := by omega
    have hin : ¬ 8 ≤ k := by omega
    simp [RegRow.find, hpast, hplot, hrest, hin, hk, hq]
  rw [regAt, hblk, hoff]
  simp only [regsOf, regsDSP, List.cons_append, List.nil_append]
  iterate 4 rw [findRow_queue_other _ _ (by omega)]
  rw [findRow, hfind]

/-- A plot finds the registers of its own queues on its page (R30). -/
theorem Part.pageAt_dspQHead (p : Part) {k q : Nat} (hk : k < 8) (hq : q < 8) (hown : q < p.img.queues (k + 1)) :
    p.pageAt (k + 1) (R.DSP_Q_HEAD k q / 0x100000) (R.DSP_Q_HEAD k q % 0x100000) = .reg (R.DSP_Q_HEAD k q) := by
  have hblk : R.DSP_Q_HEAD k q / 0x100000 = 21 := by unfold R.DSP_Q_HEAD; omega
  have haddr : 21 * 0x100000 + R.DSP_Q_HEAD k q % 0x100000 = R.DSP_Q_HEAD k q := by unfold R.DSP_Q_HEAD; omega
  have hplots : 0x1000 ≤ R.DSP_Q_HEAD k q % 0x100000 ∧ R.DSP_Q_HEAD k q % 0x100000 < 0x9000 := by unfold R.DSP_Q_HEAD; omega
  have hqueues : R.DSP_Q_HEAD k q % 0x100000 % 0x1000 < 0x100 := by unfold R.DSP_Q_HEAD; omega
  have hplot : R.DSP_Q_HEAD k q % 0x100000 / 0x1000 = k + 1 := by unfold R.DSP_Q_HEAD; omega
  have hqueue : R.DSP_Q_HEAD k q % 0x100000 % 0x1000 / 0x20 = q := by unfold R.DSP_Q_HEAD; omega
  rw [Part.pageAt, hblk]
  simp only [haddr, hplots, hqueues, hplot, hqueue, slotHit, regAt_dspQHead hk hq, hown]
  simp

/-- The write of a queue's HEAD has its own rule. -/
theorem Part.writeBack_dspQHead (p : Part) (t ctx k q : Nat) (v : Word) :
    p.writeBack t ctx (R.DSP_Q_HEAD 0 0) k q v = some (p.queueHead (k + 1) q v.toNat) := by
  unfold Part.writeBack
  iterate 10 rw [if_neg (by decide)]
  exact if_pos rfl

theorem Part.regStore_dspQHead (p : Part) (t : Nat) (w : Who) (ctx : Nat) {k q : Nat} (v : Word) (hk : k < 8) (hq : q < 8) :
    p.regStore t w ctx (R.DSP_Q_HEAD k q) v = p.queueHead (k + 1) q v.toNat := by
  have hblk : R.DSP_Q_HEAD k q / 0x100000 = 21 := by unfold R.DSP_Q_HEAD; omega
  have hgated : p.gatedReg (R.DSP_Q_HEAD k q) = false := by simp [Part.gatedReg, hblk, blkBED]
  have hshut : p.ringShut (R.DSP_Q_HEAD k q) = false := by
    have hpast : ¬ R.DSP_Q_HEAD k q < 0x719000 := by unfold R.DSP_Q_HEAD; omega
    simp [Part.ringShut, isHostRing, hpast]
  unfold Part.regStore
  rw [regAt_dspQHead hk hq]
  simp only [hgated, hshut, hblk, rowKey]
  iterate 6 rw [if_neg (by decide)]
  rw [show 21 * 0x100000 + 0x1010 = R.DSP_Q_HEAD 0 0 from rfl, p.writeBack_dspQHead t ctx k q v, Option.getD_some]

/-- Plot 0 firmware writes the HEAD of every queue, a plot those of its own queues. -/
theorem Part.writeOf_dspQHead (p : Part) (t : Nat) {w : Who} {k q : Nat} (v : Word) (hk : k < 8) (hq : q < 8) (hw : w.kind ≠ .host)
    (hplot : w.plot = 0 ∨ w.plot.val = k + 1) (hown : w.plot = 0 ∨ q < p.img.queues (k + 1)) :
    p.writeOf t w (R.DSP_Q_HEAD k q) v = p.queueHead (k + 1) q v.toNat := by
  have hbound : R.DSP_Q_HEAD k q < 22 * 0x100000 := by unfold R.DSP_Q_HEAD; omega
  have halign : R.DSP_Q_HEAD k q % 4 = 0 := by unfold R.DSP_Q_HEAD; omega
  have hcopy : copyOf (R.DSP_Q_HEAD k q) = R.DSP_Q_HEAD k q := if_neg (by unfold R.DSP_Q_HEAD; omega)
  refine Eq.trans ?_ (p.regStore_dspQHead t w 0 v hk hq)
  by_cases hp : w.plot = 0
  · exact p.writeOf_firmware t v hw hp hbound halign (by rw [implemented, hcopy, regAt_dspQHead hk hq]; rfl) hcopy
  · have hself : w.plot.val = k + 1 := hplot.resolve_left hp
    have hpage := p.pageAt_dspQHead hk hq (hown.resolve_left hp)
    exact p.writeOf_page t v hw (by omega) hbound (by unfold R.DSP_Q_HEAD; omega) halign hcopy (by rw [hself]; exact hpage)

/-! What the write leaves. -/

/-- The registers of queue `q` of plot `k + 1` but HEAD are other registers than HEAD. -/
theorem dspQ_ne_head (k q : Nat) : R.DSP_Q_SIZE k q ≠ R.DSP_Q_HEAD k q ∧ R.DSP_Q_STAT k q ≠ R.DSP_Q_HEAD k q ∧
    R.DSP_Q_CTRL k q ≠ R.DSP_Q_HEAD k q := by
  unfold R.DSP_Q_SIZE R.DSP_Q_HEAD R.DSP_Q_STAT R.DSP_Q_CTRL
  omega

/-- HEAD shows the offset written. -/
theorem Part.reg_put_dspQHead (p : Part) (k q : Nat) (v : Word) :
    (p.put (F.DSP_Q_HEAD_OFF k q) v.toNat).reg (R.DSP_Q_HEAD k q) = v := by
  refine (Part.reg_setReg_self _ _ _).trans ((Word.withBits_full _ _).trans ?_)
  exact (BitVec.ofNat_toNat 32 v).trans (BitVec.setWidth_eq v)

/-- Nothing is taken from a queue that is not enabled, or whose ERR stands. -/
theorem Part.queueNext_stopped {p : Part} {k q : Nat}
    (h : p.on (F.DSP_Q_CTRL_EN k q) = false ∨ p.on (F.DSP_Q_STAT_ERR k q) = true) : p.queueNext (k + 1) q = p := by
  have hstop : (!p.on (F.DSP_Q_CTRL_EN k q) || p.on (F.DSP_Q_STAT_ERR k q)) = true := by
    rcases h with h | h <;> simp [h]
  unfold Part.queueNext
  simp only [Nat.add_sub_cancel, hstop, Bool.true_or, if_true]
  split <;> rfl

/-- So the walk over a stopped queue's entries ends where it began. -/
theorem Part.queueRun_stopped {p : Part} {k q : Nat} (n : Nat)
    (h : p.on (F.DSP_Q_CTRL_EN k q) = false ∨ p.on (F.DSP_Q_STAT_ERR k q) = true) : Part.queueRun (k + 1) q n p = p := by
  cases n with
  | zero => rfl
  | succ n =>
    rw [Part.queueRun, Part.queueNext_stopped h]
    exact if_pos rfl

/-- An offset outside SIZE, or no multiple of 64, sets ERR beside HEAD. -/
theorem Part.queueHead_bad {p : Part} {k q off : Nat} (h : p.qSize (k + 1) q ≤ off ∨ off % 64 ≠ 0) :
    p.queueHead (k + 1) q off = (p.put (F.DSP_Q_HEAD_OFF k q) off).set (F.DSP_Q_STAT_ERR k q) := by
  have hsize : (p.put (F.DSP_Q_HEAD_OFF k q) off).qSize (k + 1) q = p.qSize (k + 1) q :=
    Part.get_put_reg p _ (F.DSP_Q_SIZE_BYTES k q) off (dspQ_ne_head k q).1
  unfold Part.queueHead
  exact if_pos (by rw [Nat.add_sub_cancel, hsize]; exact h)

/-- A good offset to a stopped queue sets HEAD alone. -/
theorem Part.queueHead_stopped {p : Part} {k q off : Nat} (hsize : off < p.qSize (k + 1) q) (halign : off % 64 = 0)
    (h : p.on (F.DSP_Q_CTRL_EN k q) = false ∨ p.on (F.DSP_Q_STAT_ERR k q) = true) :
    p.queueHead (k + 1) q off = p.put (F.DSP_Q_HEAD_OFF k q) off := by
  obtain ⟨hneSize, hneStat, hneCtrl⟩ := dspQ_ne_head k q
  have hkept : ∀ f : Fld, f.reg ≠ R.DSP_Q_HEAD k q → (p.put (F.DSP_Q_HEAD_OFF k q) off).get f = p.get f := fun f hf =>
    Part.get_put_reg p _ f off hf
  have hgood : ¬ ((p.put (F.DSP_Q_HEAD_OFF k q) off).qSize (k + 1) q ≤ off ∨ off % 64 ≠ 0) := by
    rw [show (p.put (F.DSP_Q_HEAD_OFF k q) off).qSize (k + 1) q = p.qSize (k + 1) q from hkept (F.DSP_Q_SIZE_BYTES k q) hneSize]
    omega
  unfold Part.queueHead
  rw [Nat.add_sub_cancel, if_neg hgood]
  refine Part.queueRun_stopped 4096 ?_
  rw [Part.on, Part.on, hkept (F.DSP_Q_CTRL_EN k q) hneCtrl, hkept (F.DSP_Q_STAT_ERR k q) hneStat]
  exact h

end Sys2Proof.Machine
end

section
/-! SUPPORT. A bed's dispatch of a command that has started (R392), the faults of commands past their limits (R395), and the obligation about
queues and dispatch. -/

namespace Sys2Proof.Machine

open Sys2Proof.Claim

/-- A place that can take a command is one of the unit's. -/
theorem Part.lt_of_canDispatch {p : Part} {kind n : Nat} (h : p.canDispatch kind n = true) : n < 64 := by
  unfold Part.canDispatch at h
  split at h
  · simp only [Bool.and_eq_true, decide_eq_true_eq] at h
    exact h.1.1
  · split at h
    · simp only [Bool.and_eq_true, decide_eq_true_eq] at h
      omega
    · simp only [Bool.and_eq_true, decide_eq_true_eq] at h
      omega

/-- A place that can take a command does. -/
theorem exec_commandDispatch {kind n : Nat} {s : State} (hs : Ready s) (hkind : kind < 3) (h : s.part.canDispatch kind n = true) :
    exec (.commandDispatch kind n) s = .next (s.settle (s.part.dispatch s.ns kind n)) :=
  next_commandDispatch kind n s hs.1 (by simp [Instr.wf, hkind, Part.lt_of_canDispatch h, h])

/-- The round robin and the ready list are the runtime's own. -/
theorem Part.noteTurn_rest (p : Part) (c : Cmd) : p.noteTurn c = { p with jobs := (p.noteTurn c).jobs } := by
  unfold Part.noteTurn
  split <;> rfl

theorem Part.takePlace_rest (p : Part) (c c' : Cmd) (n : Nat) : p.takePlace c c' n = { p with jobs := (p.takePlace c c' n).jobs } := rfl

/-- A command that bed `b` has taken at `t`, and whose threads have yet to start. -/
def Cmd.takenBy (c : Cmd) (b t aper : Nat) : BedCmd :=
  { cmd := { c with places := [b] }, started := false, startAt := t, aper := aper, stripes := 0 }

/-- A command that has a sequence number keeps it, and nothing is numbered. -/
theorem Part.startCmd_started {p : Part} {c : Cmd} {x : Nat} (t : Nat) (h : c.seq = some x) : p.startCmd t c = (c, p) := by
  rw [Part.startCmd, h]
  rfl

/-- A bed takes a started command as it is, whatever has become of its job's generation. Its threads have yet to start, and beside the
bed only the runtime's lists change. -/
theorem Part.bedDispatch_started {p : Part} {c : Cmd} {b x : Nat} (t : Nat)
    (hpick : p.pick (p.jobs.ready.filter (fun d => p.fits d 0 b)) 0 = some c) (hseq : c.seq = some x) :
    ∃ u aper, p.bedDispatch t b = ({ p with jobs := u } : Part).modBed b (fun d => { d with cmd := some (c.takenBy b t aper) }) := by
  have hsome : c.seq.isSome = true := by rw [hseq]; rfl
  unfold Part.bedDispatch
  rw [hpick]
  simp only [hsome, if_true, ne_eq, not_true_eq_false, if_false, Part.startCmd_started t hseq]
  rw [Part.takePlace_rest, Part.noteTurn_rest]
  exact ⟨_, _, rfl⟩

/-- A fault of a job that has none stands last in the list of faults, and none of the job's commands is ready. -/
theorem Part.raiseFault_first {p : Part} {h : Nat} (plot cause seq : Nat) (hnone : p.jobs.faults.any (fun f => f.job == some h) = false) :
    p.raiseFault (some h) plot cause seq = p.modJobs (fun u => { u with
      faults := u.faults ++ [⟨some h, plot, cause, seq⟩], ready := u.ready.filter (fun c => c.job != some h) }) := by
  simp [Part.raiseFault, hnone]

/-- Settles O37, clause by clause: the write of HEAD is the queue's own operation, which a bad offset or a stopped queue ends at once; a started
command is taken as it is; and a command past its limit faults its job. -/
theorem queuesAndDispatch : Obligations.QueuesAndDispatch := by
  refine ⟨fun w plot q v s hs hplot hplots hq hreach hown => ?head, fun kind n s hs hkind hcan => exec_commandDispatch hs hkind hcan,
    fun n x c s hs hcan hpick hseq => ?started, fun b s hs hb hlive hready => ?stripe,
    fun kind n h c s hs hkind hn hlive hover hcmd hjob hnone => ?limit, fun s hs hlive hfaults => ?teardown⟩
  case head =>
    obtain ⟨k, rfl⟩ : ∃ k, plot = k + 1 := ⟨plot - 1, by omega⟩
    obtain ⟨hw, hissues, hwho⟩ := hreach
    have he := next_dspQHeadWrite w (k + 1) q v s hs.1 (by simp [Instr.wf, hplots, hq, hissues])
    rw [Nat.add_sub_cancel, s.part.writeOf_dspQHead s.ns v (by omega) hq hw hwho hown] at he
    obtain ⟨-, hneStat, -⟩ := dspQ_ne_head k q
    simp only [Nat.add_sub_cancel]
    refine ⟨he, fun hbad => ?_, fun hsize halign hstop => ?_⟩
    · rw [Part.queueHead_bad hbad] at he
      refine completes_of_still he hs.2 ⟨?_, Part.get_put_bit _ _ 0 1 (by decide), regsOnly_of_regs rfl fun a ha => ?_⟩
      · exact (Part.reg_put_other _ _ _ hneStat.symm).trans (s.part.reg_put_dspQHead k q v)
      · simp only [List.mem_cons, List.not_mem_nil, or_false, not_or] at ha
        exact (Part.reg_put_other _ _ _ ha.2).trans (Part.reg_put_other _ _ _ ha.1)
    · rw [Part.queueHead_stopped hsize halign hstop] at he
      exact completes_of_still he hs.2 ⟨s.part.reg_put_dspQHead k q v,
        regsOnly_of_regs rfl fun a ha => Part.reg_put_other _ _ _ (List.ne_of_not_mem_cons ha)⟩
  case started =>
    obtain ⟨u, aper, htaken⟩ := Part.bedDispatch_started s.ns hpick hseq
    have he : exec (.commandDispatch 0 n) s = .next (s.settle (s.part.bedDispatch s.ns n)) :=
      exec_commandDispatch hs (by decide) hcan
    rw [htaken] at he
    refine completes_of_still he hs.2 ⟨⟨c.takenBy n s.ns aper, ?_, rfl, rfl, rfl⟩, fun b hb => Part.bed_modBed_other _ _ hb, rfl, rfl⟩
    rw [Part.bed_modBed_self]
  case stripe => exact next_stripeStart b s hs.1 (by simp [Instr.wf, hb, hlive, hready])
  case limit =>
    have he := next_commandTimeLimit kind n s hs.1 (by simp [Instr.wf, hkind, hn, hlive, hover])
    rw [Part.timeLimit, hcmd] at he
    simp only [hjob] at he
    rw [Part.raiseFault_first _ _ _ hnone] at he
    refine completes_of_still he hs.2 ⟨rfl, fun d hd => ?_, rfl⟩
    simpa using (List.mem_filter.1 hd).2
  case teardown => exact next_jobTeardown s hs.1 (by simp [hlive, hfaults])

end Sys2Proof.Machine
end

section
/-! SUPPORT. System calls that only answer (R584): what each returns to its Runner, the job input record that JOB_INPUT copies (R390), and
what a submitted record leaves (R486). -/

namespace Sys2Proof.Machine

open Sys2Proof.Claim

/-! Values returned. -/

theorem twos_natCast {w n : Nat} (h : n < 2 ^ w) : twos w n = n := by
  rw [twos, ← Int.natCast_emod, Int.toNat_natCast, Nat.mod_eq_of_lt h]

/-- The Sundial's count fits the 64 bits of a returned value (R50). -/
theorem State.ns_lt (s : State) : s.ns < 2 ^ 64 := Nat.div_lt_of_lt_mul s.sun.isLt

/-- The caller's core is among the eight, so its call is well-formed. -/
theorem Part.calls_wf {p : Part} {c : Nat} (h : p.calls c = true) : (decide (c < 8) && p.calls c) = true := by
  have hlt : decide (c < 8) = true := by
    rw [Part.calls, Bool.and_eq_true] at h
    exact h.1
  rw [hlt, h, Bool.true_and]

section
variable {i : Instr} {c : Nat} {a : Act} {s : State} (hs : Ready s) (hc : Calls s c a)
include hs hc

/-- A call whose effect is its answer alone. -/
theorem completes_ret {a0 : Int} {a1 : Nat} (he : exec i s = .next (s.settle (s.part.ret c a0 a1))) :
    Completes i s (Answered a a0 a1 [] s) :=
  completes_of_still he ((congrArg SdlUnit.step (Part.ret_sdl ..)).trans hs.2) (answered_ret _ _ hc.1 (.refl _ _) rfl rfl rfl)

/-- A call about an object `r` of plot `k`: −1 where there is none, −2 where `k` is not the caller's plot, and else its answer. -/
theorem completes_lookup {r : Option Nat} {k : Nat} {a0 : Int} {a1 : Nat}
    (he : exec i s = .next (s.settle (if r.isNone then s.part.ret c (-1) 0 else if k ≠ s.part.caller c then s.part.ret c (-2) 0
      else s.part.ret c a0 a1))) :
    Completes i s (if r = none then Answered a (-1) 0 [] s else if k ≠ a.cmd.plot then Answered a (-2) 0 [] s
      else Answered a a0 a1 [] s) := by
  simp only [Option.isNone_iff_eq_none, Part.caller_of_core hc.1] at he
  by_cases hr : r = none
  · rw [if_pos hr] at he ⊢
    exact completes_ret hs hc he
  by_cases hk : k ≠ a.cmd.plot
  · rw [if_neg hr, if_pos hk] at he ⊢
    exact completes_ret hs hc he
  · rw [if_neg hr, if_neg hk] at he ⊢
    exact completes_ret hs hc he

/-- A call that stores `l` at an address and answers: the bytes stored read back, and no other byte changes. -/
theorem completes_store_ret {a0 : Int} {a1 : Nat} (addr : Nat) (l : List Byte)
    (he : exec i s = .next (s.settle ((s.part.store addr l).ret c a0 a1))) :
    Completes i s (fun t => t.part.out = .syscall a.runner (twos 64 a0) a1 :: s.part.out ∧
      (∀ n, n < l.length → some (t.part.byte (addr + n)) = l[n]?) ∧
      (∀ b, b < addr ∨ addr + l.length ≤ b → t.part.byte b = s.part.byte b) ∧
      t = { s with part := { s.part with mem := t.part.mem, out := t.part.out } }) := by
  have hkept : (s.part.store addr l).core c = some a := hc.1
  rw [Part.ret_of_core hkept] at he
  refine completes_of_still he hs.2 ⟨rfl, fun n hn => ?_, fun b hb => s.part.byte_store_other addr l b hb, rfl⟩
  rw [List.getElem?_eq_getElem hn]
  exact congrArg some (s.part.byte_store addr l n hn)

end

/-- TIME returns the Sundial's count itself. -/
theorem Part.callTime_ret (p : Part) {t : Nat} (c : Nat) (ht : t < 2 ^ 64) :
    p.callTime t c = p.ret c t ((p.reg R.SDL_STATUS).toNat % 8) := by
  unfold Part.callTime Part.ret
  cases p.core c with
  | none => rfl
  | some a => rw [twos_natCast ht]

/-! JOB_INPUT (R390). -/

/-- A table with a number of `k` bytes for each entry of a list has `k` bytes per entry. -/
theorem flatMap_toLe_length {α : Type} (l : List α) (k : Nat) (f : α → Nat) :
    (l.flatMap fun i => toLe k (f i)).length = l.length * k := by
  induction l with
  | nil => simp only [List.flatMap_nil, List.length_nil, Nat.zero_mul]
  | cons i r ih => rw [List.flatMap_cons, List.length_append, toLe_length, ih, List.length_cons, Nat.succ_mul, Nat.add_comm]

/-- The job input record is 64 bytes: its fields', the tables of its four members and 20 reserved ones. -/
@[simp] theorem Part.jobInput_length (p : Part) (j : Job) : (p.jobInput j).length = 64 := by
  unfold Part.jobInput
  extract_lets m pair missing
  simp only [List.length_append, toLe_length, flatMap_toLe_length, List.length_range, List.length_replicate]

section
variable {p : Part} {c : Nat} {a : Act} (buf : Nat) (hcore : p.core c = some a)
include hcore

theorem Part.callJobInput_outside (hjob : a.cmd.job = none) : p.callJobInput c buf = p.ret c (-5) 0 := by
  simp [Part.callJobInput, hcore, hjob]

theorem Part.callJobInput_copied {j : Job} (hjob : a.cmd.job.bind p.job? = some j) (hin : buf + 64 ≤ p.img.window a.cmd.plot) :
    p.callJobInput c buf = (p.store (winBase a.cmd.plot + buf) (p.jobInput j)).ret c 0 0 := by
  simp [Part.callJobInput, hcore, hjob, Part.inWindow, Part.caller_of_core hcore, hin]

end

/-! SUBMIT (R486). -/

/-- Forming a record changes registers, Harvest and the plot's counts alone, whichever plot it names. -/
theorem Part.form_rest (p : Part) (t plot : Nat) (c : JobCtx) (mk : Nat → List Byte) :
    ∃ regs hvs plots, p.form t plot c mk = { p with regs := regs, hvs := hvs, plots := plots } := by
  unfold Part.form
  by_cases hforms : p.canForm plot = true
  · rw [if_pos hforms]
    extract_lets seq bytes q0 q1 q2
    have hclosed : ∃ hvs, q2.closeCrate plot 0 = { q2 with hvs := hvs } := by
      unfold Part.closeCrate
      split
      · exact ⟨q2.hvs, rfl⟩
      · exact ⟨_, rfl⟩
    obtain ⟨hvs, hclosed⟩ := hclosed
    split
    · split
      · exact ⟨_, _, _, hclosed⟩
      · exact ⟨_, _, _, rfl⟩
    · exact ⟨_, _, _, rfl⟩
  · rw [if_neg hforms]
    exact ⟨_, _, _, rfl⟩

/-- A record submitted outside a job activation changes no more than its forming and the rules that it triggers. -/
theorem Part.submitOne_rest {p : Part} {c : Nat} {a : Act} (t : Nat) (l : List Byte) (hcore : p.core c = some a) (hjob : a.cmd.job = none) :
    ∃ regs hvs plots rules, p.submitOne t c l = { p with regs := regs, hvs := hvs, plots := plots, rules := rules } := by
  have hnone : (p.core c).bind (·.cmd.job) = none := by simp [hcore, hjob]
  unfold Part.submitOne
  extract_lets k ty flags body q
  have hq : ∃ regs hvs plots, q = { p with regs := regs, hvs := hvs, plots := plots } := by
    simp only [q, hnone]
    exact p.form_rest ..
  obtain ⟨regs, hvs, plots, hq⟩ := hq
  split
  · have hnoted := (Part.RecordsOnly.noteEvent q k (leNat ((l.drop 0x20).take 4))).1
    rw [hq] at hnoted ⊢
    exact ⟨_, _, _, _, hnoted⟩
  · exact ⟨regs, hvs, plots, p.rules, hq⟩

theorem Part.callSubmit_count (p : Part) (t c addr : Nat) {n : Nat} (hn : n = 0 ∨ 63 < n) : p.callSubmit t c addr n = p.ret c (-1) 0 :=
  if_pos hn

section
variable {p : Part} {c addr n : Nat} {a : Act} (t : Nat) (hcore : p.core c = some a) (hpos : 0 < n) (hmax : n ≤ 63)
include hcore hpos hmax

theorem Part.callSubmit_outside (hout : p.img.window a.cmd.plot < addr + 64 * n) : p.callSubmit t c addr n = p.ret c (-2) 0 := by
  have hcount : ¬ (n = 0 ∨ 63 < n) := by omega
  simp [Part.callSubmit, hcount, Part.inWindow, Part.caller_of_core hcore, hout]

/-- In the window the records are those that stand there, in order. -/
theorem Part.callSubmit_within (hin : addr + 64 * n ≤ p.img.window a.cmd.plot) :
    p.callSubmit t c addr n =
      let x := Part.submitAll t c ((List.range n).map fun i => p.load (winBase a.cmd.plot + addr + 64 * i) 64) p
      x.2.ret c (if x.1 = 0 then -1 else (x.1 : Int)) 0 := by
  have hcount : ¬ (n = 0 ∨ 63 < n) := by omega
  simp only [Part.callSubmit, hcount, Part.inWindow, Part.caller_of_core hcore, hin, decide_true, Bool.not_true, Bool.false_eq_true,
    if_false]

/-- A first record that Harvest rejects is an error, and no record is formed. -/
theorem Part.callSubmit_rejected (hin : addr + 64 * n ≤ p.img.window a.cmd.plot)
    (hbad : p.submitOk c (p.load (winBase a.cmd.plot + addr) 64) = false) : p.callSubmit t c addr n = p.ret c (-1) 0 := by
  obtain ⟨m, rfl⟩ := Nat.exists_eq_add_one.2 hpos
  rw [Part.callSubmit_within t hcore hpos hmax hin, List.range_succ_eq_map]
  simp [Part.submitAll, hbad]

end

/-- One accepted record is formed, and the call returns the count 1. -/
theorem Part.callSubmit_one {p : Part} {c addr : Nat} {a : Act} (t : Nat) (hcore : p.core c = some a)
    (hin : addr + 64 * 1 ≤ p.img.window a.cmd.plot) (hok : p.submitOk c (p.load (winBase a.cmd.plot + addr) 64) = true) :
    p.callSubmit t c addr 1 = (p.submitOne t c (p.load (winBase a.cmd.plot + addr) 64)).ret c 1 0 := by
  rw [Part.callSubmit_within t hcore (by decide) (by decide) hin]
  simp [Part.submitAll, hok]

/-- Settles O53, call by call: what each call returns, the bytes that JOB_INPUT copies, and what SUBMIT's refusals and its single record leave. -/
theorem answeringCalls : Obligations.AnsweringCalls := by
  intro c a s hs hc
  have ⟨hcore, hcalls, _⟩ := hc
  have hcan := Part.calls_wf hcalls
  intro k
  refine ⟨?time, fun pipe => completes_lookup hs hc (next_steerSeq c pipe s hs.1 hcan),
    fun m => completes_lookup hs hc (next_modelState c m s hs.1 hcan), fun buf hjob => ?inputOutside, fun buf j hjob hin => ?input,
    fun addr n hn => ?count, fun addr n hpos hmax hout => ?outside, fun addr n hpos hmax hin => ?submit⟩
  case time =>
    have he := next_time c s hs.1 hcan
    rw [Part.callTime_ret _ _ s.ns_lt] at he
    exact completes_ret hs hc he
  case inputOutside =>
    have he := next_jobInput c buf s hs.1 hcan
    rw [Part.callJobInput_outside buf hcore hjob] at he
    exact completes_ret hs hc he
  case input =>
    have he := next_jobInput c buf s hs.1 hcan
    rw [Part.callJobInput_copied buf hcore hjob hin] at he
    have hstored := completes_store_ret hs hc _ (s.part.jobInput j) he
    rw [Part.jobInput_length] at hstored ⊢
    exact hstored
  case count =>
    have he := next_submit c addr n s hs.1 hcan
    rw [Part.callSubmit_count _ _ _ _ hn] at he
    exact completes_ret hs hc he
  case outside =>
    have he := next_submit c addr n s hs.1 hcan
    rw [Part.callSubmit_outside _ hcore hpos hmax hout] at he
    exact completes_ret hs hc he
  case submit =>
    have he := next_submit c addr n s hs.1 hcan
    refine ⟨fun hbad => ?rejected, he, fun hn hjob hok => ?accepted⟩
    case rejected =>
      rw [Part.callSubmit_rejected _ hcore hpos hmax hin hbad] at he
      exact completes_ret hs hc he
    case accepted =>
      subst hn
      rw [Part.callSubmit_one _ hcore hin hok] at he
      obtain ⟨regs, hvs, plots, rules, hone⟩ := Part.submitOne_rest s.ns (s.part.load (winBase k + addr) 64) hcore hjob
      have hkept : (s.part.submitOne s.ns c (s.part.load (winBase k + addr) 64)).core c = some a := by
        rw [hone]
        exact hcore
      rw [Part.ret_of_core hkept, hone] at he
      exact completes_of_still he hs.2 ⟨rfl, rfl, rfl⟩

end Sys2Proof.Machine
end

section
/-! SUPPORT. The order in which ready commands are taken (R392): the first of a list, the highest priority of a list, the choice between
real-time and best-effort commands, and the obligation about it. -/

namespace Sys2Proof.Machine

/-- Under a strict weak order a list that is not empty has a first member, and no member precedes it. -/
theorem exists_best {lt : Cmd → Cmd → Bool} (hasymm : ∀ a b, lt a b = true → lt b a = false)
    (htrans : ∀ a b c, lt b a = false → lt c b = false → lt c a = false) {l : List Cmd} (h : l ≠ []) :
    ∃ c, best lt l = some c ∧ c ∈ l ∧ ∀ d ∈ l, lt d c = false := by
  have hirrefl : ∀ a, lt a a = false := fun a => Bool.eq_false_iff.2 fun ha => Bool.eq_false_iff.1 (hasymm a a ha) ha
  induction l with
  | nil => exact absurd rfl h
  | cons b r ih =>
    by_cases hr : r = []
    · subst hr
      exact ⟨b, rfl, List.mem_cons_self, fun d hd => List.mem_singleton.1 hd ▸ hirrefl d⟩
    · obtain ⟨c, hc, hmem, hfirst⟩ := ih hr
      rw [best, hc]
      by_cases hbefore : lt c b = true
      · exact ⟨c, if_pos hbefore, List.mem_cons_of_mem b hmem, List.forall_mem_cons.2 ⟨hasymm c b hbefore, hfirst⟩⟩
      · have hcb : lt c b = false := Bool.eq_false_iff.2 hbefore
        exact ⟨b, if_neg hbefore, List.mem_cons_self,
          List.forall_mem_cons.2 ⟨hirrefl b, fun d hd => htrans b c d hcb (hfirst d hd)⟩⟩

/-- Of two real-time commands the one with the older CAPTURE_TS precedes, then the one of the lower pipeline. -/
def Part.rtBefore (p : Part) (a b : Cmd) : Bool :=
  decide (p.cmdTs a < p.cmdTs b ∨ (p.cmdTs a = p.cmdTs b ∧ p.cmdPipe a < p.cmdPipe b))

theorem Part.rtBefore_iff (p : Part) (a b : Cmd) :
    p.rtBefore a b = true ↔ p.cmdTs a < p.cmdTs b ∨ (p.cmdTs a = p.cmdTs b ∧ p.cmdPipe a < p.cmdPipe b) := decide_eq_true_iff

theorem Part.rtBefore_eq_false (p : Part) (a b : Cmd) :
    p.rtBefore a b = false ↔ p.cmdTs b < p.cmdTs a ∨ (p.cmdTs b = p.cmdTs a ∧ p.cmdPipe b ≤ p.cmdPipe a) := by
  rw [Bool.eq_false_iff, ne_eq, p.rtBefore_iff]
  omega

theorem Part.exists_best_rt (p : Part) {l : List Cmd} (h : l ≠ []) :
    ∃ c, best p.rtBefore l = some c ∧ c ∈ l ∧ ∀ d ∈ l, p.rtBefore d c = false := by
  refine exists_best (fun a b hab => ?_) (fun a b c hba hcb => ?_) h
  · rw [Part.rtBefore_iff] at hab
    rw [Part.rtBefore_eq_false]
    omega
  · rw [Part.rtBefore_eq_false] at hba hcb ⊢
    omega

/-- Where a real-time command is ready, the first real-time one is taken. -/
theorem Part.exists_pick_rt {p : Part} {l : List Cmd} (unit : Nat) (h : ∃ d ∈ l, p.cmdRt d = true) :
    ∃ c, p.pick l unit = some c ∧ c ∈ l ∧ p.cmdRt c = true ∧ ∀ d ∈ l, p.cmdRt d = true → p.rtBefore d c = false := by
  obtain ⟨e, he, hert⟩ := h
  obtain ⟨c, hc, hmem, hfirst⟩ := p.exists_best_rt (List.ne_nil_of_mem (List.mem_filter.2 ⟨he, hert⟩))
  obtain ⟨hin, hcrt⟩ := List.mem_filter.1 hmem
  refine ⟨c, ?_, hin, hcrt, fun d hd hrt => hfirst d (List.mem_filter.2 ⟨hd, hrt⟩)⟩
  unfold Part.rtBefore at hc
  simp only [Part.pick, hc]

/-- The highest priority of a list of commands; 0 for none. -/
def Part.topPrio (p : Part) (l : List Cmd) : Nat := l.foldl (fun m c => max m (p.cmdPrio c)) 0

/-- The walk to the highest priority from `m` passes below no member, and ends at `m` or at a member's priority. -/
theorem Part.foldl_prio (p : Part) (l : List Cmd) (m : Nat) :
    let top := l.foldl (fun m c => max m (p.cmdPrio c)) m
    m ≤ top ∧ (∀ d ∈ l, p.cmdPrio d ≤ top) ∧ (top = m ∨ ∃ d ∈ l, p.cmdPrio d = top) := by
  induction l generalizing m with
  | nil => exact ⟨Nat.le_refl m, fun d hd => absurd hd List.not_mem_nil, .inl rfl⟩
  | cons c r ih =>
    obtain ⟨hstart, hall, hend⟩ := ih (max m (p.cmdPrio c))
    obtain ⟨hm, hc⟩ := Nat.max_le.1 hstart
    refine ⟨hm, List.forall_mem_cons.2 ⟨hc, hall⟩, ?_⟩
    rcases hend with hkept | ⟨d, hd, hprio⟩
    · rcases Nat.le_total (p.cmdPrio c) m with hle | hle
      · exact .inl (hkept.trans (Nat.max_eq_left hle))
      · exact .inr ⟨c, List.mem_cons_self, (hkept.trans (Nat.max_eq_right hle)).symm⟩
    · exact .inr ⟨d, List.mem_cons_of_mem c hd, hprio⟩

theorem Part.le_topPrio (p : Part) {l : List Cmd} {d : Cmd} (h : d ∈ l) : p.cmdPrio d ≤ p.topPrio l :=
  (p.foldl_prio l 0).2.1 d h

theorem Part.exists_topPrio (p : Part) {l : List Cmd} (h : l ≠ []) : ∃ d ∈ l, p.cmdPrio d = p.topPrio l := by
  obtain ⟨c, hc⟩ := List.exists_mem_of_ne_nil l h
  rcases (p.foldl_prio l 0).2.2 with hzero | hmember
  · have hlow : p.topPrio l ≤ p.cmdPrio c := Nat.le_trans (Nat.le_of_eq hzero) (Nat.zero_le _)
    exact ⟨c, hc, Nat.le_antisymm (p.le_topPrio hc) hlow⟩
  · exact hmember

/-- How far a command's plot comes after the one that the round robin of a unit and priority served last. -/
def Part.turnKey (p : Part) (unit prio : Nat) (c : Cmd) : Nat :=
  (c.plot + 8 - FMap.get (fun _ => 0) p.jobs.turn (unit * 8 + prio)) % 9

theorem Part.exists_best_turn (p : Part) (unit prio : Nat) {l : List Cmd} (h : l ≠ []) :
    ∃ c, best (fun a b => decide (p.turnKey unit prio a < p.turnKey unit prio b)) l = some c ∧ c ∈ l ∧
      ∀ d ∈ l, p.turnKey unit prio c ≤ p.turnKey unit prio d := by
  have hbest := exists_best (lt := fun a b => decide (p.turnKey unit prio a < p.turnKey unit prio b)) (l := l)
  simp only [decide_eq_true_eq, decide_eq_false_iff_not, Nat.not_lt] at hbest
  exact hbest (fun _ _ => Nat.le_of_lt) (fun _ _ _ => Nat.le_trans) h

/-- Without a real-time command the choice is among those of the highest priority, by their plots' turns. -/
theorem Part.pick_bestEffort {p : Part} {l : List Cmd} (unit : Nat) (h : ∀ d ∈ l, p.cmdRt d = false) :
    p.pick l unit = best (fun a b => decide (p.turnKey unit (p.topPrio l) a < p.turnKey unit (p.topPrio l) b))
      (l.filter (fun c => p.cmdPrio c == p.topPrio l)) := by
  have hrt : l.filter p.cmdRt = [] := List.filter_eq_nil_iff.2 fun d hd => Bool.eq_false_iff.1 (h d hd)
  have hall : l.filter (fun c => !p.cmdRt c) = l := List.filter_eq_self.2 fun d hd => by rw [h d hd, Bool.not_false]
  unfold Part.pick
  rw [hrt, hall]
  rfl

/-- So one of the highest priority is taken, whose plot's turn comes first. -/
theorem Part.exists_pick_bestEffort {p : Part} {l : List Cmd} (unit : Nat) (hne : l ≠ []) (h : ∀ d ∈ l, p.cmdRt d = false) :
    ∃ c, p.pick l unit = some c ∧ c ∈ l ∧ ∀ d ∈ l, p.cmdPrio d ≤ p.cmdPrio c ∧
      (p.cmdPrio d = p.cmdPrio c → p.turnKey unit (p.cmdPrio c) c ≤ p.turnKey unit (p.cmdPrio c) d) := by
  have hsame : ∀ d, d ∈ l.filter (fun c => p.cmdPrio c == p.topPrio l) ↔ d ∈ l ∧ p.cmdPrio d = p.topPrio l := fun d => by
    rw [List.mem_filter, beq_iff_eq]
  obtain ⟨e, he, hprio⟩ := p.exists_topPrio hne
  obtain ⟨c, hc, hmem, hfirst⟩ := p.exists_best_turn unit (p.topPrio l) (List.ne_nil_of_mem ((hsame e).2 ⟨he, hprio⟩))
  obtain ⟨hin, htop⟩ := (hsame c).1 hmem
  rw [← p.pick_bestEffort unit h] at hc
  rw [← htop] at hsame hfirst
  exact ⟨c, hc, hin, fun d hd => ⟨htop ▸ p.le_topPrio hd, fun hdprio => hfirst d ((hsame d).2 ⟨hd, hdprio⟩)⟩⟩

/-- Settles O38: an empty list gives none, one with a real-time command its first real-time one, and any other its best-effort choice. -/
theorem dispatchOrder : Obligations.DispatchOrder := by
  intro p l unit
  by_cases hne : l = []
  · subst hne
    rfl
  by_cases hrt : ∃ d ∈ l, p.cmdRt d = true
  · obtain ⟨c, hpick, hmem, hc, hfirst⟩ := Part.exists_pick_rt unit hrt
    rw [hpick]
    exact ⟨hmem, fun d hd hdrt => ⟨hc, (p.rtBefore_eq_false d c).1 (hfirst d hd hdrt)⟩,
      fun hno => absurd hc (Bool.eq_false_iff.1 hno)⟩
  · have hno : ∀ d ∈ l, p.cmdRt d = false := fun d hd => Bool.eq_false_iff.2 fun hd' => hrt ⟨d, hd, hd'⟩
    obtain ⟨c, hpick, hmem, hfirst⟩ := Part.exists_pick_bestEffort unit hne hno
    rw [hpick]
    exact ⟨hmem, fun d hd hdrt => absurd ⟨d, hd, hdrt⟩ hrt, fun _ => hfirst⟩

end Sys2Proof.Machine
end

section
/-! SUPPORT. The registers by which a stake is taken and released (R401, R402): where they stand, who reaches them, and what a write of 1
orders; with the obligation about stakes. -/

namespace Sys2Proof.Machine

open Sys2Proof.Claim

/-- A row of 256 that stand 0x10 apart has one register for each stake. -/
theorem findRow_stake {off k : Nat} (l : List FieldSpec) (rs : List RegRow) (hk : k < 256) :
    findRow (⟨off, 256, 0x10, 1, 0, l⟩ :: rs) (off + k * 0x10) = some (⟨off, 256, 0x10, 1, 0, l⟩, k, 0) := by
  have hfind : RegRow.find ⟨off, 256, 0x10, 1, 0, l⟩ (off + k * 0x10) = some (k, 0) := by
    have hin : ¬ 256 ≤ k := by omega
    simp [RegRow.find, hin, hk]
  rw [findRow, hfind]

theorem regAt_stkTake {k : Nat} (hk : k < 256) : regAt (R.STK_TAKE k) = some (⟨0, 256, 0x10, 1, 0, [⟨0, 0, .w1s, 0⟩]⟩, k, 0) := by
  have hblk : R.STK_TAKE k / 0x100000 = 11 := by unfold R.STK_TAKE; omega
  have hoff : R.STK_TAKE k % 0x100000 = 0 + k * 0x10 := by unfold R.STK_TAKE; omega
  rw [regAt, hblk, hoff]
  exact findRow_stake _ _ hk

theorem regAt_stkRel {k : Nat} (hk : k < 256) : regAt (R.STK_REL k) = some (⟨0xc, 256, 0x10, 1, 0, [⟨0, 0, .wo, 0⟩]⟩, k, 0) := by
  have hblk : R.STK_REL k / 0x100000 = 11 := by unfold R.STK_REL; omega
  have hoff : R.STK_REL k % 0x100000 = 0xc + k * 0x10 := by unfold R.STK_REL; omega
  rw [regAt, hblk, hoff]
  simp only [regsOf, regsSTK, List.cons_append, List.nil_append]
  iterate 3 rw [findRow_absent _ _ (by omega)]
  exact findRow_stake _ _ hk

/-! Who reaches them (R30, R37). -/

/-- `a` is an implemented register of stake `k`. -/
def IsStakeReg (k a : Nat) : Prop := k < 256 ∧ a / 0x10 = 0xb0000 + k ∧ a % 4 = 0 ∧ (regAt a).isSome = true

theorem IsStakeReg.take {k : Nat} (hk : k < 256) : IsStakeReg k (R.STK_TAKE k) :=
  ⟨hk, by unfold R.STK_TAKE; omega, by unfold R.STK_TAKE; omega, by rw [regAt_stkTake hk]; rfl⟩

theorem IsStakeReg.rel {k : Nat} (hk : k < 256) : IsStakeReg k (R.STK_REL k) :=
  ⟨hk, by unfold R.STK_REL; omega, by unfold R.STK_REL; omega, by rw [regAt_stkRel hk]; rfl⟩

/-- A stake's registers are none of the mailbox's copies. -/
theorem IsStakeReg.copyOf {k a : Nat} (h : IsStakeReg k a) : copyOf a = a := by
  obtain ⟨-, haddr, -⟩ := h
  exact if_neg (by omega)

/-- The plot that owns a stake finds its registers on its page. -/
theorem IsStakeReg.pageAt {k a : Nat} (h : IsStakeReg k a) (p : Part) :
    p.pageAt (p.img.stakeOwner k) (a / 0x100000) (a % 0x100000) = .reg a := by
  obtain ⟨hk, haddr, -, hrow⟩ := h
  have hblk : a / 0x100000 = 11 := by omega
  have hself : 11 * 0x100000 + a % 0x100000 = a := by omega
  have hstakes : a % 0x100000 < 0x1000 := by omega
  have hindex : a % 0x100000 / 0x10 = k := by omega
  rw [Part.pageAt, hblk]
  simp only [hself, hstakes, hindex, slotHit, hrow]
  simp

/-- Plot 0 firmware, or the stake's owner, reaches a register of the stake. -/
theorem IsStakeReg.hit {k a : Nat} (h : IsStakeReg k a) {s : State} {w : Who} (hw : Reaches s w (s.part.img.stakeOwner k)) :
    s.part.hit w (w.addrOf a) 4 true = .reg a := by
  have hpage := h.pageAt s.part
  have hcopy := h.copyOf
  obtain ⟨hk, haddr, halign, hrow⟩ := h
  obtain ⟨hkind, -, hplot⟩ := hw
  by_cases hp : w.plot = 0
  · exact s.part.hit_firmware true hkind hp (by omega) halign (by rw [implemented, hcopy]; exact hrow)
  · have hp' : w.plot.val ≠ 0 := fun h0 => hp (Fin.ext h0)
    exact s.part.hit_page true hkind hp' (by omega) (by omega) halign (by rw [hplot.resolve_left hp]; exact hpage)

/-- A context's write of a stake's register, by an initiator that reaches it. -/
theorem IsStakeReg.registerWrite {k a : Nat} (h : IsStakeReg k a) {s : State} {w : Who} (hw : Reaches s w (s.part.img.stakeOwner k))
    (ctx : Nat) (v : Word) : s.part.registerWrite s.ns w ctx (w.addrOf a) 4 v = s.part.regStore s.ns w ctx a v := by
  rw [Part.registerWrite, h.hit hw]
  exact if_pos h.copyOf

/-! What a write of 1 orders. -/

/-- A write in the Stakes' block follows the register's own rule, or else its access codes. -/
theorem Part.regStore_stk (p : Part) (t : Nat) (w : Who) (ctx : Nat) {a i j : Nat} {r : RegRow} (v : Word) (h : a / 0x100000 = 11)
    (hr : regAt a = some (r, i, j)) :
    p.regStore t w ctx a v = (p.writeBack t ctx (0xb00000 + r.off) i j v).getD (p.writeFields a v r.fields) := by
  have hgated : p.gatedReg a = false := by simp [Part.gatedReg, h, blkBED]
  have hshut : p.ringShut a = false := by
    have hpast : ¬ a < 0x719000 := by omega
    simp [Part.ringShut, isHostRing, hpast]
  unfold Part.regStore
  rw [hr]
  simp only [hgated, hshut, h, rowKey]
  rfl

theorem Part.writeBack_stkTake (p : Part) (t ctx k j : Nat) : p.writeBack t ctx (R.STK_TAKE 0) k j 1 = some (p.stakeTake k ctx) := by
  unfold Part.writeBack
  rw [if_neg (by decide)]
  exact if_pos rfl

theorem Part.writeBack_stkRel (p : Part) (t ctx k j : Nat) : p.writeBack t ctx (R.STK_REL 0) k j 1 = some (p.stakeRel k ctx) := by
  unfold Part.writeBack
  iterate 2 rw [if_neg (by decide)]
  exact if_pos rfl

theorem Part.regStore_stkTake (p : Part) (t : Nat) (w : Who) (ctx : Nat) {k : Nat} (hk : k < 256) :
    p.regStore t w ctx (R.STK_TAKE k) 1 = p.stakeTake k ctx := by
  rw [p.regStore_stk t w ctx 1 (by unfold R.STK_TAKE; omega) (regAt_stkTake hk), show 0xb00000 + 0 = R.STK_TAKE 0 from rfl,
    Part.writeBack_stkTake, Option.getD_some]

theorem Part.regStore_stkRel (p : Part) (t : Nat) (w : Who) (ctx : Nat) {k : Nat} (hk : k < 256) :
    p.regStore t w ctx (R.STK_REL k) 1 = p.stakeRel k ctx := by
  rw [p.regStore_stk t w ctx 1 (by unfold R.STK_REL; omega) (regAt_stkRel hk), show 0xb00000 + 0xc = R.STK_REL 0 from rfl,
    Part.writeBack_stkRel, Option.getD_some]

/-! What taking and releasing do to a stake. -/

theorem Part.stakeTake_free {p : Part} {k : Nat} (ctx : Nat) (h : p.get (F.STK_TAKE_TAKE k) = 0) :
    p.stakeTake k ctx = (p.set (F.STK_TAKE_TAKE k)).put (F.STK_OWNER_CTX k) ctx :=
  if_neg (by simp [Part.on, h])

theorem Part.stakeTake_held {p : Part} {k : Nat} (ctx : Nat) (h : p.get (F.STK_TAKE_TAKE k) = 1) :
    p.stakeTake k ctx = p.addSat (F.STK_STAT_CONTEND k) 1 :=
  if_pos ((p.on_iff _).2 h)

theorem Part.stakeRel_owner {p : Part} {k ctx : Nat} (h : p.get (F.STK_TAKE_TAKE k) = 1 ∧ p.get (F.STK_OWNER_CTX k) = ctx) :
    p.stakeRel k ctx = ((p.clr (F.STK_TAKE_TAKE k)).put (F.STK_OWNER_CTX k) 0).clr (F.STK_STAT_BLIGHTED k) :=
  if_pos (by simp [Part.on, h])

theorem Part.stakeRel_other {p : Part} {k ctx : Nat} (h : ¬ (p.get (F.STK_TAKE_TAKE k) = 1 ∧ p.get (F.STK_OWNER_CTX k) = ctx)) :
    p.stakeRel k ctx = p.addSat (F.STK_STAT_CONTEND k) 1 :=
  if_neg (by simpa [Part.on] using h)

/-- The registers of one stake are three different ones. -/
theorem stk_ne (k : Nat) : R.STK_TAKE k ≠ R.STK_OWNER k ∧ R.STK_TAKE k ≠ R.STK_STAT k ∧ R.STK_OWNER k ≠ R.STK_STAT k := by
  unfold R.STK_TAKE R.STK_OWNER R.STK_STAT
  omega

section
variable {s : State} {w : Who} {ctx k : Nat} {Q : State → Prop} (hs : Ready s) (hctx : ctx < 2 ^ 32) (hk : k < 256)
  (hw : Reaches s w (s.part.img.stakeOwner k))
include hs hctx hk hw

/-- A write of 1 to STK_TAKE by an initiator that reaches it takes the stake for its context. -/
theorem completes_stkTake (hq : Q { s with part := s.part.stakeTake k ctx }) : Completes (.stkTake w ctx k) s Q := by
  have hissues : s.part.issues w = true := hw.2.1
  have he := next_stkTake w ctx k s hs.1 (by simpa [Instr.wf, hk, hissues] using hctx)
  rw [(IsStakeReg.take hk).registerWrite hw, s.part.regStore_stkTake s.ns w ctx hk] at he
  refine completes_of_still he ?_ hq
  unfold Part.stakeTake
  split <;> exact hs.2

/-- A write of 1 to STK_REL by an initiator that reaches it releases the stake for its context. -/
theorem completes_stkRel (hq : Q { s with part := s.part.stakeRel k ctx }) : Completes (.stkRel w ctx k) s Q := by
  have hissues : s.part.issues w = true := hw.2.1
  have he := next_stkRel w ctx k s hs.1 (by simpa [Instr.wf, hk, hissues] using hctx)
  rw [(IsStakeReg.rel hk).registerWrite hw, s.part.regStore_stkRel s.ns w ctx hk] at he
  refine completes_of_still he ?_ hq
  unfold Part.stakeRel
  split <;> exact hs.2

end

/-- A counted contention shows in CONTEND, which saturates, and nowhere else. -/
theorem stake_contended (s : State) (k : Nat) :
    let q := s.part.addSat (F.STK_STAT_CONTEND k) 1
    q.get (F.STK_STAT_CONTEND k) = min (s.part.get (F.STK_STAT_CONTEND k) + 1) 65535 ∧
      q.get (F.STK_STAT_BLIGHTED k) = s.part.get (F.STK_STAT_BLIGHTED k) ∧ RegsOnly [R.STK_STAT k] s { s with part := q } := by
  refine ⟨?contend, ?blighted, regsOnly_of_regs rfl fun a ha => Part.reg_put_other _ _ _ (List.ne_of_not_mem_cons ha)⟩
  case contend =>
    refine (Part.get_put_self _ _ _ (show 31 < 32 by decide)).trans (Nat.mod_eq_of_lt ?_)
    show min _ (2 ^ 16 - 1) < 2 ^ 16
    omega
  case blighted => exact Part.get_put_disjoint _ _ _ _ (.inl (show 0 < 16 by decide))

/-- A free stake taken is held by the context that wrote. -/
theorem stake_taken (s : State) {ctx : Nat} (hctx : ctx < 2 ^ 32) (k : Nat) :
    let q := (s.part.set (F.STK_TAKE_TAKE k)).put (F.STK_OWNER_CTX k) ctx
    q.get (F.STK_TAKE_TAKE k) = 1 ∧ q.get (F.STK_OWNER_CTX k) = ctx ∧ RegsOnly [R.STK_TAKE k, R.STK_OWNER k] s { s with part := q } := by
  refine ⟨?take, Part.get_put_word _ _ hctx, regsOnly_of_regs rfl fun a ha => ?rest⟩
  case take => exact (Part.get_put_reg _ (F.STK_OWNER_CTX k) (F.STK_TAKE_TAKE k) _ (stk_ne k).1).trans (Part.get_put_bit _ _ 0 1 (by decide))
  case rest =>
    obtain ⟨htake, howner⟩ : a ≠ R.STK_TAKE k ∧ a ≠ R.STK_OWNER k := by simpa using ha
    exact (Part.reg_put_other _ _ _ howner).trans (Part.reg_put_other _ _ _ htake)

/-- A stake released is free, has no owner, and is no longer blighted; its count stays. -/
theorem stake_released (s : State) (k : Nat) :
    let q := ((s.part.clr (F.STK_TAKE_TAKE k)).put (F.STK_OWNER_CTX k) 0).clr (F.STK_STAT_BLIGHTED k)
    q.get (F.STK_TAKE_TAKE k) = 0 ∧ q.get (F.STK_OWNER_CTX k) = 0 ∧ q.get (F.STK_STAT_BLIGHTED k) = 0 ∧
      q.get (F.STK_STAT_CONTEND k) = s.part.get (F.STK_STAT_CONTEND k) ∧
      RegsOnly [R.STK_TAKE k, R.STK_OWNER k, R.STK_STAT k] s { s with part := q } := by
  obtain ⟨htakeOwner, htakeStat, hownerStat⟩ := stk_ne k
  have hbefore : ∀ f : Fld, f.reg ≠ R.STK_TAKE k → f.reg ≠ R.STK_OWNER k →
      ((s.part.clr (F.STK_TAKE_TAKE k)).put (F.STK_OWNER_CTX k) 0).get f = s.part.get f := fun f htake howner =>
    (Part.get_put_reg _ _ f _ howner).trans (Part.get_put_reg _ _ f _ htake)
  refine ⟨?take, ?owner, Part.get_put_bit _ _ 0 0 (by decide), ?contend, regsOnly_of_regs rfl fun a ha => ?rest⟩
  case take =>
    exact (Part.get_put_reg _ (F.STK_STAT_BLIGHTED k) (F.STK_TAKE_TAKE k) _ htakeStat).trans
      ((Part.get_put_reg _ (F.STK_OWNER_CTX k) (F.STK_TAKE_TAKE k) _ htakeOwner).trans (Part.get_put_bit _ _ 0 0 (by decide)))
  case owner =>
    exact (Part.get_put_reg _ (F.STK_STAT_BLIGHTED k) (F.STK_OWNER_CTX k) _ hownerStat).trans (Part.get_put_word _ _ (by decide))
  case contend =>
    exact (Part.get_put_disjoint _ _ _ _ (.inr (show 0 < 16 by decide))).trans
      (hbefore (F.STK_STAT_CONTEND k) htakeStat.symm hownerStat.symm)
  case rest =>
    obtain ⟨htake, howner, hstat⟩ : a ≠ R.STK_TAKE k ∧ a ≠ R.STK_OWNER k ∧ a ≠ R.STK_STAT k := by simpa using ha
    exact (Part.reg_put_other _ _ _ hstat).trans ((Part.reg_put_other _ _ _ howner).trans (Part.reg_put_other _ _ _ htake))

/-- Settles O39: the write reaches the stake's register, and the stake is taken (R401), released (R402), or contended. -/
theorem stakes : Obligations.Stakes := by
  refine ⟨fun w ctx k s hs hctx hk hw => ⟨fun hfree => ?_, fun hheld => ?_⟩,
    fun w ctx k s hs hctx hk hw => ⟨fun howner => ?_, fun hother => ?_⟩⟩
  · refine completes_stkTake hs hctx hk hw ?_
    rw [Part.stakeTake_free ctx hfree]
    exact stake_taken s hctx k
  · refine completes_stkTake hs hctx hk hw ?_
    rw [Part.stakeTake_held ctx hheld]
    exact stake_contended s k
  · refine completes_stkRel hs hctx hk hw ?_
    rw [Part.stakeRel_owner howner]
    exact stake_released s k
  · refine completes_stkRel hs hctx hk hw ?_
    rw [Part.stakeRel_other hother]
    exact stake_contended s k

end Sys2Proof.Machine
end

section
/-! SUPPORT. Which commands run at all (00_scope.md R3, R633): an ill-formed command has no occasion, and after THERMTRIP_N every command
but two finds its units outside their operating conditions. -/

namespace Sys2Proof.Machine

open Sys2Proof.Claim

/-- `r` is a guarded effect of command `c` on `s`: its guard is false where `c` is ill-formed, and its units need conditions that
THERMTRIP_N leaves, unless `c` is the detector's own command. -/
def Instr.Guards (c : Instr) (s : State) (r : Result) : Prop :=
  ∃ bad can eff, r = s.runIf bad can eff ∧ (s.part.outside true = false → bad = false) ∧
    (c ≠ .thermtrip → s.part.pins.thermtrip = true → bad = true) ∧ (c.wf = false → ∀ t p, can t p = false)

/-- Units that work where those that run from a PLL do: the always-on domain needs no more. -/
theorem Part.inside_aon_of_inside_pll {p : Part} (h : p.outside true = false) : p.outside false = false := by
  simp only [Part.outside, Bool.or_eq_false_iff] at h ⊢
  exact ⟨h.1, rfl⟩

section
variable {c : Instr} {s : State} {can : Nat → Part → Bool} {eff : Nat → Part → Part} (hcan : c.wf = false → ∀ t p, can t p = false)
include hcan

theorem State.run_guards : Instr.Guards c s (s.run can eff) :=
  ⟨_, can, eff, rfl, id, fun _ h => Part.outside_of_thermtrip h true, hcan⟩

theorem State.runAon_guards : Instr.Guards c s (s.runAon can eff) :=
  ⟨_, can, eff, rfl, Part.inside_aon_of_inside_pll, fun _ h => Part.outside_of_thermtrip h false, hcan⟩

theorem State.runTap_guards : Instr.Guards c s (s.runTap can eff) := by
  refine ⟨_, can, eff, rfl, fun h => ?_, fun _ h => h, hcan⟩
  simp only [Part.outside, Bool.or_eq_false_iff] at h
  exact h.1.1

end

/-- Every command but a power-on reset is a guarded effect whose guard and conditions are as said. -/
theorem exec_guards (c : Instr) (s : State) (hpor : c ≠ .porstNAssert) : Instr.Guards c s (exec c s) := by
  cases c
  case porstNAssert => exact absurd rfl hpor
  case thermtrip =>
    exact ⟨false, fun _ p => !p.pins.thermtrip, fun _ p => p.thermtrip, rfl, fun _ => rfl, fun h => absurd rfl h, fun h => nomatch h⟩
  all_goals
    dsimp only [exec]
    first
      | exact State.run_guards (fun h => nomatch (show true = false from h))
      | exact State.runAon_guards (fun h => nomatch (show true = false from h))
      | exact State.runTap_guards (fun h => nomatch (show true = false from h))
      | exact State.run_guards (fun h _ _ => by simp [h])
      | exact State.runAon_guards (fun h _ _ => by simp [h])

/-- Settles O1: the step on a queue with a front runs that command, by the definition of a step. -/
theorem stepRunsFront : Obligations.StepRunsFront := fun _ _ _ => rfl

/-- Settles O3: an ill-formed command's guard is false, so it runs without an effect (the model's choice, assumption 1). -/
theorem illFormedDoesNothing : Obligations.IllFormedDoesNothing := by
  intro c s hwf hin
  have hpor : c ≠ .porstNAssert := fun h => by rw [h] at hwf; cases hwf
  obtain ⟨bad, can, eff, hexec, hbad, -, hcan⟩ := exec_guards c s hpor
  rw [hexec, hbad hin, State.runIf, if_neg Bool.false_ne_true, hcan hwf, if_neg Bool.false_ne_true]

/-- Settles O4: after THERMTRIP_N the conditions of every other command are left (the fault is the model's choice, assumption 63), and a
power-on reset gives THERMTRIP_N and the JTAG instruction their reset values. -/
theorem thermtripStopsAll : Obligations.ThermtripStopsAll := by
  refine ⟨fun c s htrip hpor hne => ?stops, fun s _ => ⟨s.powerOn, rfl, rfl, rfl⟩⟩
  obtain ⟨bad, can, eff, hexec, -, hbad, -⟩ := exec_guards c s hpor
  rw [hexec, hbad hne htrip, State.runIf, if_pos rfl]

end Sys2Proof.Machine
end

section
/-! SUPPORT. The detectors of temperature and the TAP (R633, R684 to R686). -/

namespace Sys2Proof.Machine

open Sys2Proof.Claim

/-- The pins as they are are those with THERMTRIP_N asserted, where it is. -/
theorem Part.thermtrip_asserted {p : Part} (h : p.pins.thermtrip = true) : p.thermtrip = p := by
  unfold Part.thermtrip Part.modPins
  rw [← h]

/-- THERMTRIP_N asserts, or stands already. -/
theorem completes_thermtrip {s : State} (hstep : s.part.sdl.step = 0) :
    Completes .thermtrip s (fun t => t = { s with part := s.part.thermtrip }) := by
  cases htrip : s.part.pins.thermtrip
  case false =>
    have he : exec .thermtrip s = .next (s.settle s.part.thermtrip) :=
      State.runTrip_next s (can := fun _ p => !p.pins.thermtrip) (eff := fun _ p => p.thermtrip) (by simp [htrip])
    exact completes_of_still he hstep rfl
  case true =>
    refine ⟨s, ?_, by rw [Part.thermtrip_asserted htrip]⟩
    show s.runTrip (fun _ p => !p.pins.thermtrip) (fun _ p => p.thermtrip) = .next s
    simp [State.runTrip, State.runIf, htrip]

/-- The sensor's state shows in TEMP_HI and nowhere else. -/
theorem tempHi_shown (s : State) (hot : Bool) :
    let q := s.part.tempHi hot
    q.get F.FLT_STATUS_TEMP_HI = hot.toNat ∧ q.get F.FLT_STATUS_FAULT = s.part.get F.FLT_STATUS_FAULT ∧
      q.get F.FLT_STATUS_FAULT_N = s.part.get F.FLT_STATUS_FAULT_N ∧ RegsOnly [R.FLT_STATUS] s { s with part := q } := by
  refine ⟨?hot, Part.get_put_disjoint _ _ _ _ (.inl (by decide)), Part.get_put_disjoint _ _ _ _ (.inr (by decide)),
    regsOnly_of_regs rfl fun a ha => Part.reg_put_other _ _ _ (List.ne_of_not_mem_cons ha)⟩
  exact (Part.get_put_bit _ _ 6 _ (by decide)).trans (by cases hot <;> rfl)

/-- A data scan gives out one word, IDCODE's under IDCODE, and at most draws one free value for it. -/
theorem Part.tap_scan (p : Part) : ∃ x free, p.tap .scan = { p with free := free, out := .tdo x :: p.out } ∧
    (p.pins.jtagIr = 1 → x = idcode) := by
  unfold Part.tap
  by_cases h1 : p.pins.jtagIr = 1
  · exact ⟨idcode, p.free, by simp [h1, Part.emit], fun _ => rfl⟩
  · by_cases h2 : p.pins.jtagIr = 2
    · exact ⟨(Config.freeValue p.free).toNat, p.free + 1, by simp [h2, Part.emit, Part.fresh], fun h => absurd h h1⟩
    · exact ⟨0, p.free, by simp [h1, h2, Part.emit], fun h => absurd h h1⟩

/-- The TAP orders no step of the Sundial. -/
theorem Part.tap_sdl (p : Part) (op : TapOp) : (p.tap op).sdl = p.sdl := by
  cases op
  case scan => obtain ⟨x, free, h, -⟩ := p.tap_scan; rw [h]
  all_goals rfl

/-- Settles O60, by what the detectors and the TAP change. -/
theorem temperatureAndTap : Obligations.TemperatureAndTap := by
  refine ⟨fun s hstep => completes_thermtrip hstep, fun hot s hs hphase => ?temp, fun op s htrip hstep => ?tap⟩
  case temp =>
    exact completes_of_still (next_tempHiChange hot s hs.1 (by simpa using hphase)) hs.2 (tempHi_shown s hot)
  case tap =>
    refine completes_of_still (next_jtagTapUpdate op s htrip rfl) ((congrArg SdlUnit.step (Part.tap_sdl _ op)).trans hstep) ?_
    cases op with
    | reset => exact ⟨⟨rfl, rfl, rfl⟩, rfl, rfl⟩
    | resetWithUpdate ir => exact ⟨⟨rfl, rfl, rfl⟩, rfl, rfl⟩
    | update ir =>
      refine ⟨fun hir => ⟨Nat.mod_eq_of_lt hir, rfl, ?_⟩, rfl, rfl⟩
      simp [Part.tap, Part.modPins, Nat.mod_eq_of_lt hir]
    | scan =>
      obtain ⟨x, free, h, hid⟩ := s.part.tap_scan
      rw [h]
      exact ⟨⟨rfl, x, rfl, hid⟩, rfl, rfl⟩

end Sys2Proof.Machine
end

section
/-! SUPPORT. The DRAM mapping (R461): it splits a group's number into fields, two of them folded by an exclusive or with others. -/

namespace Sys2Proof.Machine

/-- A group is told by its channel, its bank and the number of its 64 groups: channel and bank are folded with bits of that number
alone. -/
theorem group_eq_of_fields {q r : Nat} (hhigh : q / 64 = r / 64) (hch : (q % 4) ^^^ (q / 4096 % 4) = (r % 4) ^^^ (r / 4096 % 4))
    (hbank : (q / 4 % 16) ^^^ (q / 16384 % 16) = (r / 4 % 16) ^^^ (r / 16384 % 16)) : q = r := by
  rw [show q / 4096 = r / 4096 by omega, Nat.xor_left_inj] at hch
  rw [show q / 16384 = r / 16384 by omega, Nat.xor_left_inj] at hbank
  omega

/-- Row and rank together tell the number of a group's 512 groups, with one rank and with two. -/
theorem rows_eq_of_place {ranks q r : Nat}
    (hrank : (if ranks = 2 then q / 512 % 2 else 0) = (if ranks = 2 then r / 512 % 2 else 0))
    (hrow : q / (if ranks = 2 then 1024 else 512) = r / (if ranks = 2 then 1024 else 512)) : q / 512 = r / 512 := by
  split at hrow
  · next h2 => simp only [h2, if_true] at hrank; omega
  · exact hrow

/-- Settles O45: the fields of a place give back the group and the burst within it, and a burst's place in its column is below 7. -/
theorem dramMappingInjective : Obligations.DramMappingInjective := by
  refine ⟨fun ranks a b => ?injective, fun ranks a => ?range⟩
  case injective =>
    intro x y hch hbank hrank hrow hcol
    have hcol' : a / 64 / 7 / 64 % 8 * 8 + a / 64 % 7 = b / 64 / 7 / 64 % 8 * 8 + b / 64 % 7 := hcol
    have hrows : a / 64 / 7 / 512 = b / 64 / 7 / 512 := rows_eq_of_place hrank hrow
    have hgroup : a / 64 / 7 = b / 64 / 7 := group_eq_of_fields (by omega) hch hbank
    omega
  case range =>
    refine ⟨Nat.xor_lt_two_pow (n := 2) (by omega) (by omega), Nat.xor_lt_two_pow (n := 4) (by omega) (by omega), ?_, ?_⟩
    · show a / 64 / 7 / 64 % 8 * 8 + a / 64 % 7 < 64
      omega
    · show (a / 64 / 7 / 64 % 8 * 8 + a / 64 % 7) % 8 ≠ 7
      omega

end Sys2Proof.Machine
end

section
/-! SUPPORT. The two stages of the watchdog (R630 to R632). -/

namespace Sys2Proof.Machine

open Sys2Proof.Claim

/-- `q` is `p` but for what the Shed writes when a window ends: its own registers, NOR, the boot unit, and records. -/
def Part.WindowOnly (p q : Part) : Prop :=
  q = { p with regs := q.regs, nor := q.nor, boot := q.boot, hvs := q.hvs, plots := q.plots, rules := q.rules } ∧
    ∀ a, a / 0x100000 ≠ 0 → a / 0x100000 ≠ 7 → q.reg a = p.reg a

theorem Part.WindowOnly.refl (p : Part) : p.WindowOnly p := ⟨rfl, fun _ _ _ => rfl⟩

theorem Part.WindowOnly.trans {p q r : Part} (h : p.WindowOnly q) (k : q.WindowOnly r) : p.WindowOnly r :=
  ⟨by rw [k.1, h.1], fun a h0 h7 => (k.2 a h0 h7).trans (h.2 a h0 h7)⟩

theorem Part.WindowOnly.put (p : Part) (f : Fld) (n : Nat) (hf : f.reg / 0x100000 = 0) : p.WindowOnly (p.put f n) :=
  ⟨rfl, fun _ ha _ => Part.reg_put_other _ _ _ fun e => ha (e ▸ hf)⟩

theorem Part.WindowOnly.modBoot (p : Part) (f : BootUnit → BootUnit) : p.WindowOnly (p.modBoot f) := ⟨rfl, fun _ _ _ => rfl⟩

theorem Part.WindowOnly.eraseNor (p : Part) (a n : Nat) : p.WindowOnly (p.eraseNor a n) := ⟨rfl, fun _ _ _ => rfl⟩

theorem Part.WindowOnly.program (p : Part) (a : Nat) (l : List Byte) : p.WindowOnly (p.program a l) := ⟨rfl, fun _ _ _ => rfl⟩

theorem Part.WindowOnly.config (p : Part) (t kind code model version d0 d1 : Nat) :
    p.WindowOnly (p.config t 0 kind code model version d0 d1) := by
  have h := Part.RecordsOnly.config p t 0 kind code model version d0 d1 (by decide)
  exact ⟨by rw [h.1], fun a _ h7 => h.2 a h7⟩

theorem Part.WindowOnly.ledPut (p : Part) (t a kind slot code imageSeq cust : Nat) (detail : List Byte) :
    p.WindowOnly (p.ledPut t a kind slot code imageSeq cust detail) := by
  unfold Part.ledPut
  extract_lets seq b
  exact ((Part.WindowOnly.program p _ _).trans (.program _ _ _)).trans (.put _ F.SHD_LEDGER_SEQ_SEQ _ rfl)

theorem Part.WindowOnly.ledger (p : Part) (t kind slot code imageSeq cust : Nat) (detail : List Byte) :
    p.WindowOnly (p.ledger t kind slot code imageSeq cust detail) := by
  unfold Part.ledger
  extract_lets h o q
  have hq : p.WindowOnly q := (Part.WindowOnly.eraseNor p _ _).trans (.ledPut _ _ _ _ _ _ _ _ _)
  split
  · exact .refl p
  · split
    · exact .ledPut p _ _ _ _ _ _ _ _
    · split
      · exact (Part.WindowOnly.eraseNor p _ _).trans (.ledPut _ _ _ _ _ _ _ _ _)
      · split
        · exact hq
        · exact hq.trans (.ledPut _ _ _ _ _ _ _ _ _)

theorem Part.WindowOnly.showSlots (p : Part) : p.WindowOnly p.showSlots :=
  (((Part.WindowOnly.put p F.SHD_SLOTS_A_STATE _ rfl).trans (.put _ F.SHD_SLOTS_B_STATE _ rfl)).trans
    (.put _ F.SHD_SLOT_A_SEQ_IMAGE_SEQ _ rfl)).trans (.put _ F.SHD_SLOT_B_SEQ_IMAGE_SEQ _ rfl)

theorem Part.WindowOnly.windowClose (p : Part) : p.WindowOnly p.windowClose :=
  ((Part.WindowOnly.modBoot p _).trans (.put _ F.SHD_HARD_REMAIN_SECONDS _ rfl)).trans (.put _ F.SHD_BOOT_STATE_ACCEPT_DUE _ rfl)

theorem Part.WindowOnly.orderReplant (p : Part) (o : Order) : p.WindowOnly (p.orderReplant o) := by
  unfold Part.orderReplant
  split
  · exact .refl p
  · exact .modBoot p _

theorem Part.WindowOnly.hardeningFailed (p : Part) (t code metric count : Nat) : p.WindowOnly (p.hardeningFailed t code metric count) := by
  unfold Part.hardeningFailed
  extract_lets q0 q1
  have h1 : p.WindowOnly q1 := ((Part.WindowOnly.ledger p _ _ _ _ _ _ _).trans (.config q0 _ _ _ _ _ _ _)).trans (.showSlots _)
  exact ((h1.trans (.windowClose q1)).trans (.modBoot _ _)).trans (.orderReplant _ _)

/-! Stage 1. -/

/-- What stage 1 sets before core 0 serves its interrupt (R630). -/
def Part.stage1Raised (p : Part) : Part :=
  (((((((p.modWdog (fun w => { w with stage1 := some 0 })).set F.FLT_WDOG_STAT_STAGE1).setFault 2).addSat F.FLT_WDOG_COUNT_COUNT 1).fltEvent
    5).metric 1 0 1).emit .nmi)

/-- How `q` shows that stage 1 has started in `p` (R630). -/
def Part.ShowsStage1 (p q : Part) : Prop :=
  q.wdog.stage1 = some 0 ∧ q.get F.FLT_WDOG_STAT_STAGE1 = 1 ∧
    q.get F.FLT_WDOG_COUNT_COUNT = min (p.get F.FLT_WDOG_COUNT_COUNT + 1) 65535 ∧
    (q.get F.FLT_STATUS_FAULT).testBit 2 = true ∧ q.get F.FLT_STATUS_FAULT_N = 1

/-- Stage 1 stays shown by whatever leaves the fault unit and the watchdog's stage. -/
theorem Part.ShowsStage1.congr {p q r : Part} (h : p.ShowsStage1 q) (hw : r.wdog.stage1 = q.wdog.stage1)
    (hreg : ∀ a ∈ [R.FLT_WDOG_STAT, R.FLT_WDOG_COUNT, R.FLT_STATUS], r.reg a = q.reg a) : p.ShowsStage1 r := by
  obtain ⟨hstage, hstat, hcount, hfault, hpin⟩ := h
  have get (f : Fld) (hf : f.reg ∈ [R.FLT_WDOG_STAT, R.FLT_WDOG_COUNT, R.FLT_STATUS]) : r.get f = q.get f := by
    rw [Part.get, Part.get, hreg _ hf]
  exact ⟨hw.trans hstage, by rw [get _ (by decide), hstat], by rw [get _ (by decide), hcount], by rw [get _ (by decide), hfault],
    by rw [get _ (by decide), hpin]⟩

theorem Part.ShowsStage1.window {p q r : Part} (h : p.ShowsStage1 q) (k : q.WindowOnly r) : p.ShowsStage1 r :=
  h.congr (by rw [k.1]) fun a ha => by fin_cases ha <;> exact k.2 _ (by decide) (by decide)

/-- A fault condition that is set stands, and asserts FAULT_N (R618). -/
theorem Part.setFault_asserts (p : Part) {i : Nat} (hi : i < 6) :
    ((p.setFault i).get F.FLT_STATUS_FAULT).testBit i = true ∧ (p.setFault i).get F.FLT_STATUS_FAULT_N = 1 := by
  have hbit : ((p.setBit F.FLT_STATUS_FAULT i).get F.FLT_STATUS_FAULT).testBit i = true := Part.testBit_setBit p _ (by decide) hi
  refine ⟨?_, ?_⟩
  · rw [Part.setFault, Part.faultN, Part.get_put_disjoint _ _ _ _ (.inl (by decide))]
    exact hbit
  · rw [Part.setFault, Part.faultN, if_neg fun h => by simp [h] at hbit]
    exact Part.get_put_bit _ _ 7 1 (by decide)

/-- What stage 1 sets is what it shows. -/
theorem Part.stage1Raised_shows (p : Part) : p.ShowsStage1 p.stage1Raised := by
  let q0 := (p.modWdog (fun w => { w with stage1 := some 0 })).set F.FLT_WDOG_STAT_STAGE1
  let q1 := q0.setFault 2
  let q2 := q1.addSat F.FLT_WDOG_COUNT_COUNT 1
  have hfault := Part.setFault_asserts q0 (i := 2) (by decide)
  have h2 : p.ShowsStage1 q2 := by
    refine ⟨rfl, ?stat, ?count, ?fault, ?pin⟩
    case stat =>
      exact (Part.get_put_reg _ _ _ _ (by decide)).trans <| (Part.get_put_reg _ _ _ _ (by decide)).trans <|
        (Part.get_put_reg _ _ _ _ (by decide)).trans (Part.get_put_bit _ _ 22 1 (by decide))
    case count =>
      have h : q1.get F.FLT_WDOG_COUNT_COUNT = p.get F.FLT_WDOG_COUNT_COUNT :=
        (Part.get_put_reg _ _ _ _ (by decide)).trans <| (Part.get_put_reg _ _ _ _ (by decide)).trans (Part.get_put_reg _ _ _ _ (by decide))
      exact (Part.get_addSat16 q1 _ 1).trans (by rw [← h]; rfl)
    case fault => exact (congrArg (·.testBit 2) (Part.get_put_reg q1 F.FLT_WDOG_COUNT_COUNT F.FLT_STATUS_FAULT _ (by decide))).trans hfault.1
    case pin => exact (Part.get_put_reg q1 F.FLT_WDOG_COUNT_COUNT F.FLT_STATUS_FAULT_N _ (by decide)).trans hfault.2
  refine h2.congr (r := p.stage1Raised) ?_ fun a ha => ?_
  · exact congrArg (·.wdog.stage1) (Part.FaultUnitOnly.fltEvent q2 5).1
  · exact Part.fltEvent_reg_other q2 5 (by fin_cases ha <;> decide)

/-- Beside what shows it, stage 1 sets its event, counts metric 1 and sends the interrupt. -/
theorem Part.stage1Raised_rest (p : Part) :
    p.stage1Raised.boot.order = p.boot.order ∧ p.stage1Raised.boot.windowOpen = p.boot.windowOpen ∧ p.stage1Raised.nor = p.nor ∧
      p.stage1Raised.sdl = p.sdl ∧ p.RegsWithin [R.FLT_WDOG_STAT, R.FLT_WDOG_COUNT, R.FLT_STATUS, R.FLT_EVENTS] p.stage1Raised := by
  let q2 := (((p.modWdog (fun w => { w with stage1 := some 0 })).set F.FLT_WDOG_STAT_STAGE1).setFault 2).addSat F.FLT_WDOG_COUNT_COUNT 1
  have hev := (Part.FaultUnitOnly.fltEvent q2 5).1
  have h2 : p.RegsWithin [R.FLT_WDOG_STAT, R.FLT_WDOG_COUNT, R.FLT_STATUS, R.FLT_EVENTS] q2 :=
    ((((Part.RegsWithin.refl _ p).put F.FLT_WDOG_STAT_STAGE1 1 (by decide)).put F.FLT_STATUS_FAULT _ (by decide)).put
      F.FLT_STATUS_FAULT_N _ (by decide)).put F.FLT_WDOG_COUNT_COUNT _ (by decide)
  refine ⟨congrArg (·.boot.order) hev, congrArg (·.boot.windowOpen) hev, congrArg (·.nor) hev, congrArg (·.sdl) hev, ?_⟩
  exact h2.trans fun a ha => Part.fltEvent_reg_other q2 5 fun e => ha (by rw [e]; decide)

/-- Stage 1 while none is in progress (R630, R632). -/
theorem Part.wdogStage1_starts {p : Part} (t : Nat) (served : Bool) (h : p.wdog.stage1 = none) :
    p.wdogStage1 t served =
      let q := p.stage1Raised
      if served then
        (if q.boot.windowOpen then q.hardeningFailed t 0xFE 1 (FMap.get (fun _ => 0) q.boot.metrics 16) else q).orderReplant
          { rank := 0, code := 4 }
      else if q.boot.windowOpen then q.modWdog (fun w => { w with failDue := some (q.slot, q.runSeq, q.runCust) })
      else q := by
  rw [Part.wdogStage1, if_neg (by simp [h])]
  rfl

/-- Stage 1 once (R630). -/
theorem Part.wdogStage1_again {p : Part} (t : Nat) (served : Bool) (h : p.wdog.stage1 ≠ none) : p.wdogStage1 t served = p := by
  rw [Part.wdogStage1, if_pos (Option.isSome_iff_ne_none.mpr h)]

section
variable {p : Part} (t : Nat) (h : p.wdog.stage1 = none)
include h

/-- Stage 1 shows whether or not the interrupt is served, within the window or outside it. -/
theorem Part.wdogStage1_shows (served : Bool) : p.ShowsStage1 (p.wdogStage1 t served) := by
  rw [Part.wdogStage1_starts t served h]
  extract_lets q
  have hq : p.ShowsStage1 q := p.stage1Raised_shows
  cases served with
  | true =>
    rw [if_pos rfl]
    split
    · exact (hq.window (.hardeningFailed _ _ _ _ _)).window (.orderReplant _ _)
    · exact hq.window (.orderReplant _ _)
  | false =>
    rw [if_neg Bool.false_ne_true]
    split
    · exact hq.congr rfl fun _ _ => rfl
    · exact hq

/-- Stage 1 orders no step of the Sundial. -/
theorem Part.wdogStage1_sdl (served : Bool) : (p.wdogStage1 t served).sdl = p.sdl := by
  rw [Part.wdogStage1_starts t served h]
  extract_lets q
  have hq : q.sdl = p.sdl := p.stage1Raised_rest.2.2.2.1
  have window {r : Part} (k : q.WindowOnly r) : r.sdl = p.sdl := (congrArg Part.sdl k.1).trans hq
  cases served with
  | true =>
    rw [if_pos rfl]
    split
    · exact window ((Part.WindowOnly.hardeningFailed _ _ _ _ _).trans (.orderReplant _ _))
    · exact window (.orderReplant _ _)
  | false =>
    rw [if_neg Bool.false_ne_true]
    split
    · exact hq
    · exact hq

/-- Outside the window a served interrupt orders the Replant (R632). -/
theorem Part.wdogStage1_served (hw : p.boot.windowOpen = false) :
    p.wdogStage1 t true = p.stage1Raised.orderReplant { rank := 0, code := 4 } := by
  rw [Part.wdogStage1_starts t true h]
  simp only [p.stage1Raised_rest.2.1, hw]
  rfl

/-- Outside the window an interrupt that is not served leaves stage 1 alone. -/
theorem Part.wdogStage1_unserved (hw : p.boot.windowOpen = false) : p.wdogStage1 t false = p.stage1Raised := by
  rw [Part.wdogStage1_starts t false h]
  simp only [p.stage1Raised_rest.2.1, hw]
  rfl

end

/-- Stage 2 is a boot, after the reset of quiesce step 4 (R631). -/
theorem Part.Booted.wdogStage2 (p : Part) (t : Nat) (env : BootEnv) : (p.wdogStage2 t env).Booted := by
  unfold Part.wdogStage2
  extract_lets q
  exact .bootFrom _ t 4 env

/-- Settles O59: what stage 1 raises and what serving it adds, and that stage 2 is a boot. -/
theorem watchdogStages : Obligations.WatchdogStages := by
  refine ⟨fun served s hs hstage c hc hcan => ?first, fun served s hs hup hstage => ?again, fun env s hs hdue => ?second⟩
  case first =>
    have he : exec c s = .next (s.settle (s.part.wdogStage1 s.ns served)) := by
      rcases List.mem_pair.mp hc with rfl | rfl
      · obtain ⟨harmed, hpaused, hremain⟩ := (if_pos rfl).mp hcan
        exact next_watchdogExpiry served s hs.1 (by simp [Part.wdogDue, harmed, hpaused, hstage, hremain])
      · rw [if_neg (by simp)] at hcan
        exact next_shedException served s hs.1 hcan
    have hstep : (s.part.wdogStage1 s.ns served).sdl.step = 0 := by rw [Part.wdogStage1_sdl s.ns hstage served]; exact hs.2
    obtain ⟨h1, h2, h3, h4, h5⟩ := Part.wdogStage1_shows s.ns hstage served
    refine completes_of_still he hstep ⟨h1, h2, h3, h4, h5, fun hw hpending => ?_⟩
    obtain ⟨horder, -, hnor, -, hregs⟩ := s.part.stage1Raised_rest
    cases served with
    | false =>
      rw [Part.wdogStage1_unserved s.ns hstage hw]
      exact ⟨nofun, fun _ => horder, hnor, hregs⟩
    | true =>
      rw [Part.wdogStage1_served s.ns hstage hw]
      have hpend : s.part.stage1Raised.get F.SHD_BOOT_STATE_REPLANT_PENDING = 0 := by
        rw [Part.get, hregs _ (by decide)]
        exact hpending
      refine ⟨fun _ hnone => ?_, nofun, ?_, fun a ha => ?_⟩
      · rw [Part.orderReplant_first _ hpend (horder.trans hnone)]
      · rw [Part.orderReplant, if_neg (by simp [Part.on, hpend])]
        exact hnor
      · rw [Part.orderReplant, if_neg (by simp [Part.on, hpend])]
        exact hregs a ha
  case again =>
    refine completes_of_still (next_shedException served s hs.1 hup) ?_ ?_
    · rw [Part.wdogStage1_again _ _ hstage]; exact hs.2
    · rw [Part.wdogStage1_again _ _ hstage]
  case second => exact completes_booted (next_watchdogStage2 env s hs.1 hdue) (.wdogStage2 _ _ _)

end Sys2Proof.Machine
end

section
/-! SUPPORT. What an event of a plot and a record leave (R488, R585), and operations applied for each of a list of numbers. -/

namespace Sys2Proof.Machine

/-- What relates a part to each step's result relates it to the result of all. -/
theorem Part.each_rel {rel : Part → Part → Prop} (hrefl : ∀ p, rel p p) (htrans : ∀ {p q r}, rel p q → rel q r → rel p r) (p : Part)
    (l : List Nat) (f : Part → Nat → Part) (h : ∀ q k, rel q (f q k)) : rel p (p.each l f) := by
  unfold Part.each
  induction l generalizing p with
  | nil => exact hrefl p
  | cons k r ih => exact htrans (h p k) (ih (f p k))

/-- A pass over places leaves each place that it does not see as it was, and gives each that it sees what its own step gives, where a
step changes its own place alone. -/
theorem Part.each_at {α : Type} (look : Part → Nat → α) (f : Part → Nat → Part) (hother : ∀ q s x, x ≠ s → look (f q s) x = look q x)
    (l : List Nat) (hl : l.Nodup) (p : Part) (x : Nat) :
    (x ∉ l → look (p.each l f) x = look p x) ∧ (x ∈ l → ∃ q, look q x = look p x ∧ look (p.each l f) x = look (f q x) x) := by
  induction l generalizing p with
  | nil => exact ⟨fun _ => rfl, nofun⟩
  | cons s r ih =>
    obtain ⟨hs, hr⟩ := List.nodup_cons.mp hl
    obtain ⟨hout, hin⟩ := ih hr (f p s)
    refine ⟨fun hx => ?_, fun hx => ?_⟩
    · exact (hout fun h => hx (List.mem_cons_of_mem _ h)).trans (hother p s x (List.ne_of_not_mem_cons hx))
    · by_cases he : x = s
      · subst he
        exact ⟨p, rfl, hout hs⟩
      · obtain ⟨q, hq, hlook⟩ := hin (List.mem_of_ne_of_mem he hx)
        exact ⟨q, hq.trans (hother p s x he), hlook⟩

/-- An activation that becomes ready changes the Runners and the ready commands. -/
theorem Part.tryActivate_rest (p : Part) (r : Nat) : ∃ apc jobs, p.tryActivate r = { p with apc := apc, jobs := jobs } := by
  unfold Part.tryActivate
  extract_lets u job c
  split
  · exact ⟨_, _, rfl⟩
  · exact ⟨_, _, rfl⟩

/-- An event of a plot changes no more. -/
theorem Part.plotEvent_rest (p : Part) (plot bit : Nat) : ∃ apc jobs, p.plotEvent plot bit = { p with apc := apc, jobs := jobs } := by
  unfold Part.plotEvent
  split
  · exact ⟨_, _, rfl⟩
  · split
    · next r _ =>
      obtain ⟨apc, jobs, h⟩ := (p.modRunner r (fun u => { u with pend := u.pend ||| 2 ^ bit })).tryActivate_rest r
      exact ⟨apc, jobs, h⟩
    · exact ⟨_, _, rfl⟩

@[simp] theorem Part.plotEvent_reg (p : Part) (plot bit a : Nat) : (p.plotEvent plot bit).reg a = p.reg a := by
  obtain ⟨apc, jobs, h⟩ := p.plotEvent_rest plot bit
  rw [h]
  rfl

theorem Part.closeCrate_reg (p : Part) (plot cause a : Nat) : (p.closeCrate plot cause).reg a = p.reg a := by
  unfold Part.closeCrate
  split <;> rfl

/-- A record takes the plot's SEQ and leaves every other register. -/
theorem Part.form_reg_other (p : Part) (t : Nat) {plot a : Nat} (c : JobCtx) (mk : Nat → List Byte) (ha : a ≠ R.HVS_P_SEQ plot) :
    (p.form t plot c mk).reg a = p.reg a := by
  unfold Part.form
  split
  · extract_lets seq bytes q0 q1 q2
    have h2 : q2.reg a = p.reg a := Part.reg_put_other p _ _ ha
    split
    · split
      · exact (Part.closeCrate_reg q2 plot 0 a).trans h2
      · exact h2
    · exact h2
  · rfl

/-- A CONFIG record of a model takes the SEQ of the model's plot and leaves every other register. -/
theorem Part.configModel_reg_other (p : Part) (t kind code : Nat) {m a : Nat} (d0 d1 : Nat) (ha : a ≠ R.HVS_P_SEQ (p.img.modelPlot m)) :
    (p.configModel t kind code m d0 d1).reg a = p.reg a := by
  unfold Part.configModel Part.config
  rw [Part.plotEvent_reg, Part.form_reg_other _ _ _ _ ha]

/-- A CONFIG record of a model is a record of its plot, and an event of it. -/
theorem Part.configModel_rest (p : Part) (t kind code m d0 d1 : Nat) :
    ∃ regs hvs plots apc jobs,
      p.configModel t kind code m d0 d1 = { p with regs := regs, hvs := hvs, plots := plots, apc := apc, jobs := jobs } := by
  unfold Part.configModel
  extract_lets k
  obtain ⟨regs, hvs, plots, hform⟩ :
      ∃ regs hvs plots, p.config t k kind code m (p.img.modelVersion m) d0 d1 = { p with regs := regs, hvs := hvs, plots := plots } :=
    Part.form_rest p t k _ _
  obtain ⟨apc, jobs, hevent⟩ := (p.config t k kind code m (p.img.modelVersion m) d0 d1).plotEvent_rest k 4
  exact ⟨regs, hvs, plots, apc, jobs, by rw [hevent, hform]⟩

end Sys2Proof.Machine
end

section
/-! SUPPORT. NVMe recovery (R622, R624): the slots of commands, and what a reset of the controller does to them. -/

namespace Sys2Proof.Machine

open Sys2Proof.Claim

/-- What a slot holds: its command and its generation. -/
def Part.nvSlot (p : Part) (s : Nat) : Option NvmeCmd × Nat := (p.nvCmd s, p.nvGen s)

theorem Part.nvSlot_nvRetire (p : Part) (s : Nat) : (p.nvRetire s).nvSlot s = (none, (p.nvGen s + 1) % 65536) := by
  simp [Part.nvSlot, Part.nvCmd, Part.nvGen, Part.nvRetire, Part.setNvCmd, Part.bumpGen]

theorem Part.nvSlot_nvRetire_other (p : Part) {s x : Nat} (h : x ≠ s) : (p.nvRetire s).nvSlot x = p.nvSlot x := by
  simp [Part.nvSlot, Part.nvCmd, Part.nvGen, Part.nvRetire, Part.setNvCmd, Part.bumpGen, FMap.get_put_other _ _ _ h]

theorem Part.nvSlot_nvReissue (p : Part) (t s : Nat) (c : NvmeCmd) :
    (p.nvReissue t s c).nvSlot s = (some { c with progressAt := t }, (p.nvGen s + 1) % 65536) := by
  simp [Part.nvSlot, Part.nvCmd, Part.nvGen, Part.nvReissue, Part.setNvCmd, Part.bumpGen, Part.emit]

theorem Part.nvSlot_nvReissue_other (p : Part) (t : Nat) {s x : Nat} (c : NvmeCmd) (h : x ≠ s) :
    (p.nvReissue t s c).nvSlot x = p.nvSlot x := by
  simp [Part.nvSlot, Part.nvCmd, Part.nvGen, Part.nvReissue, Part.setNvCmd, Part.bumpGen, Part.emit, FMap.get_put_other _ _ _ h]

/-- The slots in use are numbers below 256, each once. -/
theorem Part.nvSlots_nodup (p : Part) : p.nvSlots.Nodup := List.Nodup.filter _ List.nodup_range

theorem Part.mem_nvSlots {p : Part} {s : Nat} (hs : s < 256) : s ∈ p.nvSlots ↔ p.nvCmd s ≠ none := by
  simp [Part.nvSlots, hs, Option.isSome_iff_ne_none]

/-- An arrival that is discarded is counted and raises its event (R624). -/
theorem Part.nvArrive_stale {p : Part} {slot gen : Nat} {completion : Bool} (t : Nat)
    (h : p.nvCmd slot = none ∨ (if completion then gen % 256 ≠ p.nvGen slot % 256 else gen ≠ p.nvGen slot)) :
    p.nvArrive t completion slot gen = p.nvStale := by
  unfold Part.nvArrive
  split
  · rfl
  · next c hc =>
    rcases h with h | h
    · rw [hc] at h
      cases h
    · rw [if_neg]
      cases completion <;> simpa using h

/-- A discarded arrival: what is counted, the event, and what stays. -/
theorem Part.nvStale_spec (p : Part) :
    p.nvStale.get F.FLT_STALE_NVME_COUNT = min (p.get F.FLT_STALE_NVME_COUNT + 1) 65535 ∧
      (p.nvStale.get F.FLT_EVENTS_EVT).testBit 4 = true ∧ p.RegsWithin [R.FLT_STALE_NVME, R.FLT_EVENTS] p.nvStale ∧
      p.nvStale = { p with regs := p.nvStale.regs, out := p.nvStale.out } := by
  unfold Part.nvStale
  have hevent := (Part.FaultUnitOnly.fltEvent (p.addSat F.FLT_STALE_NVME_COUNT 1) 4).1
  refine ⟨?_, Part.fltEvent_stands _ (by decide), fun a ha => ?_, by rw [hevent]; rfl⟩
  · rw [Part.get, Part.fltEvent_reg_other _ _ (by decide)]
    exact Part.get_addSat16 p _ 1
  · simp only [List.mem_cons, List.not_mem_nil, or_false, not_or] at ha
    exact (Part.fltEvent_reg_other _ _ ha.2).trans (Part.reg_put_other p _ _ ha.1)

/-! Timeouts (R622). -/

/-- A timeout as it is counted. -/
def Part.nvTimeoutCounted (p : Part) : Part := ((p.addSat F.FLT_TMO_NVME_COUNT 1).addSat F.PRP_TIMEOUTS_COUNT 1).fltEvent 3

theorem Part.nvTimeoutCounted_spec (p : Part) :
    p.nvTimeoutCounted.get F.FLT_TMO_NVME_COUNT = min (p.get F.FLT_TMO_NVME_COUNT + 1) 65535 ∧
      p.RegsWithin [R.FLT_TMO_NVME, R.PRP_TIMEOUTS, R.FLT_EVENTS] p.nvTimeoutCounted ∧
      p.nvTimeoutCounted = { p with regs := p.nvTimeoutCounted.regs, out := p.nvTimeoutCounted.out } := by
  unfold Part.nvTimeoutCounted
  have hevent := (Part.FaultUnitOnly.fltEvent ((p.addSat F.FLT_TMO_NVME_COUNT 1).addSat F.PRP_TIMEOUTS_COUNT 1) 3).1
  refine ⟨?_, fun a ha => ?_, by rw [hevent]; rfl⟩
  · rw [Part.get, Part.fltEvent_reg_other _ _ (by decide)]
    exact (Part.get_put_reg _ F.PRP_TIMEOUTS_COUNT F.FLT_TMO_NVME_COUNT _ (by decide)).trans (Part.get_addSat16 p _ 1)
  · simp only [List.mem_cons, List.not_mem_nil, or_false, not_or] at ha
    exact (Part.fltEvent_reg_other _ _ ha.2.2).trans ((Part.reg_put_other _ _ _ ha.2.1).trans (Part.reg_put_other p _ _ ha.1))

theorem Part.nvTimeoutCounted_nvSlot (p : Part) (s : Nat) : p.nvTimeoutCounted.nvSlot s = p.nvSlot s := by
  rw [p.nvTimeoutCounted_spec.2.2]
  rfl

/-- Issuing a command fills a slot that was empty, and changes nothing else but what leaves the Frexia. -/
theorem Part.nvIssue_spec (p : Part) (t : Nat) (c : NvmeCmd) (data : List Byte) :
    (∃ nvme out, p.nvIssue t c data = { p with nvme := nvme, out := out }) ∧
      ∀ s, p.nvCmd s ≠ none → (p.nvIssue t c data).nvSlot s = p.nvSlot s := by
  unfold Part.nvIssue
  split
  · exact ⟨⟨_, _, rfl⟩, fun _ _ => rfl⟩
  · next free hfree =>
    refine ⟨⟨_, _, rfl⟩, fun s hs => ?_⟩
    have hnone : (p.nvCmd free).isNone = true := by simpa using List.find?_some hfree
    have hne : s ≠ free := fun e => hs (e ▸ Option.isNone_iff_eq_none.mp hnone)
    simp [Part.nvSlot, Part.nvCmd, Part.nvGen, Part.setNvCmd, Part.emit, FMap.get_put_other _ _ _ hne]

section
variable {p : Part} {slot : Nat} {c : NvmeCmd} (t : Nat) (ok : Bool) (hc : p.nvCmd slot = some c)
include hc

/-- The first timeout of a command aborts it and reissues it (R622). -/
theorem Part.nvTimeout_first (hop : c.op ≠ 4) (htries : c.tries = 0) :
    p.nvTimeout t slot ok = (p.nvTimeoutCounted.nvReissue t slot { c with tries := 1 }).nvIssue t
      { op := 4, plot := c.plot, a := slot, b := p.nvTimeoutCounted.nvGen slot, nsid := 0, lba := 0, blocks := 0, tries := 0,
        progressAt := t } [] := by
  rw [Part.nvTimeout, hc]
  exact if_neg (by simp [hop, htries])

/-- A later timeout, or an Abort's, resets the controller (R622). -/
theorem Part.nvTimeout_second (h : c.op = 4 ∨ c.tries ≠ 0) : p.nvTimeout t slot ok = p.nvTimeoutCounted.nvReset t ok := by
  rw [Part.nvTimeout, hc]
  exact if_pos (by simpa using h)

end

/-- What a reset that works does with a slot. -/
def Part.nvRestart (t : Nat) (r : Part) (s : Nat) : Part :=
  match r.nvCmd s with
  | some c => if c.op = 4 then r.nvRetire s else r.nvReissue t s { c with tries := 0 }
  | none => r

theorem Part.nvRestart_other (t : Nat) (r : Part) (s x : Nat) (h : x ≠ s) : (r.nvRestart t s).nvSlot x = r.nvSlot x := by
  unfold Part.nvRestart
  split
  · split
    · exact r.nvSlot_nvRetire_other h
    · exact r.nvSlot_nvReissue_other t _ h
  · rfl

/-- A slot's command goes on under the next generation, unless it is an Abort. -/
theorem Part.nvRestart_self (t : Nat) {r : Part} {s : Nat} {d : NvmeCmd} (h : r.nvCmd s = some d) :
    (r.nvRestart t s).nvSlot s =
      (if d.op = 4 then none else some { d with tries := 0, progressAt := t }, (r.nvGen s + 1) % 65536) := by
  unfold Part.nvRestart
  rw [h]
  by_cases hop : d.op = 4
  · simp only [if_pos hop]
    exact r.nvSlot_nvRetire s
  · simp only [if_neg hop]
    exact r.nvSlot_nvReissue t s _

/-- Going on with a slot's command changes NVMe alone, and what leaves the Frexia. -/
theorem Part.nvRestart_rest (t : Nat) (r : Part) (s : Nat) : ∃ nvme out, r.nvRestart t s = { r with nvme := nvme, out := out } := by
  unfold Part.nvRestart
  split
  · split
    · exact ⟨_, _, rfl⟩
    · exact ⟨_, _, rfl⟩
  · exact ⟨_, _, rfl⟩

/-- What a reset that fails does with a slot. -/
def Part.nvDrop (r : Part) (s : Nat) : Part :=
  match r.nvCmd s with
  | some c =>
    let r := r.nvRetire s
    if c.op = 2 then (r.add (F.HVS_P_CELLAR_LOST_COUNT c.plot) c.b).modHv c.plot (fun u => { u with
        cellarOut := none, curCellar := max u.curCellar (c.a + c.b) })
    else if c.op = 3 then (r.clr (if c.b = 1 then F.HVS_P_REPLAY_CTRL_BUSY c.plot else F.HR_REPLAY_CTRL_BUSY c.plot)).modHv c.plot
      (fun u => if c.b = 1 then { u with udpReplay := none } else { u with hostReplay := none })
    else r
  | none => r

/-- A slot that a failed reset sees is empty, and the others stay. -/
theorem Part.nvDrop_nvSlot (r : Part) (s x : Nat) : (r.nvDrop s).nvCmd x = if x = s then none else r.nvCmd x := by
  unfold Part.nvDrop
  split
  · extract_lets q
    have hq : q.nvCmd x = if x = s then none else r.nvCmd x := r.nvCmd_nvRetire s x
    split
    · exact hq
    · split
      · exact hq
      · exact hq
  · next hnone =>
    split
    · next hx => rw [hx, hnone]
    · rfl

/-- A failed reset keeps memory, the Sundial and every register at an offset of 0 or 4 in its page: those that it clears or counts in
stand elsewhere in theirs, whatever plot a command names. -/
def Part.NvDropKeeps (p q : Part) : Prop := q.mem = p.mem ∧ q.sdl = p.sdl ∧ ∀ a, a % 256 < 8 → q.reg a = p.reg a

theorem Part.NvDropKeeps.refl (p : Part) : p.NvDropKeeps p := ⟨rfl, rfl, fun _ _ => rfl⟩

theorem Part.NvDropKeeps.trans {p q r : Part} (h : p.NvDropKeeps q) (k : q.NvDropKeeps r) : p.NvDropKeeps r :=
  ⟨k.1.trans h.1, k.2.1.trans h.2.1, fun a ha => (k.2.2 a ha).trans (h.2.2 a ha)⟩

theorem Part.NvDropKeeps.put (p : Part) (f : Fld) (n k : Nat) (g : HvsPlot → HvsPlot) (hf : 8 ≤ f.reg % 256) :
    p.NvDropKeeps ((p.put f n).modHv k g) :=
  ⟨rfl, rfl, fun a ha => Part.reg_put_other p f n fun e => by rw [e] at ha; omega⟩

theorem Part.NvDropKeeps.nvDrop (r : Part) (s : Nat) : r.NvDropKeeps (r.nvDrop s) := by
  unfold Part.nvDrop
  split
  · next c _ =>
    extract_lets q
    have hq : r.NvDropKeeps q := ⟨rfl, rfl, fun _ _ => rfl⟩
    have hlost : 8 ≤ (F.HVS_P_CELLAR_LOST_COUNT c.plot).reg % 256 := by
      show 8 ≤ (0x700020 + c.plot * 0x100) % 256
      omega
    split
    · exact hq.trans (.put q _ _ _ _ hlost)
    · split
      · refine hq.trans (.put q _ _ _ _ ?_)
        split
        · show 8 ≤ (0x700034 + c.plot * 0x100) % 256
          omega
        · show 8 ≤ (0x710030 + c.plot * 0x1000) % 256
          omega
      · exact hq
  · exact .refl r

/-- The controller's reset as it is counted (R622). -/
def Part.nvResetCounted (p : Part) : Part := (p.addSat F.FLT_NVME_RESETS_COUNT 1).emit .nvmeReset

theorem Part.nvReset_works (p : Part) (t : Nat) :
    p.nvReset t true = p.nvResetCounted.each p.nvResetCounted.nvSlots (Part.nvRestart t) := rfl

theorem Part.nvReset_fails (p : Part) (t : Nat) :
    p.nvReset t false = (p.nvResetCounted.bootFault 5).nvmeDown.each (p.nvResetCounted.bootFault 5).nvmeDown.nvSlots Part.nvDrop := rfl

/-- A reset that works: each command goes on, or was an Abort, under the next generation. -/
theorem Part.nvReset_true_slot {p : Part} (t : Nat) {x : Nat} {d : NvmeCmd} (hx : x < 256) (hd : p.nvCmd x = some d) :
    (p.nvReset t true).nvSlot x = (if d.op = 4 then none else some { d with tries := 0, progressAt := t }, (p.nvGen x + 1) % 65536) := by
  rw [Part.nvReset_works]
  have hmem : x ∈ p.nvResetCounted.nvSlots := (Part.mem_nvSlots hx).mpr (by rw [show p.nvResetCounted.nvCmd x = some d from hd]; nofun)
  obtain ⟨q, hq, hlook⟩ := (Part.each_at Part.nvSlot _ (Part.nvRestart_other t) _ p.nvResetCounted.nvSlots_nodup p.nvResetCounted x).2 hmem
  obtain ⟨hcmd, hgen⟩ := Prod.mk.inj hq
  rw [hlook, Part.nvRestart_self t (hcmd.trans hd), hgen]
  rfl

theorem Part.nvReset_true_rest (p : Part) (t : Nat) : ∃ nvme out, p.nvReset t true = { p.nvResetCounted with nvme := nvme, out := out } := by
  rw [Part.nvReset_works]
  refine Part.each_rel (rel := fun p q => ∃ nvme out, q = { p with nvme := nvme, out := out }) (fun p => ⟨_, _, rfl⟩) ?_ _ _ _
    (Part.nvRestart_rest t)
  rintro p q r ⟨nvme, out, rfl⟩ ⟨nvme', out', rfl⟩
  exact ⟨nvme', out', rfl⟩

/-- A reset that fails leaves no command. -/
theorem Part.nvReset_false_slot (p : Part) (t : Nat) {x : Nat} (hx : x < 256) : (p.nvReset t false).nvCmd x = none := by
  rw [Part.nvReset_fails]
  generalize (p.nvResetCounted.bootFault 5).nvmeDown = q
  obtain ⟨hout, hin⟩ := Part.each_at Part.nvCmd Part.nvDrop (fun q s x h => by rw [Part.nvDrop_nvSlot, if_neg h]) _ q.nvSlots_nodup q x
  by_cases h : x ∈ q.nvSlots
  · obtain ⟨r, -, hlook⟩ := hin h
    rw [hlook, Part.nvDrop_nvSlot, if_pos rfl]
  · rw [hout h]
    exact not_not.mp (mt (Part.mem_nvSlots hx).mpr h)

/-- A reset that fails sets the boot's condition 5 and clears READY (R622, R694). -/
theorem Part.nvReset_false_shows (p : Part) (t : Nat) :
    ((p.nvReset t false).get F.FLT_STATUS_FAULT).testBit 5 = true ∧ (p.nvReset t false).get F.PRP_NVME_READY = 0 ∧
      (p.nvReset t false).mem = p.mem ∧ (p.nvReset t false).sdl = p.sdl := by
  let b := p.nvResetCounted.bootFault 5
  have hkeeps : b.nvmeDown.NvDropKeeps (p.nvReset t false) := by
    rw [Part.nvReset_fails]
    exact Part.each_rel .refl .trans _ _ _ .nvDrop
  obtain ⟨hmem, hsdl, hreg⟩ := hkeeps
  have get (f : Fld) (hf : f.reg % 256 < 8) : (p.nvReset t false).get f = b.nvmeDown.get f := by rw [Part.get, Part.get, hreg _ hf]
  refine ⟨?fault, ?ready, hmem, hsdl⟩
  case fault =>
    rw [get _ (by decide)]
    have h : b.nvmeDown.get F.FLT_STATUS_FAULT = (p.nvResetCounted.setFault 5).get F.FLT_STATUS_FAULT :=
      (Part.get_put_reg _ F.PRP_NVME_FATAL F.FLT_STATUS_FAULT _ (by decide)).trans
        (Part.get_put_reg _ F.PRP_NVME_READY F.FLT_STATUS_FAULT _ (by decide))
    rw [h]
    exact (Part.setFault_asserts _ (by decide)).1
  case ready =>
    rw [get _ (by decide)]
    exact (Part.get_put_disjoint _ F.PRP_NVME_FATAL F.PRP_NVME_READY _ (.inl (by decide))).trans (Part.get_put_bit _ _ 0 0 (by decide))

/-! A load without progress (R622, R365). -/

/-- Retiring commands changes NVMe alone. -/
theorem Part.nvRetireAll_rest (p : Part) (mine : NvmeCmd → Bool) : ∃ nvme, p.nvRetireAll mine = { p with nvme := nvme } := by
  rw [Part.nvRetireAll_eq]
  refine Part.each_rel (rel := fun p q => ∃ nvme, q = { p with nvme := nvme }) (fun p => ⟨_, rfl⟩) ?_ _ _ _ fun q s => ?_
  · rintro p q r ⟨nvme, rfl⟩ ⟨nvme', rfl⟩
    exact ⟨nvme', rfl⟩
  · rcases q.nvRetireIf_cases mine s with h | ⟨h, -⟩
    · exact ⟨_, h⟩
    · exact ⟨_, h⟩

/-- Writing zero over the shadow banks changes memory alone. -/
theorem Part.zeroShadow_rest (p : Part) (n : Nat) : ∃ mem, p.zeroShadow n = { p with mem := mem } := by
  refine Part.each_rel (rel := fun p q => ∃ mem, q = { p with mem := mem }) (fun p => ⟨_, rfl⟩) ?_ _ _ _ fun q s => ⟨_, rfl⟩
  rintro p q r ⟨mem, rfl⟩ ⟨mem', rfl⟩
  exact ⟨mem', rfl⟩

theorem Part.configModel_models (p : Part) (t kind code m d0 d1 : Nat) : (p.configModel t kind code m d0 d1).models = p.models := by
  obtain ⟨regs, hvs, plots, apc, jobs, h⟩ := p.configModel_rest t kind code m d0 d1
  rw [h]

theorem Part.configModel_sdl (p : Part) (t kind code m d0 d1 : Nat) : (p.configModel t kind code m d0 d1).sdl = p.sdl := by
  obtain ⟨regs, hvs, plots, apc, jobs, h⟩ := p.configModel_rest t kind code m d0 d1
  rw [h]

/-- A model that enters a state shows it with its cause (R364). -/
theorem Part.enterState_model (p : Part) (t m st cause layer : Nat) :
    (p.enterState t m st cause layer).model m = { p.model m with state := st, cause := cause, placing := false } := by
  rw [Part.model, Part.enterState, Part.configModel_models]
  exact p.model_modModel_self m _

theorem Part.enterState_loadq (p : Part) (t m st cause layer k : Nat) : (p.enterState t m st cause layer).loadq k = p.loadq k := by
  rw [Part.loadq, Part.enterState, Part.configModel_models]
  rfl

theorem Part.enterState_sdl (p : Part) (t m st cause layer : Nat) : (p.enterState t m st cause layer).sdl = p.sdl :=
  Part.configModel_sdl _ _ _ _ _ _ _

/-- It takes the SEQ of a plot at most: a register at offset 8 of a page. -/
theorem Part.enterState_reg (p : Part) (t m st cause layer : Nat) {a : Nat} (ha : a % 256 ≠ 8) :
    (p.enterState t m st cause layer).reg a = p.reg a := by
  refine Part.configModel_reg_other _ _ _ _ _ _ fun e => ha ?_
  rw [e]
  show (0x700008 + _ * 0x100) % 256 = 8
  omega

/-- The part in which a load has failed, before its plot's next one starts (R365, R380). -/
def Part.loadStopped (p : Part) (k : Nat) (x : LoadRun) : Part :=
  let q := (p.modLoadq k (fun u => { u with cur := none })).nvRetireAll
    (fun c => c.op == 1 && c.plot == k && c.a == x.item && c.b == x.layer)
  if (q.model x.item).ordered then q.zeroShadow x.item else q

theorem Part.loadStopped_rest (p : Part) (k : Nat) (x : LoadRun) :
    ∃ nvme mem, p.loadStopped k x = { p.modLoadq k (fun u => { u with cur := none }) with nvme := nvme, mem := mem } := by
  unfold Part.loadStopped
  extract_lets q
  obtain ⟨nvme, h⟩ : ∃ nvme, q = { p.modLoadq k (fun u => { u with cur := none }) with nvme := nvme } := Part.nvRetireAll_rest _ _
  rw [h]
  split
  · obtain ⟨mem, hz⟩ := Part.zeroShadow_rest { p.modLoadq k (fun u => { u with cur := none }) with nvme := nvme } x.item
    exact ⟨nvme, mem, hz⟩
  · exact ⟨nvme, _, rfl⟩

/-- A model's load that fails (R365). -/
theorem Part.loadFail_model (p : Part) (t k cause : Nat) {x : LoadRun} (hx : x.kernel = false) :
    p.loadFail t k cause x =
      (((p.loadStopped k x).enterState t x.item 7 cause x.layer).modModel x.item (fun v => { v with ordered := false })).nextLoad t k := by
  exact congrArg (fun q : Part => q.nextLoad t k) (if_neg (show ¬x.kernel = true by simp [hx]))

/-- With nothing queued no load starts. -/
theorem Part.nextLoad_empty {p : Part} {k : Nat} (t : Nat) (h : p.loadq k = { cur := none, queue := [] }) : p.nextLoad t k = p := by
  unfold Part.nextLoad
  extract_lets u
  have hu : u = { cur := none, queue := [] } := h
  split
  · next hdrop =>
    rw [hu] at hdrop
    cases hdrop
  · rfl

/-- What the failure of a load on a queue that holds no other leaves. -/
theorem Part.loadFail_last {p : Part} {k : Nat} {x : LoadRun} (t cause : Nat) (hq : p.loadq k = { cur := some x, queue := [] })
    (hx : x.kernel = false) :
    let q := p.loadFail t k cause x
    (q.model x.item).state = 7 ∧ (q.model x.item).cause = cause ∧ (q.loadq k).cur = none ∧ q.sdl = p.sdl ∧
      ∀ a, a % 256 ≠ 8 → q.reg a = p.reg a := by
  intro q
  obtain ⟨nvme, mem, hstopped⟩ := p.loadStopped_rest k x
  obtain ⟨r, hr⟩ : ∃ r, (p.loadStopped k x).enterState t x.item 7 cause x.layer = r := ⟨_, rfl⟩
  have hloads : r.loadq k = { cur := none, queue := [] } := by
    rw [← hr, Part.enterState_loadq, hstopped]
    show (p.modLoadq k (fun u => { u with cur := none })).loadq k = _
    rw [Part.loadq_modLoadq_self, hq]
  have hsdl : r.sdl = p.sdl := by
    rw [← hr, Part.enterState_sdl, hstopped]
    rfl
  have hreg (a : Nat) (ha : a % 256 ≠ 8) : r.reg a = p.reg a := by
    rw [← hr, Part.enterState_reg _ _ _ _ _ _ ha, hstopped]
    rfl
  have hq : q = r.modModel x.item (fun v => { v with ordered := false }) := by
    rw [show q = _ from p.loadFail_model t k cause hx, hr]
    exact Part.nextLoad_empty t hloads
  have hmodel : q.model x.item = { r.model x.item with ordered := false } := by
    rw [hq, Part.model_modModel_self]
  have hstate : r.model x.item = { (p.loadStopped k x).model x.item with state := 7, cause := cause, placing := false } := by
    rw [← hr, Part.enterState_model]
  rw [hmodel, hstate, hq]
  exact ⟨rfl, rfl, by rw [show (Part.modModel r x.item _).loadq k = r.loadq k from rfl, hloads], hsdl, hreg⟩

/-- Settles O58: a stale arrival, the first and the later timeouts of a command, a load without progress, and a recovery of the link. -/
theorem nvmeRecovery : Obligations.NvmeRecovery := by
  refine ⟨fun completion slot gen s hs hslot hgen hup => ?arrival, fun slot ok c s hs hslot hc hold => ?timeout,
    fun k x s hs hk hold hq hx => ?load, fun s hs hup => ?recovery⟩
  case arrival =>
    have he := next_nvmeCompletion completion slot gen s hs.1 (by simp [Instr.wf, hslot, hgen, (Part.on_iff _ _).mpr hup])
    refine ⟨fun hstale => ?_, he⟩
    rw [Part.nvArrive_stale s.ns hstale] at he
    obtain ⟨hcount, hevent, hregs, hrest⟩ := s.part.nvStale_spec
    refine completes_of_still he (by rw [hrest]; exact hs.2) ⟨hcount, hevent, hregs, ?_⟩
    show { s with part := s.part.nvStale } = _
    rw [hrest]
  case timeout =>
    have he := next_nvmeCommandTimeout slot ok s hs.1 (by simp [Instr.wf, hslot, Part.nvTimedOut, hc, hold])
    obtain ⟨hcount, hregs, hrest⟩ := s.part.nvTimeoutCounted_spec
    refine ⟨fun hop htries => ?first, fun h hok => ?works, fun h hok => ?fails⟩
    case first =>
      rw [Part.nvTimeout_first s.ns ok hc hop htries] at he
      obtain ⟨r, hr⟩ : ∃ r, s.part.nvTimeoutCounted.nvReissue s.ns slot { c with tries := 1 } = r := ⟨_, rfl⟩
      rw [hr] at he
      have hslot : r.nvSlot slot = (some { c with tries := 1, progressAt := s.ns }, (s.part.nvGen slot + 1) % 65536) := by
        rw [← hr, Part.nvSlot_nvReissue, (Prod.mk.inj (s.part.nvTimeoutCounted_nvSlot slot)).2]
      obtain ⟨⟨nvme, out, hissue⟩, hkept⟩ := r.nvIssue_spec s.ns { op := 4, plot := c.plot, a := slot, b := s.part.nvTimeoutCounted.nvGen slot, nsid := 0, lba := 0, blocks := 0, tries := 0, progressAt := s.ns } []
      have hkept := (hkept slot (by rw [(Prod.mk.inj hslot).1]; nofun)).trans hslot
      have hreg (a : Nat) : r.reg a = s.part.nvTimeoutCounted.reg a := by rw [← hr]; rfl
      have hmem : r.mem = s.part.mem ∧ r.sdl = s.part.sdl := by
        rw [← hr]
        constructor
        · show s.part.nvTimeoutCounted.mem = _
          rw [hrest]
        · show s.part.nvTimeoutCounted.sdl = _
          rw [hrest]
      refine completes_of_still he ?_ ⟨(Prod.mk.inj hkept).1, (Prod.mk.inj hkept).2, ?_, fun a ha => ?_, ?_⟩
      · rw [hissue]
        exact (congrArg SdlUnit.step hmem.2).trans hs.2
      · rw [hissue, ← hcount]
        exact congrArg (fun v : Word => v.bits 15 0) (hreg R.FLT_TMO_NVME)
      · rw [hissue]
        exact (hreg a).trans (hregs a ha)
      · rw [hissue]
        exact hmem.1
    case works =>
      subst hok
      rw [Part.nvTimeout_second s.ns true hc h] at he
      obtain ⟨nvme, out, hreset⟩ := s.part.nvTimeoutCounted.nvReset_true_rest s.ns
      refine completes_of_still he ?_ ⟨fun x d hx hd => ?_, ?_, ?_⟩
      · rw [hreset]
        show s.part.nvTimeoutCounted.sdl.step = 0
        rw [hrest]
        exact hs.2
      · have hsame := Prod.mk.inj (s.part.nvTimeoutCounted_nvSlot x)
        have hslot := Prod.mk.inj (s.part.nvTimeoutCounted.nvReset_true_slot s.ns hx (hsame.1.trans hd))
        exact ⟨hslot.1, hslot.2.trans (by rw [hsame.2])⟩
      · have hget : s.part.nvTimeoutCounted.get F.FLT_NVME_RESETS_COUNT = s.part.get F.FLT_NVME_RESETS_COUNT := by
          rw [Part.get, Part.get, hregs _ (by decide)]
        rw [hreset, ← hget]
        exact Part.get_addSat16 s.part.nvTimeoutCounted _ 1
      · rw [hreset]
        show s.part.nvTimeoutCounted.mem = _
        rw [hrest]
    case fails =>
      subst hok
      rw [Part.nvTimeout_second s.ns false hc h] at he
      obtain ⟨hfault, hready, hmem, hsdl⟩ := s.part.nvTimeoutCounted.nvReset_false_shows s.ns
      refine completes_of_still he ?_ ⟨fun x hx => s.part.nvTimeoutCounted.nvReset_false_slot s.ns hx, hfault, hready, ?_⟩
      · rw [hsdl, hrest]
        exact hs.2
      · show (s.part.nvTimeoutCounted.nvReset s.ns false).mem = _
        rw [hmem, hrest]
  case load =>
    have he := next_modelLoadTimeout k s hs.1 (by simp [Instr.wf, hk, hold])
    have hcur : (s.part.loadq k).cur = some x := by rw [hq]
    let q := (s.part.addSat F.FLT_TMO_LOAD_COUNT 1).fltEvent 3
    have heff : s.part.loadTimeout s.ns k = q.loadFail s.ns k 2 x := by
      unfold Part.loadTimeout
      rw [hcur]
    have hrest := (Part.FaultUnitOnly.fltEvent (s.part.addSat F.FLT_TMO_LOAD_COUNT 1) 3).1
    have hqueue : q.loadq k = { cur := some x, queue := [] } := by
      rw [show q = _ from hrest]
      exact hq
    obtain ⟨hstate, hcause, hnone, hsdl, hreg⟩ := Part.loadFail_last s.ns 2 hqueue hx
    rw [heff] at he
    refine completes_of_still he ?_ ⟨hstate, hcause, hnone, ?_⟩
    · rw [hsdl, show q = _ from hrest]
      exact hs.2
    · show (q.loadFail s.ns k 2 x).get F.FLT_TMO_LOAD_COUNT = _
      rw [Part.get, hreg _ (by decide), Part.fltEvent_reg_other _ _ (by decide)]
      exact Part.get_addSat16 s.part _ 1
  case recovery =>
    refine completes_of_still (next_rootPortRecovery s hs.1 ((Part.on_iff _ _).mpr hup)) hs.2 ⟨Part.get_addSat16 s.part _ 1, ?_⟩
    exact regsOnly_of_regs rfl fun a ha => Part.reg_put_other _ _ _ (List.ne_of_not_mem_cons ha)

end Sys2Proof.Machine
end

section
/-! SUPPORT. The system calls about Trellis (R529, R536, R538, R584). -/

namespace Sys2Proof.Machine

open Sys2Proof.Claim

section
variable (p : Part) (k c port credits : Nat) (hport : port < 2) (hpos : 0 < credits) (hmax : credits ≤ 64)
include hport hpos hmax

/-- TRL_RESERVE of a port that is not UP (R529). -/
theorem Part.trlReserve_down (hup : p.trlState port ≠ 2) : p.trlReserve k c port credits = (-5, p) := by
  rw [Part.trlReserve, if_neg (by omega), if_pos hup]

/-- TRL_RESERVE of more than is free. -/
theorem Part.trlReserve_short (hup : p.trlState port = 2)
    (hfree : p.get (creditFld port 1) < p.reservedBy port (fun _ => true) + credits) : p.trlReserve k c port credits = (-3, p) := by
  rw [Part.trlReserve, if_neg (by omega), if_neg (not_not.mpr hup), if_pos hfree]

/-- TRL_RESERVE holds the credits. -/
theorem Part.trlReserve_held (hup : p.trlState port = 2)
    (hfree : p.reservedBy port (fun _ => true) + credits ≤ p.get (creditFld port 1)) :
    p.trlReserve k c port credits = (0, p.modApc (fun a => { a with holds := a.holds ++ [⟨port, k, c, credits⟩] })) := by
  rw [Part.trlReserve, if_neg (by omega), if_neg (not_not.mpr hup), if_neg (by omega)]

end

/-- The registers of a forwarder entry. -/
def fwdRegs (e : Nat) : List Nat := [R.TRL_FWD_MATCH e, R.TRL_FWD_SRC_IP e, R.TRL_FWD_CTRL e]

/-- The part in which FWD_SET has written entry `e` (R536). -/
def Part.fwdWritten (p : Part) (k e stream v : Nat) : Part :=
  let q := ((p.put (F.TRL_FWD_MATCH_UDP_PORT e) (p.get (F.ITK_CTX_MATCH_UDP_PORT stream))).put (F.TRL_FWD_MATCH_ETH_PORT e)
    (p.get (F.ITK_CTX_MATCH_ETH_PORT stream))).put (F.TRL_FWD_SRC_IP_IP e) (p.get (F.ITK_CTX_SRC_IP_IP stream))
  (((q.put (F.TRL_FWD_CTRL_DST_NODE e) (v % 4)).put (F.TRL_FWD_CTRL_COPY e) (v / 256 % 2)).put (F.TRL_FWD_CTRL_EN e) (v / 512 % 2)).put
    (F.TRL_FWD_CTRL_PLOT e) k

section
variable {p : Part} {k e stream : Nat} (v : Nat) (he : e < 128) (hstream : stream < 128)
include he hstream

/-- FWD_SET of an entry that another plot has enabled (R536). -/
theorem Part.fwdSet_taken (hen : p.get (F.TRL_FWD_CTRL_EN e) = 1) (hplot : p.get (F.TRL_FWD_CTRL_PLOT e) ≠ k) :
    p.fwdSet k e stream v = (-2, p) := by
  have hon : p.on (F.TRL_FWD_CTRL_EN e) = true := (Part.on_iff _ _).mpr hen
  simp only [Part.fwdSet]
  rw [if_neg (by omega), if_pos (by simp [hon, hplot])]

/-- FWD_SET of a free or own entry, for a stream of the caller's plot that Trellis carries. -/
theorem Part.fwdSet_written (hown : p.get (F.TRL_FWD_CTRL_EN e) = 1 → p.get (F.TRL_FWD_CTRL_PLOT e) = k)
    (hrec : p.img.streamRec stream ≠ none) (hplot : p.img.streamPlot stream = k) (hsource : p.img.streamSource stream = 2) :
    p.fwdSet k e stream v = (0, p.fwdWritten k e stream v) := by
  have hfree : ¬(p.on (F.TRL_FWD_CTRL_EN e) && p.get (F.TRL_FWD_CTRL_PLOT e) != k) = true := by
    intro h
    simp only [Bool.and_eq_true, Part.on_iff, bne_iff_ne] at h
    exact h.2 (hown h.1)
  simp only [Part.fwdSet]
  rw [if_neg (by omega), if_neg hfree, if_neg (by simp [Option.isNone_iff_eq_none, hrec, hplot]), if_neg (by simp [hsource])]
  rfl

end

/-- FWD_SET changes no core, byte or output, and orders no step of the Sundial. -/
theorem Part.fwdWritten_rest (p : Part) (k e stream v : Nat) :
    let q := p.fwdWritten k e stream v
    q.apc = p.apc ∧ q.out = p.out ∧ q.mem = p.mem ∧ q.nor = p.nor ∧ q.sdl = p.sdl := by
  simp only [Part.fwdWritten, Part.put_apc, Part.put_out, Part.put_mem, Part.put_nor, Part.put_sdl, and_self]

/-- What an entry reads once it is written. -/
theorem Part.fwdWritten_spec (p : Part) {k : Nat} (e stream v : Nat) (hk : k < 16) :
    let q := p.fwdWritten k e stream v
    q.get (F.TRL_FWD_CTRL_DST_NODE e) = v % 4 ∧ q.get (F.TRL_FWD_CTRL_COPY e) = v / 256 % 2 ∧
      q.get (F.TRL_FWD_CTRL_EN e) = v / 512 % 2 ∧ q.get (F.TRL_FWD_CTRL_PLOT e) = k ∧
      q.get (F.TRL_FWD_MATCH_UDP_PORT e) = p.get (F.ITK_CTX_MATCH_UDP_PORT stream) ∧ p.RegsWithin (fwdRegs e) q := by
  intro q
  let q0 := p.put (F.TRL_FWD_MATCH_UDP_PORT e) (p.get (F.ITK_CTX_MATCH_UDP_PORT stream))
  let q1 := q0.put (F.TRL_FWD_MATCH_ETH_PORT e) (p.get (F.ITK_CTX_MATCH_ETH_PORT stream))
  let q2 := q1.put (F.TRL_FWD_SRC_IP_IP e) (p.get (F.ITK_CTX_SRC_IP_IP stream))
  let q3 := q2.put (F.TRL_FWD_CTRL_DST_NODE e) (v % 4)
  let q4 := q3.put (F.TRL_FWD_CTRL_COPY e) (v / 256 % 2)
  let q5 := q4.put (F.TRL_FWD_CTRL_EN e) (v / 512 % 2)
  refine ⟨?node, ?copy, ?en, ?plot, ?udp, ?regs⟩
  case node =>
    calc q.get (F.TRL_FWD_CTRL_DST_NODE e) = q5.get (F.TRL_FWD_CTRL_DST_NODE e) := Part.get_put_disjoint _ _ _ _ (.inl (by decide : 3 < 4))
      _ = q4.get (F.TRL_FWD_CTRL_DST_NODE e) := Part.get_put_disjoint _ _ _ _ (.inr (by decide : 0 < 2))
      _ = q3.get (F.TRL_FWD_CTRL_DST_NODE e) := Part.get_put_disjoint _ _ _ _ (.inr (by decide : 1 < 2))
      _ = v % 4 % 4 := Part.get_put_self q2 (F.TRL_FWD_CTRL_DST_NODE e) _ (by decide : 3 < 32)
      _ = v % 4 := Nat.mod_mod _ _
  case copy =>
    calc q.get (F.TRL_FWD_CTRL_COPY e) = q5.get (F.TRL_FWD_CTRL_COPY e) := Part.get_put_disjoint _ _ _ _ (.inl (by decide : 1 < 4))
      _ = q4.get (F.TRL_FWD_CTRL_COPY e) := Part.get_put_disjoint _ _ _ _ (.inr (by decide : 0 < 1))
      _ = v / 256 % 2 % 2 := Part.get_put_bit q3 _ 1 _ (by decide)
      _ = v / 256 % 2 := Nat.mod_mod _ _
  case en =>
    calc q.get (F.TRL_FWD_CTRL_EN e) = q5.get (F.TRL_FWD_CTRL_EN e) := Part.get_put_disjoint _ _ _ _ (.inl (by decide : 0 < 4))
      _ = v / 512 % 2 % 2 := Part.get_put_bit q4 _ 0 _ (by decide)
      _ = v / 512 % 2 := Nat.mod_mod _ _
  case plot => exact (Part.get_put_self q5 (F.TRL_FWD_CTRL_PLOT e) k (by decide : 7 < 32)).trans (Nat.mod_eq_of_lt hk)
  case udp =>
    have hctrl : R.TRL_FWD_MATCH e ≠ R.TRL_FWD_CTRL e := by simp only [R.TRL_FWD_MATCH, R.TRL_FWD_CTRL]; omega
    have hip : R.TRL_FWD_MATCH e ≠ R.TRL_FWD_SRC_IP e := by simp only [R.TRL_FWD_MATCH, R.TRL_FWD_SRC_IP]; omega
    calc q.get (F.TRL_FWD_MATCH_UDP_PORT e) = q5.get (F.TRL_FWD_MATCH_UDP_PORT e) := Part.get_put_reg _ _ _ _ hctrl
      _ = q4.get (F.TRL_FWD_MATCH_UDP_PORT e) := Part.get_put_reg _ _ _ _ hctrl
      _ = q3.get (F.TRL_FWD_MATCH_UDP_PORT e) := Part.get_put_reg _ _ _ _ hctrl
      _ = q2.get (F.TRL_FWD_MATCH_UDP_PORT e) := Part.get_put_reg _ _ _ _ hctrl
      _ = q1.get (F.TRL_FWD_MATCH_UDP_PORT e) := Part.get_put_reg _ _ _ _ hip
      _ = q0.get (F.TRL_FWD_MATCH_UDP_PORT e) := Part.get_put_disjoint _ _ _ _ (.inl (by decide : 15 < 16))
      _ = p.get (F.ITK_CTX_MATCH_UDP_PORT stream) % 2 ^ 16 := Part.get_put_self p (F.TRL_FWD_MATCH_UDP_PORT e) _ (by decide : 15 < 32)
      _ = p.get (F.ITK_CTX_MATCH_UDP_PORT stream) := Nat.mod_eq_of_lt (Part.get_lt p (F.ITK_CTX_MATCH_UDP_PORT stream))
  case regs =>
    have hm : R.TRL_FWD_MATCH e ∈ fwdRegs e := by simp [fwdRegs]
    have hs : R.TRL_FWD_SRC_IP e ∈ fwdRegs e := by simp [fwdRegs]
    have hc : R.TRL_FWD_CTRL e ∈ fwdRegs e := by simp [fwdRegs]
    exact ((((((Part.RegsWithin.refl _ p).put _ _ hm).put _ _ hm).put _ _ hs).put _ _ hc).put _ _ hc).put _ _ hc |>.put _ _ hc

section
variable {i : Instr} {c : Nat} {a : Act} {s : State} (hs : Ready s) (hc : Calls s c a)
include hs hc

/-- A call that answers `a0` and leaves part `q` has returned it. -/
theorem completes_callRet {a0 : Int} {q : Part} {l : List Nat} {Q : State → Prop} (he : exec i s = .next (s.settle (callRet c (a0, q))))
    (hcores : q.apc.cores = s.part.apc.cores) (hregs : s.part.RegsWithin l q) (hout : q.out = s.part.out) (hmem : q.mem = s.part.mem)
    (hnor : q.nor = s.part.nor) (hsdl : q.sdl = s.part.sdl)
    (hQ : ∀ t : State, t.part = q.emit (.syscall a.runner (twos 64 a0) 0) → Answered a a0 0 l s t → Q t) : Completes i s Q := by
  have hcore : q.core c = some a := (congrArg (fun u => FMap.get (fun _ => none) u c) hcores).trans hc.1
  refine completes_of_still he ?_ (hQ _ (Part.ret_of_core hcore a0 0) (answered_ret a0 0 hcore hregs hout hmem hnor))
  exact (congrArg SdlUnit.step ((Part.ret_sdl ..).trans hsdl)).trans hs.2

end

section
variable {c : Nat} {a : Act} {s : State} (hs : Ready s) (hc : Calls s c a)
include hs hc

theorem completes_trlReserve {port n : Nat} (hport : port < 2) (hpos : 0 < n) (hmax : n ≤ 64) :
    let free := s.part.get (creditFld port 1)
    let held := s.part.reservedBy port (fun _ => true)
    (s.part.trlState port ≠ 2 → Completes (.trlReserve c port n) s (Answered a (-5) 0 [] s)) ∧
    (s.part.trlState port = 2 → free < held + n → Completes (.trlReserve c port n) s (Answered a (-3) 0 [] s)) ∧
    (s.part.trlState port = 2 → held + n ≤ free → Completes (.trlReserve c port n) s (fun t =>
      t.part.apc.holds = s.part.apc.holds ++ [⟨port, a.cmd.plot, c, n⟩] ∧ Answered a 0 0 [] s t)) := by
  have he := next_trlReserve c port n s hs.1 (Part.calls_wf hc.2.1)
  rw [Part.caller_of_core hc.1] at he
  refine ⟨fun hup => ?_, fun hup hfree => ?_, fun hup hfree => ?_⟩
  · rw [Part.trlReserve_down _ _ _ _ _ hport hpos hmax hup] at he
    exact completes_ret hs hc he
  · rw [Part.trlReserve_short _ _ _ _ _ hport hpos hmax hup hfree] at he
    exact completes_ret hs hc he
  · rw [Part.trlReserve_held _ _ _ _ _ hport hpos hmax hup hfree] at he
    exact completes_callRet hs hc he rfl (.refl _ _) rfl rfl rfl rfl fun t ht hans => ⟨by rw [ht]; rfl, hans⟩

theorem completes_trlRelease {port : Nat} (hport : port < 2) : Completes (.trlRelease c port) s (fun t =>
    t.part.apc.holds = s.part.apc.holds.filter (fun h => !(h.core == c && h.port == port)) ∧ Answered a 0 0 [] s t) := by
  have he := next_trlRelease c port s hs.1 (Part.calls_wf hc.2.1)
  rw [Part.trlRelease, if_neg (by omega)] at he
  exact completes_callRet hs hc he rfl (.refl _ _) rfl rfl rfl rfl fun t ht hans => ⟨by rw [ht]; rfl, hans⟩

theorem completes_fwdSet {e stream : Nat} (v : Nat) (he : e < 128) (hstream : stream < 128) :
    let k := a.cmd.plot
    (s.part.get (F.TRL_FWD_CTRL_EN e) = 1 → s.part.get (F.TRL_FWD_CTRL_PLOT e) ≠ k →
      Completes (.fwdSet c e stream v) s (Answered a (-2) 0 [] s)) ∧
    ((s.part.get (F.TRL_FWD_CTRL_EN e) = 1 → s.part.get (F.TRL_FWD_CTRL_PLOT e) = k) → s.part.img.streamRec stream ≠ none →
      s.part.img.streamPlot stream = k → s.part.img.streamSource stream = 2 → k < 16 → Completes (.fwdSet c e stream v) s (fun t =>
        t.part.get (F.TRL_FWD_CTRL_DST_NODE e) = v % 4 ∧ t.part.get (F.TRL_FWD_CTRL_COPY e) = v / 256 % 2 ∧
        t.part.get (F.TRL_FWD_CTRL_EN e) = v / 512 % 2 ∧ t.part.get (F.TRL_FWD_CTRL_PLOT e) = k ∧
        t.part.get (F.TRL_FWD_MATCH_UDP_PORT e) = s.part.get (F.ITK_CTX_MATCH_UDP_PORT stream) ∧
        Answered a 0 0 [R.TRL_FWD_MATCH e, R.TRL_FWD_SRC_IP e, R.TRL_FWD_CTRL e] s t)) := by
  intro k
  have hx := next_fwdSet c e stream v s hs.1 (Part.calls_wf hc.2.1)
  rw [Part.caller_of_core hc.1] at hx
  refine ⟨fun hen hplot => ?_, fun hown hrec hplot hsource hk16 => ?_⟩
  · rw [Part.fwdSet_taken v he hstream hen hplot] at hx
    exact completes_ret hs hc hx
  · rw [Part.fwdSet_written v he hstream hown hrec hplot hsource] at hx
    obtain ⟨hnode, hcopy, hen, hplot, hudp, hregs⟩ := s.part.fwdWritten_spec e stream v hk16
    obtain ⟨hapc, hout, hmem, hnor, hsdl⟩ := s.part.fwdWritten_rest k e stream v
    exact completes_callRet hs hc hx (congrArg (·.cores) hapc) hregs hout hmem hnor hsdl fun t ht hans => by
      have hget (f : Fld) : t.part.get f = (s.part.fwdWritten k e stream v).get f := by rw [ht, Part.emit_get]
      exact ⟨(hget _).trans hnode, (hget _).trans hcopy, (hget _).trans hen, (hget _).trans hplot, (hget _).trans hudp, hans⟩

theorem completes_cfwdSet {on node : Nat} (hon : on < 2) (hnode : node < 4) : Completes (.cfwdSet c on node) s (fun t =>
    t.part.get (F.TRL_CFWD_EN a.cmd.plot) = on ∧ t.part.get (F.TRL_CFWD_DST_NODE a.cmd.plot) = node ∧
      Answered a 0 0 [R.TRL_CFWD a.cmd.plot] s t) := by
  generalize hk : a.cmd.plot = k
  have he := next_cfwdSet c on node s hs.1 (Part.calls_wf hc.2.1)
  rw [Part.caller_of_core hc.1, hk, Part.cfwdSet, if_neg (by omega)] at he
  have hregs : s.part.RegsWithin [R.TRL_CFWD k] ((s.part.put (F.TRL_CFWD_EN k) on).put (F.TRL_CFWD_DST_NODE k) node) :=
    ((Part.RegsWithin.refl _ _).put (F.TRL_CFWD_EN k) _ List.mem_cons_self).put (F.TRL_CFWD_DST_NODE k) _ List.mem_cons_self
  refine completes_callRet hs hc he rfl hregs rfl rfl rfl rfl fun t ht hans => ⟨?_, ?_, hans⟩
  · rw [ht, Part.emit_get]
    calc ((s.part.put (F.TRL_CFWD_EN k) on).put (F.TRL_CFWD_DST_NODE k) node).get (F.TRL_CFWD_EN k)
        = (s.part.put (F.TRL_CFWD_EN k) on).get (F.TRL_CFWD_EN k) := Part.get_put_disjoint _ _ _ _ (.inl (by decide : 0 < 1))
      _ = on % 2 := Part.get_put_bit s.part _ 0 on (by decide)
      _ = on := Nat.mod_eq_of_lt hon
  · rw [ht, Part.emit_get]
    exact (Part.get_put_self _ (F.TRL_CFWD_DST_NODE k) node (by decide : 2 < 32)).trans (Nat.mod_eq_of_lt hnode)

end

/-- Settles O55: what each call answers, and what it writes where it succeeds. -/
theorem trellisCalls : Obligations.TrellisCalls := fun _ _ _ hs hc =>
  ⟨fun _ _ hport hpos hmax => completes_trlReserve hs hc hport hpos hmax, fun _ hport => completes_trlRelease hs hc hport,
    fun _ _ v he hstream => completes_fwdSet hs hc v he hstream, fun _ _ hon hnode => completes_cfwdSet hs hc hon hnode⟩

end Sys2Proof.Machine
end

section
/-! SUPPORT. A field written with its own value, and what the memory map depends on (R21 to R37). -/

namespace Sys2Proof.Machine

/-- A field written with what it reads leaves the word. -/
theorem Word.withBits_bits (v : Word) (hi lo : Nat) : v.withBits hi lo (v.bits hi lo) = v := by
  refine BitVec.eq_of_getLsbD_eq fun i hi' => ?_
  rw [Word.withBits_getLsbD, Word.bits_testBit]
  by_cases h : lo ≤ i ∧ i ≤ hi
  · have hlt : i - lo < hi + 1 - lo := by omega
    simp [h, hlt, hi']
  · simp [h, hi']

/-- A field written with what it reads leaves every register. -/
theorem Part.reg_put_get (p : Part) {f : Fld} {n : Nat} (hn : n = p.get f) (a : Nat) : (p.put f n).reg a = p.reg a := by
  by_cases ha : a = f.reg
  · rw [ha, hn, Part.put, Part.reg_setReg_self, Part.get, Word.withBits_bits]
  · exact Part.reg_put_other _ _ _ ha

/-- `q` has the memory of `p`, and the registers of the beds, on which the memory map depends. -/
def Part.SameMap (p q : Part) : Prop := q.mem = p.mem ∧ ∀ a, 0x1300000 ≤ a → q.reg a = p.reg a

theorem Part.SameMap.img {p q : Part} (h : p.SameMap q) : q.img = p.img := by
  unfold Part.img Part.byte
  rw [h.1]

theorem Part.SameMap.gated {p q : Part} (h : p.SameMap q) (b : Nat) : q.gated b = p.gated b := by
  have hreg : q.reg (R.BED_STATUS b) = p.reg (R.BED_STATUS b) := h.2 _ (by unfold R.BED_STATUS; omega)
  unfold Part.gated Part.on Part.get
  rw [show (F.BED_STATUS_GATED b).reg = R.BED_STATUS b from rfl, hreg]

theorem Part.SameMap.ownsBank {p q : Part} (h : p.SameMap q) (k b j : Nat) : q.ownsBank k b j = p.ownsBank k b j := by
  have hlo : q.reg (R.BED_OWN_LO b (k - 1)) = p.reg (R.BED_OWN_LO b (k - 1)) := h.2 _ (by unfold R.BED_OWN_LO; omega)
  have hhi : q.reg (R.BED_OWN_HI b (k - 1)) = p.reg (R.BED_OWN_HI b (k - 1)) := h.2 _ (by unfold R.BED_OWN_HI; omega)
  unfold Part.ownsBank Part.get64 Part.get
  rw [show (F.BED_OWN_LO_BANKS b (k - 1)).reg = R.BED_OWN_LO b (k - 1) from rfl,
    show (F.BED_OWN_HI_BANKS b (k - 1)).reg = R.BED_OWN_HI b (k - 1) from rfl, hlo, hhi]

/-- The map is a function of memory and of the beds' registers. -/
theorem Part.SameMap.memKey {p q : Part} (h : p.SameMap q) : q.memKey = p.memKey := by
  funext k a write
  unfold Part.memKey Part.physKey Part.virtKey
  simp only [h.img, h.gated, h.ownsBank]

theorem Part.SameMap.memKeys {p q : Part} (h : p.SameMap q) : q.memKeys = p.memKeys := by
  funext k a n write
  unfold Part.memKeys
  rw [h.memKey]

theorem Part.SameMap.loadKeys {p q : Part} (h : p.SameMap q) (ks : List Nat) : q.loadKeys ks = p.loadKeys ks := by
  unfold Part.loadKeys Part.byte
  rw [h.1]

/-- A field below the beds' registers is written: the map stays. -/
theorem Part.SameMap.put (p : Part) (f : Fld) (n : Nat) (hf : f.reg < 0x1300000) : p.SameMap (p.put f n) :=
  ⟨rfl, fun _ ha => Part.reg_put_other _ _ _ (by omega)⟩

end Sys2Proof.Machine
end

section
/-! SUPPORT. The registers of the channels of Barrow (R438): where they stand, who reaches them, and which operation a write orders. -/

namespace Sys2Proof.Machine

open Sys2Proof.Claim

/-- A row holds its register `i` at its offset and `i` strides. -/
theorem findRow_place {off cnt str i : Nat} (l : List FieldSpec) (rs : List RegRow) (hi : i < cnt) (hstr : 0 < str) :
    findRow (⟨off, cnt, str, 1, 0, l⟩ :: rs) (off + i * str) = some (⟨off, cnt, str, 1, 0, l⟩, i, 0) := by
  have hfind : RegRow.find ⟨off, cnt, str, 1, 0, l⟩ (off + i * str) = some (i, 0) := by
    have hin : ¬ cnt ≤ i := by omega
    simp [RegRow.find, hin, hi, hstr.ne', Nat.mul_div_cancel _ hstr]
  rw [findRow, hfind]

theorem regAt_brwChCtrl {c : Nat} (hc : c < 64) :
    regAt (R.BRW_CH_CTRL c) = some (⟨0, 64, 0x100, 1, 0, [⟨0, 0, .rw, 0⟩, ⟨1, 1, .rw, 0⟩, ⟨2, 2, .wo, 0⟩, ⟨5, 4, .rw, 0⟩]⟩, c, 0) := by
  have hblk : R.BRW_CH_CTRL c / 0x100000 = 5 := by unfold R.BRW_CH_CTRL; omega
  have hoff : R.BRW_CH_CTRL c % 0x100000 = 0 + c * 0x100 := by unfold R.BRW_CH_CTRL; omega
  rw [regAt, hblk, hoff]
  exact findRow_place _ _ hc (by decide)

theorem regAt_brwChLevelAdd {c : Nat} (hc : c < 64) :
    regAt (R.BRW_CH_LEVEL_ADD c) = some (⟨0x1c, 64, 0x100, 1, 0, [⟨31, 0, .wo, 0⟩]⟩, c, 0) := by
  have hblk : R.BRW_CH_LEVEL_ADD c / 0x100000 = 5 := by unfold R.BRW_CH_LEVEL_ADD; omega
  have hoff : R.BRW_CH_LEVEL_ADD c % 0x100000 = 0x1c + c * 0x100 := by unfold R.BRW_CH_LEVEL_ADD; omega
  rw [regAt, hblk, hoff]
  simp only [regsOf, regsBRW, List.cons_append, List.nil_append]
  iterate 7 rw [findRow_absent _ _ (by omega)]
  exact findRow_place _ _ hc (by decide)

theorem regAt_brwChTrig {c : Nat} (hc : c < 64) :
    regAt (R.BRW_CH_TRIG c) = some (⟨0x28, 64, 0x100, 1, 0, [⟨1, 0, .rw, 0⟩, ⟨13, 8, .rw, 0⟩, ⟨23, 16, .rw, 0⟩]⟩, c, 0) := by
  have hblk : R.BRW_CH_TRIG c / 0x100000 = 5 := by unfold R.BRW_CH_TRIG; omega
  have hoff : R.BRW_CH_TRIG c % 0x100000 = 0x28 + c * 0x100 := by unfold R.BRW_CH_TRIG; omega
  rw [regAt, hblk, hoff]
  simp only [regsOf, regsBRW, List.cons_append, List.nil_append]
  iterate 10 rw [findRow_absent _ _ (by omega)]
  exact findRow_place _ _ hc (by decide)

/-- `a` is an implemented register of channel `c`. -/
def IsChannelReg (c a : Nat) : Prop := c < 64 ∧ a / 0x100 = 0x5000 + c ∧ a % 4 = 0 ∧ (regAt a).isSome = true

theorem IsChannelReg.ctrl {c : Nat} (hc : c < 64) : IsChannelReg c (R.BRW_CH_CTRL c) :=
  ⟨hc, by unfold R.BRW_CH_CTRL; omega, by unfold R.BRW_CH_CTRL; omega, by rw [regAt_brwChCtrl hc]; rfl⟩

theorem IsChannelReg.levelAdd {c : Nat} (hc : c < 64) : IsChannelReg c (R.BRW_CH_LEVEL_ADD c) :=
  ⟨hc, by unfold R.BRW_CH_LEVEL_ADD; omega, by unfold R.BRW_CH_LEVEL_ADD; omega, by rw [regAt_brwChLevelAdd hc]; rfl⟩

theorem IsChannelReg.trig {c : Nat} (hc : c < 64) : IsChannelReg c (R.BRW_CH_TRIG c) :=
  ⟨hc, by unfold R.BRW_CH_TRIG; omega, by unfold R.BRW_CH_TRIG; omega, by rw [regAt_brwChTrig hc]; rfl⟩

/-- A channel's registers are none of the mailbox's copies. -/
theorem IsChannelReg.copyOf {c a : Nat} (h : IsChannelReg c a) : copyOf a = a := by
  obtain ⟨-, haddr, -⟩ := h
  exact if_neg (by omega)

/-- The plot that owns a channel finds its registers on its page (R414). -/
theorem IsChannelReg.pageAt {c a : Nat} (h : IsChannelReg c a) (p : Part) :
    p.pageAt (p.chOwner c) (a / 0x100000) (a % 0x100000) = .reg a := by
  obtain ⟨hc, haddr, -, hrow⟩ := h
  have hblk : a / 0x100000 = 5 := by omega
  have hself : 5 * 0x100000 + a % 0x100000 = a := by omega
  have hchannels : a % 0x100000 < 0x4000 := by omega
  have hindex : a % 0x100000 / 0x100 = c := by omega
  rw [Part.pageAt, hblk]
  simp only [hself, hchannels, hindex, slotHit, hrow]
  simp [Part.chOwner]

/-- Plot 0 firmware, or the channel's owner, writes a register of the channel. -/
theorem IsChannelReg.writeOf {c a : Nat} (h : IsChannelReg c a) {s : State} {w : Who} (hw : Reaches s w (s.part.chOwner c)) (v : Word) :
    s.part.writeOf s.ns w a v = s.part.regStore s.ns w 0 a v := by
  have hpage := h.pageAt s.part
  have hcopy := h.copyOf
  obtain ⟨hc, haddr, halign, hrow⟩ := h
  obtain ⟨hkind, -, hplot⟩ := hw
  by_cases hp : w.plot = 0
  · exact s.part.writeOf_firmware s.ns v hkind hp (by omega) halign (by rw [implemented, hcopy]; exact hrow) hcopy
  · have hp' : w.plot.val ≠ 0 := fun h0 => hp (Fin.ext h0)
    exact s.part.writeOf_page s.ns v hkind hp' (by omega) (by omega) halign hcopy (by rw [hplot.resolve_left hp]; exact hpage)

/-- A write in the blocks of Barrow and of the DRAM controller follows the register's own rule. -/
theorem Part.regStore_mid {p q : Part} {t : Nat} {w : Who} {ctx a i j b key : Nat} {r : RegRow} {v : Word} (h : a / 0x100000 = b)
    (hb : b = 5 ∨ b = 6) (hr : regAt a = some (r, i, j)) (hkey : b * 0x100000 + r.off = key) (hown : p.writeMid t w key i v = some q) :
    p.regStore t w ctx a v = q := by
  have hgated : p.gatedReg a = false := by
    have hbed : b ≠ blkBED := by unfold blkBED; omega
    simp [Part.gatedReg, h, hbed]
  have hshut : p.ringShut a = false := by
    have hbelow : ¬ 0x710000 ≤ a := by omega
    simp [Part.ringShut, isHostRing, hbelow]
  unfold Part.regStore
  rw [hr]
  simp only [hgated, hshut, h, rowKey, Bool.false_eq_true, if_false]
  rw [if_neg (by omega), if_pos (by omega), hkey, hown, Option.getD_some]

section
variable {s : State} {w : Who} {c : Nat} (hc : c < 64) (hw : Reaches s w (s.part.chOwner c)) (v : Word)
include hc hw

/-- A write of a channel's CTRL. -/
theorem Part.writeOf_brwChCtrl : s.part.writeOf s.ns w (R.BRW_CH_CTRL c) v = s.part.chCtrl s.ns c v := by
  rw [(IsChannelReg.ctrl hc).writeOf hw]
  refine Part.regStore_mid (b := 5) (key := R.BRW_CH_CTRL 0) (by unfold R.BRW_CH_CTRL; omega) (.inl rfl) (regAt_brwChCtrl hc) rfl ?_
  rw [Part.writeMid, if_neg (by decide), if_pos rfl]

/-- A write of a channel's LEVEL_ADD. -/
theorem Part.writeOf_brwChLevelAdd : s.part.writeOf s.ns w (R.BRW_CH_LEVEL_ADD c) v = s.part.levelAdd c v.toNat := by
  rw [(IsChannelReg.levelAdd hc).writeOf hw]
  refine Part.regStore_mid (b := 5) (key := R.BRW_CH_LEVEL_ADD 0) (by unfold R.BRW_CH_LEVEL_ADD; omega) (.inl rfl) (regAt_brwChLevelAdd hc) rfl ?_
  rw [Part.writeMid]
  iterate 3 rw [if_neg (by decide)]
  exact if_pos rfl

/-- A write of a channel's TRIG. -/
theorem Part.writeOf_brwChTrig : s.part.writeOf s.ns w (R.BRW_CH_TRIG c) v = s.part.trigWrite s.ns w c v := by
  rw [(IsChannelReg.trig hc).writeOf hw]
  refine Part.regStore_mid (b := 5) (key := R.BRW_CH_TRIG 0) (by unfold R.BRW_CH_TRIG; omega) (.inl rfl) (regAt_brwChTrig hc) rfl ?_
  rw [Part.writeMid]
  iterate 4 rw [if_neg (by decide)]
  exact if_pos rfl

end

/-- Plot 0 firmware's write of BRW_CTRL. -/
theorem Part.writeOf_brwCtrl (p : Part) (t : Nat) {w : Who} (hk : w.kind ≠ .host) (hp : w.plot = 0) (v : Word) :
    p.writeOf t w R.BRW_CTRL v = p.brwPause t (v.bits 0 0 == 1) := by
  have hrow : regAt R.BRW_CTRL = some (⟨0x8000, 1, 0, 1, 0, [⟨0, 0, .rw, 0⟩]⟩, 0, 0) := by decide
  rw [p.writeOf_firmware t v hk hp (by decide) (by decide) (by decide) (by decide)]
  refine Part.regStore_mid (b := 5) (key := R.BRW_CTRL) (by decide) (.inl rfl) hrow rfl ?_
  rw [Part.writeMid]
  iterate 5 rw [if_neg (by decide)]
  exact if_pos rfl

end Sys2Proof.Machine
end

section
/-! SUPPORT. What an operation of a channel of Barrow may touch (R414, R435, R438): registers alone, or the channel too. -/

namespace Sys2Proof.Machine

open Sys2Proof.Claim

/-- `q` is `p` but for the registers listed. -/
def Part.InRegs (l : List Nat) (p q : Part) : Prop := q = { p with regs := q.regs } ∧ p.RegsWithin l q

section
variable {l : List Nat} {p q : Part}

theorem Part.InRegs.refl (l : List Nat) (p : Part) : p.InRegs l p := ⟨rfl, .refl l p⟩

theorem Part.InRegs.trans {r : Part} (h : p.InRegs l q) (k : q.InRegs l r) : p.InRegs l r := ⟨by rw [k.1, h.1], h.2.trans k.2⟩

theorem Part.InRegs.put (h : p.InRegs l q) (f : Fld) (n : Nat) (hf : f.reg ∈ l) : p.InRegs l (q.put f n) :=
  h.trans ⟨rfl, (Part.RegsWithin.refl l q).put f n hf⟩

theorem Part.InRegs.mono {l' : List Nat} (h : p.InRegs l q) (hl : ∀ a ∈ l, a ∈ l') : p.InRegs l' q :=
  ⟨h.1, fun a ha => h.2 a fun hin => ha (hl a hin)⟩

theorem Part.InRegs.get (h : p.InRegs l q) {f : Fld} (hf : f.reg ∉ l) : q.get f = p.get f := by
  rw [Part.get, Part.get, h.2 _ hf]

theorem Part.InRegs.on (h : p.InRegs l q) {f : Fld} (hf : f.reg ∉ l) : q.on f = p.on f := by
  rw [Part.on, Part.on, h.get hf]

/-- A field written with what it reads. -/
theorem Part.InRegs.of_put_get (p : Part) {f : Fld} {n : Nat} (hn : n = p.get f) : p.InRegs [] (p.put f n) :=
  ⟨rfl, fun a _ => p.reg_put_get hn a⟩

theorem Part.InRegs.sdl (h : p.InRegs l q) : q.sdl = p.sdl := by rw [h.1]
theorem Part.InRegs.mem (h : p.InRegs l q) : q.mem = p.mem := by rw [h.1]
theorem Part.InRegs.brw (h : p.InRegs l q) : q.brw = p.brw := by rw [h.1]

theorem Part.InRegs.chan (h : p.InRegs l q) (c : Nat) : q.chan c = p.chan c := by
  unfold Part.chan
  rw [h.brw]

theorem Part.InRegs.sameMap (h : p.InRegs l q) (hl : ∀ a ∈ l, a < 0x1300000) : p.SameMap q :=
  ⟨h.mem, fun a ha => h.2 a fun hin => absurd (hl a hin) (by omega)⟩

end

/-- As a claim about states. -/
theorem Part.InRegs.claim {l : List Nat} {s : State} {q : Part} (h : s.part.InRegs l q) : RegsOnly l s { s with part := q } :=
  regsOnly_of_regs h.1 h.2

/-- Outside channel `c` only memory and the registers listed differ. -/
def Part.ChanOnly (c : Nat) (l : List Nat) (p q : Part) : Prop :=
  (∀ d, d ≠ c → q.chan d = p.chan d) ∧ p.RegsWithin l q ∧ q = { p with regs := q.regs, mem := q.mem, brw := q.brw }

section
variable {c : Nat} {l : List Nat} {p q : Part}

theorem Part.ChanOnly.trans {r : Part} (h : p.ChanOnly c l q) (k : q.ChanOnly c l r) : p.ChanOnly c l r :=
  ⟨fun d hd => (k.1 d hd).trans (h.1 d hd), h.2.1.trans k.2.1, by rw [k.2.2, h.2.2]⟩

theorem Part.ChanOnly.of_inRegs (h : p.InRegs l q) : p.ChanOnly c l q :=
  ⟨fun d _ => h.chan d, h.2, by rw [h.1]⟩

theorem Part.ChanOnly.mono {l' : List Nat} (h : p.ChanOnly c l q) (hl : ∀ a ∈ l, a ∈ l') : p.ChanOnly c l' q :=
  ⟨h.1, fun a ha => h.2.1 a fun hin => ha (hl a hin), h.2.2⟩

theorem Part.chan_modChan_self (p : Part) (c : Nat) (f : Chan → Chan) : (p.modChan c f).chan c = f (p.chan c) :=
  FMap.get_put_self Chan.init p.brw c _

theorem Part.chan_modChan_other (p : Part) {c d : Nat} (f : Chan → Chan) (h : d ≠ c) : (p.modChan c f).chan d = p.chan d :=
  FMap.get_put_other Chan.init p.brw _ h

theorem Part.ChanOnly.modChan (p : Part) (c : Nat) (l : List Nat) (f : Chan → Chan) : p.ChanOnly c l (p.modChan c f) :=
  ⟨fun _ hd => p.chan_modChan_other f hd, .refl l p, rfl⟩

theorem Part.ChanOnly.storeAt (p : Part) (c : Nat) (l : List Nat) (ks : List Nat) (data : List Byte) : p.ChanOnly c l (p.storeAt ks data) :=
  ⟨fun _ _ => rfl, fun _ _ => rfl, rfl⟩

theorem Part.ChanOnly.sdl (h : p.ChanOnly c l q) : q.sdl = p.sdl := by rw [h.2.2]

end

theorem Part.ChanOnly.claim {c : Nat} {l : List Nat} {s : State} {q : Part} (h : s.part.ChanOnly c l q) :
    ChannelOnly c l s { s with part := q } :=
  ⟨h.1, h.2.1, congrArg (fun p => { s with part := p }) h.2.2⟩

/-! The registers that follow a channel's state. -/

theorem Part.brwStat_inRegs (p : Part) : p.InRegs [R.BRW_STAT, R.BRW_ACTIVE_LO, R.BRW_ACTIVE_HI] p.brwStat := by
  unfold Part.brwStat
  extract_lets still act
  refine ⟨rfl, fun a ha => ?_⟩
  simp only [List.mem_cons, List.not_mem_nil, or_false, not_or] at ha
  exact (Part.reg_setReg_other _ _ ha.2.2).trans ((Part.reg_setReg_other _ _ ha.2.1).trans (Part.reg_put_other _ _ _ ha.1))

theorem Part.setChState_inRegs (p : Part) (c st : Nat) : p.InRegs (chRegs c) (p.setChState c st) :=
  (((Part.InRegs.refl _ p).put (F.BRW_CH_STATE_STATE c) st List.mem_cons_self)).trans
    ((Part.brwStat_inRegs _).mono fun _ ha => List.mem_cons_of_mem _ ha)

/-- A channel's register is none of Barrow's own. -/
theorem channelReg_not_mem {a c : Nat} (hc : c < 64) (ha : a / 0x100 = 0x5000 + c) : a ∉ [R.BRW_STAT, R.BRW_ACTIVE_LO, R.BRW_ACTIVE_HI] := by
  simp only [R.BRW_STAT, R.BRW_ACTIVE_LO, R.BRW_ACTIVE_HI, List.mem_cons, List.not_mem_nil, or_false]
  omega

theorem chStateReg_page (c : Nat) : R.BRW_CH_STATE c / 0x100 = 0x5000 + c := by unfold R.BRW_CH_STATE; omega

section
variable (p : Part) {c st : Nat} (hc : c < 64)
include hc

/-- Any other field of the state's register stays. -/
theorem Part.get_setChState {f : Fld} (hf : f.reg = R.BRW_CH_STATE c) (hlo : 2 < f.lo) : (p.setChState c st).get f = p.get f :=
  ((p.put (F.BRW_CH_STATE_STATE c) st).brwStat_inRegs.get (by rw [hf]; exact channelReg_not_mem hc (chStateReg_page c))).trans
    (Part.get_put_disjoint p _ _ _ (.inr hlo))

/-- The state that a channel takes is the one it has. -/
theorem Part.chState_setChState (hst : st < 8) : (p.setChState c st).chState c = st :=
  ((p.put (F.BRW_CH_STATE_STATE c) st).brwStat_inRegs.get (channelReg_not_mem hc (chStateReg_page c))).trans
    ((Part.get_put_self p (F.BRW_CH_STATE_STATE c) st (by decide : 2 < 32)).trans (Nat.mod_eq_of_lt hst))

end

end Sys2Proof.Machine
end

section
/-! SUPPORT. EN and PAUSE of a channel and of all Barrow (R435 to R438). -/

namespace Sys2Proof.Machine

open Sys2Proof.Claim

section
variable {p : Part} {c : Nat} (t : Nat)

/-- EN written 1 to a channel that is not DISABLED. -/
theorem Part.chEnable_again (h : p.chState c ≠ 0) : p.chEnable t c true = p.set (F.BRW_CH_CTRL_EN c) := by
  rw [Part.chEnable, if_pos rfl]
  exact if_neg h

/-- EN written 1 in DISABLED with a valid ring and no doorbell remembered. -/
theorem Part.chEnable_valid (h : p.chState c = 0) (hring : p.ringValid c = true) (hbell : p.get (F.BRW_CH_STATE_DB_PEND c) = 0) :
    p.chEnable t c true = (((p.set (F.BRW_CH_CTRL_EN c)).clr (F.BRW_CH_STATE_HYST_ON c)).modChan c
      (fun u => { u with next := p.get (F.BRW_CH_HEAD_INDEX c) })).setChState c 1 := by
  simp only [Part.chEnable, if_true, h, hring, p.on_eq_false (f := F.BRW_CH_STATE_DB_PEND c) (by rw [hbell]; decide)]
  rfl

/-- EN written 1 in DISABLED with an invalid ring: cause CONFIG. -/
theorem Part.chEnable_invalid (h : p.chState c = 0) (hring : p.ringValid c = false) :
    p.chEnable t c true = (p.set (F.BRW_CH_CTRL_EN c)).put (F.BRW_CH_ERR_CAUSE c) 6 := by
  simp only [Part.chEnable, if_true, h, hring]
  rfl

/-- EN written 0 to a channel at rest. -/
theorem Part.chEnable_off (h : p.chState c ∈ [1, 2, 4, 5]) :
    p.chEnable t c false = ((p.clr (F.BRW_CH_CTRL_EN c)).modChan c (fun u => { u with run := none })).setChState c 0 := by
  rw [Part.chEnable, if_neg Bool.false_ne_true]
  exact if_pos (by simpa using h)

/-- EN written 0 to a RUNNING or FENCED channel. -/
theorem Part.chEnable_kept (h : p.chState c ∈ [3, 6]) : p.chEnable t c false = p := by
  rw [Part.chEnable, if_neg Bool.false_ne_true]
  rcases List.mem_pair.mp h with h | h <;> rw [h] <;> rfl

/-- Nothing resumes where the channel pauses, or has nothing to go on with. -/
theorem Part.chResume_not (h : p.chPaused c = true ∨ p.chState c ≠ 4 ∧ (p.chState c ≠ 1 ∨ p.get (F.BRW_CH_STATE_DB_PEND c) = 0)) :
    p.chResume t c = p := by
  rw [Part.chResume, if_neg, if_neg]
  · rintro ⟨hidle, hpaused, hbell⟩
    rcases h with h | ⟨-, h | h⟩
    · simp [h] at hpaused
    · exact h hidle
    · simp [Part.on, h] at hbell
  · rintro ⟨hst, hpaused⟩
    rcases h with h | ⟨h, -⟩
    · simp [h] at hpaused
    · exact h hst

/-- A PAUSED channel with a descriptor in progress runs again (R436). -/
theorem Part.chResume_run {r : BrwRun} (h : p.chState c = 4) (hpaused : p.chPaused c = false) (hrun : (p.chan c).run = some r) :
    p.chResume t c = p.setChState c 3 := by
  simp only [Part.chResume, h, hpaused, hrun]
  rfl

end

/-! A write of CTRL. -/

/-- The registers of a channel's CTRL and of what follows its state. -/
def chCtrlRegs (c : Nat) : List Nat := R.BRW_CH_CTRL c :: chRegs c

theorem ctrl_mem_chCtrlRegs (c : Nat) : R.BRW_CH_CTRL c ∈ chCtrlRegs c := List.mem_cons_self

theorem chRegs_sub_chCtrlRegs (c : Nat) : ∀ a ∈ chRegs c, a ∈ chCtrlRegs c := fun _ ha => List.mem_cons_of_mem _ ha

/-- A write of CTRL that rings no doorbell: with PACE as it stands it is the write of EN, then that of PAUSE. -/
theorem Part.chCtrl_quiet (p : Part) (t c : Nat) {v : Word} {en pause : Bool} (hpace : v.bits 5 4 = p.get (F.BRW_CH_CTRL_PACE c))
    (hen : v.bits 0 0 = en.toNat) (hpause : v.bits 1 1 = pause.toNat) (hbell : v.bits 2 2 = 0) :
    ∃ q, p.InRegs [] q ∧ p.chCtrl t c v = (q.chEnable t c en).chPause t c pause := by
  refine ⟨p.put (F.BRW_CH_CTRL_PACE c) (v.bits 5 4), .of_put_get p hpace, ?_⟩
  have e : (v.bits 0 0 == 1) = en := by rw [hen]; cases en <;> rfl
  have e' : (v.bits 1 1 == 1) = pause := by rw [hpause]; cases pause <;> rfl
  rw [Part.chCtrl, if_neg (by omega), e, e']

/-- One bit of a word, just written. -/
theorem Word.withBits_bit_self (v : Word) {i : Nat} (on : Bool) (h : i < 32) : (v.withBits i i on.toNat).bits i i = on.toNat := by
  rw [Word.withBits_bits_self v _ h, show i + 1 - i = 1 by omega]
  cases on <;> rfl

/-- The word of a write of EN. -/
theorem Word.bits_enWritten (v : Word) (on : Bool) :
    let u := (v.withBits 2 2 0).withBits 0 0 on.toNat
    u.bits 5 4 = v.bits 5 4 ∧ u.bits 0 0 = on.toNat ∧ u.bits 1 1 = v.bits 1 1 ∧ u.bits 2 2 = 0 := by
  refine ⟨?_, Word.withBits_bit_self _ on (by decide), ?_, ?_⟩
  · exact (Word.withBits_bits_other _ _ (.inr (by decide))).trans (Word.withBits_bits_other _ _ (.inr (by decide)))
  · exact (Word.withBits_bits_other _ _ (.inr (by decide))).trans (Word.withBits_bits_other _ _ (.inl (by decide)))
  · exact (Word.withBits_bits_other _ _ (.inr (by decide))).trans (Word.withBits_bit_self v false (by decide))

/-- The word of a write of PAUSE. -/
theorem Word.bits_pauseWritten (v : Word) (on : Bool) :
    let u := (v.withBits 2 2 0).withBits 1 1 on.toNat
    u.bits 5 4 = v.bits 5 4 ∧ u.bits 0 0 = v.bits 0 0 ∧ u.bits 1 1 = on.toNat ∧ u.bits 2 2 = 0 := by
  refine ⟨?_, ?_, Word.withBits_bit_self _ on (by decide), ?_⟩
  · exact (Word.withBits_bits_other _ _ (.inr (by decide))).trans (Word.withBits_bits_other _ _ (.inr (by decide)))
  · exact (Word.withBits_bits_other _ _ (.inl (by decide))).trans (Word.withBits_bits_other _ _ (.inl (by decide)))
  · exact (Word.withBits_bits_other _ _ (.inr (by decide))).trans (Word.withBits_bit_self v false (by decide))

/-- The word of a doorbell. -/
theorem Word.bits_bellWritten (v : Word) :
    let u := v.withBits 2 2 1
    u.bits 5 4 = v.bits 5 4 ∧ u.bits 0 0 = v.bits 0 0 ∧ u.bits 1 1 = v.bits 1 1 ∧ u.bits 2 2 = 1 :=
  ⟨Word.withBits_bits_other _ _ (.inr (by decide)), Word.withBits_bits_other _ _ (.inl (by decide)),
    Word.withBits_bits_other _ _ (.inl (by decide)), Word.withBits_bit_self v true (by decide)⟩

/-- A one-bit field as a truth value. -/
theorem Part.get_bit_toNat (p : Part) (a i : Nat) : ∃ b : Bool, p.get ⟨a, i, i⟩ = b.toNat := by
  have h := p.get_lt ⟨a, i, i⟩
  rw [show i + 1 - i = 1 by omega] at h
  refine ⟨p.get ⟨a, i, i⟩ == 1, ?_⟩
  rcases (by omega : p.get ⟨a, i, i⟩ = 0 ∨ p.get ⟨a, i, i⟩ = 1) with e | e <;> rw [e] <;> rfl

end Sys2Proof.Machine
end

section
/-! SUPPORT. The writes of EN and PAUSE, and a channel that enters PAUSED (R435 to R438). -/

namespace Sys2Proof.Machine

open Sys2Proof.Claim

section
variable {p q : Part} {c : Nat}

/-- Where every register reads the same, the ring is as valid as it was. -/
theorem Part.InRegs.ringValid (h : p.InRegs [] q) : q.ringValid c = p.ringValid c := by
  have get (f : Fld) : q.get f = p.get f := h.get List.not_mem_nil
  have hkey : q.memKey = p.memKey := (h.sameMap (by simp)).memKey
  simp only [Part.ringValid, Part.chSize, Part.descAt, Part.chRing, Part.get64, Part.chOwner, get, hkey]

/-- A field of EN's register that a write of PAUSE leaves. -/
theorem Part.get_en_put_pause (p : Part) (c n : Nat) : (p.put (F.BRW_CH_CTRL_PAUSE c) n).get (F.BRW_CH_CTRL_EN c) = p.get (F.BRW_CH_CTRL_EN c) :=
  Part.get_put_disjoint _ _ _ _ (.inl (by decide : 0 < 1))

/-- STATE stands in a register of its own. -/
theorem chState_ne_ctrl (c : Nat) : R.BRW_CH_STATE c ≠ R.BRW_CH_CTRL c := by unfold R.BRW_CH_STATE R.BRW_CH_CTRL; omega

theorem Part.chState_put_ctrl (p : Part) (c : Nat) {f : Fld} (n : Nat) (hf : f.reg = R.BRW_CH_CTRL c) :
    (p.put f n).chState c = p.chState c :=
  Part.get_put_reg _ _ _ _ (by rw [hf]; exact chState_ne_ctrl c)

/-- A channel that pauses does not resume. -/
theorem Part.chPaused_of_pause (h : p.get (F.BRW_CH_CTRL_PAUSE c) = 1) : p.chPaused c = true := by
  simp [Part.chPaused, Part.on, h]

theorem Part.chPaused_eq_false (h : p.get (F.BRW_CH_CTRL_PAUSE c) = 0) (hall : p.get F.BRW_CTRL_PAUSE = 0) : p.chPaused c = false := by
  simp [Part.chPaused, Part.on, h, hall]

/-- PAUSE written to a channel with nothing to go on with. -/
theorem Part.chPause_still (t : Nat) (pause : Bool) (h4 : p.chState c ≠ 4)
    (h1 : p.chState c ≠ 1 ∨ p.get (F.BRW_CH_STATE_DB_PEND c) = 0) :
    p.chPause t c pause = p.put (F.BRW_CH_CTRL_PAUSE c) pause.toNat := by
  have e : (if pause then 1 else 0) = pause.toNat := by cases pause <;> rfl
  rw [Part.chPause, e]
  refine Part.chResume_not t (.inr ?_)
  rw [Part.chState_put_ctrl _ _ _ rfl, Part.get_put_reg _ _ _ _ (chState_ne_ctrl c)]
  exact ⟨h4, h1⟩

end

/-! EN (R438). -/

/-- CTRL is none of the registers that follow a channel's state. -/
theorem ctrl_not_mem_chRegs {c : Nat} (hc : c < 64) : R.BRW_CH_CTRL c ∉ chRegs c := by
  simp only [chRegs, R.BRW_CH_CTRL, R.BRW_CH_STATE, R.BRW_STAT, R.BRW_ACTIVE_LO, R.BRW_ACTIVE_HI, List.mem_cons, List.not_mem_nil, or_false]
  omega

section
variable {p : Part} {c : Nat} (t : Nat) (hc : c < 64)
include hc

/-- A channel that EN takes from DISABLED to IDLE. -/
theorem Part.chEnable_idle (h0 : p.chState c = 0) (hring : p.ringValid c = true) (hbell : p.get (F.BRW_CH_STATE_DB_PEND c) = 0) :
    let r := p.chEnable t c true
    r.get (F.BRW_CH_CTRL_EN c) = 1 ∧ r.chState c = 1 ∧ r.get (F.BRW_CH_STATE_HYST_ON c) = 0 ∧ r.get (F.BRW_CH_STATE_DB_PEND c) = 0 ∧
      r.chan c = { p.chan c with next := p.get (F.BRW_CH_HEAD_INDEX c) } ∧ r.mem = p.mem ∧ p.ChanOnly c (chCtrlRegs c) r := by
  intro r
  obtain ⟨q1, hq1⟩ : ∃ q1, p.set (F.BRW_CH_CTRL_EN c) = q1 := ⟨_, rfl⟩
  obtain ⟨q2, hq2⟩ : ∃ q2, q1.clr (F.BRW_CH_STATE_HYST_ON c) = q2 := ⟨_, rfl⟩
  obtain ⟨q3, hq3⟩ : ∃ q3, q2.modChan c (fun u => { u with next := p.get (F.BRW_CH_HEAD_INDEX c) }) = q3 := ⟨_, rfl⟩
  have hr : r = q3.setChState c 1 := by
    rw [← hq3, ← hq2, ← hq1]
    exact Part.chEnable_valid t h0 hring hbell
  have h1 : p.InRegs (chCtrlRegs c) q1 := hq1 ▸ (Part.InRegs.refl _ p).put _ _ (ctrl_mem_chCtrlRegs c)
  have h2 : q1.InRegs (chCtrlRegs c) q2 := hq2 ▸ (Part.InRegs.refl _ q1).put _ _ (chRegs_sub_chCtrlRegs c _ List.mem_cons_self)
  have h3 : q2.ChanOnly c (chCtrlRegs c) q3 := hq3 ▸ .modChan q2 c _ _
  have h4 : q3.InRegs (chRegs c) r := hr ▸ q3.setChState_inRegs c 1
  have get3 (f : Fld) : q3.get f = q2.get f := by rw [← hq3, Part.modChan_get]
  have h12 := h1.trans h2
  refine ⟨?en, ?state, ?hyst, ?pend, ?chan, ?mem, ?frame⟩
  case en =>
    calc r.get (F.BRW_CH_CTRL_EN c) = q2.get (F.BRW_CH_CTRL_EN c) := (h4.get (ctrl_not_mem_chRegs hc)).trans (get3 _)
      _ = q1.get (F.BRW_CH_CTRL_EN c) := hq2 ▸ Part.get_put_reg _ _ _ _ (chState_ne_ctrl c).symm
      _ = 1 := hq1 ▸ Part.get_put_bit p _ 0 1 (by decide)
  case state =>
    rw [hr]
    exact q3.chState_setChState hc (by decide)
  case hyst =>
    calc r.get (F.BRW_CH_STATE_HYST_ON c) = q3.get (F.BRW_CH_STATE_HYST_ON c) := hr ▸ q3.get_setChState hc rfl (by decide : 2 < 4)
      _ = q2.get (F.BRW_CH_STATE_HYST_ON c) := get3 _
      _ = 0 := hq2 ▸ Part.get_put_bit q1 _ 4 0 (by decide)
  case pend =>
    calc r.get (F.BRW_CH_STATE_DB_PEND c) = q3.get (F.BRW_CH_STATE_DB_PEND c) := hr ▸ q3.get_setChState hc rfl (by decide : 2 < 3)
      _ = q2.get (F.BRW_CH_STATE_DB_PEND c) := get3 _
      _ = q1.get (F.BRW_CH_STATE_DB_PEND c) := hq2 ▸ Part.get_put_disjoint _ _ _ _ (.inl (by decide : 3 < 4))
      _ = p.get (F.BRW_CH_STATE_DB_PEND c) := hq1 ▸ Part.get_put_reg _ _ _ _ (chState_ne_ctrl c)
      _ = 0 := hbell
  case chan => rw [h4.chan, ← hq3, Part.chan_modChan_self, h12.chan]
  case mem => rw [h4.mem, ← hq3, Part.modChan_mem, h12.mem]
  case frame => exact ((Part.ChanOnly.of_inRegs h12).trans h3).trans (.of_inRegs (h4.mono (chRegs_sub_chCtrlRegs c)))

/-- A channel that EN takes to DISABLED. -/
theorem Part.chEnable_disabled (hst : p.chState c ∈ [1, 2, 4, 5]) :
    let r := p.chEnable t c false
    r.get (F.BRW_CH_CTRL_EN c) = 0 ∧ r.chState c = 0 ∧ r.chan c = { p.chan c with run := none } ∧ r.mem = p.mem ∧
      p.ChanOnly c (chCtrlRegs c) r := by
  intro r
  obtain ⟨q1, hq1⟩ : ∃ q1, p.clr (F.BRW_CH_CTRL_EN c) = q1 := ⟨_, rfl⟩
  obtain ⟨q2, hq2⟩ : ∃ q2, q1.modChan c (fun u => { u with run := none }) = q2 := ⟨_, rfl⟩
  have hr : r = q2.setChState c 0 := by
    rw [← hq2, ← hq1]
    exact Part.chEnable_off t hst
  have h1 : p.InRegs (chCtrlRegs c) q1 := hq1 ▸ (Part.InRegs.refl _ p).put _ _ (ctrl_mem_chCtrlRegs c)
  have h2 : q1.ChanOnly c (chCtrlRegs c) q2 := hq2 ▸ .modChan q1 c _ _
  have h3 : q2.InRegs (chRegs c) r := hr ▸ q2.setChState_inRegs c 0
  refine ⟨?en, ?state, ?chan, ?mem, ?frame⟩
  case en => rw [h3.get (ctrl_not_mem_chRegs hc), ← hq2, Part.modChan_get, ← hq1]; exact Part.get_put_bit p _ 0 0 (by decide)
  case state =>
    rw [hr]
    exact q2.chState_setChState hc (by decide)
  case chan => rw [h3.chan, ← hq2, Part.chan_modChan_self, h1.chan]
  case mem => rw [h3.mem, ← hq2, Part.modChan_mem, h1.mem]
  case frame => exact ((Part.ChanOnly.of_inRegs h1).trans h2).trans (.of_inRegs (h3.mono (chRegs_sub_chCtrlRegs c)))

end

section
variable {w : Who} {c : Nat} {s : State} (hs : Ready s) (hc : c < 64) (hw : Reaches s w (s.part.chOwner c))
include hs hc hw

/-- A write of EN is that of EN and one of PAUSE with its own value, in a part whose registers read the same. -/
theorem exec_brwChEnWrite (on : Bool) : ∃ q pause, s.part.InRegs [] q ∧ s.part.get (F.BRW_CH_CTRL_PAUSE c) = Bool.toNat pause ∧
    exec (.brwChEnWrite w c on) s = .next (s.settle ((q.chEnable s.ns c on).chPause s.ns c pause)) := by
  obtain ⟨pause, hpause⟩ := s.part.get_bit_toNat (R.BRW_CH_CTRL c) 1
  obtain ⟨hpace', hen', hpause', hbell'⟩ := Word.bits_enWritten (s.part.reg (R.BRW_CH_CTRL c)) on
  obtain ⟨q, hq, heff⟩ := s.part.chCtrl_quiet s.ns c hpace' hen' (hpause'.trans hpause) hbell'
  refine ⟨q, pause, hq, hpause, ?_⟩
  rw [next_brwChEnWrite w c on s hs.1 (by simp [Instr.wf, hc, hw.2.1]), Part.writeOf_brwChCtrl hc hw, heff]

/-- EN written 1 in DISABLED, with a valid ring. -/
theorem completes_enable (h0 : s.part.chState c = 0) (hring : s.part.ringValid c = true)
    (hbell : s.part.get (F.BRW_CH_STATE_DB_PEND c) = 0) :
    Completes (.brwChEnWrite w c true) s (fun t => t.part.get (F.BRW_CH_CTRL_EN c) = 1 ∧ t.part.chState c = 1 ∧
      t.part.get (F.BRW_CH_STATE_HYST_ON c) = 0 ∧ t.part.chan c = { s.part.chan c with next := s.part.get (F.BRW_CH_HEAD_INDEX c) } ∧
      t.part.mem = s.part.mem ∧ ChannelOnly c (R.BRW_CH_CTRL c :: chRegs c) s t) := by
  obtain ⟨q, pause, hq, -, he⟩ := exec_brwChEnWrite hs hc hw true
  have get (f : Fld) : q.get f = s.part.get f := hq.get List.not_mem_nil
  obtain ⟨hen, hstate, hhyst, hpend, hchan, hmem, hframe⟩ :=
    Part.chEnable_idle s.ns hc ((get _).trans h0) (hq.ringValid.trans hring) ((get _).trans hbell)
  generalize q.chEnable s.ns c true = r at *
  rw [Part.chPause_still s.ns pause (by rw [hstate]; decide) (.inr hpend)] at he
  have hlast : r.InRegs (chCtrlRegs c) (r.put (F.BRW_CH_CTRL_PAUSE c) pause.toNat) := (Part.InRegs.refl _ _).put _ _ (ctrl_mem_chCtrlRegs c)
  have hall := ((Part.ChanOnly.of_inRegs (hq.mono (by simp))).trans hframe).trans (.of_inRegs hlast)
  refine completes_of_still he (by rw [hall.sdl]; exact hs.2) ⟨?_, ?_, ?_, ?_, ?_, hall.claim⟩
  · exact (r.get_en_put_pause c _).trans hen
  · exact (r.chState_put_ctrl c _ rfl).trans hstate
  · exact (Part.get_put_reg _ _ _ _ (chState_ne_ctrl c)).trans hhyst
  · exact (hlast.chan c).trans (hchan.trans (by rw [hq.chan, get]))
  · exact hlast.mem.trans (hmem.trans hq.mem)

/-- EN written 1 in DISABLED, with an invalid ring. -/
theorem completes_enable_invalid (h0 : s.part.chState c = 0) (hring : s.part.ringValid c = false) :
    Completes (.brwChEnWrite w c true) s (fun t => t.part.chState c = 0 ∧ t.part.get (F.BRW_CH_ERR_CAUSE c) = 6 ∧
      RegsOnly [R.BRW_CH_CTRL c, R.BRW_CH_ERR c] s t) := by
  obtain ⟨q, pause, hq, -, he⟩ := exec_brwChEnWrite hs hc hw true
  have get (f : Fld) : q.get f = s.part.get f := hq.get List.not_mem_nil
  rw [Part.chEnable_invalid s.ns ((get _).trans h0) (hq.ringValid.trans hring)] at he
  let q1 := (q.set (F.BRW_CH_CTRL_EN c)).put (F.BRW_CH_ERR_CAUSE c) 6
  have hne : R.BRW_CH_STATE c ≠ R.BRW_CH_ERR c := by unfold R.BRW_CH_STATE R.BRW_CH_ERR; omega
  have hstate : q1.chState c = 0 :=
    (Part.get_put_reg _ _ _ _ hne).trans ((q.chState_put_ctrl c 1 rfl).trans ((get _).trans h0))
  rw [Part.chPause_still s.ns pause (p := q1) (by rw [hstate]; decide) (.inl (by rw [hstate]; decide))] at he
  have hall : s.part.InRegs [R.BRW_CH_CTRL c, R.BRW_CH_ERR c] (q1.put (F.BRW_CH_CTRL_PAUSE c) pause.toNat) :=
    (((hq.mono (by simp)).put (F.BRW_CH_CTRL_EN c) 1 List.mem_cons_self).put (F.BRW_CH_ERR_CAUSE c) 6
      (List.mem_cons_of_mem _ List.mem_cons_self)).put (F.BRW_CH_CTRL_PAUSE c) _ List.mem_cons_self
  refine completes_of_still he (by rw [hall.sdl]; exact hs.2) ⟨(q1.chState_put_ctrl c _ rfl).trans hstate, ?_, hall.claim⟩
  have herr : R.BRW_CH_ERR c ≠ R.BRW_CH_CTRL c := by unfold R.BRW_CH_ERR R.BRW_CH_CTRL; omega
  exact (Part.get_put_reg _ _ _ _ herr).trans (Part.get_put_self _ (F.BRW_CH_ERR_CAUSE c) 6 (by decide : 2 < 32))

/-- EN written 0 to a channel at rest. -/
theorem completes_disable (hst : s.part.chState c ∈ [1, 2, 4, 5]) :
    Completes (.brwChEnWrite w c false) s (fun t => t.part.get (F.BRW_CH_CTRL_EN c) = 0 ∧ t.part.chState c = 0 ∧
      t.part.chan c = { s.part.chan c with run := none } ∧ t.part.mem = s.part.mem ∧
      ChannelOnly c (R.BRW_CH_CTRL c :: chRegs c) s t) := by
  obtain ⟨q, pause, hq, -, he⟩ := exec_brwChEnWrite hs hc hw false
  obtain ⟨hen, hstate, hchan, hmem, hframe⟩ := Part.chEnable_disabled (p := q) s.ns hc
    (by rw [show q.chState c = s.part.chState c from hq.get List.not_mem_nil]; exact hst)
  generalize q.chEnable s.ns c false = r at *
  rw [Part.chPause_still s.ns pause (by rw [hstate]; decide) (.inl (by rw [hstate]; decide))] at he
  have hlast : r.InRegs (chCtrlRegs c) (r.put (F.BRW_CH_CTRL_PAUSE c) pause.toNat) := (Part.InRegs.refl _ _).put _ _ (ctrl_mem_chCtrlRegs c)
  have hall := ((Part.ChanOnly.of_inRegs (hq.mono (by simp))).trans hframe).trans (.of_inRegs hlast)
  exact completes_of_still he (by rw [hall.sdl]; exact hs.2) ⟨(r.get_en_put_pause c _).trans hen,
    (r.chState_put_ctrl c _ rfl).trans hstate, (hlast.chan c).trans (hchan.trans (by rw [hq.chan])),
    hlast.mem.trans (hmem.trans hq.mem), hall.claim⟩

/-- EN written 0 to a RUNNING or FENCED channel. -/
theorem completes_disable_kept (hst : s.part.chState c ∈ [3, 6]) : Completes (.brwChEnWrite w c false) s (RegsOnly [] s) := by
  obtain ⟨q, pause, hq, hpause, he⟩ := exec_brwChEnWrite hs hc hw false
  have hstate : q.chState c = s.part.chState c := hq.get List.not_mem_nil
  have h4 : q.chState c ≠ 4 ∧ q.chState c ≠ 1 := by
    rw [hstate]
    rcases List.mem_pair.mp hst with h | h <;> rw [h] <;> decide
  rw [Part.chEnable_kept s.ns (by rw [hstate]; exact hst), Part.chPause_still s.ns pause h4.1 (.inl h4.2)] at he
  have hall : s.part.InRegs [] (q.put (F.BRW_CH_CTRL_PAUSE c) pause.toNat) :=
    hq.trans (.of_put_get q (hpause.symm.trans (hq.get List.not_mem_nil).symm))
  exact completes_of_still he (by rw [hall.sdl]; exact hs.2) hall.claim

end

/-! PAUSE (R435, R436). -/

section
variable {w : Who} {c : Nat} {s : State} (hs : Ready s) (hc : c < 64) (hw : Reaches s w (s.part.chOwner c))
  (hen : s.part.get (F.BRW_CH_CTRL_EN c) = 1) (hst : s.part.chState c ≠ 0)
include hs hc hw hen hst

/-- A write of PAUSE to an enabled channel changes CTRL alone, but that it may resume the channel. -/
theorem exec_brwChPause (on : Bool) : ∃ q, s.part.InRegs [R.BRW_CH_CTRL c] q ∧ q.get (F.BRW_CH_CTRL_EN c) = 1 ∧
    q.get (F.BRW_CH_CTRL_PAUSE c) = on.toNat ∧ exec (.brwChPause w c on) s = .next (s.settle (q.chResume s.ns c)) := by
  obtain ⟨hpace', hen', hpause', hbell'⟩ := Word.bits_pauseWritten (s.part.reg (R.BRW_CH_CTRL c)) on
  obtain ⟨q, hq, heff⟩ := s.part.chCtrl_quiet s.ns c (en := true) hpace' (hen'.trans hen) hpause' hbell'
  have hne : q.chState c ≠ 0 := by
    rw [show q.chState c = s.part.chState c from hq.get List.not_mem_nil]
    exact hst
  have e : (if on then 1 else 0) = on.toNat := by cases on <;> rfl
  have hon : on.toNat % 2 = on.toNat := by cases on <;> rfl
  refine ⟨(q.set (F.BRW_CH_CTRL_EN c)).put (F.BRW_CH_CTRL_PAUSE c) on.toNat,
    ((hq.mono (by simp)).put (F.BRW_CH_CTRL_EN c) 1 List.mem_cons_self).put (F.BRW_CH_CTRL_PAUSE c) _ List.mem_cons_self,
    (Part.get_en_put_pause _ _ _).trans (Part.get_put_bit q _ 0 1 (by decide)), (Part.get_put_bit _ _ 1 _ (by decide)).trans hon, ?_⟩
  rw [next_brwChPause w c on s hs.1 (by simp [Instr.wf, hc, hw.2.1]), Part.writeOf_brwChCtrl hc hw, heff, Part.chEnable_again s.ns hne,
    Part.chPause, e]

/-- PAUSE written 1 changes the bit alone. -/
theorem completes_pause : Completes (.brwChPause w c true) s (fun t => t.part.get (F.BRW_CH_CTRL_PAUSE c) = 1 ∧
    t.part.get (F.BRW_CH_CTRL_EN c) = 1 ∧ RegsOnly [R.BRW_CH_CTRL c] s t) := by
  obtain ⟨q, hq, hen', hpause, he⟩ := exec_brwChPause hs hc hw hen hst true
  rw [Part.chResume_not s.ns (.inl (Part.chPaused_of_pause hpause))] at he
  exact completes_of_still he (by rw [hq.sdl]; exact hs.2) ⟨hpause, hen', hq.claim⟩

/-- PAUSE written 0 to a PAUSED channel with a descriptor in progress: it runs again. -/
theorem completes_resume {r : BrwRun} (h4 : s.part.chState c = 4) (hrun : (s.part.chan c).run = some r)
    (hall : s.part.get F.BRW_CTRL_PAUSE = 0) :
    Completes (.brwChPause w c false) s (fun t => t.part.get (F.BRW_CH_CTRL_PAUSE c) = 0 ∧ t.part.chState c = 3 ∧
      t.part.chan c = s.part.chan c ∧ t.part.mem = s.part.mem ∧ ChannelOnly c (R.BRW_CH_CTRL c :: chRegs c) s t) := by
  obtain ⟨q, hq, -, hpause, he⟩ := exec_brwChPause hs hc hw hen hst false
  have hglobal : q.get F.BRW_CTRL_PAUSE = 0 := by
    refine (hq.get ?_).trans hall
    simp only [F.BRW_CTRL_PAUSE, R.BRW_CTRL, R.BRW_CH_CTRL, List.mem_cons, List.not_mem_nil, or_false]
    omega
  have hstate : q.chState c = 4 := (hq.get fun h => chState_ne_ctrl c (List.mem_singleton.mp h)).trans h4
  rw [Part.chResume_run s.ns hstate (Part.chPaused_eq_false hpause hglobal) ((congrArg Chan.run (hq.chan c)).trans hrun)] at he
  have h3 := q.setChState_inRegs c 3
  have hframe := (hq.mono (l' := chCtrlRegs c) (by simp [chCtrlRegs])).trans (h3.mono (chRegs_sub_chCtrlRegs c))
  exact completes_of_still he (by rw [hframe.sdl]; exact hs.2) ⟨(h3.get (ctrl_not_mem_chRegs hc)).trans hpause,
    q.chState_setChState hc (by decide), hframe.chan c, hframe.mem, (Part.ChanOnly.of_inRegs hframe).claim⟩

end

/-- An operation that leaves a part leaves it however often it is applied. -/
theorem Part.each_still (p : Part) (l : List Nat) (f : Part → Nat → Part) (h : ∀ k, f p k = p) : p.each l f = p := by
  unfold Part.each
  induction l with
  | nil => rfl
  | cons k r ih => rw [List.foldl_cons, h k, ih]

/-- The global PAUSE written 1 changes the bit alone: no channel resumes (R435). -/
theorem Part.brwPause_on (p : Part) (t : Nat) : p.brwPause t true = p.put F.BRW_CTRL_PAUSE 1 := by
  refine Part.each_still _ _ _ fun c => Part.chResume_not t (.inl ?_)
  have h : (p.put F.BRW_CTRL_PAUSE 1).get F.BRW_CTRL_PAUSE = 1 := Part.get_put_bit p _ 0 1 (by decide)
  simp [Part.chPaused, Part.on, h]

/-- A channel that enters PAUSED (R436). -/
theorem completes_channelPaused {c : Nat} {s : State} (hs : Ready s) (hc : c < 64) (hlive : s.part.live = true)
    (hready : s.part.pauseReady c = true) :
    Completes (.channelPaused c) s (fun t => t.part.chState c = 4 ∧ (t.part.chan c).left = s.part.chState c ∧
      (t.part.chan c).fins = (s.part.chan c).fins ∧ t.part.mem = s.part.mem ∧ ChannelOnly c (R.BRW_CH_HEAD c :: chRegs c) s t) := by
  have he := next_channelPaused c s hs.1 (by simp [Instr.wf, hc, hlive, hready])
  unfold Part.chPausedNow at he
  extract_lets st q at he
  have hq := q.setChState_inRegs c 4
  have hhead : (q.setChState c 4).InRegs (R.BRW_CH_HEAD c :: chRegs c) ((q.setChState c 4).chHead c) :=
    (Part.InRegs.refl _ _).put _ _ List.mem_cons_self
  have hne : R.BRW_CH_STATE c ≠ R.BRW_CH_HEAD c := by unfold R.BRW_CH_STATE R.BRW_CH_HEAD; omega
  have hchan : ((q.setChState c 4).chHead c).chan c = q.chan c := (hhead.chan c).trans (hq.chan c)
  have hself : q.chan c = _ := Part.chan_modChan_self s.part c _
  have hall : s.part.ChanOnly c (R.BRW_CH_HEAD c :: chRegs c) ((q.setChState c 4).chHead c) :=
    ((Part.ChanOnly.modChan _ c _ _).trans (.of_inRegs (hq.mono fun _ ha => List.mem_cons_of_mem _ ha))).trans (.of_inRegs hhead)
  refine completes_of_still he (by rw [hall.sdl]; exact hs.2) ⟨?_, ?_, ?_, ?_, hall.claim⟩
  · exact (Part.get_put_reg _ _ _ _ hne).trans (q.chState_setChState hc (by decide))
  · rw [hchan, hself]
  · rw [hchan, hself]
  · exact hhead.mem.trans hq.mem

/-- Settles O41: each write of EN and PAUSE, and the pause that takes effect. -/
theorem channelControl : Obligations.ChannelControl := by
  refine ⟨fun w c s hs hc hw => ⟨completes_enable hs hc hw, completes_enable_invalid hs hc hw, completes_disable hs hc hw,
    completes_disable_kept hs hc hw⟩, ⟨fun w c s hs hc hw hen hst => ⟨completes_pause hs hc hw hen hst,
    fun _ h4 hrun hall => completes_resume hs hc hw hen hst h4 hrun hall⟩, fun w s hs hw => ⟨?on, ?off⟩,
    fun c s hs hc hlive hready => completes_channelPaused hs hc hlive hready⟩⟩
  case on =>
    have he := next_brwCtrlPause w true s hs.1 (by simp [Part.issues, hw.1, hw.2.1, hw.2.2])
    rw [s.part.writeOf_brwCtrl s.ns hw.1 hw.2.1, show (Word.bits (BitVec.ofNat 32 true.toNat) 0 0 == 1) = true by decide, Part.brwPause_on] at he
    exact completes_of_still he hs.2 ⟨Part.get_put_bit s.part _ 0 1 (by decide),
      ((Part.InRegs.refl _ s.part).put F.BRW_CTRL_PAUSE 1 List.mem_cons_self).claim⟩
  case off =>
    have he := next_brwCtrlPause w false s hs.1 (by simp [Part.issues, hw.1, hw.2.1, hw.2.2])
    rwa [s.part.writeOf_brwCtrl s.ns hw.1 hw.2.1, show (Word.bits (BitVec.ofNat 32 false.toNat) 0 0 == 1) = false by decide] at he

end Sys2Proof.Machine
end

section
/-! SUPPORT. Doorbells, pacing and start events of a channel of Barrow (R422, R431 to R434). -/

namespace Sys2Proof.Machine

open Sys2Proof.Claim

section
variable {p : Part} {c : Nat}

/-- A change of HEAD alone. -/
theorem Part.chHead_inRegs (p : Part) (c : Nat) : p.InRegs [R.BRW_CH_HEAD c] (p.chHead c) :=
  (Part.InRegs.refl _ p).put _ _ List.mem_cons_self

/-- STATE and HEAD stand apart. -/
theorem chState_ne_head (c : Nat) : R.BRW_CH_STATE c ≠ R.BRW_CH_HEAD c := by unfold R.BRW_CH_STATE R.BRW_CH_HEAD; omega

theorem Part.get_state_chHead (p : Part) {c : Nat} {f : Fld} (hf : f.reg = R.BRW_CH_STATE c) : (p.chHead c).get f = p.get f :=
  (p.chHead_inRegs c).get (by rw [hf]; exact fun h => chState_ne_head c (List.mem_singleton.mp h))

theorem Part.chState_chHead (p : Part) (c : Nat) : (p.chHead c).chState c = p.chState c := p.get_state_chHead rfl

/-- The registers that an operation which reads the ring may change. -/
def chHeadRegs (c : Nat) : List Nat := R.BRW_CH_HEAD c :: chRegs c

/-- A channel that finds no descriptor is IDLE, and has forgotten the doorbell. -/
theorem Part.chIdle_spec (p : Part) {c : Nat} (hc : c < 64) :
    (p.chIdle c).chState c = 1 ∧ (p.chIdle c).get (F.BRW_CH_STATE_DB_PEND c) = 0 ∧ p.InRegs (chHeadRegs c) (p.chIdle c) := by
  obtain ⟨q, hq⟩ : ∃ q, p.clr (F.BRW_CH_STATE_DB_PEND c) = q := ⟨_, rfl⟩
  have he : p.chIdle c = (q.setChState c 1).chHead c := by rw [← hq]; rfl
  have h1 : p.InRegs (chHeadRegs c) q := hq ▸ (Part.InRegs.refl _ p).put _ _ (List.mem_cons_of_mem _ List.mem_cons_self)
  have h2 : q.InRegs (chHeadRegs c) (q.setChState c 1) := (q.setChState_inRegs c 1).mono fun _ ha => List.mem_cons_of_mem _ ha
  have h3 : (q.setChState c 1).InRegs (chHeadRegs c) ((q.setChState c 1).chHead c) := (Part.chHead_inRegs _ c).mono (by simp [chHeadRegs])
  rw [he]
  refine ⟨(Part.chState_chHead _ c).trans (q.chState_setChState hc (by decide)), ?_, (h1.trans h2).trans h3⟩
  calc ((q.setChState c 1).chHead c).get (F.BRW_CH_STATE_DB_PEND c) = (q.setChState c 1).get (F.BRW_CH_STATE_DB_PEND c) :=
        Part.get_state_chHead _ rfl
    _ = q.get (F.BRW_CH_STATE_DB_PEND c) := q.get_setChState hc rfl (by decide : 2 < 3)
    _ = 0 := hq ▸ Part.get_put_bit p _ 3 0 (by decide)

/-- A descriptor just fetched, before its re-read. -/
def BrwRun.fetched (d : Desc) : BrwRun := { d := d, running := false, row := 0, off := 0, begun := false, bytes := 0, sent := [] }

section
variable (t n : Nat) {l : List Byte} (hfins : (p.chan c).fins = [])
include hfins

/-- A channel that does not pause looks at its ring. -/
theorem Part.chNext_fresh (hpaused : p.chPaused c = false) : p.chNext t c = Part.chTake t c (4095 + 1) p := by
  rw [Part.chNext, if_neg (by simp [hpaused, hfins])]

variable (hl : p.ringBytes c (p.chan c).next 0 64 = some l)
include hl

/-- OWN 0 at the next index. -/
theorem Part.chTake_none (hown : (l.headD 0).toNat % 2 = 0) : Part.chTake t c (n + 1) p = p.chIdle c := by
  simp only [Part.chTake, hfins, hl, hown, List.any_nil]
  rfl

/-- OWN 1 at the next index of a plot channel's ring. -/
theorem Part.chTake_taken (hown : (l.headD 0).toNat % 2 = 1) (hplot : c < 48) :
    Part.chTake t c (n + 1) p = ((p.modChan c (fun u => { u with run := some (.fetched (readBrw (p.chan c).next l)) })).setChState
      c 2).chHead c := by
  have hno : ¬(48 ≤ c ∧ (readBrw (p.chan c).next l).tag ≠ 0 ∧ (p.fenced (readBrw (p.chan c).next l).tag ∨
      ((readBrw (p.chan c).next l).tag, (readBrw (p.chan c).next l).job) ∈ (p.chan c).torn)) := by omega
  simp only [Part.chTake, hfins, hl, hown, List.any_nil, if_neg hno]
  rfl

end

/-- The bytes of a ring do not depend on the channel's CTRL. -/
theorem Part.InRegs.ringBytes {q : Part} (h : p.InRegs [R.BRW_CH_CTRL c] q) (hc : c < 64) (i o n : Nat) :
    q.ringBytes c i o n = p.ringBytes c i o n := by
  have get (f : Fld) (hf : f.reg ≠ R.BRW_CH_CTRL c) : q.get f = p.get f := h.get fun hin => hf (List.mem_singleton.mp hin)
  have hmap : p.SameMap q := h.sameMap (by unfold R.BRW_CH_CTRL; simp; omega)
  have howner := get (F.BRW_CH_OWNER_PLOT c) (by show R.BRW_CH_OWNER c ≠ _; unfold R.BRW_CH_OWNER R.BRW_CH_CTRL; omega)
  have hlo := get (F.BRW_CH_RING_LO_BASE c) (by show R.BRW_CH_RING_LO c ≠ _; unfold R.BRW_CH_RING_LO R.BRW_CH_CTRL; omega)
  have hhi := get (F.BRW_CH_RING_HI_BASE c) (by show R.BRW_CH_RING_HI c ≠ _; unfold R.BRW_CH_RING_HI R.BRW_CH_CTRL; omega)
  unfold Part.ringBytes
  rw [show q.loadKeys = p.loadKeys from funext hmap.loadKeys, hmap.memKeys]
  simp only [Part.chOwner, Part.descAt, Part.chRing, Part.get64, howner, hlo, hhi]

end

/-! Doorbells (R422). -/

/-- A write of CTRL that rings the doorbell. -/
theorem Part.chCtrl_bell (p : Part) (t c : Nat) {v : Word} {pause : Bool} (hpace : v.bits 5 4 = p.get (F.BRW_CH_CTRL_PACE c))
    (hen : v.bits 0 0 = 1) (hpause : v.bits 1 1 = pause.toNat) (hbell : v.bits 2 2 = 1) :
    ∃ q, p.InRegs [] q ∧ p.chCtrl t c v = ((q.chEnable t c true).chPause t c pause).doorbell t c := by
  refine ⟨p.put (F.BRW_CH_CTRL_PACE c) (v.bits 5 4), .of_put_get p hpace, ?_⟩
  have e : (v.bits 0 0 == 1) = true := by rw [hen]; rfl
  have e' : (v.bits 1 1 == 1) = pause := by rw [hpause]; cases pause <;> rfl
  rw [Part.chCtrl, if_pos hbell, e, e']

section
variable {w : Who} {c : Nat} {s : State} (hs : Ready s) (hc : c < 64) (hw : Reaches s w (s.part.chOwner c))
  (hen : s.part.get (F.BRW_CH_CTRL_EN c) = 1)
include hs hc hw hen

/-- A doorbell of an enabled channel is an operation on a part that differs in CTRL alone. -/
theorem exec_brwChDoorbell (h0 : s.part.chState c ≠ 0) (h4 : s.part.chState c ≠ 4)
    (h1 : s.part.chState c ≠ 1 ∨ s.part.get (F.BRW_CH_STATE_DB_PEND c) = 0) :
    ∃ q, s.part.InRegs [R.BRW_CH_CTRL c] q ∧ q.get (F.BRW_CH_CTRL_EN c) = 1 ∧
      q.get (F.BRW_CH_CTRL_PAUSE c) = s.part.get (F.BRW_CH_CTRL_PAUSE c) ∧
      exec (.brwChDoorbell w c) s = .next (s.settle (q.doorbell s.ns c)) := by
  obtain ⟨pause, hpause⟩ := s.part.get_bit_toNat (R.BRW_CH_CTRL c) 1
  obtain ⟨hpace', hen', hpause', hbell'⟩ := Word.bits_bellWritten (s.part.reg (R.BRW_CH_CTRL c))
  obtain ⟨q, hq, heff⟩ := s.part.chCtrl_bell s.ns c hpace' (hen'.trans hen) (hpause'.trans hpause) hbell'
  have hstate : q.chState c = s.part.chState c := hq.get List.not_mem_nil
  have hset : (q.set (F.BRW_CH_CTRL_EN c)).chState c = s.part.chState c := (q.chState_put_ctrl c 1 rfl).trans hstate
  have hpend : (q.set (F.BRW_CH_CTRL_EN c)).get (F.BRW_CH_STATE_DB_PEND c) = s.part.get (F.BRW_CH_STATE_DB_PEND c) :=
    (Part.get_put_reg _ _ _ _ (chState_ne_ctrl c)).trans (hq.get List.not_mem_nil)
  have hbit : pause.toNat % 2 = pause.toNat := by cases pause <;> rfl
  refine ⟨(q.set (F.BRW_CH_CTRL_EN c)).put (F.BRW_CH_CTRL_PAUSE c) pause.toNat,
    ((hq.mono (by simp)).put (F.BRW_CH_CTRL_EN c) 1 List.mem_cons_self).put (F.BRW_CH_CTRL_PAUSE c) _ List.mem_cons_self,
    (Part.get_en_put_pause _ _ _).trans (Part.get_put_bit q _ 0 1 (by decide)),
    ((Part.get_put_bit _ _ 1 _ (by decide)).trans hbit).trans hpause.symm, ?_⟩
  rw [next_brwChDoorbell w c s hs.1 (by simp [Instr.wf, hc, hw.2.1]), Part.writeOf_brwChCtrl hc hw, heff,
    Part.chEnable_again s.ns (by rw [hstate]; exact h0),
    Part.chPause_still s.ns pause (by rw [hset]; exact h4) (by rw [hset, hpend]; exact h1)]

/-- A doorbell outside IDLE is remembered. -/
theorem completes_doorbell_remembered (hst : s.part.chState c ∈ [2, 3, 5, 6]) :
    Completes (.brwChDoorbell w c) s (fun t => t.part.get (F.BRW_CH_STATE_DB_PEND c) = 1 ∧ t.part.chState c = s.part.chState c ∧
      t.part.get (F.BRW_CH_CTRL_EN c) = 1 ∧ t.part.get (F.BRW_CH_CTRL_PAUSE c) = s.part.get (F.BRW_CH_CTRL_PAUSE c) ∧
      RegsOnly [R.BRW_CH_CTRL c, R.BRW_CH_STATE c] s t) := by
  have hne : s.part.chState c ≠ 0 ∧ s.part.chState c ≠ 4 ∧ s.part.chState c ≠ 1 := by
    simp only [List.mem_cons, List.not_mem_nil, or_false] at hst
    omega
  obtain ⟨q, hq, hen', hpause, he⟩ := exec_brwChDoorbell hs hc hw hen hne.1 hne.2.1 (.inl hne.2.2)
  have hstate : q.chState c = s.part.chState c := hq.get fun h => chState_ne_ctrl c (List.mem_singleton.mp h)
  have hbell : q.doorbell s.ns c = q.set (F.BRW_CH_STATE_DB_PEND c) := if_neg fun h => hne.2.2 (hstate.symm.trans h.1)
  rw [hbell] at he
  have hctrl : R.BRW_CH_CTRL c ≠ R.BRW_CH_STATE c := (chState_ne_ctrl c).symm
  have hall : s.part.InRegs [R.BRW_CH_CTRL c, R.BRW_CH_STATE c] (q.set (F.BRW_CH_STATE_DB_PEND c)) :=
    (hq.mono (by simp)).put (F.BRW_CH_STATE_DB_PEND c) 1 (List.mem_cons_of_mem _ List.mem_cons_self)
  exact completes_of_still he (by rw [hall.sdl]; exact hs.2) ⟨Part.get_put_bit q _ 3 1 (by decide),
    (Part.get_put_disjoint q (F.BRW_CH_STATE_DB_PEND c) (F.BRW_CH_STATE_STATE c) 1 (.inl (by decide : 2 < 3))).trans hstate,
    (Part.get_put_reg _ _ _ _ hctrl).trans hen', (Part.get_put_reg _ _ _ _ hctrl).trans hpause, hall.claim⟩

section
variable {l : List Byte} (h1 : s.part.chState c = 1) (hpaused : s.part.chPaused c = false) (hfins : (s.part.chan c).fins = [])
  (hpend : s.part.get (F.BRW_CH_STATE_DB_PEND c) = 0) (hl : s.part.ringBytes c (s.part.chan c).next 0 64 = some l)
include h1 hpaused hfins hpend hl

/-- A doorbell in IDLE reads the ring. -/
theorem exec_brwChDoorbell_idle : ∃ q, s.part.InRegs [R.BRW_CH_CTRL c] q ∧ (q.chan c).fins = [] ∧
    q.ringBytes c (q.chan c).next 0 64 = some l ∧ exec (.brwChDoorbell w c) s = .next (s.settle (Part.chTake s.ns c (4095 + 1) q)) := by
  obtain ⟨q, hq, -, hpause, he⟩ := exec_brwChDoorbell hs hc hw hen (by rw [h1]; decide) (by rw [h1]; decide) (.inr hpend)
  have hchan := hq.chan c
  have hfins' : (q.chan c).fins = [] := by rw [hchan, hfins]
  have hl' : q.ringBytes c (q.chan c).next 0 64 = some l := by rw [hchan, hq.ringBytes hc, hl]
  have hstate : q.chState c = 1 := (hq.get fun h => chState_ne_ctrl c (List.mem_singleton.mp h)).trans h1
  have hglobal : q.get F.BRW_CTRL_PAUSE = s.part.get F.BRW_CTRL_PAUSE := by
    refine hq.get ?_
    simp only [F.BRW_CTRL_PAUSE, R.BRW_CTRL, R.BRW_CH_CTRL, List.mem_cons, List.not_mem_nil, or_false]
    omega
  have hpaused' : q.chPaused c = false := by
    rw [← hpaused]
    simp only [Part.chPaused, Part.on, hpause, hglobal]
  have hbell : q.doorbell s.ns c = q.chNext s.ns c := if_pos ⟨hstate, by simp [hpaused']⟩
  rw [hbell, Part.chNext_fresh s.ns hfins' hpaused'] at he
  exact ⟨q, hq, hfins', hl', he⟩

/-- A doorbell in IDLE that finds OWN 0. -/
theorem completes_doorbell_none (hown : (l.headD 0).toNat % 2 = 0) :
    Completes (.brwChDoorbell w c) s (fun t => t.part.chState c = 1 ∧ (t.part.chan c).run = (s.part.chan c).run ∧
      t.part.get (F.BRW_CH_STATE_DB_PEND c) = 0 ∧ t.part.mem = s.part.mem ∧
      ChannelOnly c (R.BRW_CH_CTRL c :: R.BRW_CH_HEAD c :: chRegs c) s t) := by
  obtain ⟨q, hq, hfins', hl', he⟩ := exec_brwChDoorbell_idle hs hc hw hen h1 hpaused hfins hpend hl
  rw [Part.chTake_none s.ns 4095 hfins' hl' hown] at he
  obtain ⟨hstate, hbell, hidle⟩ := q.chIdle_spec hc
  have hall := (hq.mono (l' := R.BRW_CH_CTRL c :: R.BRW_CH_HEAD c :: chRegs c) (by simp)).trans
    (hidle.mono fun _ ha => List.mem_cons_of_mem _ ha)
  exact completes_of_still he (by rw [hall.sdl]; exact hs.2)
    ⟨hstate, congrArg Chan.run (hall.chan c), hbell, hall.mem, (Part.ChanOnly.of_inRegs hall).claim⟩

/-- A doorbell in IDLE that finds OWN 1 takes the descriptor. -/
theorem completes_doorbell_taken (hown : (l.headD 0).toNat % 2 = 1) (hplot : c < 48) (hnext : (s.part.chan c).next < 4096) :
    Completes (.brwChDoorbell w c) s (fun t => t.part.chState c = 2 ∧
      t.part.get (F.BRW_CH_HEAD_INDEX c) = (s.part.chan c).next ∧
      (∃ r, (t.part.chan c).run = some r ∧ r.d = readBrw (s.part.chan c).next l ∧ r.running = false ∧ r.bytes = 0) ∧
      t.part.mem = s.part.mem ∧ ChannelOnly c (R.BRW_CH_CTRL c :: R.BRW_CH_HEAD c :: chRegs c) s t) := by
  obtain ⟨q, hq, hfins', hl', he⟩ := exec_brwChDoorbell_idle hs hc hw hen h1 hpaused hfins hpend hl
  rw [Part.chTake_taken s.ns 4095 hfins' hl' hown hplot, hq.chan] at he
  obtain ⟨q1, hq1⟩ : ∃ q1, q.modChan c (fun u => { u with run := some (.fetched (readBrw (s.part.chan c).next l)) }) = q1 := ⟨_, rfl⟩
  obtain ⟨q2, hq2⟩ : ∃ q2, q1.setChState c 2 = q2 := ⟨_, rfl⟩
  rw [hq1, hq2] at he
  have hin1 : q.ChanOnly c (R.BRW_CH_CTRL c :: R.BRW_CH_HEAD c :: chRegs c) q1 := hq1 ▸ .modChan q c _ _
  have hin2 : q1.InRegs (chRegs c) q2 := hq2 ▸ q1.setChState_inRegs c 2
  have hin3 := q2.chHead_inRegs c
  have hchan : q2.chan c = { s.part.chan c with run := some (.fetched (readBrw (s.part.chan c).next l)) } := by
    rw [hin2.chan, ← hq1, Part.chan_modChan_self, hq.chan]
  have hhead : (q2.chHead c).get (F.BRW_CH_HEAD_INDEX c) = (s.part.chan c).next := by
    have e : q2.chHead c = q2.put (F.BRW_CH_HEAD_INDEX c) (s.part.chan c).next := by
      rw [Part.chHead, hchan]
      simp only [hfins, List.find?_nil]
      rfl
    rw [e]
    exact (Part.get_put_self q2 (F.BRW_CH_HEAD_INDEX c) _ (by decide : 11 < 32)).trans (Nat.mod_eq_of_lt hnext)
  have hall := (((Part.ChanOnly.of_inRegs (hq.mono (by simp))).trans hin1).trans
    (.of_inRegs (hin2.mono fun _ ha => List.mem_cons_of_mem _ (List.mem_cons_of_mem _ ha)))).trans (.of_inRegs (hin3.mono (by simp)))
  refine completes_of_still he (by rw [hall.sdl]; exact hs.2) ⟨?_, hhead,
    ⟨.fetched (readBrw (s.part.chan c).next l), ?_, rfl, rfl, rfl⟩, ?_, hall.claim⟩
  · rw [show Part.chState _ c = q2.chState c from q2.chState_chHead c, ← hq2]
    exact q1.chState_setChState hc (by decide)
  · rw [show Part.chan _ c = q2.chan c from hin3.chan c, hchan]
  · rw [show Part.mem _ = q2.mem from hin3.mem, hin2.mem, ← hq1, Part.modChan_mem, hq.mem]

end

end

/-! LEVEL_ADD (R431). -/

/-- An interrupt condition whose enable is 0 is set alone. -/
theorem Part.chIrq_masked {p : Part} {c bit : Nat} (h : (p.get (F.BRW_CH_IRQ_EN_EN c)).testBit bit = false) :
    p.chIrq c bit = p.setReg (R.BRW_CH_IRQ c) (p.reg (R.BRW_CH_IRQ c) ||| BitVec.ofNat 32 (2 ^ bit)) := by
  rw [Part.chIrq]
  exact if_neg (by rw [h]; decide)

/-- A bit of a word, set. -/
theorem Word.bits_or_two_pow (v : Word) {i : Nat} (hi : i < 32) : Word.bits (v ||| BitVec.ofNat 32 (2 ^ i)) i i = 1 := by
  have hbit : (Word.bits (v ||| BitVec.ofNat 32 (2 ^ i)) i i).testBit 0 = true := by
    simp only [Word.bits_testBit, Nat.zero_add, BitVec.getLsbD_or, BitVec.getLsbD_ofNat, Nat.testBit_two_pow_self, hi]
    simp
  have hlt := Word.bits_lt (v ||| BitVec.ofNat 32 (2 ^ i)) i i
  rw [show i + 1 - i = 1 by omega] at hlt
  rcases (by omega : Word.bits (v ||| BitVec.ofNat 32 (2 ^ i)) i i = 0 ∨ Word.bits (v ||| BitVec.ofNat 32 (2 ^ i)) i i = 1) with h | h
  · rw [h] at hbit
    cases hbit
  · exact h

/-- The registers that LEVEL_ADD may change. -/
def levelRegs (c : Nat) : List Nat := [R.BRW_CH_LEVEL c, R.BRW_CH_STATE c, R.BRW_CH_IRQ c]

/-- What LEVEL_ADD leaves, where the overflow does not interrupt. -/
theorem Part.levelAdd_spec (p : Part) (c n : Nat) (hirq : (p.get (F.BRW_CH_IRQ_EN_EN c)).testBit 2 = false) :
    let sum := p.get (F.BRW_CH_LEVEL_BYTES c) + n
    let q := p.levelAdd c n
    q.get (F.BRW_CH_LEVEL_BYTES c) = min sum 0xFFFFFFFF ∧
      q.get (F.BRW_CH_STATE_HYST_ON c) =
        (if p.get (F.BRW_CH_HIGH_BYTES c) ≤ min sum 0xFFFFFFFF then 1 else p.get (F.BRW_CH_STATE_HYST_ON c)) ∧
      q.get (F.BRW_CH_IRQ_LEVEL_OVF c) = (if 0xFFFFFFFF < sum then 1 else p.get (F.BRW_CH_IRQ_LEVEL_OVF c)) ∧ p.InRegs (levelRegs c) q := by
  intro sum q
  obtain ⟨q1, hq1⟩ : ∃ q1, p.put (F.BRW_CH_LEVEL_BYTES c) (min sum 0xFFFFFFFF) = q1 := ⟨_, rfl⟩
  obtain ⟨q2, hq2⟩ : ∃ q2, q1.chHyst c false = q2 := ⟨_, rfl⟩
  have he : q = if 0xFFFFFFFF < sum then q2.chIrq c 2 else q2 := by
    rw [← hq2, ← hq1]
    rfl
  have hstate : R.BRW_CH_STATE c ≠ R.BRW_CH_LEVEL c := by unfold R.BRW_CH_STATE R.BRW_CH_LEVEL; omega
  have hhigh : R.BRW_CH_HIGH c ≠ R.BRW_CH_LEVEL c := by unfold R.BRW_CH_HIGH R.BRW_CH_LEVEL; omega
  have hirqL : R.BRW_CH_IRQ c ≠ R.BRW_CH_LEVEL c ∧ R.BRW_CH_IRQ c ≠ R.BRW_CH_STATE c := by
    unfold R.BRW_CH_IRQ R.BRW_CH_LEVEL R.BRW_CH_STATE; omega
  have hen : R.BRW_CH_IRQ_EN c ∉ levelRegs c := by
    simp only [levelRegs, R.BRW_CH_IRQ_EN, R.BRW_CH_LEVEL, R.BRW_CH_STATE, R.BRW_CH_IRQ, List.mem_cons, List.not_mem_nil, or_false]; omega
  have hlevel1 : q1.get (F.BRW_CH_LEVEL_BYTES c) = min sum 0xFFFFFFFF := hq1 ▸ Part.get_put_word p _ (by omega)
  have h1 : p.InRegs (levelRegs c) q1 := hq1 ▸ (Part.InRegs.refl _ p).put _ _ List.mem_cons_self
  -- the hysteresis state is judged by the new level
  have he2 : q2 = if p.get (F.BRW_CH_HIGH_BYTES c) ≤ min sum 0xFFFFFFFF then q1.set (F.BRW_CH_STATE_HYST_ON c) else q1 := by
    have hhigh1 : q1.get (F.BRW_CH_HIGH_BYTES c) = p.get (F.BRW_CH_HIGH_BYTES c) := hq1 ▸ Part.get_put_reg _ _ _ _ hhigh
    rw [← hq2, Part.chHyst, if_neg (by simp), hlevel1, hhigh1]
  have h2 : q1.InRegs (levelRegs c) q2 ∧ q2.get (F.BRW_CH_LEVEL_BYTES c) = min sum 0xFFFFFFFF ∧
      q2.get (F.BRW_CH_STATE_HYST_ON c) =
        (if p.get (F.BRW_CH_HIGH_BYTES c) ≤ min sum 0xFFFFFFFF then 1 else p.get (F.BRW_CH_STATE_HYST_ON c)) ∧
      q2.get (F.BRW_CH_IRQ_LEVEL_OVF c) = p.get (F.BRW_CH_IRQ_LEVEL_OVF c) := by
    have hovf1 : q1.get (F.BRW_CH_IRQ_LEVEL_OVF c) = p.get (F.BRW_CH_IRQ_LEVEL_OVF c) := hq1 ▸ Part.get_put_reg _ _ _ _ hirqL.1
    rw [he2]
    split
    · exact ⟨(Part.InRegs.refl _ q1).put _ _ (List.mem_cons_of_mem _ List.mem_cons_self),
        (Part.get_put_reg _ _ _ _ hstate.symm).trans hlevel1, Part.get_put_bit q1 _ 4 1 (by decide),
        (Part.get_put_reg _ _ _ _ hirqL.2).trans hovf1⟩
    · exact ⟨.refl _ q1, hlevel1, hq1 ▸ Part.get_put_reg _ _ _ _ hstate, hovf1⟩
  obtain ⟨hin2, hlevel2, hhyst2, hovf2⟩ := h2
  have h12 := h1.trans hin2
  rw [he]
  split
  · rw [Part.chIrq_masked (by rw [h12.get hen]; exact hirq)]
    obtain ⟨v, hv⟩ : ∃ v : Word, q2.reg (R.BRW_CH_IRQ c) ||| BitVec.ofNat 32 (2 ^ 2) = v := ⟨_, rfl⟩
    rw [hv]
    have hset : q2.InRegs (levelRegs c) (q2.setReg (R.BRW_CH_IRQ c) v) :=
      ⟨rfl, fun a ha => Part.reg_setReg_other _ _ fun e => ha (by rw [e]; simp [levelRegs])⟩
    have get {f : Fld} (hf : f.reg ≠ R.BRW_CH_IRQ c) : (q2.setReg (R.BRW_CH_IRQ c) v).get f = q2.get f := by
      rw [Part.get, Part.get, Part.reg_setReg_other _ _ hf]
    refine ⟨(get (Ne.symm hirqL.1)).trans hlevel2, (get (Ne.symm hirqL.2)).trans hhyst2, ?_, h12.trans hset⟩
    rw [Part.get, show (F.BRW_CH_IRQ_LEVEL_OVF c).reg = R.BRW_CH_IRQ c from rfl, Part.reg_setReg_self, ← hv]
    exact Word.bits_or_two_pow _ (by decide)
  · exact ⟨hlevel2, hhyst2, hovf2, h12⟩

/-! Triggers (R432, R433). -/

/-- A write of TRIG that is taken sets its three fields. -/
theorem Part.trigWrite_taken {p : Part} (t : Nat) (w : Who) {c : Nat} {v : Word}
    (h : v.bits 1 0 = 2 → p.chOwner (v.bits 13 8) = p.chOwner c) :
    let q := p.trigWrite t w c v
    q.get (F.BRW_CH_TRIG_SRC c) = v.bits 1 0 ∧ q.get (F.BRW_CH_TRIG_CHAN c) = v.bits 13 8 ∧ q.get (F.BRW_CH_TRIG_RUN c) = v.bits 23 16 ∧
      p.InRegs [R.BRW_CH_TRIG c] q := by
  intro q
  obtain ⟨q1, hq1⟩ : ∃ q1, p.put (F.BRW_CH_TRIG_SRC c) (v.bits 1 0) = q1 := ⟨_, rfl⟩
  obtain ⟨q2, hq2⟩ : ∃ q2, q1.put (F.BRW_CH_TRIG_CHAN c) (v.bits 13 8) = q2 := ⟨_, rfl⟩
  have he : q = q2.put (F.BRW_CH_TRIG_RUN c) (v.bits 23 16) := by
    rw [← hq2, ← hq1]
    exact if_neg fun hn => hn.2 (h hn.1)
  have h1 : p.InRegs [R.BRW_CH_TRIG c] q1 := hq1 ▸ (Part.InRegs.refl _ p).put _ _ List.mem_cons_self
  have h2 : q1.InRegs [R.BRW_CH_TRIG c] q2 := hq2 ▸ (Part.InRegs.refl _ q1).put _ _ List.mem_cons_self
  rw [he]
  refine ⟨?_, ?_, Part.get_put_bits q2 (F.BRW_CH_TRIG_RUN c) v (by decide : 23 < 32), (h1.trans h2).put _ _ List.mem_cons_self⟩
  · calc (q2.put (F.BRW_CH_TRIG_RUN c) (v.bits 23 16)).get (F.BRW_CH_TRIG_SRC c) = q2.get (F.BRW_CH_TRIG_SRC c) :=
          Part.get_put_disjoint _ _ _ _ (.inl (by decide : 1 < 16))
      _ = q1.get (F.BRW_CH_TRIG_SRC c) := hq2 ▸ Part.get_put_disjoint _ _ _ _ (.inl (by decide : 1 < 8))
      _ = v.bits 1 0 := hq1 ▸ Part.get_put_bits p (F.BRW_CH_TRIG_SRC c) v (by decide : 1 < 32)
  · calc (q2.put (F.BRW_CH_TRIG_RUN c) (v.bits 23 16)).get (F.BRW_CH_TRIG_CHAN c) = q2.get (F.BRW_CH_TRIG_CHAN c) :=
          Part.get_put_disjoint _ _ _ _ (.inl (by decide : 13 < 16))
      _ = v.bits 13 8 := hq2 ▸ Part.get_put_bits q1 (F.BRW_CH_TRIG_CHAN c) v (by decide : 13 < 32)

section
variable {c : Nat} {x : Option Nat} {r : List (Option Nat)} {s : State} (hs : Ready s) (hc : c < 64) (hlive : s.part.live = true)
  (hdue : (s.part.chan c).due = x :: r)
include hs hc hlive hdue

/-- A start event that arrives is what its operation makes of it. -/
theorem exec_startEvent : exec (.startEvent c) s = .next (s.settle (s.part.startEvent c)) :=
  next_startEvent c s hs.1 (by simp [Instr.wf, hc, hlive, hdue])

/-- A start event whose source TRIG selects adds its credits. -/
theorem completes_startEvent_taken (htakes : s.part.trigTakes c x = true) (h6 : s.part.chState c ≠ 6)
    (hpace : s.part.get (F.BRW_CH_CTRL_PACE c) = 2)
    (hsum : s.part.get (F.BRW_CH_CREDIT_CREDIT c) + max 1 (s.part.get (F.BRW_CH_TRIG_RUN c)) ≤ 255) :
    Completes (.startEvent c) s (fun t =>
      t.part.get (F.BRW_CH_CREDIT_CREDIT c) = s.part.get (F.BRW_CH_CREDIT_CREDIT c) + max 1 (s.part.get (F.BRW_CH_TRIG_RUN c)) ∧
      t.part.chan c = { s.part.chan c with due := r } ∧ t.part.mem = s.part.mem ∧ ChannelOnly c [R.BRW_CH_CREDIT c] s t) := by
  have he := exec_startEvent hs hc hlive hdue
  obtain ⟨n, hn⟩ : ∃ n, s.part.get (F.BRW_CH_CREDIT_CREDIT c) + max 1 (s.part.get (F.BRW_CH_TRIG_RUN c)) = n := ⟨_, rfl⟩
  have heff : s.part.startEvent c = (s.part.modChan c (fun u => { u with due := r })).put (F.BRW_CH_CREDIT_CREDIT c) n := by
    rw [Part.startEvent, hdue]
    simp only [htakes, hpace]
    rw [if_neg (by simp [h6]), if_neg (by omega), hn, Nat.min_eq_left (by omega)]
  rw [hn] at hsum ⊢
  obtain ⟨q, hq⟩ : ∃ q, s.part.modChan c (fun u => { u with due := r }) = q := ⟨_, rfl⟩
  rw [heff, hq] at he
  have h1 : s.part.ChanOnly c [R.BRW_CH_CREDIT c] q := hq ▸ .modChan _ c _ _
  have h2 : q.InRegs [R.BRW_CH_CREDIT c] (q.put (F.BRW_CH_CREDIT_CREDIT c) n) := (Part.InRegs.refl _ q).put _ _ List.mem_cons_self
  have hall := h1.trans (.of_inRegs h2)
  refine completes_of_still he (by rw [hall.sdl]; exact hs.2) ⟨?_, ?_, ?_, hall.claim⟩
  · exact (Part.get_put_self q (F.BRW_CH_CREDIT_CREDIT c) n (by decide : 7 < 32)).trans (Nat.mod_eq_of_lt (show n < 2 ^ 8 by omega))
  · refine (h2.chan c).trans ?_
    rw [← hq, Part.chan_modChan_self]
  · refine h2.mem.trans ?_
    rw [← hq, Part.modChan_mem]

/-- Any other start event is discarded. -/
theorem completes_startEvent_lost (htakes : s.part.trigTakes c x = false) :
    Completes (.startEvent c) s (fun t => t.part.chan c = { s.part.chan c with due := r } ∧ t.part.regs = s.part.regs ∧
      t.part.mem = s.part.mem ∧ ChannelOnly c [] s t) := by
  have he := exec_startEvent hs hc hlive hdue
  have heff : s.part.startEvent c = s.part.modChan c (fun u => { u with due := r }) := by
    rw [Part.startEvent, hdue]
    simp only [htakes]
    rfl
  rw [heff] at he
  have hall : s.part.ChanOnly c [] (s.part.modChan c (fun u => { u with due := r })) := .modChan _ c _ _
  exact completes_of_still he (by rw [hall.sdl]; exact hs.2) ⟨s.part.chan_modChan_self c _, rfl, rfl, hall.claim⟩

end

/-- Settles O42: doorbells, LEVEL_ADD, writes of TRIG, and start events. -/
theorem channelStarts : Obligations.ChannelStarts := by
  refine ⟨fun w c s hs hc hw hen => ⟨fun l h1 hpaused hfins hpend hl => ⟨?none, ?taken⟩, ?remembered⟩,
    fun w c v s hs hc hw hirq => ?level, fun w c v s hs hc hw hown => ?trig, fun w c v s hs hc hw hsrc hown => ?refused,
    fun c x r s hs hc hlive hdue => ⟨?event, ?lost⟩⟩
  case none => exact completes_doorbell_none hs hc hw hen h1 hpaused hfins hpend hl
  case taken => exact completes_doorbell_taken hs hc hw hen h1 hpaused hfins hpend hl
  case remembered => exact completes_doorbell_remembered hs hc hw hen
  case level =>
    have he := next_brwChLevelAdd w c v s hs.1 (by simp [Instr.wf, hc, hw.2.1])
    rw [Part.writeOf_brwChLevelAdd hc hw] at he
    obtain ⟨hlevel, hhyst, hovf, hin⟩ := s.part.levelAdd_spec c v.toNat hirq
    exact completes_of_still he (by rw [hin.sdl]; exact hs.2) ⟨hlevel, hhyst, hovf, hin.claim⟩
  case trig =>
    have he := next_brwChTrigWrite w c v s hs.1 (by simp [Instr.wf, hc, hw.2.1])
    rw [Part.writeOf_brwChTrig hc hw] at he
    obtain ⟨hsrc, hchan, hrun, hin⟩ := Part.trigWrite_taken s.ns w hown
    exact completes_of_still he (by rw [hin.sdl]; exact hs.2) ⟨hsrc, hchan, hrun, hin.claim⟩
  case refused =>
    have he := next_brwChTrigWrite w c v s hs.1 (by simp [Instr.wf, hc, hw.2.1])
    rw [Part.writeOf_brwChTrig hc hw, Part.trigWrite, if_pos ⟨hsrc, hown⟩] at he
    refine ⟨_, he, ?_⟩
    refine (State.settle_reg s _ _).trans ?_
    exact Part.accLog_reg_outside _ _ _ _ _ _ (by unfold R.BRW_CH_TRIG; omega) (by unfold R.BRW_CH_TRIG; omega)
  case event => exact completes_startEvent_taken hs hc hlive hdue
  case lost => exact completes_startEvent_lost hs hc hlive hdue

end Sys2Proof.Machine
end


section
/-! SUPPORT. What a channel's reads and writes of memory leave (R416, R423, R428, R436), and what looking for the next descriptor keeps. -/

namespace Sys2Proof.Machine

open Sys2Proof.Claim

/-- Bytes stored at keys that are all different stand at them, and no other byte changes. -/
theorem Part.storeAt_spec (p : Part) {ks : List Nat} {l : List Byte} (hlen : ks.length = l.length) (hnodup : ks.Nodup) :
    (∀ i k : Nat, ks[i]? = some k → some ((p.storeAt ks l).byte k) = l[i]?) ∧ ∀ k, k ∉ ks → (p.storeAt ks l).byte k = p.byte k := by
  refine ⟨fun i k hk => ?_, fun k hk => storeKeys_other p.mem ks l hk⟩
  have hi : i < l.length := hlen ▸ (List.getElem?_eq_some_iff.mp hk).1
  rw [List.getElem?_eq_getElem hi]
  exact congrArg some (storeKeys_get p.mem hnodup hk (List.getElem?_eq_getElem hi))

/-- The keys of an access are as many as its bytes. -/
theorem Part.memKeys_length {p : Part} {k a n : Nat} {write : Bool} {ks : List Nat} (h : p.memKeys k a n write = some ks) : ks.length = n := by
  rw [length_of_mapM h, List.length_range]

/-- A store of a channel into its own descriptor. -/
theorem Part.ringPut_stored {p : Part} {c i o : Nat} {l : List Byte} {ks : List Nat}
    (h : p.memKeys (p.chOwner c) (p.descAt c i + o) l.length true = some ks) : p.ringPut c i o l = p.storeAt ks l := by
  rw [Part.ringPut, h]

/-! The cursor (R436). -/

/-- The cursor's registers. -/
def cursorRegs (c : Nat) : List Nat := [R.BRW_CH_CUR_SRC_LO c, R.BRW_CH_CUR_SRC_HI c, R.BRW_CH_CUR_DST_LO c, R.BRW_CH_CUR_DST_HI c,
  R.BRW_CH_CUR_REMAIN c, R.BRW_CH_CUR_ROWS c]

theorem Part.chCursor_inRegs (p : Part) (c : Nat) (r : BrwRun) : p.InRegs (cursorRegs c) (p.chCursor c r) := by
  unfold Part.chCursor Part.put64
  extract_lets left
  exact ((((((Part.InRegs.refl _ p).put (F.BRW_CH_CUR_SRC_LO_ADDR c) _ (by simp [F.BRW_CH_CUR_SRC_LO_ADDR, cursorRegs])).put
    (F.BRW_CH_CUR_SRC_HI_ADDR c) _ (by simp [F.BRW_CH_CUR_SRC_HI_ADDR, cursorRegs])).put
    (F.BRW_CH_CUR_DST_LO_ADDR c) _ (by simp [F.BRW_CH_CUR_DST_LO_ADDR, cursorRegs])).put
    (F.BRW_CH_CUR_DST_HI_ADDR c) _ (by simp [F.BRW_CH_CUR_DST_HI_ADDR, cursorRegs])).put
    (F.BRW_CH_CUR_REMAIN_BYTES c) _ (by simp [F.BRW_CH_CUR_REMAIN_BYTES, cursorRegs])).put
    (F.BRW_CH_CUR_ROWS_ROWS c) _ (by simp [F.BRW_CH_CUR_ROWS_ROWS, cursorRegs])

/-- A channel that holds a run shows its cursor. -/
theorem Part.setRun_spec (p : Part) (c : Nat) (r : BrwRun) :
    (p.setRun c r).chan c = { p.chan c with run := some r } ∧ (p.setRun c r).mem = p.mem ∧ p.ChanOnly c (cursorRegs c) (p.setRun c r) := by
  unfold Part.setRun
  have h := (p.modChan c (fun u => { u with run := some r })).chCursor_inRegs c r
  exact ⟨(h.chan c).trans (p.chan_modChan_self c _), h.mem, (Part.ChanOnly.modChan p c _ _).trans (.of_inRegs h)⟩

/-! Looking for the next descriptor. -/

/-- A channel's operation kept the descriptors that finish, every other channel, and the Sundial. -/
def Part.KeepsFins (c : Nat) (p q : Part) : Prop :=
  (q.chan c).fins = (p.chan c).fins ∧ (∀ d, d ≠ c → q.chan d = p.chan d) ∧ q.sdl = p.sdl

section
variable {c : Nat}

theorem Part.KeepsFins.refl (p : Part) : p.KeepsFins c p := ⟨rfl, fun _ _ => rfl, rfl⟩

theorem Part.KeepsFins.trans {p q r : Part} (h : p.KeepsFins c q) (k : q.KeepsFins c r) : p.KeepsFins c r :=
  ⟨k.1.trans h.1, fun d hd => (k.2.1 d hd).trans (h.2.1 d hd), k.2.2.trans h.2.2⟩

/-- What leaves the channels leaves what finishes. -/
theorem Part.KeepsFins.of_brw {p q : Part} (h : q.brw = p.brw) (hs : q.sdl = p.sdl) : p.KeepsFins c q := by
  have hchan : q.chan = p.chan := by
    funext d
    unfold Part.chan
    rw [h]
  exact ⟨by rw [hchan], fun d _ => by rw [hchan], hs⟩

theorem Part.KeepsFins.of_inRegs {l : List Nat} {p q : Part} (h : p.InRegs l q) : p.KeepsFins c q := .of_brw h.brw h.sdl

theorem Part.KeepsFins.modChan (p : Part) (f : Chan → Chan) (hf : (f (p.chan c)).fins = (p.chan c).fins) : p.KeepsFins c (p.modChan c f) :=
  ⟨by rw [p.chan_modChan_self, hf], fun _ hd => p.chan_modChan_other f hd, rfl⟩

/-- A refused access is logged: registers and what leaves the Frexia alone change. -/
theorem Part.accLog_rest (p : Part) (t : Nat) (w : Who) (write : Bool) (outcome addr : Nat) :
    ∃ regs out, p.accLog t w write outcome addr = { p with regs := regs, out := out } := by
  by_cases hf : p.fenced w.plot.val = true ∧ w.plot.val ≠ 0
  · have h : p.accLog t w write outcome addr = p.drainFault w.plot.val := if_pos (by simp [hf])
    exact ⟨_, _, h⟩
  · have hf' : (w.plot.val ≠ 0 && p.fenced w.plot.val) ≠ true := by
      intro h
      simp only [Bool.and_eq_true, decide_eq_true_eq] at h
      exact hf ⟨h.2, h.1⟩
    have he : p.accLog t w write outcome addr =
        ((p.accEntry t w write outcome addr).iff (decide (32 ≤ p.get F.FLT_ACC_HEAD_COUNT)) (·.fltEvent 7)).fltEvent 0 := if_neg hf'
    have hentry : p.FaultUnitOnly (p.accEntry t w write outcome addr) :=
      (Part.FaultUnitOnly.logWords p _ _ _ (fun k hk => (flt_acc_log_place _ hk).1)).trans (.put _ _ _ rfl)
    have hfull : p.FaultUnitOnly ((p.accEntry t w write outcome addr).iff (decide (32 ≤ p.get F.FLT_ACC_HEAD_COUNT)) (·.fltEvent 7)) := by
      unfold Part.iff
      split
      · exact hentry.trans (.fltEvent _ 7)
      · exact hentry
    exact ⟨_, _, he.trans (hfull.trans (.fltEvent _ 0)).1⟩

theorem Part.KeepsFins.brwDenied (p : Part) (t k : Nat) (write : Bool) (a : Nat) : p.KeepsFins c (p.brwDenied t k write a) := by
  obtain ⟨regs, out, h⟩ := p.accLog_rest t (brwWho k) write (if k = 0 then 0 else 1) a
  have hbrw : (p.brwDenied t k write a).brw = p.brw := by rw [Part.brwDenied, h]
  have hsdl : (p.brwDenied t k write a).sdl = p.sdl := by rw [Part.brwDenied, h]
  exact .of_brw hbrw hsdl

theorem Part.KeepsFins.chIrq (p : Part) (bit : Nat) : p.KeepsFins c (p.chIrq c bit) := by
  unfold Part.chIrq
  extract_lets q
  have hq : p.KeepsFins c q := .of_brw rfl rfl
  split
  · obtain ⟨apc, jobs, h⟩ := q.plotEvent_rest (p.chOwner c) 3
    exact hq.trans (.of_brw (by rw [h]) (by rw [h]))
  · exact hq

theorem Part.KeepsFins.chJobFault (p : Part) (d : Option Desc) : p.KeepsFins c (p.chJobFault c d) := by
  unfold Part.chJobFault
  split
  · split
    · split
      · unfold Part.raiseFault
        split
        · exact .refl p
        · exact .of_brw rfl rfl
      · exact .refl p
    · exact .refl p
  · exact .refl p

theorem Part.KeepsFins.chCause (p : Part) (cause a : Nat) : p.KeepsFins c (p.chCause c cause a) := .of_brw rfl rfl

theorem Part.KeepsFins.chFetchFail (p : Part) (t a : Nat) : p.KeepsFins c (p.chFetchFail t c a) := by
  unfold Part.chFetchFail
  extract_lets d q
  have hq : p.KeepsFins c q := (Part.KeepsFins.brwDenied p _ _ _ _).trans (.modChan _ _ rfl)
  have hcause : p.KeepsFins c (q.chCause c 1 a) := hq.trans (.chCause q 1 a)
  have herror : (q.chCause c 1 a).KeepsFins c ((q.chCause c 1 a).chError c) :=
    (Part.KeepsFins.of_inRegs (Part.setChState_inRegs _ c 5)).trans (.chIrq _ 1)
  exact (hcause.trans herror).trans (.chJobFault _ d)

theorem Part.KeepsFins.chIdle (p : Part) : p.KeepsFins c (p.chIdle c) := by
  have hclr : p.KeepsFins c (p.clr (F.BRW_CH_STATE_DB_PEND c)) := .of_brw rfl rfl
  exact (hclr.trans (.of_inRegs (Part.setChState_inRegs _ c 1))).trans (.of_inRegs (Part.chHead_inRegs _ c))

/-- Whatever the ring holds, and however many descriptors are dropped. -/
theorem Part.KeepsFins.chTake (p : Part) (t n : Nat) : p.KeepsFins c (Part.chTake t c n p) := by
  induction n generalizing p with
  | zero => exact .chIdle p
  | succ n ih =>
    unfold Part.chTake
    extract_lets i
    split
    · exact .chIdle p
    · split
      · exact .chFetchFail p t _
      · split
        · exact .chIdle p
        · extract_lets d
          split
          · exact (Part.KeepsFins.modChan p _ rfl).trans (ih _)
          · exact ((Part.KeepsFins.modChan p _ rfl).trans (.of_inRegs (Part.setChState_inRegs _ c 2))).trans
              (.of_inRegs (Part.chHead_inRegs _ c))

theorem Part.KeepsFins.chNext (p : Part) (t : Nat) : p.KeepsFins c (p.chNext t c) := by
  unfold Part.chNext
  split
  · exact .refl p
  · exact .chTake p t 4096

theorem Part.KeepsFins.chHyst (p : Part) (completion : Bool) : p.KeepsFins c (p.chHyst c completion) := by
  unfold Part.chHyst
  extract_lets lv
  split
  · exact .of_brw rfl rfl
  · split
    · exact .of_brw rfl rfl
    · exact .refl p

end

/-! Descriptors that finish (R423, R424). -/

/-- A change of the first finishing descriptor that `pick` takes. -/
theorem Part.modFin_first {p : Part} {c : Nat} {pick : BrwFin → Bool} {g : BrwFin → BrwFin} {f : BrwFin} {a b : List BrwFin}
    (hfins : (p.chan c).fins = a ++ f :: b) (ha : ∀ x ∈ a, pick x = false) (hf : pick f = true) :
    (p.modFin c pick g).chan c = { p.chan c with fins := a ++ g f :: b } := by
  have hgo : Part.modFin.go pick g (a ++ f :: b) = a ++ g f :: b := by
    clear hfins
    induction a with
    | nil => exact if_pos hf
    | cons x r ih =>
      have hx : pick x = false := ha x List.mem_cons_self
      rw [List.cons_append, Part.modFin.go, hx, ih fun y hy => ha y (List.mem_cons_of_mem _ hy)]
      rfl
  rw [Part.modFin, Part.chan_modChan_self, hfins, hgo]

/-- The first finishing descriptor that `pick` takes. -/
theorem find?_first {pick : BrwFin → Bool} {f : BrwFin} {a b : List BrwFin} (ha : ∀ x ∈ a, pick x = false) (hf : pick f = true) :
    (a ++ f :: b).find? pick = some f := by
  rw [List.find?_append, List.find?_eq_none.mpr fun x hx => by simp [ha x hx], List.find?_cons, hf]
  rfl

theorem Part.ChanOnly.modFin (p : Part) (c : Nat) (l : List Nat) (pick : BrwFin → Bool) (g : BrwFin → BrwFin) :
    p.ChanOnly c l (p.modFin c pick g) := .modChan p c l _

/-- The descriptors done and settled leave, and BRW_STAT follows. -/
theorem Part.ChanOnly.chFlush (p : Part) (c : Nat) : p.ChanOnly c [R.BRW_STAT, R.BRW_ACTIVE_LO, R.BRW_ACTIVE_HI] (p.chFlush c) :=
  (Part.ChanOnly.modChan p c _ _).trans (.of_inRegs (Part.brwStat_inRegs _))

theorem Part.chFlush_mem (p : Part) (c : Nat) : (p.chFlush c).mem = p.mem := (Part.brwStat_inRegs _).mem

/-- A register of the channel stays while the finished descriptors leave. -/
theorem Part.get_chFlush (p : Part) {c : Nat} (hc : c < 64) {f : Fld} (hf : f.reg / 0x100 = 0x5000 + c) : (p.chFlush c).get f = p.get f :=
  ((Part.brwStat_inRegs _).get (channelReg_not_mem hc hf)).trans (Part.modChan_get p c _ f)

/-- A descriptor with neither event nor interrupt signals nothing. -/
theorem Part.chSignal_silent (p : Part) (c : Nat) {d : Desc} (hevent : d.event = false) (hirq : d.irq = false) : p.chSignal c d = p := by
  simp only [Part.chSignal, hevent, hirq]
  rfl

end Sys2Proof.Machine
end


section
/-! SUPPORT. A channel's re-read, beats, and the end of a descriptor (R416, R423, R424, R428). -/

namespace Sys2Proof.Machine

open Sys2Proof.Claim

/-! The re-read (R428). -/

section
variable {c : Nat} {r : BrwRun} {l : List Byte} {s : State} (hs : Ready s) (hc : c < 64) (hlive : s.part.live = true)
  (hready : s.part.rereadReady c = true) (hrun : (s.part.chan c).run = some r) (hl : s.part.ringBytes c r.d.index 0 64 = some l)
include hs hc hlive hready

theorem exec_ownRereadReturn : exec (.ownRereadReturn c) s = .next (s.settle (s.part.reread s.ns c)) :=
  next_ownRereadReturn c s hs.1 (by simp [Instr.wf, hc, hlive, hready])

include hrun hl

/-- A re-read that finds OWN 0. -/
theorem completes_reread_gone (hown : (l.headD 0).toNat % 2 = 0) :
    Completes (.ownRereadReturn c) s (fun t => t.part.chState c = 1 ∧ (t.part.chan c).run = none ∧ (t.part.chan c).next = r.d.index ∧
      t.part.mem = s.part.mem ∧ ChannelOnly c (R.BRW_CH_HEAD c :: chRegs c) s t) := by
  have he := exec_ownRereadReturn hs hc hlive hready
  obtain ⟨q, hq⟩ : ∃ q, s.part.modChan c (fun u => { u with run := none, next := r.d.index }) = q := ⟨_, rfl⟩
  have heff : s.part.reread s.ns c = q.chIdle c := by
    rw [← hq, Part.reread, hrun]
    simp only [hl]
    exact if_pos hown
  rw [heff] at he
  obtain ⟨hstate, -, hidle⟩ := q.chIdle_spec hc
  have hchan : (q.chIdle c).chan c = { s.part.chan c with run := none, next := r.d.index } := by
    rw [hidle.chan, ← hq, Part.chan_modChan_self]
  have h1 : s.part.ChanOnly c (chHeadRegs c) q := hq ▸ .modChan _ c _ _
  have hall := h1.trans (.of_inRegs hidle)
  refine completes_of_still he (by rw [hall.sdl]; exact hs.2) ⟨hstate, by rw [hchan], by rw [hchan], ?_, hall.claim⟩
  exact hidle.mem.trans (by rw [← hq, Part.modChan_mem])

/-- A re-read that finds the descriptor of a run that a pause interrupted. -/
theorem completes_reread_resumed (hown : (l.headD 0).toNat % 2 = 1) (hticket : (readBrw r.d.index l).ticket = r.d.ticket)
    (hbegun : r.begun = true) : Completes (.ownRereadReturn c) s (fun t =>
      (t.part.chan c).run = some { r with running := true } ∧ t.part.mem = s.part.mem) := by
  have he := exec_ownRereadReturn hs hc hlive hready
  have heff : s.part.reread s.ns c = s.part.setRun c { r with running := true } := by
    rw [Part.reread, hrun]
    simp only [hl]
    rw [if_neg (by omega), if_pos hticket, if_pos hbegun]
  rw [heff] at he
  obtain ⟨hchan, hmem, hall⟩ := s.part.setRun_spec c { r with running := true }
  exact completes_of_still he (by rw [hall.sdl]; exact hs.2) ⟨congrArg Chan.run hchan, hmem⟩

/-- A re-read that finds the descriptor as it was starts it. -/
theorem completes_reread_started (hown : (l.headD 0).toNat % 2 = 1) (hticket : (readBrw r.d.index l).ticket = r.d.ticket)
    (hbegun : r.begun = false) (hpace : s.part.get (F.BRW_CH_CTRL_PACE c) ≠ 2) (hok : r.d.ok c = true) :
    Completes (.ownRereadReturn c) s (fun t => t.part.chState c = 3 ∧
      (∃ x, (t.part.chan c).run = some x ∧ x.d = r.d ∧ x.running = true ∧ x.row = 0 ∧ x.off = 0 ∧ x.bytes = 0) ∧
      t.part.mem = s.part.mem) := by
  have he := exec_ownRereadReturn hs hc hlive hready
  let x : BrwRun := { d := r.d, running := true, row := 0, off := 0, begun := true, bytes := 0, sent := [] }
  have heff : s.part.reread s.ns c = (s.part.setRun c x).setChState c 3 := by
    rw [Part.reread, hrun]
    simp only [hl]
    rw [if_neg (by omega), if_pos hticket, if_neg (by simp [hbegun]), Part.chBegin, if_neg hpace]
    exact if_pos hok
  rw [heff] at he
  obtain ⟨hchan, hmem, hset⟩ := s.part.setRun_spec c x
  have hst := (s.part.setRun c x).setChState_inRegs c 3
  refine completes_of_still he (by rw [hst.sdl, hset.sdl]; exact hs.2) ⟨Part.chState_setChState _ hc (by decide),
    ⟨x, congrArg Chan.run ((hst.chan c).trans hchan), rfl, rfl, rfl, rfl, rfl⟩, hst.mem.trans hmem⟩

end

/-! A beat of a copy (R416). -/

section
variable {p : Part} {c : Nat} {r : BrwRun} {ks kd : List Nat}

/-- A beat that its map takes reads the bytes at its source's keys and stores them at its destination's. -/
theorem Part.beat_moves (t : Nat) (hrun : (p.chan c).run = some r) (hrunning : r.running = true) (hkind : r.d.kind = 0)
    (hrow : r.row < r.d.rows) (hspace : r.d.dstSpace = 0)
    (hsrc : p.memKeys (p.chTag c r.d) (rowAddr r.d.src r.d.srcStride r.row r.off) (min 64 (r.d.len - r.off)) false = some ks)
    (hdst : p.memKeys (p.chTag c r.d) (rowAddr r.d.dst r.d.dstStride r.row r.off) (min 64 (r.d.len - r.off)) true = some kd)
    (hlock : p.chTag c r.d = 0 ∨ ks.any (p.lockedKey (p.chTag c r.d)) = false) :
    p.beat t c false = (p.storeAt kd (p.loadKeys ks)).setRun c (r.past (min 64 (r.d.len - r.off)) (p.loadKeys ks)) := by
  have hlen : (p.loadKeys ks).length = min 64 (r.d.len - r.off) := (List.length_map _).trans (Part.memKeys_length hsrc)
  have hwrite : p.beatWrite (p.chTag c r.d) r (rowAddr r.d.dst r.d.dstStride r.row r.off) (p.loadKeys ks) =
      some (p.storeAt kd (p.loadKeys ks)) := by
    rw [Part.beatWrite, if_neg (by omega), if_neg (by omega), hlen, hdst]
    rfl
  have hopen : (r.d.kind == 0 && p.chTag c r.d != 0 && ks.any (p.lockedKey (p.chTag c r.d))) = false := by
    rcases hlock with h | h <;> simp [h]
  have hgoes : ¬(!r.running || decide (r.d.rows ≤ r.row)) = true := by simp [hrunning, hrow]
  rw [Part.beat, hrun]
  simp only [if_neg hgoes, hsrc, Option.map_some, Option.getD_some, hopen]
  simp [hkind, hwrite]

/-- The cursor past a beat. -/
theorem BrwRun.past_spec (r : BrwRun) (n : Nat) (data : List Byte) :
    let x := r.past n data
    x.d = r.d ∧ x.running = r.running ∧ x.bytes = r.bytes + n ∧
      if r.off + n < r.d.len then x.row = r.row ∧ x.off = r.off + n else x.row = r.row + 1 ∧ x.off = 0 := by
  unfold BrwRun.past
  split
  · exact ⟨rfl, rfl, rfl, rfl, rfl⟩
  · exact ⟨rfl, rfl, rfl, rfl, rfl⟩

end

/-- A beat reads a row's bytes and writes them. -/
theorem completes_beat {c : Nat} {r : BrwRun} {ks kd : List Nat} {s : State} (hs : Ready s) (hc : c < 64) (hlive : s.part.live = true)
    (hready : s.part.beatReady c = true) (hrun : (s.part.chan c).run = some r) (hspace : r.d.dstSpace = 0)
    (hsrc : s.part.memKeys (s.part.chTag c r.d) (rowAddr r.d.src r.d.srcStride r.row r.off) (min 64 (r.d.len - r.off)) false = some ks)
    (hdst : s.part.memKeys (s.part.chTag c r.d) (rowAddr r.d.dst r.d.dstStride r.row r.off) (min 64 (r.d.len - r.off)) true = some kd)
    (hnodup : kd.Nodup) (hlock : s.part.chTag c r.d = 0 ∨ ks.any (s.part.lockedKey (s.part.chTag c r.d)) = false) :
    Completes (.barrowReadReturn c false) s (fun t =>
      (∀ (i a b : Nat), ks[i]? = some a → kd[i]? = some b → t.part.byte b = s.part.byte a) ∧
      (∀ a, a ∉ kd → t.part.byte a = s.part.byte a) ∧
      (∃ x, (t.part.chan c).run = some x ∧ x.d = r.d ∧ x.running = true ∧ x.bytes = r.bytes + min 64 (r.d.len - r.off) ∧
        (if r.off + min 64 (r.d.len - r.off) < r.d.len then x.row = r.row ∧ x.off = r.off + min 64 (r.d.len - r.off)
          else x.row = r.row + 1 ∧ x.off = 0)) ∧
      ChannelOnly c [R.BRW_CH_CUR_SRC_LO c, R.BRW_CH_CUR_SRC_HI c, R.BRW_CH_CUR_DST_LO c, R.BRW_CH_CUR_DST_HI c,
        R.BRW_CH_CUR_REMAIN c, R.BRW_CH_CUR_ROWS c] s t) := by
  have he := next_barrowReadReturn c false s hs.1 (by simp [Instr.wf, hc, hlive, hready])
  obtain ⟨hrunning, hkind, hrow⟩ : r.running = true ∧ r.d.kind = 0 ∧ r.row < r.d.rows := by
    rw [Part.beatReady, hrun] at hready
    simpa [and_assoc] using hready
  obtain ⟨q, hq⟩ : ∃ q, s.part.storeAt kd (s.part.loadKeys ks) = q := ⟨_, rfl⟩
  rw [Part.beat_moves s.ns hrun hrunning hkind hrow hspace hsrc hdst hlock, hq] at he
  have hlen : kd.length = (s.part.loadKeys ks).length := by
    rw [Part.loadKeys, List.length_map, Part.memKeys_length hsrc, Part.memKeys_length hdst]
  obtain ⟨hstored, hkept⟩ := s.part.storeAt_spec hlen hnodup
  rw [hq] at hstored hkept
  obtain ⟨hchan, hmem, hset⟩ := q.setRun_spec c (r.past (min 64 (r.d.len - r.off)) (s.part.loadKeys ks))
  have hbyte (a : Nat) : (q.setRun c (r.past (min 64 (r.d.len - r.off)) (s.part.loadKeys ks))).byte a = q.byte a := by
    rw [Part.byte, Part.byte, hmem]
  have h1 : s.part.ChanOnly c (cursorRegs c) q := hq ▸ .storeAt _ c _ _ _
  have hall := h1.trans hset
  obtain ⟨hd, hgoing, hbytes, hcursor⟩ := r.past_spec (min 64 (r.d.len - r.off)) (s.part.loadKeys ks)
  refine completes_of_still he (by rw [hall.sdl]; exact hs.2) ⟨fun i a b ha hb => ?_, fun a ha => (hbyte a).trans (hkept a ha),
    ⟨_, congrArg Chan.run hchan, hd, hgoing.trans hrunning, hbytes, hcursor⟩, hall.claim⟩
  have h := hstored i b hb
  rw [Part.loadKeys, List.getElem?_map, ha] at h
  exact (hbyte b).trans (Option.some.inj h)

/-! The end of a descriptor (R423, R424). -/

/-- The completion of a copy, whose last data write has left. -/
theorem Part.completeRun_spec (p : Part) (t c : Nat) (r : BrwRun) (ht : 4 ≤ t) :
    let q := p.completeRun t c r
    (∃ f : BrwFin, (q.chan c).fins = (p.chan c).fins ++ [f] ∧ f.d = r.d ∧ f.status = 1 ∧ f.bytes = r.bytes ∧ f.phase = 1 ∧
      f.settled = false ∧ f.doneTs + 2 ≤ t ∧ t ≤ f.doneTs + 4) ∧ (∀ d, d ≠ c → q.chan d = p.chan d) ∧ q.sdl = p.sdl := by
  unfold Part.completeRun
  extract_lets d f q q1
  have hlt : d.1 < 3 := Nat.mod_lt _ (by decide)
  have hchan : q.chan c = { p.chan c with run := none, fins := (p.chan c).fins ++ [f], next := (r.d.index + 1) % p.chSize c } :=
    d.2.chan_modChan_self c _
  have hother (x : Nat) (hx : x ≠ c) : q.chan x = p.chan x := d.2.chan_modChan_other _ hx
  have h1 : q.KeepsFins c q1 := by
    show q.KeepsFins c (if _ then _ else q)
    split
    · have hput : q.KeepsFins c (q.put (F.BRW_CH_LEVEL_BYTES c) (p.get (F.BRW_CH_LEVEL_BYTES c) - r.d.len * r.d.rows)) := .of_brw rfl rfl
      exact hput.trans (.chHyst _ true)
    · exact .refl q
  obtain ⟨hfins, hrest, hsdl⟩ := h1.trans (.chNext q1 t)
  have hdone : f.doneTs = t - 2 - d.1 := rfl
  exact ⟨⟨f, hfins.trans (by rw [hchan]), rfl, rfl, rfl, rfl, rfl, by omega, by omega⟩,
    fun x hx => (hrest x hx).trans (hother x hx), hsdl⟩

/-- The end of a copy notes its completion. -/
theorem completes_descriptorComplete {c : Nat} {r : BrwRun} {s : State} (hs : Ready s) (hc : c < 64) (hlive : s.part.live = true)
    (hready : s.part.completeReady c = true) (hrun : (s.part.chan c).run = some r) (hkind : r.d.kind ≠ 1) (ht : 4 ≤ s.ns) :
    Completes (.descriptorComplete c) s (fun t =>
      (∃ f : BrwFin, (t.part.chan c).fins = (s.part.chan c).fins ++ [f] ∧ f.d = r.d ∧ f.status = 1 ∧ f.bytes = r.bytes ∧
        f.phase = 1 ∧ f.settled = false ∧ f.doneTs + 2 ≤ s.ns ∧ s.ns ≤ f.doneTs + 4) ∧
      ∀ d, d ≠ c → t.part.chan d = s.part.chan d) := by
  have he := next_descriptorComplete c s hs.1 (by simp [Instr.wf, hc, hlive, hready])
  have heff : s.part.descComplete s.ns c = (s.part.completeRun s.ns c r).brwStat := by
    unfold Part.descComplete
    simp only [hrun, if_neg hkind]
  rw [heff] at he
  obtain ⟨⟨f, hfins, hf⟩, hother, hsdl⟩ := s.part.completeRun_spec s.ns c r ht
  have hstat := (s.part.completeRun s.ns c r).brwStat_inRegs
  exact completes_of_still he (by rw [hstat.sdl, hsdl]; exact hs.2)
    ⟨⟨f, by rw [show Part.chan _ c = _ from hstat.chan c, hfins], hf⟩, fun d hd => (hstat.chan d).trans (hother d hd)⟩

section
variable {c : Nat} {f : BrwFin} {a b : List BrwFin} {ks : List Nat} {s : State} (hs : Ready s) (hc : c < 64) (hlive : s.part.live = true)
  (hfins : (s.part.chan c).fins = a ++ f :: b)
include hs hc hlive hfins

/-- The STATUS write. -/
theorem completes_statusWrite (ha : ∀ x ∈ a, x.phase ≠ 1) (hf : f.phase = 1)
    (hks : s.part.memKeys (s.part.chOwner c) (s.part.descAt c f.d.index + 0x30) 16 true = some ks) (hnodup : ks.Nodup) :
    Completes (.statusWritePerformed c) s (fun t => (t.part.chan c).fins = a ++ { f with phase := 2 } :: b ∧
      (∀ (i k : Nat), ks[i]? = some k → some (t.part.byte k) = (toLe 4 f.status ++ toLe 4 f.bytes ++ toLe 8 f.doneTs)[i]?) ∧
      (∀ k, k ∉ ks → t.part.byte k = s.part.byte k) ∧ ChannelOnly c [R.BRW_CH_HEAD c] s t) := by
  have hpick : ∀ x ∈ a, (x.phase == 1) = false := fun x hx => by simpa using ha x hx
  have hfirst : (f.phase == 1) = true := by simpa using hf
  have he := next_statusWritePerformed c s hs.1 (by simp [Instr.wf, hc, hlive, hfins, hf])
  obtain ⟨l, hl⟩ : ∃ l, toLe 4 f.status ++ toLe 4 f.bytes ++ toLe 8 f.doneTs = l := ⟨_, rfl⟩
  have hlen : l.length = 16 := by rw [← hl]; simp
  obtain ⟨q, hq⟩ : ∃ q, s.part.storeAt ks l = q := ⟨_, rfl⟩
  have hput : s.part.ringPut c f.d.index 0x30 l = q := hq ▸ Part.ringPut_stored (by rw [hlen]; exact hks)
  have heff : s.part.statusDone c = (q.modFin c (fun x => x.phase == 1) (fun x => { x with phase := 2 })).chHead c := by
    rw [Part.statusDone, hfins, find?_first hpick hfirst]
    simp only [hl, hput]
  rw [heff] at he
  rw [hl]
  obtain ⟨hstored, hkept⟩ := s.part.storeAt_spec ((Part.memKeys_length hks).trans hlen.symm) hnodup
  rw [hq] at hstored hkept
  have hchan : q.chan c = s.part.chan c := by rw [← hq]; rfl
  have hfin := Part.modFin_first (g := fun x => { x with phase := 2 }) (hchan ▸ hfins) hpick hfirst
  obtain ⟨q1, hq1⟩ : ∃ q1, q.modFin c (fun x => x.phase == 1) (fun x => { x with phase := 2 }) = q1 := ⟨_, rfl⟩
  have hmem : q1.mem = q.mem := by rw [← hq1, Part.modFin, Part.modChan_mem]
  rw [hq1] at he hfin
  have hhead := q1.chHead_inRegs c
  have hbyte (k : Nat) : (q1.chHead c).byte k = q.byte k := by rw [Part.byte, Part.byte, hhead.mem, hmem]
  have h1 : s.part.ChanOnly c [R.BRW_CH_HEAD c] q := hq ▸ .storeAt _ c _ _ _
  have h2 : q.ChanOnly c [R.BRW_CH_HEAD c] q1 := hq1 ▸ .modFin _ c _ _ _
  have hall := (h1.trans h2).trans (.of_inRegs hhead)
  exact completes_of_still he (by rw [hall.sdl]; exact hs.2) ⟨by rw [show Part.chan _ c = _ from hhead.chan c, hfin],
    fun i k hk => (congrArg some (hbyte k)).trans (hstored i k hk), fun k hk => (hbyte k).trans (hkept k hk), hall.claim⟩

section
variable (hevent : f.d.event = false) (hirq : f.d.irq = false)
include hevent hirq

/-- The OWN write of a good descriptor. -/
theorem completes_ownWrite (ha : ∀ x ∈ a, x.phase ≠ 2) (hf : f.phase = 2) (hgood : f.bad = false)
    (hks : s.part.memKeys (s.part.chOwner c) (s.part.descAt c f.d.index + 0) 4 true = some ks) (hnodup : ks.Nodup) :
    Completes (.ownWritePerformed c) s (fun t =>
      t.part.get (F.BRW_CH_DONE_COUNT c) = (s.part.get (F.BRW_CH_DONE_COUNT c) + 1) % 2 ^ 32 ∧
      (∀ (i k : Nat), ks[i]? = some k → some (t.part.byte k) = ([0, 0] ++ toLe 2 f.d.ticket)[i]?) ∧
      (∀ k, k ∉ ks → t.part.byte k = s.part.byte k) ∧ ChannelOnly c (R.BRW_CH_DONE c :: chRegs c) s t) := by
  have hpick : ∀ x ∈ a, (x.phase == 2) = false := fun x hx => by simpa using ha x hx
  have hfirst : (f.phase == 2) = true := by simpa using hf
  have he := next_ownWritePerformed c s hs.1 (by simp [Instr.wf, hc, hlive, hfins, hf])
  obtain ⟨l, hl⟩ : ∃ l, ([0, 0] ++ toLe 2 f.d.ticket : List Byte) = l := ⟨_, rfl⟩
  have hlen : l.length = 4 := by rw [← hl]; simp
  obtain ⟨q, hq⟩ : ∃ q, s.part.storeAt ks l = q := ⟨_, rfl⟩
  have hput : s.part.ringPut c f.d.index 0 l = q := hq ▸ Part.ringPut_stored (by rw [hlen]; exact hks)
  obtain ⟨q1, hq1⟩ : ∃ q1, q.modFin c (fun x => x.phase == 2) (fun x => { x with phase := 3 }) = q1 := ⟨_, rfl⟩
  obtain ⟨q2, hq2⟩ : ∃ q2, q1.add (F.BRW_CH_DONE_COUNT c) 1 = q2 := ⟨_, rfl⟩
  have heff : s.part.ownDone c = q2.chFlush c := by
    rw [Part.ownDone, hfins, find?_first hpick hfirst]
    simp only [hl, hput, hq1, hq2, hgood, Part.chSignal_silent q2 c hevent hirq, ite_self]
    rfl
  rw [heff] at he
  rw [hl]
  obtain ⟨hstored, hkept⟩ := s.part.storeAt_spec ((Part.memKeys_length hks).trans hlen.symm) hnodup
  rw [hq] at hstored hkept
  have hbyte (k : Nat) : (q2.chFlush c).byte k = q.byte k := by
    rw [Part.byte, Part.byte, Part.chFlush_mem, ← hq2, Part.add, Part.put_mem, ← hq1, Part.modFin, Part.modChan_mem]
  have hdone : (q2.chFlush c).get (F.BRW_CH_DONE_COUNT c) = (s.part.get (F.BRW_CH_DONE_COUNT c) + 1) % 2 ^ 32 := by
    have hget : q1.get (F.BRW_CH_DONE_COUNT c) = s.part.get (F.BRW_CH_DONE_COUNT c) := by
      rw [← hq1, Part.modFin, Part.modChan_get, ← hq]
      rfl
    rw [q2.get_chFlush hc (by show R.BRW_CH_DONE c / 0x100 = _; unfold R.BRW_CH_DONE; omega), ← hq2, ← hget]
    exact Part.get_put_self q1 (F.BRW_CH_DONE_COUNT c) _ (by decide : 31 < 32)
  have h1 : s.part.ChanOnly c (R.BRW_CH_DONE c :: chRegs c) q := hq ▸ .storeAt _ c _ _ _
  have h2 : q.ChanOnly c (R.BRW_CH_DONE c :: chRegs c) q1 := hq1 ▸ .modFin _ c _ _ _
  have h3 : q1.InRegs (R.BRW_CH_DONE c :: chRegs c) q2 := hq2 ▸ (Part.InRegs.refl _ q1).put _ _ List.mem_cons_self
  have hall := ((h1.trans h2).trans (.of_inRegs h3)).trans ((Part.ChanOnly.chFlush q2 c).mono (by simp [chRegs]))
  exact completes_of_still he (by rw [hall.sdl]; exact hs.2) ⟨hdone, fun i k hk => (congrArg some (hbyte k)).trans (hstored i k hk),
    fun k hk => (hbyte k).trans (hkept k hk), hall.claim⟩

/-- The last of a descriptor's data writes is performed. -/
theorem completes_settled (ha : ∀ x ∈ a, x.settled = true) (hf : f.settled = false) :
    Completes (.descriptorSettled c) s (fun t =>
      t.part.get (F.BRW_CH_SETTLED_COUNT c) = (s.part.get (F.BRW_CH_SETTLED_COUNT c) + 1) % 2 ^ 32 ∧ t.part.mem = s.part.mem ∧
      t.part.get (F.BRW_CH_DONE_COUNT c) = s.part.get (F.BRW_CH_DONE_COUNT c) ∧ ChannelOnly c (R.BRW_CH_SETTLED c :: chRegs c) s t) := by
  have hpick : ∀ x ∈ a, (!x.settled) = false := fun x hx => by simpa using ha x hx
  have hfirst : (!f.settled) = true := by simpa using hf
  have he := next_descriptorSettled c s hs.1 (by simp [Instr.wf, hc, hlive, hfins, hf])
  obtain ⟨q1, hq1⟩ : ∃ q1, s.part.modFin c (fun x => !x.settled) (fun x => { x with settled := true }) = q1 := ⟨_, rfl⟩
  obtain ⟨q2, hq2⟩ : ∃ q2, q1.add (F.BRW_CH_SETTLED_COUNT c) 1 = q2 := ⟨_, rfl⟩
  have heff : s.part.settle c = q2.chFlush c := by
    rw [Part.settle, hfins, find?_first hpick hfirst]
    simp only [hq1, hq2, Part.chSignal_silent q2 c hevent hirq, ite_self]
  rw [heff] at he
  have get1 (g : Fld) : q1.get g = s.part.get g := by rw [← hq1, Part.modFin, Part.modChan_get]
  have hcount : (q2.chFlush c).get (F.BRW_CH_SETTLED_COUNT c) = (s.part.get (F.BRW_CH_SETTLED_COUNT c) + 1) % 2 ^ 32 := by
    rw [q2.get_chFlush hc (by show R.BRW_CH_SETTLED c / 0x100 = _; unfold R.BRW_CH_SETTLED; omega), ← hq2, ← get1]
    exact Part.get_put_self q1 (F.BRW_CH_SETTLED_COUNT c) _ (by decide : 31 < 32)
  have hdone : (q2.chFlush c).get (F.BRW_CH_DONE_COUNT c) = s.part.get (F.BRW_CH_DONE_COUNT c) := by
    rw [q2.get_chFlush hc (by show R.BRW_CH_DONE c / 0x100 = _; unfold R.BRW_CH_DONE; omega), ← hq2, ← get1]
    exact Part.get_put_reg _ _ _ _ (by show R.BRW_CH_DONE c ≠ R.BRW_CH_SETTLED c; unfold R.BRW_CH_DONE R.BRW_CH_SETTLED; omega)
  have hmem : (q2.chFlush c).mem = s.part.mem := by
    rw [Part.chFlush_mem, ← hq2, Part.add, Part.put_mem, ← hq1, Part.modFin, Part.modChan_mem]
  have h1 : s.part.ChanOnly c (R.BRW_CH_SETTLED c :: chRegs c) q1 := hq1 ▸ .modFin _ c _ _ _
  have h2 : q1.InRegs (R.BRW_CH_SETTLED c :: chRegs c) q2 := hq2 ▸ (Part.InRegs.refl _ q1).put _ _ List.mem_cons_self
  have hall := (h1.trans (.of_inRegs h2)).trans ((Part.ChanOnly.chFlush q2 c).mono (by simp [chRegs]))
  exact completes_of_still he (by rw [hall.sdl]; exact hs.2) ⟨hcount, hmem, hdone, hall.claim⟩

end

end

/-- Settles O43: the re-read's outcomes, a beat, and the four steps in which a descriptor ends. -/
theorem channelWork : Obligations.ChannelWork :=
  ⟨⟨fun _ _ _ _ hs hc hlive hready hrun hl => ⟨completes_reread_gone hs hc hlive hready hrun hl, fun hown hticket =>
      ⟨completes_reread_resumed hs hc hlive hready hrun hl hown hticket, completes_reread_started hs hc hlive hready hrun hl hown hticket⟩⟩,
    fun _ _ _ _ _ hs hc hlive hready hrun hspace hsrc hdst hnodup hlock =>
      completes_beat hs hc hlive hready hrun hspace hsrc hdst hnodup hlock⟩,
    fun _ _ _ hs hc hlive hready hrun hkind ht => completes_descriptorComplete hs hc hlive hready hrun hkind ht,
    fun _ _ _ _ _ _ hs hc hlive hfins ha hf hks hnodup => completes_statusWrite hs hc hlive hfins ha hf hks hnodup,
    fun _ _ _ _ _ _ hs hc hlive hfins ha hf hgood hevent hirq hks hnodup =>
      completes_ownWrite hs hc hlive hfins hevent hirq ha hf hgood hks hnodup,
    fun _ _ _ _ _ hs hc hlive hfins ha hf hevent hirq => completes_settled hs hc hlive hfins hevent hirq ha hf⟩

end Sys2Proof.Machine
end


section
/-! SUPPORT. The DRAM controller (16_dram): what its charges, activates, rewrites and counts may touch, and the statement about refresh,
the Weeder and Wilt. -/

namespace Sys2Proof.Machine

open Sys2Proof.Claim

/-- `q` is `p` but for the controller's unit, the free values drawn, and the registers listed. -/
def Part.DmcOnly (l : List Nat) (p q : Part) : Prop :=
  q = { p with regs := q.regs, dmc := q.dmc, free := q.free } ∧ p.RegsWithin l q

/-- The registers that count activates, refresh management and charged bursts (R465, R470, R471). -/
def chargeRegs : List Nat := R.DMC_NBR_COUNT :: R.DMC_RFM_COUNT :: (List.range 9).map R.DMC_RES_SERVED

/-- The registers of a charge that a bucket may deny (R465). -/
def deniedRegs : List Nat := R.DMC_EVENTS :: (List.range 9).map R.DMC_WILT_DENIED ++ chargeRegs

/-- The registers of an error's outcome (R458). -/
def eccRegs : List Nat :=
  [R.DMC_CE_COUNT, R.DMC_UE_COUNT, R.DMC_EVENTS, R.DMC_ERR_ADDR_LO, R.DMC_ERR_ADDR_HI, R.DMC_ERR_INFO]

section
variable {l : List Nat} {p q : Part}

theorem Part.DmcOnly.refl (l : List Nat) (p : Part) : p.DmcOnly l p := ⟨rfl, .refl l p⟩

theorem Part.DmcOnly.trans {r : Part} (h : p.DmcOnly l q) (k : q.DmcOnly l r) : p.DmcOnly l r := ⟨by rw [k.1, h.1], h.2.trans k.2⟩

theorem Part.DmcOnly.mono {l' : List Nat} (h : p.DmcOnly l q) (hl : l ⊆ l') : p.DmcOnly l' q := ⟨h.1, h.2.mono hl⟩

theorem Part.DmcOnly.put (p : Part) (f : Fld) (n : Nat) (hf : f.reg ∈ l) : p.DmcOnly l (p.put f n) :=
  ⟨rfl, (Part.RegsWithin.refl l p).put f n hf⟩

theorem Part.DmcOnly.modDmc (p : Part) (l : List Nat) (f : DmcUnit → DmcUnit) : p.DmcOnly l (p.modDmc f) := ⟨rfl, fun _ _ => rfl⟩

theorem Part.DmcOnly.get (h : p.DmcOnly l q) {f : Fld} (hf : f.reg ∉ l) : q.get f = p.get f := h.2.get hf

theorem Part.DmcOnly.mem (h : p.DmcOnly l q) : q.mem = p.mem := by rw [h.1]
theorem Part.DmcOnly.sdl (h : p.DmcOnly l q) : q.sdl = p.sdl := by rw [h.1]

theorem Part.DmcOnly.sameMap (h : p.DmcOnly l q) (hl : ∀ a ∈ l, a < 0x1300000) : p.SameMap q :=
  ⟨h.mem, fun a ha => h.2 a fun hin => absurd (hl a hin) (by omega)⟩

theorem Part.DmcOnly.block (h : p.DmcOnly l q) (hl : ∀ a ∈ l, a / 0x100000 = 6) : p.BlockOnly 6 q :=
  fun a ha => h.2 a fun hin => ha (hl a hin)

end

theorem chargeRegs_subset : chargeRegs ⊆ deniedRegs := List.subset_append_right _ _

theorem served_mem {k : Nat} (hk : k < 9) : R.DMC_RES_SERVED k ∈ chargeRegs :=
  .tail _ (.tail _ (List.mem_map_of_mem (List.mem_range.mpr hk)))

theorem wiltDenied_mem {k : Nat} (hk : k < 9) : R.DMC_WILT_DENIED k ∈ deniedRegs :=
  List.mem_append_left _ (.tail _ (List.mem_map_of_mem (List.mem_range.mpr hk)))

/-! Activates and charges (R465, R470, R471). -/

theorem Part.DmcOnly.rfm (p : Part) (d : DramAt) : p.DmcOnly chargeRegs (p.rfm d) := by
  unfold Part.rfm
  extract_lets n im
  split
  · exact (Part.DmcOnly.modDmc p _ _).trans (.put _ _ _ (.tail _ (.head _)))
  · exact .refl _ p

theorem Part.DmcOnly.activate (p : Part) (d : DramAt) : p.DmcOnly chargeRegs (p.activate d) := by
  unfold Part.activate
  extract_lets x near n
  have hfresh : p.DmcOnly chargeRegs x.2 := ⟨rfl, fun _ _ => rfl⟩
  exact ((hfresh.trans (.modDmc _ _ _)).trans (.put _ _ _ (.head _))).trans (.rfm _ d)

theorem Part.DmcOnly.activates (d : DramAt) (n : Nat) (p : Part) : p.DmcOnly chargeRegs (Part.activates d n p) := by
  induction n generalizing p with
  | zero => exact .refl _ p
  | succ n ih => exact (Part.DmcOnly.activate p d).trans (ih _)

theorem Part.DmcOnly.wiltDenied (p : Part) {k : Nat} (hk : k < 9) : p.DmcOnly deniedRegs (p.wiltDenied k) :=
  (Part.DmcOnly.put p _ _ (wiltDenied_mem hk)).trans (.put _ _ _ (.head _))

/-- A charge that no Wilt asked for is counted alone. -/
theorem Part.DmcOnly.dmcCharge_plain (p : Part) (t n : Nat) {k : Nat} (hk : k < 9) : p.DmcOnly chargeRegs (p.dmcCharge t k n false) := by
  unfold Part.dmcCharge
  extract_lets mbps b denied m q
  rw [Bool.false_and, Bool.false_and, if_neg (by decide)]
  exact (Part.DmcOnly.modDmc p _ _).trans (.put _ _ _ (served_mem hk))

theorem Part.DmcOnly.dmcCharge (p : Part) (t n : Nat) (wilt : Bool) {k : Nat} (hk : k < 9) :
    p.DmcOnly deniedRegs (p.dmcCharge t k n wilt) := by
  unfold Part.dmcCharge
  extract_lets mbps b denied m q
  have hq : p.DmcOnly deniedRegs q := (Part.DmcOnly.modDmc p _ _).trans (.put _ _ _ (chargeRegs_subset (served_mem hk)))
  split
  · exact hq.trans (.wiltDenied _ hk)
  · exact hq

theorem Part.unitOwner_lt (p : Part) (a : Nat) : p.unitOwner a < 9 := by
  unfold Part.unitOwner
  cases h : (List.range 9).find? (fun k => k != 0 && (List.range (p.img.window k / 2 ^ 21)).any (fun i =>
    p.sysAddr k (i * 2 ^ 21) / 2 ^ 21 == a / 2 ^ 21)) with
  | none => decide
  | some k => exact List.mem_range.mp (List.mem_of_find?_eq_some h)

theorem Part.DmcOnly.issueRewrites (p : Part) (t : Nat) : p.DmcOnly chargeRegs (p.issueRewrites t) := by
  have hfold (us : List Nat) (q : Part) : q.DmcOnly chargeRegs (us.foldl (fun (q : Part) u =>
      (Part.activates (dramAt q.dmcRanks (u * 64)) 1 q).dmcCharge t (q.unitOwner (u * 64)) 1 false) q) := by
    induction us generalizing q with
    | nil => exact .refl _ q
    | cons u us ih => exact ((Part.DmcOnly.activates _ 1 q).trans (.dmcCharge_plain _ t 1 (q.unitOwner_lt _))).trans (ih _)
  exact (Part.DmcOnly.modDmc p _ _).trans (hfold _ _)

/-! Outcomes (R458). -/

/-- DMC_ERR says whether the word could be corrected, and which it is; the registers beside it stay. -/
theorem Part.dmcErr_spec (p : Part) (a : Nat) (ue : Bool) (source : Nat) {w : Nat} :
    p.DmcOnly [R.DMC_ERR_ADDR_LO, R.DMC_ERR_ADDR_HI, R.DMC_ERR_INFO] (p.dmcErr a ue source w) ∧
    (p.dmcErr a ue source w).get F.DMC_ERR_INFO_UE = ue.toNat ∧ (p.dmcErr a ue source w).get F.DMC_ERR_INFO_WORD = w % 64 := by
  unfold Part.dmcErr
  extract_lets q
  obtain ⟨m, hm⟩ : ∃ m, p.unitOwner a = m := ⟨_, rfl⟩
  rw [hm]
  have hq : p.DmcOnly [R.DMC_ERR_ADDR_LO, R.DMC_ERR_ADDR_HI, R.DMC_ERR_INFO] q :=
    (Part.DmcOnly.put p _ _ (.head _)).trans (.put _ _ _ (.tail _ (.head _)))
  have hinfo : R.DMC_ERR_INFO ∈ [R.DMC_ERR_ADDR_LO, R.DMC_ERR_ADDR_HI, R.DMC_ERR_INFO] := .tail _ (.tail _ (.head _))
  refine ⟨(((hq.trans (.put _ _ _ hinfo)).trans (.put _ _ _ hinfo)).trans (.put _ _ _ hinfo)).trans (.put _ _ _ hinfo), ?_,
    Part.get_put_self _ _ _ (by decide)⟩
  iterate 3 rw [Part.get_put_disjoint _ _ F.DMC_ERR_INFO_UE _ (.inl (by decide))]
  refine (Part.get_put_self _ _ _ (by decide)).trans ?_
  cases ue <;> rfl

/-- An error of either kind before DMC_ERR names it: its counter and its event. -/
theorem Part.eccCounted_spec (p : Part) (count : Nat) {e : Nat} (hc : count ≠ R.DMC_EVENTS) (he : e < 32) :
    let q := (p.addSat ⟨count, 15, 0⟩ 1).set ⟨R.DMC_EVENTS, e, e⟩
    p.DmcOnly [count, R.DMC_EVENTS] q ∧ q.get ⟨count, 15, 0⟩ = min (p.get ⟨count, 15, 0⟩ + 1) 65535 ∧ q.get ⟨R.DMC_EVENTS, e, e⟩ = 1 :=
  ⟨(Part.DmcOnly.put p _ _ (.head _)).trans (.put _ _ _ (.tail _ (.head _))),
    (Part.get_put_reg _ _ _ _ hc).trans (Part.get_addSat16 p _ 1), Part.get_put_bit _ _ e 1 he⟩

/-- A corrected word is counted, shown and named, and no uncorrectable one is counted. -/
theorem Part.eccNote_corrected (p : Part) (a source w : Nat) : let q := p.eccNote a source (.corrected w)
    p.DmcOnly eccRegs q ∧ q.get F.DMC_UE_COUNT_COUNT = p.get F.DMC_UE_COUNT_COUNT ∧
      q.get F.DMC_CE_COUNT_COUNT = min (p.get F.DMC_CE_COUNT_COUNT + 1) 65535 ∧ q.get F.DMC_EVENTS_CE = 1 ∧
      q.get F.DMC_ERR_INFO_UE = 0 ∧ q.get F.DMC_ERR_INFO_WORD = w % 64 := by
  obtain ⟨hcounted, hcount, hevent⟩ := p.eccCounted_spec R.DMC_CE_COUNT (e := 0) (by decide) (by decide)
  rw [show p.eccNote a source (.corrected w) = (((p.addSat F.DMC_CE_COUNT_COUNT 1).set F.DMC_EVENTS_CE).dmcErr a false source w).modDmc
    (fun u => { u with rewrites := u.rewrites ++ [a / 64] }) from rfl]
  obtain ⟨q, hq⟩ : ∃ q, (p.addSat F.DMC_CE_COUNT_COUNT 1).set F.DMC_EVENTS_CE = q := ⟨_, rfl⟩
  rw [show (p.addSat ⟨R.DMC_CE_COUNT, 15, 0⟩ 1).set ⟨R.DMC_EVENTS, 0, 0⟩ = q from hq] at hcounted hcount hevent
  rw [hq]
  obtain ⟨herr, hue, hword⟩ := q.dmcErr_spec a false source (w := w)
  obtain ⟨r, hr⟩ : ∃ r, q.dmcErr a false source w = r := ⟨_, rfl⟩
  rw [hr] at herr hue hword
  rw [hr]
  exact ⟨((hcounted.mono (by decide)).trans (herr.mono (by decide))).trans (.modDmc _ _ _),
    (herr.get (by decide)).trans (hcounted.get (by decide)), (herr.get (by decide)).trans hcount, (herr.get (by decide)).trans hevent, hue, hword⟩

/-- An uncorrectable word is counted and shown, and no corrected one is counted. -/
theorem Part.eccNote_uncorrectable (p : Part) (a source w : Nat) : let q := p.eccNote a source (.uncorrectable w)
    p.DmcOnly eccRegs q ∧ q.get F.DMC_UE_COUNT_COUNT = min (p.get F.DMC_UE_COUNT_COUNT + 1) 65535 ∧ q.get F.DMC_EVENTS_UE = 1 := by
  obtain ⟨hcounted, hcount, hevent⟩ := p.eccCounted_spec R.DMC_UE_COUNT (e := 1) (by decide) (by decide)
  rw [show p.eccNote a source (.uncorrectable w) = ((p.addSat F.DMC_UE_COUNT_COUNT 1).set F.DMC_EVENTS_UE).dmcErr a true source w from rfl]
  obtain ⟨q, hq⟩ : ∃ q, (p.addSat F.DMC_UE_COUNT_COUNT 1).set F.DMC_EVENTS_UE = q := ⟨_, rfl⟩
  rw [show (p.addSat ⟨R.DMC_UE_COUNT, 15, 0⟩ 1).set ⟨R.DMC_EVENTS, 1, 1⟩ = q from hq] at hcounted hcount hevent
  rw [hq]
  obtain ⟨herr, -, -⟩ := q.dmcErr_spec a true source (w := w)
  exact ⟨(hcounted.mono (by decide)).trans (herr.mono (by decide)), (herr.get (by decide)).trans hcount, (herr.get (by decide)).trans hevent⟩

/-- An outcome touches the error's registers alone. -/
theorem Part.DmcOnly.eccNote (p : Part) (a source : Nat) (o : EccOutcome) : p.DmcOnly eccRegs (p.eccNote a source o) := by
  cases o with
  | clean => exact .refl _ p
  | corrected w => exact (p.eccNote_corrected a source w).1
  | uncorrectable w => exact (p.eccNote_uncorrectable a source w).1

end Sys2Proof.Machine
end


section
/-! SUPPORT. Refresh, the Weeder, Wilt and NBR_K (R463, R465, R467, R468, R472, R473). -/

namespace Sys2Proof.Machine

open Sys2Proof.Claim

/-- A counter of 32 bits wraps. -/
theorem Part.get_add_word (p : Part) (a n : Nat) : (p.add ⟨a, 31, 0⟩ n).get ⟨a, 31, 0⟩ = (p.get ⟨a, 31, 0⟩ + n) % 2 ^ 32 :=
  Part.get_put_self p _ _ (show 31 < 32 by decide)

/-! Refresh (R467, R468). -/

theorem owedFld_reg (ch rank : Nat) : (owedFld ch rank).reg = R.DMC_REF_OWED ch := by
  unfold owedFld
  split <;> rfl

/-- What a rank owes once it is written. -/
theorem Part.get_owed_put (p : Part) (ch rank : Nat) {n : Nat} (hn : n < 16) : (p.put (owedFld ch rank) n).get (owedFld ch rank) = n := by
  unfold owedFld
  split
  · exact (Part.get_put_self p _ _ (by show 3 < 32; decide)).trans (Nat.mod_eq_of_lt hn)
  · exact (Part.get_put_self p _ _ (by show 7 < 32; decide)).trans (Nat.mod_eq_of_lt hn)

/-- The other rank's refreshes stay owed. -/
theorem Part.get_owed_put_other (p : Part) (ch n : Nat) {rank : Nat} (hr : rank < 2) :
    (p.put (owedFld ch rank) n).get (owedFld ch (1 - rank)) = p.get (owedFld ch (1 - rank)) := by
  refine Part.get_put_disjoint p _ _ n ?_
  obtain rfl | rfl : rank = 0 ∨ rank = 1 := by omega
  · exact .inr (show 3 < 4 by decide)
  · exact .inl (show 3 < 4 by decide)

theorem Part.refresh_get (p : Part) (ch rank n : Nat) (f : Fld) : (p.refresh ch rank n).get f = p.get f := rfl
theorem Part.refresh_reg (p : Part) (ch rank n a : Nat) : (p.refresh ch rank n).reg a = p.reg a := rfl

section
variable (p : Part) (ch rank : Nat)

/-- With no Wilt request queued every owed refresh is issued. -/
theorem Part.refreshDue_idle :
    p.refreshDue ch rank false = (p.put (owedFld ch rank) 0).refresh ch rank (p.get (owedFld ch rank) + 1) := rfl

/-- Behind Wilt, a refresh stays owed. -/
theorem Part.refreshDue_held (h : p.get (owedFld ch rank) + 1 < 8) :
    p.refreshDue ch rank true = p.put (owedFld ch rank) (p.get (owedFld ch rank) + 1) := by
  rw [Part.refreshDue]
  simp only [Bool.not_true, Bool.false_eq_true, if_false, if_pos h]

/-- At 8 owed one goes ahead of Wilt. -/
theorem Part.refreshDue_forced (h : ¬p.get (owedFld ch rank) + 1 < 8) :
    p.refreshDue ch rank true =
      (((p.put (owedFld ch rank) 7).refresh ch rank 1).add F.DMC_REF_FORCED_COUNT 1).set F.DMC_EVENTS_REF_FORCED := by
  rw [Part.refreshDue]
  simp only [Bool.not_true, Bool.false_eq_true, if_false, if_neg h]

end

/-- A rank's tREFI elapses. -/
theorem completes_refreshDue {ch rank : Nat} (wilt : Bool) {s : State} (hs : Ready s) (hch : ch < 4) (hrank : rank < 2)
    (hruns : s.part.rankRuns ch rank = true) :
    let n := s.part.get (owedFld ch rank) + 1
    Completes (.refreshDue ch rank wilt) s (fun t =>
      t.part.get (owedFld ch rank) = (if wilt = false then 0 else if n < 8 then n else 7) ∧
      t.part.get (owedFld ch (1 - rank)) = s.part.get (owedFld ch (1 - rank)) ∧
      (wilt = true → 8 ≤ n → t.part.get F.DMC_EVENTS_REF_FORCED = 1 ∧
        t.part.get F.DMC_REF_FORCED_COUNT = (s.part.get F.DMC_REF_FORCED_COUNT + 1) % 2 ^ 32) ∧
      (¬(wilt = true ∧ 8 ≤ n) → ∀ a, a ≠ R.DMC_REF_OWED ch → t.part.reg a = s.part.reg a) ∧
      t = { s with part := { s.part with regs := t.part.regs, dmc := t.part.dmc } }) := by
  intro n
  have he := next_refreshDue ch rank wilt s hs.1 (by simp [Instr.wf, hch, hrank, hruns])
  have hother (m a : Nat) (ha : a ≠ R.DMC_REF_OWED ch) : (s.part.put (owedFld ch rank) m).reg a = s.part.reg a :=
    Part.reg_put_other _ _ _ (by rw [owedFld_reg]; exact ha)
  cases wilt with
  | false =>
    rw [Part.refreshDue_idle] at he
    exact completes_of_still he hs.2 ⟨Part.get_owed_put _ _ _ (by decide), Part.get_owed_put_other _ _ _ hrank,
      fun h => absurd h (by decide), fun _ a ha => hother 0 a ha, rfl⟩
  | true =>
    by_cases h : n < 8
    · rw [Part.refreshDue_held _ _ _ h] at he
      refine completes_of_still he hs.2 ⟨?_, Part.get_owed_put_other _ _ _ hrank, fun _ h' => absurd h (by omega),
        fun _ a ha => hother n a ha, rfl⟩
      rw [if_neg (by decide), if_pos h]
      exact Part.get_owed_put _ _ _ (by omega)
    · rw [Part.refreshDue_forced _ _ _ h] at he
      obtain ⟨q, hq⟩ : ∃ q, s.part.put (owedFld ch rank) 7 = q := ⟨_, rfl⟩
      have howed : R.DMC_REF_OWED ch ≠ R.DMC_EVENTS ∧ R.DMC_REF_OWED ch ≠ R.DMC_REF_FORCED := by
        unfold R.DMC_REF_OWED R.DMC_EVENTS R.DMC_REF_FORCED
        omega
      have hget (r : Nat) : (((q.refresh ch rank 1).add F.DMC_REF_FORCED_COUNT 1).set F.DMC_EVENTS_REF_FORCED).get (owedFld ch r) =
          q.get (owedFld ch r) := by
        refine (Part.get_put_reg _ _ _ _ ?_).trans ((Part.get_put_reg _ _ _ _ ?_).trans (Part.refresh_get _ _ _ _ _))
        · rw [owedFld_reg]; exact howed.1
        · rw [owedFld_reg]; exact howed.2
      have hcount : q.get F.DMC_REF_FORCED_COUNT = s.part.get F.DMC_REF_FORCED_COUNT :=
        hq ▸ Part.get_put_reg _ _ _ _ (by rw [owedFld_reg]; exact howed.2.symm)
      have hrest : q = { s.part with regs := q.regs } := hq ▸ rfl
      have h7 : q.get (owedFld ch rank) = 7 := hq ▸ Part.get_owed_put _ _ _ (by decide)
      have hnot : q.get (owedFld ch (1 - rank)) = s.part.get (owedFld ch (1 - rank)) := hq ▸ Part.get_owed_put_other _ _ _ hrank
      rw [hq] at he
      refine completes_of_still he ((congrArg Part.sdl hrest).symm ▸ hs.2) ⟨?_, (hget _).trans hnot, fun _ _ =>
        ⟨Part.get_put_bit _ _ 2 1 (by decide), ?_⟩, fun h' => absurd ⟨rfl, by omega⟩ h', ?_⟩
      · rw [if_neg (by decide), if_neg h]
        exact (hget _).trans h7
      · refine (Part.get_put_reg _ _ _ _ (by decide)).trans ((Part.get_put_self _ _ _ (by decide)).trans ?_)
        rw [Part.refresh_get, hcount]
        rfl
      · rw [hrest]
        rfl

theorem Part.mem_dmcAllRanks (p : Part) {ch rank : Nat} (hch : ch < 4) (hrank : rank < p.dmcRanks) :
    ch * 2 + rank ∈ p.dmcAllRanks.map (fun x => x.1 * 2 + x.2) :=
  List.mem_map.mpr ⟨(ch, rank), List.mem_flatMap.mpr ⟨ch, List.mem_range.mpr hch, List.mem_map_of_mem (List.mem_range.mpr hrank)⟩, rfl⟩

/-- An oscillator update waits for every rank's next window, and a drift beyond the limit shows. -/
theorem completes_dqsOscUpdate (drift : Nat) {s : State} (hs : Ready s) (hon : s.part.dmcOn = true) :
    Completes (.dqsOscUpdate drift) s (fun t =>
    (∀ ch rank, ch < 4 → rank < s.part.dmcRanks → ch * 2 + rank ∈ t.part.dmc.oscDue) ∧
    t.part.get F.DMC_EVENTS_DRIFT = (if s.part.dmcTime 17 < drift then 1 else s.part.get F.DMC_EVENTS_DRIFT) ∧
    (∀ a, a ≠ R.DMC_EVENTS → t.part.reg a = s.part.reg a) ∧
    t = { s with part := { s.part with regs := t.part.regs, dmc := { s.part.dmc with oscDue := t.part.dmc.oscDue } } }) := by
  have he := next_dqsOscUpdate drift s hs.1 hon
  unfold Part.oscUpdate at he
  by_cases h : s.part.dmcTime 17 < drift
  · rw [if_pos h] at he
    refine completes_of_still he hs.2 ⟨fun ch rank hch hr => s.part.mem_dmcAllRanks hch hr, ?_, fun a ha => Part.reg_put_other _ _ _ ha, rfl⟩
    rw [if_pos h]
    exact Part.get_put_bit _ _ 3 1 (by decide)
  · rw [if_neg h] at he
    exact completes_of_still he hs.2 ⟨fun ch rank hch hr => s.part.mem_dmcAllRanks hch hr, (if_neg h).symm, fun _ _ => rfl, rfl⟩

/-! The Weeder (R473). -/

/-- The registers that a read of the Weeder may touch before it moves on. -/
def weedRegs : List Nat := chargeRegs ++ eccRegs

/-- The Weeder's read itself: its activates, its outcome, and the rewrite of a word it corrects. -/
def Part.weedRead (p : Part) (t : Nat) (o : EccOutcome) : Part :=
  let g := p.get F.DMC_WEED_POS_Q
  let n := if p.dmc.touched.contains g then 8 else 1
  let q := Part.activates (dramGroup p.dmcRanks g 0) n (p.issueRewrites t)
  let word := match o with
    | .clean => 0
    | .corrected w => w
    | .uncorrectable w => w
  let q := q.eccNote ((g * 7 + word / 8) * 64) 2 o
  match o with
  | .corrected _ => (q.modDmc (fun u => { u with rewrites := u.rewrites.dropLast })).dmcCharge t 0 1 false
  | _ => q

/-- The Weeder moves on to the next group, or begins again. -/
def Part.weedMove (q : Part) (t g groups : Nat) : Part :=
  if g + 1 < groups then q.put F.DMC_WEED_POS_Q (g + 1)
  else ((q.put F.DMC_WEED_POS_Q 0).add F.DMC_WEED_PASSES_COUNT 1).modDmc (fun u => { u with weedAt := t })

theorem Part.weed_eq (p : Part) (t : Nat) (o : EccOutcome) :
    p.weed t o = ((p.weedRead t o).weedMove t (p.get F.DMC_WEED_POS_Q) p.dmcGroups).weedLag t := rfl

theorem Part.DmcOnly.weedRead (p : Part) (t : Nat) (o : EccOutcome) : p.DmcOnly weedRegs (p.weedRead t o) := by
  have hcharge : chargeRegs ⊆ weedRegs := List.subset_append_left _ _
  have hecc : eccRegs ⊆ weedRegs := List.subset_append_right _ _
  unfold Part.weedRead
  extract_lets g n q word q'
  have hq : p.DmcOnly weedRegs q := ((Part.DmcOnly.issueRewrites p t).trans (.activates _ n _)).mono hcharge
  have hq' : p.DmcOnly weedRegs q' := hq.trans ((Part.DmcOnly.eccNote _ _ 2 o).mono hecc)
  split
  · exact (hq'.trans (.modDmc _ _ _)).trans ((Part.DmcOnly.dmcCharge_plain _ t 1 (by decide)).mono hcharge)
  · exact hq'

theorem Part.DmcOnly.weedLag (p : Part) (t : Nat) : p.DmcOnly [R.DMC_STATUS] (p.weedLag t) := by
  unfold Part.weedLag
  extract_lets want pos
  split
  · exact .put p _ _ (.head _)
  · split
    · exact .put p _ _ (.head _)
    · exact .refl _ p

/-- Where the move leaves the Weeder. -/
theorem Part.weedMove_spec (q : Part) (t g groups : Nat) : let r := q.weedMove t g groups
    (g + 1 < groups → r.get F.DMC_WEED_POS_Q = (g + 1) % 2 ^ 32 ∧ r.get F.DMC_WEED_PASSES_COUNT = q.get F.DMC_WEED_PASSES_COUNT) ∧
    (groups ≤ g + 1 → r.get F.DMC_WEED_POS_Q = 0 ∧ r.dmc.weedAt = t ∧
      r.get F.DMC_WEED_PASSES_COUNT = (q.get F.DMC_WEED_PASSES_COUNT + 1) % 2 ^ 32) ∧
    q.DmcOnly [R.DMC_WEED_POS, R.DMC_WEED_PASSES] r := by
  intro r
  by_cases h : g + 1 < groups
  · have hr : r = q.put F.DMC_WEED_POS_Q (g + 1) := if_pos h
    rw [hr]
    exact ⟨fun _ => ⟨Part.get_put_self q _ _ (by decide), Part.get_put_reg _ _ _ _ (by decide)⟩, fun h' => absurd h (by omega),
      .put q _ _ (.head _)⟩
  · obtain ⟨u, hu⟩ : ∃ u, q.put F.DMC_WEED_POS_Q 0 = u := ⟨_, rfl⟩
    have hr : r = (u.add F.DMC_WEED_PASSES_COUNT 1).modDmc (fun u => { u with weedAt := t }) := hu ▸ if_neg h
    have hput : q.DmcOnly [R.DMC_WEED_POS, R.DMC_WEED_PASSES] u := hu ▸ .put q _ _ (.head _)
    rw [hr]
    refine ⟨fun h' => absurd h' h, fun _ => ⟨?_, rfl, ?_⟩, (hput.trans (.put u _ _ (.tail _ (.head _)))).trans (.modDmc _ _ _)⟩
    · exact (Part.get_put_reg u _ _ _ (by decide)).trans (hu ▸ Part.get_put_self q _ _ (by decide))
    · refine (Part.get_put_self u _ _ (by decide)).trans ?_
      rw [show u.get F.DMC_WEED_PASSES_COUNT = q.get F.DMC_WEED_PASSES_COUNT from hu ▸ Part.get_put_reg q _ _ _ (by decide)]
      rfl

/-- A read of the Weeder. -/
theorem completes_weederRead (o : EccOutcome) {s : State} (hs : Ready s) (hdue : s.part.weedDue s.ns = true) :
    Completes (.weederRead o) s (fun t =>
    let g := s.part.get F.DMC_WEED_POS_Q
    (g + 1 < s.part.dmcGroups → t.part.get F.DMC_WEED_POS_Q = (g + 1) % 2 ^ 32 ∧
      t.part.get F.DMC_WEED_PASSES_COUNT = s.part.get F.DMC_WEED_PASSES_COUNT) ∧
    (s.part.dmcGroups ≤ g + 1 → t.part.get F.DMC_WEED_POS_Q = 0 ∧ t.part.dmc.weedAt = s.ns ∧
      t.part.get F.DMC_WEED_PASSES_COUNT = (s.part.get F.DMC_WEED_PASSES_COUNT + 1) % 2 ^ 32) ∧
    t.part.mem = s.part.mem ∧ ∀ a, a / 0x100000 ≠ 6 → t.part.reg a = s.part.reg a) := by
  have he := next_weederRead o s hs.1 hdue
  rw [Part.weed_eq] at he
  have hread := Part.DmcOnly.weedRead s.part s.ns o
  obtain ⟨q, hq⟩ : ∃ q, s.part.weedRead s.ns o = q := ⟨_, rfl⟩
  rw [hq] at he hread
  obtain ⟨hnext, hagain, hmove⟩ := q.weedMove_spec s.ns (s.part.get F.DMC_WEED_POS_Q) s.part.dmcGroups
  obtain ⟨r, hr⟩ : ∃ r, q.weedMove s.ns (s.part.get F.DMC_WEED_POS_Q) s.part.dmcGroups = r := ⟨_, rfl⟩
  rw [hr] at he hnext hagain hmove
  have hlag := Part.DmcOnly.weedLag r s.ns
  have hat : (r.weedLag s.ns).dmc.weedAt = r.dmc.weedAt := by
    unfold Part.weedLag
    extract_lets want pos
    split
    · rfl
    · split <;> rfl
  have hpasses : q.get F.DMC_WEED_PASSES_COUNT = s.part.get F.DMC_WEED_PASSES_COUNT := hread.get (by decide)
  rw [hpasses] at hnext hagain
  refine completes_of_still he ((hlag.sdl.trans (hmove.sdl.trans hread.sdl)).symm ▸ hs.2) ⟨fun h => ?_, fun h => ?_,
    hlag.mem.trans (hmove.mem.trans hread.mem), ?_⟩
  · exact ⟨(hlag.get (by decide)).trans (hnext h).1, (hlag.get (by decide)).trans (hnext h).2⟩
  · obtain ⟨hpos, hwhen, hcount⟩ := hagain h
    exact ⟨(hlag.get (by decide)).trans hpos, hat.trans hwhen, (hlag.get (by decide)).trans hcount⟩
  · exact ((hread.block (by decide)).trans (hmove.block (by decide))).trans (hlag.block (by decide))

/-! Wilt (R463, R465). -/

/-- The registers of a port and of a plot's lost Wilt are apart. -/
theorem dmcPort_reg_ne {r plot : Nat} (hplot : plot < 9) :
    R.DMC_RT_COUNT r ≠ R.DMC_RT_WILT r ∧ R.DMC_RT_WILT r ≠ R.DMC_WILT_DENIED plot ∧ R.DMC_RT_COUNT r ≠ R.DMC_WILT_DENIED plot ∧
      R.DMC_RT_WILT r ≠ R.DMC_EVENTS ∧ R.DMC_RT_COUNT r ≠ R.DMC_EVENTS ∧ R.DMC_WILT_DENIED plot ≠ R.DMC_EVENTS := by
  unfold R.DMC_RT_COUNT R.DMC_RT_WILT R.DMC_WILT_DENIED R.DMC_EVENTS
  omega

/-- A loss of Wilt priority is counted and shown. -/
theorem Part.wiltDenied_spec (p : Part) {k : Nat} (hk : k < 9) :
    (p.wiltDenied k).get (F.DMC_WILT_DENIED_COUNT k) = min (p.get (F.DMC_WILT_DENIED_COUNT k) + 1) 65535 ∧
      p.InRegs [R.DMC_WILT_DENIED k, R.DMC_EVENTS] (p.wiltDenied k) := by
  have hne : R.DMC_WILT_DENIED k ≠ R.DMC_EVENTS := (dmcPort_reg_ne (r := 0) hk).2.2.2.2.2
  have hcount := Part.get_addSat16 p (R.DMC_WILT_DENIED k) 1
  obtain ⟨q, hq⟩ : ∃ q, p.addSat (F.DMC_WILT_DENIED_COUNT k) 1 = q := ⟨_, rfl⟩
  rw [show p.addSat ⟨R.DMC_WILT_DENIED k, 15, 0⟩ 1 = q from hq] at hcount
  have hin : p.InRegs [R.DMC_WILT_DENIED k, R.DMC_EVENTS] q := hq ▸ (Part.InRegs.refl _ p).put (F.DMC_WILT_DENIED_COUNT k) _ (.head _)
  rw [Part.wiltDenied, hq]
  exact ⟨(Part.get_put_reg q _ _ _ hne).trans hcount, hin.put F.DMC_EVENTS_WILT_DENIED 1 (.tail _ (.head _))⟩

theorem Part.wiltRaise_eq (p : Part) (t r k : Nat) : p.wiltRaise t r k =
    if (p.dmcBucket t k).denied then ((p.set (F.DMC_RT_WILT_ASSERTED r)).add (F.DMC_RT_COUNT_COUNT r) 1).wiltDenied k
    else (p.set (F.DMC_RT_WILT_ASSERTED r)).add (F.DMC_RT_COUNT_COUNT r) 1 := rfl

/-- A port raises Wilt. -/
theorem completes_wiltRaise {r plot level : Nat} {s : State} (hs : Ready s) (hr : r < 19) (hplot : plot < 9) (hlevel : level < 101)
    (hrises : s.part.wiltRises r level = true) :
    let denied := (s.part.dmcBucket s.ns plot).denied
    Completes (.wiltRaise r plot level) s (fun t => t.part.get (F.DMC_RT_WILT_ASSERTED r) = 1 ∧
      t.part.get (F.DMC_RT_COUNT_COUNT r) = (s.part.get (F.DMC_RT_COUNT_COUNT r) + 1) % 2 ^ 32 ∧
      t.part.get (F.DMC_WILT_DENIED_COUNT plot) = min (s.part.get (F.DMC_WILT_DENIED_COUNT plot) + denied.toNat) 65535 ∧
      RegsOnly [R.DMC_RT_WILT r, R.DMC_RT_COUNT r, R.DMC_WILT_DENIED plot, R.DMC_EVENTS] s t) := by
  intro denied
  have he := next_wiltRaise r plot level s hs.1 (by simp [Instr.wf, hr, hplot, hlevel, hrises])
  obtain ⟨hports, hwilt, hcounts, hwiltEvents, hcountEvents, -⟩ := dmcPort_reg_ne (r := r) hplot
  obtain ⟨q, hq⟩ : ∃ q, (s.part.set (F.DMC_RT_WILT_ASSERTED r)).add (F.DMC_RT_COUNT_COUNT r) 1 = q := ⟨_, rfl⟩
  have hrest : s.part.InRegs [R.DMC_RT_WILT r, R.DMC_RT_COUNT r] q :=
    hq ▸ ((Part.InRegs.refl _ s.part).put _ _ (.head _)).put _ _ (.tail _ (.head _))
  have hasserted : q.get (F.DMC_RT_WILT_ASSERTED r) = 1 :=
    hq ▸ (Part.get_put_reg _ _ _ _ hports.symm).trans (Part.get_put_bit _ _ 16 1 (by decide))
  have hcount : q.get (F.DMC_RT_COUNT_COUNT r) = (s.part.get (F.DMC_RT_COUNT_COUNT r) + 1) % 2 ^ 32 := by
    rw [← hq]
    refine (Part.get_add_word _ _ 1).trans ?_
    rw [show (s.part.set (F.DMC_RT_WILT_ASSERTED r)).get ⟨R.DMC_RT_COUNT r, 31, 0⟩ = s.part.get (F.DMC_RT_COUNT_COUNT r) from
      Part.get_put_reg _ _ _ _ hports]
  have hdenied : q.get (F.DMC_WILT_DENIED_COUNT plot) = s.part.get (F.DMC_WILT_DENIED_COUNT plot) :=
    hrest.get (List.not_mem_cons_of_ne_of_not_mem hwilt.symm (List.not_mem_cons_of_ne_of_not_mem hcounts.symm List.not_mem_nil))
  rw [Part.wiltRaise_eq, hq] at he
  by_cases hd : denied = true
  · rw [if_pos hd] at he
    obtain ⟨hlost, hloss⟩ := q.wiltDenied_spec hplot
    have hall := (hrest.mono (l' := [R.DMC_RT_WILT r, R.DMC_RT_COUNT r, R.DMC_WILT_DENIED plot, R.DMC_EVENTS]) (by simp)).trans
      (hloss.mono (by simp))
    refine completes_of_still he (hall.sdl ▸ hs.2) ⟨(hloss.get ?_).trans hasserted, (hloss.get ?_).trans hcount, ?_, hall.claim⟩
    · exact List.not_mem_cons_of_ne_of_not_mem hwilt (List.not_mem_cons_of_ne_of_not_mem hwiltEvents List.not_mem_nil)
    · exact List.not_mem_cons_of_ne_of_not_mem hcounts (List.not_mem_cons_of_ne_of_not_mem hcountEvents List.not_mem_nil)
    · rw [hd, ← hdenied]
      exact hlost
  · have hsmall : s.part.get (F.DMC_WILT_DENIED_COUNT plot) < 65536 := s.part.get_lt _
    have hd' : denied = false := Bool.eq_false_iff.mpr hd
    rw [if_neg hd] at he
    refine completes_of_still he (hrest.sdl ▸ hs.2) ⟨hasserted, hcount, ?_, (hrest.mono (by simp)).claim⟩
    rw [hd', hdenied]
    simp only [Bool.toNat_false]
    omega

/-- A port drops Wilt while another asserts it. -/
theorem completes_wiltDrop {r x level : Nat} {s : State} (hs : Ready s) (hr : r < 19) (hlevel : level < 101)
    (hfalls : s.part.wiltFalls r level = true) (hx : x < 19) (hne : x ≠ r) (hother : s.part.get (F.DMC_RT_WILT_ASSERTED x) = 1) :
    Completes (.wiltDrop r level) s (fun t => t.part.get (F.DMC_RT_WILT_ASSERTED r) = 0 ∧ RegsOnly [R.DMC_RT_WILT r] s t) := by
  have he := next_wiltDrop r level s hs.1 (by simp [Instr.wf, hr, hlevel, hfalls])
  have hreg : R.DMC_RT_WILT x ≠ R.DMC_RT_WILT r := by unfold R.DMC_RT_WILT; omega
  have hany : (List.range 19).any (fun y => (s.part.clr (F.DMC_RT_WILT_ASSERTED r)).on (F.DMC_RT_WILT_ASSERTED y)) = true :=
    List.any_eq_true.mpr ⟨x, List.mem_range.mpr hx, (Part.on_iff _ _).mpr ((Part.get_put_reg _ _ _ _ hreg).trans hother)⟩
  rw [show s.part.wiltDrop r = s.part.clr (F.DMC_RT_WILT_ASSERTED r) from if_pos hany] at he
  exact completes_of_still he hs.2 ⟨Part.get_put_bit _ _ 16 0 (by decide), ((Part.InRegs.refl [R.DMC_RT_WILT r] s.part).put
    (F.DMC_RT_WILT_ASSERTED r) 0 (.head _)).claim⟩

/-! NBR_K (R472). -/

/-- Plot 0 firmware's write of DMC_CTRL that changes NBR_K alone. -/
theorem Part.writeOf_nbrK (p : Part) (t : Nat) {w : Who} (hk : w.kind ≠ .host) (hp : w.plot = 0) {k : Nat} (h16 : k < 16) :
    ∃ q, p.InRegs [] q ∧ p.writeOf t w R.DMC_CTRL ((p.reg R.DMC_CTRL).withBits 7 4 k) = q.nbrWrite k := by
  have hrow : regAt R.DMC_CTRL = some (⟨0x0, 1, 0x0, 1, 0x0, [⟨0, 0, .rw, 0⟩, ⟨1, 1, .rw, 0⟩, ⟨2, 2, .rw, 0⟩, ⟨7, 4, .rw, 0xB⟩]⟩, 0, 0) := by
    decide
  obtain ⟨v, hv⟩ : ∃ v, (p.reg R.DMC_CTRL).withBits 7 4 k = v := ⟨_, rfl⟩
  have hbit (i : Nat) (hi : i < 4) : v.bits i i = p.get ⟨R.DMC_CTRL, i, i⟩ := hv ▸ Word.withBits_bits_other _ _ (.inl hi)
  have hnew : v.bits 7 4 = k := hv ▸ (Word.withBits_bits_self _ _ (by decide)).trans (Nat.mod_eq_of_lt h16)
  have h1 := Part.InRegs.of_put_get p (hbit 0 (by decide))
  have h2 := h1.trans (Part.InRegs.of_put_get _ ((hbit 1 (by decide)).trans (h1.get (by simp)).symm))
  have h3 := h2.trans (Part.InRegs.of_put_get _ ((hbit 2 (by decide)).trans (h2.get (by simp)).symm))
  refine ⟨_, h3, ?_⟩
  rw [hv, p.writeOf_firmware t v hk hp (by decide) (by decide) (by decide) (by decide)]
  refine Part.regStore_mid (b := 6) (key := R.DMC_CTRL) (by decide) (.inr rfl) hrow rfl ?_
  rw [Part.writeMid]
  iterate 6 rw [if_neg (by decide)]
  rw [if_pos rfl, hnew]
  rfl

/-- A write of NBR_K. -/
theorem completes_dmcNbrKWrite {w : Who} {k : Nat} {s : State} (hs : Ready s) (hw : Firmware s w) (hk : k < 16) :
    Completes (.dmcNbrKWrite w k) s (fun t =>
    t.part.get F.DMC_CTRL_NBR_K = (if 8 ≤ k ∧ k ≤ 14 then k else s.part.get F.DMC_CTRL_NBR_K) ∧
    t.part.get F.DMC_CTRL_EN = s.part.get F.DMC_CTRL_EN ∧ t.part.get F.DMC_CTRL_WEED_EN = s.part.get F.DMC_CTRL_WEED_EN ∧
    t.part.get F.DMC_CTRL_RFM_ALWAYS = s.part.get F.DMC_CTRL_RFM_ALWAYS ∧ RegsOnly [R.DMC_CTRL] s t) := by
  obtain ⟨hkind, hplot, hup⟩ := hw
  have he := next_dmcNbrKWrite w k s hs.1 (by simp [Instr.wf, hk, Part.issues, hplot, hup, hkind])
  obtain ⟨q, hq, hwrite⟩ := s.part.writeOf_nbrK s.ns hkind hplot hk
  rw [hwrite, Part.nbrWrite] at he
  by_cases h : 8 ≤ k ∧ k ≤ 14
  · rw [if_pos h] at he
    have hkeep (f : Fld) (hf : f.hi < 4) : (q.put F.DMC_CTRL_NBR_K k).get f = s.part.get f :=
      (Part.get_put_disjoint _ _ _ _ (.inl hf)).trans (hq.get (by simp))
    have hall := (hq.mono (l' := [R.DMC_CTRL]) (by simp)).put F.DMC_CTRL_NBR_K k (.head _)
    refine completes_of_still he (hall.sdl ▸ hs.2) ⟨?_, hkeep _ (by decide), hkeep _ (by decide), hkeep _ (by decide), hall.claim⟩
    rw [if_pos h]
    exact (Part.get_put_self q _ _ (by decide)).trans (Nat.mod_eq_of_lt hk)
  · rw [if_neg h] at he
    refine completes_of_still he (hq.sdl ▸ hs.2) ⟨?_, hq.get (by simp), hq.get (by simp), hq.get (by simp), (hq.mono (by simp)).claim⟩
    rw [if_neg h]
    exact hq.get (by simp)

/-- Settles O46: the three of refresh, the Weeder with Wilt, and NBR_K. -/
theorem refreshWeederWilt : Obligations.RefreshWeederWilt :=
  ⟨⟨fun _ _ wilt _ hs hch hrank hruns _ => completes_refreshDue wilt hs hch hrank hruns,
    fun s hs hon => completes_of_still (next_zqLatch s hs.1 hon) hs.2 ⟨fun _ _ hch hr => s.part.mem_dmcAllRanks hch hr, rfl⟩,
    fun drift _ hs hon => completes_dqsOscUpdate drift hs hon⟩,
   ⟨fun o _ hs hdue => completes_weederRead o hs hdue,
    fun _ _ _ _ hs hr hplot hlevel hrises => completes_wiltRaise hs hr hplot hlevel hrises,
    fun _ _ _ _ hs hr hlevel hfalls hx hne hother => completes_wiltDrop hs hr hlevel hfalls hx hne hother⟩,
   fun _ _ _ hs hw hk => completes_dmcNbrKWrite hs hw hk⟩

end Sys2Proof.Machine
end


section
/-! SUPPORT. Accesses of DRAM (R453, R454, R458): a write, a partial write that fails and its orphan (R619, R620), and a read. -/

namespace Sys2Proof.Machine

open Sys2Proof.Claim

/-! An orphan leaves memory and the controller's registers (R454). -/

/-- `q` holds the memory of `p`, its registers of the DRAM controller, and its pending step of the Sundial. -/
def Part.KeepsDram (p q : Part) : Prop := q.mem = p.mem ∧ q.sdl = p.sdl ∧ ∀ a, a / 0x100000 = 6 → q.reg a = p.reg a

section
variable {p q : Part}

theorem Part.KeepsDram.refl (p : Part) : p.KeepsDram p := ⟨rfl, rfl, fun _ _ => rfl⟩

theorem Part.KeepsDram.trans {r : Part} (h : p.KeepsDram q) (k : q.KeepsDram r) : p.KeepsDram r :=
  ⟨k.1.trans h.1, k.2.1.trans h.2.1, fun a ha => (k.2.2 a ha).trans (h.2.2 a ha)⟩

theorem Part.KeepsDram.put (p : Part) (f : Fld) (n : Nat) (hf : f.reg / 0x100000 ≠ 6) : p.KeepsDram (p.put f n) :=
  ⟨rfl, rfl, fun _ ha => Part.reg_put_other _ _ _ fun h => hf (h ▸ ha)⟩

theorem Part.KeepsDram.of_faultUnit (h : p.FaultUnitOnly q) : p.KeepsDram q :=
  ⟨by rw [h.1], h.sdl, fun a ha => h.2 a (by omega)⟩

theorem Part.KeepsDram.of_records (h : p.RecordsOnly q) : p.KeepsDram q := ⟨h.mem, h.sdl, fun a ha => h.2 a (by omega)⟩

end

theorem flt_orph_log_block {head k : Nat} (hk : k < 8) : R.FLT_ORPH_LOG (head % 256 * 8 + k) / 0x100000 = 18 := by
  unfold R.FLT_ORPH_LOG
  omega

theorem Part.KeepsDram.orphanLog (p : Part) (t : Nat) (o : Orphan) : p.KeepsDram (p.orphanLog t o) := by
  unfold Part.orphanLog
  extract_lets head q1 q2 q3
  have h1 : p.FaultUnitOnly q1 := .logWords p _ _ _ fun k hk => flt_orph_log_block hk
  have h2 : p.FaultUnitOnly q2 := h1.trans (.put _ _ _ (by decide))
  have h3 : p.FaultUnitOnly q3 := by
    show p.FaultUnitOnly (q2.iff _ _)
    unfold Part.iff
    split
    · exact h2.trans ((Part.FaultUnitOnly.put _ _ _ (by decide)).trans (.fltEvent _ 6))
    · exact h2
  exact .trans (.of_faultUnit (h3.trans (.fltEvent _ 2))) ⟨rfl, rfl, fun _ _ => rfl⟩

theorem Part.KeepsDram.cull (p : Part) (t : Nat) {plot : Nat} (hplot : plot < 9) (cause : Nat) (c : JobCtx) (pairs : List (Nat × Nat × Nat)) :
    p.KeepsDram (p.cull t plot cause c pairs) := by
  unfold Part.cull
  extract_lets hits
  exact .of_records (.form p t plot _ _ hplot)

section
variable (p : Part) (t : Nat) {o : Orphan} (index : Nat) (ho : o.plot < 9)
include ho

theorem Part.KeepsDram.lateError (seq : Nat) (c : JobCtx) : p.KeepsDram (p.lateError t o index seq c) :=
  .of_records (.form p t o.plot _ _ ho)

theorem Part.KeepsDram.latePair (c : JobCtx) : p.KeepsDram (p.latePair t o index c) := by
  unfold Part.latePair
  exact (Part.KeepsDram.lateError p t index ho _ c).trans (.cull _ t ho 9 c [])

theorem Part.KeepsDram.latePicture (w : Writer) : p.KeepsDram (p.latePicture t o index w) := by
  unfold Part.latePicture
  extract_lets took mine q1 q2
  have hfold (l : List PastJob) (q : Part) : q.KeepsDram (l.foldl (fun (q : Part) j => q.latePair t o index j.ctx) q) := by
    induction l generalizing q with
    | nil => exact .refl q
    | cons j l ih => exact (Part.KeepsDram.latePair q t index ho j.ctx).trans (ih _)
  have h2 : p.KeepsDram q2 := (hfold _ p).trans (.put q1 _ _ (by decide))
  split
  · exact h2.trans ⟨rfl, rfl, fun _ _ => rfl⟩
  · exact h2

end

theorem Part.KeepsDram.raiseFault (p : Part) (job : Option Nat) (plot cause seq : Nat) : p.KeepsDram (p.raiseFault job plot cause seq) := by
  unfold Part.raiseFault
  split
  · exact .refl p
  · exact ⟨rfl, rfl, fun _ _ => rfl⟩

theorem Part.KeepsDram.orphan (p : Part) (t kind : Nat) (w : Writer) (addr : Nat) : p.KeepsDram (p.orphan t kind w addr) := by
  have hplot := w.plot.isLt
  unfold Part.orphan
  extract_lets k o index q
  have ho : o.plot < 9 := hplot
  have hq : p.KeepsDram q := .orphanLog p t o
  split
  · refine .put p _ _ ?_
    show R.PLT_DRAIN_FAULTS k / 0x100000 ≠ 6
    unfold R.PLT_DRAIN_FAULTS
    omega
  · split
    · exact hq.trans (.latePicture q t index ho w)
    · split
      · exact hq.trans (.lateError q t index ho _ _)
      · split
        · split
          · split
            · exact hq.trans (.latePair q t index ho _)
            · exact hq
          · exact hq.trans (.raiseFault q _ _ _ _)
        · split
          · exact hq.trans (.latePair q t index ho _)
          · exact hq.trans (.put q _ _ (by decide))

/-! A write (R453, R454, R457). -/

/-- The registers that an access may touch. -/
def accessRegs : List Nat := deniedRegs ++ eccRegs

theorem denied_subset_access : deniedRegs ⊆ accessRegs := List.subset_append_left _ _
theorem charge_subset_access : chargeRegs ⊆ accessRegs := fun _ h => denied_subset_access (chargeRegs_subset h)
theorem ecc_subset_access : eccRegs ⊆ accessRegs := List.subset_append_right _ _

/-- The group of a write has not been written since it was cleared (R457). -/
def Part.groupCleared (p : Part) (k a : Nat) : Bool := !p.dmc.touched.contains (dramAt p.dmcRanks (p.sysAddr k a)).q

/-- A write's charge, before its outcome: waiting rewrites first, then its own bursts through the check cache. -/
def Part.writeCharged (p : Part) (t : Nat) (w : Writer) (port : Option Nat) (a : Nat) (data : List Byte) : Part :=
  let k := w.plot.val
  let sys := p.sysAddr k a
  let unit := sys / 64
  let d := dramAt p.dmcRanks sys
  let whole := data.length == 64
  let cleared := !p.dmc.touched.contains d.q
  let q := p.modDmc (fun u => { u with
    rewrites := u.rewrites.filter (· != unit),
    ahead := u.ahead.map (fun e => (e.1, e.2.filter (· != unit))) })
  let q := q.issueRewrites t
  let c := q.checkCache d true
  let bursts := 1 + c.1 + (if cleared then 6 else 0) + (if whole || cleared then 0 else 1)
  let wilt := match port with
    | some r => c.2.on (F.DMC_RT_WILT_ASSERTED r)
    | none => false
  (Part.activates d bursts c.2).dmcCharge t k bursts wilt

/-- A write whose merge holds is performed on memory. -/
def Part.writePerformed (q : Part) (k a unit g : Nat) (cleared : Bool) (data : List Byte) : Part :=
  let q := q.modDmc (fun u => { u with
    rewrites := u.rewrites.filter (· != unit), touched := if cleared then g :: u.touched else u.touched })
  match q.memKeys k a data.length true with
  | some ks => q.storeAt ks data
  | none => q

/-- The outcome of the merge that a write needs: none, where it covers its unit or its group is cleared. -/
def Part.mergeOutcome (p : Part) (k a : Nat) (data : List Byte) (merge : EccOutcome) : EccOutcome :=
  if data.length == 64 || p.groupCleared k a then .clean else merge

theorem Part.dramWrite_eq (p : Part) (t : Nat) (w : Writer) (port : Option Nat) (a : Nat) (data : List Byte) (merge : EccOutcome) :
    p.dramWrite t w port a data merge =
      let k := w.plot.val
      let sys := p.sysAddr k a
      let q := (p.writeCharged t w port a data).eccNote sys 1 (p.mergeOutcome k a data merge)
      match p.mergeOutcome k a data merge with
      | .uncorrectable _ =>
        q.orphan t (if w.kind == .decode && (p.dec w.stream).pics.any (fun x => x.gen == w.gen && x.complete) then 2 else 1) w a
      | _ => q.writePerformed k a (sys / 64) (dramAt p.dmcRanks sys).q (p.groupCleared k a) data := rfl

theorem Part.DmcOnly.checkCache (l : List Nat) (p : Part) (d : DramAt) (write : Bool) : p.DmcOnly l (p.checkCache d write).2 := ⟨rfl, fun _ _ => rfl⟩

theorem Part.DmcOnly.writeCharged (p : Part) (t : Nat) (w : Writer) (port : Option Nat) (a : Nat) (data : List Byte) :
    p.DmcOnly deniedRegs (p.writeCharged t w port a data) := by
  unfold Part.writeCharged
  extract_lets k sys unit d whole cleared q1 q2 c bursts wilt
  have h2 : p.DmcOnly deniedRegs q2 := (Part.DmcOnly.modDmc p _ _).trans ((Part.DmcOnly.issueRewrites q1 t).mono chargeRegs_subset)
  have hc : p.DmcOnly deniedRegs c.2 := h2.trans (.checkCache _ q2 d true)
  exact (hc.trans ((Part.DmcOnly.activates d bursts _).mono chargeRegs_subset)).trans (.dmcCharge _ t bursts wilt w.plot.isLt)

/-- A write is performed: its bytes stand at its keys, and no other byte changes. -/
theorem completes_dramWrite {w : Writer} {port : Option Nat} {a : Nat} {data : List Byte} {merge : EccOutcome} {ks : List Nat} {s : State}
    (hs : Ready s) (hfits : s.part.writeFits w port a data = true) (hks : s.part.memKeys w.plot.val a data.length true = some ks)
    (hnodup : ks.Nodup) (hmerge : data.length = 64 ∨ ∀ x, merge ≠ .uncorrectable x) :
    Completes (.dramWriteAccept w port a data merge) s (fun t =>
      (∀ (i k : Nat), ks[i]? = some k → some (t.part.byte k) = data[i]?) ∧ (∀ k, k ∉ ks → t.part.byte k = s.part.byte k) ∧
      (∀ r, r / 0x100000 ≠ 6 → t.part.reg r = s.part.reg r) ∧ t.sun = s.sun) := by
  have he := next_dramWriteAccept w port a data merge s hs.1 hfits
  rw [Part.dramWrite_eq] at he
  simp only at he
  have hgood : ∀ x, s.part.mergeOutcome w.plot.val a data merge ≠ .uncorrectable x := by
    intro x
    unfold Part.mergeOutcome
    split
    · exact fun h => nomatch h
    · next hpart => exact hmerge.resolve_left (fun h => hpart (by simp [h])) x
  obtain ⟨o, ho⟩ : ∃ o, s.part.mergeOutcome w.plot.val a data merge = o := ⟨_, rfl⟩
  rw [ho] at he hgood
  obtain ⟨q, hq⟩ : ∃ q, (s.part.writeCharged s.ns w port a data).eccNote (s.part.sysAddr w.plot.val a) 1 o = q := ⟨_, rfl⟩
  have hcharged : s.part.DmcOnly accessRegs q :=
    hq ▸ ((Part.DmcOnly.writeCharged s.part s.ns w port a data).mono denied_subset_access).trans ((Part.DmcOnly.eccNote _ _ 1 o).mono ecc_subset_access)
  rw [hq] at he
  obtain ⟨f, hf⟩ : ∃ f : DmcUnit → DmcUnit, q.writePerformed w.plot.val a (s.part.sysAddr w.plot.val a / 64)
      (dramAt s.part.dmcRanks (s.part.sysAddr w.plot.val a)).q (s.part.groupCleared w.plot.val a) data =
        (match (q.modDmc f).memKeys w.plot.val a data.length true with
          | some ks => (q.modDmc f).storeAt ks data
          | none => q.modDmc f) := ⟨_, rfl⟩
  obtain ⟨r, hr⟩ : ∃ r, q.modDmc f = r := ⟨_, rfl⟩
  have hall : s.part.DmcOnly accessRegs r := hr ▸ hcharged.trans (.modDmc q _ f)
  have hlow : ∀ x ∈ accessRegs, x < 0x1300000 := by decide
  rw [hr, (hall.sameMap hlow).memKeys, hks] at hf
  have hperformed : exec (.dramWriteAccept w port a data merge) s = .next (s.settle (r.storeAt ks data)) := by
    cases o with
    | uncorrectable x => exact absurd rfl (hgood x)
    | clean => exact he.trans (congrArg (fun p => Host.Outcome.next (s.settle p)) hf)
    | corrected x => exact he.trans (congrArg (fun p => Host.Outcome.next (s.settle p)) hf)
  obtain ⟨hstored, hkept⟩ := r.storeAt_spec ((Part.memKeys_length hks).trans rfl) hnodup
  have hbyte (k : Nat) : r.byte k = s.part.byte k := by rw [Part.byte, Part.byte, hall.mem]
  exact completes_of_still hperformed (hall.sdl ▸ hs.2) ⟨hstored, fun k hk => (hkept k hk).trans (hbyte k), hall.block (by decide), rfl⟩

/-- A partial write whose read stays uncorrectable leaves memory, and is counted. -/
theorem completes_dramWrite_failed {w : Writer} {port : Option Nat} {a x : Nat} {data : List Byte} {s : State} (hs : Ready s)
    (hfits : s.part.writeFits w port a data = true) (hpart : data.length ≠ 64)
    (htouched : s.part.dmc.touched.contains (dramAt s.part.dmcRanks (s.part.sysAddr w.plot.val a)).q = true) :
    Completes (.dramWriteAccept w port a data (.uncorrectable x)) s (fun t => t.part.mem = s.part.mem ∧
      t.part.get F.DMC_UE_COUNT_COUNT = min (s.part.get F.DMC_UE_COUNT_COUNT + 1) 65535 ∧ t.part.get F.DMC_EVENTS_UE = 1) := by
  have he := next_dramWriteAccept w port a data (.uncorrectable x) s hs.1 hfits
  have ho : s.part.mergeOutcome w.plot.val a data (.uncorrectable x) = .uncorrectable x := by
    unfold Part.mergeOutcome Part.groupCleared
    rw [htouched]
    exact if_neg (by simp [hpart])
  rw [Part.dramWrite_eq] at he
  simp only [ho] at he
  have hcharged := Part.DmcOnly.writeCharged s.part s.ns w port a data
  obtain ⟨q, hq⟩ : ∃ q, s.part.writeCharged s.ns w port a data = q := ⟨_, rfl⟩
  rw [hq] at he hcharged
  obtain ⟨hecc, hcount, hevent⟩ := q.eccNote_uncorrectable (s.part.sysAddr w.plot.val a) 1 x
  have hbefore : q.get F.DMC_UE_COUNT_COUNT = s.part.get F.DMC_UE_COUNT_COUNT := hcharged.get (by decide)
  obtain ⟨r, hr⟩ : ∃ r, q.eccNote (s.part.sysAddr w.plot.val a) 1 (.uncorrectable x) = r := ⟨_, rfl⟩
  simp only [hr] at he hecc hcount hevent
  obtain ⟨hmem, hsdl, hregs⟩ := Part.KeepsDram.orphan r s.ns
    (if w.kind == .decode && (s.part.dec w.stream).pics.any (fun x => x.gen == w.gen && x.complete) then 2 else 1) w a
  have hget (f : Fld) (hf : f.reg / 0x100000 = 6) : (r.orphan s.ns _ w a).get f = r.get f := congrArg (Word.bits · f.hi f.lo) (hregs f.reg hf)
  refine completes_of_still he ((hsdl.trans (hecc.sdl.trans hcharged.sdl)).symm ▸ hs.2) ⟨hmem.trans (hecc.mem.trans hcharged.mem),
    (hget _ (by decide)).trans (hcount.trans (by rw [hbefore])), (hget _ (by decide)).trans hevent⟩

/-! A read (R455, R458). -/

/-- A read's charge, before its outcome. -/
def Part.readCharged (p : Part) (t : Nat) (r : Reader) (a : Nat) : Part :=
  let k := r.plot.val
  let sys := p.sysAddr k a
  let d := dramAt p.dmcRanks sys
  let hit := match r.port with
    | some x => (FMap.get (fun _ => []) p.dmc.ahead x).contains (sys / 64)
    | none => false
  let q := p.issueRewrites t
  let wilt := match r.port with
    | some x => q.on (F.DMC_RT_WILT_ASSERTED x)
    | none => false
  if hit then
    q.modDmc (fun u => { u with ahead := u.ahead.map (fun e => if some e.1 = r.port then (e.1, e.2.filter (· != sys / 64)) else e) })
  else
    let c := q.checkCache d false
    let n := (if p.dmc.touched.contains d.q then 1 else 0) + c.1
    (Part.activates d n c.2).dmcCharge t k n wilt

/-- A read's run-ahead, once its outcome is noted. -/
def Part.readFollowed (q : Part) (t : Nat) (r : Reader) (a : Nat) (ahead : Bool) : Part :=
  match r.port with
  | some x => if ahead && decide (9 ≤ x ∧ x < 19) then q.readAhead t r.plot.val x (a / 64 * 64 + 64) else q
  | none => q

/-- A read whose data can be used: its charge, its outcome, its run-ahead. -/
theorem Part.dramRead_usable (p : Part) (t : Nat) (r : Reader) (a : Nat) {o : EccOutcome} (ahead served : Bool)
    (ho : ∀ x, o ≠ .uncorrectable x) :
    ∃ source, p.dramRead t r a o ahead served = ((p.readCharged t r a).eccNote (p.sysAddr r.plot.val a) source o).readFollowed t r a ahead := by
  cases o with
  | uncorrectable x => exact absurd rfl (ho x)
  | clean => exact ⟨_, rfl⟩
  | corrected x => exact ⟨_, rfl⟩

theorem Part.DmcOnly.readCharged (p : Part) (t : Nat) (r : Reader) (a : Nat) : p.DmcOnly deniedRegs (p.readCharged t r a) := by
  unfold Part.readCharged
  extract_lets k sys d hit q wilt c n
  have hq : p.DmcOnly deniedRegs q := (Part.DmcOnly.issueRewrites p t).mono chargeRegs_subset
  split
  · exact hq.trans (.modDmc _ _ _)
  · have hc : p.DmcOnly deniedRegs c.2 := hq.trans (.checkCache _ q d false)
    exact (hc.trans ((Part.DmcOnly.activates d n _).mono chargeRegs_subset)).trans (.dmcCharge _ t n wilt r.plot.isLt)

theorem Part.DmcOnly.readFollowed (q : Part) (t : Nat) (r : Reader) (a : Nat) (ahead : Bool) :
    q.DmcOnly chargeRegs (q.readFollowed t r a ahead) := by
  unfold Part.readFollowed
  split
  · split
    · unfold Part.readAhead
      extract_lets sys d c q'
      have hc : q.DmcOnly chargeRegs c.2 := .checkCache _ q d false
      exact ((hc.trans (.activates d _ _)).trans (.dmcCharge_plain _ t _ r.plot.isLt)).trans (.modDmc _ _ _)
    · exact .refl _ q
  · exact .refl _ q

/-- A read that meets no error, or a corrected one, changes no byte. -/
theorem completes_dramRead {r : Reader} {a : Nat} {o : EccOutcome} (ahead served : Bool) {s : State} (hs : Ready s)
    (hfits : s.part.readFits r a = true) (ho : ∀ x, o ≠ .uncorrectable x) :
    Completes (.dramReadReturn r a o ahead served) s (fun t => t.part.mem = s.part.mem ∧
      t.part.get F.DMC_UE_COUNT_COUNT = s.part.get F.DMC_UE_COUNT_COUNT ∧
      (o = .clean → t.part.get F.DMC_CE_COUNT_COUNT = s.part.get F.DMC_CE_COUNT_COUNT) ∧
      (∀ x, o = .corrected x → x < 56 → t.part.get F.DMC_CE_COUNT_COUNT = min (s.part.get F.DMC_CE_COUNT_COUNT + 1) 65535 ∧
        t.part.get F.DMC_EVENTS_CE = 1 ∧ t.part.get F.DMC_ERR_INFO_UE = 0 ∧ t.part.get F.DMC_ERR_INFO_WORD = x) ∧
      (∀ b, b / 0x100000 ≠ 6 → t.part.reg b = s.part.reg b) ∧ t.sun = s.sun) := by
  have he := next_dramReadReturn r a o ahead served s hs.1 hfits
  obtain ⟨source, heff⟩ := s.part.dramRead_usable s.ns r a ahead served ho
  rw [heff] at he
  have hcharged := Part.DmcOnly.readCharged s.part s.ns r a
  obtain ⟨q, hq⟩ : ∃ q, s.part.readCharged s.ns r a = q := ⟨_, rfl⟩
  rw [hq] at he hcharged
  have hce : q.get F.DMC_CE_COUNT_COUNT = s.part.get F.DMC_CE_COUNT_COUNT := hcharged.get (by decide)
  have hue : q.get F.DMC_UE_COUNT_COUNT = s.part.get F.DMC_UE_COUNT_COUNT := hcharged.get (by decide)
  have hecc := Part.DmcOnly.eccNote q (s.part.sysAddr r.plot.val a) source o
  have hcorrected (x : Nat) := q.eccNote_corrected (s.part.sysAddr r.plot.val a) source x
  obtain ⟨u, hu⟩ : ∃ u, q.eccNote (s.part.sysAddr r.plot.val a) source o = u := ⟨_, rfl⟩
  rw [hu] at he hecc
  have hahead := Part.DmcOnly.readFollowed u s.ns r a ahead
  have hall := ((hcharged.mono denied_subset_access).trans (hecc.mono ecc_subset_access)).trans (hahead.mono charge_subset_access)
  refine completes_of_still he (hall.sdl ▸ hs.2) ⟨hall.mem, (hahead.get (by decide)).trans ?_, fun hclean => (hahead.get (by decide)).trans ?_,
    fun x hx h56 => ?_, hall.block (by decide), rfl⟩
  · cases o with
    | clean => exact (congrArg (Part.get · _) hu).symm.trans hue
    | corrected x => exact (congrArg (Part.get · _) hu).symm.trans ((hcorrected x).2.1.trans hue)
    | uncorrectable x => exact absurd rfl (ho x)
  · rw [hclean] at hu
    exact (congrArg (Part.get · _) hu).symm.trans hce
  · have h := hcorrected x
    simp only at h
    rw [← hx, hu, hce] at h
    obtain ⟨-, -, hcount, hevent, herr, hword⟩ := h
    exact ⟨(hahead.get (by decide)).trans hcount, (hahead.get (by decide)).trans hevent, (hahead.get (by decide)).trans herr,
      (hahead.get (by decide)).trans (hword.trans (Nat.mod_eq_of_lt (by omega)))⟩

/-- Settles O44: a write performed, a partial write that fails, and a read. -/
theorem dramAccessesComplete : Obligations.DramAccessesComplete :=
  ⟨fun _ _ _ _ _ _ _ hs hfits hks hnodup hmerge => completes_dramWrite hs hfits hks hnodup hmerge,
    fun _ _ _ _ _ _ hs hfits hpart htouched => completes_dramWrite_failed hs hfits hpart htouched,
    fun _ _ _ ahead served _ hs hfits ho => completes_dramRead ahead served hs hfits ho⟩

end Sys2Proof.Machine
end


section
/-! SUPPORT. Trellis (18_trellis): what sending a frame, dropping one and losing a link may touch. -/

namespace Sys2Proof.Machine

open Sys2Proof.Claim

/-- `q` is `p` but for the registers listed, the link keys in use, and Trellis's unit without its ports. -/
def Part.SendsOnly (l : List Nat) (p q : Part) : Prop :=
  q = { p with regs := q.regs, trl := q.trl, key := q.key } ∧ q.trl.ports = p.trl.ports ∧ p.RegsWithin l q

section
variable {l : List Nat} {p q : Part}

theorem Part.SendsOnly.refl (l : List Nat) (p : Part) : p.SendsOnly l p := ⟨rfl, rfl, .refl l p⟩

theorem Part.SendsOnly.trans {r : Part} (h : p.SendsOnly l q) (k : q.SendsOnly l r) : p.SendsOnly l r :=
  ⟨by rw [k.1, h.1], k.2.1.trans h.2.1, h.2.2.trans k.2.2⟩

theorem Part.SendsOnly.mono {l' : List Nat} (h : p.SendsOnly l q) (hl : l ⊆ l') : p.SendsOnly l' q := ⟨h.1, h.2.1, h.2.2.mono hl⟩

theorem Part.SendsOnly.put (p : Part) (f : Fld) (n : Nat) (hf : f.reg ∈ l) : p.SendsOnly l (p.put f n) :=
  ⟨rfl, rfl, (Part.RegsWithin.refl l p).put f n hf⟩

theorem Part.SendsOnly.put64 (p : Part) (lo hi : Fld) (n : Nat) (hlo : lo.reg ∈ l) (hhi : hi.reg ∈ l) : p.SendsOnly l (p.put64 lo hi n) :=
  (Part.SendsOnly.put p lo n hlo).trans (.put _ hi _ hhi)

theorem Part.SendsOnly.modTrl (p : Part) (f : TrlUnit → TrlUnit) (hf : (f p.trl).ports = p.trl.ports) : p.SendsOnly l (p.modTrl f) :=
  ⟨rfl, hf, fun _ _ => rfl⟩

theorem Part.SendsOnly.get (h : p.SendsOnly l q) {f : Fld} (hf : f.reg ∉ l) : q.get f = p.get f := h.2.2.get hf

theorem Part.SendsOnly.tport (h : p.SendsOnly l q) (k : Nat) : q.tport k = p.tport k := by
  unfold Part.tport
  rw [h.2.1]

theorem Part.SendsOnly.sdl (h : p.SendsOnly l q) : q.sdl = p.sdl := by rw [h.1]

end

/-! Drops and frames sent (R519, R534, R535). -/

theorem Part.SendsOnly.trlDrop (p : Part) (cause node plot : Nat) :
    p.SendsOnly [R.TRL_RX_DROP, R.TRL_DROP_INFO] (p.trlDrop cause node plot) := by
  have hinfo : R.TRL_DROP_INFO ∈ [R.TRL_RX_DROP, R.TRL_DROP_INFO] := .tail _ (.head _)
  unfold Part.trlDrop
  exact (((Part.SendsOnly.put p _ _ (.head _)).trans (.put _ _ _ hinfo)).trans (.put _ _ _ hinfo)).trans (.put _ _ _ hinfo)

/-- The registers that sending a frame of a plot may touch. -/
def sendRegs (plot : Nat) : List Nat :=
  [R.TRL_RX_DROP, R.TRL_DROP_INFO, R.TRL_S_FCTR_LO plot, R.TRL_S_FCTR_HI plot, R.KEY_LINK_USED]

theorem Part.SendsOnly.useLink (p : Part) (plot job epoch : Nat) : p.SendsOnly [R.KEY_LINK_USED] (p.useLink plot job epoch) := by
  unfold Part.useLink
  extract_lets k l
  have hkey : p.SendsOnly [R.KEY_LINK_USED] { p with key := { links := l } } := ⟨rfl, rfl, fun _ _ => rfl⟩
  exact hkey.trans (.put _ _ _ (.head _))

theorem Part.SendsOnly.trlSend (p : Part) (ftype dst plot : Nat) (plain : List Byte) :
    p.SendsOnly (sendRegs plot) (p.trlSend ftype dst plot plain) := by
  unfold Part.trlSend
  extract_lets node job fctr head r q
  split
  · exact (Part.SendsOnly.trlDrop p 1 node plot).mono (List.cons_subset_cons _ (List.cons_subset_cons _ (List.nil_subset _)))
  · have hlink : p.SendsOnly (sendRegs plot) (p.useLink plot job (p.trlEpoch plot)) :=
      (Part.SendsOnly.useLink p plot job _).mono (by simp [sendRegs])
    have hq : p.SendsOnly (sendRegs plot) q :=
      hlink.trans (.put64 _ _ _ _ (.tail _ (.tail _ (.head _))) (.tail _ (.tail _ (.tail _ (.head _)))))
    exact hq.trans (.modTrl q _ rfl)

/-! A port's state (R515, R519, R530). -/

/-- The registers that a change of a port's state touches beside its own. -/
def ringRegs : List Nat := R.TRL_ROUTE :: sendRegs 0

theorem Part.SendsOnly.showRoutes (p : Part) : p.SendsOnly ringRegs p.showRoutes := .put p _ _ (.head _)

theorem Part.SendsOnly.ringFrames (p : Part) : p.SendsOnly ringRegs p.ringFrames :=
  Part.each_rel (.refl _) .trans p _ _ fun q d => (Part.SendsOnly.trlSend q 3 d 0 _).mono (List.subset_cons_self _ _)

/-- The port's state is the one entered; beside STAT only the ring's registers and what waits to be sent change. -/
theorem Part.setTrlState_spec (p : Part) {k st : Nat} (hk : k < 2) (hst : st < 8) :
    (p.setTrlState k st).trlState k = st ∧ p.SendsOnly (R.TRL_P_STAT k :: ringRegs) (p.setTrlState k st) ∧
    ∀ f : Fld, f.reg ∉ ringRegs → (f.reg ≠ R.TRL_P_STAT k ∨ 2 < f.lo) → (p.setTrlState k st).get f = p.get f := by
  have hring : R.TRL_P_STAT k ∉ ringRegs := by
    unfold ringRegs sendRegs
    simp only [List.mem_cons, List.not_mem_nil, or_false, R.TRL_P_STAT, R.TRL_ROUTE, R.TRL_RX_DROP, R.TRL_DROP_INFO, R.TRL_S_FCTR_LO,
      R.TRL_S_FCTR_HI, R.KEY_LINK_USED]
    omega
  have hrest := (Part.SendsOnly.showRoutes (p.put (F.TRL_P_STAT_STATE k) st)).trans (.ringFrames _)
  have hput : p.SendsOnly (R.TRL_P_STAT k :: ringRegs) (p.put (F.TRL_P_STAT_STATE k) st) := .put p _ _ (.head _)
  refine ⟨(hrest.get hring).trans ((Part.get_put_self p _ _ (show 2 < 32 by decide)).trans (Nat.mod_eq_of_lt hst)),
    hput.trans (hrest.mono (List.subset_cons_self _ _)), fun f hf hor => (hrest.get hf).trans ?_⟩
  rcases hor with h | h
  · exact Part.get_put_reg p _ _ _ h
  · exact Part.get_put_disjoint p _ _ _ (.inr h)

/-! Losing a link (R515, R524, R543). -/

/-- `q` is `p` but for the registers listed, the link keys in use, port `k`, and what Trellis holds beside its ports. -/
def Part.PortOnly (k : Nat) (l : List Nat) (p q : Part) : Prop :=
  q = { p with regs := q.regs, trl := q.trl, key := q.key } ∧ (∀ j, j ≠ k → q.tport j = p.tport j) ∧ p.RegsWithin l q

section
variable {k : Nat} {l : List Nat} {p q : Part}

theorem Part.PortOnly.trans {r : Part} (h : p.PortOnly k l q) (g : q.PortOnly k l r) : p.PortOnly k l r :=
  ⟨by rw [g.1, h.1], fun j hj => (g.2.1 j hj).trans (h.2.1 j hj), h.2.2.trans g.2.2⟩

theorem Part.PortOnly.mono {l' : List Nat} (h : p.PortOnly k l q) (hl : l ⊆ l') : p.PortOnly k l' q := ⟨h.1, h.2.1, h.2.2.mono hl⟩

theorem Part.SendsOnly.port (h : p.SendsOnly l q) (k : Nat) : p.PortOnly k l q := ⟨h.1, fun j _ => h.tport j, h.2.2⟩

theorem Part.tport_setTport (p : Part) (k : Nat) (u : TrlPort) : (p.setTport k u).tport k = u := FMap.get_put_self _ _ _ _

theorem Part.tport_setTport_other (p : Part) {k j : Nat} (u : TrlPort) (h : j ≠ k) : (p.setTport k u).tport j = p.tport j :=
  FMap.get_put_other _ _ _ h

theorem Part.setTport_get (p : Part) (k : Nat) (u : TrlPort) (f : Fld) : (p.setTport k u).get f = p.get f := rfl

theorem Part.PortOnly.setTport (p : Part) (u : TrlPort) : p.PortOnly k l (p.setTport k u) :=
  ⟨rfl, fun _ hj => p.tport_setTport_other u hj, fun _ _ => rfl⟩

theorem Part.PortOnly.modTport (p : Part) (f : TrlPort → TrlPort) : p.PortOnly k l (p.modTport k f) := .setTport p _

theorem Part.PortOnly.put (p : Part) (f : Fld) (n : Nat) (hf : f.reg ∈ l) : p.PortOnly k l (p.put f n) := (Part.SendsOnly.put p f n hf).port k

theorem Part.PortOnly.get (h : p.PortOnly k l q) {f : Fld} (hf : f.reg ∉ l) : q.get f = p.get f := h.2.2.get hf

theorem Part.PortOnly.sdl (h : p.PortOnly k l q) : q.sdl = p.sdl := by rw [h.1]

/-- As a claim about states. -/
theorem Part.PortOnly.claim {s : State} {q : Part} (h : s.part.PortOnly k l q)
    (hl : ∀ a ∈ l, a / 0x100000 = 8 ∨ a = R.KEY_LINK_USED) : TrellisOnly s { s with part := q } :=
  ⟨fun a h8 hkey => h.2.2 a fun hin => (hl a hin).elim h8 hkey, by rw [h.1]⟩

end

theorem creditFld_reg (k vc : Nat) : (creditFld k vc).reg = R.TRL_P_CREDIT k := by
  unfold creditFld
  split
  · rfl
  · split <;> rfl

/-- The fields of two VCs share no bit. -/
theorem creditFld_apart (k : Nat) {a b : Nat} (ha : a < b) (hb : b < 3) : (creditFld k a).hi < (creditFld k b).lo ∧ (creditFld k b).hi < 32 := by
  obtain ⟨rfl, rfl⟩ | ⟨rfl, rfl⟩ | ⟨rfl, rfl⟩ : (a = 0 ∧ b = 1) ∨ (a = 0 ∧ b = 2) ∨ (a = 1 ∧ b = 2) := by omega
  · exact ⟨show 5 < 6 by decide, show 17 < 32 by decide⟩
  · exact ⟨show 5 < 18 by decide, show 28 < 32 by decide⟩
  · exact ⟨show 17 < 18 by decide, show 28 < 32 by decide⟩

/-- The credits of a port once all are taken back. -/
theorem Part.get_credits_zero (p : Part) (k : Nat) {vc : Nat} (hvc : vc < 3) : (p.setCredits k 0 0 0).get (creditFld k vc) = 0 := by
  have hself (q : Part) (h : (creditFld k vc).hi < 32) : (q.put (creditFld k vc) 0).get (creditFld k vc) = 0 :=
    (Part.get_put_self q _ _ h).trans (Nat.zero_mod _)
  have hlater (q : Part) {x : Nat} (hx : vc < x) (h3 : x < 3) : (q.put (creditFld k x) 0).get (creditFld k vc) = q.get (creditFld k vc) :=
    Part.get_put_disjoint q _ _ _ (.inl (creditFld_apart k hx h3).1)
  unfold Part.setCredits
  obtain rfl | rfl | rfl : vc = 0 ∨ vc = 1 ∨ vc = 2 := by omega
  · exact (hlater _ (by decide) (by decide)).trans ((hlater _ (by decide) (by decide)).trans (hself p (show 5 < 32 by decide)))
  · exact (hlater _ (by decide) (by decide)).trans (hself _ (creditFld_apart k (a := 0) (by decide) (by decide)).2)
  · exact hself _ (creditFld_apart k (a := 0) (by decide) (by decide)).2

/-- The registers of a port that loses its link. -/
def lostRegs (k : Nat) : List Nat := [R.TRL_LOST, R.TRL_RX_DROP, R.TRL_DROP_INFO, R.TRL_P_STAT k, R.TRL_P_CREDIT k]

theorem Part.SendsOnly.foldl {α : Type} {l : List Nat} {f : Part → α → Part} (h : ∀ q x, Part.SendsOnly l q (f q x)) (xs : List α) (p : Part) :
    p.SendsOnly l (xs.foldl f p) := by
  induction xs generalizing p with
  | nil => exact .refl l p
  | cons x xs ih => exact (h p x).trans (ih _)

/-- What is left of a port without its link. -/
theorem Part.linkLost_spec (p : Part) (k : Nat) :
    p.PortOnly k (lostRegs k) (p.linkLost k) ∧ (p.linkLost k).get (F.TRL_P_STAT_LOCKED k) = 0 ∧
    (p.linkLost k).get (F.TRL_P_STAT_PEER_VALID k) = 0 ∧ (∀ vc, vc < 3 → (p.linkLost k).get (creditFld k vc) = 0) ∧
    ((p.linkLost k).tport k).held = [] := by
  have hstat : R.TRL_P_STAT k ∈ lostRegs k := by simp [lostRegs]
  have hcredit (vc : Nat) : (creditFld k vc).reg ∈ lostRegs k := by rw [creditFld_reg]; simp [lostRegs]
  have hne : R.TRL_P_STAT k ≠ R.TRL_P_CREDIT k := by unfold R.TRL_P_STAT R.TRL_P_CREDIT; omega
  unfold Part.linkLost
  extract_lets u q1 q2 q3
  have h1 : p.PortOnly k (lostRegs k) q1 := .put p _ _ (.head _)
  have hdrop : q1.SendsOnly [R.TRL_RX_DROP, R.TRL_DROP_INFO] q2 := by
    refine Part.SendsOnly.foldl (fun q v => ?_) [0, 1, 2] q1
    split
    · exact .trlDrop q 9 _ _
    · exact .refl _ q
  have h2 : p.PortOnly k (lostRegs k) q2 := h1.trans ((hdrop.port k).mono (by simp [lostRegs]))
  have h3 : p.PortOnly k (lostRegs k) q3 := (h2.trans (.put q2 _ _ hstat)).trans (.put _ _ _ hstat)
  have hlocked : q3.get (F.TRL_P_STAT_LOCKED k) = 0 :=
    (Part.get_put_disjoint _ _ _ _ (.inl (show 6 < 7 by decide))).trans
      ((Part.get_put_self q2 _ _ (show 6 < 32 by decide)).trans (Nat.zero_mod _))
  have hpeer : q3.get (F.TRL_P_STAT_PEER_VALID k) = 0 := Part.get_put_bit _ _ 7 0 (by decide)
  obtain ⟨r, hr⟩ : ∃ r, q3.setTport k { TrlPort.init k with nextLseq := u.nextLseq, expect := u.expect, peerGen := u.peerGen } = r := ⟨_, rfl⟩
  have hport : (r.tport k).held = [] := by
    rw [← hr, Part.tport_setTport]
    rfl
  have hkeep (f : Fld) : r.get f = q3.get f := hr ▸ Part.setTport_get q3 k _ f
  have h4 : p.PortOnly k (lostRegs k) r := hr ▸ h3.trans (.setTport q3 _)
  rw [hr]
  have hafter : r.PortOnly k (lostRegs k) (r.setCredits k 0 0 0) :=
    ((Part.PortOnly.put r _ _ (hcredit 0)).trans (.put _ _ _ (hcredit 1))).trans (.put _ _ _ (hcredit 2))
  have hcredits (f : Fld) (hf : f.reg = R.TRL_P_STAT k) : (r.setCredits k 0 0 0).get f = r.get f := by
    have hreg (vc : Nat) : f.reg ≠ (creditFld k vc).reg := by rw [hf, creditFld_reg]; exact hne
    unfold Part.setCredits
    exact (Part.get_put_reg _ _ _ _ (hreg 2)).trans ((Part.get_put_reg _ _ _ _ (hreg 1)).trans (Part.get_put_reg _ _ _ _ (hreg 0)))
  exact ⟨h4.trans hafter, (hcredits _ rfl).trans ((hkeep _).trans hlocked), (hcredits _ rfl).trans ((hkeep _).trans hpeer),
    fun vc hvc => r.get_credits_zero k hvc, hport⟩

end Sys2Proof.Machine
end


section
/-! SUPPORT. The states of a Trellis port (R515 to R517). -/

namespace Sys2Proof.Machine

open Sys2Proof.Claim

/-! A write of a port's CTRL. -/

/-- A write in the blocks of Harvest and of Trellis, outside the host rings, follows the register's own rule. -/
theorem Part.regStore_out {p q : Part} {t : Nat} {w : Who} {ctx a i j b key : Nat} {r : RegRow} {v : Word} (h : a / 0x100000 = b)
    (hb : b = 7 ∨ b = 8) (hring : isHostRing a = false) (hr : regAt a = some (r, i, j)) (hkey : b * 0x100000 + r.off = key)
    (hown : p.writeOut t key i v = some q) : p.regStore t w ctx a v = q := by
  have hgated : p.gatedReg a = false := by
    have hbed : b ≠ blkBED := by unfold blkBED; omega
    simp [Part.gatedReg, h, hbed]
  have hshut : p.ringShut a = false := by simp [Part.ringShut, hring]
  unfold Part.regStore
  rw [hr]
  simp only [hgated, hshut, h, rowKey, Bool.false_eq_true, if_false]
  rw [if_neg (by omega), if_neg (by omega), if_pos (by omega), hkey, hown, Option.getD_some]

theorem regAt_trlPCtrl {k : Nat} (hk : k < 2) : ∃ l, regAt (R.TRL_P_CTRL k) = some (⟨0x100, 2, 0x80, 1, 0, l⟩, k, 0) := by
  refine ⟨[⟨0, 0, .rw, 0⟩, ⟨1, 1, .wo, 0⟩], ?_⟩
  obtain rfl | rfl : k = 0 ∨ k = 1 := by omega
  · decide
  · decide

/-- Plot 0 firmware's write of a port's CTRL: EN, and an order to retrain. -/
theorem Part.writeOf_trlPCtrl (p : Part) (t : Nat) {w : Who} {k : Nat} (hkind : w.kind ≠ .host) (hp : w.plot = 0) (hk : k < 2) (v : Word) :
    p.writeOf t w (R.TRL_P_CTRL k) v =
      if v.bits 1 1 = 1 then (p.trlEnable k (v.bits 0 0 == 1)).trlRetrain k else p.trlEnable k (v.bits 0 0 == 1) := by
  obtain ⟨l, hrow⟩ := regAt_trlPCtrl hk
  have hblk : R.TRL_P_CTRL k / 0x100000 = 8 := by unfold R.TRL_P_CTRL; omega
  have hcopy : copyOf (R.TRL_P_CTRL k) = R.TRL_P_CTRL k := if_neg (by unfold R.TRL_P_CTRL; omega)
  have hring : isHostRing (R.TRL_P_CTRL k) = false := by
    have habove : ¬ R.TRL_P_CTRL k < 0x719000 := by unfold R.TRL_P_CTRL; omega
    simp [isHostRing, habove]
  rw [p.writeOf_firmware t v hkind hp (by unfold R.TRL_P_CTRL; omega) (by unfold R.TRL_P_CTRL; omega)
    (by rw [implemented, hcopy, hrow]; rfl) hcopy]
  refine Part.regStore_out (b := 8) (key := R.TRL_P_CTRL 0) hblk (.inr rfl) hring hrow rfl ?_
  rw [Part.writeOut]
  iterate 8 rw [if_neg (by decide)]
  exact if_pos rfl

/-! The registers that a port's changes may touch. -/

/-- A port's own registers, and the ring's. -/
def portRegs (k : Nat) : List Nat :=
  [R.TRL_P_CTRL k, R.TRL_P_STAT k, R.TRL_P_EVENTS k, R.TRL_P_RETRAINS k, R.TRL_P_CREDIT k, R.TRL_P_CRED_GEN k, R.TRL_LOST] ++ ringRegs

theorem portRegs_trellis {k a : Nat} (hk : k < 2) (ha : a ∈ portRegs k) : a / 0x100000 = 8 ∨ a = R.KEY_LINK_USED := by
  simp only [portRegs, ringRegs, sendRegs, List.mem_append, List.mem_cons, List.not_mem_nil, or_false, R.TRL_P_CTRL, R.TRL_P_STAT,
    R.TRL_P_EVENTS, R.TRL_P_RETRAINS, R.TRL_P_CREDIT, R.TRL_P_CRED_GEN, R.TRL_LOST, R.TRL_ROUTE, R.TRL_RX_DROP, R.TRL_DROP_INFO,
    R.TRL_S_FCTR_LO, R.TRL_S_FCTR_HI] at ha
  omega

/-- The registers of the ports lie apart from those that the ring's frames touch. -/
theorem portReg_not_ring {a : Nat} (hl : 0x800100 ≤ a) (hu : a < 0x800200) : a ∉ ringRegs := by
  simp only [ringRegs, sendRegs, List.mem_cons, List.not_mem_nil, or_false, R.TRL_ROUTE, R.TRL_RX_DROP, R.TRL_DROP_INFO,
    R.TRL_S_FCTR_LO, R.TRL_S_FCTR_HI, R.KEY_LINK_USED]
  omega

/-- A field of a port's own registers. -/
def PortFld (k : Nat) (f : Fld) : Prop := 0x800100 + k * 0x80 ≤ f.reg ∧ f.reg < 0x800180 + k * 0x80

section
variable {k : Nat} (hk : k < 2)
include hk

theorem PortFld.not_ring {f : Fld} (hf : PortFld k f) : f.reg ∉ ringRegs := portReg_not_ring (by have := hf.1; omega) (by have := hf.2; omega)

/-- What a change of port `k` leaves of the other port. -/
theorem PortFld.not_port {f : Fld} (hf : PortFld (1 - k) f) : f.reg ∉ portRegs k := by
  have hring := hf.not_ring (show 1 - k < 2 by omega)
  obtain ⟨hl, hu⟩ := hf
  refine fun hin => (List.mem_append.mp hin).elim (fun h => ?_) hring
  simp only [List.mem_cons, List.not_mem_nil, or_false, R.TRL_P_CTRL, R.TRL_P_STAT, R.TRL_P_EVENTS, R.TRL_P_RETRAINS, R.TRL_P_CREDIT,
    R.TRL_P_CRED_GEN, R.TRL_LOST] at h
  omega

end

theorem portFld_state (k : Nat) : PortFld k (F.TRL_P_STAT_STATE k) := by
  show _ ≤ R.TRL_P_STAT k ∧ R.TRL_P_STAT k < _
  unfold R.TRL_P_STAT
  omega

/-- The other port's state stays. -/
theorem Part.PortOnly.trlState_other {p q : Part} {k : Nat} (h : p.PortOnly k (portRegs k) q) (hk : k < 2) :
    q.trlState (1 - k) = p.trlState (1 - k) := h.get ((portFld_state _).not_port hk)

section
variable {k : Nat} {p q : Part} (h : p.PortOnly k (portRegs k) q)
include h

theorem Part.PortOnly.also_put (f : Fld) (n : Nat) (hf : f.reg ∈ portRegs k) : p.PortOnly k (portRegs k) (q.put f n) := h.trans (.put q f n hf)

theorem Part.PortOnly.also_sends {l : List Nat} {r : Part} (hr : q.SendsOnly l r) (hl : l ⊆ portRegs k) : p.PortOnly k (portRegs k) r :=
  h.trans ((hr.mono hl).port k)

/-- The port's state, once it has changed. -/
theorem Part.PortOnly.also_state (hk : k < 2) {st : Nat} (hst : st < 8) : p.PortOnly k (portRegs k) (q.setTrlState k st) :=
  h.also_sends (q.setTrlState_spec hk hst).2.1 (List.cons_subset.mpr ⟨by simp [portRegs], List.subset_append_right _ _⟩)

end

/-- As a claim, with the sitting's settled state. -/
theorem completes_port {c : Instr} {k : Nat} {s : State} {q : Part} {Q : State → Prop} (he : exec c s = .next (s.settle q)) (hs : Ready s)
    (hk : k < 2) (h : s.part.PortOnly k (portRegs k) q) (hq : TrellisOnly s { s with part := q } → Q { s with part := q }) : Completes c s Q :=
  completes_of_still he (h.sdl ▸ hs.2) (hq (h.claim fun _ ha => portRegs_trellis hk ha))

theorem Part.PortOnly.refl (k : Nat) (l : List Nat) (p : Part) : p.PortOnly k l p := (Part.SendsOnly.refl l p).port k

/-- A field of port `k` other than its state, when the state is entered. -/
theorem Part.get_setTrlState {p : Part} {k st : Nat} (hk : k < 2) (hst : st < 8) {f : Fld} (hf : PortFld k f)
    (hor : f.reg ≠ R.TRL_P_STAT k ∨ 2 < f.lo) : (p.setTrlState k st).get f = p.get f :=
  (p.setTrlState_spec hk hst).2.2 f (hf.not_ring hk) hor

section
variable (k : Nat)
theorem portFld_ctrl : PortFld k (F.TRL_P_CTRL_EN k) := by show _ ≤ R.TRL_P_CTRL k ∧ R.TRL_P_CTRL k < _; unfold R.TRL_P_CTRL; omega
theorem portFld_stat {hi lo : Nat} : PortFld k ⟨R.TRL_P_STAT k, hi, lo⟩ := by show _ ≤ R.TRL_P_STAT k ∧ R.TRL_P_STAT k < _; unfold R.TRL_P_STAT; omega
theorem portFld_events {hi lo : Nat} : PortFld k ⟨R.TRL_P_EVENTS k, hi, lo⟩ := by
  show _ ≤ R.TRL_P_EVENTS k ∧ R.TRL_P_EVENTS k < _; unfold R.TRL_P_EVENTS; omega
theorem portFld_retrains : PortFld k (F.TRL_P_RETRAINS_COUNT k) := by
  show _ ≤ R.TRL_P_RETRAINS k ∧ R.TRL_P_RETRAINS k < _; unfold R.TRL_P_RETRAINS; omega
theorem portFld_credit {vc : Nat} : PortFld k (creditFld k vc) := by
  unfold PortFld; rw [creditFld_reg]; unfold R.TRL_P_CREDIT; omega
theorem portFld_credGen : PortFld k (F.TRL_P_CRED_GEN_GEN k) := by
  show _ ≤ R.TRL_P_CRED_GEN k ∧ R.TRL_P_CRED_GEN k < _; unfold R.TRL_P_CRED_GEN; omega
end

/-- The registers of a port are apart from each other. -/
theorem portReg_ne (k : Nat) : R.TRL_P_CTRL k ≠ R.TRL_P_STAT k ∧ R.TRL_P_EVENTS k ≠ R.TRL_P_STAT k ∧ R.TRL_P_RETRAINS k ≠ R.TRL_P_STAT k ∧
    R.TRL_P_CREDIT k ≠ R.TRL_P_STAT k ∧ R.TRL_P_CRED_GEN k ≠ R.TRL_P_EVENTS k ∧ R.TRL_P_CRED_GEN k ≠ R.TRL_P_STAT k := by
  unfold R.TRL_P_CTRL R.TRL_P_STAT R.TRL_P_EVENTS R.TRL_P_RETRAINS R.TRL_P_CREDIT R.TRL_P_CRED_GEN
  omega

/-! Going DOWN and retraining (R515). -/

/-- A port that goes DOWN. -/
theorem Part.trlDown_spec (p : Part) {k cause : Nat} (hk : k < 2) (hc : cause < 16) :
    (p.trlDown k cause).trlState k = 4 ∧ (p.trlDown k cause).get (F.TRL_P_STAT_CAUSE k) = cause ∧
    (p.trlDown k cause).get (F.TRL_P_EVENTS_DOWN k) = 1 ∧ p.PortOnly k (portRegs k) (p.trlDown k cause) := by
  obtain ⟨-, hevents, -⟩ := portReg_ne k
  obtain ⟨hlost, -⟩ := p.linkLost_spec k
  unfold Part.trlDown
  obtain ⟨a, ha⟩ : ∃ a, p.linkLost k = a := ⟨_, rfl⟩
  rw [ha] at hlost ⊢
  have hcause : (a.put (F.TRL_P_STAT_CAUSE k) cause).get (F.TRL_P_STAT_CAUSE k) = cause :=
    (Part.get_put_self a _ _ (show 15 < 32 by decide)).trans (Nat.mod_eq_of_lt hc)
  have hput : p.PortOnly k (portRegs k) (a.put (F.TRL_P_STAT_CAUSE k) cause) :=
    Part.PortOnly.also_put (hlost.mono (by simp [lostRegs, portRegs, ringRegs, sendRegs])) _ _ (by simp [portRegs, F.TRL_P_STAT_CAUSE])
  obtain ⟨b, hb⟩ : ∃ b, a.put (F.TRL_P_STAT_CAUSE k) cause = b := ⟨_, rfl⟩
  rw [hb] at hcause hput ⊢
  have hdown : p.PortOnly k (portRegs k) (b.set (F.TRL_P_EVENTS_DOWN k)) :=
    hput.also_put _ _ (by simp [portRegs, F.TRL_P_EVENTS_DOWN])
  refine ⟨(Part.setTrlState_spec _ hk (by decide)).1, ?_, ?_, hdown.also_state hk (by decide)⟩
  · refine (Part.get_setTrlState hk (by decide) (portFld_stat k) (.inr (show 2 < 12 by decide))).trans ?_
    exact (Part.get_put_reg b _ _ _ hevents.symm).trans hcause
  · refine (Part.get_setTrlState hk (by decide) (portFld_events k) (.inl hevents)).trans ?_
    exact Part.get_put_bit b _ 1 1 (by decide)

/-- A port that retrains from UP. -/
theorem Part.trlRetrain_spec (p : Part) {k : Nat} (hk : k < 2) (h2 : p.trlState k = 2) :
    (p.trlRetrain k).trlState k = 3 ∧
    (p.trlRetrain k).get (F.TRL_P_RETRAINS_COUNT k) = min (p.get (F.TRL_P_RETRAINS_COUNT k) + 1) 65535 ∧
    p.PortOnly k (portRegs k) (p.trlRetrain k) ∧
    ∀ f : Fld, f.reg = R.TRL_P_STAT k → 2 < f.lo → (p.trlRetrain k).get f = p.get f := by
  obtain ⟨-, -, hretrains, -⟩ := portReg_ne k
  rw [Part.trlRetrain, if_pos h2]
  have hcount := Part.get_addSat16 p (R.TRL_P_RETRAINS k) 1
  have hput : p.PortOnly k (portRegs k) (p.addSat (F.TRL_P_RETRAINS_COUNT k) 1) :=
    .put p _ _ (by simp [portRegs, F.TRL_P_RETRAINS_COUNT])
  have hstat (f : Fld) (hf : f.reg = R.TRL_P_STAT k) : (p.addSat (F.TRL_P_RETRAINS_COUNT k) 1).get f = p.get f :=
    Part.get_put_reg p _ _ _ (by rw [hf]; exact hretrains.symm)
  obtain ⟨a, ha⟩ : ∃ a, p.addSat (F.TRL_P_RETRAINS_COUNT k) 1 = a := ⟨_, rfl⟩
  rw [show p.addSat ⟨R.TRL_P_RETRAINS k, 15, 0⟩ 1 = a from ha] at hcount
  rw [ha] at hput ⊢
  have hmod := hput.trans (.modTport a (fun u => { u with resends := 0 }))
  refine ⟨(Part.setTrlState_spec _ hk (by decide)).1, ?_, hmod.also_state hk (by decide), fun f hf hlo => ?_⟩
  · refine (Part.get_setTrlState hk (by decide) (portFld_retrains k) (.inl hretrains)).trans ?_
    rw [Part.modTport_get]
    exact hcount
  · refine (Part.get_setTrlState hk (by decide) (by unfold PortFld; rw [hf]; exact portFld_state k) (.inr hlo)).trans ?_
    rw [Part.modTport_get, ← ha]
    exact hstat f hf

end Sys2Proof.Machine
end


section
/-! SUPPORT. The states of a Trellis port, command by command (R515 to R517), and a credit timeout (R528). -/

namespace Sys2Proof.Machine

open Sys2Proof.Claim

/-! CRED_RESYNC and a credit timeout (R528). -/

/-- CRED_RESYNC is queued, and its answer awaited; nothing else changes. -/
theorem Part.sendResync_spec (p : Part) (k : Nat) :
    (∃ b : List Byte, (p.sendResync k).tport k = { p.tport k with control := (p.tport k).control ++ [b], awaiting := true } ∧ b.length = 11 ∧
      b.take 3 = toLe 1 3 ++ toLe 2 (p.get (F.TRL_P_CRED_GEN_GEN k))) ∧
    (∀ f, (p.sendResync k).get f = p.get f) ∧ (∀ l, p.PortOnly k l (p.sendResync k)) ∧ (p.sendResync k).trl.waiting = p.trl.waiting ∧
    p.sendResync k = { p with trl := (p.sendResync k).trl } := by
  unfold Part.sendResync
  obtain ⟨b, hb⟩ : ∃ b, toLe 1 3 ++ toLe 2 (p.get (F.TRL_P_CRED_GEN_GEN k)) ++ toLe 2 32 ++ toLe 2 2048 ++ toLe 2 1024 ++
    toLe 2 (p.tport k).expect = b := ⟨_, rfl⟩
  have hlen : b.length = 11 := by simp [← hb, toLe_length]
  have htake : b.take 3 = toLe 1 3 ++ toLe 2 (p.get (F.TRL_P_CRED_GEN_GEN k)) := by
    have h3 : (toLe 1 3 ++ toLe 2 (p.get (F.TRL_P_CRED_GEN_GEN k))).length = 3 := by simp [toLe_length]
    rw [← hb, List.append_assoc, List.append_assoc, List.append_assoc]
    exact List.take_left' h3
  rw [hb]
  refine ⟨⟨b, ?_, hlen, htake⟩, fun f => ?_, fun l => ?_, rfl, rfl⟩
  · rw [Part.modTport, Part.tport_setTport, Part.trlControl, Part.modTport, Part.tport_setTport]
  · rw [Part.modTport_get, Part.trlControl, Part.modTport_get]
  · exact (Part.PortOnly.modTport p _).trans (.modTport _ _)

/-- A credit timeout: a new generation is sent, and the VC's waiting frames are gone. -/
theorem Part.creditTimeout_spec (p : Part) {k : Nat} (hk : k < 2) (vc : Nat) :
    (p.creditTimeout k vc).get (F.TRL_P_CRED_GEN_GEN k) = (p.get (F.TRL_P_CRED_GEN_GEN k) + 1) % 65536 ∧
    (p.creditTimeout k vc).get (F.TRL_P_EVENTS_RESYNC k) = 1 ∧ ((p.creditTimeout k vc).tport k).awaiting = true ∧
    (∀ f ∈ (p.creditTimeout k vc).trl.waiting, ¬(f.vc = vc ∧ p.routeTo f.dst = k)) ∧ p.PortOnly k (portRegs k) (p.creditTimeout k vc) ∧
    ∀ f : Fld, f.reg = R.TRL_P_STAT k ∨ (f.reg = R.TRL_P_EVENTS k ∧ f.hi < 3) → (p.creditTimeout k vc).get f = p.get f := by
  obtain ⟨-, hevents, -, -, hgen, hgenStat⟩ := portReg_ne k
  unfold Part.creditTimeout
  extract_lets mine gone q1 q2 q3 q4
  have hdrops : p.SendsOnly [R.TRL_RX_DROP, R.TRL_DROP_INFO] q1 := .foldl (fun q f => .trlDrop q _ _ _) gone p
  have hsending : q1.SendsOnly [R.TRL_RX_DROP, R.TRL_DROP_INFO] q2 := by
    simp only [q2]
    split
    · exact .trlDrop q1 _ _ _
    · exact .refl _ q1
  have hwaiting : q2.SendsOnly [R.TRL_RX_DROP, R.TRL_DROP_INFO] q3 := .modTrl q2 _ rfl
  have hall := (hdrops.trans hsending).trans hwaiting
  have h4 : p.PortOnly k (portRegs k) q4 :=
    ((hall.port k).mono (by simp [portRegs, ringRegs, sendRegs])).trans (.modTport q3 _)
  have hkept (f : Fld) (hf : PortFld k f) : q4.get f = p.get f := by
    refine (Part.modTport_get q3 k _ f).trans (hall.get fun hin => hf.not_ring hk ?_)
    simp only [List.mem_cons, List.not_mem_nil, or_false] at hin
    rcases hin with h | h <;> simp [ringRegs, sendRegs, h]
  have hgone : ∀ f ∈ q4.trl.waiting, ¬(f.vc = vc ∧ p.routeTo f.dst = k) := by
    rintro f hf ⟨hvc, hroute⟩
    have h := (List.mem_filter.mp (show f ∈ q2.trl.waiting.filter (fun f => !mine f) from hf)).2
    simp [mine, hvc, hroute] at h
  clear_value q4
  have hadd : (q4.add (F.TRL_P_CRED_GEN_GEN k) 1).get (F.TRL_P_CRED_GEN_GEN k) = (p.get (F.TRL_P_CRED_GEN_GEN k) + 1) % 65536 := by
    rw [← hkept _ (portFld_credGen k)]
    exact Part.get_put_self q4 _ _ (show 15 < 32 by decide)
  have haddKept (f : Fld) (hf : f.reg ≠ R.TRL_P_CRED_GEN k) : (q4.add (F.TRL_P_CRED_GEN_GEN k) 1).get f = q4.get f := Part.get_put_reg _ _ _ _ hf
  have h5 : p.PortOnly k (portRegs k) (q4.add (F.TRL_P_CRED_GEN_GEN k) 1) := h4.also_put _ _ (by simp [portRegs, F.TRL_P_CRED_GEN_GEN])
  have hwait5 : (q4.add (F.TRL_P_CRED_GEN_GEN k) 1).trl.waiting = q4.trl.waiting := rfl
  obtain ⟨q5, hq5⟩ : ∃ q5, q4.add (F.TRL_P_CRED_GEN_GEN k) 1 = q5 := ⟨_, rfl⟩
  rw [hq5] at hadd haddKept h5 hwait5 ⊢
  have h6 : p.PortOnly k (portRegs k) (q5.set (F.TRL_P_EVENTS_RESYNC k)) := h5.also_put _ _ (by simp [portRegs, F.TRL_P_EVENTS_RESYNC])
  have hset : (q5.set (F.TRL_P_EVENTS_RESYNC k)).get (F.TRL_P_EVENTS_RESYNC k) = 1 := Part.get_put_bit q5 _ 3 1 (by decide)
  have hsetGen : (q5.set (F.TRL_P_EVENTS_RESYNC k)).get (F.TRL_P_CRED_GEN_GEN k) = q5.get (F.TRL_P_CRED_GEN_GEN k) :=
    Part.get_put_reg q5 _ _ _ hgen
  have hsetStat (f : Fld) (hf : f.reg = R.TRL_P_STAT k) : (q5.set (F.TRL_P_EVENTS_RESYNC k)).get f = q5.get f :=
    Part.get_put_reg q5 _ _ _ (by rw [hf]; exact hevents.symm)
  have hsetEvents (f : Fld) (hf : f.hi < 3) : (q5.set (F.TRL_P_EVENTS_RESYNC k)).get f = q5.get f :=
    Part.get_put_disjoint q5 _ _ _ (.inl hf)
  have hwait6 : (q5.set (F.TRL_P_EVENTS_RESYNC k)).trl.waiting = q5.trl.waiting := rfl
  obtain ⟨q6, hq6⟩ : ∃ q6, q5.set (F.TRL_P_EVENTS_RESYNC k) = q6 := ⟨_, rfl⟩
  rw [hq6] at h6 hset hsetGen hsetStat hsetEvents hwait6 ⊢
  obtain ⟨⟨b, hport, -, -⟩, hget, honly, hwait, -⟩ := q6.sendResync_spec k
  refine ⟨(hget _).trans (hsetGen.trans hadd), (hget _).trans hset, by rw [hport], ?_, h6.trans (honly _), fun f hf => ?_⟩
  · rw [hwait, hwait6, hwait5]
    exact hgone
  · rcases hf with hstat | ⟨hev, hhi⟩
    · have hf : PortFld k f := by unfold PortFld; rw [hstat]; exact portFld_state k
      exact (hget f).trans ((hsetStat f hstat).trans ((haddKept f (by rw [hstat]; exact hgenStat.symm)).trans (hkept f hf)))
    · have hf : PortFld k f := by unfold PortFld; rw [hev]; exact portFld_events (hi := 0) (lo := 0) k
      exact (hget f).trans ((hsetEvents f hhi).trans ((haddKept f (by rw [hev]; exact hgen.symm)).trans (hkept f hf)))

/-! Writes of EN and RETRAIN (R515). -/

section
variable {w : Who} {k : Nat} {s : State} (hs : Ready s) (hk : k < 2) (hw : Firmware s w)
include hs hk hw

theorem exec_trlPEnWrite (on : Bool) : exec (.trlPEnWrite w k on) s = .next (s.settle (s.part.trlEnable k on)) := by
  obtain ⟨hkind, hplot, hup⟩ := hw
  have he := next_trlPEnWrite w k on s hs.1 (by simp [Instr.wf, hk, Part.issues, hkind, hplot, hup])
  rw [s.part.writeOf_trlPCtrl s.ns hkind hplot hk] at he
  cases on with
  | false => exact he
  | true => exact he

theorem exec_trlPRetrain (hen : s.part.get (F.TRL_P_CTRL_EN k) = 1) (hst : s.part.trlState k ≠ 0) :
    ∃ q, s.part.InRegs [] q ∧ exec (.trlPRetrain w k) s = .next (s.settle (q.trlRetrain k)) := by
  obtain ⟨hkind, hplot, hup⟩ := hw
  have he := next_trlPRetrain w k s hs.1 (by simp [Instr.wf, hk, Part.issues, hkind, hplot, hup])
  have horder : ((s.part.reg (R.TRL_P_CTRL k)).withBits 1 1 1).bits 1 1 = 1 := Word.withBits_bits_self _ _ (by decide)
  rw [s.part.writeOf_trlPCtrl s.ns hkind hplot hk, if_pos horder,
    Word.withBits_bits_other _ _ (.inl (by decide)), show (s.part.reg (R.TRL_P_CTRL k)).bits 0 0 = 1 from hen, Part.trlEnable, if_pos (by decide),
    if_neg hst] at he
  exact ⟨_, .of_put_get s.part hen.symm, he⟩

/-- EN starts training from DISABLED. -/
theorem completes_trlEnable_start (h0 : s.part.trlState k = 0) : Completes (.trlPEnWrite w k true) s (fun t =>
    t.part.get (F.TRL_P_CTRL_EN k) = 1 ∧ t.part.trlState k = 1 ∧ t.part.trlState (1 - k) = s.part.trlState (1 - k) ∧ TrellisOnly s t) := by
  have he := exec_trlPEnWrite hs hk hw true
  have hset : s.part.PortOnly k (portRegs k) (s.part.set (F.TRL_P_CTRL_EN k)) := .put _ _ _ (by simp [portRegs, F.TRL_P_CTRL_EN])
  have hen : (s.part.set (F.TRL_P_CTRL_EN k)).get (F.TRL_P_CTRL_EN k) = 1 := Part.get_put_bit _ _ 0 1 (by decide)
  rw [Part.trlEnable, if_pos rfl, if_pos h0] at he
  obtain ⟨q, hq⟩ : ∃ q, s.part.set (F.TRL_P_CTRL_EN k) = q := ⟨_, rfl⟩
  rw [hq] at he hset hen
  have hall := hset.also_state hk (st := 1) (by decide)
  exact completes_port he hs hk hall fun hclaim => ⟨(Part.get_setTrlState hk (by decide) (portFld_ctrl k) (.inl (portReg_ne k).1)).trans hen,
    (q.setTrlState_spec hk (by decide)).1, hall.trlState_other hk, hclaim⟩

/-- EN written again. -/
theorem completes_trlEnable_again (h0 : s.part.trlState k ≠ 0) : Completes (.trlPEnWrite w k true) s (fun t =>
    t.part.get (F.TRL_P_CTRL_EN k) = 1 ∧ RegsOnly [R.TRL_P_CTRL k] s t) := by
  have he := exec_trlPEnWrite hs hk hw true
  rw [Part.trlEnable, if_pos rfl, if_neg h0] at he
  exact completes_of_still he hs.2 ⟨Part.get_put_bit _ _ 0 1 (by decide),
    ((Part.InRegs.refl [R.TRL_P_CTRL k] s.part).put (F.TRL_P_CTRL_EN k) 1 (.head _)).claim⟩

/-- EN cleared in DISABLED. -/
theorem completes_trlDisable_again (h0 : s.part.trlState k = 0) : Completes (.trlPEnWrite w k false) s (fun t =>
    t.part.get (F.TRL_P_CTRL_EN k) = 0 ∧ RegsOnly [R.TRL_P_CTRL k] s t) := by
  have he := exec_trlPEnWrite hs hk hw false
  rw [Part.trlEnable, if_neg Bool.false_ne_true, if_pos h0] at he
  exact completes_of_still he hs.2 ⟨Part.get_put_bit _ _ 0 0 (by decide),
    ((Part.InRegs.refl [R.TRL_P_CTRL k] s.part).put (F.TRL_P_CTRL_EN k) 0 (.head _)).claim⟩

/-- EN cleared in any other state: the link is gone. -/
theorem completes_trlDisable (h0 : s.part.trlState k ≠ 0) : Completes (.trlPEnWrite w k false) s (fun t =>
    t.part.get (F.TRL_P_CTRL_EN k) = 0 ∧ t.part.trlState k = 0 ∧ t.part.get (F.TRL_P_STAT_LOCKED k) = 0 ∧
    t.part.get (F.TRL_P_STAT_PEER_VALID k) = 0 ∧ (∀ vc, vc < 3 → t.part.get (creditFld k vc) = 0) ∧ (t.part.tport k).held = [] ∧
    t.part.trlState (1 - k) = s.part.trlState (1 - k) ∧ TrellisOnly s t) := by
  obtain ⟨hctrl, -, -, hcredit, -⟩ := portReg_ne k
  have he := exec_trlPEnWrite hs hk hw false
  have hclr : s.part.PortOnly k (portRegs k) (s.part.clr (F.TRL_P_CTRL_EN k)) := .put _ _ _ (by simp [portRegs, F.TRL_P_CTRL_EN])
  have hen : (s.part.clr (F.TRL_P_CTRL_EN k)).get (F.TRL_P_CTRL_EN k) = 0 := Part.get_put_bit _ _ 0 0 (by decide)
  rw [Part.trlEnable, if_neg Bool.false_ne_true, if_neg h0] at he
  obtain ⟨q, hq⟩ : ∃ q, s.part.clr (F.TRL_P_CTRL_EN k) = q := ⟨_, rfl⟩
  rw [hq] at he hclr hen
  obtain ⟨hlost, hlocked, hpeer, hcredits, hheld⟩ := q.linkLost_spec k
  obtain ⟨r, hr⟩ : ∃ r, q.linkLost k = r := ⟨_, rfl⟩
  rw [hr] at he hlost hlocked hpeer hcredits hheld
  have hkept : r.get (F.TRL_P_CTRL_EN k) = q.get (F.TRL_P_CTRL_EN k) := hlost.get (by
    show R.TRL_P_CTRL k ∉ lostRegs k
    simp only [lostRegs, List.mem_cons, List.not_mem_nil, or_false, R.TRL_P_CTRL, R.TRL_LOST, R.TRL_RX_DROP, R.TRL_DROP_INFO,
      R.TRL_P_STAT, R.TRL_P_CREDIT]
    omega)
  have hall := (hclr.trans (hlost.mono (by simp [lostRegs, portRegs, ringRegs, sendRegs]))).also_state hk (st := 0) (by decide)
  obtain ⟨hstate, hsends, -⟩ := r.setTrlState_spec hk (st := 0) (by decide)
  exact completes_port he hs hk hall fun hclaim =>
    ⟨(Part.get_setTrlState hk (by decide) (portFld_ctrl k) (.inl hctrl)).trans (hkept.trans hen), hstate,
      (Part.get_setTrlState hk (by decide) (portFld_stat k) (.inr (show 2 < 3 by decide))).trans hlocked,
      (Part.get_setTrlState hk (by decide) (portFld_stat k) (.inr (show 2 < 7 by decide))).trans hpeer,
      fun vc hvc => (Part.get_setTrlState hk (by decide) (portFld_credit k) (.inl (by rw [creditFld_reg]; exact hcredit))).trans (hcredits vc hvc),
      (congrArg TrlPort.held (hsends.tport k)).trans hheld, hall.trlState_other hk, hclaim⟩

/-- RETRAIN in UP. -/
theorem completes_retrain (hen : s.part.get (F.TRL_P_CTRL_EN k) = 1) (h2 : s.part.trlState k = 2) : Completes (.trlPRetrain w k) s (fun t =>
    t.part.trlState k = 3 ∧ t.part.get (F.TRL_P_RETRAINS_COUNT k) = min (s.part.get (F.TRL_P_RETRAINS_COUNT k) + 1) 65535 ∧
      TrellisOnly s t) := by
  obtain ⟨q, hq, he⟩ := exec_trlPRetrain hs hk hw hen (by omega)
  obtain ⟨hstate, hcount, honly, -⟩ := q.trlRetrain_spec hk ((hq.get (by simp)).trans h2)
  have hsame : s.part.PortOnly k (portRegs k) q := ⟨by rw [hq.1], fun j _ => by rw [hq.1]; rfl, hq.2.mono (List.nil_subset _)⟩
  refine completes_port he hs hk (hsame.trans honly) fun hclaim => ⟨hstate, hcount.trans ?_, hclaim⟩
  rw [hq.get (f := F.TRL_P_RETRAINS_COUNT k) (by simp)]

/-- RETRAIN away from UP. -/
theorem completes_retrain_ignored (hen : s.part.get (F.TRL_P_CTRL_EN k) = 1) (h0 : s.part.trlState k ≠ 0) (h2 : s.part.trlState k ≠ 2) :
    Completes (.trlPRetrain w k) s (RegsOnly [] s) := by
  obtain ⟨q, hq, he⟩ := exec_trlPRetrain hs hk hw hen h0
  rw [Part.trlRetrain, if_neg (by rw [Part.trlState, hq.get (by simp)]; exact h2)] at he
  exact completes_of_still he (hq.sdl ▸ hs.2) hq.claim

end

end Sys2Proof.Machine
end


section
/-! SUPPORT. The states of a Trellis port: training, its ends and its losses (R515 to R517). -/

namespace Sys2Proof.Machine

open Sys2Proof.Claim

/-! Training ends (R516, R517). -/

theorem Part.identCause_lt (p : Part) (k node ring port order : Nat) : p.identCause k node ring port order < 16 := by
  unfold Part.identCause
  extract_lets r want
  split
  · decide
  · split
    · decide
    · split <;> decide

/-- What a port that comes UP shows, before its credits are asked for. -/
def Part.trainShown (p : Part) (k node : Nat) : Part :=
  let q := ((p.put (F.TRL_P_STAT_LOCKED k) 15).set (F.TRL_P_STAT_PEER_VALID k)).put (F.TRL_P_STAT_PEER_NODE k) node
  let q := q.set (F.TRL_P_EVENTS_UP k)
  let q := if p.trlState k == 3 then q.set (F.TRL_P_EVENTS_RETRAINED k) else q
  q.modTport k (fun u => { u with failures := 0, resync := none, nakked := false, resends := 0 })

theorem Part.trainDone_good (p : Part) {k node ring port order : Nat} (h : p.identCause k node ring port order = 0) :
    p.trainDone k node ring port order =
      (match (p.tport k).resync with
        | some vc => (p.trainShown k node).creditTimeout k vc
        | none => (p.trainShown k node).sendResync k).setTrlState k 2 := by
  unfold Part.trainDone
  simp only [h]
  cases (p.tport k).resync <;> rfl

theorem Part.trainShown_spec (p : Part) {k node : Nat} (hn : node < 4) :
    (p.trainShown k node).get (F.TRL_P_STAT_LOCKED k) = 15 ∧ (p.trainShown k node).get (F.TRL_P_STAT_PEER_VALID k) = 1 ∧
    (p.trainShown k node).get (F.TRL_P_STAT_PEER_NODE k) = node ∧ (p.trainShown k node).get (F.TRL_P_EVENTS_UP k) = 1 ∧
    p.PortOnly k (portRegs k) (p.trainShown k node) := by
  obtain ⟨-, hevents, -⟩ := portReg_ne k
  have hstat : R.TRL_P_STAT k ∈ portRegs k := by simp [portRegs]
  have hevent : R.TRL_P_EVENTS k ∈ portRegs k := by simp [portRegs]
  unfold Part.trainShown
  obtain ⟨a, ha⟩ : ∃ a, p.put (F.TRL_P_STAT_LOCKED k) 15 = a := ⟨_, rfl⟩
  have halocked : a.get (F.TRL_P_STAT_LOCKED k) = 15 := ha ▸ Part.get_put_self p _ 15 (show 6 < 32 by decide)
  have haonly : p.PortOnly k (portRegs k) a := ha ▸ .put p _ _ hstat
  obtain ⟨b, hb⟩ : ∃ b, a.set (F.TRL_P_STAT_PEER_VALID k) = b := ⟨_, rfl⟩
  have hblocked : b.get (F.TRL_P_STAT_LOCKED k) = 15 := (hb ▸ Part.get_put_disjoint a _ _ 1 (.inl (show 6 < 7 by decide)) :
    b.get (F.TRL_P_STAT_LOCKED k) = a.get _).trans halocked
  have hbvalid : b.get (F.TRL_P_STAT_PEER_VALID k) = 1 := hb ▸ Part.get_put_bit a _ 7 1 (by decide)
  have hbonly : p.PortOnly k (portRegs k) b := hb ▸ haonly.also_put _ _ hstat
  obtain ⟨c, hc⟩ : ∃ c, b.put (F.TRL_P_STAT_PEER_NODE k) node = c := ⟨_, rfl⟩
  have hclocked : c.get (F.TRL_P_STAT_LOCKED k) = 15 := (hc ▸ Part.get_put_disjoint b _ _ node (.inl (show 6 < 8 by decide)) :
    c.get (F.TRL_P_STAT_LOCKED k) = b.get _).trans hblocked
  have hcvalid : c.get (F.TRL_P_STAT_PEER_VALID k) = 1 := (hc ▸ Part.get_put_disjoint b _ _ node (.inl (show 7 < 8 by decide)) :
    c.get (F.TRL_P_STAT_PEER_VALID k) = b.get _).trans hbvalid
  have hcnode : c.get (F.TRL_P_STAT_PEER_NODE k) = node :=
    hc ▸ (Part.get_put_self b _ _ (show 9 < 32 by decide)).trans (Nat.mod_eq_of_lt hn)
  have hconly : p.PortOnly k (portRegs k) c := hc ▸ hbonly.also_put _ _ hstat
  simp only [ha, hb, hc]
  obtain ⟨d, hd⟩ : ∃ d, c.set (F.TRL_P_EVENTS_UP k) = d := ⟨_, rfl⟩
  have hdstat (f : Fld) (hf : f.reg = R.TRL_P_STAT k) : d.get f = c.get f :=
    hd ▸ Part.get_put_reg c _ _ _ (by rw [hf]; exact hevents.symm)
  have hdup : d.get (F.TRL_P_EVENTS_UP k) = 1 := hd ▸ Part.get_put_bit c _ 0 1 (by decide)
  have hdonly : p.PortOnly k (portRegs k) d := hd ▸ hconly.also_put _ _ hevent
  obtain ⟨e, he⟩ : ∃ e, (if p.trlState k == 3 then d.set (F.TRL_P_EVENTS_RETRAINED k) else d) = e := ⟨_, rfl⟩
  have hlater : (∀ f : Fld, f.reg = R.TRL_P_STAT k → e.get f = d.get f) ∧ e.get (F.TRL_P_EVENTS_UP k) = 1 ∧ p.PortOnly k (portRegs k) e := by
    rw [← he]
    split
    · exact ⟨fun f hf => Part.get_put_reg d _ _ _ (by rw [hf]; exact hevents.symm),
        (Part.get_put_disjoint d _ _ _ (.inl (show 0 < 2 by decide))).trans hdup, hdonly.also_put _ _ hevent⟩
    · exact ⟨fun _ _ => rfl, hdup, hdonly⟩
  simp only [hd, he]
  obtain ⟨hestat, heup, heonly⟩ := hlater
  refine ⟨?_, ?_, ?_, ?_, heonly.trans (.modTport e _)⟩
  · rw [Part.modTport_get, hestat _ rfl, hdstat _ rfl, hclocked]
  · rw [Part.modTport_get, hestat _ rfl, hdstat _ rfl, hcvalid]
  · rw [Part.modTport_get, hestat _ rfl, hdstat _ rfl, hcnode]
  · rw [Part.modTport_get, heup]

section
variable {k : Nat} {s : State} (hs : Ready s) (hk : k < 2) (hlive : s.part.live = true)
include hs hk hlive

section
variable {node ring port order : Nat} (hst : s.part.trlState k = 1 ∨ s.part.trlState k = 3) (hnode : node < 4) (hring : ring < 8)
  (hport : port < 2) (horder : order < 2 ^ 32)
include hst hnode hring hport horder

theorem exec_trainingComplete : exec (.trainingComplete k node ring port order) s =
    .next (s.settle (s.part.trainDone k node ring port order)) := by
  have hcode : order < 4294967296 := horder
  refine next_trainingComplete k node ring port order s hs.1 ?_
  rcases hst with h | h <;> simp [Instr.wf, hk, hnode, hring, hport, hcode, hlive, h]

/-- The peer's identity is the expected one: the port is UP. -/
theorem completes_training_up (hcause : s.part.identCause k node ring port order = 0) :
    Completes (.trainingComplete k node ring port order) s (fun t => t.part.trlState k = 2 ∧
      t.part.get (F.TRL_P_STAT_PEER_VALID k) = 1 ∧ t.part.get (F.TRL_P_STAT_PEER_NODE k) = node ∧
      t.part.get (F.TRL_P_STAT_LOCKED k) = 15 ∧ t.part.get (F.TRL_P_EVENTS_UP k) = 1 ∧ (t.part.tport k).awaiting = true ∧
      TrellisOnly s t) := by
  obtain ⟨-, hevents, -⟩ := portReg_ne k
  have he := exec_trainingComplete hs hk hlive hst hnode hring hport horder
  rw [Part.trainDone_good _ hcause] at he
  obtain ⟨hlocked, hvalid, hpeer, hup, honly⟩ := s.part.trainShown_spec (k := k) hnode
  obtain ⟨q, hq⟩ : ∃ q, s.part.trainShown k node = q := ⟨_, rfl⟩
  rw [hq] at he hlocked hvalid hpeer hup honly
  obtain ⟨r, hr⟩ : ∃ r, (match (s.part.tport k).resync with
    | some vc => q.creditTimeout k vc
    | none => q.sendResync k) = r := ⟨_, rfl⟩
  have hasked : (r.tport k).awaiting = true ∧ q.PortOnly k (portRegs k) r ∧
      ∀ f : Fld, f.reg = R.TRL_P_STAT k ∨ (f.reg = R.TRL_P_EVENTS k ∧ f.hi < 3) → r.get f = q.get f := by
    rw [← hr]
    split
    · next vc _ =>
      obtain ⟨-, -, hawaiting, -, hport, hkept⟩ := q.creditTimeout_spec hk vc
      exact ⟨hawaiting, hport, hkept⟩
    · obtain ⟨⟨b, hport, -⟩, hget, hrest, -⟩ := q.sendResync_spec k
      exact ⟨by rw [hport], hrest _, fun f _ => hget f⟩
  rw [hr] at he
  obtain ⟨hawaiting, hrest, hkept⟩ := hasked
  obtain ⟨hstate, hsends, -⟩ := r.setTrlState_spec hk (st := 2) (by decide)
  refine completes_port he hs hk ((honly.trans hrest).also_state hk (by decide)) fun hclaim => ⟨hstate, ?_, ?_, ?_, ?_,
    (congrArg TrlPort.awaiting (hsends.tport k)).trans hawaiting, hclaim⟩
  · exact (Part.get_setTrlState hk (by decide) (portFld_stat k) (.inr (show 2 < 7 by decide))).trans ((hkept _ (.inl rfl)).trans hvalid)
  · exact (Part.get_setTrlState hk (by decide) (portFld_stat k) (.inr (show 2 < 8 by decide))).trans ((hkept _ (.inl rfl)).trans hpeer)
  · exact (Part.get_setTrlState hk (by decide) (portFld_stat k) (.inr (show 2 < 3 by decide))).trans ((hkept _ (.inl rfl)).trans hlocked)
  · exact (Part.get_setTrlState hk (by decide) (portFld_events k) (.inl hevents)).trans
      ((hkept _ (.inr ⟨rfl, show 0 < 3 by decide⟩)).trans hup)

/-- Another identity: the port is DOWN with the cause. -/
theorem completes_training_down (hcause : s.part.identCause k node ring port order ≠ 0) :
    Completes (.trainingComplete k node ring port order) s (fun t => t.part.trlState k = 4 ∧
      t.part.get (F.TRL_P_STAT_CAUSE k) = s.part.identCause k node ring port order ∧ t.part.get (F.TRL_P_EVENTS_DOWN k) = 1 ∧
      TrellisOnly s t) := by
  have he := exec_trainingComplete hs hk hlive hst hnode hring hport horder
  rw [Part.trainDone] at he
  simp only at he
  rw [if_pos hcause] at he
  obtain ⟨hstate, hshown, hdown, honly⟩ := s.part.trlDown_spec hk (s.part.identCause_lt k node ring port order)
  exact completes_port he hs hk honly fun hclaim => ⟨hstate, hshown, hdown, hclaim⟩

end

/-! Training takes too long, a port stays DOWN, a lane loses block lock (R515). -/

theorem exec_trainingTimeout (hst : s.part.trlState k = 1 ∨ s.part.trlState k = 3) :
    exec (.trainingTimeout k) s = .next (s.settle (s.part.trainTimeout k)) := by
  refine next_trainingTimeout k s hs.1 ?_
  rcases hst with h | h <;> simp [Instr.wf, hk, hlive, h]

/-- Training has not finished in time. -/
theorem completes_training_timeout (h1 : s.part.trlState k = 1) : Completes (.trainingTimeout k) s (fun t => t.part.trlState k = 4 ∧
    t.part.get (F.TRL_P_STAT_CAUSE k) = 1 ∧ TrellisOnly s t) := by
  have he := exec_trainingTimeout hs hk hlive (.inl h1)
  rw [Part.trainTimeout, if_pos h1] at he
  obtain ⟨hstate, hshown, -, honly⟩ := s.part.trlDown_spec hk (cause := 1) (by decide)
  exact completes_port he hs hk honly fun hclaim => ⟨hstate, hshown, hclaim⟩

/-- A retrain has not finished in time for the third time. -/
theorem completes_retrain_lost (h3 : s.part.trlState k = 3) (hfail : 2 ≤ (s.part.tport k).failures) :
    Completes (.trainingTimeout k) s (fun t => t.part.trlState k = 4 ∧ t.part.get (F.TRL_P_STAT_CAUSE k) = 5 ∧ TrellisOnly s t) := by
  have he := exec_trainingTimeout hs hk hlive (.inr h3)
  rw [Part.trainTimeout, if_neg (by omega)] at he
  simp only at he
  rw [if_pos (by omega)] at he
  obtain ⟨hstate, hshown, -, honly⟩ := s.part.trlDown_spec hk (cause := 5) (by decide)
  exact completes_port he hs hk honly fun hclaim => ⟨hstate, hshown, hclaim⟩

/-- A retrain has not finished in time before that: it is counted, and goes on. -/
theorem completes_retrain_failed (h3 : s.part.trlState k = 3) (hfail : (s.part.tport k).failures < 2) :
    Completes (.trainingTimeout k) s (fun t => t.part.trlState k = 3 ∧ (t.part.tport k).failures = (s.part.tport k).failures + 1 ∧
      t.part.get (F.TRL_P_RETRAINS_COUNT k) = min (s.part.get (F.TRL_P_RETRAINS_COUNT k) + 1) 65535 ∧ TrellisOnly s t) := by
  obtain ⟨-, -, hretrains, -⟩ := portReg_ne k
  have he := exec_trainingTimeout hs hk hlive (.inr h3)
  rw [Part.trainTimeout, if_neg (by omega)] at he
  simp only at he
  rw [if_neg (by omega)] at he
  obtain ⟨q, hq⟩ : ∃ q, s.part.modTport k (fun u => { u with failures := (s.part.tport k).failures + 1 }) = q := ⟨_, rfl⟩
  have hfailed : (q.tport k).failures = (s.part.tport k).failures + 1 := by rw [← hq, Part.modTport, Part.tport_setTport]
  have hget (f : Fld) : q.get f = s.part.get f := by rw [← hq, Part.modTport_get]
  have honly : s.part.PortOnly k (portRegs k) q := hq ▸ .modTport _ _
  rw [hq] at he
  have hcount := Part.get_addSat16 q (R.TRL_P_RETRAINS k) 1
  have hstate : (q.addSat (F.TRL_P_RETRAINS_COUNT k) 1).trlState k = q.trlState k := Part.get_put_reg q _ _ _ hretrains.symm
  refine completes_port he hs hk (honly.also_put _ _ (by simp [portRegs, F.TRL_P_RETRAINS_COUNT])) fun hclaim =>
    ⟨hstate.trans ((hget _).trans h3), hfailed, hcount.trans ?_, hclaim⟩
  rw [hget]
  rfl

/-- A port that stays DOWN trains again. -/
theorem completes_downHoldoffExpiry (h4 : s.part.trlState k = 4) (hen : s.part.get (F.TRL_P_CTRL_EN k) = 1) :
    Completes (.downHoldoffExpiry k) s (fun t => t.part.trlState k = 1 ∧ TrellisOnly s t) := by
  have he := next_downHoldoffExpiry k s hs.1 (by simp [Instr.wf, hk, hlive, h4, (s.part.on_iff _).mpr hen])
  exact completes_port he hs hk ((Part.PortOnly.refl k _ s.part).also_state hk (by decide)) fun hclaim =>
    ⟨(s.part.setTrlState_spec hk (by decide)).1, hclaim⟩

/-- A lane that loses block lock retrains its port. -/
theorem completes_blockLockLoss {lane : Nat} (h2 : s.part.trlState k = 2) (hlane : lane < 4) :
    Completes (.trellisBlockLockLoss k lane) s (fun t => t.part.trlState k = 3 ∧
      (t.part.get (F.TRL_P_STAT_LOCKED k)).testBit lane = false ∧ TrellisOnly s t) := by
  have he := next_trellisBlockLockLoss k lane s hs.1 (by simp [Instr.wf, hk, hlive, h2, hlane])
  rw [Part.blockLockLost] at he
  have hclear := s.part.testBit_clrBit (F.TRL_P_STAT_LOCKED k) lane (show 6 < 32 by decide)
  have hstate : (s.part.clrBit (F.TRL_P_STAT_LOCKED k) lane).trlState k = s.part.trlState k :=
    Part.get_put_disjoint s.part _ _ _ (.inl (show 2 < 3 by decide))
  have honly : s.part.PortOnly k (portRegs k) (s.part.clrBit (F.TRL_P_STAT_LOCKED k) lane) :=
    .put _ _ _ (by simp [portRegs, F.TRL_P_STAT_LOCKED])
  obtain ⟨q, hq⟩ : ∃ q, s.part.clrBit (F.TRL_P_STAT_LOCKED k) lane = q := ⟨_, rfl⟩
  rw [hq] at he hclear hstate honly
  obtain ⟨hretrain, -, hrest, hkept⟩ := q.trlRetrain_spec hk (hstate.trans h2)
  refine completes_port he hs hk (honly.trans hrest) fun hclaim => ⟨hretrain, ?_, hclaim⟩
  show ((q.trlRetrain k).get (F.TRL_P_STAT_LOCKED k)).testBit lane = false
  rw [hkept _ rfl (show 2 < 3 by decide)]
  exact hclear

end

/-- Settles O50: firmware's writes, the ends of training, and what the port's timers and lanes do. -/
theorem trellisPortStates : Obligations.TrellisPortStates :=
  fun _ _ hs hk => ⟨fun _ hw => ⟨fun h0 => completes_trlEnable_start hs hk hw h0, fun h0 => completes_trlEnable_again hs hk hw h0,
      fun h0 => completes_trlDisable_again hs hk hw h0, fun h0 => completes_trlDisable hs hk hw h0,
      fun hen h2 => completes_retrain hs hk hw hen h2, fun hen h0 h2 => completes_retrain_ignored hs hk hw hen h0 h2⟩,
    fun _ _ _ _ hlive hst hnode hring hport horder =>
      ⟨fun hcause => completes_training_up hs hk hlive hst hnode hring hport horder hcause,
        fun hcause => completes_training_down hs hk hlive hst hnode hring hport horder hcause⟩,
    fun hlive => ⟨fun h1 => completes_training_timeout hs hk hlive h1, fun h3 hfail => completes_retrain_lost hs hk hlive h3 hfail,
      fun h3 hfail => completes_retrain_failed hs hk hlive h3 hfail, fun h4 hen => completes_downHoldoffExpiry hs hk hlive h4 hen,
      fun _ h2 hlane => completes_blockLockLoss hs hk hlive h2 hlane⟩⟩

end Sys2Proof.Machine
end


section
/-! SUPPORT. Flits of a Trellis port that is UP (R522 to R528, R541, R542). -/

namespace Sys2Proof.Machine

open Sys2Proof.Claim

/-! Numbers and their bytes. -/

theorem leNat_toLe (k n : Nat) : leNat (toLe k n) = n % 256 ^ k := by
  induction k generalizing n with
  | zero => simp [toLe, leNat, Nat.mod_one]
  | succ k ih =>
    rw [toLe, leNat, ih, BitVec.toNat_ofNat, Nat.mod_mod, Nat.pow_succ', Nat.mod_mul]

/-- A step of a CRC stays within 32 bits. -/
theorem Crypto.crcStep_lt {poly : Nat} (hpoly : poly < 2 ^ 32) (n : Nat) {c : Nat} (hc : c < 2 ^ 32) : Crypto.crcStep poly n c < 2 ^ 32 := by
  induction n generalizing c with
  | zero => exact hc
  | succ n ih =>
    refine ih ?_
    split
    · exact Nat.xor_lt_two_pow (by omega) hpoly
    · omega

theorem Crypto.crc32c_lt (m : List Byte) : Crypto.crc32c m < 2 ^ 32 := by
  have hfold (m : List Byte) (c : Nat) (hc : c < 2 ^ 32) :
      m.foldl (fun c b => Crypto.crcStep 0x82F63B78 8 (c ^^^ b.toNat)) c < 2 ^ 32 := by
    induction m generalizing c with
    | nil => exact hc
    | cons b m ih => exact ih _ (Crypto.crcStep_lt (by decide) 8 (Nat.xor_lt_two_pow hc (by omega)))
  exact Nat.xor_lt_two_pow (hfold m _ (by decide)) (by decide)

/-! A flit that leaves (R522, R526). -/

/-- A port's flit: 64 bytes that carry the kind, the payload, and the CRC of what stands before it; only what the port owes changes. -/
theorem Part.flitOut_spec (p : Part) (k kind vc lseq : Nat) (payload : List Byte) (hlen : payload.length ≤ 52) :
    (∃ b : List Byte, (p.flitOut k kind vc lseq payload).out = .flit k b :: p.out ∧ b.length = 64 ∧ b.take 1 = toLe 1 kind ∧
      (b.drop 8).take payload.length = payload ∧ leNat (b.drop 60) = Crypto.crc32c (b.take 60)) ∧
    ∃ owed, p.flitOut k kind vc lseq payload =
      { p.modTport k (fun u => { u with owed := owed }) with out := (p.flitOut k kind vc lseq payload).out } := by
  unfold Part.flitOut Part.flitBytes
  extract_lets u ack own cv n body r
  obtain ⟨head, hhead⟩ : ∃ head, toLe 1 vc ++ toLe 2 lseq ++ toLe 2 ack ++ toLe 2 (cv + 4 * n + 1024 * (u.peerGen % 64)) = head := ⟨_, rfl⟩
  have hheadLen : head.length = 7 := by simp [← hhead, toLe_length]
  have hbody : body = toLe 1 kind ++ (head ++ (payload ++ List.replicate 52 0).take 52) := by
    rw [← hhead]
    simp only [body, List.append_assoc]
  have hdata : ((payload ++ List.replicate 52 (0 : Byte)).take 52).length = 52 := by simp
  have hbodyLen : body.length = 60 := by rw [hbody]; simp [toLe_length, hheadLen]
  have hcrc := Crypto.crc32c_lt body
  refine ⟨⟨body ++ toLe 4 (Crypto.crc32c body), rfl, ?_, ?_, ?_, ?_⟩, _, rfl⟩
  · rw [List.length_append, hbodyLen, toLe_length]
  · rw [hbody, List.append_assoc]
    exact List.take_left' (toLe_length 1 kind)
  · have hdrop : (body ++ toLe 4 (Crypto.crc32c body)).drop 8 = (payload ++ List.replicate 52 0).take 52 ++ toLe 4 (Crypto.crc32c body) := by
      rw [hbody, ← List.append_assoc, List.append_assoc _ _ (toLe 4 _)]
      exact List.drop_left' (by rw [List.length_append, toLe_length, hheadLen])
    rw [hdrop, List.take_append_of_le_length (by omega), List.take_take, Nat.min_eq_left hlen]
    exact List.take_left
  · rw [List.drop_left' hbodyLen, List.take_left' hbodyLen, leNat_toLe, Nat.mod_eq_of_lt (by omega)]

/-! Receiving, resending, and credits (R522 to R524, R528). -/

section
variable {k : Nat} {s : State} (hs : Ready s) (hk : k < 2) (hlive : s.part.live = true) (h2 : s.part.trlState k = 2)
include hs hk hlive h2

theorem exec_flitRx {flit : List Byte} (hlen : flit.length = 64) :
    exec (.flitRx k flit) s = .next (s.settle (s.part.flitRx s.ns k flit)) :=
  next_flitRx k flit s hs.1 (by simp [Instr.wf, hk, hlive, h2, hlen])

/-- A flit whose CRC fails. -/
theorem completes_flitRx_bad {flit : List Byte} (hlen : flit.length = 64) (hcrc : Crypto.crc32c (flit.take 60) ≠ leNat (flit.drop 60)) :
    Completes (.flitRx k flit) s (fun t =>
      t.part.get (F.TRL_P_CRC_ERR_COUNT k) = min (s.part.get (F.TRL_P_CRC_ERR_COUNT k) + 1) 65535 ∧
      (t.part.tport k) = (if (s.part.tport k).nakked then s.part.tport k else
        { s.part.tport k with control := (s.part.tport k).control ++ [toLe 1 1 ++ toLe 2 (s.part.tport k).expect], nakked := true }) ∧
      (∀ a, a ≠ R.TRL_P_CRC_ERR k → t.part.reg a = s.part.reg a) ∧
      t = { s with part := { s.part with regs := t.part.regs, trl := t.part.trl } }) := by
  have he := exec_flitRx hs hk hlive h2 hlen
  have hwhole : (flit.drop 60).take 4 = flit.drop 60 := List.take_of_length_le (by rw [List.length_drop, hlen])
  have heff : s.part.flitRx s.ns k flit = (s.part.addSat (F.TRL_P_CRC_ERR_COUNT k) 1).trlNak k := by
    unfold Part.flitRx
    extract_lets n
    exact if_pos (.inr (by simpa only [n, hwhole] using hcrc))
  rw [heff] at he
  have hcount := Part.get_addSat16 s.part (R.TRL_P_CRC_ERR k) 1
  obtain ⟨q, hq⟩ : ∃ q, s.part.addSat (F.TRL_P_CRC_ERR_COUNT k) 1 = q := ⟨_, rfl⟩
  rw [show s.part.addSat ⟨R.TRL_P_CRC_ERR k, 15, 0⟩ 1 = q from hq] at hcount
  have hin : s.part.InRegs [R.TRL_P_CRC_ERR k] q := hq ▸ (Part.InRegs.refl _ s.part).put (F.TRL_P_CRC_ERR_COUNT k) _ (.head _)
  have hreg (a : Nat) (ha : a ≠ R.TRL_P_CRC_ERR k) : q.reg a = s.part.reg a := hin.2 a (by simpa using ha)
  have hport : q.tport k = s.part.tport k := by rw [hin.1]; rfl
  rw [hq, Part.trlNak, hport] at he
  by_cases hnak : (s.part.tport k).nakked = true
  · rw [if_pos hnak] at he
    refine completes_of_still he (hin.sdl ▸ hs.2) ⟨hcount, ?_, hreg, by rw [hin.1]⟩
    rw [if_pos hnak]
    exact hport
  · rw [if_neg hnak] at he
    obtain ⟨u, hu⟩ : ∃ u, (q.trlControl k (toLe 1 1 ++ toLe 2 (s.part.tport k).expect)).modTport k (fun u => { u with nakked := true }) = u :=
      ⟨_, rfl⟩
    have hget (f : Fld) : u.get f = q.get f := by rw [← hu, Part.modTport_get, Part.trlControl, Part.modTport_get]
    have hregs (a : Nat) : u.reg a = q.reg a := by rw [← hu]; rfl
    have hrest : u = { q with trl := u.trl } := by rw [← hu]; rfl
    have hnaked : u.tport k = { s.part.tport k with
        control := (s.part.tport k).control ++ [toLe 1 1 ++ toLe 2 (s.part.tport k).expect], nakked := true } := by
      rw [← hu, Part.modTport, Part.tport_setTport, Part.trlControl, Part.modTport, Part.tport_setTport, hport]
    rw [hu] at he
    refine completes_of_still he (by rw [hrest, hin.1]; exact hs.2) ⟨(hget _).trans hcount, ?_, fun a ha => (hregs a).trans (hreg a ha),
      by rw [hrest, hin.1]⟩
    rw [if_neg hnak]
    exact hnaked

section
variable (hheld : (s.part.tport k).held ≠ [])
include hheld

theorem exec_resendTimerExpiry : exec (.resendTimerExpiry k) s = .next (s.settle (s.part.resendTimer k)) :=
  next_resendTimerExpiry k s hs.1 (by simp [Instr.wf, hk, hlive, h2, hheld])

/-- The resend timer resends from the oldest held flit. -/
theorem completes_resend (h7 : (s.part.tport k).resends < 7) : Completes (.resendTimerExpiry k) s (fun t =>
    t.part.tport k = { s.part.tport k with resends := (s.part.tport k).resends + 1, resend := (s.part.tport k).held.length } ∧
    t.part.get (F.TRL_P_REPLAYS_COUNT k) = min (s.part.get (F.TRL_P_REPLAYS_COUNT k) + 1) 65535 ∧
    (∀ a, a ≠ R.TRL_P_REPLAYS k → t.part.reg a = s.part.reg a) ∧
    t = { s with part := { s.part with regs := t.part.regs, trl := t.part.trl } }) := by
  have he := exec_resendTimerExpiry hs hk hlive h2 hheld
  rw [Part.resendTimer, if_neg (by omega)] at he
  obtain ⟨q, hq⟩ : ∃ q, s.part.modTport k (fun u => { u with resends := (s.part.tport k).resends + 1, resend := u.held.length }) = q := ⟨_, rfl⟩
  have hport : q.tport k = { s.part.tport k with resends := (s.part.tport k).resends + 1, resend := (s.part.tport k).held.length } := by
    rw [← hq, Part.modTport, Part.tport_setTport]
  have hget (f : Fld) : q.get f = s.part.get f := by rw [← hq, Part.modTport_get]
  have hregs (a : Nat) : q.reg a = s.part.reg a := by rw [← hq]; rfl
  have hrest : q = { s.part with trl := q.trl } := by rw [← hq]; rfl
  rw [hq] at he
  have hcount := Part.get_addSat16 q (R.TRL_P_REPLAYS k) 1
  rw [hget] at hcount
  exact completes_of_still he (show q.sdl.step = 0 by rw [hrest]; exact hs.2) ⟨hport, hcount,
    fun a ha => (Part.reg_put_other q _ _ ha).trans (hregs a), by rw [hrest]; rfl⟩

/-- The eighth resend in a row retrains. -/
theorem completes_resend_retrains (h7 : 7 ≤ (s.part.tport k).resends) :
    Completes (.resendTimerExpiry k) s (fun t => t.part.trlState k = 3 ∧ TrellisOnly s t) := by
  have he := exec_resendTimerExpiry hs hk hlive h2 hheld
  rw [Part.resendTimer, if_pos (by omega)] at he
  obtain ⟨hstate, -, honly, -⟩ := s.part.trlRetrain_spec hk h2
  exact completes_port he hs hk honly fun hclaim => ⟨hstate, hclaim⟩

end

/-- A CRED_RESYNC without an answer goes again. -/
theorem completes_credResyncResend (hawaiting : (s.part.tport k).awaiting = true) : Completes (.credResyncResend k) s (fun t =>
    (∃ b : List Byte, t.part.tport k = { s.part.tport k with control := (s.part.tport k).control ++ [b] } ∧ b.length = 11 ∧
      b.take 3 = toLe 1 3 ++ toLe 2 (s.part.get (F.TRL_P_CRED_GEN_GEN k))) ∧
    t = { s with part := { s.part with trl := t.part.trl } }) := by
  have he := next_credResyncResend k s hs.1 (by simp [Instr.wf, hk, hlive, h2, hawaiting])
  obtain ⟨⟨b, hport, hlen, htake⟩, -, -, -, hrest⟩ := s.part.sendResync_spec k
  obtain ⟨q, hq⟩ : ∃ q, s.part.sendResync k = q := ⟨_, rfl⟩
  rw [hq] at he hport hrest
  have hsame : q.tport k = { s.part.tport k with control := (s.part.tport k).control ++ [b] } := hport.trans (by simp only [hawaiting])
  exact completes_of_still he (by rw [hrest]; exact hs.2) ⟨⟨b, hsame, hlen, htake⟩, by rw [hrest]⟩

/-- A slot sends a waiting control body before anything else. -/
theorem completes_flitTx_control {body : List Byte} {rest : List (List Byte)} (hcontrol : (s.part.tport k).control = body :: rest)
    (hlen : body.length ≤ 52) : Completes (.flitTx k) s (fun t => (t.part.tport k).control = rest ∧
      (∃ b : List Byte, t.part.out = .flit k b :: s.part.out ∧ b.length = 64 ∧ b.take 1 = [5] ∧ (b.drop 8).take body.length = body ∧
        leNat (b.drop 60) = Crypto.crc32c (b.take 60)) ∧
      (∀ j, j ≠ k → t.part.tport j = s.part.tport j) ∧
      t = { s with part := { s.part with trl := t.part.trl, out := t.part.out } }) := by
  have he := next_flitTx k s hs.1 (by simp [Instr.wf, hk, hlive, h2])
  obtain ⟨q, hq⟩ : ∃ q, s.part.modTport k (fun u => { u with control := rest }) = q := ⟨_, rfl⟩
  have heff : s.part.flitTx s.ns k = q.flitOut k 5 0 0 body := by
    unfold Part.flitTx
    simp only [hcontrol, hq]
  rw [heff] at he
  have hport : (q.tport k).control = rest := by rw [← hq, Part.modTport, Part.tport_setTport]
  have hother (j : Nat) (hj : j ≠ k) : q.tport j = s.part.tport j := hq ▸ s.part.tport_setTport_other _ hj
  have hrest : q = { s.part with trl := q.trl } := by rw [← hq]; rfl
  obtain ⟨⟨b, hout, hb⟩, owed, hflit⟩ := q.flitOut_spec k 5 0 0 body hlen
  obtain ⟨u, hu⟩ : ∃ u, q.modTport k (fun v => { v with owed := owed }) = u := ⟨_, rfl⟩
  have hsent : (u.tport k).control = rest := by rw [← hu, Part.modTport, Part.tport_setTport]; exact hport
  have hsentOther (j : Nat) (hj : j ≠ k) : u.tport j = s.part.tport j := (hu ▸ q.tport_setTport_other _ hj : u.tport j = q.tport j).trans (hother j hj)
  have hsentRest : u = { s.part with trl := u.trl } := by rw [← hu, hrest]; rfl
  obtain ⟨out, houtEq⟩ : ∃ out, (q.flitOut k 5 0 0 body).out = out := ⟨_, rfl⟩
  rw [hu, houtEq] at hflit
  rw [hflit] at he
  rw [houtEq, show q.out = s.part.out by rw [hrest]] at hout
  exact completes_of_still he (show u.sdl.step = 0 by rw [hsentRest]; exact hs.2) ⟨hsent, ⟨b, hout, hb⟩, hsentOther, by rw [hsentRest]⟩

end

/-- A VC that has stalled in UP. -/
theorem completes_creditTimeout {k vc : Nat} {s : State} (hs : Ready s) (hk : k < 2) (hlive : s.part.live = true) (hvc : vc < 3)
    (hstalled : s.part.vcStalled k vc = true) (h2 : s.part.trlState k = 2) : Completes (.creditTimeout k vc) s (fun t =>
      t.part.get (F.TRL_P_CRED_GEN_GEN k) = (s.part.get (F.TRL_P_CRED_GEN_GEN k) + 1) % 65536 ∧
      t.part.get (F.TRL_P_EVENTS_RESYNC k) = 1 ∧ (t.part.tport k).awaiting = true ∧
      (∀ f ∈ t.part.trl.waiting, ¬(f.vc = vc ∧ s.part.routeTo f.dst = k)) ∧ TrellisOnly s t) := by
  have he := next_creditTimeout k vc s hs.1 (by simp [Instr.wf, hk, hlive, hvc, hstalled])
  rw [Part.creditStall, if_neg (by omega)] at he
  obtain ⟨hgen, hresync, hawaiting, hgone, honly, -⟩ := s.part.creditTimeout_spec hk vc
  exact completes_port he hs hk honly fun hclaim => ⟨hgen, hresync, hawaiting, hgone, hclaim⟩

/-- A VC that has stalled while the port retrains waits for its end. -/
theorem completes_creditTimeout_waits {k vc : Nat} {s : State} (hs : Ready s) (hk : k < 2) (hlive : s.part.live = true) (hvc : vc < 3)
    (hstalled : s.part.vcStalled k vc = true) (h3 : s.part.trlState k = 3) : Completes (.creditTimeout k vc) s (fun t =>
      t.part.tport k = { s.part.tport k with resync := some vc } ∧ t = { s with part := { s.part with trl := t.part.trl } }) := by
  have he := next_creditTimeout k vc s hs.1 (by simp [Instr.wf, hk, hlive, hvc, hstalled])
  rw [Part.creditStall, if_pos h3] at he
  exact completes_of_still he hs.2 ⟨Part.tport_setTport _ _ _, rfl⟩

/-- Settles O51: flits received, resent and sent, and the credits' timeouts. -/
theorem trellisFlits : Obligations.TrellisFlits :=
  fun _ _ hs hk hlive => ⟨fun _ h2 hlen => exec_flitRx hs hk hlive h2 hlen,
    fun _ h2 hlen hcrc => completes_flitRx_bad hs hk hlive h2 hlen hcrc,
    fun h2 hheld h7 => completes_resend hs hk hlive h2 hheld h7,
    fun h2 hheld h7 => completes_resend_retrains hs hk hlive h2 hheld h7,
    fun _ hvc hstalled => ⟨fun h2 => completes_creditTimeout hs hk hlive hvc hstalled h2,
      fun h3 => completes_creditTimeout_waits hs hk hlive hvc hstalled h3⟩,
    fun h2 hawaiting => completes_credResyncResend hs hk hlive h2 hawaiting,
    fun h2 => next_flitTx _ _ hs.1 (by simp [Instr.wf, hk, hlive, h2]),
    fun _ _ h2 hcontrol hlen => completes_flitTx_control hs hk hlive h2 hcontrol hlen⟩

end Sys2Proof.Machine
end


section
/-! SUPPORT. Crates (R492, R494, R495, R498): closed, waited for, sealed, staged, delivered and announced. -/

namespace Sys2Proof.Machine

open Sys2Proof.Claim

/-! Harvest's unit. -/

theorem Part.hv_modHv (p : Part) (k : Nat) (f : HvsPlot → HvsPlot) : (p.modHv k f).hv k = f (p.hv k) := FMap.get_put_self _ _ _ _

theorem Part.hv_modHv_other (p : Part) {k j : Nat} (f : HvsPlot → HvsPlot) (h : j ≠ k) : (p.modHv k f).hv j = p.hv j :=
  FMap.get_put_other _ _ _ h

/-- A crate whose wait is over closes with CLOSE 1. -/
theorem completes_crateWaitExpiry {plot : Nat} {o : OpenCrate} {s : State} (hs : Ready s) (hplot : plot < 9) (hlive : s.part.live = true)
    (hopened : (s.part.hv plot).opened = some o) (hover : o.firstAt + s.part.get (F.HVS_P_WAIT_US plot) * 1000 ≤ s.ns) :
    Completes (.crateWaitExpiry plot) s (fun t => (t.part.hv plot).opened = none ∧
      (∃ c, (t.part.hv plot).closed = (s.part.hv plot).closed ++ [c] ∧ c.recs = o.recs ∧ c.close = 1 ∧
        c.job = s.part.get (F.HVS_P_SEAL_JOB_JOB plot)) ∧
      (∀ k, k ≠ plot → t.part.hv k = s.part.hv k) ∧ t = { s with part := { s.part with hvs := t.part.hvs } }) := by
  have hwait : s.part.waitOver s.ns plot = true := by simp [Part.waitOver, hopened, hover]
  have he := next_crateWaitExpiry plot s hs.1 (by simp [Instr.wf, hplot, hlive, hwait])
  rw [Part.closeCrate, hopened] at he
  simp only at he
  obtain ⟨c, hc⟩ : ∃ c : ClosedCrate, ⟨o.recs, 1, (s.part.get (F.HVS_P_SEQ_SEQ plot) + 2 ^ 32 - o.recs.length) % 2 ^ 32,
    s.part.get (F.HVS_P_SEAL_JOB_JOB plot)⟩ = c := ⟨_, rfl⟩
  rw [hc] at he
  refine completes_of_still he hs.2 ⟨?_, ⟨c, ?_, by rw [← hc], by rw [← hc], by rw [← hc]⟩, fun k hk => Part.hv_modHv_other _ _ hk, rfl⟩
  · exact congrArg HvsPlot.opened (Part.hv_modHv _ _ _)
  · exact congrArg HvsPlot.closed (Part.hv_modHv _ _ _)

/-! HVS_P_WAIT (R494). -/

theorem regAt_hvsPWait {plot : Nat} (h : plot < 9) : regAt (R.HVS_P_WAIT plot) =
    if plot = 0 then some (⟨0x4, 1, 0, 1, 0, [⟨19, 0, .rw, 1000000⟩]⟩, 0, 0)
    else some (⟨0x104, 8, 0x100, 1, 0, [⟨19, 0, .rw, 10000⟩]⟩, plot - 1, 0) := by
  match plot, h with
  | 0, _ | 1, _ | 2, _ | 3, _ | 4, _ | 5, _ | 6, _ | 7, _ | 8, _ => rfl

section
variable {plot : Nat} (hplot : plot < 9)
include hplot

theorem hvsPWait_place : R.HVS_P_WAIT plot / 0x100000 = 7 ∧ R.HVS_P_WAIT plot % 0x100000 = 4 + plot * 0x100 ∧
    R.HVS_P_WAIT plot % 4 = 0 ∧ R.HVS_P_WAIT plot < 0x710000 := by
  unfold R.HVS_P_WAIT
  omega

/-- A write of HVS_P_WAIT follows its own rule. -/
theorem Part.regStore_hvsPWait (p : Part) (t : Nat) (w : Who) (us : Word) :
    p.regStore t w 0 (R.HVS_P_WAIT plot) us = p.waitWrite plot (us.bits 19 0) := by
  obtain ⟨hblk, -, -, hlow⟩ := hvsPWait_place hplot
  have hring : isHostRing (R.HVS_P_WAIT plot) = false := by
    have hbelow : ¬ 0x710000 ≤ R.HVS_P_WAIT plot := by omega
    simp [isHostRing, hbelow]
  have hrow := regAt_hvsPWait hplot
  by_cases h0 : plot = 0
  · rw [if_pos h0] at hrow
    refine Part.regStore_out (b := 7) (key := R.HVS_P_WAIT 0) hblk (.inl rfl) hring hrow rfl ?_
    rw [h0, Part.writeOut]
    exact if_pos rfl
  · rw [if_neg h0] at hrow
    refine Part.regStore_out (b := 7) (key := R.HVS_P_WAIT 1) hblk (.inl rfl) hring hrow rfl ?_
    rw [Part.writeOut, if_neg (by decide), if_pos rfl, show plot - 1 + 1 = plot by omega]

/-- Plot 0 firmware, or the plot itself, writes HVS_P_WAIT. -/
theorem Part.writeOf_hvsPWait {s : State} {w : Who} (hw : Reaches s w plot) (us : Word) :
    s.part.writeOf s.ns w (R.HVS_P_WAIT plot) us = s.part.waitWrite plot (us.bits 19 0) := by
  obtain ⟨hkind, -, howner⟩ := hw
  obtain ⟨hblk, hoff, halign, hlow⟩ := hvsPWait_place hplot
  have hcopy : copyOf (R.HVS_P_WAIT plot) = R.HVS_P_WAIT plot := if_neg (by omega)
  have hrow : (regAt (R.HVS_P_WAIT plot)).isSome = true := by
    rw [regAt_hvsPWait hplot]
    split <;> rfl
  rw [← s.part.regStore_hvsPWait hplot s.ns w us]
  by_cases hp : w.plot = 0
  · exact s.part.writeOf_firmware s.ns us hkind hp (by omega) halign (by rw [implemented, hcopy]; exact hrow) hcopy
  · have hp' : w.plot.val ≠ 0 := fun h0 => hp (Fin.ext h0)
    refine s.part.writeOf_page s.ns us hkind hp' (by omega) (by omega) halign hcopy ?_
    have hself : 7 * 0x100000 + (4 + plot * 0x100) = R.HVS_P_WAIT plot := by omega
    have hindex : (4 + plot * 0x100) / 0x100 = plot := by omega
    have hin : 4 + plot * 0x100 < 0x900 := by omega
    rw [Part.pageAt, hblk, hoff, howner.resolve_left hp]
    simp only [hself, hindex, hin, slotHit, hrow]
    simp

end

/-- A value within the plot's range is taken, any other leaves the field. -/
theorem completes_hvsPWaitWrite {w : Who} {plot : Nat} {s : State} (us : Word) (hs : Ready s) (hplot : plot < 9) (hw : Reaches s w plot) :
    let n := us.bits 19 0
    Completes (.hvsPWaitWrite w plot us) s (fun t => t.part.get (F.HVS_P_WAIT_US plot) =
        (if 100 ≤ n ∧ n ≤ (if plot = 0 then 1000000 else 100000) then n else s.part.get (F.HVS_P_WAIT_US plot)) ∧
      RegsOnly [R.HVS_P_WAIT plot] s t) := by
  intro n
  have he := next_hvsPWaitWrite w plot us s hs.1 (by simp [Instr.wf, hplot, hw.2.1])
  rw [Part.writeOf_hvsPWait hplot hw, Part.waitWrite] at he
  by_cases h : 100 ≤ n ∧ n ≤ (if plot = 0 then 1000000 else 100000)
  · rw [if_pos h] at he
    refine completes_of_still he hs.2 ⟨?_, ((Part.InRegs.refl [R.HVS_P_WAIT plot] s.part).put (F.HVS_P_WAIT_US plot) _ (.head _)).claim⟩
    rw [if_pos h]
    exact Part.get_put_bits s.part _ us (show 19 < 32 by decide)
  · rw [if_neg h] at he
    exact completes_of_still he hs.2 ⟨(if_neg h).symm, (Part.InRegs.refl _ s.part).claim⟩

/-! Sealing, staging and delivery (R492, R495). -/

/-- What delivering a crate of a plot leaves: its crates, its next CRATE_SEQ, memory, NOR and the Sundial's pending step. -/
def Part.KeepsCrates (plot : Nat) (p q : Part) : Prop :=
  (q.hv plot).closed = (p.hv plot).closed ∧ (q.hv plot).staged = (p.hv plot).staged ∧ (q.hv plot).cellarOut = (p.hv plot).cellarOut ∧
  (∀ a ∈ [R.HVS_P_CRATE_LO plot, R.HVS_P_CRATE_HI plot], q.reg a = p.reg a) ∧ q.mem = p.mem ∧ q.nor = p.nor ∧ q.sdl = p.sdl

section
variable {plot : Nat} {p q : Part}

theorem Part.KeepsCrates.refl (plot : Nat) (p : Part) : p.KeepsCrates plot p := ⟨rfl, rfl, rfl, fun _ _ => rfl, rfl, rfl, rfl⟩

theorem Part.KeepsCrates.trans {r : Part} (h : p.KeepsCrates plot q) (k : q.KeepsCrates plot r) : p.KeepsCrates plot r := by
  obtain ⟨hclosed, hstaged, hout, hregs, hmem, hnor, hsdl⟩ := h
  obtain ⟨kclosed, kstaged, kout, kregs, kmem, knor, ksdl⟩ := k
  exact ⟨kclosed.trans hclosed, kstaged.trans hstaged, kout.trans hout, fun a ha => (kregs a ha).trans (hregs a ha), kmem.trans hmem,
    knor.trans hnor, ksdl.trans hsdl⟩

/-- A part whose Harvest unit, memory and CRATE_SEQ are those of another. -/
theorem Part.KeepsCrates.of_hvs (hhvs : q.hvs = p.hvs) (hregs : ∀ a ∈ [R.HVS_P_CRATE_LO plot, R.HVS_P_CRATE_HI plot], q.reg a = p.reg a)
    (hmem : q.mem = p.mem) (hnor : q.nor = p.nor) (hsdl : q.sdl = p.sdl) : p.KeepsCrates plot q := by
  have hhv : q.hv plot = p.hv plot := by unfold Part.hv; rw [hhvs]
  exact ⟨by rw [hhv], by rw [hhv], by rw [hhv], hregs, hmem, hnor, hsdl⟩

theorem Part.KeepsCrates.put (p : Part) (f : Fld) (n : Nat) (hf : f.reg ∉ [R.HVS_P_CRATE_LO plot, R.HVS_P_CRATE_HI plot]) :
    p.KeepsCrates plot (p.put f n) :=
  .of_hvs rfl (fun _ ha => Part.reg_put_other _ _ _ fun h => hf (h ▸ ha)) rfl rfl rfl

theorem Part.KeepsCrates.emit (p : Part) (o : Out) : p.KeepsCrates plot (p.emit o) := .of_hvs rfl (fun _ _ => rfl) rfl rfl rfl

theorem Part.KeepsCrates.modHv (p : Part) (f : HvsPlot → HvsPlot)
    (hf : ∀ u, (f u).closed = u.closed ∧ (f u).staged = u.staged ∧ (f u).cellarOut = u.cellarOut) : p.KeepsCrates plot (p.modHv plot f) := by
  obtain ⟨hclosed, hstaged, hout⟩ := hf (p.hv plot)
  have hhv := p.hv_modHv plot f
  exact ⟨(congrArg HvsPlot.closed hhv).trans hclosed, (congrArg HvsPlot.staged hhv).trans hstaged, (congrArg HvsPlot.cellarOut hhv).trans hout,
    fun _ _ => rfl, rfl, rfl, rfl⟩

theorem Part.KeepsCrates.of_sends {l : List Nat} (h : p.SendsOnly l q) (hl : ∀ a ∈ l, a ∉ [R.HVS_P_CRATE_LO plot, R.HVS_P_CRATE_HI plot]) :
    p.KeepsCrates plot q :=
  .of_hvs (by rw [h.1]) (fun a ha => h.2.2 a fun hin => hl a hin ha) (by rw [h.1]) (by rw [h.1]) h.sdl

end

section
variable (plot : Nat)

/-- Registers of the blocks after Harvest's, and the other registers of a plot's page or ring, are none of CRATE_SEQ. -/
theorem crateSeq_apart {a : Nat} (h : 0x710000 ≤ a ∨ (a % 0x100 ≠ 0xc ∧ a % 0x100 ≠ 0x10)) (hplot : plot < 9) :
    a ∉ [R.HVS_P_CRATE_LO plot, R.HVS_P_CRATE_HI plot] := by
  simp only [List.mem_cons, List.not_mem_nil, or_false, R.HVS_P_CRATE_LO, R.HVS_P_CRATE_HI]
  omega

variable {plot}

theorem Part.KeepsCrates.ringMsi (p : Part) (t : Nat) : p.KeepsCrates plot (p.ringMsi t plot) := by
  unfold Part.ringMsi
  split
  · split
    · refine Part.KeepsCrates.trans ?_ (.modHv _ _ fun u => ⟨rfl, rfl, rfl⟩)
      unfold Part.msi
      extract_lets n
      split
      · exact .emit p _
      · exact .refl plot p
    · exact .modHv p _ fun u => ⟨rfl, rfl, rfl⟩
  · exact .refl plot p

variable (hplot : plot < 9)
include hplot

theorem Part.KeepsCrates.hostLost (p : Part) (n : Nat) : p.KeepsCrates plot (p.hostLost plot n) := by
  unfold Part.hostLost
  refine (Part.KeepsCrates.put p _ _ (crateSeq_apart plot (.inr ?_) hplot)).trans (.put _ _ _ (crateSeq_apart plot (.inl ?_) hplot))
  · show R.HVS_P_HOST_LOST plot % _ ≠ _ ∧ R.HVS_P_HOST_LOST plot % _ ≠ _
    unfold R.HVS_P_HOST_LOST
    omega
  · show _ ≤ R.HR_LOST plot
    unfold R.HR_LOST
    omega

theorem Part.KeepsCrates.ringWrite (p : Part) (t : Nat) (crate : List Byte) : p.KeepsCrates plot (p.ringWrite t plot crate) := by
  unfold Part.ringWrite
  extract_lets prod size used base
  split
  · split
    · exact .hostLost hplot p 1
    · refine (((Part.KeepsCrates.emit p _).trans (.put _ _ _ (crateSeq_apart plot (.inl ?_) hplot))).trans (.emit _ _)).trans (.ringMsi _ t)
      show _ ≤ R.HR_PROD plot
      unfold R.HR_PROD
      omega
  · exact .hostLost hplot p 1

theorem Part.KeepsCrates.udpLost (p : Part) : p.KeepsCrates plot (p.add (F.HVS_P_UDP_LOST_COUNT plot) 1) := by
  refine .put p _ _ (crateSeq_apart plot (.inr ?_) hplot)
  show R.HVS_P_UDP_LOST plot % _ ≠ _ ∧ R.HVS_P_UDP_LOST plot % _ ≠ _
  unfold R.HVS_P_UDP_LOST
  omega

theorem Part.KeepsCrates.cellarLost (p : Part) : p.KeepsCrates plot (p.add (F.HVS_P_CELLAR_LOST_COUNT plot) 1) := by
  refine .put p _ _ (crateSeq_apart plot (.inr ?_) hplot)
  show R.HVS_P_CELLAR_LOST plot % _ ≠ _ ∧ R.HVS_P_CELLAR_LOST plot % _ ≠ _
  unfold R.HVS_P_CELLAR_LOST
  omega

theorem Part.KeepsCrates.udpSend (p : Part) (boot seq : Nat) (crate : List Byte) : p.KeepsCrates plot (p.udpSend plot boot seq crate) := by
  have hstat : (F.HVS_P_STAT_UDP_UNRESOLVED plot).reg ∉ [R.HVS_P_CRATE_LO plot, R.HVS_P_CRATE_HI plot] := by
    refine crateSeq_apart plot (.inr ?_) hplot
    show R.HVS_P_STAT plot % _ ≠ _ ∧ R.HVS_P_STAT plot % _ ≠ _
    unfold R.HVS_P_STAT
    omega
  unfold Part.udpSend
  extract_lets r port lose
  split
  · exact .udpLost hplot p
  · split
    · exact (Part.KeepsCrates.udpLost hplot p).trans (.put _ _ _ hstat)
    · refine (Part.KeepsCrates.put p _ _ hstat).trans (Part.each_rel (.refl plot) .trans _ _ _ fun q k => ?_)
      exact .trans (.of_hvs rfl (fun _ _ => rfl) rfl rfl rfl) (.emit _ _)

theorem Part.KeepsCrates.deliverCrate (p : Part) (t seq : Nat) (crate : List Byte) :
    p.KeepsCrates plot (p.deliverCrate t plot seq crate) := by
  unfold Part.deliverCrate
  extract_lets q1 q2 q3 q4
  have h1 : p.KeepsCrates plot q1 := by
    simp only [q1]
    split
    · exact .ringWrite hplot p t crate
    · exact .refl plot p
  have h2 : q1.KeepsCrates plot q2 := by
    simp only [q2]
    split
    · exact .udpSend hplot q1 _ _ crate
    · exact .refl plot q1
  have h3 : q2.KeepsCrates plot q3 := by
    simp only [q3]
    split
    · exact .cellarLost hplot q2
    · exact .refl plot q2
  have h4 : q3.KeepsCrates plot q4 := by
    simp only [q4]
    split
    · refine .of_sends (.trlSend q3 2 _ plot crate) fun a ha => crateSeq_apart plot (.inl ?_) hplot
      simp only [sendRegs, List.mem_cons, List.not_mem_nil, or_false, R.TRL_RX_DROP, R.TRL_DROP_INFO, R.TRL_S_FCTR_LO, R.TRL_S_FCTR_HI,
        R.KEY_LINK_USED] at ha
      omega
    · exact .refl plot q3
  exact (((h1.trans h2).trans h3).trans h4).trans (.modHv q4 _ fun u => ⟨rfl, rfl, rfl⟩)

end

/-- Without a Cellar Write outstanding a sealed crate is staged last. -/
theorem Part.stage_spec (p : Part) (t seq : Nat) {plot : Nat} (bytes : List Byte) (hplot : plot < 9) (hout : (p.hv plot).cellarOut = none) :
    ((p.stage t plot seq bytes).hv plot).staged.getLast? = some ⟨seq, t, bytes⟩ ∧
    ((p.stage t plot seq bytes).hv plot).closed = (p.hv plot).closed ∧
    (∀ a ∈ [R.HVS_P_CRATE_LO plot, R.HVS_P_CRATE_HI plot], (p.stage t plot seq bytes).reg a = p.reg a) ∧
    (p.stage t plot seq bytes).mem = p.mem ∧ (p.stage t plot seq bytes).nor = p.nor ∧ (p.stage t plot seq bytes).sdl = p.sdl := by
  unfold Part.stage
  extract_lets u old q
  have hfree : ¬ (256 ≤ seq && u.holds (seq - 256)) = true := by simp [u, HvsPlot.holds, hout]
  rw [if_neg hfree]
  have hq : p.KeepsCrates plot q := by
    simp only [q]
    split
    · exact (Part.KeepsCrates.cellarLost hplot p).trans (.modHv _ _ fun v => ⟨rfl, rfl, rfl⟩)
    · exact .refl plot p
  obtain ⟨hclosed, -, -, hregs, hmem, hnor, hsdl⟩ := hq
  clear_value q
  refine ⟨?_, ?_, hregs, hmem, hnor, hsdl⟩
  · rw [Part.hv_modHv]
    exact List.getLast?_concat
  · rw [Part.hv_modHv]
    exact hclosed

/-- A pair of registers written as one number reads it modulo 2^64. -/
theorem Part.get64_put64_mod (p : Part) {a b : Nat} (hab : a ≠ b) (n : Nat) :
    (p.put64 ⟨a, 31, 0⟩ ⟨b, 31, 0⟩ n).get64 ⟨a, 31, 0⟩ ⟨b, 31, 0⟩ = n % 2 ^ 64 := by
  have hlo : (p.put64 ⟨a, 31, 0⟩ ⟨b, 31, 0⟩ n).get ⟨a, 31, 0⟩ = n % 2 ^ 32 :=
    (Part.get_put_reg _ _ _ _ hab).trans (Part.get_put_self p _ n (show 31 < 32 by decide))
  have hhi : (p.put64 ⟨a, 31, 0⟩ ⟨b, 31, 0⟩ n).get ⟨b, 31, 0⟩ = n / 2 ^ 32 % 2 ^ 32 :=
    Part.get_put_self _ _ _ (show 31 < 32 by decide)
  rw [Part.get64, hlo, hhi]
  omega

/-- The oldest closed crate is sealed with the next CRATE_SEQ. -/
theorem completes_crateSealed {plot : Nat} {c : ClosedCrate} {rest : List ClosedCrate} {s : State} (hs : Ready s) (hplot : plot < 9)
    (hlive : s.part.live = true) (hclosed : (s.part.hv plot).closed = c :: rest) (hout : (s.part.hv plot).cellarOut = none) :
    Completes (.crateSealed plot) s (fun t =>
      let seq := s.part.crateSeq plot
      (t.part.hv plot).closed = rest ∧ t.part.crateSeq plot = (seq + 1) % 2 ^ 64 ∧
      (t.part.hv plot).staged.getLast? = some ⟨seq, s.ns, sealCrate plot s.part.boot.bootSeq (s.part.img.epoch plot) seq s.ns c⟩ ∧
      t.part.mem = s.part.mem ∧ t.part.nor = s.part.nor ∧ t.sun = s.sun ∧ t.pending = s.pending) := by
  have he := next_crateSealed plot s hs.1 (by simp [Instr.wf, hplot, hlive, hclosed])
  have hseq : R.HVS_P_CRATE_LO plot ≠ R.HVS_P_CRATE_HI plot := by unfold R.HVS_P_CRATE_LO R.HVS_P_CRATE_HI; omega
  rw [Part.sealNext, hclosed] at he
  simp only at he
  obtain ⟨seq, hseqEq⟩ : ∃ seq, s.part.crateSeq plot = seq := ⟨_, rfl⟩
  obtain ⟨bytes, hbytes⟩ : ∃ b, sealCrate plot s.part.boot.bootSeq (s.part.img.epoch plot) seq s.ns c = b := ⟨_, rfl⟩
  rw [hseqEq, hbytes] at he
  have hlink := Part.SendsOnly.useLink s.part plot c.job (s.part.img.epoch plot)
  obtain ⟨a, ha⟩ : ∃ a, s.part.useLink plot c.job (s.part.img.epoch plot) = a := ⟨_, rfl⟩
  rw [ha] at he hlink
  have hahv : a.hv plot = s.part.hv plot := by unfold Part.hv; rw [hlink.1]
  obtain ⟨b, hb⟩ : ∃ b, a.modHv plot (fun u => { u with closed := rest }) = b := ⟨_, rfl⟩
  have hbhv : b.hv plot = { s.part.hv plot with closed := rest } := by rw [← hb, Part.hv_modHv, hahv]
  have hbrest : b.mem = s.part.mem ∧ b.nor = s.part.nor ∧ b.sdl = s.part.sdl := by rw [← hb, hlink.1]; exact ⟨rfl, rfl, rfl⟩
  rw [hb] at he
  obtain ⟨d, hd⟩ : ∃ d, b.put64 (F.HVS_P_CRATE_LO_SEQ plot) (F.HVS_P_CRATE_HI_SEQ plot) (seq + 1) = d := ⟨_, rfl⟩
  have hdseq : d.crateSeq plot = (seq + 1) % 2 ^ 64 := by
    rw [← hd]
    exact Part.get64_put64_mod b hseq _
  have hdhv : d.hv plot = b.hv plot := by rw [← hd]; rfl
  have hdrest : d.mem = b.mem ∧ d.nor = b.nor ∧ d.sdl = b.sdl := by rw [← hd]; exact ⟨rfl, rfl, rfl⟩
  rw [hd] at he
  have hdout : (d.hv plot).cellarOut = none := by rw [hdhv, hbhv]; exact hout
  have hfree : ¬ (256 ≤ seq && (d.hv plot).holds (seq - 256)) = true := by simp [HvsPlot.holds, hdout]
  rw [if_neg hfree] at he
  obtain ⟨hstaged, hstill, hstageRegs, hstageMem, hstageNor, hstageSdl⟩ := d.stage_spec s.ns seq bytes hplot hdout
  obtain ⟨e, hee⟩ : ∃ e, d.stage s.ns plot seq bytes = e := ⟨_, rfl⟩
  rw [hee] at he hstaged hstill hstageRegs hstageMem hstageNor hstageSdl
  obtain ⟨hkclosed, hkstaged, -, hkregs, hkmem, hknor, hksdl⟩ := Part.KeepsCrates.deliverCrate hplot e s.ns seq bytes
  have hcrate (x : Nat) (hx : x ∈ [R.HVS_P_CRATE_LO plot, R.HVS_P_CRATE_HI plot]) : (e.deliverCrate s.ns plot seq bytes).reg x = d.reg x :=
    (hkregs x hx).trans (hstageRegs x hx)
  have hsealed : (e.deliverCrate s.ns plot seq bytes).crateSeq plot = d.crateSeq plot := by
    have hlo : (e.deliverCrate s.ns plot seq bytes).get (F.HVS_P_CRATE_LO_SEQ plot) = d.get (F.HVS_P_CRATE_LO_SEQ plot) :=
      congrArg (Word.bits · 31 0) (hcrate _ (.head _))
    have hhi : (e.deliverCrate s.ns plot seq bytes).get (F.HVS_P_CRATE_HI_SEQ plot) = d.get (F.HVS_P_CRATE_HI_SEQ plot) :=
      congrArg (Word.bits · 31 0) (hcrate _ (.tail _ (.head _)))
    rw [Part.crateSeq, Part.crateSeq, Part.get64, Part.get64, hlo, hhi]
  refine completes_of_still he ?_ ⟨?_, ?_, ?_, ?_, ?_, rfl, rfl⟩
  · rw [hksdl, hstageSdl, hdrest.2.2, hbrest.2.2]
    exact hs.2
  · rw [hkclosed, hstill, hdhv, hbhv]
  · rw [hsealed, hdseq, hseqEq]
  · rw [hkstaged, hstaged, hseqEq, hbytes]
  · rw [hkmem, hstageMem, hdrest.1, hbrest.1]
  · rw [hknor, hstageNor, hdrest.2.1, hbrest.2.1]

/-! The hold-off of a ring's MSI (R498). -/

/-- One MSI covers the advances of the hold-off. -/
theorem completes_msiHoldoffExpiry {ring : Nat} {s : State} (hs : Ready s) (hring : ring < 9) (hlive : s.part.live = true)
    (hover : s.part.holdoffOver s.ns ring = true) (hirq : s.part.get (F.HR_CTRL_IRQ_EN ring) = 1) (hlink : s.part.get F.PEP_LINK_UP = 1)
    (hgrant : s.part.get F.PEP_LINK_MSI ≠ 0) : Completes (.msiHoldoffExpiry ring) s (fun t => (t.part.hv ring).msiOwed = false ∧
      (t.part.hv ring).msiAfter = s.ns + s.part.get (F.HR_HOLDOFF_US ring) * 1000 ∧
      t.part.out = .msi (ring % s.part.get F.PEP_LINK_MSI) :: s.part.out ∧ (∀ k, k ≠ ring → t.part.hv k = s.part.hv k) ∧
      t = { s with part := { s.part with hvs := t.part.hvs, out := t.part.out } }) := by
  have he := next_msiHoldoffExpiry ring s hs.1 (by simp [Instr.wf, hring, hlive, hover])
  rw [Part.holdoffMsi, if_pos ((s.part.on_iff _).mpr hirq)] at he
  obtain ⟨q, hq⟩ : ∃ q, s.part.modHv ring (fun u => { u with msiOwed := false }) = q := ⟨_, rfl⟩
  have hhv : q.hv ring = { s.part.hv ring with msiOwed := false } := by rw [← hq, Part.hv_modHv]
  have hother (k : Nat) (hk : k ≠ ring) : q.hv k = s.part.hv k := by rw [← hq, Part.hv_modHv_other _ _ hk]
  have hregs (f : Fld) : q.get f = s.part.get f := by rw [← hq]; rfl
  have hrest : q = { s.part with hvs := q.hvs } := by rw [← hq]; rfl
  have hmsi : q.msi ring = q.emit (.msi (ring % s.part.get F.PEP_LINK_MSI)) := by
    unfold Part.msi
    rw [hregs, Part.on, hregs]
    exact if_pos (by simp [hlink, hgrant])
  rw [hq, hmsi] at he
  refine completes_of_still he (show q.sdl.step = 0 by rw [hrest]; exact hs.2) ⟨?_, ?_, ?_, fun k hk => ?_, ?_⟩
  · exact (congrArg HvsPlot.msiOwed (Part.hv_modHv _ _ _)).trans (congrArg HvsPlot.msiOwed hhv)
  · exact congrArg HvsPlot.msiAfter (Part.hv_modHv _ _ _)
  · show _ :: q.out = _
    rw [hrest]
  · exact (Part.hv_modHv_other _ _ hk).trans (hother k hk)
  · rw [hrest]
    rfl

/-- Settles O47: a crate's wait, its register, its sealing, and a ring's hold-off. -/
theorem cratesComplete : Obligations.CratesComplete :=
  ⟨fun _ _ _ hs hplot hlive hopened hover => completes_crateWaitExpiry hs hplot hlive hopened hover,
    fun _ _ us _ hs hplot hw => completes_hvsPWaitWrite us hs hplot hw,
    fun _ _ _ _ hs hplot hlive hclosed hout => completes_crateSealed hs hplot hlive hclosed hout,
    fun _ _ hs hring hlive hover hirq hlink hgrant => completes_msiHoldoffExpiry hs hring hlive hover hirq hlink hgrant⟩

end Sys2Proof.Machine
end

section
/-! SUPPORT. Dormancy, Frost and the wake sources (R600, R601, R604, R605, R654): beds gated, powered and zeroed, what Frost entry leaves of
two registers, placement at the exit. -/

namespace Sys2Proof.Machine

open Sys2Proof.Claim

/-- What relates a part to each step's result relates it to the result of a whole fold. -/
theorem Part.foldl_rel {α : Type} {rel : Part → Part → Prop} (hrefl : ∀ p, rel p p) (htrans : ∀ {p q r}, rel p q → rel q r → rel p r)
    (f : Part → α → Part) (l : List α) (h : ∀ q, ∀ x ∈ l, rel q (f q x)) (p : Part) : rel p (l.foldl f p) := by
  induction l generalizing p with
  | nil => exact hrefl p
  | cons x r ih => exact htrans (h p x (.head _)) (ih (fun q y hy => h q y (.tail _ hy)) (f p x))

theorem mem_bedsOf {mask b : Nat} : b ∈ bedsOf mask ↔ b < 64 ∧ mask.testBit b = true := by simp [bedsOf]

theorem bedsOf_nodup (mask : Nat) : (bedsOf mask).Nodup := List.nodup_range.filter _

/-- A pass that zeroes the first bytes of each of a list of beds. -/
theorem Part.byte_each_zero (f : Part → Nat → Part) (n : Nat) (hf : ∀ q b, (f q b).mem = (q.zero (bedBase b) n).mem) (l : List Nat)
    (p : Part) (a : Nat) :
    (p.each l f).byte a = if ∃ b ∈ l, bedBase b ≤ a ∧ a < bedBase b + n then 0 else p.byte a := by
  unfold Part.each
  induction l generalizing p with
  | nil => simp
  | cons b r ih =>
    have hfirst : (f p b).byte a = if bedBase b ≤ a ∧ a < bedBase b + n then 0 else p.byte a := by
      rw [← Part.byte_zero, Part.byte, hf, Part.byte]
    rw [List.foldl_cons, ih, hfirst]
    by_cases hr : ∃ x ∈ r, bedBase x ≤ a ∧ a < bedBase x + n
    · simp [hr]
    · simp [hr]

/-! Dormancy: the gated beds (R600). -/

theorem bedStatus_inj {b c : Nat} (h : b ≠ c) : R.BED_STATUS b ≠ R.BED_STATUS c := by unfold R.BED_STATUS; omega

theorem bedStatus_ne_power (b : Nat) : R.PWR_STATE ≠ R.BED_STATUS b := by
  show 0x1100000 ≠ _
  unfold R.BED_STATUS
  omega

/-- Gating one bed: its unit starts afresh, and its register shows it. -/
def gateBed (q : Part) (b : Nat) : Part := (q.setBed b (Bed.init b)).set (F.BED_STATUS_GATED b)

theorem gateBed_gated (q : Part) (b : Nat) : (gateBed q b).get (F.BED_STATUS_GATED b) = 1 :=
  Part.get_put_bit _ (R.BED_STATUS b) 1 1 (by decide)

theorem gateBed_gated_other (q : Part) {b c : Nat} (h : c ≠ b) : (gateBed q b).get (F.BED_STATUS_GATED c) = q.get (F.BED_STATUS_GATED c) :=
  Part.get_put_reg _ _ _ 1 (bedStatus_inj h)

theorem gateBed_bed_other (q : Part) {b c : Nat} (h : c ≠ b) : (gateBed q b).bed c = q.bed c :=
  FMap.get_put_other Bed.init q.beds (Bed.init b) h

/-- The idle beds are gated. -/
theorem completes_dormancyGated {s : State} (hs : Ready s) (hlive : s.part.live = true) (hidle : s.part.dormIdle = true) :
    Completes .dormancyGated s (fun t =>
      (∀ b, b < 64 → t.part.get (F.BED_STATUS_GATED b) = (if s.part.pwr.beds.testBit b then 1 else s.part.get (F.BED_STATUS_GATED b))) ∧
      (∀ b, b < 64 → s.part.pwr.beds.testBit b = false → t.part.bed b = s.part.bed b) ∧ t.part.power = 1 ∧
      t.part.pwr = { s.part.pwr with stepDone := true } ∧ t.part.mem = s.part.mem) := by
  have he := next_dormancyGated s hs.1 (by rw [hlive, hidle]; rfl)
  have hpower : s.part.power = 1 := by
    simp only [Part.dormIdle, Bool.and_eq_true, beq_iff_eq] at hidle
    exact hidle.1.1.1
  have hgated := Part.each_at (fun q b => q.get (F.BED_STATUS_GATED b)) gateBed (fun q _ _ h => gateBed_gated_other q h) _
    (bedsOf_nodup s.part.pwr.beds) s.part
  have hbed := Part.each_at Part.bed gateBed (fun q _ _ h => gateBed_bed_other q h) _ (bedsOf_nodup s.part.pwr.beds) s.part
  have hrest : ∃ regs beds, s.part.each (bedsOf s.part.pwr.beds) gateBed = { s.part with regs := regs, beds := beds } :=
    Part.each_rel (rel := fun p q => ∃ regs beds, q = { p with regs := regs, beds := beds }) (fun _ => ⟨_, _, rfl⟩)
      (by rintro p q r ⟨_, _, rfl⟩ ⟨_, _, rfl⟩; exact ⟨_, _, rfl⟩) _ _ _ fun _ _ => ⟨_, _, rfl⟩
  have hstate : (s.part.each (bedsOf s.part.pwr.beds) gateBed).get F.PWR_STATE_STATE = s.part.get F.PWR_STATE_STATE :=
    Part.each_rel (rel := fun p q => q.get F.PWR_STATE_STATE = p.get F.PWR_STATE_STATE) (fun _ => rfl) (fun h k => k.trans h) _ _ _
      fun q b => Part.get_put_reg _ _ _ 1 (bedStatus_ne_power b)
  rw [Part.dormGate] at he
  obtain ⟨q, hq⟩ : ∃ q, s.part.each (bedsOf s.part.pwr.beds) gateBed = q := ⟨_, rfl⟩
  rw [hq] at hgated hbed hrest hstate
  obtain ⟨regs, beds, hrest⟩ := hrest
  have heq : s.part.each (bedsOf s.part.pwr.beds) (fun q b => (q.setBed b (Bed.init b)).set (F.BED_STATUS_GATED b)) = q := hq
  rw [heq] at he
  refine completes_of_still he (by show q.sdl.step = 0; rw [hrest]; exact hs.2) ⟨fun b hb => ?_, fun b hb hmask => ?_, ?_, ?_, ?_⟩
  · obtain ⟨hout, hin⟩ := hgated b
    by_cases hmask : s.part.pwr.beds.testBit b = true
    · obtain ⟨r, -, hr⟩ := hin (mem_bedsOf.mpr ⟨hb, hmask⟩)
      rw [if_pos hmask]
      exact hr.trans (gateBed_gated r b)
    · rw [if_neg hmask]
      exact hout fun h => hmask (mem_bedsOf.mp h).2
  · exact (hbed b).1 fun h => by simp [(mem_bedsOf.mp h).2] at hmask
  · exact hstate.trans hpower
  · show { q.pwr with stepDone := true } = _
    rw [hrest]
  · show q.mem = _
    rw [hrest]

/-- Powering one bed: its store reads zero. -/
def powerBed (q : Part) (b : Nat) : Part := (q.zero (bedBase b) 0x180000).clr (F.BED_STATUS_GATED b)

theorem powerBed_gated (q : Part) (b : Nat) : (powerBed q b).get (F.BED_STATUS_GATED b) = 0 :=
  Part.get_put_bit _ (R.BED_STATUS b) 1 0 (by decide)

theorem powerBed_gated_other (q : Part) {b c : Nat} (h : c ≠ b) : (powerBed q b).get (F.BED_STATUS_GATED c) = q.get (F.BED_STATUS_GATED c) :=
  Part.get_put_reg _ _ _ 0 (bedStatus_inj h)

/-- At the exit of Dormancy the gated beds are powered and zeroed. -/
theorem completes_dormancyExitPowered {s : State} (hs : Ready s) (hlive : s.part.live = true) (hpower : s.part.power = 3)
    (hstep : s.part.pwr.stepDone = false) : Completes .dormancyExitPowered s (fun t =>
      (∀ b i, b < 64 → s.part.pwr.beds.testBit b = true → i < 0x180000 → t.part.byte (bedBase b + i) = 0) ∧
      (∀ a, (∀ b i, b < 64 → s.part.pwr.beds.testBit b = true → i < 0x180000 → a ≠ bedBase b + i) → t.part.byte a = s.part.byte a) ∧
      (∀ b, b < 64 → s.part.pwr.beds.testBit b = true → t.part.get (F.BED_STATUS_GATED b) = 0) ∧
      t.part.get F.PWR_CORES_STOPPED_CORES = 0 ∧ t.part.power = 3 ∧ t.part.nor = s.part.nor) := by
  have he := next_dormancyExitPowered s hs.1 (by simp [hlive, hpower, hstep])
  have hbyte := Part.byte_each_zero powerBed 0x180000 (fun _ _ => rfl) (bedsOf s.part.pwr.beds) s.part
  have hgated := Part.each_at (fun q b => q.get (F.BED_STATUS_GATED b)) powerBed (fun q _ _ h => powerBed_gated_other q h) _
    (bedsOf_nodup s.part.pwr.beds) s.part
  have hrest : ∃ regs mem, s.part.each (bedsOf s.part.pwr.beds) powerBed = { s.part with regs := regs, mem := mem } :=
    Part.each_rel (rel := fun p q => ∃ regs mem, q = { p with regs := regs, mem := mem }) (fun _ => ⟨_, _, rfl⟩)
      (by rintro p q r ⟨_, _, rfl⟩ ⟨_, _, rfl⟩; exact ⟨_, _, rfl⟩) _ _ _ fun _ _ => ⟨_, _, rfl⟩
  have hstate : (s.part.each (bedsOf s.part.pwr.beds) powerBed).get F.PWR_STATE_STATE = s.part.get F.PWR_STATE_STATE :=
    Part.each_rel (rel := fun p q => q.get F.PWR_STATE_STATE = p.get F.PWR_STATE_STATE) (fun _ => rfl) (fun h k => k.trans h) _ _ _
      fun q b => Part.get_put_reg _ _ _ 0 (bedStatus_ne_power b)
  obtain ⟨q, hq⟩ : ∃ q, s.part.each (bedsOf s.part.pwr.beds) powerBed = q := ⟨_, rfl⟩
  rw [hq] at hbyte hgated hrest hstate
  obtain ⟨regs, mem, hrest⟩ := hrest
  obtain ⟨r, hr⟩ : ∃ r, q.put64 F.PWR_DORM_BEDS_LO_BEDS F.PWR_DORM_BEDS_HI_BEDS 0 = r := ⟨_, rfl⟩
  have hregs {a : Nat} (ha : a ∉ [R.PWR_DORM_BEDS_LO, R.PWR_DORM_BEDS_HI]) : r.reg a = q.reg a := by
    rw [← hr]
    exact Part.reg_put64_other q _ _ 0 ha
  have hrest' : r = { q with regs := r.regs } := by rw [← hr]; rfl
  have heff : s.part.dormPower = (r.put F.PWR_CORES_STOPPED_CORES 0).modPwr (fun u => { u with stepDone := true }) := by
    rw [← hr, ← hq]
    rfl
  rw [heff] at he
  have hmem : r.mem = q.mem := by rw [hrest']
  have hbed (b : Nat) : (F.BED_STATUS_GATED b).reg ∉ [R.PWR_DORM_BEDS_LO, R.PWR_DORM_BEDS_HI] ∧
      (F.BED_STATUS_GATED b).reg ≠ R.PWR_CORES_STOPPED := by
    show R.BED_STATUS b ∉ _ ∧ R.BED_STATUS b ≠ _
    simp only [List.mem_cons, List.not_mem_nil, or_false, R.PWR_DORM_BEDS_LO, R.PWR_DORM_BEDS_HI, R.BED_STATUS, R.PWR_CORES_STOPPED]
    omega
  refine completes_of_still he (by show r.sdl.step = 0; rw [hrest', hrest]; exact hs.2)
    ⟨fun b i hb hmask hi => ?_, fun a ha => ?_, fun b hb hmask => ?_, ?_, ?_, ?_⟩
  · show FMap.get memDefault r.mem _ = 0
    rw [hmem]
    exact (hbyte _).trans (if_pos ⟨b, mem_bedsOf.mpr ⟨hb, hmask⟩, Nat.le_add_right _ _, Nat.add_lt_add_left hi _⟩)
  · show FMap.get memDefault r.mem _ = _
    rw [hmem]
    refine (hbyte a).trans (if_neg ?_)
    rintro ⟨b, hb, hle, hlt⟩
    obtain ⟨hb, hmask⟩ := mem_bedsOf.mp hb
    exact ha b (a - bedBase b) hb hmask (by omega) (by omega)
  · obtain ⟨x, -, hx⟩ := (hgated b).2 (mem_bedsOf.mpr ⟨hb, hmask⟩)
    refine (Part.get_put_reg r F.PWR_CORES_STOPPED_CORES (F.BED_STATUS_GATED b) 0 (hbed b).2).trans ?_
    rw [Part.get, hregs (hbed b).1]
    exact hx.trans (powerBed_gated x b)
  · exact Part.get_put_self r F.PWR_CORES_STOPPED_CORES 0 (by decide)
  · refine (Part.get_put_reg r _ F.PWR_STATE_STATE 0 (by decide)).trans ?_
    rw [Part.get, hregs (by decide)]
    exact hstate.trans hpower
  · show r.nor = _
    rw [hrest', hrest]

/-! Frost entry (R601): PEP_LINK is reset, and none of the later steps writes it. -/

section
variable (p : Part) (t : Nat)

theorem Part.BlockOnly.of_within {b : Nat} {l : List Nat} {p q : Part} (h : p.RegsWithin l q) (hl : ∀ a ∈ l, a / 0x100000 = b) :
    p.BlockOnly b q :=
  fun a ha => h a fun hin => ha (hl a hin)

theorem chargeRegs_block {a : Nat} (h : a ∈ chargeRegs) : a / 0x100000 = 6 := by
  obtain rfl | rfl | ⟨k, hk, rfl⟩ : a = R.DMC_NBR_COUNT ∨ a = R.DMC_RFM_COUNT ∨ ∃ k, k < 9 ∧ R.DMC_RES_SERVED k = a := by
    simpa [chargeRegs] using h
  · rfl
  · rfl
  · unfold R.DMC_RES_SERVED
    omega

theorem channel_of_dmcAllRanks {x : Nat × Nat} (h : x ∈ p.dmcAllRanks) : x.1 < 4 := by
  obtain ⟨c, hc, r, -, rfl⟩ : ∃ c, c < 4 ∧ ∃ r, r < p.dmcRanks ∧ (c, r) = x := by simpa [Part.dmcAllRanks] using h
  exact hc

theorem Part.BlockOnly.refreshAll : p.BlockOnly 6 p.refreshAll := by
  refine Part.foldl_rel (.refl (b := 6)) .trans _ _ (fun q x hx => ?_) p
  have hch := channel_of_dmcAllRanks p hx
  extract_lets n
  split
  · exact .refl q
  · refine (Part.BlockOnly.put q _ 0 ?_).trans fun a _ => Part.refresh_reg _ _ _ n a
    rw [owedFld_reg, R.DMC_REF_OWED]
    omega

theorem Part.BlockOnly.dmcSleep : p.BlockOnly 6 (p.dmcSleep t) :=
  (((Part.DmcOnly.issueRewrites p t).block fun _ => chargeRegs_block).trans (.refreshAll _)).trans
    ((Part.BlockOnly.of_regs (p := (p.issueRewrites t).refreshAll) rfl).trans (.put _ _ 1 rfl))

theorem Part.BlockOnly.linkLost {k : Nat} (hk : k < 2) : p.BlockOnly 8 (p.linkLost k) := by
  refine .of_within (p.linkLost_spec k).1.2.2 fun a ha => ?_
  simp only [lostRegs, List.mem_cons, List.not_mem_nil, or_false, R.TRL_LOST, R.TRL_RX_DROP, R.TRL_DROP_INFO, R.TRL_P_STAT, R.TRL_P_CREDIT] at ha
  omega

theorem Part.BlockOnly.armWake : p.BlockOnly 17 (p.armWake t) := by
  unfold Part.armWake
  extract_lets r meter gpio due q1 q2
  have h : p.BlockOnly 17 q2 := (Part.BlockOnly.of_regs (q := q1) rfl).trans
    ((Part.BlockOnly.put q1 F.PWR_WAKE_EN_METER _ rfl).trans (.put _ F.PWR_WAKE_EN_GPIO gpio rfl))
  clear_value q2 due
  split
  · exact h.trans (.put q2 F.PWR_WAKE_EN_ALARM 0 rfl)
  · exact h.trans (((Part.BlockOnly.put q2 F.PWR_ALARM_LO_TS _ rfl).trans (.put _ F.PWR_ALARM_HI_TS _ rfl)).trans (.put _ F.PWR_WAKE_EN_ALARM 1 rfl))

theorem Part.BlockOnly.lockLost : p.BlockOnly 1 (p.lockLost t) := by
  by_cases h : p.get F.SDL_STATUS_LOCKED = 1
  · obtain ⟨u, heq, -⟩ := Part.lockLost_locked t h
    rw [heq]
    refine .of_within (Part.RegsWithin.lockFallen p t) fun a ha => ?_
    obtain rfl | rfl : a = R.SDL_STATUS ∨ a = R.SDL_EVENTS := by simpa using ha
    · rfl
    · rfl
  · have hoff : p.lockLost t = p.clr F.SDL_STATUS_LOCKED := if_neg fun hon => h ((p.on_iff _).mp hon)
    rw [hoff]
    exact .put p F.SDL_STATUS_LOCKED 0 rfl

theorem Part.frostModels_regs : p.frostModels.regs = p.regs := by
  unfold Part.frostModels
  refine Part.each_rel (rel := fun p q => q.regs = p.regs) (fun _ => rfl) (fun h k => k.trans h) _ _ _ fun q m => ?_
  extract_lets u q1
  split
  · rfl
  · split
    · rfl
    · rfl

/-- A reset of the endpoint's link register shows no link. -/
theorem Part.resetRegs_linkUp (sel : Nat → Bool) (h : sel R.PEP_LINK = true) : (p.resetRegs sel).get F.PEP_LINK_UP = 0 := by
  have hreg : (p.resetRegs sel).reg R.PEP_LINK = regReset R.PEP_LINK :=
    (FMap.get_only regReset (fun a => !sel a) p.regs R.PEP_LINK).trans (if_neg (by simp [h]))
  show Word.bits ((p.resetRegs sel).reg R.PEP_LINK) 0 0 = 0
  rw [hreg]
  decide

/-- The steps of Frost entry after that reset leave PEP_LINK. -/
theorem Part.frostRest_pepLink : (((((p.linkLost 0).linkLost 1).frostModels.dmcSleep t).armWake t).lockLost t).reg R.PEP_LINK = p.reg R.PEP_LINK := by
  rw [Part.BlockOnly.lockLost _ t R.PEP_LINK (by decide), Part.BlockOnly.armWake _ t R.PEP_LINK (by decide),
    Part.BlockOnly.dmcSleep _ t R.PEP_LINK (by decide), Part.reg, Part.frostModels_regs, ← Part.reg,
    Part.BlockOnly.linkLost _ (by decide) R.PEP_LINK (by decide), Part.BlockOnly.linkLost _ (by decide) R.PEP_LINK (by decide)]

/-- After Frost entry the units are off, the Sundial runs on REFCLK, and the endpoint's link is down. -/
theorem Part.frostEnter_spec : (p.frostEnter t).pwr.frozen = true ∧ (p.frostEnter t).get F.SDL_STATUS_SRC = 1 ∧
    (p.frostEnter t).get F.PEP_LINK_UP = 0 := by
  unfold Part.frostEnter
  extract_lets q1 q2 q3 q4 q5
  have hreset := q3.resetRegs_linkUp (fun a => inBlock 14 a || a == R.PEP_LINK) (by decide)
  obtain ⟨r, hr⟩ : ∃ r, q3.resetRegs (fun a => inBlock 14 a || a == R.PEP_LINK) = r := ⟨_, rfl⟩
  have h4 : q4 = (r.linkLost 0).linkLost 1 := by rw [← hr]; rfl
  have h5 : (q5.lockLost t).reg R.PEP_LINK = r.reg R.PEP_LINK := by
    simp only [q5]
    rw [h4]
    exact r.frostRest_pepLink t
  rw [hr] at hreset
  clear_value q5
  refine ⟨rfl, Part.get_put_self (q5.lockLost t) F.SDL_STATUS_SRC 1 (by decide), ?_⟩
  refine (Part.get_put_reg (q5.lockLost t) F.SDL_STATUS_SRC F.PEP_LINK_UP 1 (by decide)).trans ?_
  show Word.bits ((q5.lockLost t).reg R.PEP_LINK) 0 0 = 0
  rw [h5]
  exact hreset

end

/-- Frost entry goes on to its end; with no source latched it stays there. -/
theorem completes_frostDrainDone {s : State} (hs : Ready s) (hready : s.part.frostReady s.ns = true) :
    exec .frostDrainDone s = .next (s.settle (s.part.frostDone s.ns)) ∧
    (s.part.pwr.latchedWake = 0 → Completes .frostDrainDone s (fun t => t.part.pwr.frozen = true ∧ t.part.get F.SDL_STATUS_SRC = 1 ∧
      t.part.get F.PEP_LINK_UP = 0)) := by
  have he := next_frostDrainDone s hs.1 hready
  refine ⟨he, fun hlatched => ⟨_, he, ?_⟩⟩
  have hdone : s.part.frostDone s.ns = s.part.frostEnter s.ns := by
    have hnone : (List.range 11).find? (fun i => s.part.pwr.latchedWake.testBit i) = none := by simp [hlatched]
    unfold Part.frostDone
    rw [hnone]
  obtain ⟨hfrozen, hsrc, hlink⟩ := s.part.frostEnter_spec s.ns
  rw [hdone]
  refine ⟨?_, ?_, ?_⟩
  · rw [State.settle_pwr]
    exact hfrozen
  · rw [State.settle_get]
    exact hsrc
  · rw [State.settle_get]
    exact hlink

/-! The wake sources (R604, R605, R654). -/

/-- WAKE_N in Dormancy orders the return to Run. -/
theorem completes_wake_dormancy (rising : Bool) {s : State} (hs : ReadyAon s) (hpower : s.part.power = 1 ∨ s.part.power = 2)
    (hfrozen : s.part.pwr.frozen = false) : Completes (.wakeSourceFire 0 rising) s (fun t =>
      t = { s with part := { s.part with pwr := { s.part.pwr with ordered := 3 } } }) := by
  have he := next_wakeSourceFire 0 rising s hs.1 (by simp [Instr.wf, Part.wakeFires])
  have hwake : s.part.wake s.ns 0 rising = s.part.modPwr (fun u => { u with ordered := 3 }) := by
    have hnot : s.part.power ≠ 4 := by omega
    simp [Part.wake, hfrozen, hnot, hpower]
  rw [hwake] at he
  exact completes_of_still he hs.2 rfl

/-- WAKE_N during Frost entry is latched. -/
theorem completes_wake_entry (rising : Bool) {s : State} (hs : ReadyAon s) (hpower : s.part.power = 4)
    (hfrozen : s.part.pwr.frozen = false) : Completes (.wakeSourceFire 0 rising) s (fun t =>
      t = { s with part := { s.part with pwr := { s.part.pwr with latchedWake := s.part.pwr.latchedWake ||| 1 } } }) := by
  have he := next_wakeSourceFire 0 rising s hs.1 (by simp [Instr.wf, Part.wakeFires])
  have hwake : s.part.wake s.ns 0 rising = s.part.modPwr (fun u => { u with latchedWake := u.latchedWake ||| 1 }) := by
    simp [Part.wake, hfrozen, hpower]
  rw [hwake] at he
  exact completes_of_still he hs.2 rfl

/-! Frost exit: the beds are placed again (R604). -/

/-- `q` is `p` but for memory. -/
def Part.MemOnly (p q : Part) : Prop := q = { p with mem := q.mem }

theorem Part.MemOnly.refl (p : Part) : p.MemOnly p := rfl

theorem Part.MemOnly.trans {p q r : Part} (h : p.MemOnly q) (k : q.MemOnly r) : p.MemOnly r := by
  have hr : r = { q with mem := r.mem } := k
  have hq : q = { p with mem := q.mem } := h
  show r = { p with mem := r.mem }
  rw [hr, hq]

theorem Part.MemOnly.zero (p : Part) (a n : Nat) : p.MemOnly (p.zero a n) := rfl

theorem Part.MemOnly.placeLayer (p : Part) (m i : Nat) (beds : List Nat) (b : Nat) : p.MemOnly (p.placeLayer m i beds b) := by
  unfold Part.placeLayer
  extract_lets k r d base gb woff ix gs put q
  have hput (q : Part) (a : Nat) (l : List Byte) : q.MemOnly (put q a l) := by
    refine Part.foldl_rel .refl .trans _ _ (fun r e _ => ?_) q
    split
    · rfl
    · exact .refl r
  exact (hput p _ _).trans (Part.foldl_rel .refl .trans _ _ (fun r e _ => hput r _ _) q)

theorem Part.MemOnly.placeModel (p : Part) (m : Nat) : p.MemOnly (p.placeModel m) :=
  Part.each_rel .refl .trans _ _ _ fun q i => Part.foldl_rel .refl .trans _ _ (fun r b _ => .placeLayer r m i _ b) q

theorem completes_frostExitReady {s : State} (hs : Ready s) (hready : s.part.exitReady = true) :
    exec .frostExitReady s = .next (s.settle s.part.exitPlace) ∧
    Completes .frostExitReady s (fun t => t.part.pwr = { s.part.pwr with ready := true } ∧ t.part.nor = s.part.nor) := by
  have he := next_frostExitReady s hs.1 hready
  refine ⟨he, ?_⟩
  rw [Part.exitPlace] at he
  obtain ⟨q, hq⟩ : ∃ q, s.part.each (List.range 64) (fun q b => q.zero (bedBase b) 0x180000) = q := ⟨_, rfl⟩
  have hzero : s.part.MemOnly q := by
    rw [← hq]
    exact Part.each_rel .refl .trans _ _ _ fun q b => .zero q _ _
  rw [hq] at he
  obtain ⟨r, hr⟩ : ∃ r, q.each (q.img.models.filter (fun m => q.img.modelResidency m == 0 && (q.model m).state == 6)) Part.placeModel = r :=
    ⟨_, rfl⟩
  have hplaced : s.part.MemOnly r := by
    rw [← hr]
    exact hzero.trans (Part.each_rel .refl .trans _ _ _ .placeModel)
  rw [hr] at he
  refine completes_of_still he (by show r.sdl.step = 0; rw [hplaced]; exact hs.2) ⟨?_, ?_⟩
  · show { r.pwr with ready := true } = _
    rw [hplaced]
  · show r.nor = _
    rw [hplaced]

/-- Settles O57: the steps of Dormancy, of Frost entry and exit, WAKE_N, and the start of the AON oscillator. -/
theorem powerStepsComplete : Obligations.PowerStepsComplete :=
  ⟨fun _ hs hlive hidle => completes_dormancyGated hs hlive hidle,
    fun _ hs hlive hpower hstep => completes_dormancyExitPowered hs hlive hpower hstep,
    fun _ hs hready => completes_frostDrainDone hs hready,
    fun src rising s hs hsrc hfires => next_wakeSourceFire src rising s hs.1 (by simp [Instr.wf, hsrc, hfires]),
    fun rising _ hs hpower hfrozen => completes_wake_dormancy rising hs hpower hfrozen,
    fun rising _ hs hpower hfrozen => completes_wake_entry rising hs hpower hfrozen,
    fun _ hs hready => completes_frostExitReady hs hready,
    fun s hs haon => completes_of_still (next_aonOscillatorRunning s hs.1 (by rw [haon]; rfl)) hs.2 rfl⟩

end Sys2Proof.Machine
end

section
/-! SUPPORT. The Cellar and replay (R505, R508, R511): a run's Write, its completion, an order of replay, and the last crate of one. -/

namespace Sys2Proof.Machine

open Sys2Proof.Claim

/-- Freeing slots changes the NVMe unit alone. -/
theorem Part.nvFree_rest (p : Part) (mine : NvmeCmd → Bool) : ∃ nvme, p.nvFree mine = { p with nvme := nvme } := by
  unfold Part.nvFree
  refine Part.each_rel (rel := fun p q => ∃ nvme, q = { p with nvme := nvme }) (fun p => ⟨p.nvme, rfl⟩)
    (by rintro p q r ⟨_, rfl⟩ ⟨_, rfl⟩; exact ⟨_, rfl⟩) p _ _ fun q s => ?_
  split
  · split
    · exact ⟨_, rfl⟩
    · exact ⟨q.nvme, rfl⟩
  · exact ⟨q.nvme, rfl⟩

/-- A command goes to the lowest free slot. -/
theorem Part.nvIssue_lowest (p : Part) (t : Nat) (c : NvmeCmd) (data : List Byte) {slot : Nat} (hslot : slot < 256) (hfree : p.nvCmd slot = none)
    (hlow : ∀ x, x < slot → p.nvCmd x ≠ none) : p.nvIssue t c data =
      (p.setNvCmd slot (some { c with progressAt := t })).emit (.nvme (nvOpcode c.op) slot (p.nvGen slot) c.nsid c.lba c.blocks data) := by
  have hfind : (List.range 256).find? (fun s => (p.nvCmd s).isNone) = some slot := by
    rw [List.find?_range_eq_some]
    refine ⟨by rw [hfree]; rfl, List.mem_range.mpr hslot, fun x hx => ?_⟩
    simpa [Option.isSome_iff_ne_none] using hlow x hx
  rw [Part.nvIssue, hfind]

theorem Part.nvCmd_setNvCmd (p : Part) (s : Nat) (c : Option NvmeCmd) : (p.setNvCmd s c).nvCmd s = c := FMap.get_put_self _ _ _ _

theorem Part.nvCmd_setNvCmd_other (p : Part) {s x : Nat} (c : Option NvmeCmd) (h : x ≠ s) : (p.setNvCmd s c).nvCmd x = p.nvCmd x :=
  FMap.get_put_other _ _ _ h

/-- A ready run is issued as one Write. -/
theorem completes_cellarWriteIssue {plot slot : Nat} {s : State} (hs : Ready s) (hplot : plot < 9) (hlive : s.part.live = true)
    (hready : s.part.cellarReady plot = true) (hslot : slot < 256) (hfree : s.part.nvCmd slot = none)
    (hlow : ∀ x, x < slot → s.part.nvCmd x ≠ none) : Completes (.cellarWriteIssue plot) s (fun t =>
      let u := s.part.hv plot
      let head := s.part.get (F.HVS_P_CELLAR_HEAD_SLOT plot)
      let n := u.run head
      t.part.hv plot = { u with cellarOut := some (u.curCellar, n, head) } ∧ (∀ k, k ≠ plot → t.part.hv k = s.part.hv k) ∧
      (∃ c, t.part.nvCmd slot = some c ∧ c.op = 2 ∧ c.plot = plot ∧ c.a = u.curCellar ∧ c.b = n ∧
        c.lba = (s.part.cellarRing plot).2.1 + head * s.part.crateLbas plot ∧ c.blocks = n * s.part.crateLbas plot) ∧
      (∀ x, x ≠ slot → t.part.nvCmd x = s.part.nvCmd x) ∧
      t = { s with part := { s.part with hvs := t.part.hvs, nvme := t.part.nvme, out := t.part.out } }) := by
  have he := next_cellarWriteIssue plot s hs.1 (by simp [Instr.wf, hplot, hlive, hready])
  rw [Part.cellarWrite] at he
  obtain ⟨head, hhead⟩ : ∃ h, s.part.get (F.HVS_P_CELLAR_HEAD_SLOT plot) = h := ⟨_, rfl⟩
  obtain ⟨n, hn⟩ : ∃ n, (s.part.hv plot).run head = n := ⟨_, rfl⟩
  simp only [hhead, hn] at he ⊢
  obtain ⟨q, hq⟩ : ∃ q, s.part.modHv plot (fun v => { v with cellarOut := some (v.curCellar, n, head) }) = q := ⟨_, rfl⟩
  have hhv : q.hv plot = { s.part.hv plot with cellarOut := some ((s.part.hv plot).curCellar, n, head) } := by
    rw [← hq, Part.hv_modHv]
  have hother (k : Nat) (hk : k ≠ plot) : q.hv k = s.part.hv k := by rw [← hq, Part.hv_modHv_other _ _ hk]
  have hcmd (x : Nat) : q.nvCmd x = s.part.nvCmd x := by rw [← hq]; rfl
  have hrest : q = { s.part with hvs := q.hvs } := by rw [← hq]; rfl
  simp only [hq] at he
  rw [q.nvIssue_lowest s.ns _ _ hslot ((hcmd slot).trans hfree) fun x hx => by rw [hcmd]; exact hlow x hx] at he
  refine completes_of_still he (show q.sdl.step = 0 by rw [hrest]; exact hs.2) ⟨hhv, hother, ?_, fun x hx => ?_, ?_⟩
  · exact ⟨_, q.nvCmd_setNvCmd slot _, rfl, rfl, rfl, rfl, rfl, rfl⟩
  · exact (q.nvCmd_setNvCmd_other _ hx).trans (hcmd x)
  · rw [hrest]
    rfl

/-- The Write's completion makes its crates durable. -/
theorem completes_cellarWriteComplete {plot first n slot : Nat} {s : State} (hs : Ready s) (hplot : plot < 9) (hlive : s.part.live = true)
    (hbusy : s.part.cellarBusy plot = true) (hout : (s.part.hv plot).cellarOut = some (first, n, slot)) :
    Completes (.cellarWriteComplete plot) s (fun t =>
      (t.part.hv plot).cellarOut = none ∧ (t.part.hv plot).curCellar = max (s.part.hv plot).curCellar (first + n) ∧
      t.part.get (F.HVS_P_CELLAR_HEAD_SLOT plot) = (slot + n) % max 1 (s.part.hv plot).ringSlots % 2 ^ 32 ∧
      t.part.get F.PRP_CMDS_COUNT = (s.part.get F.PRP_CMDS_COUNT + 1) % 2 ^ 32 ∧
      (∀ a, a ≠ R.HVS_P_CELLAR_HEAD plot → a ≠ R.PRP_CMDS → t.part.reg a = s.part.reg a) ∧
      (∀ k, k ≠ plot → t.part.hv k = s.part.hv k) ∧ t.part.mem = s.part.mem) := by
  have he := next_cellarWriteComplete plot s hs.1 (by simp [Instr.wf, hplot, hlive, hbusy])
  have hne : R.HVS_P_CELLAR_HEAD plot ≠ R.PRP_CMDS := by unfold R.HVS_P_CELLAR_HEAD R.PRP_CMDS; omega
  rw [Part.cellarDone, hout] at he
  simp only at he
  obtain ⟨keys, hkeys⟩ : ∃ k, (List.range n).foldl (fun m i => FMap.put (fun _ => none) m (slot + i) (some (s.part.boot.bootSeq, first + i)))
    (s.part.hv plot).cellarKeys = k := ⟨_, rfl⟩
  obtain ⟨q, hq⟩ : ∃ q, s.part.modHv plot (fun u => { u with
    cellarOut := none, curCellar := max u.curCellar (first + n),
    cellarKeys := (List.range n).foldl (fun m i => FMap.put (fun _ => none) m (slot + i) (some (s.part.boot.bootSeq, first + i))) u.cellarKeys }) = q :=
    ⟨_, rfl⟩
  have hhv : q.hv plot = { s.part.hv plot with cellarOut := none, curCellar := max (s.part.hv plot).curCellar (first + n), cellarKeys := keys } := by
    rw [← hq, Part.hv_modHv, hkeys]
  have hother (k : Nat) (hk : k ≠ plot) : q.hv k = s.part.hv k := by rw [← hq, Part.hv_modHv_other _ _ hk]
  have hrest : q = { s.part with hvs := q.hvs } := by rw [← hq]; rfl
  have hregs (a : Nat) : q.reg a = s.part.reg a := by rw [hrest]; rfl
  rw [hq] at he
  obtain ⟨nvme, hfree⟩ := (q.put (F.HVS_P_CELLAR_HEAD_SLOT plot) ((slot + n) % (max 1 (s.part.hv plot).ringSlots))).nvFree_rest
    (fun c => c.op == 2 && c.plot == plot)
  rw [hfree] at he
  refine completes_of_still he (show q.sdl.step = 0 by rw [hrest]; exact hs.2) ⟨?_, ?_, ?_, ?_, fun a ha hb => ?_, hother, ?_⟩
  · exact congrArg HvsPlot.cellarOut hhv
  · exact congrArg HvsPlot.curCellar hhv
  · refine (Part.get_put_reg _ F.PRP_CMDS_COUNT (F.HVS_P_CELLAR_HEAD_SLOT plot) _ hne).trans ?_
    exact Part.get_put_self q (F.HVS_P_CELLAR_HEAD_SLOT plot) _ (by show 31 < 32; decide)
  · have hkept : (q.put (F.HVS_P_CELLAR_HEAD_SLOT plot) ((slot + n) % (max 1 (s.part.hv plot).ringSlots))).get F.PRP_CMDS_COUNT =
        s.part.get F.PRP_CMDS_COUNT := (Part.get_put_reg q _ _ _ hne.symm).trans (congrArg (Word.bits · 31 0) (hregs _))
    refine (Part.get_put_self _ F.PRP_CMDS_COUNT _ (by decide)).trans ?_
    exact congrArg (fun x => (x + 1) % 2 ^ 32) hkept
  · exact ((Part.reg_put_other _ F.PRP_CMDS_COUNT _ hb).trans (Part.reg_put_other q (F.HVS_P_CELLAR_HEAD_SLOT plot) _ ha)).trans (hregs a)
  · show q.mem = _
    rw [hrest]

/-! An order of replay (R508, R511). -/

theorem regAt_hvsReplayCtrl {plot : Nat} (h : plot < 9) : ∃ l, regAt (R.HVS_P_REPLAY_CTRL plot) = some (⟨0x34, 9, 0x100, 1, 0, l⟩, plot, 0) := by
  match plot, h with
  | 0, _ | 1, _ | 2, _ | 3, _ | 4, _ | 5, _ | 6, _ | 7, _ | 8, _ => exact ⟨_, rfl⟩

theorem regAt_hrReplayCtrl {ring : Nat} (h : ring < 9) : ∃ l, regAt (R.HR_REPLAY_CTRL ring) = some (⟨0x10030, 9, 0x1000, 1, 0, l⟩, ring, 0) := by
  match ring, h with
  | 0, _ | 1, _ | 2, _ | 3, _ | 4, _ | 5, _ | 6, _ | 7, _ | 8, _ => exact ⟨_, rfl⟩

/-- GO alone starts the replay. -/
theorem Part.writeOut_hvsReplayCtrl (p : Part) (t i : Nat) : p.writeOut t (R.HVS_P_REPLAY_CTRL 0) i 1 = some (p.replayGo t i true) := rfl

theorem Part.writeOut_hrReplayCtrl (p : Part) (t i : Nat) : p.writeOut t (R.HR_REPLAY_CTRL 0) i 1 = some (p.replayGo t i false) := rfl

section
variable {plot : Nat} (hplot : plot < 9) {s : State} {w : Who}
include hplot

/-- Plot 0 firmware, or the plot itself, orders a replay by UDP. -/
theorem Part.writeOf_hvsReplayCtrl (hw : Reaches s w plot) :
    s.part.writeOf s.ns w (R.HVS_P_REPLAY_CTRL plot) 1 = s.part.replayGo s.ns plot true := by
  obtain ⟨hkind, -, howner⟩ := hw
  obtain ⟨l, hrow⟩ := regAt_hvsReplayCtrl hplot
  have hblk : R.HVS_P_REPLAY_CTRL plot / 0x100000 = 7 := by unfold R.HVS_P_REPLAY_CTRL; omega
  have hoff : R.HVS_P_REPLAY_CTRL plot % 0x100000 = 0x34 + plot * 0x100 := by unfold R.HVS_P_REPLAY_CTRL; omega
  have halign : R.HVS_P_REPLAY_CTRL plot % 4 = 0 := by unfold R.HVS_P_REPLAY_CTRL; omega
  have hcopy : copyOf (R.HVS_P_REPLAY_CTRL plot) = R.HVS_P_REPLAY_CTRL plot := if_neg (by omega)
  have hring : isHostRing (R.HVS_P_REPLAY_CTRL plot) = false := by
    have hbelow : ¬ 0x710000 ≤ R.HVS_P_REPLAY_CTRL plot := by omega
    simp [isHostRing, hbelow]
  rw [← s.part.regStore_out (w := w) (ctx := 0) hblk (.inl rfl) hring hrow rfl (s.part.writeOut_hvsReplayCtrl s.ns plot)]
  by_cases hp : w.plot = 0
  · exact s.part.writeOf_firmware s.ns 1 hkind hp (by omega) halign (by rw [implemented, hcopy, hrow]; rfl) hcopy
  · have hp' : w.plot.val ≠ 0 := fun h0 => hp (Fin.ext h0)
    refine s.part.writeOf_page s.ns 1 hkind hp' (by omega) (by omega) halign hcopy ?_
    have hself : 7 * 0x100000 + (0x34 + plot * 0x100) = R.HVS_P_REPLAY_CTRL plot := by omega
    have hindex : (0x34 + plot * 0x100) / 0x100 = plot := by omega
    have hin : 0x34 + plot * 0x100 < 0x900 := by omega
    rw [Part.pageAt, hblk, hoff, howner.resolve_left hp]
    simp only [hself, hindex, hin, slotHit, hrow]
    simp

/-- The host, or plot 0 firmware, orders a replay of a ring that is READY. -/
theorem Part.writeOf_hrReplayCtrl (hw : w.plot = 0) (hring : s.part.get (F.HR_STAT_READY plot) = 1) :
    s.part.writeOf s.ns w (R.HR_REPLAY_CTRL plot) 1 = s.part.replayGo s.ns plot false := by
  obtain ⟨l, hrow⟩ := regAt_hrReplayCtrl hplot
  have hlow : 0x710000 + plot * 0x1000 ≤ R.HR_REPLAY_CTRL plot ∧ R.HR_REPLAY_CTRL plot < 0x710000 + plot * 0x1000 + 0x1000 := by
    unfold R.HR_REPLAY_CTRL
    omega
  have halign : R.HR_REPLAY_CTRL plot % 4 = 0 := by unfold R.HR_REPLAY_CTRL; omega
  have hcopy : copyOf (R.HR_REPLAY_CTRL plot) = R.HR_REPLAY_CTRL plot := if_neg (by omega)
  have himp : implemented (R.HR_REPLAY_CTRL plot) = true := by rw [implemented, hcopy, hrow]; rfl
  have hstore : s.part.regStore s.ns w 0 (R.HR_REPLAY_CTRL plot) 1 = s.part.replayGo s.ns plot false := by
    rw [s.part.regStore_ring s.ns w 0 1 hplot hlow.1 hlow.2 hrow, if_pos ((s.part.on_iff _).mpr hring)]
    rw [show 0x700000 + 0x10030 = R.HR_REPLAY_CTRL 0 from rfl, Part.writeOut_hrReplayCtrl, Option.getD_some]
  rw [← hstore]
  by_cases hkind : w.kind = .host
  · obtain rfl : w = hostWho := by
      cases w
      simp only at hkind hw
      rw [hkind, hw]
      rfl
    exact s.part.writeOf_ring s.ns 1 (by omega) (by omega) halign himp hcopy
  · exact s.part.writeOf_firmware s.ns 1 hkind hw (by omega) halign himp hcopy

theorem next_replayGo_order (udp : Bool) (hs : Ready s)
    (hw : if udp then Reaches s w plot else s.part.issues w = true ∧ w.plot = 0 ∧ s.part.get (F.HR_STAT_READY plot) = 1) :
    exec (.replayGo w plot udp) s = .next (s.settle (s.part.replayGo s.ns plot udp)) := by
  cases udp with
  | true =>
    have hw : Reaches s w plot := hw
    rw [next_replayGo w plot true s hs.1 (by simp [Instr.wf, hplot, hw.2.1]), if_pos rfl, Part.writeOf_hvsReplayCtrl hplot hw]
  | false =>
    obtain ⟨hissues, hzero, hring⟩ : s.part.issues w = true ∧ w.plot = 0 ∧ s.part.get (F.HR_STAT_READY plot) = 1 := hw
    rw [next_replayGo w plot false s hs.1 (by simp [Instr.wf, hplot, hissues]), if_neg (by decide), Part.writeOf_hrReplayCtrl hplot hzero hring]

end

/-- While one runs, without a ring, or for a withered plot, an order of replay does nothing. -/
theorem Part.replayGo_idle {p : Part} (t : Nat) {plot : Nat} {udp : Bool}
    (h : p.on (replayRegs plot udp).busy = true ∨ (p.hv plot).ringSlots = 0 ∨ p.get (F.PLT_STATE_STATE plot) = 3) :
    p.replayGo t plot udp = p := by
  unfold Part.replayGo
  refine if_pos ?_
  simpa [or_assoc] using h

/-! The last crate of a replay. -/

theorem HvsPlot.replay_setReplay (u : HvsPlot) (udp : Bool) (r : Option Replay) : (u.setReplay udp r).replay udp = r := by
  cases udp
  · rfl
  · rfl

theorem Part.replayBusy_clr (p : Part) (plot : Nat) (udp : Bool) : (p.clr (replayRegs plot udp).busy).on (replayRegs plot udp).busy = false := by
  have hoff : (p.clr (replayRegs plot udp).busy).get (replayRegs plot udp).busy = 0 := by
    cases udp
    · exact Part.get_put_bit p (R.HR_REPLAY_CTRL plot) 1 0 (by decide)
    · exact Part.get_put_bit p (R.HVS_P_REPLAY_CTRL plot) 1 0 (by decide)
  rw [Part.on, hoff]
  rfl

theorem completes_replayCrateRead_last {plot : Nat} {udp : Bool} {crate : List Byte} {r : Replay} {s : State} (hs : Ready s) (hplot : plot < 9)
    (he : exec (.replayCrateRead plot udp crate) s = .next (s.settle (s.part.replayCrate s.ns plot udp crate)))
    (hr : (s.part.hv plot).replay udp = some r) (hlast : (r.slot + 1) % max 1 (s.part.hv plot).ringSlots = r.stop) :
    Completes (.replayCrateRead plot udp crate) s (fun t => (t.part.hv plot).replay udp = none ∧
      t.part.on (replayRegs plot udp).busy = false ∧ t.part.mem = s.part.mem ∧ t.part.nor = s.part.nor) := by
  unfold Part.replayCrate at he
  rw [hr] at he
  simp only [hlast, if_true] at he
  obtain ⟨nvme, hfree⟩ := s.part.nvFree_rest (fun c => c.op == 3 && c.plot == plot && c.a == r.slot && c.b == (if udp then 1 else 0))
  rw [hfree] at he
  obtain ⟨q, hq⟩ : ∃ q, ({ s.part with nvme := nvme } : Part).add F.PRP_CMDS_COUNT 1 = q := ⟨_, rfl⟩
  have hrest : q.mem = s.part.mem ∧ q.nor = s.part.nor ∧ q.sdl = s.part.sdl := by rw [← hq]; exact ⟨rfl, rfl, rfl⟩
  rw [hq] at he
  obtain ⟨key, hkey⟩ : ∃ k, (FMap.get (fun _ => none) (s.part.hv plot).cellarKeys r.slot).getD (0, 0) = k := ⟨_, rfl⟩
  rw [hkey] at he
  obtain ⟨d, hd⟩ : ∃ d, (if udp = true then q.udpSend plot key.1 key.2 crate else q.ringWrite s.ns plot crate) = d := ⟨_, rfl⟩
  have hsent : q.KeepsCrates plot d := by
    rw [← hd]
    split
    · exact .udpSend hplot q _ _ crate
    · exact .ringWrite hplot q s.ns crate
  obtain ⟨-, -, -, -, hmem, hnor, hsdl⟩ := hsent
  rw [hd] at he
  refine completes_of_still he ?_ ⟨?_, Part.replayBusy_clr _ plot udp, hmem.trans hrest.1, hnor.trans hrest.2.1⟩
  · show d.sdl.step = 0
    rw [hsdl, hrest.2.2]
    exact hs.2
  · show ((d.modHv plot (fun u => u.setReplay udp none)).hv plot).replay udp = none
    rw [Part.hv_modHv, HvsPlot.replay_setReplay]

/-- Settles O49: a Cellar Write and its completion, the orders of replay, and the crates that a replay reads. -/
theorem cellarAndReplay : Obligations.CellarAndReplay :=
  ⟨fun _ _ _ hs hplot hlive hready hslot hfree hlow => completes_cellarWriteIssue hs hplot hlive hready hslot hfree hlow,
    fun _ _ _ _ _ hs hplot hlive hbusy hout => completes_cellarWriteComplete hs hplot hlive hbusy hout,
    fun _ _ udp s hs hplot hw => by
      have he := next_replayGo_order hplot udp hs hw
      refine ⟨he, fun hidle => ?_⟩
      rw [s.part.replayGo_idle s.ns hidle] at he
      exact completes_of_still he hs.2 rfl,
    fun plot udp crate s hs hplot hlive hlen hsome => by
      have he := next_replayCrateRead plot udp crate s hs.1 (by simp [Instr.wf, hplot, hlive, hlen, hsome])
      exact ⟨he, fun _ hr hlast => completes_replayCrateRead_last hs hplot he hr hlast⟩⟩

end Sys2Proof.Machine
end

section
/-! SUPPORT. Metering (R547, R557, R565, R566, R567): the hour's record, the first sample, and the hold outputs. -/

namespace Sys2Proof.Machine

open Sys2Proof.Claim

/-! The hour's record (R567). -/

/-- With Harvest running, plot 0 forms. -/
theorem Part.canForm_of_mtrForms {p : Part} (h : p.mtrForms = true) : p.canForm 0 = true := by
  have hphase : p.boot.phase = .running := by
    simp only [Part.mtrForms, Part.live, Bool.and_eq_true, beq_iff_eq] at h
    exact h.1.1
  simp [Part.canForm, hphase]

/-- A record that is formed takes the plot's next SEQ. -/
theorem Part.form_seq {p : Part} (t : Nat) {plot : Nat} (c : JobCtx) (mk : Nat → List Byte) (h : p.canForm plot = true) :
    (p.form t plot c mk).get (F.HVS_P_SEQ_SEQ plot) = (p.get (F.HVS_P_SEQ_SEQ plot) + 1) % 2 ^ 32 := by
  unfold Part.form
  rw [if_pos h]
  extract_lets seq bytes q0 q1 q2
  have h2 : q2.get (F.HVS_P_SEQ_SEQ plot) = (p.get (F.HVS_P_SEQ_SEQ plot) + 1) % 2 ^ 32 :=
    Part.get_put_self p (F.HVS_P_SEQ_SEQ plot) _ (by show 31 < 32; decide)
  clear_value q2
  split
  · split
    · exact (congrArg (Word.bits · 31 0) (Part.closeCrate_reg q2 plot 0 _)).trans h2
    · exact h2
  · exact h2

/-- No crate of the plot is open once it is closed. -/
theorem Part.closeCrate_opened (p : Part) (plot cause : Nat) : ((p.closeCrate plot cause).hv plot).opened = none := by
  unfold Part.closeCrate
  split
  · assumption
  · exact congrArg HvsPlot.opened (FMap.get_put_self _ _ _ _)

/-- At a whole hour the energy record is formed and its crate closed, or the hour is only noted. -/
theorem completes_hourBoundary {s : State} (hs : Ready s) (hup : s.part.shedUp = true) (hdue : s.part.sdl.lastHour < s.ns / 3600000000000) :
    Completes .hourBoundary s (fun t => t.part.sdl = { s.part.sdl with lastHour := s.ns / 3600000000000 } ∧ t.part.mtr = s.part.mtr ∧
      t.part.mem = s.part.mem ∧ (∀ a, a / 0x100000 ≠ 7 → t.part.reg a = s.part.reg a) ∧
      ((s.part.metering && s.part.mtrForms) = false → t.part.hvs = s.part.hvs ∧ t.part.regs = s.part.regs) ∧
      ((s.part.metering && s.part.mtrForms) = true → (t.part.hv 0).opened = none ∧
        t.part.get (F.HVS_P_SEQ_SEQ 0) = (s.part.get (F.HVS_P_SEQ_SEQ 0) + 1) % 2 ^ 32)) := by
  have he := next_hourBoundary s hs.1 (by simp [Part.hourDue, hup, hdue])
  rw [Part.hourRecord] at he
  by_cases hforms : (s.part.metering && s.part.mtrForms) = true
  · rw [if_pos hforms, Part.energyRecord] at he
    have hcan := Part.canForm_of_mtrForms (Bool.and_eq_true_iff.mp hforms).2
    obtain ⟨q, hq⟩ : ∃ q, s.part.modSdl (fun u => { u with lastHour := s.ns / 3600000000000 }) = q := ⟨_, rfl⟩
    have hrest : q = { s.part with sdl := { s.part.sdl with lastHour := s.ns / 3600000000000 } } := by rw [← hq]; rfl
    have hcanq : q.canForm 0 = true := by rw [hrest]; exact hcan
    rw [hq] at he
    obtain ⟨mk, hmk⟩ : ∃ mk : Nat → List Byte, (fun seq => recShort 4 0 seq q.noTime (s.ns / 3600000000000 * 3600000000000 : Nat) ++
      List.replicate 12 0 ++ toLe 1 1 ++ toLe 1 0 ++ ((List.range 4).map (fun i => toLe 8 (q.mtr.energy.getD i 0 / 3600000))).flatten) = mk :=
      ⟨_, rfl⟩
    rw [hmk] at he
    have hseq := Part.form_seq s.ns (JobCtx.none s.ns) mk hcanq
    have hrecord := (Part.RecordsOnly.form q s.ns 0 (JobCtx.none s.ns) mk (by decide)).trans (.closeCrate _ 0 1)
    obtain ⟨r, hr⟩ : ∃ r, q.form s.ns 0 (JobCtx.none s.ns) mk = r := ⟨_, rfl⟩
    rw [hr] at he hseq hrecord
    refine completes_of_still he ?_ ⟨?_, ?_, ?_, fun a ha => ?_, fun hnot => absurd hforms (by simp [hnot]), fun _ => ⟨r.closeCrate_opened 0 1, ?_⟩⟩
    · rw [hrecord.sdl, hrest]
      exact hs.2
    · rw [hrecord.sdl, hrest]
    · show (r.closeCrate 0 1).mtr = _
      rw [hrecord.1, hrest]
    · exact hrecord.mem.trans (by rw [hrest])
    · exact (hrecord.2 a ha).trans (by rw [hrest]; rfl)
    · refine (congrArg (Word.bits · 31 0) (Part.closeCrate_reg r 0 1 _)).trans (hseq.trans ?_)
      rw [hrest]
      rfl
  · rw [if_neg hforms] at he
    exact completes_of_still he hs.2 ⟨rfl, rfl, rfl, fun _ _ => rfl, fun _ => ⟨rfl, rfl⟩, fun h => absurd h hforms⟩

/-! The first sample (R547). -/

/-- The channels of a sample that clip. -/
def clipMask (codes : List Int) : Nat :=
  (List.range 7).foldl (fun a c =>
    let k := codes.getD c 0
    if k = 0x7FFFFF ∨ k = -0x7FFFFF ∨ k = -0x800000 then a ||| 2 ^ c else a) 0

theorem clipMask_eq_zero {codes : List Int} (h : ∀ c ∈ codes, -0x7FFFFF < c ∧ c < 0x7FFFFF) : clipMask codes = 0 := by
  have hin (c : Nat) : ¬ (codes[c]?.getD 0 = 0x7FFFFF ∨ codes[c]?.getD 0 = -0x7FFFFF ∨ codes[c]?.getD 0 = -0x800000) := by
    have hrange : -0x7FFFFF < codes[c]?.getD 0 ∧ codes[c]?.getD 0 < 0x7FFFFF := by
      cases hx : codes[c]? with
      | none => decide
      | some k => exact h k (List.mem_of_getElem? hx)
    omega
  have hkeep (l : List Nat) : l.foldl (fun a c =>
      if codes[c]?.getD 0 = 0x7FFFFF ∨ codes[c]?.getD 0 = -0x7FFFFF ∨ codes[c]?.getD 0 = -0x800000 then a ||| 2 ^ c else a) 0 = 0 := by
    induction l with
    | nil => rfl
    | cons c r ih => rw [List.foldl_cons, if_neg (hin c), ih]
  simpa [clipMask, List.getD_eq_getElem?_getD] using hkeep (List.range 7)

/-- The first sample without a clipped code is only kept. -/
theorem Part.sample_first {p : Part} (t stampAt : Nat) {codes : List Int} (filtered : List Nat) (hcodes : ∀ c ∈ codes, -0x7FFFFF < c ∧ c < 0x7FFFFF)
    (hsamples : p.mtr.samples = []) (hcrosses : p.mtr.crosses = []) :
    (p.sample t stampAt codes filtered).mtr.samples.length = 1 ∧ (p.sample t stampAt codes filtered).mtr.crosses = [] ∧
    p.sample t stampAt codes filtered = { p with mtr := (p.sample t stampAt codes filtered).mtr } := by
  unfold Part.sample
  extract_lets clip x s at_ prev q1 q2 real ok q3
  have hclip : clip = 0 := clipMask_eq_zero hcodes
  have hq2 : q2 = q1 := if_neg (by simp [hclip])
  have hreal : real = none := by simp [real, prev, hsamples]
  have hok : ok = false := by simp [ok, hreal]
  have hq3 : q3.mtr.samples = [s] ∧ q3.mtr.crosses = [] ∧ q3 = { p with mtr := q3.mtr } := by
    simp only [q3, hq2]
    refine ⟨?_, hcrosses, rfl⟩
    show p.mtr.samples ++ [s] = [s]
    rw [hsamples, List.nil_append]
  obtain ⟨hkept, hnone, hrest⟩ := hq3
  clear_value q3 real ok
  subst hreal hok
  simp only [hnone, List.getLast?_nil]
  refine ⟨?_, hnone, ?_⟩
  · simp [Part.trimSamples, Part.modMtr, hnone, hkept]
  · show { q3 with mtr := q3.trimSamples.mtr } = { p with mtr := q3.trimSamples.mtr }
    generalize q3.trimSamples.mtr = m
    rw [hrest]

theorem completes_decimatorSample_first {codes : List Int} {filtered : List Nat} {s : State} (hs : Ready s)
    (hcodes : ∀ c ∈ codes, -0x7FFFFF < c ∧ c < 0x7FFFFF) (hsamples : s.part.mtr.samples = []) (hcrosses : s.part.mtr.crosses = [])
    (he : exec (.decimatorSample codes filtered) s = .next (s.settle (s.part.decimatorSample s.ns codes filtered))) :
    Completes (.decimatorSample codes filtered) s (fun t => t.part.mtr.samples.length = 1 ∧ t.part.mtr.crosses = [] ∧
      t.part.regs = s.part.regs ∧ t.part.mem = s.part.mem ∧ t.sun = s.sun) := by
  rw [Part.decimatorSample] at he
  obtain ⟨p, hp⟩ : ∃ p, (s.part.captured s.ns).2 = p := ⟨_, rfl⟩
  have hrest : p = { s.part with free := p.free } := by rw [← hp]; rfl
  rw [hp] at he
  obtain ⟨hlength, hnone, hsample⟩ := Part.sample_first (p := p) s.ns (s.part.captured s.ns).1 filtered hcodes (by rw [hrest]; exact hsamples)
    (by rw [hrest]; exact hcrosses)
  refine completes_of_still he ?_ ⟨hlength, hnone, ?_, ?_, rfl⟩
  · rw [hsample, hrest]
    exact hs.2
  · show (p.sample _ _ _ _).regs = _
    rw [hsample, hrest]
  · show (p.sample _ _ _ _).mem = _
    rw [hsample, hrest]

/-! The hold outputs (R565, R566). -/

/-- Setting a bit keeps the others of its field. -/
theorem Part.testBit_setBit_of (p : Part) (f : Fld) {i j : Nat} (hf : f.hi < 32) (hj : j < f.hi + 1 - f.lo) (h : (p.get f).testBit j = true) :
    ((p.setBit f i).get f).testBit j = true := by
  rw [Part.setBit, Part.get_put_self p f _ hf, Nat.testBit_mod_two_pow, Nat.testBit_or, h]
  simp [hj]

/-- What an EVENT of metering leaves, formed, queued or lost. -/
theorem Part.mtrEvent_spec (p : Part) (t : Nat) (e : QueuedEvent) :
    (p.mtrEvent t e).mtr.holds = p.mtr.holds ∧ (p.mtrEvent t e).mem = p.mem ∧ (p.mtrEvent t e).sdl = p.sdl ∧
    (∀ a, a / 0x100000 ≠ 7 → a ∉ [R.MTR_QUEUE_LOST, R.MTR_EVENTS] → (p.mtrEvent t e).reg a = p.reg a) ∧
    ((p.get F.MTR_EVENTS_EVT).testBit 4 = true → ((p.mtrEvent t e).get F.MTR_EVENTS_EVT).testBit 4 = true) := by
  unfold Part.mtrEvent
  split
  case isTrue =>
    have h : p.RecordsOnly (p.mtrRecord t e) := (Part.RecordsOnly.form p t 0 _ _ (by decide)).trans (.noteEvent _ 0 _)
    refine ⟨by rw [h.1], h.mem, h.sdl, fun a ha _ => h.2 a ha, fun hbit => ?_⟩
    rw [h.get F.MTR_EVENTS_EVT (by decide)]
    exact hbit
  case isFalse =>
    split
    case isTrue => exact ⟨rfl, rfl, rfl, fun _ _ _ => rfl, id⟩
    case isFalse =>
      have hkept : (p.addSat F.MTR_QUEUE_LOST_COUNT 1).get F.MTR_EVENTS_EVT = p.get F.MTR_EVENTS_EVT := Part.get_put_reg p _ _ _ (by decide)
      refine ⟨rfl, rfl, rfl, fun a _ ha => ?_, fun hbit => Part.testBit_setBit_of _ _ (by decide) (by decide) (by rw [hkept]; exact hbit)⟩
      simp only [List.mem_cons, List.not_mem_nil, or_false, not_or] at ha
      exact (Part.reg_put_other _ F.MTR_EVENTS_EVT _ ha.2).trans (Part.reg_put_other p F.MTR_QUEUE_LOST_COUNT _ ha.1)

theorem holdLevel_reg (o : Nat) : (holdLevel o).reg = R.MTR_STATUS := by
  unfold holdLevel
  split
  · rfl
  · rfl

theorem Part.on_holdLevel_put (p : Part) (o : Nat) (level : Bool) : (p.put (holdLevel o) (if level then 1 else 0)).on (holdLevel o) = level := by
  have hbit : (p.put (holdLevel o) (if level then 1 else 0)).get (holdLevel o) = if level then 1 else 0 := by
    unfold holdLevel
    split
    · exact (Part.get_put_bit p R.MTR_STATUS 3 _ (by decide)).trans (by cases level <;> rfl)
    · exact (Part.get_put_bit p R.MTR_STATUS 4 _ (by decide)).trans (by cases level <;> rfl)
  rw [Part.on, hbit]
  cases level
  · rfl
  · rfl

theorem Part.get_holdLevel_put_other (p : Part) {o : Nat} (ho : o < 2) (n : Nat) : (p.put (holdLevel o) n).get (holdLevel (1 - o)) = p.get (holdLevel (1 - o)) := by
  obtain rfl | rfl : o = 0 ∨ o = 1 := by omega
  · exact Part.get_put_disjoint p _ _ n (.inr (by decide))
  · exact Part.get_put_disjoint p _ _ n (.inl (by decide))

theorem Part.holdOut_setHold (p : Part) (o : Nat) (h : HoldOut) : (p.setHold o h).holdOut o = h := FMap.get_put_self HoldOut.init p.mtr.holds o h

/-- The EVENT of a change of a hold output. -/
def holdEvent (at_ o : Nat) (level : Bool) (rule : Nat) (trigger : Int) : QueuedEvent :=
  { ts := at_, severity := eventSeverity 5, code := 5, rule := rule,
    data := toLe 1 o ++ toLe 1 (if level then 1 else 0) ++ toLe 8 (twos 64 trigger) ++ List.replicate 10 0 }

/-- An output that changes at its ball: its level and state, the count of changes, and EVENTS. -/
theorem Part.holdChange_spec (p : Part) (t at_ : Nat) {o : Nat} (ho : o < 2) (level : Bool) (rule : Nat) (trigger : Int) :
    (p.holdChange t at_ o level rule trigger).on (holdLevel o) = level ∧
    (p.holdChange t at_ o level rule trigger).on (holdLevel (1 - o)) = p.on (holdLevel (1 - o)) ∧
    (p.holdChange t at_ o level rule trigger).holdOut o = { lastAt := some at_, request := none, rule := rule, trigger := trigger } ∧
    (p.holdChange t at_ o level rule trigger).get F.MTR_HOLD_CHANGES_COUNT = (p.get F.MTR_HOLD_CHANGES_COUNT + 1) % 2 ^ 32 ∧
    ((p.holdChange t at_ o level rule trigger).get F.MTR_EVENTS_EVT).testBit 4 = true ∧
    (p.holdChange t at_ o level rule trigger).mem = p.mem ∧ (p.holdChange t at_ o level rule trigger).sdl = p.sdl := by
  have heq : p.holdChange t at_ o level rule trigger =
      ((((p.put (holdLevel o) (if level then 1 else 0)).add F.MTR_HOLD_CHANGES_COUNT 1).setBit F.MTR_EVENTS_EVT 4).setHold o
        { lastAt := some at_, request := none, rule := rule, trigger := trigger }).mtrEvent t (holdEvent at_ o level rule trigger) := rfl
  rw [heq]
  obtain ⟨q1, hq1⟩ : ∃ q, p.put (holdLevel o) (if level then 1 else 0) = q := ⟨_, rfl⟩
  rw [hq1]
  obtain ⟨q3, hq3⟩ : ∃ q, ((q1.add F.MTR_HOLD_CHANGES_COUNT 1).setBit F.MTR_EVENTS_EVT 4).setHold o
    { lastAt := some at_, request := none, rule := rule, trigger := trigger } = q := ⟨_, rfl⟩
  rw [hq3]
  have hreg3 (f : Fld) : q3.get f = ((q1.add F.MTR_HOLD_CHANGES_COUNT 1).setBit F.MTR_EVENTS_EVT 4).get f := by rw [← hq3]; rfl
  have hstatus : ∀ b, (holdLevel b).reg ≠ R.MTR_HOLD_CHANGES ∧ (holdLevel b).reg ≠ R.MTR_EVENTS := by
    intro b
    rw [holdLevel_reg]
    decide
  have hlevel (b : Nat) : q3.get (holdLevel b) = q1.get (holdLevel b) :=
    (hreg3 _).trans ((Part.get_put_reg (q1.add F.MTR_HOLD_CHANGES_COUNT 1) F.MTR_EVENTS_EVT (holdLevel b) _ (hstatus b).2).trans
      (Part.get_put_reg q1 F.MTR_HOLD_CHANGES_COUNT (holdLevel b) _ (hstatus b).1))
  have hcount : q1.get F.MTR_HOLD_CHANGES_COUNT = p.get F.MTR_HOLD_CHANGES_COUNT := by
    rw [← hq1]
    exact Part.get_put_reg p _ _ _ (hstatus o).1.symm
  have hchanges : q3.get F.MTR_HOLD_CHANGES_COUNT = (p.get F.MTR_HOLD_CHANGES_COUNT + 1) % 2 ^ 32 := by
    rw [hreg3, ← hcount]
    exact (Part.get_put_reg (q1.add F.MTR_HOLD_CHANGES_COUNT 1) F.MTR_EVENTS_EVT F.MTR_HOLD_CHANGES_COUNT _ (by decide)).trans
      (Part.get_put_self q1 F.MTR_HOLD_CHANGES_COUNT _ (by decide))
  have hevents : (q3.get F.MTR_EVENTS_EVT).testBit 4 = true := by
    rw [hreg3]
    exact Part.testBit_setBit (q1.add F.MTR_HOLD_CHANGES_COUNT 1) F.MTR_EVENTS_EVT (by decide) (by decide)
  have hhold : q3.holdOut o = { lastAt := some at_, request := none, rule := rule, trigger := trigger } := by
    rw [← hq3]
    exact Part.holdOut_setHold _ o _
  have hrest : q3.mem = p.mem ∧ q3.sdl = p.sdl := by
    rw [← hq3, ← hq1]
    exact ⟨rfl, rfl⟩
  obtain ⟨hholds, hmem, hsdl, hregs, hbit⟩ := q3.mtrEvent_spec t (holdEvent at_ o level rule trigger)
  have hget (b : Nat) : (q3.mtrEvent t (holdEvent at_ o level rule trigger)).get (holdLevel b) = q1.get (holdLevel b) := by
    rw [Part.get, hregs _ (by rw [holdLevel_reg]; decide) (by rw [holdLevel_reg]; decide)]
    exact hlevel b
  refine ⟨?_, ?_, ?_, ?_, hbit hevents, hmem.trans hrest.1, hsdl.trans hrest.2⟩
  · rw [Part.on, hget, ← hq1]
    exact p.on_holdLevel_put o level
  · rw [Part.on, hget, ← hq1]
    exact congrArg (· == 1) (p.get_holdLevel_put_other ho _)
  · rw [Part.holdOut, hholds]
    exact hhold
  · rw [Part.get, hregs _ (by decide) (by decide)]
    exact hchanges

/-- When HOLD_MIN_MS has passed, a pending request is applied or cancelled. -/
theorem completes_holdMinExpiry {o : Nat} {l : Bool} {s : State} (hs : Ready s) (ho : o < 2) (hmetering : s.part.metering = true)
    (hrequest : (s.part.holdOut o).request = some l) (hfree : s.part.holdFree s.ns o = true) :
    (s.part.on (holdLevel o) = l → Completes (.holdMinExpiry o) s (fun t => (t.part.holdOut o).request = none ∧
      t = { s with part := { s.part with mtr := { s.part.mtr with holds := t.part.mtr.holds } } })) ∧
    (s.part.on (holdLevel o) ≠ l → Completes (.holdMinExpiry o) s (fun t => t.part.on (holdLevel o) = l ∧
      t.part.on (holdLevel (1 - o)) = s.part.on (holdLevel (1 - o)) ∧ (t.part.holdOut o).request = none ∧
      (t.part.holdOut o).lastAt = some s.ns ∧
      t.part.get F.MTR_HOLD_CHANGES_COUNT = (s.part.get F.MTR_HOLD_CHANGES_COUNT + 1) % 2 ^ 32 ∧
      (t.part.get F.MTR_EVENTS_EVT).testBit 4 = true ∧ t.part.mem = s.part.mem)) := by
  have he := next_holdMinExpiry o s hs.1 (by simp [Instr.wf, Part.holdDue, ho, hmetering, hrequest, hfree])
  rw [Part.holdExpire, hrequest] at he
  simp only at he
  refine ⟨fun hsame => ?_, fun hother => ?_⟩
  · rw [if_pos hsame] at he
    exact completes_of_still he hs.2 ⟨congrArg HoldOut.request (FMap.get_put_self _ _ _ _), rfl⟩
  · rw [if_neg hother] at he
    obtain ⟨hlevel, hkept, hhold, hchanges, hevents, hmem, hsdl⟩ := s.part.holdChange_spec s.ns s.ns ho l (s.part.holdOut o).rule (s.part.holdOut o).trigger
    refine completes_of_still he ?_ ⟨hlevel, hkept, ?_, ?_, hchanges, hevents, hmem⟩
    · rw [hsdl]
      exact hs.2
    · rw [hhold]
    · rw [hhold]

/-- Settles O22: the hour, the 10-second span, a sample, and the hold outputs. -/
theorem meteringComplete : Obligations.MeteringComplete :=
  ⟨fun _ hs hup hdue => completes_hourBoundary hs hup hdue,
    fun s hs hdue => next_tenSecondBoundary s hs.1 hdue,
    fun codes filtered s hs hmetering hlen hflen => next_decimatorSample codes filtered s hs.1 (by simp [hmetering, hlen, hflen]),
    fun codes filtered s hs hmetering hlen hflen hcodes hsamples hcrosses =>
      completes_decimatorSample_first hs hcodes hsamples hcrosses
        (next_decimatorSample codes filtered s hs.1 (by simp [hmetering, hlen, hflen])),
    fun _ _ _ hs ho hmetering hrequest hfree => completes_holdMinExpiry hs ho hmetering hrequest hfree⟩

end Sys2Proof.Machine
end

section
/-! SUPPORT. The life of an activation (R582, R583, R585, R592): its start, WAIT, EXIT and a trap of a Runner that serves no job. -/

namespace Sys2Proof.Machine

open Sys2Proof.Claim

/-- `q` is `p` but for the application cores, the jobs, the plots' orders, what leaves the Frexia, and the registers listed. -/
def Part.ActOnly (l : List Nat) (p q : Part) : Prop :=
  q = { p with regs := q.regs, apc := q.apc, jobs := q.jobs, plots := q.plots, out := q.out } ∧ p.RegsWithin l q

section
variable {l : List Nat} {p q : Part}

theorem Part.ActOnly.refl (l : List Nat) (p : Part) : p.ActOnly l p := ⟨rfl, .refl l p⟩

theorem Part.ActOnly.trans {r : Part} (h : p.ActOnly l q) (k : q.ActOnly l r) : p.ActOnly l r := ⟨by rw [k.1, h.1], h.2.trans k.2⟩

theorem Part.ActOnly.put (p : Part) (f : Fld) (n : Nat) (hf : f.reg ∈ l) : p.ActOnly l (p.put f n) :=
  ⟨rfl, (Part.RegsWithin.refl l p).put f n hf⟩

theorem Part.ActOnly.setCore (p : Part) (c : Nat) (a : Option Act) : p.ActOnly l (p.setCore c a) := ⟨rfl, fun _ _ => rfl⟩

theorem Part.ActOnly.setRunner (p : Part) (r : Nat) (u : RunnerSt) : p.ActOnly l (p.setRunner r u) := ⟨rfl, fun _ _ => rfl⟩

theorem Part.ActOnly.mono {l' : List Nat} (h : p.ActOnly l q) (hl : l ⊆ l') : p.ActOnly l' q := ⟨h.1, h.2.mono hl⟩

theorem Part.ActOnly.mem (h : p.ActOnly l q) : q.mem = p.mem := by rw [h.1]
theorem Part.ActOnly.sdl (h : p.ActOnly l q) : q.sdl = p.sdl := by rw [h.1]

end

/-! The cores and the Runners of the unit. -/

theorem Part.core_setCore (p : Part) (c : Nat) (a : Option Act) : (p.setCore c a).core c = a :=
  FMap.get_put_self (fun _ => none) p.apc.cores c a

theorem Part.runner_setRunner (p : Part) (r : Nat) (u : RunnerSt) : (p.setRunner r u).runner r = u :=
  FMap.get_put_self RunnerSt.init p.apc.runners r u

theorem Part.core_of_cores {p q : Part} (h : q.apc.cores = p.apc.cores) (c : Nat) : q.core c = p.core c := by
  unfold Part.core
  rw [h]

theorem Part.runner_of_runners {p q : Part} (h : q.apc.runners = p.apc.runners) (r : Nat) : q.runner r = p.runner r := by
  unfold Part.runner
  rw [h]

/-- A core's register follows what runs on it. -/
theorem Part.coreStat_spec (p : Part) (c : Nat) :
    p.InRegs [R.APC_CORE_STAT c] (p.coreStat c) ∧ (p.coreStat c).get (F.APC_CORE_STAT_BUSY c) = (p.core c).isSome.toNat := by
  have hput (n m k b : Nat) : p.InRegs [R.APC_CORE_STAT c]
      ((((p.put (F.APC_CORE_STAT_PLOT c) n).put (F.APC_CORE_STAT_RUNNER c) m).put (F.APC_CORE_STAT_RT c) k).put (F.APC_CORE_STAT_BUSY c) b) := by
    have hplot := (Part.InRegs.refl [R.APC_CORE_STAT c] p).put (F.APC_CORE_STAT_PLOT c) n (.head _)
    have hrunner := hplot.put (F.APC_CORE_STAT_RUNNER c) m (.head _)
    exact (hrunner.put (F.APC_CORE_STAT_RT c) k (.head _)).put (F.APC_CORE_STAT_BUSY c) b (.head _)
  unfold Part.coreStat
  cases p.core c with
  | none => exact ⟨hput 0 0 0 0, Part.get_put_bit _ (R.APC_CORE_STAT c) 11 0 (by decide)⟩
  | some a => exact ⟨hput _ _ _ 1, Part.get_put_bit _ (R.APC_CORE_STAT c) 11 1 (by decide)⟩

/-- A Runner that becomes ready keeps its mask and what is pending; the cores and the latched words stay. -/
theorem Part.tryActivate_spec (p : Part) (r : Nat) :
    p.ActOnly [] (p.tryActivate r) ∧ (p.tryActivate r).regs = p.regs ∧ ((p.tryActivate r).runner r).mask = (p.runner r).mask ∧
    ((p.tryActivate r).runner r).pend = (p.runner r).pend ∧ (p.tryActivate r).apc.cores = p.apc.cores ∧
    (p.tryActivate r).apc.latched = p.apc.latched := by
  unfold Part.tryActivate
  extract_lets u job c
  split
  · have hrunner : ((p.modRunner r (fun v => { v with waiting := false })).modJobs (fun j => { j with ready := j.ready ++ [c] })).runner r =
        { p.runner r with waiting := false } := p.runner_setRunner r _
    exact ⟨⟨rfl, fun _ _ => rfl⟩, rfl, by rw [hrunner], by rw [hrunner], rfl, rfl⟩
  · exact ⟨.refl [] p, rfl, rfl, rfl, rfl, rfl⟩

/-- The end of a Runner's command that serves no job frees its core. -/
theorem Part.actEnd_runner {p : Part} {c : Nat} {a : Act} (t : Nat) (hcore : p.core c = some a) (htask : a.cmd.task = .runner a.runner)
    (hjob : a.cmd.job = none) : p.actEnd t c = (p.setCore c none).coreStat c := by
  rw [Part.actEnd, hcore]
  simp only [Part.cmdEnd, htask, hjob, Option.bind_none]

/-- A fault of a command without a job stands last in the list. -/
theorem Part.actFault_jobless {p : Part} {c : Nat} {a : Act} (cause : Nat) (hcore : p.core c = some a) (hjob : a.cmd.job = none) :
    p.actFault c cause = { p with jobs := { p.jobs with faults := p.jobs.faults ++ [⟨none, a.cmd.plot, cause, a.cmd.seq.getD 0⟩] } } := by
  rw [Part.actFault, hcore]
  simp [Part.raiseFault, hjob, Part.modJobs]

/-- A Runner without queued jobs ends: two registers, its own state, its ready command, and at most an order of its plot. -/
theorem Part.runnerEnd_jobless {p : Part} {r : Nat} (hjobs : (p.runner r).jobs = []) : ∃ (u : RunnerSt) (jobs : JobUnit) (plots : FMap PlotUnit),
    u.live = false ∧ p.runnerEnd r =
      { ((p.put (F.APC_RUN_STAT_STATE r) 3).addSat (F.APC_RUN_ENDS_COUNT r) 1).setRunner r u with jobs := jobs, plots := plots } := by
  obtain ⟨q, hq⟩ : ∃ q, (p.put (F.APC_RUN_STAT_STATE r) 3).addSat (F.APC_RUN_ENDS_COUNT r) 1 = q := ⟨_, rfl⟩
  unfold Part.runnerEnd
  rw [hjobs, hq]
  extract_lets k jobs q1 q2 again q3 q4
  split
  · exact ⟨_, _, _, rfl, rfl⟩
  · exact ⟨_, _, _, rfl, rfl⟩

theorem Part.runnerEnd_spec {p : Part} {r : Nat} (hjobs : (p.runner r).jobs = []) :
    p.ActOnly [R.APC_RUN_STAT r, R.APC_RUN_ENDS r] (p.runnerEnd r) ∧ (p.runnerEnd r).get (F.APC_RUN_STAT_STATE r) = 3 ∧
    (p.runnerEnd r).get (F.APC_RUN_ENDS_COUNT r) = min (p.get (F.APC_RUN_ENDS_COUNT r) + 1) 65535 ∧
    ((p.runnerEnd r).runner r).live = false ∧ (p.runnerEnd r).apc.cores = p.apc.cores := by
  have hne : R.APC_RUN_STAT r ≠ R.APC_RUN_ENDS r := by unfold R.APC_RUN_STAT R.APC_RUN_ENDS; omega
  obtain ⟨u, jobs, plots, hlive, heq⟩ := Part.runnerEnd_jobless hjobs
  have hstate : ((p.put (F.APC_RUN_STAT_STATE r) 3).addSat (F.APC_RUN_ENDS_COUNT r) 1).get (F.APC_RUN_STAT_STATE r) = 3 :=
    (Part.get_put_reg (p.put (F.APC_RUN_STAT_STATE r) 3) (F.APC_RUN_ENDS_COUNT r) (F.APC_RUN_STAT_STATE r) _ hne).trans
      (Part.get_put_self p (F.APC_RUN_STAT_STATE r) 3 (by show 1 < 32; decide))
  have hends : ((p.put (F.APC_RUN_STAT_STATE r) 3).addSat (F.APC_RUN_ENDS_COUNT r) 1).get (F.APC_RUN_ENDS_COUNT r) =
      min (p.get (F.APC_RUN_ENDS_COUNT r) + 1) 65535 := by
    rw [← Part.get_put_reg p (F.APC_RUN_STAT_STATE r) (F.APC_RUN_ENDS_COUNT r) 3 hne.symm]
    exact Part.get_addSat16 (p.put (F.APC_RUN_STAT_STATE r) 3) (R.APC_RUN_ENDS r) 1
  have hput : p.ActOnly [R.APC_RUN_STAT r, R.APC_RUN_ENDS r] ((p.put (F.APC_RUN_STAT_STATE r) 3).addSat (F.APC_RUN_ENDS_COUNT r) 1) :=
    (Part.ActOnly.put p (F.APC_RUN_STAT_STATE r) 3 (.head _)).trans (.put _ (F.APC_RUN_ENDS_COUNT r) _ (.tail _ (.head _)))
  have hcores : ((p.put (F.APC_RUN_STAT_STATE r) 3).addSat (F.APC_RUN_ENDS_COUNT r) 1).apc = p.apc := rfl
  obtain ⟨q, hq⟩ : ∃ q, (p.put (F.APC_RUN_STAT_STATE r) 3).addSat (F.APC_RUN_ENDS_COUNT r) 1 = q := ⟨_, rfl⟩
  rw [hq] at heq hstate hends hput hcores
  rw [heq]
  refine ⟨hput.trans ⟨rfl, fun _ _ => rfl⟩, hstate, hends, ?_, ?_⟩
  · exact (congrArg RunnerSt.live (q.runner_setRunner r u)).trans hlive
  · show q.apc.cores = _
    rw [hcores]

/-! System calls of an activation (R583, R585). -/

section
variable {c : Nat} {a : Act} {s : State} (hs : Ready s) (hc : Calls s c a)
include hs hc

theorem next_wait_call (mask : Nat) : exec (.wait c mask) s = .next (s.settle (s.part.runnerWait s.ns c mask)) :=
  next_wait c mask s hs.1 (Part.calls_wf hc.2.1)

theorem completes_wait_none : Completes (.wait c 0) s (Answered a (-1) 0 [] s) := by
  have he := next_wait_call hs hc 0
  rw [Part.runnerWait, hc.1] at he
  exact completes_of_still he hs.2 ⟨rfl, fun _ _ => rfl, rfl, rfl, rfl, rfl⟩

/-- WAIT ends the activation: the core is free, and the Runner waits with its mask. -/
theorem completes_wait {mask : Nat} (hmask : mask ≠ 0) (hjob : a.cmd.job = none) (hholds : s.part.actHolds c a = false) :
    Completes (.wait c mask) s (fun t =>
      let got := FMap.get (fun _ => 0) s.part.apc.latched a.cmd.plot &&& (if s.part.img.rtRunner a.runner then mask &&& 1 else mask)
      t.part.core c = none ∧ t.part.get (F.APC_RUN_STAT_STATE a.runner) = 1 ∧ (t.part.runner a.runner).mask = mask ∧
      (t.part.runner a.runner).pend = (s.part.runner a.runner).pend ||| got ∧
      FMap.get (fun _ => 0) t.part.apc.latched a.cmd.plot = FMap.get (fun _ => 0) s.part.apc.latched a.cmd.plot - got ∧
      (∀ r, r ∉ [R.APC_CORE_STAT c, R.APC_RUN_STAT a.runner] → t.part.reg r = s.part.reg r) ∧ t.part.mem = s.part.mem) := by
  have he := next_wait_call hs hc mask
  obtain ⟨hcore, -, htask⟩ := hc
  rw [Part.runnerWait, hcore] at he
  simp only [if_neg hmask, hholds, Bool.false_eq_true, if_false] at he
  obtain ⟨got, hgot⟩ : ∃ g, FMap.get (fun _ => 0) s.part.apc.latched a.cmd.plot &&&
    (if s.part.img.rtRunner a.runner then mask &&& 1 else mask) = g := ⟨_, rfl⟩
  simp only [hgot] at he ⊢
  obtain ⟨left, hleft⟩ : ∃ n, FMap.get (fun _ => 0) s.part.apc.latched a.cmd.plot - got = n := ⟨_, rfl⟩
  simp only [hleft] at he ⊢
  obtain ⟨q0, hq0⟩ : ∃ q, s.part.modApc (fun x => { x with latched := FMap.put (fun _ => 0) x.latched a.cmd.plot left }) = q := ⟨_, rfl⟩
  have h0 : s.part.ActOnly [R.APC_CORE_STAT c, R.APC_RUN_STAT a.runner] q0 := by rw [← hq0]; exact ⟨rfl, fun _ _ => rfl⟩
  have hcore0 : q0.core c = some a := by rw [← hq0]; exact hcore
  have hlatched0 : FMap.get (fun _ => 0) q0.apc.latched a.cmd.plot = left := by
    rw [← hq0]
    exact FMap.get_put_self _ _ _ _
  have hrunner0 : q0.runner a.runner = s.part.runner a.runner := by rw [← hq0]; rfl
  rw [hq0, Part.actEnd_runner s.ns hcore0 htask hjob] at he
  obtain ⟨hstat, -⟩ := (q0.setCore c none).coreStat_spec c
  obtain ⟨q1, hq1⟩ : ∃ q, (q0.setCore c none).coreStat c = q := ⟨_, rfl⟩
  rw [hq1] at he hstat
  have h1 : q0.ActOnly [R.APC_CORE_STAT c, R.APC_RUN_STAT a.runner] q1 :=
    (Part.ActOnly.setCore q0 c none).trans ⟨by rw [hstat.1], hstat.2.mono (by simp)⟩
  have hapc1 : q1.apc = (q0.setCore c none).apc := by rw [hstat.1]
  obtain ⟨q3, hq3⟩ : ∃ q, (q1.put (F.APC_RUN_STAT_STATE a.runner) 1).modRunner a.runner
    (fun u => { u with waiting := true, mask := mask, pend := u.pend ||| got }) = q := ⟨_, rfl⟩
  have h3 : q1.ActOnly [R.APC_CORE_STAT c, R.APC_RUN_STAT a.runner] q3 := by
    rw [← hq3]
    exact (Part.ActOnly.put q1 _ 1 (.tail _ (.head _))).trans (.setRunner _ _ _)
  have hstate3 : q3.get (F.APC_RUN_STAT_STATE a.runner) = 1 := by
    rw [← hq3]
    exact Part.get_put_self q1 (F.APC_RUN_STAT_STATE a.runner) 1 (by show 1 < 32; decide)
  have hrunner3 : q3.runner a.runner =
      { s.part.runner a.runner with waiting := true, mask := mask, pend := (s.part.runner a.runner).pend ||| got } := by
    have hrunner1 : q1.runner a.runner = s.part.runner a.runner := (Part.runner_of_runners (by rw [hapc1]; rfl) _).trans hrunner0
    rw [← hq3, ← hrunner1]
    exact Part.runner_setRunner _ _ _
  have hapc3 : q3.apc.cores = q1.apc.cores ∧ q3.apc.latched = q1.apc.latched := by rw [← hq3]; exact ⟨rfl, rfl⟩
  rw [hq3] at he
  obtain ⟨h4, hregs4, hmask4, hpend4, hcores4, hlatched4⟩ := q3.tryActivate_spec a.runner
  have hall := ((h0.trans h1).trans h3).trans (h4.mono (by simp))
  refine completes_of_still he ?_ ⟨?_, ?_, ?_, ?_, ?_, hall.2, hall.mem⟩
  · rw [hall.sdl]
    exact hs.2
  · refine (Part.core_of_cores (p := q0.setCore c none) (hcores4.trans (hapc3.1.trans (by rw [hapc1]))) c).trans ?_
    exact q0.core_setCore c none
  · rw [Part.get, Part.reg, hregs4]
    exact hstate3
  · exact hmask4.trans (congrArg RunnerSt.mask hrunner3)
  · exact hpend4.trans (congrArg RunnerSt.pend hrunner3)
  · show FMap.get (fun _ => 0) (q3.tryActivate a.runner).apc.latched a.cmd.plot = _
    rw [hlatched4, hapc3.2, hapc1]
    exact hlatched0

/-- WAIT with a stake or a reservation held is a job fault. -/
theorem completes_wait_held {mask : Nat} (hmask : mask ≠ 0) (hjob : a.cmd.job = none) (hholds : s.part.actHolds c a = true) :
    Completes (.wait c mask) s (fun t =>
      t.part.jobs.faults = s.part.jobs.faults ++ [⟨none, a.cmd.plot, 10, a.cmd.seq.getD 0⟩] ∧
      t = { s with part := { s.part with jobs := t.part.jobs } }) := by
  have he := next_wait_call hs hc mask
  rw [Part.runnerWait, hc.1] at he
  simp only [if_neg hmask, hholds, if_true] at he
  rw [Part.actFault_jobless 10 hc.1 hjob] at he
  exact completes_of_still he hs.2 ⟨rfl, rfl⟩

theorem next_exit_call {status : Nat} (hstatus : status < 2 ^ 32) :
    exec (.exit c status) s = .next (s.settle (s.part.runnerExit s.ns c status)) := by
  refine next_exit c status s hs.1 ?_
  have hwf := Part.calls_wf hc.2.1
  simp only [Bool.and_eq_true, decide_eq_true_eq] at hwf
  simp only [Instr.wf, hwf, Bool.and_eq_true, decide_eq_true_eq]
  exact ⟨⟨trivial, hstatus⟩, trivial⟩

/-- EXIT ends the Runner with its status. -/
theorem completes_exit {status : Nat} (hstatus : status < 2 ^ 32) (hjob : a.cmd.job = none) (hholds : s.part.actHolds c a = false)
    (hjobs : (s.part.runner a.runner).jobs = []) : Completes (.exit c status) s (fun t =>
      t.part.core c = none ∧ t.part.get (F.APC_RUN_EXIT_STATUS a.runner) = status ∧ t.part.get (F.APC_RUN_STAT_STATE a.runner) = 3 ∧
      t.part.get (F.APC_RUN_ENDS_COUNT a.runner) = min (s.part.get (F.APC_RUN_ENDS_COUNT a.runner) + 1) 65535 ∧
      (t.part.runner a.runner).live = false ∧ t.part.mem = s.part.mem ∧
      ∀ r, r ∉ [R.APC_CORE_STAT c, R.APC_RUN_STAT a.runner, R.APC_RUN_ENDS a.runner, R.APC_RUN_EXIT a.runner] →
        t.part.reg r = s.part.reg r) := by
  have hlt : c < 8 := by
    have hwf := Part.calls_wf hc.2.1
    simp only [Bool.and_eq_true, decide_eq_true_eq] at hwf
    exact hwf.1
  have he := next_exit_call hs hc hstatus
  obtain ⟨hcore, -, htask⟩ := hc
  have hexitReg : R.APC_RUN_EXIT a.runner ∉ [R.APC_CORE_STAT c, R.APC_RUN_STAT a.runner, R.APC_RUN_ENDS a.runner] := by
    simp only [List.mem_cons, List.not_mem_nil, or_false, R.APC_RUN_EXIT, R.APC_CORE_STAT, R.APC_RUN_STAT, R.APC_RUN_ENDS]
    omega
  have hendsReg : R.APC_RUN_ENDS a.runner ∉ [R.APC_CORE_STAT c, R.APC_RUN_EXIT a.runner] := by
    simp only [List.mem_cons, List.not_mem_nil, or_false, R.APC_RUN_EXIT, R.APC_CORE_STAT, R.APC_RUN_ENDS]
    omega
  simp only [List.mem_cons, List.not_mem_nil, or_false, not_or] at hexitReg hendsReg
  rw [Part.runnerExit, hcore] at he
  simp only [hholds, Bool.false_eq_true, if_false] at he
  obtain ⟨q0, hq0⟩ : ∃ q, s.part.put (F.APC_RUN_EXIT_STATUS a.runner) status = q := ⟨_, rfl⟩
  have h0 : s.part.ActOnly [R.APC_CORE_STAT c, R.APC_RUN_STAT a.runner, R.APC_RUN_ENDS a.runner, R.APC_RUN_EXIT a.runner] q0 := by
    rw [← hq0]
    exact .put _ _ _ (by simp [F.APC_RUN_EXIT_STATUS])
  have hapc0 : q0.apc = s.part.apc := by rw [← hq0]; rfl
  have hexit0 : q0.get (F.APC_RUN_EXIT_STATUS a.runner) = status := by
    rw [← hq0]
    exact (Part.get_put_self s.part (F.APC_RUN_EXIT_STATUS a.runner) status (by show 31 < 32; decide)).trans (Nat.mod_eq_of_lt hstatus)
  have hends0 : q0.get (F.APC_RUN_ENDS_COUNT a.runner) = s.part.get (F.APC_RUN_ENDS_COUNT a.runner) := by
    rw [← hq0]
    exact Part.get_put_reg s.part _ _ _ hendsReg.2
  rw [hq0, Part.actEnd_runner s.ns ((Part.core_of_cores (by rw [hapc0]) c).trans hcore) htask hjob] at he
  obtain ⟨hstat, -⟩ := (q0.setCore c none).coreStat_spec c
  obtain ⟨q1, hq1⟩ : ∃ q, (q0.setCore c none).coreStat c = q := ⟨_, rfl⟩
  rw [hq1] at he hstat
  have h1 : q0.ActOnly [R.APC_CORE_STAT c] q1 := (Part.ActOnly.setCore q0 c none).trans ⟨by rw [hstat.1], hstat.2⟩
  have hapc1 : q1.apc = (q0.setCore c none).apc := by rw [hstat.1]
  have hrunner1 : q1.runner a.runner = s.part.runner a.runner := Part.runner_of_runners (by rw [hapc1, ← hapc0]; rfl) _
  obtain ⟨h2, hstate, hends, hlive, hcores⟩ := Part.runnerEnd_spec (p := q1) (r := a.runner) (by rw [hrunner1]; exact hjobs)
  have hall := (h0.trans (h1.mono (by simp))).trans (h2.mono (by simp))
  refine completes_of_still he ?_ ⟨?_, ?_, hstate, ?_, hlive, hall.mem, hall.2⟩
  · rw [hall.sdl]
    exact hs.2
  · refine (Part.core_of_cores (p := q0.setCore c none) (hcores.trans (by rw [hapc1])) c).trans ?_
    exact q0.core_setCore c none
  · refine (h2.2.get (by simpa [F.APC_RUN_EXIT_STATUS] using hexitReg.2)).trans ?_
    exact (h1.2.get (by simpa [F.APC_RUN_EXIT_STATUS] using hexitReg.1)).trans hexit0
  · refine hends.trans (congrArg (fun n => min (n + 1) 65535) ?_)
    exact (h1.2.get (by simpa [F.APC_RUN_ENDS_COUNT] using hendsReg.1)).trans hends0

/-- EXIT with a stake or a reservation held is a job fault. -/
theorem completes_exit_held {status : Nat} (hstatus : status < 2 ^ 32) (hjob : a.cmd.job = none) (hholds : s.part.actHolds c a = true) :
    Completes (.exit c status) s (fun t =>
      t.part.jobs.faults = s.part.jobs.faults ++ [⟨none, a.cmd.plot, 10, a.cmd.seq.getD 0⟩] ∧
      t.part.get (F.APC_RUN_EXIT_STATUS a.runner) = status ∧
      RegsOnly [R.APC_RUN_EXIT a.runner] { s with part := { s.part with jobs := t.part.jobs } } t) := by
  have he := next_exit_call hs hc hstatus
  rw [Part.runnerExit, hc.1] at he
  simp only [hholds, if_true] at he
  rw [Part.actFault_jobless (p := s.part.put (F.APC_RUN_EXIT_STATUS a.runner) status) 10 hc.1 hjob] at he
  refine completes_of_still he hs.2 ⟨rfl, ?_, fun r hr => ?_, rfl⟩
  · exact (Part.get_put_self s.part (F.APC_RUN_EXIT_STATUS a.runner) status (by show 31 < 32; decide)).trans (Nat.mod_eq_of_lt hstatus)
  · exact Part.reg_put_other s.part (F.APC_RUN_EXIT_STATUS a.runner) status (List.ne_of_not_mem_cons hr)

/-- A trap records its sub-cause and is a job fault. -/
theorem completes_runnerTrap {sub : Nat} (hsub : sub < 8) (hjob : a.cmd.job = none) : Completes (.runnerTrap c sub) s (fun t =>
    t.part.get (F.APC_RUN_STAT_SUB a.runner) = sub ∧
    t.part.jobs.faults = s.part.jobs.faults ++ [⟨none, a.cmd.plot, 12, a.cmd.seq.getD 0⟩] ∧
    RegsOnly [R.APC_RUN_STAT a.runner] { s with part := { s.part with jobs := t.part.jobs } } t) := by
  have hwf := Part.calls_wf hc.2.1
  simp only [Bool.and_eq_true, decide_eq_true_eq] at hwf
  have he := next_runnerTrap c sub s hs.1 (by simp [Instr.wf, hwf, show sub < 16 by omega])
  rw [Part.runnerTrap, hc.1] at he
  simp only at he
  rw [Part.actFault_jobless (p := s.part.put (F.APC_RUN_STAT_SUB a.runner) sub) 12 hc.1 hjob] at he
  refine completes_of_still he hs.2 ⟨?_, rfl, fun r hr => ?_, rfl⟩
  · exact (Part.get_put_self s.part (F.APC_RUN_STAT_SUB a.runner) sub (by show 11 < 32; decide)).trans (Nat.mod_eq_of_lt hsub)
  · exact Part.reg_put_other s.part (F.APC_RUN_STAT_SUB a.runner) sub (List.ne_of_not_mem_cons hr)

end

/-! The start of an activation (R582). -/

/-- A command without a job takes at most its sequence number. -/
theorem Part.startCmd_jobless (p : Part) (t : Nat) {c : Cmd} (hjob : c.job = none) :
    (p.startCmd t c).1.task = c.task ∧ ∃ jobs, (p.startCmd t c).2 = { p with jobs := jobs } := by
  unfold Part.startCmd
  split
  · exact ⟨rfl, p.jobs, rfl⟩
  · simp only [hjob, Option.bind_none]
    exact ⟨trivial, _, rfl⟩

theorem canDispatch_core {p : Part} {c : Nat} (h : p.canDispatch 2 c = true) : c < 8 := by
  have h2 : (decide (c < 8) && p.coreReady c && (p.pick (p.jobs.ready.filter (fun x => p.fits x 2 c)) 2).isSome) = true := h
  simp only [Bool.and_eq_true, decide_eq_true_eq] at h2
  exact h2.1.1

/-- What a start leaves of the Runner's registers. -/
theorem Part.activated_spec (q : Part) (r plot : Nat) {c : Nat} (v : RunnerSt) (hc : c < 8) :
    let p := ((((q.setRunner r v).put (F.APC_RUN_STAT_STATE r) 2).put (F.APC_RUN_STAT_PLOT r) plot).put (F.APC_RUN_STAT_CORE r) c).add
      (F.APC_RUN_ACT_COUNT r) 1
    q.ActOnly [R.APC_RUN_STAT r, R.APC_RUN_ACT r] p ∧ p.get (F.APC_RUN_STAT_STATE r) = 2 ∧ p.get (F.APC_RUN_STAT_CORE r) = c ∧
    p.get (F.APC_RUN_ACT_COUNT r) = (q.get (F.APC_RUN_ACT_COUNT r) + 1) % 2 ^ 32 ∧ p.apc.cores = q.apc.cores := by
  have hne : R.APC_RUN_STAT r ≠ R.APC_RUN_ACT r := by unfold R.APC_RUN_STAT R.APC_RUN_ACT; omega
  have hset : q.ActOnly [R.APC_RUN_STAT r, R.APC_RUN_ACT r] (q.setRunner r v) := .setRunner q r v
  have hact : (q.setRunner r v).get (F.APC_RUN_ACT_COUNT r) = q.get (F.APC_RUN_ACT_COUNT r) := rfl
  have hapc : (q.setRunner r v).apc.cores = q.apc.cores := rfl
  obtain ⟨q0, hq0⟩ : ∃ p, q.setRunner r v = p := ⟨_, rfl⟩
  obtain ⟨q1, hq1⟩ : ∃ p, q0.put (F.APC_RUN_STAT_STATE r) 2 = p := ⟨_, rfl⟩
  obtain ⟨q2, hq2⟩ : ∃ p, q1.put (F.APC_RUN_STAT_PLOT r) plot = p := ⟨_, rfl⟩
  obtain ⟨q3, hq3⟩ : ∃ p, q2.put (F.APC_RUN_STAT_CORE r) c = p := ⟨_, rfl⟩
  rw [hq0] at hset hact hapc
  rw [hq0, hq1, hq2, hq3]
  have h1 : q0.ActOnly [R.APC_RUN_STAT r, R.APC_RUN_ACT r] q1 := by rw [← hq1]; exact .put _ _ _ (.head _)
  have h2 : q1.ActOnly [R.APC_RUN_STAT r, R.APC_RUN_ACT r] q2 := by rw [← hq2]; exact .put _ _ _ (.head _)
  have h3 : q2.ActOnly [R.APC_RUN_STAT r, R.APC_RUN_ACT r] q3 := by rw [← hq3]; exact .put _ _ _ (.head _)
  have hstate1 : q1.get (F.APC_RUN_STAT_STATE r) = 2 := by
    rw [← hq1]
    exact Part.get_put_self q0 (F.APC_RUN_STAT_STATE r) 2 (by show 1 < 32; decide)
  have hstate3 : q3.get (F.APC_RUN_STAT_STATE r) = 2 := by
    rw [← hq3, Part.get_put_disjoint q2 _ _ c (.inl (by show 1 < 6; decide)), ← hq2,
      Part.get_put_disjoint q1 _ _ plot (.inl (by show 1 < 2; decide))]
    exact hstate1
  have hcore3 : q3.get (F.APC_RUN_STAT_CORE r) = c := by
    rw [← hq3]
    exact (Part.get_put_self q2 (F.APC_RUN_STAT_CORE r) c (by show 8 < 32; decide)).trans (Nat.mod_eq_of_lt hc)
  have hact3 : q3.get (F.APC_RUN_ACT_COUNT r) = q.get (F.APC_RUN_ACT_COUNT r) := by
    rw [← hact, ← hq3, Part.get_put_reg q2 _ _ c hne.symm, ← hq2, Part.get_put_reg q1 _ _ plot hne.symm, ← hq1,
      Part.get_put_reg q0 _ _ 2 hne.symm]
  have hcores3 : q3.apc = q0.apc := by rw [← hq3, ← hq2, ← hq1]; rfl
  refine ⟨(((hset.trans h1).trans h2).trans h3).trans (.put q3 _ _ (.tail _ (.head _))), ?_, ?_, ?_, ?_⟩
  · exact (Part.get_put_reg q3 (F.APC_RUN_ACT_COUNT r) (F.APC_RUN_STAT_STATE r) _ hne).trans hstate3
  · exact (Part.get_put_reg q3 (F.APC_RUN_ACT_COUNT r) (F.APC_RUN_STAT_CORE r) _ hne).trans hcore3
  · rw [← hact3]
    exact Part.get_put_self q3 (F.APC_RUN_ACT_COUNT r) _ (by show 31 < 32; decide)
  · show q3.apc.cores = _
    rw [hcores3, hapc]

/-- It starts on the core that takes it. -/
theorem completes_activationStart {c r : Nat} {cmd : Cmd} {s : State} (hs : Ready s) (hcan : s.part.canDispatch 2 c = true)
    (hpick : s.part.pick (s.part.jobs.ready.filter (fun x => s.part.fits x 2 c)) 2 = some cmd) (htask : cmd.task = .runner r)
    (hjob : cmd.job = none) (hr : r < 63) : Completes (.activationStart c) s (fun t =>
      (∃ a : Act, t.part.core c = some a ∧ a.cmd.task = .runner r ∧ a.runner = r ∧ a.rt = false ∧ a.startAt = s.ns) ∧
      t.part.get (F.APC_CORE_STAT_BUSY c) = 1 ∧ t.part.get (F.APC_RUN_STAT_STATE r) = 2 ∧ t.part.get (F.APC_RUN_STAT_CORE r) = c ∧
      t.part.get (F.APC_RUN_ACT_COUNT r) = (s.part.get (F.APC_RUN_ACT_COUNT r) + 1) % 2 ^ 32 ∧
      (∀ a, a ∉ [R.APC_CORE_STAT c, R.APC_RUN_STAT r, R.APC_RUN_ACT r] → t.part.reg a = s.part.reg a) ∧ t.part.mem = s.part.mem) := by
  have hc := canDispatch_core hcan
  have he := next_activationStart c s hs.1 (by simp [Instr.wf, hc, hcan])
  have hne : R.APC_CORE_STAT c ≠ R.APC_RUN_STAT r ∧ R.APC_CORE_STAT c ≠ R.APC_RUN_ACT r ∧ R.APC_RUN_STAT r ≠ R.APC_RUN_ACT r := by
    unfold R.APC_CORE_STAT R.APC_RUN_STAT R.APC_RUN_ACT
    omega
  have hrt : s.part.cmdRt cmd = false := by rw [Part.cmdRt, hjob]; rfl
  rw [Part.actStart, hpick] at he
  simp only [htask, hjob, Option.bind_none, hrt, if_neg (show r ≠ 63 by omega), Option.isSome_none, Bool.false_eq_true, if_false] at he
  obtain ⟨hkind, jobs, hstarted⟩ := (s.part.noteTurn cmd).startCmd_jobless s.ns hjob
  obtain ⟨x, hx⟩ : ∃ x, (s.part.noteTurn cmd).startCmd s.ns cmd = x := ⟨_, rfl⟩
  rw [hx] at he hkind hstarted
  obtain ⟨q0, hq0⟩ : ∃ q, x.2.takePlace cmd x.1 c = q := ⟨_, rfl⟩
  have hrest0 : q0 = { s.part with jobs := q0.jobs } := by
    rw [← hq0, Part.takePlace_rest, hstarted, Part.noteTurn_rest]
  obtain ⟨act, hact⟩ : ∃ a : Act, (⟨x.1, r, false, s.ns⟩ : Act) = a := ⟨_, rfl⟩
  rw [hq0, hact] at he
  obtain ⟨hstat, hbusy⟩ := (q0.setCore c (some act)).coreStat_spec c
  rw [q0.core_setCore] at hbusy
  obtain ⟨q1, hq1⟩ : ∃ q, (q0.setCore c (some act)).coreStat c = q := ⟨_, rfl⟩
  rw [hq1] at he hstat hbusy
  have hcore1 : q1.core c = some act := by
    rw [Part.core_of_cores (p := q0.setCore c (some act)) (by rw [hstat.1]) c]
    exact q0.core_setCore c (some act)
  have h0 : s.part.ActOnly [R.APC_CORE_STAT c, R.APC_RUN_STAT r, R.APC_RUN_ACT r] q1 := by
    have hfirst : s.part.ActOnly [R.APC_CORE_STAT c, R.APC_RUN_STAT r, R.APC_RUN_ACT r] q0 := by
      rw [hrest0]
      exact ⟨rfl, fun _ _ => rfl⟩
    exact (hfirst.trans (.setCore q0 c (some act))).trans ⟨by rw [hstat.1], hstat.2.mono (by simp)⟩
  have hact1 : q1.get (F.APC_RUN_ACT_COUNT r) = s.part.get (F.APC_RUN_ACT_COUNT r) := by
    rw [hstat.get fun h => hne.2.1 (List.mem_singleton.mp h).symm, hrest0]
    rfl
  have hstart : ∃ (v : RunnerSt) (p e : Part), ((((q1.setRunner r v).put (F.APC_RUN_STAT_STATE r) 2).put (F.APC_RUN_STAT_PLOT r) cmd.plot).put
      (F.APC_RUN_STAT_CORE r) c).add (F.APC_RUN_ACT_COUNT r) 1 = p ∧ (e = p ∨ ∃ o, e = p.emit o) ∧
      exec (.activationStart c) s = .next (s.settle e) := by
    split at he
    · exact ⟨_, _, _, rfl, .inl rfl, he⟩
    · exact ⟨_, _, _, rfl, .inr ⟨_, rfl⟩, he⟩
  obtain ⟨v, p, e, hp, hemit, he⟩ := hstart
  obtain ⟨hregs, hstate, hcore, hcount, hcores⟩ := q1.activated_spec r cmd.plot v hc
  rw [hp] at hregs hstate hcore hcount hcores
  have hpart : e = { p with out := e.out } := by
    obtain rfl | ⟨o, rfl⟩ := hemit
    · rfl
    · rfl
  rw [hpart] at he
  have hall := h0.trans (hregs.mono (by simp))
  refine completes_of_still he ?_ ⟨⟨act, ?_, ?_, ?_, ?_, ?_⟩, ?_, hstate, hcore, hcount.trans (by rw [hact1]), hall.2, hall.mem⟩
  · show p.sdl.step = 0
    rw [hall.sdl]
    exact hs.2
  · exact (Part.core_of_cores (p := q1) hcores c).trans hcore1
  · rw [← hact]
    exact hkind.trans htask
  · rw [← hact]
  · rw [← hact]
  · rw [← hact]
  · refine (hregs.2.get (f := F.APC_CORE_STAT_BUSY c) ?_).trans hbusy
    simpa [F.APC_CORE_STAT_BUSY] using ⟨hne.1, hne.2.1⟩

/-- Settles O52: the start of an activation, WAIT, EXIT, a trap, and the tracker's step. -/
theorem activationsComplete : Obligations.ActivationsComplete := by
  refine ⟨?start, ?starts, ?wait, ?exit, ?exits, ?trap, ?tracker⟩
  case start => exact fun _ _ _ _ hs hcan hpick htask hjob hr _ => completes_activationStart hs hcan hpick htask hjob hr
  case starts => exact fun c s hs hcan => next_activationStart c s hs.1 (by simp [Instr.wf, canDispatch_core hcan, hcan])
  case wait =>
    intro c mask a s hs hc
    refine ⟨next_wait_call hs hc mask, fun hzero => ?_, completes_wait hs hc, completes_wait_held hs hc⟩
    subst hzero
    exact completes_wait_none hs hc
  case exit =>
    exact fun _ _ _ _ hs hc hstatus hjob => ⟨completes_exit hs hc hstatus hjob, completes_exit_held hs hc hstatus hjob⟩
  case exits => exact fun _ _ _ _ hs hc hstatus => next_exit_call hs hc hstatus
  case trap => exact fun _ _ _ _ hs hc hsub hjob => completes_runnerTrap hs hc hsub hjob
  case tracker =>
    exact fun onBed n s hs hn hlive hhere => next_trackerRun onBed n s hs.1 (by simp [Instr.wf, hn, hlive, hhere])

end Sys2Proof.Machine
end
